-- ==== Sys2Proof/Word.lean ====
section
/-! DEFINITION. The two word types of the host packets and of the parameter map. -/

namespace Sys2Proof

/-- A byte of a packet, a frame or a record (R40). -/
abbrev Byte := BitVec 8

/-- One parameter word (R16: every parameter value is 16 bits wide). -/
abbrev Word := BitVec 16

end Sys2Proof
end

