-- ==== Sys2Proof/Syntax.lean ====
section
/-! DEFINITION. The commands of the block: one constructor of Instr for each row of spec/opcode_table.json, with the operands
that the row's rule gives it, and the operand types. A command is data: what it does is in Sys2Proof/Machine. -/

namespace Sys2Proof

/-- The three host transports (R32), and the path by which the inner command of a FLEET_CMD reaches the command core (R393). -/
inductive Transport where
  | spi | i2c | can | fleet
deriving DecidableEq, Repr

/-- The header of a host command (R40) with the transport that carried it and the cycle of the frame at which the command core
hands it over (R107 and R438 count from that cycle). -/
structure Hdr where
  tr  : Transport
  tag : Nat
  cyc : Nat
deriving DecidableEq, Repr

/-- One entry of PARAM_BASTE or PARAM_WRITE_LIVE (R77): a parameter ID and one word. -/
structure Entry where
  id  : Nat
  val : Word
deriving DecidableEq, Repr

/-- The three timer registers that are written through a shadow (R503). -/
inductive TmrShadow where
  | period | cmpA | cmpB
deriving DecidableEq, Repr

/-- The idle level of the two configuration wires of a partner port in one frame, in mV (R322). -/
structure CfgIn where
  a    : Nat
  b    : Nat
  idle : Bool
deriving DecidableEq, Repr

/-- What one fleet port's receiver has seen in the frame that ended (R366): comma alignment held, the number of code violations. -/
structure FleetIn where
  aligned    : Bool
  violations : Nat
deriving DecidableEq, Repr

/-- The length of a step of a frame (R93): slot, stage, cycles without corrections, single-bit ECC errors corrected in it, and whether an
uncorrectable error struck it. A step that no entry names ends within its limit and is not the longest of its job. -/
structure StepWork where
  slot   : Nat
  stage  : Nat
  cycles : Nat
  ecc    : Nat
  lost   : Bool
deriving DecidableEq, Repr

/-- What a frame takes from outside (R95): for channels 0 to 39 the raw codes of the conversions completed in the frame before, in
order (R119; a channel with no conversion has none), for each phase the sum of its 200 samples (R116), the die temperature in
0.01 degC, VSYS in mV (R460), the wires of the partner ports, the fleet receivers, the level of SAFEn, the levels of
TMRIO0-TMRIO7, and the lengths of job steps (R93). -/
structure FrameIn where
  conv   : List (List Nat)
  phSum  : List Int
  die    : Int
  vsys   : Nat
  cfg    : List CfgIn
  fleet  : List FleetIn
  safen  : Bool
  tmrio  : Nat
  work   : List StepWork
deriving DecidableEq, Repr

/-- What one carrier cycle of a phase takes from outside (R114, R169, R175, R193): the codes of the samples of the cycle in order, with
the index of the first one at or after the carrier peak, and, in constant on-time mode, the sum of the newest samples of the ACTIVE phases
in mA at each sample from the end of the on-time on. -/
structure CycleIn where
  samples : List Int
  peak    : Nat
  sums    : List Int
deriving DecidableEq, Repr

/-- What reaches a timer's prescaler (R499, R510): source events of one kind, the pin and the edge they are of where they are a pin's, and
the levels of TMRIO0 to TMRIO7 with them. -/
structure TickIn where
  events : Nat
  pin    : Nat
  rising : Bool
  levels : Nat
deriving DecidableEq, Repr

/-- An edge on a timer's pin (R510): its core cycle and its direction. -/
structure EdgeIn where
  at_    : Nat
  rising : Bool
deriving DecidableEq, Repr

/-- What ends an output at the peak limit of a phase (R190): the current in mA that passed it, and the count of the cycle at which it did. -/
structure PeakIn where
  current : Int
  count   : Nat
deriving DecidableEq, Repr

/-- What a surge comparator has sensed (R190): cause 1 with the voltage in mV, cause 2 with the slope. -/
structure SurgeIn where
  cause : Nat
  value : Int
deriving DecidableEq, Repr

/-- ID and LEN of a partner frame (R327). -/
structure MsgIn where
  id  : Nat
  len : Nat
deriving DecidableEq, Repr

/-- A fleet marker (R368) with the arrival time of its comma, in steps of 39.0625 ps from cycle 0 of the local frame. -/
structure Marker where
  frame  : Nat
  offset : Nat
  ack    : Nat
  flags  : Nat
  tArr   : Int
deriving DecidableEq, Repr

/-- The header of a fleet frame less its TYPE (R369). -/
structure FHdr where
  route : Nat
  lseq  : Nat
  ver   : Nat
  src   : Nat
  dst   : Nat
deriving DecidableEq, Repr

/-- The instructions of the JTAG port (R556). -/
inductive Jtag where
  | bypass | idcode | sample | extest | clamp | highz
deriving DecidableEq, Repr

/-- The commands, in the order of spec/opcode_table.json. -/
inductive Instr where
  -- TRANSPORTS (R32-R39)
  | spiWriteTransaction (bytes : List Byte) (cyc : Nat)
  | spiReadTransaction (n : Nat)
  | spiOtherDirectionByte (dir : Byte) (bytes : List Byte)
  | i2cWriteTransfer (bytes : List Byte) (cyc : Nat)
  | i2cReadTransfer (n : Nat)
  | canFdSegment (seg : List Byte) (cyc : Nat)
  | canClassicFrame
  | canSegmentGapTimeout
  | canBusOffRecovery
  -- HOST OPCODES (R77); h is the header of R40 with the cycle of hand-over
  | hello (h : Hdr) (minVer : Nat) (maxVer : Nat)
  | getInfo (h : Hdr)
  | paramRead (h : Hdr) (flags : Nat) (ids : List Nat)
  | paramBaste (h : Hdr) (set : Nat) (entries : List Entry)
  | paramStitch (h : Hdr) (set : Nat) (flags : Nat) (frame : Nat)
  | paramStitchLaunch (h : Hdr) (set : Nat) (flags : Nat) (frame : Nat)
  | paramUnpick (h : Hdr) (set : Nat)
  | paramReadBlock (h : Hdr) (first : Nat) (n : Nat) (source : Nat)
  | paramWriteLive (h : Hdr) (entries : List Entry)
  | launchAtStitch (h : Hdr) (scope : Nat) (flags : Nat) (arg : Nat) (frame : Nat)
  | launchAtSnapshot (h : Hdr) (scope : Nat) (flags : Nat) (arg : Nat) (frame : Nat)
  | launchCancel (h : Hdr) (id : Nat)
  | tideRead (h : Hdr)
  | wdServeKeyA (h : Hdr)
  | wdServeKeyB (h : Hdr)
  | wdServeOtherKey (h : Hdr) (key : Nat)
  | wdCheckin (h : Hdr) (task : Nat)
  | eventRead (h : Hdr) (max : Nat)
  | eventAck (h : Hdr) (seq : Nat)
  | resultFetch (h : Hdr) (opc : Nat) (opnum : Nat) (offset : Nat)
  | calRead (h : Hdr) (chan : Nat) (layer : Nat)
  | calAlter (h : Hdr) (chan : Nat) (block : List Byte)
  | calAlterSelvedge (h : Hdr) (rec : List Byte)
  | calMeasure (h : Hdr) (chan : Nat) (log2n : Nat)
  | restoreFactory (h : Hdr) (confirm : Nat)
  | recRead (h : Hdr) (index : Nat)
  | telRead (h : Hdr) (chan : Nat) (window : Nat) (flags : Nat)
  | traceArm (h : Hdr) (trig : Nat) (pre : Nat) (code : Nat) (chmask : Nat)
  | traceRead (h : Hdr) (offset : Nat) (n : Nat)
  | attest (h : Hdr) (nonce : List Byte) (kind : Nat)
  | authChallenge (h : Hdr) (level : Nat)
  | authResponse (h : Hdr) (level : Nat) (keyslot : Nat) (sig : List Byte)
  | fwBegin (h : Hdr) (size : Nat) (version : Nat)
  | fwChunk (h : Hdr) (offset : Nat) (data : List Byte)
  | fwCommit (h : Hdr)
  | phReinstate (h : Hdr) (phase : Nat)
  | ledgerRead (h : Hdr) (phase : Nat)
  | ledgerClearWorn (h : Hdr) (phase : Nat)
  | portCmdSoftReset (h : Hdr) (port : Nat) (arg : Nat)
  | portCmdHardReset (h : Hdr) (port : Nat) (arg : Nat)
  | portCmdRoleSwap (h : Hdr) (port : Nat) (arg : Nat)
  | portCmdRenegotiate (h : Hdr) (port : Nat) (arg : Nat)
  | portCmdCableQuery (h : Hdr) (port : Nat) (arg : Nat)
  | portCmdAuthenticate (h : Hdr) (port : Nat) (arg : Nat)
  | fleetCmd (h : Hdr) (target : Nat) (inner : List Byte)
  | fleetCmdReset (h : Hdr) (inner : List Byte)
  | fleetSnapshot (h : Hdr) (frame : Nat) (scope : Nat)
  | fleetBarrier (h : Hdr) (barrier : Nat) (timeout : Nat)
  | moor (h : Hdr) (confirm : Nat)
  | resetDevice (h : Hdr) (confirm : Nat)
  -- LIVE WRITES WITH A ROW OF THEIR OWN (R70) AND REGISTER READS
  | hostFramingWrite (h : Hdr) (v : Word)
  | mapClearWrite (h : Hdr) (n : Nat) (v : Word)
  | mapSelWrite (h : Hdr) (v : Word)
  | haltReqWrite (h : Hdr) (v : Word)
  | faultForceWrite (h : Hdr) (v : Word)
  | swlinkReqWrite (h : Hdr) (v : Word)
  | holderReqWrite (h : Hdr) (v : Word)
  | lownForceWrite (h : Hdr) (v : Word)
  | storageReqWrite (h : Hdr) (p : Nat) (v : Word)
  | topoffReqWrite (h : Hdr) (p : Nat) (v : Word)
  | captestReqWrite (h : Hdr) (p : Nat) (v : Word)
  | extDemandWrite (h : Hdr) (v : BitVec 32)
  | rstoutForceWrite (h : Hdr) (k : Nat) (v : Word)
  | stepMaxClear (h : Hdr) (j : Nat) (v : Word)
  | keySelWrite (h : Hdr) (v : Word)
  | debugEnWrite (h : Hdr) (v : Word)
  | tmrStartWrite (h : Hdr) (mask : Word)
  | tmrStopWrite (h : Hdr) (mask : Word)
  | tmrStartAtWrite (h : Hdr) (frame : BitVec 64) (mask : Word)
  | tmrCountWrite (h : Hdr) (t : Nat) (v : BitVec 32)
  | tmrShadowWrite (h : Hdr) (t : Nat) (which : TmrShadow) (v : BitVec 32)
  | tmrFifoRead (h : Hdr) (t : Nat)
  | tmrCountRead (h : Hdr) (t : Nat) (capture : Bool)
  -- COMPLETIONS, EXPIRIES AND FLASH WRITES OF OPERATIONS
  | calAlterComplete (opnum : Nat) (ok : Bool)
  | calMeasureComplete (opnum : Nat) (codes : List Int)
  | restoreFactoryComplete (opnum : Nat)
  | attestComplete (opnum : Nat)
  | authResponseComplete (opnum : Nat)
  | authLockoutEnd (tr : Transport)
  | fwBeginComplete (opnum : Nat)
  | fwChunkWritten
  | fwCommitComplete (opnum : Nat) (flashOk : Bool)
  | fwSessionTimeout
  | portCmdComplete (opnum : Nat)
  | fleetCmdComplete (opnum : Nat)
  | fleetCmdMemberTimeout (opnum : Nat) (unit : Nat)
  | fleetSnapshotComplete (opnum : Nat)
  | snapTimeout (opnum : Nat) (unit : Nat)
  | fleetBarrierTimeout (opnum : Nat)
  | resultExpiry (opnum : Nat)
  | simpleOpAbandon (tag : Nat)
  | replyDiscard (tag : Nat)
  | privIdleTimeout (tr : Transport)
  | configFlashWrite
  | keyInstallWrite (ok : Bool)
  -- FRAME AND PIPELINE (R86-R111)
  | frameStart (inp : FrameIn)
  | stepCutOff (j : Nat) (stage : Nat)
  | jobRecovery (j : Nat)
  | commitPoint
  | stitchCheck (set : Nat)
  | stitchApplied (set : Nat)
  | liveWriteEffect
  | launchCheck (id : Nat)
  | launchStitch (id : Nat)
  | launchSnapshot (id : Nat)
  | disciplineLimit
  | freshReadReply (tag : Nat)
  | freshReadDeferred (tag : Nat)
  | slotPressure
  | tsFault (pin : Nat)
  | tsRecovered (pin : Nat)
  -- BREAKWATER, PHASES AND LANES (R158-R198)
  | phasePeakLimit (x : Nat) (peak : PeakIn)
  | bwStop (n : Nat) (volt : Int)
  | linkOvervoltageLimit (vlink : Nat)
  | surge (n : Nat) (sensed : SurgeIn)
  | phaseRetired (x : Nat) (cause : Nat)
  | phaseShedStop (x : Nat) (current : Int)
  | laneQualified (n : Nat)
  | softstartPhasesStart (n : Nat)
  | softstartDone (n : Nat)
  | softstartFailed (n : Nat)
  | laneIdleOff (n : Nat)
  | ratioFault (n : Nat)
  | rampdownDone (n : Nat)
  | retryElapsed (n : Nat)
  | retryBackoffReset (n : Nat)
  -- LOSS MAP, SCHEDULER AND LEDGER (R204-R244)
  | learningWindowClose (n : Nat)
  | shedStep (n : Nat)
  | rotationBegin (n : Nat)
  | shedBlockEnd (n : Nat)
  | probeStart (n : Nat)
  | probeAbandon (n : Nat)
  | probeEnd (n : Nat)
  | lossmapPersist
  | ledgerFlush
  | ledgerRetireWrite (x : Nat)
  | flashWriteLate (which : Nat)
  | ledgerSample
  -- SOURCES, LINK AND SEAMS (R247-R279)
  | sourceQualified (n : Nat)
  | sourceConnectSettled (n : Nat)
  | sourceLoss (n : Nat)
  | dusk (n : Nat)
  | mpptPeriodStep (n : Nat)
  | sweepPoint (n : Nat)
  | sweepRepeat (n : Nat)
  | icsPeriodStep (n : Nat)
  | policyEvaluation
  | electiveSeamBegin
  | holdFail
  | seamSwitchSettled
  | seamRampEnd
  | seamTimeout
  | swlinkClose
  | linklownAssert
  | linklownRelease
  -- PACKS (R284-R314)
  | packAttached (p : Nat)
  | packQualified (p : Nat)
  | packSwitchSettled (p : Nat)
  | prechargeDone (p : Nat)
  | prechargeTimeout (p : Nat)
  | ccDone (p : Nat)
  | chargeTerminated (p : Nat)
  | chargeTimeout (p : Nat)
  | taperEnd (p : Nat)
  | taperNoGrant (p : Nat)
  | restEnd (p : Nat)
  | maintainRecharge (p : Nat)
  | supplyEnter (p : Nat)
  | supplyExit (p : Nat)
  | packRemovalCollapse (p : Nat)
  | packHoldoffEnd (p : Nat)
  | socAnchorOcv (p : Nat)
  | socAnchorFloor (p : Nat)
  | captestFloorReached (p : Nat)
  | captestTimeout (p : Nat)
  -- PARTNER PORTS (R320-R360); p the port, id the message ID, pl the payload
  | portAttach (p : Nat)
  | plugMeasurementDone (p : Nat) (level : Nat)
  | portDetach (p : Nat)
  | dualRoleToggle (p : Nat)
  | plehalAck (p : Nat) (pl : List Byte)
  | plehalSoftReset (p : Nat) (id : Nat)
  | plehalPing (p : Nat) (id : Nat)
  | plehalHello (p : Nat) (id : Nat) (pl : List Byte)
  | plehalAlert (p : Nat) (id : Nat) (pl : List Byte)
  | plehalCaps (p : Nat) (id : Nat) (pl : List Byte)
  | plehalGetCaps (p : Nat) (id : Nat)
  | plehalRequest (p : Nat) (id : Nat) (pl : List Byte)
  | plehalReady (p : Nat) (id : Nat) (pl : List Byte)
  | plehalPackCaps (p : Nat) (id : Nat) (pl : List Byte)
  | plehalPackStatus (p : Nat) (id : Nat) (pl : List Byte)
  | plehalRoleSwap (p : Nat) (id : Nat)
  | plehalSwapOff (p : Nat) (id : Nat)
  | plehalAuthCertGet (p : Nat) (id : Nat) (pl : List Byte)
  | plehalAuthCert (p : Nat) (id : Nat) (pl : List Byte)
  | plehalAuthChallenge (p : Nat) (id : Nat) (pl : List Byte)
  | plehalAuthSign (p : Nat) (id : Nat) (pl : List Byte)
  | plehalUnknownMessage (p : Nat) (typ : Nat) (msg : MsgIn)
  | hardResetMarker (p : Nat)
  | plehalResponseTimeout (p : Nat)
  | plehalTxRetry (p : Nat)
  | helloWaitTimeout (p : Nat)
  | providerVoltageSettled (p : Nat)
  | takerPortSettled (p : Nat)
  | portVoltageLost (p : Nat)
  | negotiationTimeout (p : Nat)
  | keepalivePing (p : Nat)
  | packStatusLate (p : Nat)
  | packStatusLost (p : Nat)
  | swapPortDischarged (p : Nat)
  | swapTimeout (p : Nat)
  | swapWaitRetry (p : Nat)
  | hardResetSpacing (p : Nat)
  | safe0End (p : Nat)
  | partnerAuthTimeout (p : Nat)
  -- FLEET BUS (R364-R402); q the fleet port, f the frame header, pl the payload
  | fleetLinkUp (q : Nat)
  | fleetLinkDown (q : Nat)
  | fleetMarker (q : Nat) (m : Marker)
  | fleetTick (q : Nat) (ack : Nat) (flags : Nat)
  | elivoHello (q : Nat) (f : FHdr) (pl : List Byte)
  | delayReq (q : Nat) (f : FHdr) (pl : List Byte) (t2 : Nat) (t3 : Nat)
  | delayResp (q : Nat) (f : FHdr) (pl : List Byte) (t4 : Nat)
  | announce (q : Nat) (f : FHdr) (pl : List Byte)
  | joinReq (q : Nat) (f : FHdr) (pl : List Byte)
  | joinAck (q : Nat) (f : FHdr) (pl : List Byte)
  | repair (q : Nat) (f : FHdr) (pl : List Byte)
  | fleetAuthCertGet (q : Nat) (f : FHdr) (pl : List Byte)
  | fleetAuthCert (q : Nat) (f : FHdr) (pl : List Byte)
  | fleetAuthChallenge (q : Nat) (f : FHdr) (pl : List Byte)
  | fleetAuthSign (q : Nat) (f : FHdr) (pl : List Byte)
  | fleetLaunch (q : Nat) (f : FHdr) (pl : List Byte)
  | fleetLaunchCancel (q : Nat) (f : FHdr) (pl : List Byte)
  | barrierUp (q : Nat) (f : FHdr) (pl : List Byte)
  | barrierRelease (q : Nat) (f : FHdr) (pl : List Byte)
  | fleetReset (q : Nat) (f : FHdr)
  | fleetCmdFrame (q : Nat) (f : FHdr) (pl : List Byte)
  | cmdReply (q : Nat) (f : FHdr) (pl : List Byte)
  | cmdStatus (q : Nat) (f : FHdr) (pl : List Byte)
  | snapReq (q : Nat) (f : FHdr) (pl : List Byte)
  | snapRecord (q : Nat) (f : FHdr) (pl : List Byte)
  | fleetEvent (q : Nat) (f : FHdr) (pl : List Byte)
  | fleetEventsLost (q : Nat) (f : FHdr) (pl : List Byte)
  | need (q : Nat) (f : FHdr) (pl : List Byte)
  | shares (q : Nat) (f : FHdr) (pl : List Byte)
  | fleetUnknownFrame (q : Nat) (typ : Nat) (f : FHdr) (pl : List Byte)
  | rootElectionTimeout
  | joinReqRetry
  | markersLost
  | islandRejoin
  | electWaitExpiry
  | announcePeriod
  | delayPeriod (t1 : Nat)
  | lseqResend (q : Nat)
  | budgetPeriod
  | sharesEffect
  | fleetAuthRecheck (q : Nat)
  | fleetAuthTimeout (q : Nat)
  | alignedSet
  -- RAILS AND RESETS (R409-R425)
  | railGroupStart
  | railDebouncedChange (n : Nat)
  | railRunning (n : Nat)
  | railFailedUp (n : Nat)
  | railSlowDown (n : Nat)
  | railGroupStop
  | seqTripRestart
  | seqTripIdle
  | minOffElapsed
  | tripCountReset
  | moorEnter
  | rstoutRelease (k : Nat)
  | safePulseEnd
  -- PROTECTION, WATCHDOGS, RECORDS (R432-R470)
  | safenLow
  | safenRelease
  | protPortOvervoltage (chan : Nat)
  | protLinkOvervoltage
  | protStageOvertemp (pin : Nat)
  | protDieOvertemp
  | protectHoldEnd (kind : Nat) (pin : Nat)
  | wdTimeout
  | supervisionWatchdogExpiry
  | coreRestarted
  | clockLoss
  | clockRecovered
  | powerFailTrip
  | powerFailRecordDone
  | powerReturn
  | faultRecordWrite
  | recordAllowanceRefill
  | telWindowClose (w : Nat)
  | traceNowTrigger
  | traceFull
  -- RESET AND BOOT (R5, R9, R487-R489, R555, R560)
  | wakeFromMoored
  | powerOnReset
  | resetnLow
  | resetnRise
  | bootRom
  | bootComplete
  -- TIMERS (R499-R517); at is the core cycle of the action
  | tmrMatchA (t : Nat) (at_ : Nat)
  | tmrMatchB (t : Nat) (at_ : Nat)
  | tmrTurn (t : Nat) (at_ : Nat)
  | tmrCapture (t : Nat) (edge : EdgeIn)
  | tmrNamedStart
  | tmrConvResult (t : Nat) (code : Nat) (cyc : Nat)
  | tmrConvWithdrawn (t : Nat)
  | carrierCycle (x : Nat) (c : CycleIn)
  | timerTick (t : Nat) (inp : TickIn)
  | partnerFrameDiscarded (p : Nat)
  | fleetFrameDiscarded (q : Nat)
  | debuggerHalt
  | debuggerRelease
  | boundaryScanInstruction (ir : Jtag) (cells : List Bool)
  | flashWriterDone
deriving DecidableEq, Repr

end Sys2Proof
end

