-- ==== Sys2Proof/Decode.lean ====
section
/-! DEFINITION. The words of spec/opcode_table.json: none of its rows gives a command any bits, so no word spells a command. -/

namespace Sys2Proof

/-- The command that a word of nbits bits spells by the table's bits: none, since the table gives no row any (its fields are empty). -/
def decodeTableWord (_nbits _w : Nat) : Option Instr := none

end Sys2Proof
end

