-- ==== Sys2Proof/Config.lean ====
section
/-! DEFINITION. What one device fixes and what the spec leaves open: the numbers of R2 that depend on the part, and the free
values. A free value is a constant without a body: nothing can be proved of it but what holds of every value. -/

namespace Sys2Proof.Config

/-- The 32 bytes of a challenge come from the on-chip random source (R480, R357): the byte drawn at each draw count. FREE VALUE. -/
opaque randomByte : Nat → BitVec 8

/-- The nonce of the k-th ECDSA signature the signing engine makes (FIPS 186-5, R475), before reduction. FREE VALUE. -/
opaque sigNonce : Nat → Nat

/-- The cycle field of a fleet time for an occurrence whose cycle within its frame no rule states (R14, R73): drawn by count.
The model reduces it to the range 0 to 4,000 of R14. FREE VALUE. -/
opaque cycleDraw : Nat → Nat

/-- Which neighbour a quotient that is not whole rounds to where no rule states the rounding (R129 says 32-bit precision only).
It depends on the dividend and the divisor. FREE VALUE. -/
opaque roundUp : Int → Int → Bool

/-- The result of an arithmetic of the spec on operands for which its formula has no value (a division by zero): by operation
number and operand. FREE VALUE. -/
opaque openResult : Nat → Int → Int

/-- The level of a ball at an instant that the step does not carry, drawn by count (R510, R556). FREE VALUE. -/
opaque pinLevel : Nat → Bool

/-- The level that the board ties I2C_ADDR to (R37, R553). FREE VALUE. -/
opaque strapLevel : Bool

/-- What the part carries in its device certificate and no rule states (R476): 0 the issuer's name, 1 the UTCTime of final test, 2 the
issuer's key identifier, 3 the device CA's signature. FREE VALUE. -/
opaque certPart : Nat → List (BitVec 8)

/-- The image that the part ships with carries an OEM co-signature that a key of slot 1 verifies (R487, step 8). FREE VALUE. -/
opaque shippedSigned : List (BitVec 8) → Bool

/-- A byte that the spec names and whose content no rule gives (a certificate body, a reserved byte of a buffer): by kind and
offset. FREE VALUE. -/
opaque openByte : Nat → Nat → BitVec 8

end Sys2Proof.Config
end

