-- ==== Sys2Proof/Machine/Bits.lean ====
section
/-! DEFINITION. Plain helpers under every family: bit fields, little-endian words (R18), two's complement, clamps, sorted
association lists, bounded iteration and quotients with the rounding of the spec. -/

namespace Sys2Proof.Machine

/-- Bits hi down to lo of n. -/
def bits (n hi lo : Nat) : Nat := (n >>> lo) % 2 ^ (hi + 1 - lo)

/-- Bit k of n. -/
def bit (n k : Nat) : Bool := Nat.testBit n k

/-- 1 for true, 0 for false. -/
def b2n (b : Bool) : Nat := if b then 1 else 0

/-- n with bit k set. -/
def setBit (n k : Nat) : Nat := n ||| 2 ^ k

/-- n with bit k cleared. -/
def clrBit (n k : Nat) : Nat := if Nat.testBit n k then n - 2 ^ k else n

/-- The value of a w-bit two's complement pattern (R522). -/
def toS (w n : Nat) : Int := if n % 2 ^ w < 2 ^ (w - 1) then (n % 2 ^ w : Nat) else (n % 2 ^ w : Nat) - (2 ^ w : Nat)

/-- The w-bit two's complement pattern of i. -/
def ofS (w : Nat) (i : Int) : Nat := (i % (2 ^ w : Nat)).toNat

/-- The byte with value n modulo 256. -/
def byte (n : Nat) : Byte := BitVec.ofNat 8 n

/-- n as k little-endian bytes (R18). -/
def leBytes : Nat → Nat → List Byte
  | 0, _ => []
  | k + 1, n => byte n :: leBytes k (n / 256)

/-- n as k big-endian bytes (R475). -/
def beBytes (k n : Nat) : List Byte := (leBytes k n).reverse

/-- The value of little-endian bytes. -/
def leNat : List Byte → Nat
  | [] => 0
  | b :: bs => b.toNat + 256 * leNat bs

/-- The value of big-endian bytes. -/
def beNat (bs : List Byte) : Nat := leNat bs.reverse

/-- The k-byte little-endian field at offset o of a payload; bytes beyond the end read 0. -/
def fld (bs : List Byte) (o k : Nat) : Nat := leNat ((bs.drop o).take k)

/-- i held between lo and hi. -/
def clampI (lo hi i : Int) : Int := if i < lo then lo else if hi < i then hi else i

/-- n saturated at m. -/
def satN (m n : Nat) : Nat := if m < n then m else n

/-- A counter of w bits, one up, saturating (R112). -/
def incSat (w n : Nat) : Nat := satN (2 ^ w - 1) (n + 1)

/-- The absolute value as a natural number. -/
def absN (i : Int) : Nat := i.natAbs

/-- The sign of i: -1, 0 or 1. -/
def sgn (i : Int) : Int := if i < 0 then -1 else if i = 0 then 0 else 1

/-- n / d rounded half away from zero (R60), 0 for d = 0 never being asked. -/
def divHalfAway (n : Int) (d : Nat) : Int :=
  if 0 ≤ n then (2 * n + d) / (2 * d) else -((2 * (-n) + d) / (2 * d))

/-- n / d where no rule states the rounding: one of the two whole neighbours, which one being a free value; for d = 0 the result
is free. -/
def divR (n d : Int) : Int :=
  if d = 0 then Config.openResult 0 n
  else if n % d = 0 then n / d
  else n / d + (if Config.roundUp n d then 1 else 0)

/-- The least q with d * q ≥ n. -/
def ceilDiv (n d : Nat) : Nat := (n + d - 1) / d

/-- f applied k times. -/
def iter {α : Type} (f : α → α) : Nat → α → α
  | 0, a => a
  | k + 1, a => iter f k (f a)

/-- The list of the naturals below n that satisfy p, ascending. -/
def those (n : Nat) (p : Nat → Bool) : List Nat := (List.range n).filter p

/-- The sum of f over a list. -/
def sumOf {α : Type} (f : α → Int) (l : List α) : Int := l.foldl (fun a x => a + f x) 0

/-- The number of elements that satisfy p. -/
def countOf {α : Type} (p : α → Bool) (l : List α) : Nat := (l.filter p).length

/-- The mask with bit k set for each k of the list. -/
def maskOf (l : List Nat) : Nat := l.foldl setBit 0

/-- The numbers of the set bits of m below n, ascending. -/
def bitsOf (n m : Nat) : List Nat := those n (bit m)

/-- The number of set bits of m below n. -/
def popCount (n m : Nat) : Nat := (bitsOf n m).length

/-- The smallest element by a key, the first one on ties. -/
def minBy {α : Type} (key : α → Int) : List α → Option α
  | [] => none
  | a :: l => match minBy key l with
    | none => some a
    | some b => if key b < key a then some b else some a

/-- The largest element by a key, the first one on ties. -/
def maxBy {α : Type} (key : α → Int) (l : List α) : Option α := minBy (fun a => -key a) l

/-- The least value of a non-empty list, d for the empty list. -/
def minL (d : Int) (l : List Int) : Int := (minBy id l).getD d

/-- The largest value of a non-empty list, d for the empty list. -/
def maxL (d : Int) (l : List Int) : Int := (maxBy id l).getD d

/-- The value listed at key k. -/
def assocGet {β : Type} : List (Nat × β) → Nat → Option β
  | [], _ => none
  | (j, b) :: l, k => if j = k then some b else assocGet l k

/-- The list with key k at value b, keys kept rising. -/
def assocSet {β : Type} : List (Nat × β) → Nat → β → List (Nat × β)
  | [], k, b => [(k, b)]
  | (j, c) :: l, k, b => if k < j then (k, b) :: (j, c) :: l else if j = k then (k, b) :: l else (j, c) :: assocSet l k b

/-- The list without key k. -/
def assocDel {β : Type} (l : List (Nat × β)) (k : Nat) : List (Nat × β) := l.filter (fun p => p.1 ≠ k)

/-- The keys of the list rise strictly: the one canonical form of a sparse store. -/
def assocSorted {β : Type} : List (Nat × β) → Bool
  | [] => true
  | [_] => true
  | (j, _) :: (k, c) :: l => decide (j < k) && assocSorted ((k, c) :: l)

/-- l with element n replaced by f of it. -/
def modAt {α : Type} (l : List α) (n : Nat) (f : α → α) : List α := l.modify n f

/-- A list of n copies. -/
def rep {α : Type} (n : Nat) (a : α) : List α := List.replicate n a

/-- The whole square root search: the largest q below 2^k with good q, for a downward-closed good. -/
def bisect (good : Nat → Bool) : Nat → Nat → Nat
  | 0, acc => acc
  | k + 1, acc => if good (acc + 2 ^ k) then bisect good k (acc + 2 ^ k) else bisect good k acc

/-- The whole square root of n below 2^128. -/
def isqrt (n : Nat) : Nat := bisect (fun q => q * q ≤ n) 64 0

end Sys2Proof.Machine
end

