-- ==== Sys2Proof/Machine/Crypto.lean ====
section
/-! DEFINITION. The check sums and signatures of the spec: CRC-16/CCITT-FALSE (R41), CRC-32 of IEEE 802.3 (R148, R460), CRC-8 of the
fleet markers, SHA-256 and SHA-1 (FIPS 180-4), ECDSA on P-256 (FIPS 186-5, R475), and the certificates of R476 and R358 in DER. -/

namespace Sys2Proof.Machine

/-- One bit of a CRC register of w bits, most significant bit first, polynomial p. -/
def crcStep (w p c : Nat) : Nat := if bit c (w - 1) then ((c * 2) % 2 ^ w) ^^^ p else (c * 2) % 2 ^ w

/-- CRC-16/CCITT-FALSE (R41): polynomial 0x1021, initial value 0xFFFF, no reflection, no final XOR. -/
def crc16 (bs : List Byte) : Nat :=
  bs.foldl (fun c b => iter (crcStep 16 0x1021) 8 (c ^^^ (b.toNat * 256))) 0xFFFF

/-- One bit of a reflected CRC-32 register. -/
def crc32Step (c : Nat) : Nat := if bit c 0 then (c / 2) ^^^ 0xEDB88320 else c / 2

/-- CRC-32 with the IEEE 802.3 polynomial (R148). -/
def crc32 (bs : List Byte) : Nat :=
  (bs.foldl (fun c b => iter crc32Step 8 (c ^^^ b.toNat)) 0xFFFFFFFF) ^^^ 0xFFFFFFFF

/-- CRC-8 with polynomial 0x07 and initial value 0 over bytes, most significant bit first. -/
def crc8 (bs : List Byte) : Nat := bs.foldl (fun c b => iter (crcStep 8 0x07) 8 (c ^^^ b.toNat)) 0

/-! SHA-256 (FIPS 180-4, R475): its constants are read off their definition, fractional bits of roots of the first primes. -/

/-- The first 64 primes, rising: the primes below 312. -/
def primes64 : List Nat := (List.range 312).filter fun p => 2 ≤ p && (List.range 18).all fun d => d < 2 || p ≤ d || p % d ≠ 0

/-- The first 32 fractional bits of the k-th root of p, its whole part being below 32: found bit by bit from the top. -/
def rootFrac (k p : Nat) : Nat :=
  (List.range 37).foldr (fun i r => if (r + 2 ^ i) ^ k ≤ p * 2 ^ (32 * k) then r + 2 ^ i else r) 0 % 2 ^ 32

/-- The round constants: cube roots of the first 64 primes. -/
def shaK : List Nat := primes64.map (rootFrac 3)

/-- The chaining words before the first block: square roots of the first eight primes. -/
def shaInit : List Nat := (primes64.take 8).map (rootFrac 2)

/-- A 32-bit word turned right by each amount of a list, the results added bit by bit modulo 2. -/
def turns (rs : List Nat) (x : Nat) : Nat := rs.foldl (fun a r => a ^^^ ((x * 2 ^ 32 + x) / 2 ^ r % 2 ^ 32)) 0

/-- The schedule word after the sixteen words w, oldest first. -/
def shaNext (w : List Nat) : Nat :=
  let x := w.getD 1 0
  let y := w.getD 14 0
  (w.getD 0 0 + w.getD 9 0 + (turns [7, 18] x ^^^ x / 2 ^ 3) + (turns [17, 19] y ^^^ y / 2 ^ 10)) % 2 ^ 32

/-- n rounds from the working words v (a to h), the next sixteen schedule words w and the constants ks still to come. -/
def shaRounds : List Nat → List Nat → List Nat → List Nat
  | k :: ks, w, [a, b, c, d, e, f, g, h] =>
    let t := h + turns [6, 11, 25] e + ((e &&& f) + ((2 ^ 32 - 1 - e) &&& g)) + k + w.getD 0 0
    let u := turns [2, 13, 22] a + ((a &&& (b ||| c)) ||| (b &&& c))
    shaRounds ks (w.drop 1 ++ [shaNext w]) [(t + u) % 2 ^ 32, a, b, c, (d + t) % 2 ^ 32, e, f, g]
  | _, _, v => v

/-- The chaining words after one 64-byte block. -/
def shaBlock (v : List Nat) (blk : List Byte) : List Nat :=
  let w := (List.range 16).map fun i => beNat ((blk.drop (4 * i)).take 4)
  List.zipWith (fun x y => (x + y) % 2 ^ 32) v (shaRounds shaK w v)

/-- The SHA-256 digest of a message, 32 bytes. -/
def sha256 (m : List Byte) : List Byte :=
  let p := m ++ byte 0x80 :: rep ((119 - m.length % 64) % 64) (byte 0) ++ beBytes 8 (8 * m.length)
  let v := (List.range (p.length / 64)).foldl (fun v i => shaBlock v ((p.drop (64 * i)).take 64)) shaInit
  v.flatMap (beBytes 4)

/-- The field prime of P-256. -/
def p256P : Nat := 0xffffffff00000001000000000000000000000000ffffffffffffffffffffffff
/-- The group order of P-256. -/
def p256N : Nat := 0xffffffff00000000ffffffffffffffffbce6faada7179e84f3b9cac2fc632551
/-- The coefficient b of P-256. -/
def p256B : Nat := 0x5ac635d8aa3a93e7b3ebbd55769886bc651d06b0cc53b0f63bce3c3e27d2604b
/-- The base point of P-256. -/
def p256G : Nat × Nat :=
  (0x6b17d1f2e12c4247f8bce6e563a440f277037d812deb33a0f4a13945d898c296,
   0x4fe342e2fe1a7f9b8ee7eb4a7c0f9e162bce33576b315ececbb6406837bf51f5)

/-- b ^ e modulo m over the k low bits of e. -/
def powMod (m : Nat) : Nat → Nat → Nat → Nat → Nat
  | 0, _, _, acc => acc
  | k + 1, b, e, acc => powMod m k (b * b % m) (e / 2) (if e % 2 = 1 then acc * b % m else acc)

/-- The inverse modulo a prime m below 2^256. -/
def invMod (m a : Nat) : Nat := powMod m 256 (a % m) (m - 2) 1

/-- The sum of two points; none is the point at infinity. -/
def ecAdd : Option (Nat × Nat) → Option (Nat × Nat) → Option (Nat × Nat)
  | none, q => q
  | p, none => p
  | some (x1, y1), some (x2, y2) =>
    if x1 = x2 && (y1 + y2) % p256P = 0 then none
    else
      let l := if x1 = x2 then (3 * x1 * x1 + (p256P - 3)) * invMod p256P (2 * y1) % p256P
               else (y2 + (p256P - y1)) * invMod p256P (x2 + (p256P - x1)) % p256P
      let x3 := (l * l + 2 * p256P - x1 - x2) % p256P
      some (x3, (l * (x1 + (p256P - x3)) + (p256P - y1)) % p256P)

/-- k times a point, over n bits of k. -/
def ecMul : Nat → Nat → Option (Nat × Nat) → Option (Nat × Nat) → Option (Nat × Nat)
  | 0, _, _, acc => acc
  | n + 1, k, p, acc => ecMul n (k / 2) (ecAdd p p) (if k % 2 = 1 then ecAdd acc p else acc)

/-- Whether 64 bytes, X then Y big-endian, are a point on P-256 (R478). -/
def onCurve (key : List Byte) : Bool :=
  let x := beNat (key.take 32)
  let y := beNat (key.drop 32)
  key.length == 64 && x < p256P && y < p256P && (y * y) % p256P == (x * x * x + (p256P - 3) * x + p256B) % p256P

/-- ECDSA verification of a 64-byte signature over a digest with a 64-byte public key (R475, R477). -/
def ecdsaVerify (key digest sig : List Byte) : Bool :=
  let r := beNat (sig.take 32)
  let s := beNat (sig.drop 32)
  if !onCurve key || sig.length != 64 || r == 0 || p256N ≤ r || s == 0 || p256N ≤ s then false
  else
    let w := invMod p256N s
    let u1 := beNat digest * w % p256N
    let u2 := r * w % p256N
    match ecAdd (ecMul 256 u1 (some p256G) none) (ecMul 256 u2 (some (beNat (key.take 32), beNat (key.drop 32))) none) with
    | none => false
    | some (x, _) => x % p256N == r

/-- The public key of a private key. -/
def ecPublic (d : Nat) : List Byte :=
  match ecMul 256 d (some p256G) none with
  | none => []
  | some (x, y) => beBytes 32 x ++ beBytes 32 y

/-- The ECDSA signature over a digest with private key d and nonce k reduced into 1 to N - 1 (R475); the nonce is the signing
engine's own and free. -/
def ecdsaSign (d k : Nat) (digest : List Byte) : List Byte :=
  let k' := k % (p256N - 1) + 1
  match ecMul 256 k' (some p256G) none with
  | none => []
  | some (x, _) =>
    let r := x % p256N
    beBytes 32 r ++ beBytes 32 (invMod p256N k' * ((beNat digest + r * d) % p256N) % p256N)

/-! A DER reader for the certificates of R476 and R358. -/

/-- A DER element: tag, contents, and the bytes after it. -/
def derNext (bs : List Byte) : Option (Nat × List Byte × List Byte) :=
  match bs with
  | t :: l :: rest =>
    let n := l.toNat
    if n < 128 then (if n ≤ rest.length then some (t.toNat, rest.take n, rest.drop n) else none)
    else
      let k := n - 128
      let m := beNat (rest.take k)
      if k = 0 || 2 < k || rest.length < k + m then none
      else some (t.toNat, (rest.drop k).take m, (rest.drop k).drop m)
  | _ => none

/-- The elements of a DER sequence's contents, at most n of them. -/
def derList : Nat → List Byte → Option (List (Nat × List Byte))
  | 0, _ => none
  | n + 1, bs => if bs = [] then some [] else
    match derNext bs with
    | none => none
    | some (t, c, rest) => (derList n rest).map (fun l => (t, c) :: l)

/-- A DER INTEGER of at most 32 significant bytes, as 32 big-endian bytes. -/
def derInt32 (bs : List Byte) : Option (List Byte) :=
  let c := bs.dropWhile (· == byte 0)
  if c.length ≤ 32 then some (rep (32 - c.length) (byte 0) ++ c) else none

/-- What the checks take from an X.509 v3 certificate: the signed bytes, the raw signature (r then s), the subject's key and the
serial number. -/
structure Cert where
  tbs    : List Byte
  sig    : List Byte
  key    : List Byte
  serial : Nat
deriving DecidableEq, Repr

/-- The certificate in DER, none where the bytes are no certificate of the form of R476. -/
def certParse (bs : List Byte) : Option Cert :=
  match derNext bs with
  | some (0x30, c, []) =>
    match derNext c with
    | some (0x30, tbsC, afterTbs) =>
      let tbs := c.take (c.length - afterTbs.length)
      match derList 12 tbsC, derList 4 afterTbs with
      | some tl, some [(0x30, _), (0x03, sg)] =>
        let l := if tl.head?.map Prod.fst = some 0xA0 then tl.tail else tl
        match l with
        | (0x02, sn) :: (0x30, _) :: (0x30, _) :: (0x30, _) :: (0x30, _) :: (0x30, spki) :: _ =>
          match derList 3 spki, derNext (sg.drop 1) with
          | some [(0x30, _), (0x03, pk)], some (0x30, rs, []) =>
            match derList 3 rs with
            | some [(0x02, r), (0x02, s)] =>
              match derInt32 r, derInt32 s with
              | some r', some s' =>
                if pk.length = 66 && (pk.getD 1 0).toNat = 4 then some ⟨tbs, r' ++ s', pk.drop 2, beNat sn⟩ else none
              | _, _ => none
            | _ => none
          | _, _ => none
        | _ => none
      | _, _ => none
    | _ => none
  | _ => none

/-- Whether a certificate is signed by a root key over the SHA-256 of its signed bytes (R358). -/
def certSignedBy (root : List Byte) (c : Cert) : Bool := ecdsaVerify root (sha256 c.tbs) c.sig

/-- The object identifiers that R358 names, as DER contents: ecdsa-with-SHA256, id-ecPublicKey, prime256v1, keyUsage, basicConstraints. -/
def oidEcdsaSha256 : List Byte := [0x2A, 0x86, 0x48, 0xCE, 0x3D, 0x04, 0x03, 0x02]
def oidEcKey : List Byte := [0x2A, 0x86, 0x48, 0xCE, 0x3D, 0x02, 0x01]
def oidP256 : List Byte := [0x2A, 0x86, 0x48, 0xCE, 0x3D, 0x03, 0x01, 0x07]
def oidKeyUsage : List Byte := [0x55, 0x1D, 0x0F]
def oidBasicConstraints : List Byte := [0x55, 0x1D, 0x13]

/-- One extension satisfies R358: a keyUsage includes digitalSignature, and no other extension than it and basicConstraints is critical. -/
def extOk (e : Nat × List Byte) : Bool :=
  match derList 4 e.2 with
  | some ((0x06, oid) :: rest) =>
    let critical := match rest with | (0x01, b) :: _ => decide (b ≠ [] ∧ b ≠ [byte 0]) | _ => false
    if oid = oidKeyUsage then
      match rest.getLast? with
      | some (0x04, v) => (match derNext v with | some (0x03, u, []) => decide (1 < u.length) && bit (u.getD 1 0).toNat 7 | _ => false)
      | _ => false
    else oid == oidBasicConstraints || !critical
  | _ => false

/-- The certificate has the form that R358 asks for: X.509 v3, ecdsa-with-SHA256, a P-256 public key, and extensions it allows. -/
def certForm (bs : List Byte) : Bool :=
  match derNext bs with
  | some (0x30, c, []) =>
    match derNext c with
    | some (0x30, tbsC, afterTbs) =>
      match derList 12 tbsC, derList 4 afterTbs with
      | some ((0xA0, ver) :: (0x02, _) :: (0x30, alg1) :: (0x30, _) :: (0x30, _) :: (0x30, _) :: (0x30, spki) :: rest), some ((0x30, alg2) :: _) =>
        let exts := match rest.find? (fun e => e.1 == 0xA3) with
          | some (_, x) => (match derNext x with | some (0x30, l, []) => derList 32 l | _ => none)
          | none => some []
        ver == [0x02, 0x01, 0x02] && (derList 2 alg1).map List.head? == some (some (0x06, oidEcdsaSha256)) && alg1 == alg2 &&
        (match derList 3 spki with
          | some ((0x30, a) :: _) => derList 3 a == some [(0x06, oidEcKey), (0x06, oidP256)]
          | _ => false) &&
        (match exts with | some es => es.all extOk | none => false)
      | _, _ => false
    | _ => false
  | _ => false

/-! SHA-1 (FIPS 180-4), for the key identifier of R476. -/

/-- One round of SHA-1, the t-th, with the schedule word w. -/
def sha1Round (t w : Nat) : List Nat → List Nat
  | [a, b, c, d, e] =>
    let maj := (b &&& c) ||| (b &&& d) ||| (c &&& d)
    let f := if t < 20 then (b &&& c) ||| ((2 ^ 32 - 1 - b) &&& d) else if t < 40 || 60 ≤ t then b ^^^ c ^^^ d else maj
    let k := if t < 20 then 0x5A827999 else if t < 40 then 0x6ED9EBA1 else if t < 60 then 0x8F1BBCDC else 0xCA62C1D6
    [(turns [27] a + f + e + k + w) % 2 ^ 32, a, turns [2] b, c, d]
  | v => v

/-- The chaining words after one 64-byte block. -/
def sha1Block (v : List Nat) (blk : List Byte) : List Nat :=
  let w := (List.range 64).foldl (fun (w : List Nat) i => w ++ [turns [31] (w.getD (i + 13) 0 ^^^ w.getD (i + 8) 0 ^^^ w.getD (i + 2) 0 ^^^ w.getD i 0)])
    ((List.range 16).map fun i => beNat ((blk.drop (4 * i)).take 4))
  List.zipWith (fun x y => (x + y) % 2 ^ 32) v ((List.range 80).foldl (fun v t => sha1Round t (w.getD t 0) v) v)

/-- The SHA-1 digest of a message, 20 bytes. -/
def sha1 (m : List Byte) : List Byte :=
  let p := m ++ byte 0x80 :: rep ((119 - m.length % 64) % 64) (byte 0) ++ beBytes 8 (8 * m.length)
  let v := (List.range (p.length / 64)).foldl (fun v i => sha1Block v ((p.drop (64 * i)).take 64))
    [0x67452301, 0xEFCDAB89, 0x98BADCFE, 0x10325476, 0xC3D2E1F0]
  v.flatMap (beBytes 4)

/-! The device certificate (R476). -/

/-- A DER element of a tag. -/
def der (tag : Nat) (c : List Byte) : List Byte :=
  byte tag :: ((if c.length < 128 then [byte c.length] else if c.length < 256 then [byte 0x81, byte c.length] else byte 0x82 :: beBytes 2 c.length) ++ c)

/-- The contents of a positive DER INTEGER of at most 64 bits. -/
def derPositive (n : Nat) : List Byte :=
  let c := (beBytes 8 n).dropWhile (· == byte 0)
  if c = [] || 128 ≤ (c.headD 0).toNat then byte 0 :: c else c

/-- The characters of a string as bytes. -/
def ascii (s : String) : List Byte := s.toList.map fun c => byte c.toNat

/-- k upper-case hexadecimal digits of n. -/
def hexDigits (k n : Nat) : List Byte := ((List.range k).map fun i => let d := n / 16 ^ i % 16; byte (if d < 10 then 48 + d else 55 + d)).reverse

/-- One extension: its identifier, critical or not, its value. -/
def derExt (oid : List Byte) (critical : Bool) (v : List Byte) : List Byte :=
  der 0x30 (der 0x06 oid ++ (if critical then der 0x01 [byte 0xFF] else []) ++ der 0x04 v)

/-- The device certificate of a part, its serial number and its private key, with the fields and extensions of R476 in its order; the
issuer's name and key identifier, the time of final test and the signature are free (DESIGN CHOICE, log 111). -/
def deviceCert (big : Bool) (serial priv : Nat) : List Byte :=
  let alg := der 0x30 (der 0x06 oidEcdsaSha256)
  let point := byte 4 :: ecPublic priv
  let name := ascii (if big then "TSN-1648 " else "TSN-0824 ") ++ hexDigits 16 serial
  let attr (oid v : List Byte) : List Byte := der 0x31 (der 0x30 (der 0x06 oid ++ der 0x0C v))
  let exts := derExt oidBasicConstraints true (der 0x30 []) ++ derExt oidKeyUsage true (der 0x03 [byte 7, byte 0x80]) ++
    derExt [0x55, 0x1D, 0x23] false (der 0x30 (der 0x80 ((Config.certPart 2).take 64))) ++ derExt [0x55, 0x1D, 0x0E] false (der 0x04 (sha1 point))
  let tbs := der 0x30 (der 0xA0 (der 0x02 [byte 2]) ++ der 0x02 (derPositive serial) ++ alg ++ der 0x30 ((Config.certPart 0).take 400) ++
    der 0x30 (der 0x17 ((Config.certPart 1).take 13) ++ der 0x18 (ascii "99991231235959Z")) ++
    der 0x30 (attr [0x55, 0x04, 0x03] name ++ attr [0x55, 0x04, 0x0A] (ascii "Finauny")) ++
    der 0x30 (der 0x30 (der 0x06 oidEcKey ++ der 0x06 oidP256) ++ der 0x03 (byte 0 :: point)) ++ der 0xA3 (der 0x30 exts))
  der 0x30 (tbs ++ alg ++ der 0x03 (byte 0 :: (Config.certPart 3).take 72))

/-- The check of a certificate against a root key (R358, R377): its form, its root's signature, its key on the curve. -/
def certCheck (root : Option (List Byte)) (bs : List Byte) : Option Cert :=
  match certParse bs, root with
  | some c, some k => if certForm bs && certSignedBy k c && onCurve c.key then some c else none
  | _, _ => none

end Sys2Proof.Machine
end

