-- ==== Sys2Proof/Machine/State.lean ====
section
/-! DEFINITION. The state of the block as plain data: every register, queue, counter, mode and pin the spec gives it, with the rule that
names it and its reset value in the docstring of each field (what; width; file and rule of spec/; reset value), the faults and
refusals, and the state after reset. -/

namespace Sys2Proof.Machine

/-! The controller (01, 00_scope R5 to R12). -/

/-- The six states of the controller (00_scope, Controller states). -/
inductive Ctl where
  | moored | boot | standby | run | safe | halt
deriving DecidableEq, Repr

/-- The code of a controller state in STATE_CHANGED (R75). -/
def Ctl.code : Ctl → Nat
  | .moored => 0 | .boot => 1 | .standby => 2 | .run => 3 | .safe => 4 | .halt => 5

/-- The controller as a whole: its state and what decides the next one. -/
structure Control where
  /-- controller state; one of six; 00_scope R5 to R12; BOOT -/
  state      : Ctl := .boot
  /-- the ROM recovery loader runs; 1 bit; 00_scope R6; 0 -/
  loader     : Bool := false
  /-- slot whose firmware runs or was started; 0 A, 1 B; 13_identity_security R488; 0 (DESIGN CHOICE: no slot runs before the ROM) (log 5) -/
  slot       : Nat := 0
  /-- the ROM has started a firmware and BOOT may end; 1 bit; 13_identity_security R488; 0 -/
  romDone    : Bool := false
  /-- the ROM made a copy in this BOOT; 1 bit; 13_identity_security R488, R498; 0 -/
  copied     : Bool := false
  /-- MOOR sequence in progress; 1 bit; 00_scope R11; 0 -/
  mooring    : Bool := false
  /-- cause of HALT, SAF.HALT_CAUSE; 16 bits; 12_protection_watchdogs_records R454; 0 -/
  haltCause  : Nat := 0
  /-- HALT decided for this frame's commit, with its cause; 12_protection_watchdogs_records R454; none -/
  wantHalt   : Option Nat := none
  /-- SAFE decided for this frame's commit; 1 bit; 12_protection_watchdogs_records R443; 0 -/
  wantSafe   : Bool := false
  /-- cause of the last entry to BOOT, SAF.RESET_CAUSE; 16 bits; 12_protection_watchdogs_records R458; 1 -/
  resetCause : Nat := 1
  /-- a watchdog service has completed in SAFE; 1 bit; 00_scope R8; 0 -/
  service    : Bool := false
  /-- a new stitch has taken effect after that service; 1 bit; 00_scope R8; 0 -/
  stitchAfter : Bool := false
  /-- the command core accepts packets; 1 bit; 02_host_commands R48; 0 -/
  coreUp     : Bool := false
  /-- the command core is halted through JTAG; 1 bit; 13_identity_security R484; 0 -/
  dbgHalt    : Bool := false
  /-- age of the frame from which the supervision watchdog counts; 12_protection_watchdogs_records R445, R447; 0 -/
  supFrom    : Nat := 0
  /-- ages at which the core was restarted, newest first; 12_protection_watchdogs_records R446; empty -/
  restarts   : List Nat := []
  /-- clock loss declared and not recovered; 1 bit; 12_protection_watchdogs_records R449; 0 -/
  clockLost  : Bool := false
  /-- power-fail shut-down or wait; 1 bit; 12_protection_watchdogs_records R451; 0 -/
  powerFail  : Bool := false
  /-- the power-fail record is written, the core clock is stopped; 1 bit; 12_protection_watchdogs_records R452; 0 -/
  pfDone     : Bool := false
  /-- RESETn is low; 1 bit; 16_balls_electrical R555; 0 -/
  resetLow   : Bool := false
  /-- RESETn has been low during the power-fail shut-down; 1 bit; 16_balls_electrical R555; 0 -/
  resetDue   : Bool := false
  /-- a reset that follows on the next frame, with its cause (RESET_DEVICE, fleet RESET); 02_host_commands R77, 10_fleet_bus R394; none -/
  resetReq   : Option Nat := none
  /-- VSYS has fallen below 7.5 V since the last BOOT; 1 bit; 05_phases_lanes_modulation R187; 1 (power-on) -/
  vsysFell   : Bool := true
deriving DecidableEq, Repr

/-- Identity: what final test fixed (13). -/
structure Ident where
  /-- the part is a TSN-1648; 1 bit; 00_scope R2; 1 (DESIGN CHOICE: the model's unit) (log 4) -/
  big     : Bool := true
  /-- certificate serial number, SEC.SERIAL; 64 bits; 13_identity_security R476; 1 (DESIGN CHOICE) (log 4) -/
  serial  : Nat := 1
  /-- private key of the signing engine; 256 bits, in OTP; 13_identity_security R475; 1 (DESIGN CHOICE) (log 4) -/
  priv    : Nat := 1
  /-- I2C_ADDR strap taken in BOOT; 1 bit; 02_host_commands R37; 0 until the first BOOT (DESIGN CHOICE) (log 4) -/
  strap   : Bool := false
deriving DecidableEq, Repr

/-! The host side of the command core (02). -/

/-- An event of the queue (R73). -/
structure Event where
  /-- event code; 16 bits; 02_host_commands R73 -/
  code : Nat
  /-- sequence number; 16 bits; 02_host_commands R73 -/
  seq  : Nat
  /-- fleet time; 64 bits; 02_host_commands R73 -/
  time : Nat
  /-- argument; 32 bits; 02_host_commands R73 -/
  arg  : Nat
deriving DecidableEq, Repr

/-- What a command in the hands of the command core carries: its transport, its tag (none in version-1 framing), the cycle of its
hand-over, and its opcode. -/
structure Ctx where
  tr  : Transport
  tag : Option Nat
  cyc : Nat
  opc : Nat
deriving DecidableEq, Repr

/-- A completed reply waiting on its transport (R34, R40). -/
structure Reply where
  /-- TAG byte; none in version-1 framing; 02_host_commands R40, R58 -/
  tag    : Option Nat
  /-- STATUS; 8 bits; 02_host_commands R50 -/
  status : Nat
  /-- payload; at most 1,024 bytes; 02_host_commands R40 -/
  pay    : List Byte
  /-- frame from which it may be sent; 02_host_commands R64 -/
  ready  : Nat
  /-- the command occupies its tag until this reply is delivered; 02_host_commands R43 -/
  owns   : Bool
  /-- CAN settings it is sent with where a stitch changed them (data rate, identifier form, reply identifier); 15_parameter_map R534 -/
  can    : Option (Nat × Nat × Nat)
  /-- age at which it was completed; 02_host_commands R47 -/
  since  : Nat
deriving DecidableEq, Repr

/-- A command in flight (R43): its tag (none in version-1 framing), its transport, its opcode, the age of its acceptance, and whether
its reply is complete. -/
structure Flight where
  tr    : Transport
  tag   : Option Nat
  opc   : Nat
  since : Nat
  done  : Bool
deriving DecidableEq, Repr

/-- One transport (R33). -/
structure Link where
  /-- protocol version in use, field of GLB.HOST_VER; 1 to 3; 02_host_commands R55; 2 -/
  ver       : Nat := 2
  /-- privilege level; 0 OBSERVE to 4 FACTORY; 02_host_commands R52; 1 -/
  priv      : Nat := 1
  /-- age of the last accepted command; 02_host_commands R53; 0 -/
  lastCmd   : Nat := 0
  /-- completed replies, oldest first; 02_host_commands R34; empty -/
  replies   : List Reply := []
  /-- latched upper words by their IDs; 15_parameter_map R16, R523; empty -/
  latch     : List (Nat × Word) := []
  /-- challenge in force: level, 32 bytes, age; 13_identity_security R480; none -/
  challenge : Option (Nat × List Byte × Nat) := none
  /-- consecutive AUTH_FAIL results; 13_identity_security R483; 0 -/
  fails     : Nat := 0
  /-- age at which the lockout of AUTH_CHALLENGE ends; 13_identity_security R483; none -/
  lockUntil : Option Nat := none
  /-- bytes last clocked out by a read (SPI_MISO, I2C_SDA); 02_host_commands R34; empty -/
  lastOut   : List Byte := []
deriving DecidableEq, Repr

/-- A CAN frame sent: identifier form, identifier, data-phase rate, data (R38). -/
structure CanOut where
  xid  : Nat
  ident : Nat
  dbr  : Nat
  data : List Byte
deriving DecidableEq, Repr

/-- A staging set (R61): entries by rising ID, and the tide-table entry that holds it. -/
structure StageSet where
  entries : List (Nat × Word) := []
  heldBy  : Option Nat := none
deriving DecidableEq, Repr

/-- A stitch at once, accepted and not yet in force (R64, R65): its set number, entries, frame of effect, the reply it owes (transport,
tag), the CAN settings of its acceptance (R534), whether the check of R531 has been made, whether it is a version-1 write (R59), and the
entries that a refused one returns to its set (R51, R531). -/
structure Stitch where
  set     : Nat
  entries : List (Nat × Word)
  eff     : Nat
  owes    : Option (Transport × Option Nat)
  can     : Option (Nat × Nat × Nat)
  checked : Bool
  v1      : Bool
  back    : List (Nat × Word)
deriving DecidableEq, Repr

/-- A live write accepted and not yet in force (R69): ID of the first word, its words, the frame of effect, the transport and tag of its
command. -/
structure LiveW where
  id  : Nat
  ws  : List Word
  eff : Nat
  by_ : Transport × Option Nat
deriving DecidableEq, Repr

/-- An entry of the tide table (R77 TIDE_READ): LAUNCH_ID, ACTION, SCOPE, FLAGS, ARG, FRAME, and whether the check of frame L - 1
passed. -/
structure Tide where
  lid    : Nat
  action : Nat
  scope  : Nat
  flags  : Nat
  arg    : Nat
  frame  : Nat
  passed : Bool
deriving DecidableEq, Repr

/-- A long operation that has replied ACCEPTED and still runs (R44): its number, opcode, transport, resource, arguments, bytes. -/
structure Op where
  num   : Nat
  opc   : Nat
  tr    : Transport
  res   : Nat
  args  : List Nat
  data  : List Byte
  since : Nat
deriving DecidableEq, Repr

/-- A result held under R45: its operation number and opcode, its bytes, whether a fetch answers INTERNAL (R49), and the age at
which it expires. -/
structure Result where
  num   : Nat
  opc   : Nat
  bytes : List Byte
  lost  : Bool
  until_ : Nat
deriving DecidableEq, Repr

/-- A fresh read waiting for its conversions (R76, R126): transport, tag, IDs, the conversions still to be granted by channel, the
plans made since its acceptance, the age of the frame whose plan it joins first, and the age at which its values are published. -/
structure Fresh where
  tr    : Transport
  tag   : Option Nat
  ids   : List Nat
  wait  : List (Nat × Nat)
  plans : Nat
  first : Nat
  ready : Option Nat
deriving DecidableEq, Repr

/-- The command core's host state. -/
structure HostState where
  /-- SPI; 02_host_commands R34; as Link -/
  spi     : Link := {}
  /-- I2C; 02_host_commands R37; as Link -/
  i2c     : Link := {}
  /-- CAN FD; 02_host_commands R38; as Link -/
  can     : Link := {}
  /-- the path of inner commands, at version 3; 10_fleet_bus R393; as Link -/
  inner   : Link := { ver := 3 }
  /-- CAN FD packet in reassembly: last SEQ, bytes, age of the last segment; 02_host_commands R38, R39; none -/
  partial_ : Option (Nat × List Byte × Nat) := none
  /-- CAN FD frames sent in this frame, oldest first; 02_host_commands R38; empty -/
  canOut  : List CanOut := []
  /-- commands in flight; at most 48 tags; 02_host_commands R43; empty -/
  flights : List Flight := []
  /-- GLB.HOST_DROPS; 32 bits; 02_host_commands R36, R39; 0 -/
  drops   : Nat := 0
  /-- GLB.CAN_CLASSIC; 32 bits; 02_host_commands R39; 0 -/
  classic : Nat := 0
  /-- staging sets 0 to 3; 02_host_commands R61; empty -/
  sets    : List StageSet := [{}, {}, {}, {}]
  /-- stitches accepted; 02_host_commands R64; empty -/
  stitches : List Stitch := []
  /-- live writes accepted; 02_host_commands R69; empty -/
  lives   : List LiveW := []
  /-- IDs put in force by a stitch on the coming frame, with the set; 02_host_commands R68, R69; empty -/
  stitched : List (Nat × Nat) := []
  /-- tide table; 02_host_commands R67, R80; empty -/
  tide    : List Tide := []
  /-- next LAUNCH_ID; 16 bits; 02_host_commands R80; 1 (DESIGN CHOICE) (log 6) -/
  nextLid : Nat := 1
  /-- event queue, oldest first; at most 256 entries of 16 bytes; 02_host_commands R73; empty -/
  events  : List Event := []
  /-- next SEQ; 16 bits; 02_host_commands R73; 0 (DESIGN CHOICE) (log 6) -/
  evSeq   : Nat := 0
  /-- events dropped since the last EVENTS_LOST; 02_host_commands R74; 0 -/
  lost    : Nat := 0
  /-- long operations running; 02_host_commands R44; empty -/
  ops     : List Op := []
  /-- last OPNUM; 16 bits; 02_host_commands R44; 0 (DESIGN CHOICE) (log 6) -/
  opNum   : Nat := 0
  /-- results held; at most 8; 02_host_commands R45, R46; empty -/
  results : List Result := []
  /-- operations ended by a restart, to be reported: number, opcode, final status; 02_host_commands R49; empty -/
  ended   : List (Nat × Nat × Nat) := []
  /-- tags discarded by the last restart; 02_host_commands R48; 0 -/
  discTags : Nat := 0
  /-- fresh reads waiting; 04_sensing_calibration R126; empty -/
  fresh   : List Fresh := []
  /-- the configuration in force differs from the stored one; 1 bit; 02_host_commands R72; 0 -/
  dirty   : Bool := false
  /-- age of the last configuration write; 02_host_commands R72; none -/
  cfgAt   : Option Nat := none
  /-- key installations waiting for their write, oldest first: slot, 64 bytes; 13_identity_security R478; empty -/
  keyJobs : List (Nat × List Byte) := []
  /-- OPNUM and DETAIL of the last final status that has a DETAIL; 13_identity_security R481, R492; none -/
  endDetail : Option (Nat × Nat) := none
  /-- alterations handed to the bank loader: channel, block (none removes), frame of effect, OPNUM; 04_sensing_calibration R145; empty -/
  altJobs : List (Nat × Option (List Byte) × Nat × Nat) := []
  /-- RESTORE_FACTORY handed to the bank loader: frame of effect, OPNUM, alteration records erased; 04_sensing_calibration R154; none -/
  restoreJob : Option (Nat × Nat × Nat) := none
  /-- frame of effect of a hand-over whose RESTORE_FACTORY a core restart runs again; 02_host_commands R49; none -/
  restoreAgain : Option Nat := none
  /-- frame of effect of the last stitch; 64 bits; 13_identity_security R485; 0 -/
  stitchFrame : Nat := 0
deriving DecidableEq, Repr

/-- A pattern record (R140): present, CRC valid, coefficients, date code. -/
structure Pattern where
  present : Bool := true
  crcOk   : Bool := true
  off     : Int := 0
  gain    : Int := 0
  tc      : Int := 0
  stamp   : Nat := 0
deriving DecidableEq, Repr

/-- One-time programmable memory (13, 04). -/
structure Otp where
  /-- pattern records of channels 0 to 56; 57 records; 04_sensing_calibration R140; zero coefficients (DESIGN CHOICE) (log 4) -/
  pattern : List Pattern := rep 57 {}
  /-- reference-stage coefficients held in the pattern, the defaults of DEF_A, DEF_R and DEF_E; 3 × 16 bits; 06_loss_map_scheduler R210, R245; 160, 80, 200 -/
  refLoss : List Nat := [160, 80, 200]
  /-- selvedge record as programmed; 784 bytes; 04_sensing_calibration R148; empty, STATE blank (DESIGN CHOICE) (log 4) -/
  selv    : List Byte := []
  /-- anti-rollback fuse steps burnt, SEC.ROLLBACK; 0 to 64; 13_identity_security R488; 0 (DESIGN CHOICE) (log 4) -/
  fuses   : Nat := 0
  /-- key slot 1, OEM firmware co-signature; 64 bytes; 13_identity_security R477; empty -/
  key1    : Option (List Byte) := none
  /-- key slot 3, OEM level; 64 bytes; 13_identity_security R477; empty -/
  key3    : Option (List Byte) := none
  /-- key slot 0 in ROM, Finauny firmware signature; 64 bytes; 13_identity_security R477; the public key of 1 (DESIGN CHOICE) (log 4) -/
  key0    : List Byte := beBytes 32 0x6b17d1f2e12c4247f8bce6e563a440f277037d812deb33a0f4a13945d898c296 ++
    beBytes 32 0x4fe342e2fe1a7f9b8ee7eb4a7c0f9e162bce33576b315ececbb6406837bf51f5
  /-- key slot 2 in ROM, FACTORY level; 64 bytes; 13_identity_security R477; the public key of 2 (DESIGN CHOICE) (log 4) -/
  key2    : List Byte := beBytes 32 0x7cf27b188d034f7e8a52380304b51ac3c08969e277f21b35a60b48fc47669978 ++
    beBytes 32 0x07775510db8ed040293d9ac69f7430dbba7dade63ce982299e04b79d227873d1
deriving DecidableEq, Repr

/-- A record of the alteration journal (R145): channel, 12-byte block, sequence number, CRC valid. -/
structure JRec where
  chan  : Nat
  block : List Byte
  seq   : Nat
  crcOk : Bool
deriving DecidableEq, Repr

/-- A firmware slot (R486): its bytes and whether it passed R487 when it was last checked. -/
structure FwSlot where
  /-- image bytes written by an update; at most 524,288; 13_identity_security R486; empty -/
  bytes : List Byte := []
  /-- the image the part ships with, whose bytes no rule gives: VERSION, BUILD, ROLLBACK; 00_scope R1; none -/
  shipped : Option (Nat × Nat × Nat) := none
  /-- VALID bit, the slot passes R487; 1 bit; 13_identity_security R487, R497; 0 -/
  valid : Bool := false
deriving DecidableEq, Repr

/-- A ledger record of a phase (R241): bins, on-time, energy, retirements, marks. -/
structure Ledger where
  /-- time bins; 8 x 32 bits; 06_loss_map_scheduler R241; 0 -/
  bins    : List Nat := rep 8 0
  /-- ON_HOURS in 0.001 h; 32 bits; 06_loss_map_scheduler R243, R244; 0 -/
  onTime  : Nat := 0
  /-- ENERGY in mJ; 64 bits; 06_loss_map_scheduler R243, R244; 0 -/
  energy  : Nat := 0
  /-- powered-clock times of the retirements, newest first; 05_phases_lanes_modulation R195; empty -/
  retired : List Nat := []
  /-- phase is RETIRED; 1 bit; 05_phases_lanes_modulation R196; 0 -/
  isRet   : Bool := false
  /-- phase is WORN; 1 bit; 05_phases_lanes_modulation R196; 0 -/
  worn    : Bool := false
  /-- cause of the last retirement; 1 to 4; 05_phases_lanes_modulation R200; 0 -/
  cause   : Nat := 0
deriving DecidableEq, Repr

/-- A firmware update session (R490): transport, target slot (0 A, 1 B), SIZE, VERSION, bytes written, last chunk, age of the last
accepted chunk, whether a chunk is being written, and whether the target is erased. -/
structure FwSession where
  tr      : Transport
  target  : Nat
  size    : Nat
  version : Nat
  bytes   : List Byte
  lastOff : Nat
  last    : List Byte
  at_     : Nat
  writing : Bool
  erased  : Bool
deriving DecidableEq, Repr

/-! The frame pipeline (03). -/

/-- A job slot (R98 to R102). -/
structure Slot where
  /-- consecutive overrun frames, CONSEC; 0 to 3; 03_frame_pipeline R99; 0 -/
  consec : Nat := 0
  /-- the job overran in the last completed frame, HELD; 1 bit; 03_frame_pipeline R102; 0 -/
  held   : Bool := false
  /-- stage of the most recent cut-off, CUT_STAGE; 3 bits; 03_frame_pipeline R102; 0 -/
  cut    : Nat := 0
  /-- FRM[j].OVR_COUNT; 32 bits; 03_frame_pipeline R112; 0 -/
  ovr    : Nat := 0
  /-- FRM[j].RECOVERIES; 16 bits; 03_frame_pipeline R112; 0 -/
  recov  : Nat := 0
  /-- FRM[j].STEP_MAX; 16 bits; 03_frame_pipeline R112; 0 -/
  maxStep : Nat := 0
  /-- stage cut off in the present frame; 1 to 8; 03_frame_pipeline R93; none -/
  cutNow : Option Nat := none
  /-- that cut-off has been counted; 1 bit; 03_frame_pipeline R98; 0 -/
  counted : Bool := false
deriving DecidableEq, Repr

/-- The frame and its discipline (R104 to R106, R111). -/
structure Frame where
  /-- FRM[48].FRAME; 52 bits; 03_frame_pipeline R111; 0 -/
  frame    : Nat := 0
  /-- frames since the pipeline started, never renumbered; 03_frame_pipeline R88; 0 -/
  age      : Nat := 0
  /-- the pipeline runs; 1 bit; 03_frame_pipeline R87; 0 -/
  running  : Bool := false
  /-- the pipeline has started and no frame has begun; 1 bit; 03_frame_pipeline R111; 0 -/
  fresh    : Bool := false
  /-- the commit point of the present frame has passed; 1 bit; 03_frame_pipeline R96; 0 -/
  committed : Bool := false
  /-- length of the present frame; 3,999 to 4,001; 03_frame_pipeline R105; 4,000 -/
  len      : Nat := 4000
  /-- FRM[48].LEN_LAST; 16 bits; 03_frame_pipeline R112; 4,000 -/
  lenLast  : Nat := 4000
  /-- FRM[48].DISC_RATE; 32 bits, signed; 03_frame_pipeline R105; 0 -/
  rate     : Int := 0
  /-- discipline accumulator in 2^-30 cycle; 03_frame_pipeline R105; 0 -/
  acc      : Int := 0
  /-- FRM[48].STRETCHES; 32 bits; 03_frame_pipeline R112; 0 -/
  stretches : Nat := 0
  /-- FRM[48].SHRINKS; 32 bits; 03_frame_pipeline R112; 0 -/
  shrinks  : Nat := 0
  /-- FRM[48].OVR_TOTAL; 32 bits; 03_frame_pipeline R112; 0 -/
  ovrTotal : Nat := 0
  /-- consecutive frames on which the correction was saturated; 03_frame_pipeline R106; 0 -/
  satRun   : Nat := 0
  /-- DISCIPLINE_LIMIT raised in the present run of saturated frames; 1 bit; 03_frame_pipeline R106; 0 -/
  satTold  : Bool := false
  /-- job slots J0 to J47; 48 of them; 03_frame_pipeline R90, R91; as Slot -/
  slots    : List Slot := rep 48 {}
deriving DecidableEq, Repr

/-! Sensing (04). -/

/-- One sense channel (R119, R129). -/
structure Chan where
  /-- NEWEST, raw code; 16 bits (12 bits, signed, for a phase); 04_sensing_calibration R119; 0 (DESIGN CHOICE) (log 7) -/
  newest : Int := 0
  /-- MEAN in 1/16 LSB; 04_sensing_calibration R119; 0 (DESIGN CHOICE) (log 7) -/
  mean16 : Int := 0
  /-- COUNT of the frame before; 04_sensing_calibration R119; 0 -/
  count  : Nat := 0
  /-- frames since the FRAME tag, SNS[c].AGE; 16 bits, saturating; 04_sensing_calibration R119; 0 (DESIGN CHOICE) (log 7) -/
  age    : Nat := 0
  /-- corrected MEAN, SNS[c].VALUE; 32 bits, signed; 04_sensing_calibration R129, R131; 0 (DESIGN CHOICE) (log 7) -/
  value  : Int := 0
  /-- corrected NEWEST, SNS[c].NEWEST; 32 bits, signed; 04_sensing_calibration R131; 0 (DESIGN CHOICE) (log 7) -/
  newV   : Int := 0
  /-- corrected values of the conversions of the last frame, newest first, then the last one before them; 04_sensing_calibration R120; empty -/
  convs  : List Int := []
deriving DecidableEq, Repr

/-- One temperature pin (R134 to R138). -/
structure TsPin where
  /-- valid readings of the publishing mean, newest first, at most 16; 04_sensing_calibration R134; empty -/
  hist    : List Int := []
  /-- published temperature in 0.01 degC; none while NOT_READY; 04_sensing_calibration R134; none -/
  temp    : Option Int := none
  /-- band B0 to B3; 2 bits; 04_sensing_calibration R138; 3 (NOT_READY reads B3) -/
  band    : Nat := 3
  /-- a temperature has been published and the band set; 1 bit; 04_sensing_calibration R139; 0 -/
  bandSet : Bool := false
  /-- FAULTED; 1 bit; 04_sensing_calibration R136; 0 -/
  faulted : Bool := false
  /-- consecutive invalid readings; 04_sensing_calibration R136; 0 -/
  bad     : Nat := 0
  /-- consecutive valid readings; 04_sensing_calibration R136; 0 -/
  good    : Nat := 0
  /-- case of the last invalid reading: 1 open, 2 short, 3 out of range; 04_sensing_calibration R157; 0 -/
  case_   : Nat := 0
  /-- case of the fourth consecutive invalid reading, where it came in the last frame; 04_sensing_calibration R136; none -/
  badHit  : Option Nat := none
  /-- the hundredth consecutive valid reading came in the last frame; 1 bit; 04_sensing_calibration R136; 0 -/
  goodHit : Bool := false
  /-- 16 readings awaited after a change of TS_MODE, with the old temperature held; 1 bit; 04_sensing_calibration R137; 0 -/
  refill  : Bool := false
  /-- TS_MODE seen in the frame before; 16 bits; 04_sensing_calibration R137; 1 -/
  mode    : Nat := 1
  /-- first conversion of a reading whose second is still to come; 04_sensing_calibration R132, R133; none -/
  half    : Option Nat := none
deriving DecidableEq, Repr

/-- A one-off conversion request of the slot planner (R122): class (2 MPPT, 4 host fresh, 5 CAL_MEASURE), channel, conversions left,
who asked (a port, a tag index, a timer, an OPNUM), whether it was carried, and the age of the frame whose plan it joins first. -/
structure SlotReq where
  cls     : Nat
  chan    : Nat
  left    : Nat
  who     : Nat
  carried : Bool
  first   : Nat
deriving DecidableEq, Repr

/-- The sense front end. -/
structure Sense where
  /-- channels 0 to 56; 57 of them; 04_sensing_calibration R113; as Chan -/
  chans     : List Chan := rep 57 {}
  /-- temperature pins TS0 to TS7; 8 of them; 04_sensing_calibration R134; as TsPin -/
  pins      : List TsPin := rep 8 {}
  /-- one-off requests, oldest first; 04_sensing_calibration R124; empty -/
  reqs      : List SlotReq := []
  /-- plan of the coming frame: the channel of each of the 200 slots; 04_sensing_calibration R125; empty -/
  plan      : List (Option Nat) := []
  /-- conversions granted in the last plan to the one-off requests: (class, who, conversions); 04_sensing_calibration R124; empty -/
  grants    : List (Nat × Nat × Nat) := []
  /-- SNS[57].GRANTED; 16 bits; 04_sensing_calibration R156; 0 (DESIGN CHOICE) (log 7) -/
  granted   : Nat := 0
  /-- SNS[57].CARRIED; 16 bits; 04_sensing_calibration R156; 0 (DESIGN CHOICE) (log 7) -/
  carried   : Nat := 0
  /-- SNS[57].TEL_MISSED; 32 bits; 04_sensing_calibration R156; 0 -/
  telMissed : Nat := 0
  /-- SNS[57].DEFERRED; 32 bits; 04_sensing_calibration R156; 0 -/
  deferred  : Nat := 0
  /-- consecutive plans out of which requests were carried; 04_sensing_calibration R157; 0 -/
  pressRun  : Nat := 0
  /-- SLOT_PRESSURE raised in the present run of plans; 1 bit; 04_sensing_calibration R157; 0 -/
  pressed   : Bool := false
  /-- die temperature in 0.01 degC, channel 56; 04_sensing_calibration R129; 0 (DESIGN CHOICE) (log 7) -/
  die       : Int := 0
  /-- VSYS from the supply monitor in mV; 12_protection_watchdogs_records R460; 0 (DESIGN CHOICE) (log 7) -/
  vsys      : Nat := 0
deriving DecidableEq, Repr

/-! Phases and lanes (05). -/

/-- Phase states (R200). -/
inductive PhSt where
  | active | shed | retired | worn
deriving DecidableEq, Repr

/-- The STATE field of PH[x].STATE (R200). -/
def PhSt.code : PhSt → Nat
  | .active => 0 | .shed => 1 | .retired => 2 | .worn => 3

/-- Lane states (R202). -/
inductive LnSt where
  | off | qualify | softstart | run | slack | rampdown | retry
deriving DecidableEq, Repr

/-- The STATE field of LN[n].STATE (R202). -/
def LnSt.code : LnSt → Nat
  | .off => 0 | .qualify => 1 | .softstart => 2 | .run => 3 | .slack => 4 | .rampdown => 5 | .retry => 6

/-- What the commit point hands a modulator (R96): whether it switches, share in code, duty estimate in 2^-24, frequency code,
position and number of active phases for the offset (number 0 for a phase without a position), the lane's dead-time codes (0 none), and
those in force for the phase (R168). -/
structure ModSet where
  on    : Bool := false
  share : Int := 0
  dff   : Int := 0
  freq  : Nat := 45
  pos   : Nat := 0
  cnt   : Nat := 1
  codeR : Nat := 0
  codeF : Nat := 0
  dtr   : Nat := 0x40
  dtf   : Nat := 0x40
  mode  : Nat := 0
deriving DecidableEq, Repr

/-- A modulator and its compensator (R158 to R175, R193). -/
structure Modulator where
  /-- values transferred at the commit point, not yet adopted; 05_phases_lanes_modulation R162; off -/
  pend   : ModSet := {}
  /-- values in force; 05_phases_lanes_modulation R162; off -/
  cur    : ModSet := {}
  /-- both outputs held low at once by a STOP, SAFEn, clock or power action; 1 bit; 05_phases_lanes_modulation R190; 0 -/
  forcedLow : Bool := false
  /-- the phase switches; 1 bit; 05_phases_lanes_modulation R173; 0 -/
  switching : Bool := false
  /-- compensator correction c in 2^-24; 32 bits, signed; 05_phases_lanes_modulation R170; 0 -/
  c      : Int := 0
  /-- error of the cycle before; 05_phases_lanes_modulation R170; 0 -/
  e1     : Int := 0
  /-- error two cycles before; 05_phases_lanes_modulation R170; 0 -/
  e2     : Int := 0
  /-- duty adopted, 2^-24 of the period; 05_phases_lanes_modulation R159, R170; 0 -/
  d      : Int := 0
  /-- sum and number of the duties adopted in the present frame, for the mean of R214; 06_loss_map_scheduler R214; 0 -/
  dSum   : Int := 0
  dN     : Nat := 0
  /-- carrier offset against position 0, in steps; 05_phases_lanes_modulation R164; 0 -/
  offset : Int := 0
  /-- period of the present cycle in steps; 05_phases_lanes_modulation R159, R164; 0 -/
  period : Nat := 0
  /-- high-side window of the present cycle, counts a and b; 05_phases_lanes_modulation R159, R160; none -/
  hiWin  : Option (Int × Int) := none
  /-- low-side window of the present cycle: from b + DT_FALL to P + a - DT_RISE; 05_phases_lanes_modulation R160; none -/
  loWin  : Option (Int × Int) := none
  /-- frame-rate trim of the on-time in 2^-24 of it (mode 1); 05_phases_lanes_modulation R175; 0 -/
  trim   : Int := 0
  /-- plausibility counts of causes 1 to 4; 05_phases_lanes_modulation R193; 0 -/
  counts : List Nat := [0, 0, 0, 0]
  /-- code of the cycle before; 05_phases_lanes_modulation R193; none -/
  lastCode : Option Int := none
  /-- smallest and largest duty over the cycles of the frozen count; 05_phases_lanes_modulation R193; 0, 0 -/
  dMin   : Int := 0
  dMax   : Int := 0
  /-- carrier cycles since the phase started switching; 05_phases_lanes_modulation R193; 0 -/
  sinceOn : Nat := 0
  /-- carrier cycles since the share stepped by more than 10 %; 05_phases_lanes_modulation R193; 0 -/
  sinceStep : Nat := 0
  /-- the breakwater LIMIT acted in the present cycle; 1 bit; 05_phases_lanes_modulation R190, R193; 0 -/
  limited : Bool := false
  /-- both outputs kept low while the link is over its threshold; 1 bit; 05_phases_lanes_modulation R190; 0 -/
  linkLow : Bool := false
  /-- cause of a plausibility failure found and not yet taken; 05_phases_lanes_modulation R194; none -/
  failed : Option Nat := none
  /-- age of the frame in which that failure was found; 05_phases_lanes_modulation R194; 0 -/
  failedAt : Nat := 0
  /-- newest sample code; 05_phases_lanes_modulation R114, 14_timers_counters R511; 0 (DESIGN CHOICE) (log 7) -/
  sample : Int := 0
deriving DecidableEq, Repr

/-- A phase (R187, R199). -/
structure Phase where
  /-- phase state; 2 bits; 05_phases_lanes_modulation R187; SHED -/
  st      : PhSt := .shed
  /-- cause of the last retirement; 1 to 4; 05_phases_lanes_modulation R200; 0 -/
  cause   : Nat := 0
  /-- a shed is in progress, commits left; 05_phases_lanes_modulation R188; none -/
  shedding : Option Nat := none
  /-- PH[x].I_MEAS in mA; 32 bits, signed; 05_phases_lanes_modulation R199; 0 (DESIGN CHOICE) (log 7) -/
  iMeas   : Int := 0
  /-- share of S6 in mA; 05_phases_lanes_modulation R182; 0 -/
  share   : Int := 0
  /-- mean adopted duty of the frame before in 2^-24; 06_loss_map_scheduler R214; 0 -/
  dMean   : Int := 0
  /-- PH[x].BW_COUNT; 32 bits; 05_phases_lanes_modulation R199; 0 -/
  bwCount : Nat := 0
  /-- retired by the modulator, not yet taken by the next frame; 1 bit; 05_phases_lanes_modulation R194; 0 -/
  newRet  : Bool := false
  /-- state that PH_REINSTATE or LEDGER_CLEAR_WORN gives the phase in the next frame; 05_phases_lanes_modulation R187; none -/
  nextSt  : Option PhSt := none
  /-- PH[x].DUTY as the guard found it; 16 bits; 05_phases_lanes_modulation R199; 0 -/
  duty    : Nat := 0
deriving DecidableEq, Repr

/-- A plan of the scheduler for a lane (R232): phase mask, frequency code, dead-time codes, entry index. -/
structure Plan where
  mask  : Nat := 0
  freq  : Nat := 45
  dtr   : Nat := 0
  dtf   : Nat := 0
  entry : Nat := 0
deriving DecidableEq, Repr

/-- A probe in progress (R219, R220): its kind 0 to 7 (F+, F-, DR+, DR-, DF+, DF-, M+, M-), the plan it runs, the plan to return to,
frames since its start, and the sum and number of the losses of its window. -/
structure Probe where
  kind : Nat
  plan : Plan
  base : Plan
  age  : Nat
  sum  : Int
  n    : Nat
  bad  : Bool
deriving DecidableEq, Repr

/-- A lane (R176 to R185, R201) with its loops and its part of the scheduler (06). -/
structure Lane where
  /-- lane state; 3 bits; 05_phases_lanes_modulation R183, R202; OFF -/
  st       : LnSt := .off
  /-- CAUSE; 4 bits; 05_phases_lanes_modulation R202; 0 -/
  cause    : Nat := 0
  /-- consecutive failed attempts, ATTEMPT; 05_phases_lanes_modulation R184, R202; 0 -/
  attempt  : Nat := 0
  /-- LN[n].RETRIES; 32 bits; 05_phases_lanes_modulation R201; 0 -/
  retries  : Nat := 0
  /-- LN[n].RETRY_NEXT; 32 bits; 05_phases_lanes_modulation R184; 0 -/
  retryLeft : Nat := 0
  /-- frames since entry to the present state; 05_phases_lanes_modulation R183; 0 -/
  inState  : Nat := 0
  /-- frames since LNENn rose; none while low; 05_phases_lanes_modulation R183; none -/
  enFor    : Option Nat := none
  /-- phases of the plan have been started in this SOFTSTART; 1 bit; 05_phases_lanes_modulation R183; 0 -/
  started  : Bool := false
  /-- soft-start ramp in mA; 05_phases_lanes_modulation R183; 0 -/
  ramp     : Int := 0
  /-- the soft-start ramp has reached u; 1 bit; 05_phases_lanes_modulation R183; 0 -/
  rampHit  : Bool := false
  /-- consecutive frames of the condition that ends the present state; 05_phases_lanes_modulation R183; 0 -/
  okRun    : Nat := 0
  /-- consecutive frames with u = 0; 05_phases_lanes_modulation R183; 0 -/
  idleRun  : Nat := 0
  /-- consecutive frames with the ratio outside 0.08 to 0.92; 05_phases_lanes_modulation R181; 0 -/
  ratioRun : Nat := 0
  /-- frames in RUN or SLACK without interruption; 05_phases_lanes_modulation R184; 0 -/
  upRun    : Nat := 0
  /-- put OFF at once by a STOP, to be decided at the next commit point; 1 bit; 05_phases_lanes_modulation R573; 0 -/
  stopped  : Bool := false
  /-- RAMPDOWN under R99, with the job that overran; 03_frame_pipeline R100; none -/
  restart  : Option Nat := none
  /-- main-loop integrator in 2^-16 mA; 05_phases_lanes_modulation R179; 0 -/
  iMain    : Int := 0
  /-- direction in which the main output was clamped in the last frame; 05_phases_lanes_modulation R179; 0 -/
  clMain   : Int := 0
  /-- limit-loop integrator in 2^-16 mA; 05_phases_lanes_modulation R179; 0 -/
  iLim     : Int := 0
  /-- direction in which the limit output was clamped in the last frame; 05_phases_lanes_modulation R179; 0 -/
  clLim    : Int := 0
  /-- side the limit loop of a pack lane last bounded: -1 charge, 1 supply; 05_phases_lanes_modulation R180; 0 (log 11) -/
  limDir   : Int := 0
  /-- the limit loop narrowed the output in the last frame; 1 bit; 08_pack_charging R304; 0 -/
  limActed : Bool := false
  /-- limActed of the frame before; 1 bit; 08_pack_charging R304; 0 -/
  limWas   : Bool := false
  /-- lane demand u in mA; 05_phases_lanes_modulation R179; 0 -/
  u        : Int := 0
  /-- u as it stands before the site bound, in mA; 06_loss_map_scheduler R229, R230; 0 -/
  uFree    : Int := 0
  /-- lane reference in mA after ramps and bounds; 05_phases_lanes_modulation R179, R183; 0 -/
  ref      : Int := 0
  /-- correction of r_h of constant on-time mode in mA; 05_phases_lanes_modulation R175; 0 -/
  rhFix    : Int := 0
  /-- a failed soft-start puts both outputs of every phase low at the coming commit; 1 bit; 05_phases_lanes_modulation R183; 0 -/
  lowAt    : Bool := false
  /-- phase whose constant on-time pulse was triggered last; 05_phases_lanes_modulation R175; none -/
  cotLast  : Option Nat := none
  /-- centre of the port-step window, the port's MEAN at the last commit, in mV; 05_phases_lanes_modulation R190; 0 -/
  bwMid    : Int := 0
  /-- reference of the undershoot comparator latched at the last commit, in mV; none while it is disabled; 07_sources_link_seams R266; none -/
  uvRef    : Option Int := none
  /-- LN[n].I_MEAS in mA; 32 bits, signed; 05_phases_lanes_modulation R177; 0 (DESIGN CHOICE) (log 7) -/
  iMeas    : Int := 0
  /-- LN[n].RATIO in 2^-16; 16 bits; 05_phases_lanes_modulation R177; 0 (DESIGN CHOICE) (log 7) -/
  ratio    : Nat := 0
  /-- LN[n].LIMIT_POS in mA; 05_phases_lanes_modulation R178; 0 (DESIGN CHOICE) (log 7) -/
  limPos   : Int := 0
  /-- LN[n].LIMIT_NEG in mA; 05_phases_lanes_modulation R178; 0 (DESIGN CHOICE) (log 7) -/
  limNeg   : Int := 0
  /-- power toward the link at the port, in uW; 06_loss_map_scheduler R214; 0 -/
  pPort    : Int := 0
  /-- power toward the link at the link, in 2^-24 uW; 06_loss_map_scheduler R214; 0 -/
  pLink    : Int := 0
  /-- measured loss of the frame in 2^-24 uW; 06_loss_map_scheduler R214; 0 -/
  loss     : Int := 0
  /-- frames left of the surge-path replacement of the reference; 05_phases_lanes_modulation R191; 0 -/
  fpLeft   : Nat := 0
  /-- the surge path hands FP_I to the loop in the next frame; 1 bit; 05_phases_lanes_modulation R191; 0 -/
  fpHand   : Bool := false
  /-- frames since the last surge; none when none since BOOT; 05_phases_lanes_modulation R191; none -/
  surgeFor : Option Nat := none
  /-- a bound of R153 is in an episode, by bound (1 current, 2 voltage), with frames without it acting; 04_sensing_calibration R153; none -/
  clampI   : Option Nat := none
  clampV   : Option Nat := none
  /-- plan of the scheduler for the next frame, SCH[n].PLAN and ENTRY; 06_loss_map_scheduler R232; empty -/
  plan     : Plan := {}
  /-- band, ratio bin and current bin of S3; 06_loss_map_scheduler R205 to R208; 3, 0, 0 (DESIGN CHOICE) (log 7) -/
  band     : Nat := 3
  rbin     : Nat := 0
  cbin     : Nat := 0
  /-- frames in RUN with unchanged band, bins and plan; 06_loss_map_scheduler R218; 0 -/
  steady   : Nat := 0
  /-- frames since the last change of the plan; 06_loss_map_scheduler R213; 0 -/
  planFor  : Nat := 0
  /-- losses summed over the learning window, number of frames, discarded; 06_loss_map_scheduler R213; 0, 0, 0 -/
  winSum   : Int := 0
  winN     : Nat := 0
  winBad   : Bool := false
  /-- index of the entry of the learning window; 06_loss_map_scheduler R215; 0 -/
  winEntry : Nat := 0
  /-- learning window complete and not yet learned: entry index, mean loss in 1/64 W, plan in force; 06_loss_map_scheduler R213, R215; none -/
  winDone  : Option (Nat × Int × Plan) := none
  /-- PEND[n]: entry index and L; 06_loss_map_scheduler R215; none -/
  pend     : Option (Nat × Int) := none
  /-- SCH[n].QUAR_COUNT; 32 bits; 06_loss_map_scheduler R215; 0 -/
  quar     : Nat := 0
  /-- age of the last LOSSMAP_QUARANTINE; 06_loss_map_scheduler R216; none -/
  quarAt   : Option Nat := none
  /-- SCH[n].DISCARDS; 32 bits; 06_loss_map_scheduler R215; 0 -/
  discards : Nat := 0
  /-- consecutive frames on which fewer phases were better, SHED_HOLD count; 06_loss_map_scheduler R232; 0 -/
  shedRun  : Nat := 0
  /-- the scheduler wants a shed step; 1 bit; 06_loss_map_scheduler R232, R235; 0 -/
  wantShed : Bool := false
  /-- frames since the commit of the last shed step; none when none since BOOT; 06_loss_map_scheduler R235; none -/
  shedFor  : Option Nat := none
  /-- rotation pending: the phase to be shed; 06_loss_map_scheduler R238; none -/
  rotZ     : Option Nat := none
  /-- frames since the last rotation began; none when none since BOOT; 06_loss_map_scheduler R238; none -/
  rotFor   : Option Nat := none
  /-- sheds blocked after a surge, frames left; 06_loss_map_scheduler R236; 0 -/
  shedBlock : Nat := 0
  /-- probe in progress; 06_loss_map_scheduler R219; none -/
  probe    : Option Probe := none
  /-- next probe kind; 0 to 7; 06_loss_map_scheduler R219; 0 -/
  probeKind : Nat := 0
  /-- frames since the start of the last probe; none when none since BOOT; 06_loss_map_scheduler R218; none -/
  probeFor : Option Nat := none
  /-- probe granted as deferrable work and not yet started; 1 bit; 06_loss_map_scheduler R239; 0 -/
  probeGo  : Bool := false
  /-- |u| of the last 100 frames, newest first; 06_loss_map_scheduler R232; empty -/
  peaks    : List Nat := []
  /-- heat bound in mA; none when none applies; 06_loss_map_scheduler R227; none -/
  heat     : Option Int := none
  /-- site bound in mA; none when none applies; 06_loss_map_scheduler R229; none -/
  site     : Option Int := none
  /-- THERMAL_DERATE episode, frames with h at or above the span; 06_loss_map_scheduler R227; none -/
  derate   : Option Nat := none
  /-- LNENn wanted high at the commit; 1 bit; 05_phases_lanes_modulation R183; 0 -/
  lnen     : Bool := false
deriving DecidableEq, Repr

/-- A learned entry of the loss map (R206); an index with none holds the default model with CONF 0 (R210). -/
structure MapEnt where
  loss  : Nat
  freq  : Nat
  dtr   : Nat
  dtf   : Nat
  conf  : Nat
  count : Nat
deriving DecidableEq, Repr

/-- A phase's rainflow counter and temperatures (R224, R241). -/
structure Therm where
  /-- dT in 2^-32 of 0.01 degC; 06_loss_map_scheduler R224; 0 -/
  dT    : Int := 0
  /-- SCH[16+x].TJ in 0.01 degC; none without a pin temperature; 06_loss_map_scheduler R224, R226; none -/
  tj    : Option Int := none
  /-- turning points, newest first, at most 32; 06_loss_map_scheduler R241; empty -/
  turns : List Int := []
  /-- running extreme and direction (1 rising, -1 falling, 0 none); 06_loss_map_scheduler R241; none -/
  ext   : Option (Int × Int) := none
deriving DecidableEq, Repr

/-- The scheduler job's own state (06). -/
structure Sched where
  /-- learned entries by rising index; 12,288 or 6,144 entries of 8 bytes; 06_loss_map_scheduler R204; empty (default model) -/
  map     : List (Nat × MapEnt) := []
  /-- phases 0 to 15; 06_loss_map_scheduler R224; as Therm -/
  therm   : List Therm := rep 16 {}
  /-- live wear ledger; 06_loss_map_scheduler R241; as Ledger -/
  ledger  : List Ledger := rep 16 {}
  /-- remainders of ON_HOURS (frames) and ENERGY (10 pJ) by phase; 06_loss_map_scheduler R243; 0 -/
  rem     : List (Nat × Nat) := rep 16 (0, 0)
  /-- charge need and supply need before site bounds, in mW; 06_loss_map_scheduler R230; 0 -/
  needChg : Int := 0
  needDis : Int := 0
  /-- episodes of SITE_LIMITED: frames without a bound acting; 06_loss_map_scheduler R229; none -/
  siteEp  : Option Nat := none
  /-- share in force from the fleet, SCH[48].SITE_CHG and SITE_DIS; 32 bits; 06_loss_map_scheduler R245; 0xFFFFFFFF -/
  siteChg : Nat := 0xFFFFFFFF
  siteDis : Nat := 0xFFFFFFFF
  /-- SCH[48].PERSIST_GEN; 32 bits; 06_loss_map_scheduler R245; 0 -/
  gen     : Nat := 0
  /-- deferrable work granted in the last frame: order and item; 06_loss_map_scheduler R239; none -/
  grant   : Option (Nat × Nat) := none
  /-- BASE(n) and lane signatures in force, for R212; 06_loss_map_scheduler R212; 0 -/
  sigs    : List (List Nat) := rep 6 [0, 0, 0, 0, 0]
  /-- powered-time clock in frames since manufacture; 06_loss_map_scheduler R222; 0 (DESIGN CHOICE) (log 4) -/
  clock   : Nat := 0
  /-- powered frames since the last flush and the last persistence; 06_loss_map_scheduler R239; 0 -/
  sinceFlush : Nat := 0
  sincePers : Nat := 0
deriving DecidableEq, Repr

/-- The directory record of a persistence image (R222): generation, powered-time clock, lane signatures, CRC-32 of the image. -/
structure DirRec where
  gen   : Nat
  clock : Nat
  sigs  : List (List Nat)
  crc   : Nat
deriving DecidableEq, Repr

/-- A record of the wear-ledger region (R222, R244): the 64 bytes of a phase, or a directory record. -/
inductive BankRec where
  | phase (bytes : List Byte)
  | dir (d : DirRec)
deriving DecidableEq, Repr

/-! Sources, the link and seams (07). -/

/-- States of an input port (R250). -/
inductive SrcSt where
  | off | absent | qualify | connect | ready
deriving DecidableEq, Repr

/-- The STATE field of SRC[n].STATE (R281). -/
def SrcSt.code : SrcSt → Nat
  | .off => 0 | .absent => 1 | .qualify => 2 | .connect => 3 | .ready => 4

/-- A global sweep in progress (R259): point k, frames left of its dwell, V_hi and V_hi - V_lo in mV, powers found so far, the
reference before the sweep in mV, and the VIN times IIN powers of the dwell's last frames, newest first. -/
structure Sweep where
  k     : Nat
  left  : Nat
  vHi   : Int
  span  : Int
  found : List Int
  back  : Int
  pows  : List Int
deriving DecidableEq, Repr

/-- An input port (R250 to R262). -/
structure SrcPort where
  /-- port state; 3 bits; 07_sources_link_seams R250, R281; OFF -/
  st       : SrcSt := .off
  /-- CAUSE; 4 bits; 07_sources_link_seams R281; 0 -/
  cause    : Nat := 0
  /-- qualification count; 07_sources_link_seams R250; 0 -/
  qual     : Nat := 0
  /-- VINn MEAN of the last 100 frames of QUALIFY in mV, newest first; 07_sources_link_seams R251; empty -/
  vHist    : List Int := []
  /-- frames since SWINn closed in CONNECT; 07_sources_link_seams R250; 0 -/
  conFor   : Nat := 0
  /-- consecutive frames outside the widened window; 07_sources_link_seams R250; 0 -/
  lossRun  : Nat := 0
  /-- consecutive frames with the lane's input power below P_MIN; 07_sources_link_seams R252; 0 -/
  duskRun  : Nat := 0
  /-- the port wants SWINn closed; 1 bit; 07_sources_link_seams R250; 0 -/
  sw       : Bool := false
  /-- SWINn is to open once the lane is OFF; 1 bit; 07_sources_link_seams R250; 0 -/
  openLater : Bool := false
  /-- SRC[n].VOC in 0.1 V; 16 bits; 07_sources_link_seams R251; 0 -/
  voc      : Nat := 0
  /-- V_ref in mV; 07_sources_link_seams R254; 0 -/
  vRef     : Int := 0
  /-- MPPT tracking runs; 1 bit; 07_sources_link_seams R257; 0 -/
  track    : Bool := false
  /-- direction of the last step; 07_sources_link_seams R257; -1 -/
  dir      : Int := -1
  /-- P_last in uW; none before the first period; 07_sources_link_seams R257; none -/
  pLast    : Option Int := none
  /-- frames of the present MPPT period; 07_sources_link_seams R257; 0 -/
  perAge   : Nat := 0
  /-- sums over the period: power of its second half in uW, its frames, VIN, frames, frames clamped, frames the limit loop acted, power of
  the whole period; 07_sources_link_seams R257, R260, R269; 0 -/
  sumP     : Int := 0
  nP       : Nat := 0
  sumV     : Int := 0
  nV       : Nat := 0
  nClamp   : Nat := 0
  nLim     : Nat := 0
  sumAll   : Int := 0
  /-- SRC[n].VMPP_LAST in 0.1 V; 16 bits; 07_sources_link_seams R255; 0 -/
  vmpp     : Nat := 0
  /-- SRC[n].VMPP_AGE; 32 bits; 07_sources_link_seams R255; 0xFFFFFFFF -/
  vmppAge  : Nat := 0xFFFFFFFF
  /-- curtailing; 1 bit; 07_sources_link_seams R258; 0 -/
  curtail  : Bool := false
  /-- a sweep is asked for and waits for its grant; 1 bit; 07_sources_link_seams R259; 0 -/
  wantSweep : Bool := false
  /-- an abandoned sweep to be asked for again; 1 bit; 07_sources_link_seams R259; 0 -/
  againSweep : Bool := false
  /-- frames since the last sweep completed; 07_sources_link_seams R259; none -/
  sweepFor : Option Nat := none
  /-- sweep in progress; 07_sources_link_seams R259; none -/
  sweep    : Option Sweep := none
  /-- input-current search runs; 1 bit; 07_sources_link_seams R261; 0 -/
  icsOn    : Bool := false
  /-- I_ref in 0.01 A; 16 bits; 07_sources_link_seams R261; 0 -/
  iRef     : Nat := 0
  /-- ICS_FOUND in 0.01 A; 16 bits; 07_sources_link_seams R261; 0 -/
  icsFound : Nat := 0
  /-- search in HOLD; 1 bit; 07_sources_link_seams R261; 0 -/
  icsHold  : Bool := false
  /-- frames t in HOLD; 07_sources_link_seams R261; 0 -/
  icsT     : Nat := 0
  /-- frames and sums of VIN and IIN of the present period; 07_sources_link_seams R261; 0 -/
  icsAge   : Nat := 0
  icsSumV  : Int := 0
  icsSumI  : Int := 0
  /-- SRC[n].P_AVAIL in W; 16 bits; 07_sources_link_seams R269; 0 -/
  pAvail   : Nat := 0
  /-- candidates for P_AVAIL of the last 100,000 frames: age and power in uW, newest first, rising powers; 07_sources_link_seams R269; empty -/
  pHist    : List (Nat × Int) := []
deriving DecidableEq, Repr

/-- A seam in progress (R273): old holder, target, forced, step (1 settling, 2 ramp, 3 role swap pending), frames in the step, the
ramped output in mA, and that the remaining steps are due on the next frame (R274). -/
structure Seam where
  old    : Nat
  target : Nat
  forced : Bool
  step   : Nat
  age    : Nat
  ramp   : Int
  hurry  : Bool
deriving DecidableEq, Repr

/-- A loop of the form of R179: integrator in 2^-16 mA, direction of the last clamp, output in mA. -/
structure Loop where
  i   : Int := 0
  cl  : Int := 0
  out : Int := 0
deriving DecidableEq, Repr

/-- The link job (R263 to R279). -/
structure LinkJob where
  /-- holder code: 0 NONE, 1 PACKS, 2 EXTERNAL, 4 to 7 SOURCE; 4 bits; 07_sources_link_seams R269, R282; 0 -/
  holder    : Nat := 0
  /-- VSET_EFF in mV; 07_sources_link_seams R263; 0 (DESIGN CHOICE) (log 7) -/
  vsetEff   : Int := 0
  /-- set-point in force in mV; 07_sources_link_seams R263; 0 -/
  vset      : Int := 0
  /-- the set-point still slews after a role swap; 1 bit; 07_sources_link_seams R263; 0 -/
  slewing   : Bool := false
  /-- link loop, charge-back loop, supplement loop, input-current loop; 07_sources_link_seams R264, R265; 0 -/
  main      : Loop := {}
  cb        : Loop := {}
  sup       : Loop := {}
  ics       : Loop := {}
  /-- pack-set demand in mA; 07_sources_link_seams R264; 0 -/
  demand    : Int := 0
  /-- pack-set demand as it would stand without the site bound, in mA; 06_loss_map_scheduler R229, R230; 0 -/
  demFree   : Int := 0
  /-- surge path: the loop takes the sum of FP_I; 1 bit; 07_sources_link_seams R267; 0 -/
  fpHand    : Bool := false
  /-- seam in progress; 07_sources_link_seams R273; none -/
  seam      : Option Seam := none
  /-- a forced seam to be decided: the cause; 07_sources_link_seams R272; none -/
  force     : Option Nat := none
  /-- elective seam requested: target and frame of effect; 07_sources_link_seams R271; none -/
  elect     : Option (Nat × Nat) := none
  /-- frames since the last seam began; none when none since BOOT; 07_sources_link_seams R271; none -/
  seamFor   : Option Nat := none
  /-- a seam has ended in the present frame; 1 bit; 07_sources_link_seams R274; 0 -/
  seamEnd   : Bool := false
  /-- SRC[4].SEAMS; 32 bits; 07_sources_link_seams R280; 0 -/
  seams     : Nat := 0
  /-- frames the holder's HOLD_FAIL condition has held; 07_sources_link_seams R272; 0 -/
  failRun   : Nat := 0
  /-- consecutive frames with VLINK inside the link window; 07_sources_link_seams R278; 0 -/
  inWin     : Nat := 0
  /-- SWLINK closed; 1 bit; 07_sources_link_seams R268; 0 -/
  swlink    : Bool := false
  /-- SWLINK is to open once every lane is OFF; 1 bit; 07_sources_link_seams R268; 0 -/
  swOpen    : Bool := false
  /-- LINKLOWn asserted; 1 bit; 07_sources_link_seams R279; 0 -/
  lown      : Bool := false
  /-- cause mask of LINKLOWn in the last frame; 6 bits; 07_sources_link_seams R279; 0 -/
  lownMask  : Nat := 0
  /-- the link job has tested the causes since reset; 1 bit; 07_sources_link_seams R282; 0 -/
  lownRan   : Bool := false
  /-- consecutive frames with and without a cause; 07_sources_link_seams R279; 0 -/
  lownOn    : Nat := 0
  lownOff   : Nat := 0
deriving DecidableEq, Repr

/-! Packs (08). -/

/-- Phases of a pack session (R318). -/
inductive PkPh where
  | absent | qualify | precharge | cc | cv | taper | rest | maintain | storage | supply
deriving DecidableEq, Repr

/-- The PHASE field of CHG[p].STATE (R318). -/
def PkPh.code : PkPh → Nat
  | .absent => 0 | .qualify => 1 | .precharge => 2 | .cc => 3 | .cv => 4 | .taper => 5 | .rest => 6 | .maintain => 7
  | .storage => 8 | .supply => 9

/-- What the split of a demand takes of a pack: link-side limits and weights, and the lane demand it gives. -/
structure PackLim where
  lc : Int := 0
  ld : Int := 0
  wC : Int := 0
  wD : Int := 0
  u  : Int := 0
deriving DecidableEq, Repr

/-- A pack session (R295 to R312). -/
structure Pack where
  /-- PHASE; 4 bits; 08_pack_charging R318; ABSENT -/
  ph       : PkPh := .absent
  /-- CONNECT, QUALIFY at step CONNECT; 1 bit; 08_pack_charging R318; 0 -/
  connect  : Bool := false
  /-- CAUSE; 4 bits; 08_pack_charging R318; 0 -/
  cause    : Nat := 0
  /-- causes already reported by QUALIFY_FAILED since QUALIFY was entered; mask; 08_pack_charging R295; 0 -/
  reported : Nat := 0
  /-- consecutive frames of the qualification; 08_pack_charging R295; 0 -/
  qual     : Nat := 0
  /-- consecutive frames VPP has lain in the attach window (PARTNER 0); 08_pack_charging R295; 0 -/
  attRun   : Nat := 0
  /-- frames since SWPPx closed; none while open; 08_pack_charging R295; none -/
  swFor    : Option Nat := none
  /-- SWPPx is to open once the lane is OFF; 1 bit; 08_pack_charging R295; 0 -/
  openLater : Bool := false
  /-- consecutive frames of the condition that ends PRECHARGE or CC; 08_pack_charging R295; 0 -/
  run1     : Nat := 0
  /-- consecutive frames with the current at or below the termination current; 08_pack_charging R295; 0 -/
  termRun  : Nat := 0
  /-- consecutive frames of the MAINTAIN recharge condition; 08_pack_charging R295; 0 -/
  mntRun   : Nat := 0
  /-- consecutive frames with supply current, and without; 08_pack_charging R295; 0 -/
  supRun   : Nat := 0
  noSupRun : Nat := 0
  /-- clock of PRE_TIMEOUT; 08_pack_charging R299; 0 -/
  preClk   : Nat := 0
  /-- clock of CHG_TIMEOUT; 08_pack_charging R299; 0 -/
  chgClk   : Nat := 0
  /-- frames since entry to the phase (REST_TIME, top-off wait); 08_pack_charging R295, R299; 0 -/
  inPh     : Nat := 0
  /-- frames since the top-off grant; none without a grant; 08_pack_charging R308; none -/
  topFor   : Option Nat := none
  /-- top-off wanted and waiting for its grant; 1 bit; 08_pack_charging R308; 0 -/
  topWant  : Bool := false
  /-- resume phase of SUPPLY; 08_pack_charging R295; MAINTAIN -/
  resume   : PkPh := .maintain
  /-- CHG[p].PRE_RETRIES; 32 bits; 08_pack_charging R315; 0 -/
  retries  : Nat := 0
  /-- state of charge in 2^-48 of capacity; 08_pack_charging R305; 0 -/
  soc      : Nat := 0
  /-- UNANCHORED; 1 bit; 08_pack_charging R307; 0 -/
  unanch   : Bool := false
  /-- an SOC of this attachment exists; 1 bit; 08_pack_charging R307; 0 -/
  socSet   : Bool := false
  /-- frames of the open-circuit anchor condition; 08_pack_charging R306; 0 -/
  ocvRun   : Nat := 0
  /-- frames of the floor anchor condition; 08_pack_charging R306; 0 -/
  flrRun   : Nat := 0
  /-- frames since the last end-of-charge anchor; none without one; 08_pack_charging R309; none -/
  eocFor   : Option Nat := none
  /-- AH_THRU in mA frames (0.1 Ah is 3.6 x 10^10 of them); 08_pack_charging R305; 0 -/
  ahThru   : Nat := 0
  /-- region code of R291; 3 bits; 08_pack_charging R291, R318; 1 -/
  region   : Nat := 1
  /-- region of the contract temperature and of the pin, none while unavailable; 08_pack_charging R292; none -/
  regCon   : Option Nat := none
  regPin   : Option Nat := none
  /-- V_CHG and V_FLOOR_EFF in mV; 08_pack_charging R293; 0 -/
  vChg     : Int := 0
  vFloor   : Int := 0
  /-- I_CHG and I_DIS in mA; 08_pack_charging R293; 0 -/
  iChg     : Int := 0
  iDis     : Int := 0
  /-- SUPPLY_OK, permitted to supply; 1 bit; 08_pack_charging R298; 0 -/
  supOk    : Bool := false
  /-- link-side limits Lc_p and Ld_p in mA; 08_pack_charging R301; 0 -/
  lc       : Int := 0
  ld       : Int := 0
  /-- weights of R302 in 2^-16 mA; 08_pack_charging R302; 0 -/
  wC       : Int := 0
  wD       : Int := 0
  /-- CHG[p].SHARE a_p in mA; 32 bits, signed; 08_pack_charging R303; 0 -/
  share    : Int := 0
  /-- lane demand u_p in mA; 08_pack_charging R303; 0 -/
  uDem     : Int := 0
  /-- limits, weights and lane demand as they would stand without the site bound; 06_loss_map_scheduler R229, R230; 0 -/
  free     : PackLim := {}
  /-- capacity test running, with its frames; 08_pack_charging R309; none -/
  test     : Option Nat := none
  /-- capacity test requested and waiting; 1 bit; 08_pack_charging R309; 0 -/
  testWant : Bool := false
  /-- link-side current asked of the test, CAPTEST_C x C, in mA; 08_pack_charging R309; 0 -/
  testAmp  : Int := 0
  /-- charge delivered by the test in mA frames; 08_pack_charging R309; 0 -/
  testAh   : Nat := 0
  /-- consecutive frames of a test with VPPn at or below V_floor; 08_pack_charging R309; 0 -/
  testRun  : Nat := 0
  /-- CHG[p].CAP_MEAS in 0.1 Ah; 16 bits; 08_pack_charging R315; 0 -/
  capMeas  : Nat := 0
  /-- frames since the removal while its hold-off lasts; 08_pack_charging R311; none -/
  holdoff  : Option Nat := none
  /-- consecutive capture banks with the current collapse; 08_pack_charging R310; 0 -/
  collapse : Nat := 0
  /-- the contract's SOC report taken in this frame; 1 bit; 08_pack_charging R306; 0 -/
  socRep   : Bool := false
deriving DecidableEq, Repr

/-- The charge unit (R301, R313). -/
structure ChgUnit where
  /-- C_MAX in mA; 32 bits; 08_pack_charging R301; 0 -/
  cMax     : Int := 0
  /-- S_MAX in mA; 32 bits; 08_pack_charging R301; 0 -/
  sMax     : Int := 0
  /-- C_max and S_max as they would stand without the site bound, in mA; 06_loss_map_scheduler R229, R230; 0 -/
  cFree    : Int := 0
  sFree    : Int := 0
  /-- the fallback profile is in force; 1 bit; 08_pack_charging R313; 0 -/
  fallback : Bool := false
deriving DecidableEq, Repr

/-! Partner ports and the Plehal protocol (09). -/

/-- States of a partner port (R346). -/
inductive PtSt where
  | detached | attachWait | attached | negotiating | contract | swapping | softReset | hardReset | safe0
deriving DecidableEq, Repr

/-- The STATE field of PRT[p].STATE (R362). -/
def PtSt.code : PtSt → Nat
  | .detached => 0 | .attachWait => 1 | .attached => 2 | .negotiating => 3 | .contract => 4 | .swapping => 5 | .softReset => 6
  | .hardReset => 7 | .safe0 => 8

/-- A message of the controller's own (R327, R331): type, ID, payload. -/
structure PMsg where
  typ : Nat
  id  : Nat
  pay : List Byte
deriving DecidableEq, Repr

/-- What a contract is (R338, R341): none, supply (offer voltage in 0.1 V, operating and largest current in 0.01 A, tolerance in %),
a null contract, or a pack contract. -/
inductive Contract where
  | none
  | null
  | supply (v iOp iMax tol : Nat)
  | pack
deriving DecidableEq, Repr

/-- An offer of CAPS (R335): voltage in 0.1 V, current in 0.01 A, tolerance in %. -/
structure Offer where
  v   : Nat
  i   : Nat
  tol : Nat
deriving DecidableEq, Repr

/-- A pack's PACK_CAPS (R335); a bound beyond the LEN received is absent (R336). -/
structure PkCaps where
  chem   : Nat
  cells  : Nat
  cap    : Nat
  vMax   : Option Nat
  vMin   : Option Nat
  iChg   : Option Nat
  iDis   : Option Nat
  soh    : Nat
  serial : Nat
deriving DecidableEq, Repr

/-- A pack's last PACK_STATUS (R335), absent fields as none, and its age in frames. -/
structure PkStat where
  soc    : Option Nat
  temp   : Option Int
  vMaxC  : Option Nat
  vMinC  : Option Nat
  spread : Option Nat
  iChg   : Option Nat
  iDis   : Option Nat
  vMax   : Option Nat
  vMin   : Option Nat
  flags  : Nat
  age    : Nat
deriving DecidableEq, Repr

/-- A check of the other end's certificate and signature (R357, R358): step (1 certificate, 2 challenge sent), certificate bytes,
TOTAL, nonce, frames since it began, the OPNUM of the PORT_CMD that asked for it. -/
structure AuthRun where
  step  : Nat
  bytes : List Byte
  total : Nat
  nonce : List Byte
  age   : Nat
  op    : Option Nat
deriving DecidableEq, Repr

/-- A partner port (R320 to R360). -/
structure PtPort where
  /-- port state; 4 bits; 09_partner_ports R346, R362; DETACHED -/
  st       : PtSt := .detached
  /-- a source or a resistor stands on the configuration wires; 1 bit; 09_partner_ports R320, R344; 0 -/
  shows    : Bool := false
  /-- presents as provider; 1 bit; 09_partner_ports R321; 0 -/
  prov     : Bool := false
  /-- frames in the present dual-role half cycle; 09_partner_ports R321; 0 -/
  dualAge  : Nat := 0
  /-- wire levels of the last idle frame in mV, and idle in the last frame; 09_partner_ports R322; 0, 0, idle -/
  cfgA     : Nat := 0
  cfgB     : Nat := 0
  idle     : Bool := true
  /-- partner seen in the last frame: talk wire (0 A, 1 B) and cable code; 09_partner_ports R323; none -/
  seen     : Option (Nat × Nat) := none
  /-- consecutive frames with the same partner; 09_partner_ports R323; 0 -/
  seenRun  : Nat := 0
  /-- consecutive frames with the talk wire outside its band; 09_partner_ports R325; 0 -/
  lostRun  : Nat := 0
  /-- talk wire latched: 0 A, 1 B; 09_partner_ports R323; 0 -/
  talk     : Nat := 0
  /-- own cable code; 09_partner_ports R322; 0xFF not measured -/
  code     : Nat := 0xFF
  /-- partner's cable code from HELLO; 09_partner_ports R324; 0xFF -/
  code2    : Nat := 0xFF
  /-- frames of the plug measurement; none while not measuring; 09_partner_ports R324; none -/
  plug     : Option Nat := none
  /-- frames in the present state; 09_partner_ports R346; 0 -/
  inState  : Nat := 0
  /-- next message ID; 8 bits; 09_partner_ports R331; 0 -/
  nextId   : Nat := 0
  /-- TYPE and ID of the last message received, and the ACK RESULT given; 09_partner_ports R332; none -/
  lastRx   : Option (Nat × Nat × Nat) := none
  /-- own message not yet acknowledged, its sends, frames since its last send; 09_partner_ports R331, R334; none -/
  unacked  : Option (PMsg × Nat × Nat) := none
  /-- own messages waiting for the wire, oldest first; 09_partner_ports R331; empty -/
  queue    : List (Nat × List Byte) := []
  /-- frames that wait for the wire, oldest first; 09_partner_ports R330; empty -/
  out      : List PMsg := []
  /-- frame on the wire, or the last one put on it; 09_partner_ports R330; none -/
  lastTx   : Option PMsg := none
  /-- frames that the frame on the wire still lasts; 09_partner_ports R327; 0 -/
  busyFor  : Nat := 0
  /-- frames since the end of the last frame on the wire; 09_partner_ports R330; 0 -/
  wireFor  : Nat := 0
  /-- random wait of a retry in frames; 0 to 20; 09_partner_ports R330; 0 -/
  backoff  : Nat := 0
  /-- frames put on the wire in this frame: header, payload and CRC; 09_partner_ports R326, R327; empty -/
  sent     : List (List Byte) := []
  /-- hard-reset marker put on the wire in this frame; 1 bit; 09_partner_ports R328; 0 -/
  mark     : Bool := false
  /-- own HELLO acknowledged; partner's HELLO acknowledged; HELLO sent; 09_partner_ports R337; 0 -/
  helloTx  : Bool := false
  helloRx  : Bool := false
  helloOut : Bool := false
  /-- partner's MIN_VER, MAX_VER, ROLES, AUTH; 09_partner_ports R335; 0 -/
  pMin     : Nat := 0
  pMax     : Nat := 0
  pRoles   : Nat := 0
  pAuth    : Nat := 0
  /-- PRT[p].VER, selected version; 16 bits; 09_partner_ports R337; 0 -/
  ver      : Nat := 0
  /-- version selection made and reported; 1 bit; 09_partner_ports R337; 0 -/
  verDone  : Bool := false
  /-- offers advertised or received; 09_partner_ports R339, R340; empty -/
  offers   : List Offer := []
  /-- contract in force or being made; 09_partner_ports R338, R341; none -/
  con      : Contract := .none
  /-- the contract is void, its voltage and bound still held; 1 bit; 09_partner_ports R353; 0 -/
  void     : Bool := false
  /-- contract under negotiation; 09_partner_ports R338; none -/
  next     : Contract := .none
  /-- the REQUEST or PACK_REQUEST has been answered OK; 1 bit; 09_partner_ports R338, R341; 0 -/
  reqOk    : Bool := false
  /-- READY sent or received and acknowledged; 1 bit; 09_partner_ports R338, R341; 0 -/
  readyOk  : Bool := false
  /-- consecutive frames with VPP within the tolerance, and outside it; 09_partner_ports R339, R340; 0 -/
  inTol    : Nat := 0
  outTol   : Nat := 0
  /-- the taker's port has settled after READY; 1 bit; 09_partner_ports R340; 0 -/
  settled  : Bool := false
  /-- provider's voltage reference ramp in mV; 09_partner_ports R339; 0 -/
  vRamp    : Int := 0
  /-- SWPPx wanted closed by a partner contract; 1 bit; 09_partner_ports R339; 0 -/
  sw       : Bool := false
  /-- taker demand set to 0 by an ALERT or a lost window; 1 bit; 09_partner_ports R340, R345; 0 -/
  noDemand : Bool := false
  /-- the port has been in CONTRACT since attach; 1 bit; 09_partner_ports R356; 0 -/
  hadCon   : Bool := false
  /-- PACK_CAPS; 09_partner_ports R335; none -/
  pk       : Option PkCaps := none
  /-- PACK_REQUEST as sent: I_CHG, I_DIS, V_MAX, V_MIN, PERIOD; 09_partner_ports R341; none -/
  pkReq    : Option (Nat × Nat × Nat × Nat × Nat) := none
  /-- PACK_STATUS; 09_partner_ports R335; none -/
  stat     : Option PkStat := none
  /-- GET_STATUS sent since the last PACK_STATUS; 1 bit; 09_partner_ports R342; 0 -/
  statAsked : Bool := false
  /-- frames since the last exchange in CONTRACT; 09_partner_ports R347; 0 -/
  quiet    : Nat := 0
  /-- cause of the last soft reset or hard reset; 09_partner_ports R363; 0 -/
  cause    : Nat := 0
  /-- frames since the end of the last marker sent; none when none since BOOT; 09_partner_ports R354; none -/
  markFor  : Option Nat := none
  /-- the marker of this HARD_RESET was sent or received; 1 bit; 09_partner_ports R346, R354; 0 -/
  marked   : Bool := false
  /-- hard resets since attach; 16 bits; 09_partner_ports R363; 0 -/
  hardAtt  : Nat := 0
  /-- VPP at entry to HARD_RESET, or the contract voltage of a swap, in mV; 09_partner_ports R351, R355; 0 -/
  vHard    : Int := 0
  /-- consecutive frames with VPP below 5 %; 09_partner_ports R351, R355; 0 -/
  lowRun   : Nat := 0
  /-- detach test held off after SWAPPING, frames left; 09_partner_ports R325; 0 -/
  detHold  : Nat := 0
  /-- the controller is the old provider of a swap; 1 bit; 09_partner_ports R351; 0 -/
  swapOld  : Bool := false
  /-- own ROLE_SWAP waits for a retry after WAIT, frames; 09_partner_ports R360; none -/
  swapRetry : Option Nat := none
  /-- SWAP_OFF has been answered OK: the role changes once the ACK is off the wire; 1 bit; 09_partner_ports R351; 0 -/
  takeOver : Bool := false
  /-- an ALERT of the controller's state waits for the end of a soft reset; 1 bit; 09_partner_ports R344; 0 -/
  alertDue : Bool := false
  /-- roles have been exchanged since the PORT_CMD in progress began; 1 bit; 09_partner_ports R360; 0 -/
  swapped  : Bool := false
  /-- ROLE_SWAPs of the PORT_CMD answered WAIT; 09_partner_ports R360; 0 -/
  swapTries : Nat := 0
  /-- OPNUM and action of the PORT_CMD in progress; 09_partner_ports R360; none -/
  op       : Option (Nat × Nat) := none
  /-- outcome of the PORT_CMD awaited by its completion; 09_partner_ports R360; none -/
  opDone   : Option Nat := none
  /-- authentication in progress; 09_partner_ports R357; none -/
  auth     : Option AuthRun := none
  /-- authentication passed; result of the last check; 09_partner_ports R356, R358; none -/
  authRes  : Option Nat := none
  /-- counters SOFT_RESETS, HARD_RESETS, RESENDS, CRC_ERRORS; 32 bits each; 09_partner_ports R361; 0 -/
  softN    : Nat := 0
  hardN    : Nat := 0
  resends  : Nat := 0
  crcErr   : Nat := 0
  /-- MODE, PRESENT, OFFER_, TAKE_ and STATUS_PERIOD in force in the frame before; 09_partner_ports R343, R346; none -/
  seenPar  : Option (List Nat) := none
  /-- number of offers last advertised; 09_partner_ports R343; 0 -/
  advN     : Nat := 0
  /-- controller state in the frame before; 09_partner_ports R344; BOOT -/
  sawCtl   : Ctl := .boot
deriving DecidableEq, Repr

/-! The fleet bus (10). -/

/-- Fleet states (R375). -/
inductive FlSt where
  | linkdown | joining | member | root | islanded
deriving DecidableEq, Repr

/-- The code of a fleet state (R406). -/
def FlSt.code : FlSt → Nat
  | .linkdown => 0 | .joining => 1 | .member => 2 | .root => 3 | .islanded => 4

/-- A fleet frame (R369): TYPE, ROUTE, LSEQ, VER, SRC, DST, payload. -/
structure FFrame where
  typ   : Nat
  route : Nat
  lseq  : Nat
  ver   : Nat
  src   : Nat
  dst   : Nat
  pay   : List Byte
deriving DecidableEq, Repr

/-- A fleet port (R364 to R370). -/
structure FlPort where
  /-- link up; 1 bit; 10_fleet_bus R366, R407; 0 -/
  up      : Bool := false
  /-- consecutive frames in which the link-up condition held; 10_fleet_bus R366; 0 -/
  upRun   : Nat := 0
  /-- consecutive frames without a valid marker or tick; 10_fleet_bus R366; 0 -/
  silent  : Nat := 0
  /-- a valid marker or tick was taken in this frame; 1 bit; 10_fleet_bus R366; 0 -/
  got     : Bool := false
  /-- a valid marker was taken in this frame; 1 bit; 10_fleet_bus R375; 0 -/
  gotMark : Bool := false
  /-- code violations of the last frame; 10_fleet_bus R366; 0 -/
  viol    : Nat := 0
  /-- comma alignment held in the last frame; 1 bit; 10_fleet_bus R366; 0 -/
  aligned : Bool := false
  /-- HELLO of the neighbour: VER_MIN, VER_MAX, PRIO, FLAGS, SERIAL, ADDR_PREF; 10_fleet_bus R372; none -/
  hello   : Option (Nat × Nat × Nat × Nat × Nat × Nat) := none
  /-- link version; 0 none or no common version; 10_fleet_bus R376; 0 -/
  ver     : Nat := 0
  /-- ranges of the two ends do not meet; 1 bit; 10_fleet_bus R376; 0 -/
  noVer   : Bool := false
  /-- blocked as a loop; 1 bit; 10_fleet_bus R373; 0 -/
  loop    : Bool := false
  /-- last ANNOUNCE: ROOT_PRIO, ROOT_SERIAL, DEPTH, FLEET_DEPTH, FLEET_VER, UNITS; 10_fleet_bus R372; none -/
  ann     : Option (Nat × Nat × Nat × Nat × Nat × Nat) := none
  /-- CUT and ROOTED of the last marker; 10_fleet_bus R368; 0 -/
  cut     : Bool := false
  rooted  : Bool := false
  /-- consecutive frames with a valid marker with ROOTED set; 10_fleet_bus R375; 0 -/
  rootedRun : Nat := 0
  /-- JOINED flag of the last tick; 10_fleet_bus R368; 0 -/
  joined  : Bool := false
  /-- FLE[p].HOP_DELAY in 39.0625 ps; 32 bits; 10_fleet_bus R382; 0 -/
  hop     : Nat := 0
  /-- last 16 hop delays, newest first; 10_fleet_bus R382; empty -/
  hops    : List Int := []
  /-- T1 of the DELAY_REQ outstanding; 10_fleet_bus R382; none -/
  t1      : Option Nat := none
  /-- next LSEQ to send; 8 bits; 10_fleet_bus R370; 1 (DESIGN CHOICE) (log 6) -/
  txSeq   : Nat := 1
  /-- last LSEQ received in order; 8 bits; 10_fleet_bus R370; 0 (DESIGN CHOICE) (log 6) -/
  rxSeq   : Nat := 0
  /-- frames sent and not acknowledged, oldest first, at most 8; 10_fleet_bus R370; empty -/
  unacked : List FFrame := []
  /-- frames since the oldest was sent or resent; 10_fleet_bus R370; 0 -/
  ackAge  : Nat := 0
  /-- frames waiting to be sent, with their priority; 10_fleet_bus R370, R371; empty -/
  wait    : List (Nat × FFrame) := []
  /-- frames put on the line in this frame, oldest first: header, payload and CRC; 10_fleet_bus R369; empty -/
  sent    : List (List Byte) := []
  /-- data bytes of the marker and of the tick sent in this frame; 10_fleet_bus R368; none -/
  mark    : Option (List Byte) := none
  tick    : Option (List Byte) := none
  /-- FLE[p].CRC_ERRORS and RESENDS; 32 bits; 10_fleet_bus R405; 0 -/
  crcErr  : Nat := 0
  resends : Nat := 0
  /-- authentication in progress; 10_fleet_bus R377; none -/
  auth    : Option AuthRun := none
  /-- result of the last check; 10_fleet_bus R377; none -/
  authRes : Option Nat := none
  /-- frames since the last failed check; 10_fleet_bus R377; 0 -/
  authAge : Nat := 0
  /-- NEED of the child subtree's BARRIER_UP: HELD and LEVEL (none transparent); 10_fleet_bus R395; none -/
  barHeld : Bool := false
  barLvl  : Option Nat := none
deriving DecidableEq, Repr

/-- An inner command in progress at this unit (R393): ORIGIN, OPID, its tag while its reply is awaited, OPNUM of an inner long
operation that runs, and whether it was broadcast. -/
structure InnerCmd where
  origin : Nat
  opid   : Nat
  tag    : Option Nat
  op     : Option Nat
  bcast  : Bool
deriving DecidableEq, Repr

/-- A gathering of snapshot records at the origin (R396): OPNUM, frame, records of the window in order of arrival with their units, the
units of the records before the window, and the frames since frame L has passed. -/
structure SnapRun where
  num    : Nat
  frame  : Nat
  recs   : List (Nat × List Byte)
  gone   : List Nat
  age    : Nat
deriving DecidableEq, Repr

/-- The fleet job (R375 to R402). -/
structure Fleet where
  /-- fleet state; 3 bits; 10_fleet_bus R375, R406; LINKDOWN -/
  st       : FlSt := .linkdown
  /-- cause of the last state change; 10_fleet_bus R408; 0 -/
  cause    : Nat := 0
  /-- ports UP, DOWN and BRANCH; 10_fleet_bus R364; as FlPort -/
  ports    : List FlPort := [{}, {}, {}]
  /-- port that faces the parent; 10_fleet_bus R373; none -/
  parent   : Option Nat := none
  /-- FLE[3].ADDR; 16 bits; 10_fleet_bus R378; 0xFFFF -/
  addr     : Nat := 0xFFFF
  /-- address held before a change of root; 10_fleet_bus R378; none -/
  prevAddr : Option Nat := none
  /-- FLE[3].DEPTH; 16 bits; 10_fleet_bus R405; 0 -/
  depth    : Nat := 0
  /-- FLE[3].FLEET_DEPTH; 16 bits; 10_fleet_bus R405; 0 -/
  fdepth   : Nat := 0
  /-- FLEET_VER of ANNOUNCE; 8 bits; 10_fleet_bus R403; 2 -/
  fver     : Nat := 2
  /-- FLE[3].UNITS; 16 bits; 10_fleet_bus R405; 1 -/
  units    : Nat := 1
  /-- best root known: PRIO, SERIAL; 10_fleet_bus R380; none -/
  best     : Option (Nat × Nat) := none
  /-- FLE[3].ROOT_SERIAL; 64 bits; 10_fleet_bus R405; 0 -/
  rootSer  : Nat := 0
  /-- frames in the present state; 10_fleet_bus R375; 0 -/
  inState  : Nat := 0
  /-- frames since an ANNOUNCE of a better root; 10_fleet_bus R375; 0 -/
  annAge   : Nat := 0
  /-- frames since JOIN_REQ was sent; none when none is outstanding; 10_fleet_bus R375; none -/
  joinAge  : Option Nat := none
  /-- missed parent markers, consecutive; 10_fleet_bus R375; 0 -/
  missed   : Nat := 0
  /-- FLE[3].OFFSET in 39.0625 ps; 32 bits, signed; 10_fleet_bus R383; 0 -/
  offset   : Int := 0
  /-- an offset of this frame has been measured; 1 bit; 10_fleet_bus R383; 0 -/
  offNew   : Bool := false
  /-- an offset from the present parent has been measured; 1 bit; 10_fleet_bus R383; 0 -/
  offKnown : Bool := false
  /-- the member has joined and has still to handle its offset; 1 bit; 10_fleet_bus R386; 0 -/
  alignDue : Bool := false
  /-- ALIGNED; 1 bit; 10_fleet_bus R384; 0 -/
  aligned  : Bool := false
  /-- consecutive frames below 10 ns; 10_fleet_bus R384; 0 -/
  alignRun : Nat := 0
  /-- SLEWING; 1 bit; 10_fleet_bus R386; 0 -/
  slewing  : Bool := false
  /-- CUT; 1 bit; 10_fleet_bus R387; 0 -/
  cut      : Bool := false
  /-- frames to be added to the frame counter at the next cycle 0; 10_fleet_bus R386, R111; none -/
  renumber : Option Int := none
  /-- counter n of fleet LAUNCH_IDs; 5 bits; 10_fleet_bus R391; 0 (DESIGN CHOICE) (log 6) -/
  launchN  : Nat := 0
  /-- next BSEQ (root) or last BSEQ seen; 16 bits; 10_fleet_bus R370; 0 (DESIGN CHOICE) (log 6) -/
  bseq     : Nat := 0
  /-- a broadcast of this fleet has been seen; 1 bit; 10_fleet_bus R370; 0 -/
  bseen    : Bool := false
  /-- broadcasts missed and asked for by REPAIR; 10_fleet_bus R370; empty -/
  gaps     : List Nat := []
  /-- last 32 broadcasts, newest first; 10_fleet_bus R370; empty -/
  kept     : List FFrame := []
  /-- route table: address and the port of its subtree; 10_fleet_bus R371; empty -/
  routes   : List (Nat × Nat) := []
  /-- members known to the root: address, SERIAL, link version, depth; 10_fleet_bus R378; empty -/
  members  : List (Nat × Nat × Nat × Nat) := []
  /-- addresses offered in JOIN_REQ, by SERIAL; 10_fleet_bus R378; empty -/
  offered  : List (Nat × Nat) := []
  /-- JOIN_REQ SERIALs passed up, with the port they came from; 10_fleet_bus R371; empty -/
  joinFrom : List (Nat × Nat) := []
  /-- OPID of the next CMD; 16 bits; 10_fleet_bus R393; 0 (DESIGN CHOICE) (log 6) -/
  opid     : Nat := 0
  /-- CMD and inner long operations in progress here; 10_fleet_bus R395; empty -/
  inner    : List InnerCmd := []
  /-- own barriers not released, oldest first: BARRIER, OPNUM, frames since issue, TIMEOUT; 10_fleet_bus R395; empty -/
  bars     : List (Nat × Nat × Nat × Nat) := []
  /-- last BARRIER_UP sent: HELD, LEVEL; 10_fleet_bus R395; not held, transparent -/
  barSent  : Bool × Option Nat := (false, none)
  /-- last 8 snapshot records of this unit, newest first: frame, record; 10_fleet_bus R396; empty -/
  snaps    : List (Nat × List Byte) := []
  /-- last gathering begun at this unit; 10_fleet_bus R396; none -/
  snap     : Option SnapRun := none
  /-- earlier gatherings whose results are still held; 02_host_commands R45, 10_fleet_bus R396; empty -/
  snapHeld : List SnapRun := []
  /-- SNAP_REQ waiting for its frame: FRAME, requester; 10_fleet_bus R396; empty -/
  snapReqs : List (Nat × Nat) := []
  /-- events that wait for their source's turn: source (0 this unit, q + 1 port q), unit and entry, in order of arrival; 10_fleet_bus R398; empty -/
  evIn     : List (Nat × Nat × List Byte) := []
  /-- source whose turn is next; 10_fleet_bus R398; 0 -/
  evTurn   : Nat := 0
  /-- upstream event queue: unit and entry, oldest first; at most 32; 10_fleet_bus R398; empty -/
  evUp     : List (Nat × List Byte) := []
  /-- events dropped and not yet reported, by unit; 10_fleet_bus R398; empty -/
  evDrop   : List (Nat × Nat) := []
  /-- FLE[3].EVT_LOST; 32 bits; 10_fleet_bus R405; 0 -/
  evLost   : Nat := 0
  /-- needs received by the root: unit, NEED_CHG, NEED_DIS, PRIO; 10_fleet_bus R400; empty -/
  needs    : List (Nat × Nat × Nat × Nat) := []
  /-- units whose NEED has come since the last sharing; 10_fleet_bus R400; empty -/
  round    : List Nat := []
  /-- SHARES have taken effect since the unit joined; 1 bit; 10_fleet_bus R402; 0 -/
  shared   : Bool := false
  /-- own entry of the last SHARES: the frame of its effect, CHG, DIS; 10_fleet_bus R400, R401; none -/
  shares   : Option (Nat × Nat × Nat) := none
  /-- frames since NEED, ANNOUNCE, DELAY_REQ were sent; 10_fleet_bus R380, R382, R400; 0 -/
  needAge  : Nat := 0
  annSent  : Nat := 0
  delayAge : Nat := 0
  /-- frames spent ISLANDED; 10_fleet_bus R375; 0 -/
  islFor   : Nat := 0
deriving DecidableEq, Repr

/-! Rails and resets (11). -/

/-- Rail states (R412). -/
inductive RlSt where
  | off | ramp | running | failedUp | falling
deriving DecidableEq, Repr

/-- The STATE field of SEQ[n].STATE (R429). -/
def RlSt.code : RlSt → Nat
  | .off => 0 | .ramp => 1 | .running => 2 | .failedUp => 3 | .falling => 4

/-- Sequencer states (R416). -/
inductive SqSt where
  | idle | powerUp | running | powerDown | tripped
deriving DecidableEq, Repr

/-- The STATE field of SEQ[8].STATE (R430). -/
def SqSt.code : SqSt → Nat
  | .idle => 0 | .powerUp => 1 | .running => 2 | .powerDown => 3 | .tripped => 4

/-- A rail (R410 to R414). -/
structure Rail where
  /-- rail state; 3 bits; 11_rail_sequencing R412, R429; OFF -/
  st     : RlSt := .off
  /-- raw good signal; 1 bit; 11_rail_sequencing R410; 0 -/
  raw    : Bool := false
  /-- debounced good signal; 1 bit; 11_rail_sequencing R411; 0 -/
  good   : Bool := false
  /-- consecutive frames the raw signal has held its level; 11_rail_sequencing R411; 0 -/
  rawRun : Nat := 0
  /-- last raw clear caused by V_OV; 1 bit; 11_rail_sequencing R429; 0 -/
  ov     : Bool := false
  /-- SEQENn wanted high at the commit; 1 bit; 11_rail_sequencing R409; 0 -/
  en     : Bool := false
  /-- frames in RUNNING; 11_rail_sequencing R424; 0 -/
  upFor  : Nat := 0
  /-- consecutive frames with the debounced signal good in RAMP; 11_rail_sequencing R412; 0 -/
  stable : Nat := 0
  /-- frames since SEQENn rose or fell; 11_rail_sequencing R412; 0 -/
  swFor  : Nat := 0
  /-- SEQ[n].CHATTER; 32 bits; 11_rail_sequencing R414; 0 -/
  chatter : Nat := 0
  /-- SEQ[n].RISE_FRAMES; 16 bits; 11_rail_sequencing R412; 0 -/
  rise   : Nat := 0
deriving DecidableEq, Repr

/-- The sequencer and the reset outputs (R415 to R425). -/
structure Rails where
  /-- rails 0 to 7; 11_rail_sequencing R409; as Rail -/
  rails   : List Rail := rep 8 {}
  /-- sequencer state; 3 bits; 11_rail_sequencing R416, R430; IDLE -/
  st      : SqSt := .idle
  /-- group being started or stopped; 4 bits; 11_rail_sequencing R430; none -/
  group   : Option Nat := none
  /-- frames since the group was complete; none while it is not, or none follows it; 11_rail_sequencing R415, R426; none -/
  next    : Option Nat := none
  /-- HALT has been entered with HALT_ACTION 1, and POWER_DOWN waits for the lanes; 1 bit; 11_rail_sequencing R416; 0 -/
  goDown  : Bool := false
  /-- consecutive trips k; 11_rail_sequencing R419; 0 -/
  k       : Nat := 0
  /-- SEQ[8].TRIPS; 32 bits; 11_rail_sequencing R428; 0 -/
  trips   : Nat := 0
  /-- frames of the minimum off time that have passed; 11_rail_sequencing R421; elapsed (60,000) -/
  offFor  : Nat := 60000
  /-- frames since a SEQEN was last high, from which the minimum off time counts after BOOT; 11_rail_sequencing R421; elapsed (60,000) -/
  lowFor  : Nat := 60000
  /-- MINOFF has been reported elapsed; 1 bit; 11_rail_sequencing R430; 1 -/
  minOff  : Bool := true
  /-- frames since the trip; 11_rail_sequencing R419; 0 -/
  tripFor : Nat := 0
  /-- frames in RUNNING without interruption; 11_rail_sequencing R419; 0 -/
  runFor  : Nat := 0
  /-- the opening of the switches by a trip lasts; 1 bit; 11_rail_sequencing R417; 0 -/
  tripOpen : Bool := false
  /-- RSTOUT0 to RSTOUT3 asserted; 4 bits; 11_rail_sequencing R424; asserted -/
  rst     : List Bool := [true, true, true, true]
  /-- frames since the rails of its mask became RUNNING (or BOOT ended); none while one is not; 11_rail_sequencing R424; none -/
  rstFor  : List (Option Nat) := [none, none, none, none]
  /-- frames left of the pulse on RSTOUT3, and 1 while its end is due; 11_rail_sequencing R425; 0 -/
  pulse   : Nat := 0
deriving DecidableEq, Repr

/-! Protection, watchdog, records, telemetry and trace (12). -/

/-- A protection hold of kind 2 to 4 (R437): whether it is in force, and consecutive frames of its end condition. -/
structure Hold where
  on  : Bool := false
  run : Nat := 0
deriving DecidableEq, Repr

/-- A key (of WD_SERVE) or check-in (of WD_CHECKIN) that counts in the next frame (R438), with the command whose reply it owes; a
restart of the command core takes that reply away (R48). -/
structure WdWait where
  cmd    : Ctx
  /-- a check-in rather than a key; 1 bit; 12_protection_watchdogs_records R438 -/
  checkin : Bool
  /-- the key or the task; 16 bits; 12_protection_watchdogs_records R440, R441 -/
  arg    : Nat
  /-- the reply is still owed; 1 bit; 02_host_commands R48 -/
  owed   : Bool
deriving DecidableEq, Repr

/-- The safety job (R434 to R444). -/
structure Safety where
  /-- SAFEn low; 1 bit; 12_protection_watchdogs_records R432; 0 (DESIGN CHOICE: held high by the designer) (log 8) -/
  safenLow : Bool := false
  /-- a low level of SAFEn that the safety job has not yet seen; 1 bit; 12_protection_watchdogs_records R434, R435; 0 -/
  sawLow   : Bool := false
  /-- SAFEn hold in force; 1 bit; 12_protection_watchdogs_records R434; 0 -/
  hold     : Bool := false
  /-- consecutive frames with SAFEn high; 12_protection_watchdogs_records R434; 0 -/
  highRun  : Nat := 0
  /-- hold of kind 2, link overvoltage; 12_protection_watchdogs_records R437; 0 -/
  link     : Hold := {}
  /-- holds of kind 3, by pin; 12_protection_watchdogs_records R437; 0 -/
  stage    : List Hold := rep 8 {}
  /-- hold of kind 4, die overtemperature; 12_protection_watchdogs_records R437; 0 -/
  die      : Hold := {}
  /-- ARMED; 1 bit; 12_protection_watchdogs_records R440, R472; 0 -/
  armed    : Bool := false
  /-- FAULT since the last completed service; 1 bit; 12_protection_watchdogs_records R472; 0 -/
  fault    : Bool := false
  /-- WD_DUP; 1 bit; 12_protection_watchdogs_records R441; 0 -/
  dup      : Bool := false
  /-- CAUSE of the last fault; 4 bits; 12_protection_watchdogs_records R472; 0 -/
  wdCause  : Nat := 0
  /-- SAF.WD_SEEN; 16 bits; 12_protection_watchdogs_records R441; 0 -/
  seen     : Nat := 0
  /-- SAF.WD_ELAPSED; 32 bits; 12_protection_watchdogs_records R439; 0 -/
  elapsed  : Nat := 0
  /-- SAF.WD_TIMEOUTS; 32 bits; 12_protection_watchdogs_records R443; 0 -/
  timeouts : Nat := 0
  /-- the timeout of the present frame has been taken; 1 bit; 12_protection_watchdogs_records R442, R443; 0 -/
  fired    : Bool := false
  /-- elapsed as it stood when the timeout of this frame fired; 12_protection_watchdogs_records R442; 0 -/
  late     : Nat := 0
  /-- frames that elapsed still lacks because the step of the safety job was cut off in them; 12_protection_watchdogs_records R439; 0 -/
  missed   : Nat := 0
  /-- keys and check-ins handed over too late for the present frame, oldest first; 12_protection_watchdogs_records R438; empty -/
  later    : List WdWait := []
  /-- fault since reset not yet followed by a completed service: the next is never early; 1 bit; 12_protection_watchdogs_records R442; 0 -/
  notEarly : Bool := false
deriving DecidableEq, Repr

/-- A fault record (R460) as written: its number and the 256 bytes of its slot. -/
structure Rec where
  no    : Nat
  bytes : List Byte
deriving DecidableEq, Repr

/-- A record waiting for the flash writer (R459, R462): cause code, ARG, ORIGIN, frame and fleet time of the cause, state before, and its
first 252 bytes once the guard has published the read image they are taken from. -/
structure RecReq where
  cause  : Nat
  arg    : Nat
  origin : Nat
  frame  : Nat
  time   : Nat
  prev   : Nat
  bytes  : Option (List Byte)
deriving DecidableEq, Repr

/-- The fault-record side of the command core (R459 to R462). -/
structure Records where
  /-- records waiting in SRAM; at most 4; 12_protection_watchdogs_records R462; empty -/
  wait    : List RecReq := []
  /-- allowance; 0 to 16; 12_protection_watchdogs_records R462; 16 (DESIGN CHOICE) (log 9) -/
  allow   : Nat := 16
  /-- frames since the allowance was last refilled; 12_protection_watchdogs_records R462; 0 -/
  refill  : Nat := 0
  /-- SAF.REC_SKIPPED; 32 bits; 12_protection_watchdogs_records R462; 0 -/
  skipped : Nat := 0
  /-- records skipped in the present episode; 12_protection_watchdogs_records R462; 0 -/
  episode : Nat := 0
  /-- fault records written since reset; 10_fleet_bus R397; 0 -/
  sinceRst : Nat := 0
deriving DecidableEq, Repr

/-- A telemetry channel's window (R464, R465): sum and number of the contributions of the open window, AVG of the last completed
window, held MIN and MAX. -/
structure TelWin where
  sum  : Int := 0
  n    : Nat := 0
  avg  : Int := -32768
  mn   : Option Int := none
  mx   : Option Int := none
deriving DecidableEq, Repr

/-- A row of the trace (R468): its frame and words. -/
structure TrRow where
  frame : Nat
  words : List Nat
deriving DecidableEq, Repr

/-- The trace (R468 to R470). -/
structure Trace where
  /-- STATE: 0 idle, 1 armed, 2 filling, 3 full; 8 bits; 02_host_commands R77; 0 -/
  st     : Nat := 0
  /-- TRIG, PRE, CODE and CHMASK as armed; 12_protection_watchdogs_records R468; 0 -/
  trig   : Nat := 0
  pre    : Nat := 0
  code   : Nat := 0
  mask   : Nat := 0
  /-- rows held, oldest first; at most 64 KiB with the header; 12_protection_watchdogs_records R468; empty -/
  rows   : List TrRow := []
  /-- rows before the trigger row; 12_protection_watchdogs_records R470; 0 -/
  preN   : Nat := 0
  /-- FRAME_TRIG; 64 bits; 12_protection_watchdogs_records R470; 0 -/
  frTrig : Nat := 0
  /-- the trigger came and its row is recorded in the coming guard; 1 bit; 12_protection_watchdogs_records R469; 0 -/
  hit    : Bool := false
  /-- frame of acceptance (TRIG 2); 12_protection_watchdogs_records R469; 0 -/
  armedAt : Nat := 0
deriving DecidableEq, Repr

/-- An energy counter (R466): positive and negative counts in mJ, and their remainders in uW times core cycles. -/
structure Energy where
  pos  : Nat := 0
  neg  : Nat := 0
  remP : Nat := 0
  remN : Nat := 0
deriving DecidableEq, Repr

/-! Timers (14). -/

/-- A match or a turn (R501, R502): kind 0 match A, 1 match B, 2 turn; the tick counted down; the counter and the tick it came on. -/
structure TmrHit where
  kind  : Nat
  down  : Bool
  count : Nat
  tick  : Nat
deriving DecidableEq, Repr

/-- What an action or a host write does to a timer (R505, R508). -/
inductive TmrDo where
  | start | stop | reset
deriving DecidableEq, Repr

/-- A general timer (R499 to R517). -/
structure Timer where
  /-- RUN; 1 bit; 14_timers_counters R505, R519; 0 -/
  run     : Bool := false
  /-- TMR[t].COUNT; 32 bits; 14_timers_counters R515; 0 -/
  count   : Nat := 0
  /-- DIR, 1 counting down; 1 bit; 14_timers_counters R519; 0 -/
  down    : Bool := false
  /-- prescaler accumulator, 16.16; 14_timers_counters R500; 0 -/
  acc     : Nat := 0
  /-- PERIOD, CMP_A and CMP_B adopted by the timer; 32 bits each; 14_timers_counters R503; 0xFFFFFFFF, 0, 0 -/
  period  : Nat := 0xFFFFFFFF
  cmpA    : Nat := 0
  cmpB    : Nat := 0
  /-- PERIOD, CMP_A and CMP_B waiting in the shadow; 14_timers_counters R503; none -/
  shPer   : Option Nat := none
  shA     : Option Nat := none
  shB     : Option Nat := none
  /-- TMR[t].CAPTURE; 32 bits; 14_timers_counters R510; 0 -/
  capture : Nat := 0
  /-- FIFO, oldest first; 32 entries of 64 bits; 14_timers_counters R511; empty -/
  fifo    : List Nat := []
  /-- FIFO_OVF; 1 bit; 14_timers_counters R511; 0 -/
  ovf     : Bool := false
  /-- conversion request waiting: plans made since; 14_timers_counters R512; none -/
  conv    : Option Nat := none
  /-- slot that the plan has given the conversion request; 04_sensing_calibration R117; none -/
  slot    : Option Nat := none
  /-- TMR[t].CONV_MISSED; 32 bits; 14_timers_counters R518; 0 -/
  missed  : Nat := 0
  /-- level the timer drives while it runs, IO_MODE 1; 1 bit; 14_timers_counters R508, R519; 0 -/
  pin     : Bool := false
  /-- age of the last TMR_ACTION and the actions counted since; 14_timers_counters R514; none, 0 -/
  evAt    : Option Nat := none
  evN     : Nat := 0
  /-- matches and turns of the last source events not yet acted on, oldest first; 14_timers_counters R502; empty -/
  hits    : List TmrHit := []
  /-- ticks taken, by which the actions of one tick are told; 14_timers_counters R509; 0 -/
  ticks   : Nat := 0
  /-- the tick whose pin actions were last applied, and the strongest: 0 none, 1 toggle, 2 set, 3 clear; 14_timers_counters R509; 0, 0 -/
  pinDone : Nat × Nat := (0, 0)
  /-- core cycle of the last STOP, as fleet time, for the precedence of R509; 14_timers_counters R509; none -/
  stopAt  : Option Nat := none
  /-- core cycle of the last START with the counter and the accumulator before it, for the precedence of R509; 14_timers_counters R509; none -/
  startAt : Option (Nat × Nat × Nat) := none
  /-- frozen by a debugger halt, FROZEN; 1 bit; 14_timers_counters R517; 0 -/
  frozen  : Bool := false
  /-- what has reached the timer while frozen, oldest first, each with its core cycle; 14_timers_counters R517; empty -/
  held    : List (TmrDo × Nat) := []
deriving DecidableEq, Repr

/-- The timer unit. -/
structure Timers where
  /-- TMR0 to TMR15; 14_timers_counters R499; as Timer -/
  t       : List Timer := rep 16 {}
  /-- named start: frame and mask; 14_timers_counters R506; none -/
  named   : Option (Nat × Nat) := none
  /-- levels of TMRIO0 to TMRIO7 as last seen; 8 bits; 14_timers_counters R511; 0 (DESIGN CHOICE) (log 7) -/
  io      : Nat := 0
deriving DecidableEq, Repr

/-! The whole. -/

/-- The output balls that the block drives (16). -/
structure Outs where
  /-- LNEN0 to LNEN5; 16_balls_electrical R553; low -/
  lnen   : List Bool := rep 6 false
  /-- SWIN0 to SWIN3; 16_balls_electrical R553; low (open) -/
  swin   : List Bool := rep 4 false
  /-- SWPP0 to SWPP3; 16_balls_electrical R553; low (open) -/
  swpp   : List Bool := rep 4 false
  /-- SWLINK; 16_balls_electrical R553; low (open) -/
  swlink : Bool := false
  /-- SEQEN0 to SEQEN7; 16_balls_electrical R553; low -/
  seqen  : List Bool := rep 8 false
  /-- LINKLOWn low; 16_balls_electrical R553; released -/
  lown   : Bool := false
  /-- boundary-scan instruction in force; 16_balls_electrical R556; BYPASS (DESIGN CHOICE: IDCODE or BYPASS after reset is open) (log 10) -/
  jtag   : Jtag := .bypass
  /-- boundary cells loaded by SAMPLE/PRELOAD or driven by EXTEST and CLAMP; 16_balls_electrical R556; empty (DESIGN CHOICE) (log 10) -/
  cells  : List Bool := []
  /-- levels of the balls that SAMPLE/PRELOAD or EXTEST last captured; 16_balls_electrical R556; empty (DESIGN CHOICE) (log 10) -/
  captured : List Bool := []
deriving DecidableEq, Repr

/-- The outputs of the jobs and of the sense front end: what the guard copies into the read image (R97). -/
structure Jobs where
  frm    : Frame := {}
  sense  : Sense := {}
  phases : List Phase := rep 16 {}
  lanes  : List Lane := rep 6 {}
  sched  : Sched := {}
  srcs   : List SrcPort := rep 4 {}
  link   : LinkJob := {}
  packs  : List Pack := rep 4 {}
  unit   : ChgUnit := {}
  ports  : List PtPort := rep 4 {}
  fleet  : Fleet := {}
  rails  : Rails := {}
  safe   : Safety := {}
  /-- telemetry windows by channel and window, kept sparse; 12_protection_watchdogs_records R464; empty -/
  tel    : List (Nat × TelWin) := []
  /-- energy counters E_POS, E_NEG of k = 0 to 8; 64 bits each; 12_protection_watchdogs_records R466; 0 -/
  energy : List Energy := rep 9 {}
  /-- switch and enable outputs as the guard found them; 03_frame_pipeline R97; all low -/
  outs   : Outs := {}
  /-- controller state as the guard found it; 03_frame_pipeline R97; BOOT -/
  ctlSt  : Ctl := .boot
  /-- SAF.HALT_CAUSE as the guard found it; 03_frame_pipeline R97; 0 -/
  haltC  : Nat := 0
deriving DecidableEq, Repr

/-- The issue shadow of S7 (R96): what the commit point transfers. -/
structure Shadow where
  mods   : List ModSet := rep 16 {}
  lnen   : List Bool := rep 6 false
  swin   : List Bool := rep 4 false
  swpp   : List Bool := rep 4 false
  swlink : Bool := false
  seqen  : List Bool := rep 8 false
deriving DecidableEq, Repr

/-- The parameters: what is in force, as the words written since the defaults were taken (R527), rising by ID. -/
structure Params where
  /-- parameter words in force that were written; 16 bits each; 15_parameter_map R527; empty (every parameter at its default) -/
  vals : List (Nat × Word) := []
  /-- selvedge record in force since BOOT; 784 bytes; 04_sensing_calibration R149, R527; empty (blank) -/
  selv : List Byte := []
  /-- pattern records in force since BOOT; 57 records; 04_sensing_calibration R141; zero coefficients (log 4) -/
  pattern : List Pattern := rep 57 {}
  /-- alterations in force: channel, 12-byte block; 04_sensing_calibration R145; empty -/
  alts : List (Nat × List Byte) := []
deriving DecidableEq, Repr

/-- Flash (04, 06, 12, 13). -/
structure Flash where
  /-- stored configuration, rising by ID; 02_host_commands R72; empty (DESIGN CHOICE: as from the factory) (log 4) -/
  cfg     : List (Nat × Word) := []
  /-- alteration journal, oldest first; at most 1,024 records; 04_sensing_calibration R145, R146; empty (DESIGN CHOICE) (log 4) -/
  journal : List JRec := []
  /-- key slots 4 to 15; 64 bytes each; 13_identity_security R477; empty (DESIGN CHOICE) (log 4) -/
  keys    : List (Nat × List Byte) := []
  /-- firmware slots A and B; 13_identity_security R486; A as shipped, B empty (DESIGN CHOICE) (log 4) -/
  fw      : List FwSlot := [⟨[], some (1, 1, 0), true⟩, {}]
  /-- copy request; 1 bit; 13_identity_security R488; 0 -/
  copyReq : Bool := false
  /-- fault-record ring, newest first; 64 slots of 256 bytes; 12_protection_watchdogs_records R461; empty (DESIGN CHOICE) (log 4) -/
  ring    : List Rec := []
  /-- records written since manufacture, SAF.REC_COUNT; 32 bits; 12_protection_watchdogs_records R471; 0 -/
  recNo   : Nat := 0
  /-- SAF.POWER_FAILS; 32 bits; 12_protection_watchdogs_records R471; 0 -/
  pfails  : Nat := 0
  /-- banks 0 and 1 of the wear-ledger region, newest record first; at most 512 records of 64 bytes each; 06_loss_map_scheduler R244; empty -/
  banks   : List (List BankRec) := [[], []]
  /-- active bank of the region; 0 or 1; 06_loss_map_scheduler R244; 0 (DESIGN CHOICE) (log 4) -/
  bank    : Nat := 0
  /-- WORN marks; 16 bits; 05_phases_lanes_modulation R196; 0 -/
  worn    : List Bool := rep 16 false
  /-- persistence sectors by generation modulo 16, each the bytes of an image; 06_loss_map_scheduler R222; empty (DESIGN CHOICE) (log 4) -/
  sectors : List (Nat × List Byte) := []
  /-- two rotating sectors of energy records, newest first; at most 25 records of 160 bytes each; 12_protection_watchdogs_records R467;
  empty (DESIGN CHOICE) (log 4) -/
  enSects : List (List (List Byte)) := [[], []]
  /-- active one of them; 0 or 1; 12_protection_watchdogs_records R467; 0 (DESIGN CHOICE) (log 4) -/
  enSect  : Nat := 0
  /-- powered-time clock at the last flush or persistence, in frames; 06_loss_map_scheduler R222; 0 -/
  clock   : Nat := 0
deriving DecidableEq, Repr

/-- The flash writer (R240): what it writes (1 ledger flush, 2 loss-map persistence, 3 fault record, 4 firmware chunk, 5 retirement
record, 6 configuration, 7 key, 8 erasure of a firmware slot) and what was pre-empted. -/
structure Writer where
  /-- writer active; 06_loss_map_scheduler R240; none -/
  busy   : Option Nat := none
  /-- writer pre-empted, to restart; 06_loss_map_scheduler R240; none -/
  redo   : Option Nat := none
  /-- flash as it stood before the write in progress, which a power failure abandons; 12_protection_watchdogs_records R451; none -/
  before : Option Flash := none
  /-- flush due since (frames past due); none while not due; 06_loss_map_scheduler R239, R240; none -/
  flushDue : Option Nat := none
  /-- persistence due since; 06_loss_map_scheduler R239, R240; none -/
  persDue : Option Nat := none
  /-- FLASH_WRITE_LATE raised for this due time, by writer; 06_loss_map_scheduler R240; 0, 0 -/
  lateF  : Bool := false
  lateP  : Bool := false
  /-- retirements to be written to the ledger: phase, frames since; 05_phases_lanes_modulation R194; empty -/
  retJobs : List (Nat × Nat) := []
deriving DecidableEq, Repr

/-- The whole state of the block. -/
structure State where
  /-- commands that wait, first in first out; the model's own; empty -/
  pending : List Instr := []
  ident   : Ident := {}
  ctl     : Control := {}
  host    : HostState := {}
  params  : Params := {}
  otp     : Otp := {}
  flash   : Flash := {}
  jobs    : Jobs := {}
  /-- read image of the last frame whose guard has ended; 03_frame_pipeline R97; as the jobs -/
  image   : Jobs := {}
  /-- image of the present frame, which the guard has taken and the next cycle 0 publishes; 03_frame_pipeline R97; none -/
  imgNext : Option Jobs := none
  /-- modulators PH0 to PH15; 05_phases_lanes_modulation R158; as Modulator -/
  mods    : List Modulator := rep 16 {}
  shadow  : Shadow := {}
  outs    : Outs := {}
  /-- the VLINK comparator lies above SRC[4].BW_VOV, with its hysteresis; 1 bit; 05_phases_lanes_modulation R190; 0 -/
  linkOver : Bool := false
  writer  : Writer := {}
  records : Records := {}
  /-- number of the window last closed, plus 1, by window; 12_protection_watchdogs_records R464; 0 -/
  telAt   : List Nat := [0, 0, 0, 0]
  /-- the open window is discarded, by window; 1 bit each; 03_frame_pipeline R99; 0 -/
  telBad  : List Bool := rep 4 false
  trace   : Trace := {}
  /-- firmware update session; 13_identity_security R490; none -/
  fw      : Option FwSession := none
  timers  : Timers := {}
  /-- SAF.CORE_RESTARTS; 32 bits; 12_protection_watchdogs_records R471; 0 -/
  coreRst : Nat := 0
  /-- draws made of the free values; the MODEL's own field; 0 (DESIGN CHOICE) (log 2) -/
  freeCtr : Nat := 0
deriving DecidableEq, Repr

/-- What no command of this block raises: the block has no fault of its own (safe: nothing ends in it). -/
inductive Fault where
  /-- raised by nobody; safe -/
  | noFault
deriving DecidableEq, Repr

/-- Refusals. -/
inductive Refusal where
  /-- an arm of exec whose command has no meaning yet; raised by Dispatch.lean alone; safe -/
  | notModelled (mnemonic : String)
deriving DecidableEq, Repr

/-- The block as power-on reset is released (05 of INVENTORY.md): the controller in BOOT with cause 1 (00_scope R6, R458), the pipeline
stopped (R87), every output in its reset state (R553), and every register whose reset value the spec does not give at the value
its field's docstring and the assumption log name. -/
def State.reset : State := {}

end Sys2Proof.Machine
end

