-- ==== Sys2Proof/Machine/EventCodes.lean ====
section
/-! DEFINITION. The codes of the events, each under its own name (R73: the high byte is the subsystem, the low byte the event), from
the event tables of the chapters, and the status codes of replies (R50). -/

namespace Sys2Proof.Machine

/-! Event codes. -/
namespace Ev
abbrev OP_COMPLETE : Nat := 0x0001
abbrev EVENTS_LOST : Nat := 0x0002
abbrev STATE_CHANGED : Nat := 0x0003
abbrev CORE_RESTARTED : Nat := 0x0004
abbrev STITCH_APPLIED : Nat := 0x0005
abbrev STITCH_REFUSED : Nat := 0x0006
abbrev PRIV_DROPPED : Nat := 0x0007
abbrev JOB_OVERRUN : Nat := 0x0101
abbrev JOB_RECOVERY : Nat := 0x0102
abbrev DISCIPLINE_LIMIT : Nat := 0x0103
abbrev TS_FAULT : Nat := 0x0201
abbrev TS_RECOVERED : Nat := 0x0202
abbrev SLOT_PRESSURE : Nat := 0x0203
abbrev CAL_ALTERED : Nat := 0x0301
abbrev CAL_RESTORED : Nat := 0x0302
abbrev PATTERN_FAULT : Nat := 0x0303
abbrev SELVEDGE_CLAMP : Nat := 0x0304
abbrev SELVEDGE_LOAD : Nat := 0x0305
abbrev PHASE_RETIRED : Nat := 0x0401
abbrev PHASE_WORN : Nat := 0x0402
abbrev PHASE_REINSTATED : Nat := 0x0403
abbrev LANE_STATE : Nat := 0x0501
abbrev SOFTSTART_FAILED : Nat := 0x0502
abbrev BW_STOP : Nat := 0x0503
abbrev SURGE : Nat := 0x0504
abbrev LANE_NO_PHASES : Nat := 0x0505
abbrev SOURCE_STATE : Nat := 0x0601
abbrev SEAM_BEGUN : Nat := 0x0602
abbrev SEAM_DONE : Nat := 0x0603
abbrev MPPT_SWEEP : Nat := 0x0604
abbrev ICS_FOUND : Nat := 0x0605
abbrev LINK_LOW : Nat := 0x0606
abbrev HOLD_FAIL : Nat := 0x0607
abbrev PACK_PHASE : Nat := 0x0701
abbrev PACK_ATTACHED : Nat := 0x0702
abbrev PACK_REMOVED : Nat := 0x0703
abbrev PRECHARGE_TIMEOUT : Nat := 0x0704
abbrev SOC_ANCHORED : Nat := 0x0705
abbrev PACK_REGION : Nat := 0x0706
abbrev QUALIFY_FAILED : Nat := 0x0707
abbrev CAPTEST_DONE : Nat := 0x0708
abbrev PROFILE_FALLBACK : Nat := 0x0709
abbrev LOSSMAP_QUARANTINE : Nat := 0x0801
abbrev LOSSMAP_RESET : Nat := 0x0802
abbrev THERMAL_DERATE : Nat := 0x0803
abbrev SITE_LIMITED : Nat := 0x0804
abbrev FLASH_WRITE_LATE : Nat := 0x0805
abbrev PORT_STATE : Nat := 0x0901
abbrev CONTRACT : Nat := 0x0902
abbrev ROLE_SWAPPED : Nat := 0x0903
abbrev PORT_SOFT_RESET : Nat := 0x0904
abbrev PORT_HARD_RESET : Nat := 0x0905
abbrev SAFE0_LATE : Nat := 0x0906
abbrev PARTNER_AUTH : Nat := 0x0907
abbrev PARTNER_ALERT : Nat := 0x0908
abbrev CABLE_LIMITED : Nat := 0x0909
abbrev PARTNER_VERSION : Nat := 0x090A
abbrev FLEET_STATE : Nat := 0x0A01
abbrev FLEET_RENUMBERED : Nat := 0x0A02
abbrev LAUNCH_CANCELLED : Nat := 0x0A03
abbrev LAUNCH_REFUSED : Nat := 0x0A04
abbrev FLEET_ORIGIN : Nat := 0x0A05
abbrev FLEET_EVENTS_LOST : Nat := 0x0A06
abbrev ADDR_CONFLICT : Nat := 0x0A07
abbrev FLEET_LOOP : Nat := 0x0A08
abbrev SEQ_STATE : Nat := 0x0B01
abbrev RAIL_FAILED_UP : Nat := 0x0B02
abbrev RAIL_TRIP : Nat := 0x0B03
abbrev RAIL_SLOW_DOWN : Nat := 0x0B04
abbrev WD_FAULT : Nat := 0x0C01
abbrev SAFEN : Nat := 0x0C02
abbrev PROTECT_HOLD : Nat := 0x0C03
abbrev HALT_ENTERED : Nat := 0x0C04
abbrev CLOCK_LOSS : Nat := 0x0C05
abbrev POWER_FAIL : Nat := 0x0C06
abbrev RESET_CAUSE : Nat := 0x0C07
abbrev REC_SKIPPED : Nat := 0x0C08
abbrev TMR_ACTION : Nat := 0x0D01
abbrev TMR_FIFO_FULL : Nat := 0x0D02
abbrev TRACE_TRIGGERED : Nat := 0x0E01
abbrev TRACE_FULL : Nat := 0x0E02
abbrev KEY_INSTALLED : Nat := 0x0F01
abbrev FW_STAGED : Nat := 0x0F02
abbrev BOOT_SLOT : Nat := 0x0F03
abbrev AUTH_LOCKOUT : Nat := 0x0F04
end Ev

/-! Status codes of R50. -/
namespace St
abbrev OK : Nat := 0x00
abbrev ACCEPTED : Nat := 0x01
abbrev BAD_CRC : Nat := 0x10
abbrev BAD_LEN : Nat := 0x11
abbrev BAD_OPCODE : Nat := 0x12
abbrev BAD_PARAM_ID : Nat := 0x13
abbrev OUT_OF_RANGE : Nat := 0x14
abbrev READ_ONLY : Nat := 0x15
abbrev LOCKED : Nat := 0x16
abbrev TAG_BUSY : Nat := 0x17
abbrev BUSY : Nat := 0x18
abbrev DEFERRED : Nat := 0x19
abbrev VERSION : Nat := 0x1A
abbrev SELVEDGE : Nat := 0x1B
abbrev WD_EARLY : Nat := 0x20
abbrev WD_SEQUENCE : Nat := 0x21
abbrev WD_TASKS_INCOMPLETE : Nat := 0x22
abbrev LAUNCH_TOO_LATE : Nat := 0x30
abbrev ISLANDED : Nat := 0x31
abbrev TIDE_FULL : Nat := 0x32
abbrev AUTH_FAIL : Nat := 0x40
abbrev INTERNAL : Nat := 0x7F
end St

end Sys2Proof.Machine
end

