-- ==== Sys2Proof/Machine/ParamNames.lean ====
section
/-! DEFINITION. The names of the parameters: for each group of R525 the indices of R532 to R548 under the parameter's own name. The
link's parameters in SRC[4] that share a name with a port's carry the letter L in front (LV_MIN, LV_MAX, LBW_VOV, LV_MEAS), the
unit's in CHG[16] and SEQ[8] the letter U (UQUAL_FRAMES, USW_SETTLE, USTATE). -/

namespace Sys2Proof.Machine

/-- The codes of the groups (R525). -/
def groupNames : List String := ["GLB", "FRM", "SNS", "CAL", "PH", "LN", "SRC", "CHG", "SCH", "PRT", "FLE", "SEQ", "SAF", "TMR", "TEL", "SEC"]

/-- Group GLB, code 0x0 (R525). -/
abbrev gGLB : Nat := 0

/-- Group FRM, code 0x1 (R525). -/
abbrev gFRM : Nat := 1

/-- Group SNS, code 0x2 (R525). -/
abbrev gSNS : Nat := 2

/-- Group CAL, code 0x3 (R525). -/
abbrev gCAL : Nat := 3

/-- Group PH, code 0x4 (R525). -/
abbrev gPH : Nat := 4

/-- Group LN, code 0x5 (R525). -/
abbrev gLN : Nat := 5

/-- Group SRC, code 0x6 (R525). -/
abbrev gSRC : Nat := 6

/-- Group CHG, code 0x7 (R525). -/
abbrev gCHG : Nat := 7

/-- Group SCH, code 0x8 (R525). -/
abbrev gSCH : Nat := 8

/-- Group PRT, code 0x9 (R525). -/
abbrev gPRT : Nat := 9

/-- Group FLE, code 0xA (R525). -/
abbrev gFLE : Nat := 10

/-- Group SEQ, code 0xB (R525). -/
abbrev gSEQ : Nat := 11

/-- Group SAF, code 0xC (R525). -/
abbrev gSAF : Nat := 12

/-- Group TMR, code 0xD (R525). -/
abbrev gTMR : Nat := 13

/-- Group TEL, code 0xE (R525). -/
abbrev gTEL : Nat := 14

/-- Group SEC, code 0xF (R525). -/
abbrev gSEC : Nat := 15

/-! Indices of group GLB (R532). -/
namespace GLB
abbrev OPMODE : Nat := 0
abbrev STATUS : Nat := 1
abbrev FW_BUILD : Nat := 2
abbrev PART : Nat := 4
abbrev DIE_STEP : Nat := 5
abbrev HOST_FRAMING : Nat := 6
abbrev CAN_DBR : Nat := 7
abbrev CAN_XID : Nat := 8
abbrev HOST_VER : Nat := 9
abbrev CAN_ID_CMD : Nat := 10
abbrev CAN_ID_RPL : Nat := 12
abbrev HOST_DROPS : Nat := 14
abbrev CAN_CLASSIC : Nat := 16
end GLB

/-! Indices of group FRM (R536, R112). -/
namespace FRM
abbrev STATUS : Nat := 0
abbrev OVR_COUNT : Nat := 2
abbrev RECOVERIES : Nat := 4
abbrev STEP_MAX : Nat := 5
abbrev FRAME : Nat := 0
abbrev LEN_LAST : Nat := 4
abbrev DISC_RATE : Nat := 6
abbrev STRETCHES : Nat := 8
abbrev SHRINKS : Nat := 10
abbrev OVR_TOTAL : Nat := 12
end FRM

/-! Indices of group SNS (R537, R156). -/
namespace SNS
abbrev VALUE : Nat := 0
abbrev NEWEST : Nat := 2
abbrev RAW : Nat := 4
abbrev AGE : Nat := 5
abbrev SCALE : Nat := 6
abbrev RATE_REG : Nat := 9
abbrev RATE_TEL : Nat := 10
abbrev ZERO : Nat := 12
abbrev TS_MODE : Nat := 16
abbrev TS_IDEAL : Nat := 17
abbrev TS_RSER : Nat := 18
abbrev NTC_RNOM : Nat := 19
abbrev NTC_BETA : Nat := 20
abbrev NTC_RPAR : Nat := 21
abbrev TS_BAND : Nat := 22
abbrev GRANTED : Nat := 0
abbrev CARRIED : Nat := 1
abbrev TEL_MISSED : Nat := 2
abbrev DEFERRED : Nat := 4
end SNS

/-! Indices of group CAL (R535). -/
namespace CAL
abbrev SELV_STATE : Nat := 0
abbrev JOURNAL_USED : Nat := 1
abbrev PATTERN_FAILED : Nat := 2
abbrev ALTER_MASK : Nat := 4
abbrev PATTERN_MASK : Nat := 8
end CAL

/-! Indices of group PH (R538, R199). -/
namespace PH
abbrev TS_PIN : Nat := 0
abbrev I_LIMIT : Nat := 1
abbrev DT_RISE : Nat := 2
abbrev DT_FALL : Nat := 4
abbrev BW_IPK_POS : Nat := 6
abbrev BW_IPK_NEG : Nat := 7
abbrev SAMPLE_SHIFT : Nat := 8
abbrev STATE : Nat := 9
abbrev I_MEAS : Nat := 10
abbrev DUTY : Nat := 12
abbrev BW_COUNT : Nat := 14
end PH

/-! Indices of group LN (R539, R201). -/
namespace LN
abbrev KIND : Nat := 0
abbrev PORT : Nat := 1
abbrev PHASES : Nat := 2
abbrev PORT_SIDE : Nat := 3
abbrev MODE : Nat := 4
abbrev I_RATED : Nat := 5
abbrev I_LIMIT : Nat := 6
abbrev I_LIMIT_NEG : Nat := 7
abbrev CC_B0 : Nat := 8
abbrev CC_B1 : Nat := 9
abbrev CC_B2 : Nat := 10
abbrev CC_SHIFT : Nat := 11
abbrev CC_CLAMP : Nat := 12
abbrev DUTY_MIN : Nat := 13
abbrev DUTY_MAX : Nat := 14
abbrev F_MIN : Nat := 15
abbrev KP_MAIN : Nat := 16
abbrev KI_MAIN : Nat := 18
abbrev KP_LIM : Nat := 20
abbrev KI_LIM : Nat := 22
abbrev F_MAX : Nat := 24
abbrev DT_SPAN : Nat := 25
abbrev MIN_PULSE : Nat := 26
abbrev EN_LEAD : Nat := 27
abbrev IDLE_OFF : Nat := 28
abbrev SS_RATE : Nat := 30
abbrev SS_TIMEOUT : Nat := 31
abbrev RD_RATE : Nat := 32
abbrev RD_TIMEOUT : Nat := 33
abbrev SLACK_EN : Nat := 34
abbrev SLACK_I : Nat := 35
abbrev SURGE_V : Nat := 36
abbrev SURGE_DIDT : Nat := 37
abbrev FP_I : Nat := 38
abbrev BW_VOV : Nat := 39
abbrev BW_WIN : Nat := 40
abbrev RI_SLOPE : Nat := 41
abbrev COT_TOFF_MIN : Nat := 42
abbrev STATE : Nat := 43
abbrev I_MEAS : Nat := 44
abbrev RATIO : Nat := 46
abbrev LIMIT_POS : Nat := 47
abbrev LIMIT_NEG : Nat := 48
abbrev FREQ : Nat := 49
abbrev RETRIES : Nat := 50
abbrev RETRY_NEXT : Nat := 52
end LN

/-! Indices of group SRC (R540, R280). -/
namespace SRC
abbrev KIND : Nat := 0
abbrev PRIO : Nat := 1
abbrev V_MIN : Nat := 2
abbrev V_MAX : Nat := 3
abbrev VOC_MIN : Nat := 4
abbrev QUAL_FRAMES : Nat := 5
abbrev SW_SETTLE : Nat := 6
abbrev LOSS_FRAMES : Nat := 7
abbrev DIRECT_DV : Nat := 8
abbrev HOLD_PMIN : Nat := 9
abbrev DUSK_FRAMES : Nat := 10
abbrev P_MIN : Nat := 12
abbrev MPPT_PERIOD : Nat := 13
abbrev SWEEP_INTERVAL : Nat := 14
abbrev MPPT_STEP : Nat := 16
abbrev SWEEP_POINTS : Nat := 17
abbrev SWEEP_DWELL : Nat := 18
abbrev ICS_MODE : Nat := 19
abbrev ICS_RESEARCH : Nat := 20
abbrev ICS_LIMIT : Nat := 22
abbrev ICS_START : Nat := 23
abbrev ICS_STEP : Nat := 24
abbrev ICS_PERIOD : Nat := 25
abbrev ICS_BACKOFF : Nat := 26
abbrev STATE : Nat := 27
abbrev V_MEAS : Nat := 28
abbrev I_MEAS : Nat := 30
abbrev VOC : Nat := 32
abbrev V_REF : Nat := 33
abbrev VMPP_AGE : Nat := 34
abbrev VMPP_LAST : Nat := 36
abbrev I_REF : Nat := 37
abbrev ICS_FOUND : Nat := 38
abbrev P_AVAIL : Nat := 39
abbrev VSET : Nat := 0
abbrev LV_MIN : Nat := 1
abbrev LV_MAX : Nat := 2
abbrev LBW_VOV : Nat := 3
abbrev POLICY : Nat := 4
abbrev HOLDER_REQ : Nat := 5
abbrev KP_LINK : Nat := 6
abbrev KI_LINK : Nat := 8
abbrev KP_ICS : Nat := 10
abbrev KI_ICS : Nat := 12
abbrev CHG_DV : Nat := 14
abbrev SUPP_DV : Nat := 15
abbrev CURT_DV : Nat := 16
abbrev SEAM_SLEW : Nat := 17
abbrev SEAM_RATE : Nat := 18
abbrev SEAM_IEND : Nat := 19
abbrev SEAM_TIMEOUT : Nat := 20
abbrev HOLD_FAIL : Nat := 21
abbrev SEAM_MIN_GAP : Nat := 22
abbrev LOWN_DV : Nat := 24
abbrev LOWN_ASSERT : Nat := 25
abbrev LOWN_RELEASE : Nat := 26
abbrev LOWN_FORCE : Nat := 28
abbrev SWLINK_REQ : Nat := 29
abbrev LV_MEAS : Nat := 30
abbrev VSET_EFF : Nat := 32
abbrev HOLDER : Nat := 33
abbrev SEAMS : Nat := 34
end SRC

/-! Indices of group CHG (R541, R315 to R317). -/
namespace CHG
abbrev PROFILE : Nat := 0
abbrev PARTNER : Nat := 1
abbrev CELLS : Nat := 2
abbrev CAP : Nat := 3
abbrev HEALTH : Nat := 4
abbrev TS_PIN : Nat := 5
abbrev CV_V : Nat := 6
abbrev CC_I : Nat := 7
abbrev TERM_I : Nat := 8
abbrev DIS_I : Nat := 9
abbrev V_FLOOR : Nat := 10
abbrev SUPPLY_EN : Nat := 11
abbrev COUL_EFF : Nat := 12
abbrev STORAGE_REQ : Nat := 13
abbrev TOPOFF_REQ : Nat := 14
abbrev CAPTEST_REQ : Nat := 15
abbrev STATE : Nat := 16
abbrev SOC : Nat := 17
abbrev V_MEAS : Nat := 18
abbrev I_MEAS : Nat := 20
abbrev V_CHG : Nat := 22
abbrev V_FLOOR_EFF : Nat := 23
abbrev I_CHG : Nat := 24
abbrev I_DIS : Nat := 25
abbrev SHARE : Nat := 26
abbrev PRE_RETRIES : Nat := 28
abbrev CAP_MEAS : Nat := 30
abbrev AH_THRU : Nat := 32
abbrev CHEM : Nat := 0
abbrev CV_CELL : Nat := 1
abbrev CV_RED_CELL : Nat := 2
abbrev MAINT_CELL : Nat := 3
abbrev STORE_CELL : Nat := 4
abbrev PRE_V_CELL : Nat := 5
abbrev FLOOR_CELL : Nat := 6
abbrev DEAD_CELL : Nat := 7
abbrev PRE_C : Nat := 8
abbrev CC_C : Nat := 9
abbrev TERM_C : Nat := 10
abbrev TOPOFF_C : Nat := 11
abbrev DIS_C : Nat := 12
abbrev TERM_FRAMES : Nat := 14
abbrev TOPOFF_TIME : Nat := 16
abbrev REST_TIME : Nat := 18
abbrev PRE_TIMEOUT : Nat := 20
abbrev PRE_REST : Nat := 22
abbrev CHG_TIMEOUT : Nat := 24
abbrev T1 : Nat := 26
abbrev T2 : Nat := 27
abbrev T3 : Nat := 28
abbrev T4 : Nat := 29
abbrev T5 : Nat := 30
abbrev T6 : Nat := 31
abbrev COOL_F : Nat := 32
abbrev WARM_F : Nat := 33
abbrev COOL_DV : Nat := 34
abbrev WARM_DV : Nat := 35
abbrev RECHG_SOC : Nat := 36
abbrev SOC_RESERVE : Nat := 37
abbrev OCV0 : Nat := 38
abbrev OCV1 : Nat := 39
abbrev OCV2 : Nat := 40
abbrev OCV3 : Nat := 41
abbrev OCV4 : Nat := 42
abbrev OCV5 : Nat := 43
abbrev OCV6 : Nat := 44
abbrev OCV7 : Nat := 45
abbrev OCV8 : Nat := 46
abbrev OCV9 : Nat := 47
abbrev OCV10 : Nat := 48
abbrev UQUAL_FRAMES : Nat := 0
abbrev USW_SETTLE : Nat := 1
abbrev HOLDOFF : Nat := 2
abbrev FB_DV : Nat := 4
abbrev PTEMP_HYST : Nat := 5
abbrev ANCHOR_C : Nat := 6
abbrev TOPOFF_SPREAD : Nat := 7
abbrev ANCHOR_FRAMES : Nat := 8
abbrev CAPTEST_C : Nat := 10
abbrev CAPTEST_MAX : Nat := 12
abbrev EXT_DEMAND : Nat := 14
abbrev C_MAX : Nat := 16
abbrev S_MAX : Nat := 18
end CHG

/-! Indices of group SCH (R542, R245). -/
namespace SCH
abbrev DEF_A : Nat := 0
abbrev DEF_R : Nat := 1
abbrev DEF_E : Nat := 2
abbrev DEF_V : Nat := 3
abbrev DEF_FREQ : Nat := 4
abbrev AUX_W : Nat := 5
abbrev GD_PH : Nat := 6
abbrev CONF_STEP : Nat := 7
abbrev SETTLE : Nat := 8
abbrev LEARN_FRAMES : Nat := 9
abbrev STEADY : Nat := 10
abbrev PROBE_EN : Nat := 11
abbrev PROBE_GAP : Nat := 12
abbrev PROBE_FSTEP : Nat := 13
abbrev PH_LOAD : Nat := 14
abbrev HYST : Nat := 15
abbrev SHED_HOLD : Nat := 16
abbrev SHED_GAP : Nat := 17
abbrev SLACK_PHASES : Nat := 18
abbrev WEAR_K : Nat := 19
abbrev ROT_HYST : Nat := 20
abbrev MAP_CLEAR : Nat := 21
abbrev ROT_MIN : Nat := 22
abbrev PLAN : Nat := 24
abbrev ENTRY : Nat := 25
abbrev BOUND : Nat := 26
abbrev QUAR_COUNT : Nat := 28
abbrev DISCARDS : Nat := 30
abbrev TJ : Nat := 0
abbrev TJ_MAX : Nat := 0
abbrev RTH : Nat := 1
abbrev TAU : Nat := 2
abbrev DERATE_SPAN : Nat := 3
abbrev SWEEP_MAX : Nat := 4
abbrev HOST_RESERVE : Nat := 5
abbrev SITE_PRIO : Nat := 6
abbrev MAP_SEL : Nat := 7
abbrev LOCAL_CHG : Nat := 8
abbrev LOCAL_DIS : Nat := 10
abbrev SITE_CHG : Nat := 12
abbrev SITE_DIS : Nat := 14
abbrev MAP_ENTRY : Nat := 16
abbrev PERSIST_GEN : Nat := 20
end SCH

/-! Indices of group PRT (R543, R361). -/
namespace PRT
abbrev MODE : Nat := 0
abbrev PRESENT : Nat := 1
abbrev VER_MAX : Nat := 2
abbrev AUTH_MODE : Nat := 3
abbrev AUTH_KEY : Nat := 4
abbrev OFFER_V0 : Nat := 5
abbrev OFFER_V1 : Nat := 6
abbrev OFFER_V2 : Nat := 7
abbrev OFFER_V3 : Nat := 8
abbrev OFFER_I0 : Nat := 9
abbrev OFFER_I1 : Nat := 10
abbrev OFFER_I2 : Nat := 11
abbrev OFFER_I3 : Nat := 12
abbrev OFFER_TOL : Nat := 13
abbrev TAKE_VMIN : Nat := 14
abbrev TAKE_VMAX : Nat := 15
abbrev TAKE_I : Nat := 16
abbrev SWAP_ACCEPT : Nat := 17
abbrev V_SLEW : Nat := 18
abbrev STATUS_PERIOD : Nat := 19
abbrev STATE : Nat := 20
abbrev VER : Nat := 21
abbrev CON_V : Nat := 22
abbrev CON_I : Nat := 23
abbrev CABLE_V : Nat := 24
abbrev CABLE_I : Nat := 25
abbrev PK_CHEM : Nat := 26
abbrev PK_CELLS : Nat := 27
abbrev PARTNER_SERIAL : Nat := 28
abbrev PK_CAP : Nat := 32
abbrev PK_SOH : Nat := 33
abbrev PK_VMAX : Nat := 34
abbrev PK_VMIN : Nat := 35
abbrev PK_ICHG : Nat := 36
abbrev PK_IDIS : Nat := 37
abbrev PK_SOC : Nat := 38
abbrev PK_TEMP : Nat := 39
abbrev PK_SPREAD : Nat := 40
abbrev PK_AGE : Nat := 42
abbrev SOFT_RESETS : Nat := 44
abbrev HARD_RESETS : Nat := 46
abbrev RESENDS : Nat := 48
abbrev CRC_ERRORS : Nat := 50
end PRT

/-! Indices of group FLE (R544, R405). -/
namespace FLE
abbrev LINK : Nat := 0
abbrev HOP_DELAY : Nat := 2
abbrev CRC_ERRORS : Nat := 4
abbrev RESENDS : Nat := 6
abbrev PRIO : Nat := 0
abbrev VER_MAX : Nat := 1
abbrev AUTH_MODE : Nat := 2
abbrev AUTH_KEY : Nat := 3
abbrev ADDR_PREF : Nat := 4
abbrev REMOTE_PRIV : Nat := 5
abbrev BARRIER_AUTO : Nat := 6
abbrev EVT_UP : Nat := 7
abbrev DISC_KP : Nat := 8
abbrev DISC_KI : Nat := 9
abbrev DELAY_PERIOD : Nat := 10
abbrev BUDGET_PERIOD : Nat := 11
abbrev ELECT_WAIT : Nat := 12
abbrev SNAP_TIMEOUT : Nat := 14
abbrev SITE_CHG_W : Nat := 16
abbrev SITE_DIS_W : Nat := 18
abbrev V1_RESERVE : Nat := 20
abbrev JOIN_SHARE : Nat := 22
abbrev STATE : Nat := 24
abbrev ADDR : Nat := 25
abbrev DEPTH : Nat := 26
abbrev FLEET_DEPTH : Nat := 27
abbrev ROOT_SERIAL : Nat := 28
abbrev OFFSET : Nat := 32
abbrev EVT_LOST : Nat := 34
abbrev UNITS : Nat := 36
end FLE

/-! Indices of group SEQ (R545, R427, R428). -/
namespace SEQ
abbrev ORDER : Nat := 0
abbrev V_GOOD : Nat := 1
abbrev V_HYST : Nat := 2
abbrev V_OV : Nat := 3
abbrev V_OFF : Nat := 4
abbrev DEBOUNCE : Nat := 5
abbrev STABLE : Nat := 6
abbrev RAMP_TIMEOUT : Nat := 7
abbrev DELAY_UP : Nat := 8
abbrev FALL_TIMEOUT : Nat := 9
abbrev LANES : Nat := 10
abbrev STATE : Nat := 11
abbrev V_MEAS : Nat := 12
abbrev CHATTER : Nat := 14
abbrev RISE_FRAMES : Nat := 16
abbrev ENABLE : Nat := 0
abbrev MIN_OFF : Nat := 1
abbrev TRIP_HALT : Nat := 2
abbrev HALT_ACTION : Nat := 3
abbrev USTATE : Nat := 4
abbrev TRIPS : Nat := 6
abbrev TRIP_NEXT : Nat := 8
abbrev MASK : Nat := 0
abbrev POLARITY : Nat := 1
abbrev STRETCH : Nat := 2
abbrev FORCE : Nat := 4
abbrev SAFE_PULSE : Nat := 5
end SEQ

/-! Indices of group SAF (R546, R471). -/
namespace SAF
abbrev WD_EN : Nat := 0
abbrev WD_TASKMASK : Nat := 1
abbrev WD_OPEN : Nat := 2
abbrev WD_CLOSE : Nat := 4
abbrev WD_DUP_STRICT : Nat := 6
abbrev WD_STATUS : Nat := 7
abbrev WD_ELAPSED : Nat := 8
abbrev WD_TIMEOUTS : Nat := 10
abbrev WD_SEEN : Nat := 12
abbrev SAFEN_HALT : Nat := 13
abbrev SAFEN_RELEASE : Nat := 14
abbrev HALT_REQ : Nat := 15
abbrev HALT_CAUSE : Nat := 16
abbrev FAULT_FORCE : Nat := 17
abbrev PROT_HOLD : Nat := 18
abbrev RESET_CAUSE : Nat := 19
abbrev CORE_RESTARTS : Nat := 20
abbrev POWER_FAILS : Nat := 22
abbrev REC_COUNT : Nat := 24
abbrev REC_SKIPPED : Nat := 26
end SAF

/-! Indices of group TMR (R547, R518). -/
namespace TMR
abbrev MODE : Nat := 0
abbrev SOURCE : Nat := 1
abbrev PRESC : Nat := 2
abbrev PERIOD : Nat := 4
abbrev CMP_A : Nat := 6
abbrev CMP_B : Nat := 8
abbrev OFFSET : Nat := 10
abbrev SRC_ARG : Nat := 12
abbrev ACT_A : Nat := 13
abbrev ACT_B : Nat := 14
abbrev ACT_TURN : Nat := 15
abbrev ACT_CAP : Nat := 16
abbrev TARGET : Nat := 17
abbrev IO_PIN : Nat := 18
abbrev IO_MODE : Nat := 19
abbrev IO_IDLE : Nat := 20
abbrev CONV_CHAN : Nat := 21
abbrev DMA_DATA : Nat := 22
abbrev DBG_FREEZE : Nat := 23
abbrev COUNT : Nat := 24
abbrev CAPTURE : Nat := 26
abbrev FIFO : Nat := 28
abbrev STATE : Nat := 32
abbrev CONV_MISSED : Nat := 34
abbrev START : Nat := 0
abbrev STOP : Nat := 1
abbrev START_AT : Nat := 2
abbrev START_FRAME : Nat := 4
end TMR

/-! Indices of group TEL (R548, R473). -/
namespace TEL
abbrev DIV : Nat := 0
abbrev E_POS : Nat := 0
abbrev E_NEG : Nat := 4
end TEL

/-! Indices of group SEC (R548, R496). -/
namespace SEC
abbrev PRIV_DEFAULT : Nat := 0
abbrev PRIV_IDLE : Nat := 1
abbrev KEY_SLOT : Nat := 2
abbrev KEY_SEL : Nat := 3
abbrev KEYS : Nat := 4
abbrev ROLLBACK : Nat := 5
abbrev FW_STATE : Nat := 6
abbrev DEBUG_EN : Nat := 7
abbrev KEY_ID : Nat := 8
abbrev SERIAL : Nat := 12
abbrev FW_VERSION_A : Nat := 16
abbrev FW_VERSION_B : Nat := 18
abbrev KEY_NEW : Nat := 32
end SEC

end Sys2Proof.Machine
end

