-- ==== Sys2Proof/Machine/ParamMap.lean ====
section
/-! DEFINITION. The parameter map (R521 to R548): every parameter of the two parts with its instances, index, width, sign,
attribute, range, default and selvedge bound, and the search for the parameter that owns an ID. -/

namespace Sys2Proof.Machine

/-- The write attribute of a parameter (R17). -/
inductive PAttr where
  | staged | live | ro
deriving DecidableEq, Repr

/-- A field of the selvedge record that bounds or gives a default (R148); the instance of the parameter picks the port or phase. -/
inductive SelvF where
  | inVmax | inImax | ppVmax | ppVmin | ppIchg | ppIdis | linkVmax | linkVmin | phImax | tstage
deriving DecidableEq, Repr

/-- How a default is found (R527): a constant; the slot's KIND code in its place (R102); half the instance (R199); the rates of
R121; SCALE_NOM and ZERO_NOM (R156); a field of the selvedge record, whose stand-in for a blank record is the highest (hi) or the
lowest (lo) value of the range (R150); the factory contents of profile slots 0, 1 and 7, with 0 in every other slot (R316); the reference-stage coefficients that the pattern
holds (R210, R245). -/
inductive PDflt where
  | const (v : Int)
  | kind | halfInst | rateReg | rateTel | scaleNom | zeroNom
  | hi (f : SelvF)
  | lo (f : SelvF)
  | slot (s0 s1 s7 : Int)
  | refLoss (k : Nat)
deriving DecidableEq, Repr

/-- The selvedge bound of a parameter (R151): none; at most a field; between two fields; 1.5 times PH_IMAX (R199); the channel's
scale window and zero window (R144, R156); the bounds of a lane by its kind and port (R571). -/
inductive PBound where
  | free
  | atMost (f : SelvF)
  | within (lo hi : SelvF)
  | phPeak | scale | zero | laneI | laneINeg | laneVov
deriving DecidableEq, Repr

/-- One parameter: the instances that have it, its index, its width in words, its attribute, whether it is signed, its range as a
list of intervals (empty: every value of the width), its default, its selvedge bound and its name. -/
structure ParamDef where
  inst0  : Nat
  inst1  : Nat
  idx    : Nat
  words  : Nat
  attr   : PAttr
  signed : Bool
  rng    : List (Int × Int)
  dflt   : PDflt
  bound  : PBound
  name   : String
deriving DecidableEq, Repr

/-- The parameters of group GLB (R532). -/
def paramsGLB : List ParamDef := [
  ⟨0, 0, 0, 1, .staged, false, [(0, 1)], .const 0, .free, "OPMODE"⟩,
  ⟨0, 0, 1, 1, .ro, false, [], .const 1, .free, "STATUS"⟩,
  ⟨0, 0, 2, 2, .ro, false, [], .const 0, .free, "FW_BUILD"⟩,
  ⟨0, 0, 4, 1, .ro, false, [], .const 0, .free, "PART"⟩,
  ⟨0, 0, 5, 1, .ro, false, [], .const 176, .free, "DIE_STEP"⟩,
  ⟨0, 0, 6, 1, .live, false, [(0, 7)], .const 0, .free, "HOST_FRAMING"⟩,
  ⟨0, 0, 7, 1, .staged, false, [(0, 3)], .const 1, .free, "CAN_DBR"⟩,
  ⟨0, 0, 8, 1, .staged, false, [(0, 1)], .const 0, .free, "CAN_XID"⟩,
  ⟨0, 0, 9, 1, .ro, false, [], .const 546, .free, "HOST_VER"⟩,
  ⟨0, 0, 10, 2, .staged, false, [], .const 1728, .free, "CAN_ID_CMD"⟩,
  ⟨0, 0, 12, 2, .staged, false, [], .const 1729, .free, "CAN_ID_RPL"⟩,
  ⟨0, 0, 14, 2, .ro, false, [], .const 0, .free, "HOST_DROPS"⟩,
  ⟨0, 0, 16, 2, .ro, false, [], .const 0, .free, "CAN_CLASSIC"⟩]

/-- The parameters of group FRM (R536, R112). -/
def paramsFRM : List ParamDef := [
  ⟨0, 47, 0, 1, .ro, false, [], .kind, .free, "STATUS"⟩,
  ⟨0, 47, 2, 2, .ro, false, [], .const 0, .free, "OVR_COUNT"⟩,
  ⟨0, 47, 4, 1, .ro, false, [], .const 0, .free, "RECOVERIES"⟩,
  ⟨0, 47, 5, 1, .live, false, [(0, 0)], .const 0, .free, "STEP_MAX"⟩,
  ⟨48, 48, 0, 4, .ro, false, [], .const 0, .free, "FRAME"⟩,
  ⟨48, 48, 4, 1, .ro, false, [], .const 4000, .free, "LEN_LAST"⟩,
  ⟨48, 48, 6, 2, .ro, true, [], .const 0, .free, "DISC_RATE"⟩,
  ⟨48, 48, 8, 2, .ro, false, [], .const 0, .free, "STRETCHES"⟩,
  ⟨48, 48, 10, 2, .ro, false, [], .const 0, .free, "SHRINKS"⟩,
  ⟨48, 48, 12, 2, .ro, false, [], .const 0, .free, "OVR_TOTAL"⟩]

/-- The parameters of group SNS (R537, R156). -/
def paramsSNS : List ParamDef := [
  ⟨0, 56, 0, 2, .ro, true, [], .const 0, .free, "VALUE"⟩,
  ⟨0, 56, 2, 2, .ro, true, [], .const 0, .free, "NEWEST"⟩,
  ⟨0, 56, 4, 1, .ro, false, [], .const 0, .free, "RAW"⟩,
  ⟨0, 56, 5, 1, .ro, false, [], .const 0, .free, "AGE"⟩,
  ⟨0, 55, 6, 2, .staged, false, [], .scaleNom, .scale, "SCALE"⟩,
  ⟨0, 39, 9, 1, .staged, false, [(0, 16)], .rateReg, .free, "RATE_REG"⟩,
  ⟨0, 39, 10, 1, .staged, false, [(0, 16)], .rateTel, .free, "RATE_TEL"⟩,
  ⟨0, 55, 12, 2, .staged, true, [], .zeroNom, .zero, "ZERO"⟩,
  ⟨18, 25, 16, 1, .staged, false, [(0, 2)], .const 1, .free, "TS_MODE"⟩,
  ⟨18, 25, 17, 1, .staged, false, [(14746, 18022)], .const 16515, .free, "TS_IDEAL"⟩,
  ⟨18, 25, 18, 1, .staged, false, [(0, 1000)], .const 0, .free, "TS_RSER"⟩,
  ⟨18, 25, 19, 1, .staged, false, [(1000, 50000)], .const 10000, .free, "NTC_RNOM"⟩,
  ⟨18, 25, 20, 1, .staged, false, [(2000, 6000)], .const 3435, .free, "NTC_BETA"⟩,
  ⟨18, 25, 21, 1, .staged, false, [], .const 0, .free, "NTC_RPAR"⟩,
  ⟨18, 25, 22, 1, .ro, false, [], .const 0, .free, "TS_BAND"⟩,
  ⟨57, 57, 0, 1, .ro, false, [], .const 0, .free, "GRANTED"⟩,
  ⟨57, 57, 1, 1, .ro, false, [], .const 0, .free, "CARRIED"⟩,
  ⟨57, 57, 2, 2, .ro, false, [], .const 0, .free, "TEL_MISSED"⟩,
  ⟨57, 57, 4, 2, .ro, false, [], .const 0, .free, "DEFERRED"⟩]

/-- The parameters of group CAL (R535). -/
def paramsCAL : List ParamDef := [
  ⟨0, 0, 0, 1, .ro, false, [], .const 0, .free, "SELV_STATE"⟩,
  ⟨0, 0, 1, 1, .ro, false, [], .const 0, .free, "JOURNAL_USED"⟩,
  ⟨0, 0, 2, 1, .ro, false, [], .const 0, .free, "PATTERN_FAILED"⟩,
  ⟨0, 0, 4, 4, .ro, false, [], .const 0, .free, "ALTER_MASK"⟩,
  ⟨0, 0, 8, 4, .ro, false, [], .const 0, .free, "PATTERN_MASK"⟩]

/-- The parameters of group PH (R538, R199). -/
def paramsPH : List ParamDef := [
  ⟨0, 15, 0, 1, .staged, false, [(0, 7)], .halfInst, .free, "TS_PIN"⟩,
  ⟨0, 15, 1, 1, .staged, false, [], .const 500, .atMost .phImax, "I_LIMIT"⟩,
  ⟨0, 15, 2, 2, .staged, false, [], .const 1077952576, .free, "DT_RISE"⟩,
  ⟨0, 15, 4, 2, .staged, false, [], .const 1077952576, .free, "DT_FALL"⟩,
  ⟨0, 15, 6, 1, .staged, false, [], .const 750, .phPeak, "BW_IPK_POS"⟩,
  ⟨0, 15, 7, 1, .staged, false, [], .const 750, .phPeak, "BW_IPK_NEG"⟩,
  ⟨0, 15, 8, 1, .staged, true, [((-4), 4)], .const 0, .free, "SAMPLE_SHIFT"⟩,
  ⟨0, 15, 9, 1, .ro, false, [], .const 117, .free, "STATE"⟩,
  ⟨0, 15, 10, 2, .ro, true, [], .const 0, .free, "I_MEAS"⟩,
  ⟨0, 15, 12, 1, .ro, false, [], .const 0, .free, "DUTY"⟩,
  ⟨0, 15, 14, 2, .ro, false, [], .const 0, .free, "BW_COUNT"⟩]

/-- The parameters of group LN, part 1 (R539, R201). -/
def paramsLNA : List ParamDef := [
  ⟨0, 5, 0, 1, .staged, false, [(0, 4)], .const 0, .free, "KIND"⟩,
  ⟨0, 5, 1, 1, .staged, false, [(0, 3)], .const 0, .free, "PORT"⟩,
  ⟨0, 5, 2, 1, .staged, false, [], .const 0, .free, "PHASES"⟩,
  ⟨0, 5, 3, 1, .staged, false, [(0, 1)], .const 0, .free, "PORT_SIDE"⟩,
  ⟨0, 5, 4, 1, .staged, false, [(0, 1)], .const 0, .free, "MODE"⟩,
  ⟨0, 5, 5, 1, .staged, false, [], .const 1500, .free, "I_RATED"⟩,
  ⟨0, 5, 6, 1, .staged, false, [], .const 0, .laneI, "I_LIMIT"⟩,
  ⟨0, 5, 7, 1, .staged, false, [], .const 0, .laneINeg, "I_LIMIT_NEG"⟩,
  ⟨0, 5, 8, 1, .staged, true, [], .const 1536, .free, "CC_B0"⟩,
  ⟨0, 5, 9, 1, .staged, true, [], .const (-1280), .free, "CC_B1"⟩,
  ⟨0, 5, 10, 1, .staged, true, [], .const 0, .free, "CC_B2"⟩,
  ⟨0, 5, 11, 1, .staged, false, [(0, 15)], .const 10, .free, "CC_SHIFT"⟩,
  ⟨0, 5, 12, 1, .staged, false, [], .const 6554, .free, "CC_CLAMP"⟩,
  ⟨0, 5, 13, 1, .staged, false, [], .const 3277, .free, "DUTY_MIN"⟩,
  ⟨0, 5, 14, 1, .staged, false, [], .const 62259, .free, "DUTY_MAX"⟩,
  ⟨0, 5, 15, 1, .staged, false, [(0, 245)], .const 20, .free, "F_MIN"⟩,
  ⟨0, 5, 16, 2, .staged, false, [], .const 32768, .free, "KP_MAIN"⟩,
  ⟨0, 5, 18, 2, .staged, false, [], .const 655, .free, "KI_MAIN"⟩,
  ⟨0, 5, 20, 2, .staged, false, [], .const 32768, .free, "KP_LIM"⟩,
  ⟨0, 5, 22, 2, .staged, false, [], .const 655, .free, "KI_LIM"⟩,
  ⟨0, 5, 24, 1, .staged, false, [(0, 245)], .const 95, .free, "F_MAX"⟩,
  ⟨0, 5, 25, 1, .staged, false, [], .const 16, .free, "DT_SPAN"⟩,
  ⟨0, 5, 26, 1, .staged, false, [], .const 32, .free, "MIN_PULSE"⟩,
  ⟨0, 5, 27, 1, .staged, false, [(1, 1000)], .const 10, .free, "EN_LEAD"⟩,
  ⟨0, 5, 28, 2, .staged, false, [], .const 100000, .free, "IDLE_OFF"⟩,
  ⟨0, 5, 30, 1, .staged, false, [], .const 5, .free, "SS_RATE"⟩,
  ⟨0, 5, 31, 1, .staged, false, [(1000, 60000)], .const 10000, .free, "SS_TIMEOUT"⟩,
  ⟨0, 5, 32, 1, .staged, false, [], .const 20, .free, "RD_RATE"⟩,
  ⟨0, 5, 33, 1, .staged, false, [(100, 10000)], .const 1000, .free, "RD_TIMEOUT"⟩,
  ⟨0, 5, 34, 1, .staged, false, [(0, 1)], .const 0, .free, "SLACK_EN"⟩,
  ⟨0, 5, 35, 1, .staged, true, [], .const 0, .free, "SLACK_I"⟩,
  ⟨0, 5, 36, 1, .staged, false, [], .const 40, .free, "SURGE_V"⟩,
  ⟨0, 5, 37, 1, .staged, false, [], .const 200, .free, "SURGE_DIDT"⟩,
  ⟨0, 5, 38, 1, .staged, false, [], .const 0, .free, "FP_I"⟩,
  ⟨0, 5, 39, 1, .staged, false, [], .const 0, .laneVov, "BW_VOV"⟩,
  ⟨0, 5, 40, 1, .staged, false, [], .const 200, .free, "BW_WIN"⟩,
  ⟨0, 5, 41, 1, .staged, false, [], .const 50, .free, "RI_SLOPE"⟩,
  ⟨0, 5, 42, 1, .staged, false, [], .const 160, .free, "COT_TOFF_MIN"⟩,
  ⟨0, 5, 43, 1, .ro, false, [], .const 0, .free, "STATE"⟩,
  ⟨0, 5, 44, 2, .ro, true, [], .const 0, .free, "I_MEAS"⟩]

/-- The parameters of group LN, part 2 (R539, R201). -/
def paramsLNB : List ParamDef := [
  ⟨0, 5, 46, 1, .ro, false, [], .const 0, .free, "RATIO"⟩,
  ⟨0, 5, 47, 1, .ro, false, [], .const 0, .free, "LIMIT_POS"⟩,
  ⟨0, 5, 48, 1, .ro, false, [], .const 0, .free, "LIMIT_NEG"⟩,
  ⟨0, 5, 49, 1, .ro, false, [], .const 0, .free, "FREQ"⟩,
  ⟨0, 5, 50, 2, .ro, false, [], .const 0, .free, "RETRIES"⟩,
  ⟨0, 5, 52, 2, .ro, false, [], .const 0, .free, "RETRY_NEXT"⟩]

/-- The parameters of group LN (R539, R201). -/
def paramsLN : List ParamDef := paramsLNA ++ paramsLNB

/-- The parameters of group SRC, part 1 (R540, R280). -/
def paramsSRCA : List ParamDef := [
  ⟨0, 3, 0, 1, .staged, false, [(0, 2)], .const 0, .free, "KIND"⟩,
  ⟨0, 3, 1, 1, .staged, false, [(0, 15)], .const 8, .free, "PRIO"⟩,
  ⟨0, 3, 2, 1, .staged, false, [], .const 1000, .free, "V_MIN"⟩,
  ⟨0, 3, 3, 1, .staged, false, [], .hi .inVmax, .atMost .inVmax, "V_MAX"⟩,
  ⟨0, 3, 4, 1, .staged, false, [], .const 1500, .free, "VOC_MIN"⟩,
  ⟨0, 3, 5, 1, .staged, false, [(2000, 60000)], .const 2000, .free, "QUAL_FRAMES"⟩,
  ⟨0, 3, 6, 1, .staged, false, [(100, 60000)], .const 3000, .free, "SW_SETTLE"⟩,
  ⟨0, 3, 7, 1, .staged, false, [(10, 10000)], .const 100, .free, "LOSS_FRAMES"⟩,
  ⟨0, 3, 8, 1, .staged, false, [], .const 50, .free, "DIRECT_DV"⟩,
  ⟨0, 3, 9, 1, .staged, false, [], .const 200, .free, "HOLD_PMIN"⟩,
  ⟨0, 3, 10, 2, .staged, false, [], .const 6000000, .free, "DUSK_FRAMES"⟩,
  ⟨0, 3, 12, 1, .staged, false, [], .const 20, .free, "P_MIN"⟩,
  ⟨0, 3, 13, 1, .staged, false, [(20, 10000)], .const 500, .free, "MPPT_PERIOD"⟩,
  ⟨0, 3, 14, 2, .staged, false, [], .const 30000000, .free, "SWEEP_INTERVAL"⟩,
  ⟨0, 3, 16, 1, .staged, false, [(1, 200)], .const 20, .free, "MPPT_STEP"⟩,
  ⟨0, 3, 17, 1, .staged, false, [(16, 128)], .const 64, .free, "SWEEP_POINTS"⟩,
  ⟨0, 3, 18, 1, .staged, false, [(20, 1000)], .const 50, .free, "SWEEP_DWELL"⟩,
  ⟨0, 3, 19, 1, .staged, false, [(0, 1)], .const 1, .free, "ICS_MODE"⟩,
  ⟨0, 3, 20, 2, .staged, false, [], .const 6000000, .free, "ICS_RESEARCH"⟩,
  ⟨0, 3, 22, 1, .staged, false, [], .const 0, .atMost .inImax, "ICS_LIMIT"⟩,
  ⟨0, 3, 23, 1, .staged, false, [], .const 100, .free, "ICS_START"⟩,
  ⟨0, 3, 24, 1, .staged, false, [], .const 50, .free, "ICS_STEP"⟩,
  ⟨0, 3, 25, 1, .staged, false, [(100, 60000)], .const 1000, .free, "ICS_PERIOD"⟩,
  ⟨0, 3, 26, 1, .staged, false, [], .const 100, .free, "ICS_BACKOFF"⟩,
  ⟨0, 3, 27, 1, .ro, false, [], .const 0, .free, "STATE"⟩,
  ⟨0, 3, 28, 2, .ro, true, [], .const 0, .free, "V_MEAS"⟩,
  ⟨0, 3, 30, 2, .ro, true, [], .const 0, .free, "I_MEAS"⟩,
  ⟨0, 3, 32, 1, .ro, false, [], .const 0, .free, "VOC"⟩,
  ⟨0, 3, 33, 1, .ro, false, [], .const 0, .free, "V_REF"⟩,
  ⟨0, 3, 34, 2, .ro, false, [], .const 4294967295, .free, "VMPP_AGE"⟩,
  ⟨0, 3, 36, 1, .ro, false, [], .const 0, .free, "VMPP_LAST"⟩,
  ⟨0, 3, 37, 1, .ro, false, [], .const 0, .free, "I_REF"⟩,
  ⟨0, 3, 38, 1, .ro, false, [], .const 0, .free, "ICS_FOUND"⟩,
  ⟨0, 3, 39, 1, .ro, false, [], .const 0, .free, "P_AVAIL"⟩,
  ⟨4, 4, 0, 1, .staged, false, [], .const 4000, .within .linkVmin .linkVmax, "VSET"⟩,
  ⟨4, 4, 1, 1, .staged, false, [], .lo .linkVmin, .within .linkVmin .linkVmax, "LV_MIN"⟩,
  ⟨4, 4, 2, 1, .staged, false, [], .hi .linkVmax, .within .linkVmin .linkVmax, "LV_MAX"⟩,
  ⟨4, 4, 3, 1, .staged, false, [], .hi .linkVmax, .within .linkVmin .linkVmax, "LBW_VOV"⟩,
  ⟨4, 4, 4, 1, .staged, false, [(0, 2)], .const 0, .free, "POLICY"⟩,
  ⟨4, 4, 5, 1, .live, false, [(0, 2), (4, 7)], .const 0, .free, "HOLDER_REQ"⟩]

/-- The parameters of group SRC, part 2 (R540, R280). -/
def paramsSRCB : List ParamDef := [
  ⟨4, 4, 6, 2, .staged, false, [], .const 32768, .free, "KP_LINK"⟩,
  ⟨4, 4, 8, 2, .staged, false, [], .const 655, .free, "KI_LINK"⟩,
  ⟨4, 4, 10, 2, .staged, false, [], .const 32768, .free, "KP_ICS"⟩,
  ⟨4, 4, 12, 2, .staged, false, [], .const 655, .free, "KI_ICS"⟩,
  ⟨4, 4, 14, 1, .staged, false, [], .const 10, .free, "CHG_DV"⟩,
  ⟨4, 4, 15, 1, .staged, false, [], .const 20, .free, "SUPP_DV"⟩,
  ⟨4, 4, 16, 1, .staged, false, [], .const 50, .free, "CURT_DV"⟩,
  ⟨4, 4, 17, 1, .staged, false, [(1, 100)], .const 10, .free, "SEAM_SLEW"⟩,
  ⟨4, 4, 18, 1, .staged, false, [(1, 50)], .const 50, .free, "SEAM_RATE"⟩,
  ⟨4, 4, 19, 1, .staged, false, [], .const 50, .free, "SEAM_IEND"⟩,
  ⟨4, 4, 20, 1, .staged, false, [(1000, 60000)], .const 10000, .free, "SEAM_TIMEOUT"⟩,
  ⟨4, 4, 21, 1, .staged, false, [(100, 60000)], .const 10000, .free, "HOLD_FAIL"⟩,
  ⟨4, 4, 22, 2, .staged, false, [(10000, 360000000)], .const 1000000, .free, "SEAM_MIN_GAP"⟩,
  ⟨4, 4, 24, 1, .staged, false, [], .const 60, .free, "LOWN_DV"⟩,
  ⟨4, 4, 25, 1, .staged, false, [(1, 10000)], .const 100, .free, "LOWN_ASSERT"⟩,
  ⟨4, 4, 26, 2, .staged, false, [(100, 6000000)], .const 100000, .free, "LOWN_RELEASE"⟩,
  ⟨4, 4, 28, 1, .live, false, [(0, 1)], .const 0, .free, "LOWN_FORCE"⟩,
  ⟨4, 4, 29, 1, .live, false, [(0, 1)], .const 0, .free, "SWLINK_REQ"⟩,
  ⟨4, 4, 30, 2, .ro, true, [], .const 0, .free, "LV_MEAS"⟩,
  ⟨4, 4, 32, 1, .ro, false, [], .const 0, .free, "VSET_EFF"⟩,
  ⟨4, 4, 33, 1, .ro, false, [], .const 0, .free, "HOLDER"⟩,
  ⟨4, 4, 34, 2, .ro, false, [], .const 0, .free, "SEAMS"⟩]

/-- The parameters of group SRC (R540, R280). -/
def paramsSRC : List ParamDef := paramsSRCA ++ paramsSRCB

/-- The parameters of group CHG, part 1 (R541, R315 to R317). -/
def paramsCHGA : List ParamDef := [
  ⟨0, 3, 0, 1, .staged, false, [(0, 6), (255, 255)], .const 255, .free, "PROFILE"⟩,
  ⟨0, 3, 1, 1, .staged, false, [(0, 1)], .const 1, .free, "PARTNER"⟩,
  ⟨0, 3, 2, 1, .staged, false, [(0, 255)], .const 0, .free, "CELLS"⟩,
  ⟨0, 3, 3, 1, .staged, false, [], .const 0, .free, "CAP"⟩,
  ⟨0, 3, 4, 1, .staged, false, [(0, 1000)], .const 0, .free, "HEALTH"⟩,
  ⟨0, 3, 5, 1, .staged, false, [(0, 7), (255, 255)], .const 255, .free, "TS_PIN"⟩,
  ⟨0, 3, 6, 1, .staged, false, [], .hi .ppVmax, .atMost .ppVmax, "CV_V"⟩,
  ⟨0, 3, 7, 1, .staged, false, [], .hi .ppIchg, .atMost .ppIchg, "CC_I"⟩,
  ⟨0, 3, 8, 1, .staged, false, [], .const 0, .free, "TERM_I"⟩,
  ⟨0, 3, 9, 1, .staged, false, [], .hi .ppIdis, .atMost .ppIdis, "DIS_I"⟩,
  ⟨0, 3, 10, 1, .staged, false, [], .lo .ppVmin, .within .ppVmin .ppVmax, "V_FLOOR"⟩,
  ⟨0, 3, 11, 1, .staged, false, [(0, 1)], .const 1, .free, "SUPPLY_EN"⟩,
  ⟨0, 3, 12, 1, .staged, false, [(62259, 65535)], .const 65470, .free, "COUL_EFF"⟩,
  ⟨0, 3, 13, 1, .live, false, [(0, 1)], .const 0, .free, "STORAGE_REQ"⟩,
  ⟨0, 3, 14, 1, .live, false, [(0, 1)], .const 0, .free, "TOPOFF_REQ"⟩,
  ⟨0, 3, 15, 1, .live, false, [(0, 1)], .const 0, .free, "CAPTEST_REQ"⟩,
  ⟨0, 3, 16, 1, .ro, false, [], .const 32, .free, "STATE"⟩,
  ⟨0, 3, 17, 1, .ro, false, [], .const 0, .free, "SOC"⟩,
  ⟨0, 3, 18, 2, .ro, true, [], .const 0, .free, "V_MEAS"⟩,
  ⟨0, 3, 20, 2, .ro, true, [], .const 0, .free, "I_MEAS"⟩,
  ⟨0, 3, 22, 1, .ro, false, [], .const 0, .free, "V_CHG"⟩,
  ⟨0, 3, 23, 1, .ro, false, [], .const 0, .free, "V_FLOOR_EFF"⟩,
  ⟨0, 3, 24, 1, .ro, false, [], .const 0, .free, "I_CHG"⟩,
  ⟨0, 3, 25, 1, .ro, false, [], .const 0, .free, "I_DIS"⟩,
  ⟨0, 3, 26, 2, .ro, true, [], .const 0, .free, "SHARE"⟩,
  ⟨0, 3, 28, 2, .ro, false, [], .const 0, .free, "PRE_RETRIES"⟩,
  ⟨0, 3, 30, 1, .ro, false, [], .const 0, .free, "CAP_MEAS"⟩,
  ⟨0, 3, 32, 2, .ro, false, [], .const 0, .free, "AH_THRU"⟩,
  ⟨10, 15, 0, 1, .staged, false, [(0, 3)], .slot (1) (2) (3), .free, "CHEM"⟩,
  ⟨8, 9, 0, 1, .ro, false, [], .slot (1) (2) (3), .free, "CHEM"⟩,
  ⟨10, 15, 1, 1, .staged, false, [], .slot (3600) (4150) (0), .free, "CV_CELL"⟩,
  ⟨8, 9, 1, 1, .ro, false, [], .slot (3600) (4150) (0), .free, "CV_CELL"⟩,
  ⟨10, 15, 2, 1, .staged, false, [], .slot (3450) (4000) (0), .free, "CV_RED_CELL"⟩,
  ⟨8, 9, 2, 1, .ro, false, [], .slot (3450) (4000) (0), .free, "CV_RED_CELL"⟩,
  ⟨10, 15, 3, 1, .staged, false, [], .slot (3400) (3980) (0), .free, "MAINT_CELL"⟩,
  ⟨8, 9, 3, 1, .ro, false, [], .slot (3400) (3980) (0), .free, "MAINT_CELL"⟩,
  ⟨10, 15, 4, 1, .staged, false, [], .slot (3300) (3750) (0), .free, "STORE_CELL"⟩,
  ⟨8, 9, 4, 1, .ro, false, [], .slot (3300) (3750) (0), .free, "STORE_CELL"⟩,
  ⟨10, 15, 5, 1, .staged, false, [], .slot (2800) (3000) (0), .free, "PRE_V_CELL"⟩,
  ⟨8, 9, 5, 1, .ro, false, [], .slot (2800) (3000) (0), .free, "PRE_V_CELL"⟩]

/-- The parameters of group CHG, part 2 (R541, R315 to R317). -/
def paramsCHGB : List ParamDef := [
  ⟨10, 15, 6, 1, .staged, false, [], .slot (2850) (3200) (0), .free, "FLOOR_CELL"⟩,
  ⟨8, 9, 6, 1, .ro, false, [], .slot (2850) (3200) (0), .free, "FLOOR_CELL"⟩,
  ⟨10, 15, 7, 1, .staged, false, [], .slot (2000) (2500) (0), .free, "DEAD_CELL"⟩,
  ⟨8, 9, 7, 1, .ro, false, [], .slot (2000) (2500) (0), .free, "DEAD_CELL"⟩,
  ⟨10, 15, 8, 1, .staged, false, [], .slot (50) (50) (20), .free, "PRE_C"⟩,
  ⟨8, 9, 8, 1, .ro, false, [], .slot (50) (50) (20), .free, "PRE_C"⟩,
  ⟨10, 15, 9, 1, .staged, false, [], .slot (500) (500) (100), .free, "CC_C"⟩,
  ⟨8, 9, 9, 1, .ro, false, [], .slot (500) (500) (100), .free, "CC_C"⟩,
  ⟨10, 15, 10, 1, .staged, false, [], .slot (50) (50) (50), .free, "TERM_C"⟩,
  ⟨8, 9, 10, 1, .ro, false, [], .slot (50) (50) (50), .free, "TERM_C"⟩,
  ⟨10, 15, 11, 1, .staged, false, [], .slot (20) (20) (0), .free, "TOPOFF_C"⟩,
  ⟨8, 9, 11, 1, .ro, false, [], .slot (20) (20) (0), .free, "TOPOFF_C"⟩,
  ⟨10, 15, 12, 1, .staged, false, [], .slot (1000) (1000) (500), .free, "DIS_C"⟩,
  ⟨8, 9, 12, 1, .ro, false, [], .slot (1000) (1000) (500), .free, "DIS_C"⟩,
  ⟨10, 15, 14, 2, .staged, false, [], .slot (6000000) (6000000) (6000000), .free, "TERM_FRAMES"⟩,
  ⟨8, 9, 14, 2, .ro, false, [], .slot (6000000) (6000000) (6000000), .free, "TERM_FRAMES"⟩,
  ⟨10, 15, 16, 2, .staged, false, [], .slot (180000000) (0) (0), .free, "TOPOFF_TIME"⟩,
  ⟨8, 9, 16, 2, .ro, false, [], .slot (180000000) (0) (0), .free, "TOPOFF_TIME"⟩,
  ⟨10, 15, 18, 2, .staged, false, [], .slot (180000000) (180000000) (180000000), .free, "REST_TIME"⟩,
  ⟨8, 9, 18, 2, .ro, false, [], .slot (180000000) (180000000) (180000000), .free, "REST_TIME"⟩,
  ⟨10, 15, 20, 2, .staged, false, [], .slot (720000000) (720000000) (720000000), .free, "PRE_TIMEOUT"⟩,
  ⟨8, 9, 20, 2, .ro, false, [], .slot (720000000) (720000000) (720000000), .free, "PRE_TIMEOUT"⟩,
  ⟨10, 15, 22, 2, .staged, false, [], .slot (180000000) (180000000) (180000000), .free, "PRE_REST"⟩,
  ⟨8, 9, 22, 2, .ro, false, [], .slot (180000000) (180000000) (180000000), .free, "PRE_REST"⟩,
  ⟨10, 15, 24, 2, .staged, false, [], .slot (2880000000) (2880000000) (2880000000), .free, "CHG_TIMEOUT"⟩,
  ⟨8, 9, 24, 2, .ro, false, [], .slot (2880000000) (2880000000) (2880000000), .free, "CHG_TIMEOUT"⟩,
  ⟨10, 15, 26, 1, .staged, true, [], .slot (-200) (-200) (-200), .free, "T1"⟩,
  ⟨8, 9, 26, 1, .ro, true, [], .slot (-200) (-200) (-200), .free, "T1"⟩,
  ⟨10, 15, 27, 1, .staged, true, [], .slot (0) (0) (50), .free, "T2"⟩,
  ⟨8, 9, 27, 1, .ro, true, [], .slot (0) (0) (50), .free, "T2"⟩,
  ⟨10, 15, 28, 1, .staged, true, [], .slot (100) (100) (150), .free, "T3"⟩,
  ⟨8, 9, 28, 1, .ro, true, [], .slot (100) (100) (150), .free, "T3"⟩,
  ⟨10, 15, 29, 1, .staged, true, [], .slot (450) (450) (400), .free, "T4"⟩,
  ⟨8, 9, 29, 1, .ro, true, [], .slot (450) (450) (400), .free, "T4"⟩,
  ⟨10, 15, 30, 1, .staged, true, [], .slot (550) (550) (450), .free, "T5"⟩,
  ⟨8, 9, 30, 1, .ro, true, [], .slot (550) (550) (450), .free, "T5"⟩,
  ⟨10, 15, 31, 1, .staged, true, [], .slot (600) (600) (550), .free, "T6"⟩,
  ⟨8, 9, 31, 1, .ro, true, [], .slot (600) (600) (550), .free, "T6"⟩,
  ⟨10, 15, 32, 1, .staged, false, [], .slot (50) (50) (50), .free, "COOL_F"⟩,
  ⟨8, 9, 32, 1, .ro, false, [], .slot (50) (50) (50), .free, "COOL_F"⟩]

/-- The parameters of group CHG, part 3 (R541, R315 to R317). -/
def paramsCHGC : List ParamDef := [
  ⟨10, 15, 33, 1, .staged, false, [], .slot (100) (100) (50), .free, "WARM_F"⟩,
  ⟨8, 9, 33, 1, .ro, false, [], .slot (100) (100) (50), .free, "WARM_F"⟩,
  ⟨10, 15, 34, 1, .staged, false, [], .slot (0) (0) (0), .free, "COOL_DV"⟩,
  ⟨8, 9, 34, 1, .ro, false, [], .slot (0) (0) (0), .free, "COOL_DV"⟩,
  ⟨10, 15, 35, 1, .staged, false, [], .slot (0) (100) (100), .free, "WARM_DV"⟩,
  ⟨8, 9, 35, 1, .ro, false, [], .slot (0) (100) (100), .free, "WARM_DV"⟩,
  ⟨10, 15, 36, 1, .staged, false, [], .slot (950) (950) (900), .free, "RECHG_SOC"⟩,
  ⟨8, 9, 36, 1, .ro, false, [], .slot (950) (950) (900), .free, "RECHG_SOC"⟩,
  ⟨10, 15, 37, 1, .staged, false, [], .slot (50) (50) (100), .free, "SOC_RESERVE"⟩,
  ⟨8, 9, 37, 1, .ro, false, [], .slot (50) (50) (100), .free, "SOC_RESERVE"⟩,
  ⟨10, 15, 38, 1, .staged, false, [], .slot (3000) (3300) (0), .free, "OCV0"⟩,
  ⟨8, 9, 38, 1, .ro, false, [], .slot (3000) (3300) (0), .free, "OCV0"⟩,
  ⟨10, 15, 39, 1, .staged, false, [], .slot (3200) (3500) (0), .free, "OCV1"⟩,
  ⟨8, 9, 39, 1, .ro, false, [], .slot (3200) (3500) (0), .free, "OCV1"⟩,
  ⟨10, 15, 40, 1, .staged, false, [], .slot (3250) (3580) (0), .free, "OCV2"⟩,
  ⟨8, 9, 40, 1, .ro, false, [], .slot (3250) (3580) (0), .free, "OCV2"⟩,
  ⟨10, 15, 41, 1, .staged, false, [], .slot (3275) (3640) (0), .free, "OCV3"⟩,
  ⟨8, 9, 41, 1, .ro, false, [], .slot (3275) (3640) (0), .free, "OCV3"⟩,
  ⟨10, 15, 42, 1, .staged, false, [], .slot (3290) (3690) (0), .free, "OCV4"⟩,
  ⟨8, 9, 42, 1, .ro, false, [], .slot (3290) (3690) (0), .free, "OCV4"⟩,
  ⟨10, 15, 43, 1, .staged, false, [], .slot (3300) (3740) (0), .free, "OCV5"⟩,
  ⟨8, 9, 43, 1, .ro, false, [], .slot (3300) (3740) (0), .free, "OCV5"⟩,
  ⟨10, 15, 44, 1, .staged, false, [], .slot (3305) (3810) (0), .free, "OCV6"⟩,
  ⟨8, 9, 44, 1, .ro, false, [], .slot (3305) (3810) (0), .free, "OCV6"⟩,
  ⟨10, 15, 45, 1, .staged, false, [], .slot (3320) (3880) (0), .free, "OCV7"⟩,
  ⟨8, 9, 45, 1, .ro, false, [], .slot (3320) (3880) (0), .free, "OCV7"⟩,
  ⟨10, 15, 46, 1, .staged, false, [], .slot (3330) (3960) (0), .free, "OCV8"⟩,
  ⟨8, 9, 46, 1, .ro, false, [], .slot (3330) (3960) (0), .free, "OCV8"⟩,
  ⟨10, 15, 47, 1, .staged, false, [], .slot (3340) (4050) (0), .free, "OCV9"⟩,
  ⟨8, 9, 47, 1, .ro, false, [], .slot (3340) (4050) (0), .free, "OCV9"⟩,
  ⟨10, 15, 48, 1, .staged, false, [], .slot (3420) (4150) (0), .free, "OCV10"⟩,
  ⟨8, 9, 48, 1, .ro, false, [], .slot (3420) (4150) (0), .free, "OCV10"⟩,
  ⟨16, 16, 0, 1, .staged, false, [(2000, 60000)], .const 2000, .free, "UQUAL_FRAMES"⟩,
  ⟨16, 16, 1, 1, .staged, false, [(100, 60000)], .const 1000, .free, "USW_SETTLE"⟩,
  ⟨16, 16, 2, 2, .staged, false, [(100000, 6000000)], .const 100000, .free, "HOLDOFF"⟩,
  ⟨16, 16, 4, 1, .staged, false, [(0, 500)], .const 50, .free, "FB_DV"⟩,
  ⟨16, 16, 5, 1, .staged, false, [(5, 100)], .const 20, .free, "PTEMP_HYST"⟩,
  ⟨16, 16, 6, 1, .staged, false, [], .const 10, .free, "ANCHOR_C"⟩,
  ⟨16, 16, 7, 1, .staged, false, [], .const 30, .free, "TOPOFF_SPREAD"⟩,
  ⟨16, 16, 8, 2, .staged, false, [], .const 180000000, .free, "ANCHOR_FRAMES"⟩]

/-- The parameters of group CHG, part 4 (R541, R315 to R317). -/
def paramsCHGD : List ParamDef := [
  ⟨16, 16, 10, 1, .staged, false, [], .const 200, .free, "CAPTEST_C"⟩,
  ⟨16, 16, 12, 2, .staged, false, [], .const 3600000000, .free, "CAPTEST_MAX"⟩,
  ⟨16, 16, 14, 2, .live, true, [], .const 0, .free, "EXT_DEMAND"⟩,
  ⟨16, 16, 16, 2, .ro, false, [], .const 0, .free, "C_MAX"⟩,
  ⟨16, 16, 18, 2, .ro, false, [], .const 0, .free, "S_MAX"⟩]

/-- The parameters of group CHG (R541, R315 to R317). -/
def paramsCHG : List ParamDef := paramsCHGA ++ paramsCHGB ++ paramsCHGC ++ paramsCHGD

/-- The parameters of group SCH, part 1 (R542, R245). -/
def paramsSCHA : List ParamDef := [
  ⟨0, 5, 0, 1, .staged, false, [], .refLoss 0, .free, "DEF_A"⟩,
  ⟨0, 5, 1, 1, .staged, false, [], .refLoss 1, .free, "DEF_R"⟩,
  ⟨0, 5, 2, 1, .staged, false, [], .refLoss 2, .free, "DEF_E"⟩,
  ⟨0, 5, 3, 1, .staged, false, [], .const 4000, .free, "DEF_V"⟩,
  ⟨0, 5, 4, 1, .staged, false, [(0, 245)], .const 45, .free, "DEF_FREQ"⟩,
  ⟨0, 5, 5, 1, .staged, false, [], .const 0, .free, "AUX_W"⟩,
  ⟨0, 5, 6, 1, .staged, false, [], .const 25, .free, "GD_PH"⟩,
  ⟨0, 5, 7, 1, .staged, false, [(1, 64)], .const 16, .free, "CONF_STEP"⟩,
  ⟨0, 5, 8, 1, .staged, false, [(10, 1000)], .const 20, .free, "SETTLE"⟩,
  ⟨0, 5, 9, 1, .staged, false, [(50, 10000)], .const 100, .free, "LEARN_FRAMES"⟩,
  ⟨0, 5, 10, 1, .staged, false, [(100, 60000)], .const 1000, .free, "STEADY"⟩,
  ⟨0, 5, 11, 1, .staged, false, [(0, 1)], .const 1, .free, "PROBE_EN"⟩,
  ⟨0, 5, 12, 1, .staged, false, [(1000, 60000)], .const 1000, .free, "PROBE_GAP"⟩,
  ⟨0, 5, 13, 1, .staged, false, [(1, 20)], .const 5, .free, "PROBE_FSTEP"⟩,
  ⟨0, 5, 14, 1, .staged, false, [(50, 100)], .const 90, .free, "PH_LOAD"⟩,
  ⟨0, 5, 15, 1, .staged, false, [(0, 20)], .const 5, .free, "HYST"⟩,
  ⟨0, 5, 16, 1, .staged, false, [(1, 10000)], .const 50, .free, "SHED_HOLD"⟩,
  ⟨0, 5, 17, 1, .staged, false, [(8, 10000)], .const 8, .free, "SHED_GAP"⟩,
  ⟨0, 5, 18, 1, .staged, false, [(1, 16)], .const 1, .free, "SLACK_PHASES"⟩,
  ⟨0, 5, 19, 1, .staged, false, [(0, 200)], .const 50, .free, "WEAR_K"⟩,
  ⟨0, 5, 20, 1, .staged, false, [(10, 200)], .const 30, .free, "ROT_HYST"⟩,
  ⟨0, 5, 21, 1, .live, false, [(19523, 19523)], .const 0, .free, "MAP_CLEAR"⟩,
  ⟨0, 5, 22, 2, .staged, false, [(10000, 360000000)], .const 100000, .free, "ROT_MIN"⟩,
  ⟨0, 5, 24, 1, .ro, false, [], .const 0, .free, "PLAN"⟩,
  ⟨0, 5, 25, 1, .ro, false, [], .const 0, .free, "ENTRY"⟩,
  ⟨0, 5, 26, 1, .ro, false, [], .const 65535, .free, "BOUND"⟩,
  ⟨0, 5, 28, 2, .ro, false, [], .const 0, .free, "QUAR_COUNT"⟩,
  ⟨0, 5, 30, 2, .ro, false, [], .const 0, .free, "DISCARDS"⟩,
  ⟨16, 31, 0, 1, .ro, true, [], .const 0, .free, "TJ"⟩,
  ⟨48, 48, 0, 1, .staged, false, [], .const 1100, .atMost .tstage, "TJ_MAX"⟩,
  ⟨48, 48, 1, 1, .staged, false, [], .const 800, .free, "RTH"⟩,
  ⟨48, 48, 2, 1, .staged, false, [(10, 10000)], .const 500, .free, "TAU"⟩,
  ⟨48, 48, 3, 1, .staged, false, [(10, 100)], .const 30, .free, "DERATE_SPAN"⟩,
  ⟨48, 48, 4, 1, .staged, false, [(0, 4)], .const 2, .free, "SWEEP_MAX"⟩,
  ⟨48, 48, 5, 1, .staged, false, [(0, 40)], .const 8, .free, "HOST_RESERVE"⟩,
  ⟨48, 48, 6, 1, .staged, false, [(0, 15)], .const 8, .free, "SITE_PRIO"⟩,
  ⟨48, 48, 7, 1, .live, false, [], .const 0, .free, "MAP_SEL"⟩,
  ⟨48, 48, 8, 2, .staged, false, [], .const 0, .free, "LOCAL_CHG"⟩,
  ⟨48, 48, 10, 2, .staged, false, [], .const 0, .free, "LOCAL_DIS"⟩,
  ⟨48, 48, 12, 2, .ro, false, [], .const 4294967295, .free, "SITE_CHG"⟩]

/-- The parameters of group SCH, part 2 (R542, R245). -/
def paramsSCHB : List ParamDef := [
  ⟨48, 48, 14, 2, .ro, false, [], .const 4294967295, .free, "SITE_DIS"⟩,
  ⟨48, 48, 16, 4, .ro, false, [], .const 0, .free, "MAP_ENTRY"⟩,
  ⟨48, 48, 20, 2, .ro, false, [], .const 0, .free, "PERSIST_GEN"⟩]

/-- The parameters of group SCH (R542, R245). -/
def paramsSCH : List ParamDef := paramsSCHA ++ paramsSCHB

/-- The parameters of group PRT, part 1 (R543, R361). -/
def paramsPRTA : List ParamDef := [
  ⟨0, 3, 0, 1, .staged, false, [(0, 1)], .const 0, .free, "MODE"⟩,
  ⟨0, 3, 1, 1, .staged, false, [(0, 2)], .const 0, .free, "PRESENT"⟩,
  ⟨0, 3, 2, 1, .staged, false, [(16, 17), (32, 35)], .const 35, .free, "VER_MAX"⟩,
  ⟨0, 3, 3, 1, .staged, false, [(0, 2)], .const 0, .free, "AUTH_MODE"⟩,
  ⟨0, 3, 4, 1, .staged, false, [], .const 0, .free, "AUTH_KEY"⟩,
  ⟨0, 3, 5, 1, .staged, false, [], .const 0, .atMost .ppVmax, "OFFER_V0"⟩,
  ⟨0, 3, 6, 1, .staged, false, [], .const 0, .atMost .ppVmax, "OFFER_V1"⟩,
  ⟨0, 3, 7, 1, .staged, false, [], .const 0, .atMost .ppVmax, "OFFER_V2"⟩,
  ⟨0, 3, 8, 1, .staged, false, [], .const 0, .atMost .ppVmax, "OFFER_V3"⟩,
  ⟨0, 3, 9, 1, .staged, false, [], .const 0, .atMost .ppIchg, "OFFER_I0"⟩,
  ⟨0, 3, 10, 1, .staged, false, [], .const 0, .atMost .ppIchg, "OFFER_I1"⟩,
  ⟨0, 3, 11, 1, .staged, false, [], .const 0, .atMost .ppIchg, "OFFER_I2"⟩,
  ⟨0, 3, 12, 1, .staged, false, [], .const 0, .atMost .ppIchg, "OFFER_I3"⟩,
  ⟨0, 3, 13, 1, .staged, false, [(1, 10)], .const 5, .free, "OFFER_TOL"⟩,
  ⟨0, 3, 14, 1, .staged, false, [], .lo .ppVmin, .within .ppVmin .ppVmax, "TAKE_VMIN"⟩,
  ⟨0, 3, 15, 1, .staged, false, [], .hi .ppVmax, .within .ppVmin .ppVmax, "TAKE_VMAX"⟩,
  ⟨0, 3, 16, 1, .staged, false, [], .const 0, .atMost .ppIdis, "TAKE_I"⟩,
  ⟨0, 3, 17, 1, .staged, false, [], .const 0, .free, "SWAP_ACCEPT"⟩,
  ⟨0, 3, 18, 1, .staged, false, [(1, 50)], .const 5, .free, "V_SLEW"⟩,
  ⟨0, 3, 19, 1, .staged, false, [(50, 400)], .const 250, .free, "STATUS_PERIOD"⟩,
  ⟨0, 3, 20, 1, .ro, false, [], .const 0, .free, "STATE"⟩,
  ⟨0, 3, 21, 1, .ro, false, [], .const 0, .free, "VER"⟩,
  ⟨0, 3, 22, 1, .ro, false, [], .const 0, .free, "CON_V"⟩,
  ⟨0, 3, 23, 1, .ro, false, [], .const 0, .free, "CON_I"⟩,
  ⟨0, 3, 24, 1, .ro, false, [], .const 0, .free, "CABLE_V"⟩,
  ⟨0, 3, 25, 1, .ro, false, [], .const 0, .free, "CABLE_I"⟩,
  ⟨0, 3, 26, 1, .ro, false, [], .const 0, .free, "PK_CHEM"⟩,
  ⟨0, 3, 27, 1, .ro, false, [], .const 0, .free, "PK_CELLS"⟩,
  ⟨0, 3, 28, 4, .ro, false, [], .const 0, .free, "PARTNER_SERIAL"⟩,
  ⟨0, 3, 32, 1, .ro, false, [], .const 0, .free, "PK_CAP"⟩,
  ⟨0, 3, 33, 1, .ro, false, [], .const 0, .free, "PK_SOH"⟩,
  ⟨0, 3, 34, 1, .ro, false, [], .const 0, .free, "PK_VMAX"⟩,
  ⟨0, 3, 35, 1, .ro, false, [], .const 0, .free, "PK_VMIN"⟩,
  ⟨0, 3, 36, 1, .ro, false, [], .const 0, .free, "PK_ICHG"⟩,
  ⟨0, 3, 37, 1, .ro, false, [], .const 0, .free, "PK_IDIS"⟩,
  ⟨0, 3, 38, 1, .ro, false, [], .const 0, .free, "PK_SOC"⟩,
  ⟨0, 3, 39, 1, .ro, true, [], .const 0, .free, "PK_TEMP"⟩,
  ⟨0, 3, 40, 1, .ro, false, [], .const 0, .free, "PK_SPREAD"⟩,
  ⟨0, 3, 42, 2, .ro, false, [], .const 4294967295, .free, "PK_AGE"⟩,
  ⟨0, 3, 44, 2, .ro, false, [], .const 0, .free, "SOFT_RESETS"⟩]

/-- The parameters of group PRT, part 2 (R543, R361). -/
def paramsPRTB : List ParamDef := [
  ⟨0, 3, 46, 2, .ro, false, [], .const 0, .free, "HARD_RESETS"⟩,
  ⟨0, 3, 48, 2, .ro, false, [], .const 0, .free, "RESENDS"⟩,
  ⟨0, 3, 50, 2, .ro, false, [], .const 0, .free, "CRC_ERRORS"⟩]

/-- The parameters of group PRT (R543, R361). -/
def paramsPRT : List ParamDef := paramsPRTA ++ paramsPRTB

/-- The parameters of group FLE (R544, R405). -/
def paramsFLE : List ParamDef := [
  ⟨0, 2, 0, 1, .ro, false, [], .const 0, .free, "LINK"⟩,
  ⟨0, 2, 2, 2, .ro, false, [], .const 0, .free, "HOP_DELAY"⟩,
  ⟨0, 2, 4, 2, .ro, false, [], .const 0, .free, "CRC_ERRORS"⟩,
  ⟨0, 2, 6, 2, .ro, false, [], .const 0, .free, "RESENDS"⟩,
  ⟨3, 3, 0, 1, .staged, false, [(0, 255)], .const 128, .free, "PRIO"⟩,
  ⟨3, 3, 1, 1, .staged, false, [(1, 2)], .const 2, .free, "VER_MAX"⟩,
  ⟨3, 3, 2, 1, .staged, false, [(0, 2)], .const 0, .free, "AUTH_MODE"⟩,
  ⟨3, 3, 3, 1, .staged, false, [], .const 0, .free, "AUTH_KEY"⟩,
  ⟨3, 3, 4, 1, .staged, false, [(0, 1023), (65535, 65535)], .const 65535, .free, "ADDR_PREF"⟩,
  ⟨3, 3, 5, 1, .staged, false, [(0, 3)], .const 2, .free, "REMOTE_PRIV"⟩,
  ⟨3, 3, 6, 1, .staged, false, [(0, 1)], .const 1, .free, "BARRIER_AUTO"⟩,
  ⟨3, 3, 7, 1, .staged, false, [], .const 65534, .free, "EVT_UP"⟩,
  ⟨3, 3, 8, 1, .staged, false, [], .const 4096, .free, "DISC_KP"⟩,
  ⟨3, 3, 9, 1, .staged, false, [], .const 64, .free, "DISC_KI"⟩,
  ⟨3, 3, 10, 1, .staged, false, [(10, 10000)], .const 100, .free, "DELAY_PERIOD"⟩,
  ⟨3, 3, 11, 1, .staged, false, [(1000, 60000)], .const 10000, .free, "BUDGET_PERIOD"⟩,
  ⟨3, 3, 12, 2, .staged, false, [(10000, 6000000)], .const 100000, .free, "ELECT_WAIT"⟩,
  ⟨3, 3, 14, 2, .staged, false, [], .const 100000, .free, "SNAP_TIMEOUT"⟩,
  ⟨3, 3, 16, 2, .staged, false, [], .const 4294967295, .free, "SITE_CHG_W"⟩,
  ⟨3, 3, 18, 2, .staged, false, [], .const 4294967295, .free, "SITE_DIS_W"⟩,
  ⟨3, 3, 20, 2, .staged, false, [], .const 0, .free, "V1_RESERVE"⟩,
  ⟨3, 3, 22, 2, .staged, false, [], .const 0, .free, "JOIN_SHARE"⟩,
  ⟨3, 3, 24, 1, .ro, false, [], .const 0, .free, "STATE"⟩,
  ⟨3, 3, 25, 1, .ro, false, [], .const 65535, .free, "ADDR"⟩,
  ⟨3, 3, 26, 1, .ro, false, [], .const 0, .free, "DEPTH"⟩,
  ⟨3, 3, 27, 1, .ro, false, [], .const 0, .free, "FLEET_DEPTH"⟩,
  ⟨3, 3, 28, 4, .ro, false, [], .const 0, .free, "ROOT_SERIAL"⟩,
  ⟨3, 3, 32, 2, .ro, true, [], .const 0, .free, "OFFSET"⟩,
  ⟨3, 3, 34, 2, .ro, false, [], .const 0, .free, "EVT_LOST"⟩,
  ⟨3, 3, 36, 1, .ro, false, [], .const 1, .free, "UNITS"⟩]

/-- The parameters of group SEQ (R545, R427, R428). -/
def paramsSEQ : List ParamDef := [
  ⟨0, 7, 0, 1, .staged, false, [(0, 7), (255, 255)], .const 255, .free, "ORDER"⟩,
  ⟨0, 7, 1, 1, .staged, false, [], .const 0, .free, "V_GOOD"⟩,
  ⟨0, 7, 2, 1, .staged, false, [], .const 50, .free, "V_HYST"⟩,
  ⟨0, 7, 3, 1, .staged, false, [], .const 0, .free, "V_OV"⟩,
  ⟨0, 7, 4, 1, .staged, false, [], .const 500, .free, "V_OFF"⟩,
  ⟨0, 7, 5, 1, .staged, false, [(1, 100)], .const 4, .free, "DEBOUNCE"⟩,
  ⟨0, 7, 6, 1, .staged, false, [(10, 60000)], .const 100, .free, "STABLE"⟩,
  ⟨0, 7, 7, 1, .staged, false, [(100, 60000)], .const 2000, .free, "RAMP_TIMEOUT"⟩,
  ⟨0, 7, 8, 1, .staged, false, [(0, 60000)], .const 0, .free, "DELAY_UP"⟩,
  ⟨0, 7, 9, 1, .staged, false, [(100, 60000)], .const 10000, .free, "FALL_TIMEOUT"⟩,
  ⟨0, 7, 10, 1, .staged, false, [], .const 0, .free, "LANES"⟩,
  ⟨0, 7, 11, 1, .ro, false, [], .const 0, .free, "STATE"⟩,
  ⟨0, 7, 12, 2, .ro, true, [], .const 0, .free, "V_MEAS"⟩,
  ⟨0, 7, 14, 2, .ro, false, [], .const 0, .free, "CHATTER"⟩,
  ⟨0, 7, 16, 1, .ro, false, [], .const 0, .free, "RISE_FRAMES"⟩,
  ⟨8, 8, 0, 1, .staged, false, [(0, 1)], .const 0, .free, "ENABLE"⟩,
  ⟨8, 8, 1, 1, .staged, false, [(5000, 60000)], .const 5000, .free, "MIN_OFF"⟩,
  ⟨8, 8, 2, 1, .staged, false, [(0, 1)], .const 0, .free, "TRIP_HALT"⟩,
  ⟨8, 8, 3, 1, .staged, false, [(0, 1)], .const 0, .free, "HALT_ACTION"⟩,
  ⟨8, 8, 4, 1, .ro, false, [], .const 0, .free, "USTATE"⟩,
  ⟨8, 8, 6, 2, .ro, false, [], .const 0, .free, "TRIPS"⟩,
  ⟨8, 8, 8, 2, .ro, false, [], .const 0, .free, "TRIP_NEXT"⟩,
  ⟨9, 12, 0, 1, .staged, false, [], .const 0, .free, "MASK"⟩,
  ⟨9, 12, 1, 1, .staged, false, [(0, 1)], .const 0, .free, "POLARITY"⟩,
  ⟨9, 12, 2, 2, .staged, false, [(100, 6000000)], .const 20000, .free, "STRETCH"⟩,
  ⟨9, 12, 4, 1, .live, false, [(0, 1)], .const 0, .free, "FORCE"⟩,
  ⟨12, 12, 5, 1, .staged, false, [(0, 60000)], .const 0, .free, "SAFE_PULSE"⟩]

/-- The parameters of group SAF (R546, R471). -/
def paramsSAF : List ParamDef := [
  ⟨0, 0, 0, 1, .staged, false, [(0, 1)], .const 1, .free, "WD_EN"⟩,
  ⟨0, 0, 1, 1, .staged, false, [], .const 0, .free, "WD_TASKMASK"⟩,
  ⟨0, 0, 2, 2, .staged, false, [], .const 0, .free, "WD_OPEN"⟩,
  ⟨0, 0, 4, 2, .staged, false, [(10, 600000)], .const 30000, .free, "WD_CLOSE"⟩,
  ⟨0, 0, 6, 1, .staged, false, [(0, 1)], .const 0, .free, "WD_DUP_STRICT"⟩,
  ⟨0, 0, 7, 1, .ro, false, [], .const 0, .free, "WD_STATUS"⟩,
  ⟨0, 0, 8, 2, .ro, false, [], .const 0, .free, "WD_ELAPSED"⟩,
  ⟨0, 0, 10, 2, .ro, false, [], .const 0, .free, "WD_TIMEOUTS"⟩,
  ⟨0, 0, 12, 1, .ro, false, [], .const 0, .free, "WD_SEEN"⟩,
  ⟨0, 0, 13, 1, .staged, false, [(0, 1)], .const 0, .free, "SAFEN_HALT"⟩,
  ⟨0, 0, 14, 1, .staged, false, [(100, 60000)], .const 100, .free, "SAFEN_RELEASE"⟩,
  ⟨0, 0, 15, 1, .live, false, [(18516, 18516)], .const 0, .free, "HALT_REQ"⟩,
  ⟨0, 0, 16, 1, .ro, false, [], .const 0, .free, "HALT_CAUSE"⟩,
  ⟨0, 0, 17, 1, .live, false, [(0, 1)], .const 0, .free, "FAULT_FORCE"⟩,
  ⟨0, 0, 18, 1, .ro, false, [], .const 0, .free, "PROT_HOLD"⟩,
  ⟨0, 0, 19, 1, .ro, false, [], .const 1, .free, "RESET_CAUSE"⟩,
  ⟨0, 0, 20, 2, .ro, false, [], .const 0, .free, "CORE_RESTARTS"⟩,
  ⟨0, 0, 22, 2, .ro, false, [], .const 0, .free, "POWER_FAILS"⟩,
  ⟨0, 0, 24, 2, .ro, false, [], .const 0, .free, "REC_COUNT"⟩,
  ⟨0, 0, 26, 2, .ro, false, [], .const 0, .free, "REC_SKIPPED"⟩]

/-- The parameters of group TMR (R547, R518). -/
def paramsTMR : List ParamDef := [
  ⟨0, 15, 0, 1, .staged, false, [(0, 4)], .const 0, .free, "MODE"⟩,
  ⟨0, 15, 1, 1, .staged, false, [(0, 3)], .const 0, .free, "SOURCE"⟩,
  ⟨0, 15, 2, 2, .staged, false, [(65536, 4294967295)], .const 65536, .free, "PRESC"⟩,
  ⟨0, 15, 4, 2, .live, false, [(1, 4294967295)], .const 4294967295, .free, "PERIOD"⟩,
  ⟨0, 15, 6, 2, .live, false, [], .const 0, .free, "CMP_A"⟩,
  ⟨0, 15, 8, 2, .live, false, [], .const 0, .free, "CMP_B"⟩,
  ⟨0, 15, 10, 2, .staged, false, [], .const 0, .free, "OFFSET"⟩,
  ⟨0, 15, 12, 1, .staged, false, [], .const 0, .free, "SRC_ARG"⟩,
  ⟨0, 15, 13, 1, .staged, false, [], .const 0, .free, "ACT_A"⟩,
  ⟨0, 15, 14, 1, .staged, false, [], .const 0, .free, "ACT_B"⟩,
  ⟨0, 15, 15, 1, .staged, false, [], .const 0, .free, "ACT_TURN"⟩,
  ⟨0, 15, 16, 1, .staged, false, [], .const 0, .free, "ACT_CAP"⟩,
  ⟨0, 15, 17, 1, .staged, false, [], .const 0, .free, "TARGET"⟩,
  ⟨0, 15, 18, 1, .staged, false, [(0, 7), (255, 255)], .const 255, .free, "IO_PIN"⟩,
  ⟨0, 15, 19, 1, .staged, false, [(0, 5)], .const 0, .free, "IO_MODE"⟩,
  ⟨0, 15, 20, 1, .staged, false, [(0, 1)], .const 0, .free, "IO_IDLE"⟩,
  ⟨0, 15, 21, 1, .staged, false, [(0, 39)], .const 0, .free, "CONV_CHAN"⟩,
  ⟨0, 15, 22, 1, .staged, false, [(0, 17)], .const 0, .free, "DMA_DATA"⟩,
  ⟨0, 15, 23, 1, .staged, false, [(0, 1)], .const 0, .free, "DBG_FREEZE"⟩,
  ⟨0, 15, 24, 2, .live, false, [], .const 0, .free, "COUNT"⟩,
  ⟨0, 15, 26, 2, .ro, false, [], .const 0, .free, "CAPTURE"⟩,
  ⟨0, 15, 28, 4, .ro, false, [], .const 0, .free, "FIFO"⟩,
  ⟨0, 15, 32, 1, .ro, false, [], .const 0, .free, "STATE"⟩,
  ⟨0, 15, 34, 2, .ro, false, [], .const 0, .free, "CONV_MISSED"⟩,
  ⟨16, 16, 0, 1, .live, false, [], .const 0, .free, "START"⟩,
  ⟨16, 16, 1, 1, .live, false, [], .const 0, .free, "STOP"⟩,
  ⟨16, 16, 2, 1, .live, false, [], .const 0, .free, "START_AT"⟩,
  ⟨16, 16, 4, 4, .live, false, [], .const 0, .free, "START_FRAME"⟩]

/-- The parameters of group TEL (R548, R473). -/
def paramsTEL : List ParamDef := [
  ⟨34, 39, 0, 1, .staged, false, [(1, 10000)], .const 1000, .free, "DIV"⟩,
  ⟨48, 56, 0, 4, .ro, false, [], .const 0, .free, "E_POS"⟩,
  ⟨48, 56, 4, 4, .ro, false, [], .const 0, .free, "E_NEG"⟩]

/-- The parameters of group SEC (R548, R496). -/
def paramsSEC : List ParamDef := [
  ⟨0, 0, 0, 1, .staged, false, [(0, 1)], .const 1, .free, "PRIV_DEFAULT"⟩,
  ⟨0, 0, 1, 1, .staged, false, [(10, 3600)], .const 600, .free, "PRIV_IDLE"⟩,
  ⟨0, 0, 2, 1, .staged, false, [(0, 15), (65535, 65535)], .const 65535, .free, "KEY_SLOT"⟩,
  ⟨0, 0, 3, 1, .live, false, [(0, 15)], .const 0, .free, "KEY_SEL"⟩,
  ⟨0, 0, 4, 1, .ro, false, [], .const 0, .free, "KEYS"⟩,
  ⟨0, 0, 5, 1, .ro, false, [], .const 0, .free, "ROLLBACK"⟩,
  ⟨0, 0, 6, 1, .ro, false, [], .const 0, .free, "FW_STATE"⟩,
  ⟨0, 0, 7, 1, .live, false, [(0, 1)], .const 0, .free, "DEBUG_EN"⟩,
  ⟨0, 0, 8, 4, .ro, false, [], .const 0, .free, "KEY_ID"⟩,
  ⟨0, 0, 12, 4, .ro, false, [], .const 0, .free, "SERIAL"⟩,
  ⟨0, 0, 16, 2, .ro, false, [], .const 0, .free, "FW_VERSION_A"⟩,
  ⟨0, 0, 18, 2, .ro, false, [], .const 0, .free, "FW_VERSION_B"⟩,
  ⟨0, 0, 32, 32, .staged, false, [], .const 0, .free, "KEY_NEW"⟩]

/-- The parameters of the group with a code (R525). -/
def paramsOf (g : Nat) : List ParamDef :=
  match g with
  | 0 => paramsGLB
  | 1 => paramsFRM
  | 2 => paramsSNS
  | 3 => paramsCAL
  | 4 => paramsPH
  | 5 => paramsLN
  | 6 => paramsSRC
  | 7 => paramsCHG
  | 8 => paramsSCH
  | 9 => paramsPRT
  | 10 => paramsFLE
  | 11 => paramsSEQ
  | 12 => paramsSAF
  | 13 => paramsTMR
  | 14 => paramsTEL
  | 15 => paramsSEC
  | _ => []

/-- The channels present on the TSN-0824 (R113). -/
def chanOn0824 (c : Nat) : Bool :=
  (c ≤ 1) || (4 ≤ c && c ≤ 5) || (8 ≤ c && c ≤ 9) || (12 ≤ c && c ≤ 13) || c == 16 || c == 17 || (18 ≤ c && c ≤ 21) ||
  (26 ≤ c && c ≤ 47) || c == 56 || c == 57

/-- Whether instance i of group g exists on the part (R525); big is true on the TSN-1648. -/
def instOn (big : Bool) (g i : Nat) : Bool :=
  big || match g with
  | 1 => i < 24 || i == 48
  | 2 => chanOn0824 i
  | 4 => i < 8
  | 5 => i < 4
  | 6 => i < 2 || i == 4
  | 7 => i < 2 || 8 ≤ i
  | 8 => i < 4 || (16 ≤ i && i < 24) || i == 48
  | 9 => i < 2
  | 14 => i < 40 || i == 48 || i == 49 || i == 52 || i == 53 || i == 56
  | _ => true

/-- The group of an ID (R15). -/
def idGroup (id : Nat) : Nat := bits id 15 12
/-- The instance of an ID (R15). -/
def idInst (id : Nat) : Nat := bits id 11 6
/-- The index of an ID (R15). -/
def idIndex (id : Nat) : Nat := bits id 5 0
/-- The ID of group g, instance i, index k (R15). -/
def pid (g i k : Nat) : Nat := 0x1000 * g + 0x40 * i + k

/-- The parameter that owns an ID on the part; none for an absent ID (R521). -/
def paramAt (big : Bool) (id : Nat) : Option ParamDef :=
  if instOn big (idGroup id) (idInst id) then
    (paramsOf (idGroup id)).find? (fun d => d.inst0 ≤ idInst id && idInst id ≤ d.inst1 && d.idx ≤ idIndex id && idIndex id < d.idx + d.words)
  else none

/-- The ID of the first word of the parameter d at the instance of id. -/
def firstId (d : ParamDef) (id : Nat) : Nat := pid (idGroup id) (idInst id) d.idx

/-- The number of parameters of the part, counting every instance once (R525). -/
def paramCount (big : Bool) (g : Nat) : Nat :=
  (paramsOf g).foldl (fun a d => a + ((List.range (d.inst1 + 1 - d.inst0)).filter (fun i => instOn big g (d.inst0 + i))).length) 0

/-- The write levels of R526: 1 OPERATE, 2 INSTALL, 3 OEM. -/
def writeLevel (id : Nat) : Nat :=
  let g := idGroup id; let i := idInst id; let k := idIndex id
  match g with
  | 0 => if k = GLB.OPMODE then 1 else 2
  | 1 => if k = FRM.STEP_MAX then 1 else 2
  | 6 => if i < 4 then (if k = SRC.PRIO then 1 else 2)
         else if k = SRC.VSET || k = SRC.POLICY || k = SRC.HOLDER_REQ || k = SRC.LOWN_FORCE || k = SRC.SWLINK_REQ then 1 else 2
  | 7 => if i < 4 then (if 6 ≤ k && k ≤ 15 then 1 else 2) else if i = 15 then 3
         else if i = 16 && (k = CHG.EXT_DEMAND || k = CHG.EXT_DEMAND + 1) then 1 else 2
  | 8 => if i = 48 && (k = SCH.SITE_PRIO || k = SCH.MAP_SEL || (SCH.LOCAL_CHG ≤ k && k < SCH.LOCAL_DIS + 2)) then 1 else 2
  | 9 => if k = PRT.AUTH_MODE || k = PRT.AUTH_KEY then 3 else 2
  | 10 => if i = 3 && (k = FLE.AUTH_MODE || k = FLE.AUTH_KEY || k = FLE.REMOTE_PRIV) then 3 else 2
  | 11 => if i = 8 then (if k = SEQ.TRIP_HALT || k = SEQ.HALT_ACTION then 3 else 2)
          else if 9 ≤ i && k = SEQ.FORCE then 1 else 2
  | 12 => if k = SAF.WD_EN || k = SAF.SAFEN_HALT then 3 else 2
  | 13 => 1
  | 14 => if k = TEL.DIV then 1 else 2
  | 15 => if k = SEC.KEY_SEL then 1 else if k = SEC.PRIV_DEFAULT || k = SEC.PRIV_IDLE || k = SEC.DEBUG_EN then 3 else 2
  | _ => 2

end Sys2Proof.Machine
end

