-- ==== Sys2Proof/Machine/ParamRead.lean ====
section
/-! DEFINITION. Reading parameters (R15 to R17, R521 to R527): the resources of the part (R2), the job slots (R90, R91), the fields of the
selvedge record in force (R148, R150), defaults, and the value of a parameter in force. -/

namespace Sys2Proof.Machine

/-! The resources of the part (R2). -/

/-- Number of phases. -/
def nPh (s : State) : Nat := if s.ident.big then 16 else 8
/-- Number of lanes. -/
def nLn (s : State) : Nat := if s.ident.big then 6 else 4
/-- Number of input ports. -/
def nIn (s : State) : Nat := if s.ident.big then 4 else 2
/-- Number of partner ports. -/
def nPp (s : State) : Nat := if s.ident.big then 4 else 2
/-- Number of temperature pins. -/
def nTs (s : State) : Nat := if s.ident.big then 8 else 4
/-- Number of job slots. -/
def nSlots (s : State) : Nat := if s.ident.big then 48 else 24
/-- Number of loss-map entries. -/
def nMap (s : State) : Nat := if s.ident.big then 12288 else 6144
/-- PART (R77). -/
def partCode (s : State) : Nat := if s.ident.big then 0x1648 else 0x0824

/-- Whether channel c is present on the part (R113). -/
def chanPresent (s : State) (c : Nat) : Bool := c ≤ 56 && (s.ident.big || chanOn0824 c)

/-! The selvedge record (R148). -/

/-- The condition of a selvedge record, as CAL.SELV_STATE reads it (R535). -/
def selvStateOf (r : List Byte) : Nat :=
  if r.isEmpty || fld r 3 1 = 0xFF then 0x00FF
  else if fld r 0 2 ≠ 0x5E1D then 0x0000
  else if crc32 (r.take 780) ≠ fld r 780 4 then 0x0000
  else 0x0001

/-- The record in force limits writes and set-points (R150). -/
def selvOk (s : State) : Bool := selvStateOf s.params.selv == 1

/-- The offset of a field of the record for instance n (R148). -/
def SelvF.offset : SelvF → Nat → Nat
  | .inVmax, n => 8 + 4 * n
  | .inImax, n => 10 + 4 * n
  | .ppVmax, p => 24 + 8 * p
  | .ppVmin, p => 26 + 8 * p
  | .ppIchg, p => 28 + 8 * p
  | .ppIdis, p => 30 + 8 * p
  | .linkVmax, _ => 56
  | .linkVmin, _ => 58
  | .phImax, x => 60 + 2 * x
  | .tstage, _ => 92

/-- A field of the record in force. -/
def selvField (s : State) (f : SelvF) (n : Nat) : Nat := fld s.params.selv (f.offset n) 2

/-- SCALE_NOM of channel c in the record in force. -/
def selvScale (s : State) (c : Nat) : Nat := fld s.params.selv (96 + 12 * c) 4
/-- SCALE_TOL of channel c, in 0.01 %. -/
def selvTol (s : State) (c : Nat) : Nat := fld s.params.selv (100 + 12 * c) 2
/-- OFFSET_MAX of channel c, in LSB. -/
def selvOffMax (s : State) (c : Nat) : Nat := fld s.params.selv (102 + 12 * c) 2
/-- ZERO_NOM of channel c, in LSB. -/
def selvZero (s : State) (c : Nat) : Int := toS 32 (fld s.params.selv (104 + 12 * c) 4)

/-! Ranges and defaults. -/

/-- The number of bits of a parameter. -/
def ParamDef.width (d : ParamDef) : Nat := 16 * d.words

/-- The greatest value of the range of a parameter (R150). -/
def ParamDef.top (d : ParamDef) : Int :=
  if d.rng.isEmpty then (if d.signed then (2 ^ (d.width - 1) : Nat) - 1 else (2 ^ d.width : Nat) - 1)
  else maxL 0 (d.rng.map (·.2))

/-- The least value of the range of a parameter (R150). -/
def ParamDef.bot (d : ParamDef) : Int :=
  if d.rng.isEmpty then (if d.signed then -((2 ^ (d.width - 1) : Nat) : Int) else 0)
  else minL 0 (d.rng.map (·.1))

/-- The default of SNS[c].RATE_REG (R121). -/
def rateRegDflt (c : Nat) : Nat :=
  if c ≤ 3 then 3 else if c ≤ 7 then 4 else if c ≤ 11 then 3 else if c ≤ 17 then 4 else if c ≤ 25 then 2 else 0

/-- The default of SNS[c].RATE_TEL (R121). -/
def rateTelDflt (c : Nat) : Nat := if c = 16 || c = 17 then 2 else if 26 ≤ c && c ≤ 33 then 1 else if 34 ≤ c then 4 else 0

/-- The default of a parameter at instance i, as a whole number, evaluated on the part and the records in force (R527). -/
def dfltVal (s : State) (d : ParamDef) (i : Nat) : Int :=
  match d.dflt with
  | .const v => v
  | .kind => 0
  | .halfInst => (i / 2 : Nat)
  | .rateReg => rateRegDflt i
  | .rateTel => rateTelDflt i
  | .scaleNom => if selvOk s then selvScale s i else 65536
  | .zeroNom => if selvOk s then selvZero s i else 0
  | .hi f => if selvOk s then selvField s f i else d.top
  | .lo f => if selvOk s then selvField s f i else d.bot
  | .slot s0 s1 s7 => if i = 8 then s0 else if i = 9 then s1 else if i = 15 then s7 else 0
  | .refLoss k => (s.otp.refLoss.getD k 0 : Nat)

/-- The default as the pattern of the parameter's width. -/
def dfltBits (s : State) (d : ParamDef) (i : Nat) : Nat := ofS d.width (dfltVal s d i)

/-! Values in force. -/

/-- The words of a value, low word first (R16). -/
def toWords : Nat → Nat → List Word
  | 0, _ => []
  | k + 1, n => BitVec.ofNat 16 n :: toWords k (n / 65536)

/-- The value of words, low word first (R16). -/
def ofWords : List Word → Nat
  | [] => 0
  | w :: ws => w.toNat + 65536 * ofWords ws

/-- The words listed at id, id + 1, ... in a sparse word store. -/
def listed (vals : List (Nat × Word)) (id : Nat) : Nat → List Word
  | 0 => []
  | k + 1 => (assocGet vals id).getD 0 :: listed vals (id + 1) k

/-- The value of a writable parameter in force, whose first word has the ID id: what was written, else the default (R527). -/
def valBits (s : State) (d : ParamDef) (id : Nat) : Nat :=
  match assocGet s.params.vals id with
  | some _ => ofWords (listed s.params.vals id d.words)
  | none => dfltBits s d (idInst id)

/-- The value in force of the parameter with index k at instance i of group g, unsigned; 0 where the part has none. -/
def par (s : State) (g i k : Nat) : Nat :=
  match paramAt s.ident.big (pid g i k) with
  | some d => valBits s d (firstId d (pid g i k))
  | none => 0

/-- The same, signed over its whole width (R522). -/
def parS (s : State) (g i k : Nat) : Int :=
  match paramAt s.ident.big (pid g i k) with
  | some d => toS d.width (valBits s d (firstId d (pid g i k)))
  | none => 0

/-- The same as a whole number. -/
def parI (s : State) (g i k : Nat) : Int := (par s g i k : Nat)

/-- A one-word parameter set by the block itself, such as a request that returns to 0 (R70). -/
def State.setPar (s : State) (g i k v : Nat) : State :=
  { s with params := { s.params with vals := assocSet s.params.vals (pid g i k) (BitVec.ofNat 16 v) } }

/-! Lane definitions and job slots. -/

/-- LN[n].KIND in force: 0 none, 1 PV boost, 2 DC-supply input, 3 pack, 4 partner (R176, R201). -/
def lnKind (s : State) (n : Nat) : Nat := par s gLN n LN.KIND
/-- LN[n].PORT in force. -/
def lnPort (s : State) (n : Nat) : Nat := par s gLN n LN.PORT
/-- LN[n].PHASES in force. -/
def lnPhases (s : State) (n : Nat) : Nat := par s gLN n LN.PHASES
/-- The phases of lane n, ascending. -/
def lanePhases (s : State) (n : Nat) : List Nat := bitsOf (nPh s) (lnPhases s n)
/-- The lane is configured. -/
def lnUsed (s : State) (n : Nat) : Bool := n < nLn s && lnKind s n ≠ 0
/-- The lane that owns phase x (R22: at most one). -/
def laneOfPhase (s : State) (x : Nat) : Option Nat := (List.range (nLn s)).find? (fun n => lnUsed s n && bit (lnPhases s n) x)

/-- The job of a slot before idling: its KIND code and its first instance (R90, R91). -/
def slotJob (big : Bool) (j : Nat) : Nat × Nat :=
  if big then
    if j ≤ 15 then (1, j) else if j ≤ 21 then (2, j - 16) else if j ≤ 25 then (3, j - 22) else if j = 26 then (4, 0)
    else if j = 27 then (5, 0) else if j ≤ 31 then (6, j - 28) else if j ≤ 39 then (7, j - 32) else if j ≤ 43 then (8, 2 * (j - 40))
    else if j = 44 then (9, 0) else if j = 45 then (10, 0) else if j = 46 then (11, 0) else if j = 47 then (12, 0) else (0, 0)
  else
    if j ≤ 7 then (1, j) else if j ≤ 11 then (2, j - 8) else if j ≤ 13 then (3, j - 12) else if j = 14 then (13, 0)
    else if j ≤ 16 then (6, j - 15) else if j ≤ 18 then (7, 2 * (j - 17)) else if j = 19 then (8, 0) else if j = 20 then (9, 0)
    else if j = 21 then (10, 0) else if j = 22 then (11, 0) else if j = 23 then (12, 0) else (0, 0)

/-- The slot of the job of a kind that serves an instance. -/
def slotFor (s : State) (kind inst : Nat) : Nat :=
  ((List.range (nSlots s)).reverse.find? (fun j => (slotJob s.ident.big j).1 == kind && (slotJob s.ident.big j).2 ≤ inst)).getD 0

/-- KIND of slot j as FRM[j].STATUS reads it: 0 for an idle slot, that of a phase outside every lane, a lane that is not configured, or an
input port with SRC[n].KIND 0 (R89, R91). -/
def slotKind (s : State) (j : Nat) : Nat :=
  match slotJob s.ident.big j with
  | (1, x) => if (laneOfPhase s x).isSome then 1 else 0
  | (2, n) => if lnUsed s n then 2 else 0
  | (3, n) => if par s gSRC n SRC.KIND = 0 then 0 else 3
  | (k, _) => k

end Sys2Proof.Machine
end

