-- ==== Sys2Proof/Machine/Ops.lean ====
section
/-! DEFINITION. The named operations over the state that every family shares: reading and changing one lane, phase, port, pack, rail or
timer; time; raising an event (R73, R74, R398, R469); replies, long operations and their results (R43 to R46); asking for a fault
record (R459, R462); the changes of the controller state. -/

namespace Sys2Proof.Machine

/-- What a command answers. -/
abbrev Out : Type := Host.Outcome State Fault Refusal

/-! One item of the state. -/

/-- Lane n. -/
def State.lane (s : State) (n : Nat) : Lane := s.jobs.lanes.getD n {}
/-- Phase x. -/
def State.phase (s : State) (x : Nat) : Phase := s.jobs.phases.getD x {}
/-- Modulator x. -/
def State.mod (s : State) (x : Nat) : Modulator := s.mods.getD x {}
/-- Input port n. -/
def State.src (s : State) (n : Nat) : SrcPort := s.jobs.srcs.getD n {}
/-- Pack p. -/
def State.pack (s : State) (p : Nat) : Pack := s.jobs.packs.getD p {}
/-- Partner port p. -/
def State.port (s : State) (p : Nat) : PtPort := s.jobs.ports.getD p {}
/-- Fleet port q. -/
def State.fl (s : State) (q : Nat) : FlPort := s.jobs.fleet.ports.getD q {}
/-- Rail n. -/
def State.rail (s : State) (n : Nat) : Rail := s.jobs.rails.rails.getD n {}
/-- Timer t. -/
def State.timer (s : State) (t : Nat) : Timer := s.timers.t.getD t {}
/-- Sense channel c. -/
def State.chan (s : State) (c : Nat) : Chan := s.jobs.sense.chans.getD c {}
/-- Temperature pin k. -/
def State.pin (s : State) (k : Nat) : TsPin := s.jobs.sense.pins.getD k {}
/-- Job slot j. -/
def State.slot (s : State) (j : Nat) : Slot := s.jobs.frm.slots.getD j {}
/-- The live ledger of phase x. -/
def State.led (s : State) (x : Nat) : Ledger := s.jobs.sched.ledger.getD x {}

/-- The jobs with f applied. -/
def State.modJobs (s : State) (f : Jobs → Jobs) : State := { s with jobs := f s.jobs }
/-- Lane n with f applied. -/
def State.modLane (s : State) (n : Nat) (f : Lane → Lane) : State := s.modJobs fun j => { j with lanes := modAt j.lanes n f }
/-- Phase x with f applied. -/
def State.modPhase (s : State) (x : Nat) (f : Phase → Phase) : State := s.modJobs fun j => { j with phases := modAt j.phases x f }
/-- Modulator x with f applied. -/
def State.modMod (s : State) (x : Nat) (f : Modulator → Modulator) : State := { s with mods := modAt s.mods x f }
/-- Input port n with f applied. -/
def State.modSrc (s : State) (n : Nat) (f : SrcPort → SrcPort) : State := s.modJobs fun j => { j with srcs := modAt j.srcs n f }
/-- Pack p with f applied. -/
def State.modPack (s : State) (p : Nat) (f : Pack → Pack) : State := s.modJobs fun j => { j with packs := modAt j.packs p f }
/-- Partner port p with f applied. -/
def State.modPort (s : State) (p : Nat) (f : PtPort → PtPort) : State := s.modJobs fun j => { j with ports := modAt j.ports p f }
/-- The fleet job with f applied. -/
def State.modFleet (s : State) (f : Fleet → Fleet) : State := s.modJobs fun j => { j with fleet := f j.fleet }
/-- Fleet port q with f applied. -/
def State.modFl (s : State) (q : Nat) (f : FlPort → FlPort) : State := s.modFleet fun j => { j with ports := modAt j.ports q f }
/-- The sequencer with f applied. -/
def State.modSeq (s : State) (f : Rails → Rails) : State := s.modJobs fun j => { j with rails := f j.rails }
/-- Rail n with f applied. -/
def State.modRail (s : State) (n : Nat) (f : Rail → Rail) : State := s.modSeq fun j => { j with rails := modAt j.rails n f }
/-- The link job with f applied. -/
def State.modLinkJob (s : State) (f : LinkJob → LinkJob) : State := s.modJobs fun j => { j with link := f j.link }
/-- The frame with f applied. -/
def State.modFrm (s : State) (f : Frame → Frame) : State := s.modJobs fun j => { j with frm := f j.frm }
/-- Job slot n with f applied. -/
def State.modSlot (s : State) (n : Nat) (f : Slot → Slot) : State := s.modFrm fun j => { j with slots := modAt j.slots n f }
/-- The sense front end with f applied. -/
def State.modSense (s : State) (f : Sense → Sense) : State := s.modJobs fun j => { j with sense := f j.sense }
/-- Temperature pin k with f applied. -/
def State.modPin (s : State) (k : Nat) (f : TsPin → TsPin) : State := s.modSense fun j => { j with pins := modAt j.pins k f }
/-- The scheduler's own state with f applied. -/
def State.modSched (s : State) (f : Sched → Sched) : State := s.modJobs fun j => { j with sched := f j.sched }
/-- The live ledger of phase x with f applied. -/
def State.modLed (s : State) (x : Nat) (f : Ledger → Ledger) : State := s.modSched fun j => { j with ledger := modAt j.ledger x f }
/-- The safety job with f applied. -/
def State.modSafe (s : State) (f : Safety → Safety) : State := s.modJobs fun j => { j with safe := f j.safe }
/-- The controller with f applied. -/
def State.modCtl (s : State) (f : Control → Control) : State := { s with ctl := f s.ctl }
/-- The host side with f applied. -/
def State.modHost (s : State) (f : HostState → HostState) : State := { s with host := f s.host }
/-- Timer t with f applied. -/
def State.modTimer (s : State) (t : Nat) (f : Timer → Timer) : State := { s with timers := { s.timers with t := modAt s.timers.t t f } }
/-- The outputs with f applied. -/
def State.modOuts (s : State) (f : Outs → Outs) : State := { s with outs := f s.outs }
/-- Flash with f applied. -/
def State.modFlash (s : State) (f : Flash → Flash) : State := { s with flash := f s.flash }
/-- f run with the read image that the guard of the present frame has taken (R97, R127). -/
def withNewImage (f : State → State) (s : State) : State := { f { s with image := s.imgNext.getD s.image } with image := s.image }
/-- f applied to the flash writer. -/
def State.modWriter (s : State) (f : Writer → Writer) : State := { s with writer := f s.writer }

/-- A transport's state. -/
def State.link (s : State) : Transport → Link
  | .spi => s.host.spi | .i2c => s.host.i2c | .can => s.host.can | .fleet => s.host.inner
/-- A transport's state with f applied. -/
def State.modLink (s : State) (t : Transport) (f : Link → Link) : State :=
  match t with
  | .spi => s.modHost fun h => { h with spi := f h.spi }
  | .i2c => s.modHost fun h => { h with i2c := f h.i2c }
  | .can => s.modHost fun h => { h with can := f h.can }
  | .fleet => s.modHost fun h => { h with inner := f h.inner }
/-- The number of a transport in events (R75). -/
def trNum : Transport → Nat
  | .spi => 0 | .i2c => 1 | .can => 2 | .fleet => 3

/-! Time (R13, R14). -/

/-- The frame counter. -/
def State.frame (s : State) : Nat := s.jobs.frm.frame
/-- Frames since the pipeline started. -/
def State.age (s : State) : Nat := s.jobs.frm.age
/-- The frame that the next bank swap begins, while its commit point has passed; else the present one. -/
def State.swapFrame (s : State) : Nat := s.frame + b2n s.jobs.frm.committed
/-- The fleet time of an occurrence in the present frame; the cycle, which no rule states, is a free value (log 2). -/
def State.fleetTime (s : State) : Nat := s.frame * 4096 + Config.cycleDraw s.freeCtr % 4001
/-- One more draw of the free values made. -/
def State.drawn (s : State) (k : Nat) : State := { s with freeCtr := s.freeCtr + k }

/-! Events (R73, R74). -/

/-- The 16 bytes of an event entry (R73). -/
def Event.bytes (e : Event) : List Byte := leBytes 2 e.code ++ leBytes 2 e.seq ++ leBytes 8 e.time ++ leBytes 4 e.arg

/-- The number of ordinary entries in the queue (R74). -/
def ordinary (es : List Event) : Nat := countOf (fun e => e.code ≠ Ev.EVENTS_LOST) es

/-- An entry put into the queue, or dropped and counted while 255 ordinary entries are unacknowledged (R74). -/
def HostState.queueEvent (h : HostState) (code time arg : Nat) : HostState :=
  if 255 ≤ ordinary h.events then { h with lost := h.lost + 1 }
  else { h with events := h.events ++ [⟨code, h.evSeq, time, arg % 2 ^ 32⟩], evSeq := (h.evSeq + 1) % 65536 }

/-- An entry of a unit joins the upstream queue of 32, or is dropped and counted against the unit (R398). -/
def Fleet.queueUp (f : Fleet) (unit : Nat) (e : List Byte) : Fleet :=
  if f.evUp.length < 32 then { f with evUp := f.evUp ++ [(unit, e)] }
  else { f with evDrop := assocSet f.evDrop unit ((assocGet f.evDrop unit).getD 0 + 1), evLost := incSat 32 f.evLost }

/-- An entry of a unit has come from a source, 0 this unit and q + 1 its port q, and waits for the source's turn (R398). -/
def Fleet.eventIn (f : Fleet) (src unit : Nat) (e : List Byte) : Fleet := { f with evIn := f.evIn ++ [(src, unit, e)] }

/-- The upstream queue is filled with what waits, one entry of a source after another, in the order of the sources from the one whose turn
it is (R398; DESIGN CHOICE, log 92). -/
def Fleet.fillUp : Nat → Fleet → Fleet
  | 0, f => f
  | n + 1, f =>
    match ((List.range 4).map fun k => (f.evTurn + k) % 4).find? fun src => f.evIn.any (·.1 == src) with
    | none => f
    | some src =>
      match f.evIn.findIdx? (·.1 == src) with
      | none => f
      | some k =>
        let e := f.evIn.getD k (0, 0, [])
        Fleet.fillUp n { ({ f with evIn := f.evIn.eraseIdx k }).queueUp e.2.1 e.2.2 with evTurn := (src + 1) % 4 }

/-- An event of a member that its mask FLE[3].EVT_UP selects goes upstream (R398). -/
def Fleet.passUp (f : Fleet) (mask code seq time arg : Nat) : Fleet :=
  if f.st = .member && bit mask (code / 256) then
    f.eventIn 0 f.addr (Event.bytes ⟨code, seq, time, arg % 2 ^ 32⟩)
  else f

/-- The raising of an event that an armed trace waits for is its trigger (R469, TRIG 0). -/
def Trace.onEvent (t : Trace) (code : Nat) : Trace :=
  if t.st = 1 && t.trig = 0 && t.code = code then { t with hit := true } else t

/-- An event is raised: it is queued or counted (R74), passed upstream (R398), and may trigger a trace (R469). -/
def State.raise (s : State) (code arg : Nat) : State :=
  { s with
    host := s.host.queueEvent code s.fleetTime arg
    jobs := { s.jobs with fleet := s.jobs.fleet.passUp (par s gFLE 3 FLE.EVT_UP) code s.host.evSeq s.fleetTime arg }
    trace := s.trace.onEvent code
    freeCtr := s.freeCtr + 1 }

/-- Several events in order. -/
def State.raiseAll (s : State) (l : List (Nat × Nat)) : State := l.foldl (fun s e => s.raise e.1 e.2) s

/-! Replies, tags and long operations (R43 to R46). -/

/-- The CAN FD settings in force: identifier form, reply identifier, data rate (R534). -/
def canSettings (s : State) : Nat × Nat × Nat :=
  (par s gGLB 0 GLB.CAN_XID, par s gGLB 0 GLB.CAN_ID_RPL, par s gGLB 0 GLB.CAN_DBR)

/-- The bytes of a reply on its transport, CRC last (R40, R58). -/
def Reply.bytes (r : Reply) : List Byte :=
  let body := byte r.status :: ((match r.tag with | some t => [byte t] | none => []) ++ leBytes 2 r.pay.length ++ r.pay)
  body ++ leBytes 2 (crc16 body)

/-- The flights without the one a delivered reply answers. -/
def freeTag (fs : List Flight) (tr : Transport) (r : Reply) : List Flight :=
  if r.owns then fs.filter (fun f => !(f.tr == tr && f.tag == r.tag)) else fs

/-- A packet cut into segments of 63 bytes, each behind its header (R38): first KIND, number, bytes. -/
def segments : Nat → Nat → Bool → List Byte → List (List Byte)
  | 0, _, _, _ => []
  | k + 1, seq, start, bs =>
    let last : Bool := bs.length ≤ 63
    let kind : Nat := if start then (if last then 0 else 1) else (if last then 3 else 2)
    let seg := byte (kind * 64 + seq % 64) :: bs.take 63
    if last then [seg] else seg :: segments k (seq + 1) false (bs.drop 63)

/-- The command core runs: it is up, and no debugger halts it (R445, R447). -/
def State.coreRuns (s : State) : Bool := s.ctl.coreUp && !s.ctl.dbgHalt

/-- The replies of CAN FD that may be sent are sent, in order, and their tags freed (R39, R64). -/
def State.flushCan (s : State) : State :=
  if !s.coreRuns then s else
  let due := s.host.can.replies.filter (fun r => r.ready ≤ s.frame)
  let out := due.flatMap (fun r =>
    let c := r.can.getD (canSettings s)
    (segments 20 0 true r.bytes).map (fun d => (⟨c.1, c.2.1, c.2.2, d⟩ : CanOut)))
  s.modHost fun h => { h with
    can := { h.can with replies := h.can.replies.filter (fun r => !decide (r.ready ≤ s.frame)) }
    canOut := h.canOut ++ out
    flights := due.foldl (fun fs r => freeTag fs .can r) h.flights }

/-- A reply completed for transport tr: it joins the transport's queue, its command counts as complete, and CAN FD sends it at once. -/
def State.pushReply (s : State) (tr : Transport) (r : Reply) : State :=
  let s := s.modLink tr fun l => { l with replies := l.replies ++ [r] }
  let s := s.modHost fun h => { h with flights := h.flights.map fun f => if f.tr == tr && f.tag == r.tag && r.owns then { f with done := true } else f }
  match tr with
  | .can => s.flushCan
  | _ => s

/-- The reply to the command c. -/
def State.answer (s : State) (c : Ctx) (status : Nat) (pay : List Byte) : State :=
  s.pushReply c.tr { tag := c.tag, status := status, pay := pay, ready := 0, owns := true, can := none, since := s.age }

/-- The reply OK with its payload. -/
def State.okReply (s : State) (c : Ctx) (pay : List Byte) : State := s.answer c St.OK pay

/-- A refusal with its two-byte DETAIL (R50). -/
def State.refuse (s : State) (c : Ctx) (status detail : Nat) : State := s.answer c status (leBytes 2 detail)

/-- The number of the next long operation (R44): one up, from 0xFFFF to 1. -/
def nextOp (n : Nat) : Nat := if n = 0xFFFF then 1 else n + 1

/-- A long operation starts: it takes its OPNUM and replies ACCEPTED (R44). -/
def State.startOp (s : State) (c : Ctx) (res : Nat) (args : List Nat) (data : List Byte) : State :=
  let n := nextOp s.host.opNum
  let s := s.modHost fun h => { h with opNum := n, ops := h.ops ++ [⟨n, c.opc, c.tr, res, args, data, s.age⟩] }
  s.answer c St.ACCEPTED (leBytes 2 n)

/-- The long operation with a number and opcode that runs. -/
def State.opRun (s : State) (opc num : Nat) : Option Op := s.host.ops.find? (fun o => o.num == num && o.opc == opc)

/-- A long operation of an opcode that holds a resource (R85). -/
def State.opHeld (s : State) (opc res : Nat) : Bool := s.host.ops.any (fun o => o.opc == opc && o.res == res)

/-- The argument of OP_COMPLETE (R75). -/
def opArg (status opc num : Nat) : Nat := status * 2 ^ 24 + opc * 2 ^ 16 + num

/-- A long operation ends with a final status: it leaves the list and OP_COMPLETE is raised (R44). -/
def State.endOp (s : State) (opc num status : Nat) : State :=
  (s.modHost fun h => { h with ops := h.ops.filter (fun o => !(o.num == num && o.opc == opc)) }).raise Ev.OP_COMPLETE (opArg status opc num)

/-- A long operation ends with a final status that has a DETAIL, which no packet carries (DESIGN CHOICE, log 112). -/
def State.endOpDetail (s : State) (opc num status detail : Nat) : State :=
  (s.endOp opc num status).modHost fun h => { h with endDetail := some (num, detail) }

/-- A write of kind k to flash begins: what it writes is whole in f; until it is done, a power failure abandons it (R240, R451). -/
def State.beginWrite (k : Nat) (f : Flash → Flash) (s : State) : State :=
  (s.modFlash f).modWriter fun w => { w with busy := some k, before := some s.flash }

/-- The write in progress, if any, is abandoned, and what it was to replace stands (R451; DESIGN CHOICE, log 109). -/
def State.abandonWrite (s : State) : State :=
  let back (f g : Flash) : Flash := match s.writer.busy with
    | some 1 | some 2 | some 5 => { g with banks := f.banks, bank := f.bank, sectors := f.sectors, enSects := f.enSects, enSect := f.enSect, clock := f.clock }
    | some 3 => { g with ring := f.ring, recNo := f.recNo }
    | some 6 => { g with cfg := f.cfg }
    | some 7 => { g with keys := f.keys }
    | _ => g
  match s.writer.before with
  | some f => { s.modFlash (back f) with writer := {} }
  | none => { s with writer := {} }

/-- No stopped clock, no power failure and no RESETn holds the logic (R449, R451). -/
def State.clocked (s : State) : Bool := !s.ctl.clockLost && !s.ctl.powerFail && !s.ctl.resetLow

/-- The opcodes whose result is fetched under R45: CAL_MEASURE, ATTEST, FLEET_CMD, FLEET_SNAPSHOT. -/
def hasResult (opc : Nat) : Bool := opc == 0x32 || opc == 0x48 || opc == 0x70 || opc == 0x71

/-- The results that count toward the limit of 8: those held and those of operations still running (R46). -/
def State.resultsHeld (s : State) : Nat :=
  countOf (fun r => !r.lost) s.host.results + countOf (fun o => hasResult o.opc) s.host.ops

/-- The result of an ended operation is kept for 10 s (R45). -/
def State.keepResult (s : State) (opc num : Nat) (bytes : List Byte) : State :=
  s.modHost fun h => { h with results := h.results ++ [⟨num, opc, bytes, false, s.age + 1000000⟩] }

/-! Fault records (R459, R462). -/

/-- A fault record is asked for: it waits for the read image of this frame's guard, unless the allowance is empty or four records wait
already; then it is skipped and counted. ORIGIN 0 or 3 draws on the allowance; free records draw nothing (R462). -/
def State.askRecord (s : State) (cause arg origin time prev : Nat) (free : Bool) : State :=
  let r := s.records
  if r.wait.length < 4 && (free || 0 < r.allow) then
    { s with records := { r with wait := r.wait ++ [⟨cause, arg, origin, s.frame, time, prev, none⟩]
                                 allow := if free then r.allow else r.allow - 1 } }
  else { s with records := { r with skipped := incSat 32 r.skipped, episode := r.episode + 1 } }

/-- An episode of skipped records ends when a record could be written again, and REC_SKIPPED tells how many it skipped (R462, R474; DEDUCED,
log 45). -/
def State.skipsOver (s : State) : State :=
  let r := s.records
  if 0 < r.episode && 0 < r.allow && r.wait.length < 4 then
    ({ s with records := { r with episode := 0 } } : State).raise Ev.REC_SKIPPED (min r.episode 0xFFFFFFFF)
  else s

/-- An event whose cause also writes a fault record from the pipeline (R459). -/
def State.raiseRec (s : State) (code arg : Nat) : State :=
  (s.raise code arg).askRecord code arg 0 s.fleetTime s.ctl.state.code false

/-! The controller state. -/

/-- The controller enters a state; STATE_CHANGED tells it (R75). -/
def State.enter (s : State) (c : Ctl) : State :=
  if s.ctl.state = c then s else (s.modCtl fun k => { k with state := c }).raise Ev.STATE_CHANGED c.code

/-- Privilege of a transport falls back to SEC.PRIV_DEFAULT; PRIV_DROPPED is raised when the level falls (R53). -/
def State.dropPriv (s : State) (t : Transport) : State :=
  let d := par s gSEC 0 SEC.PRIV_DEFAULT
  if d < (s.link t).priv then
    (s.modLink t fun l => { l with priv := d }).raise Ev.PRIV_DROPPED (trNum t * 256 + d)
  else s

/-- The same on all three transports. -/
def State.dropAllPriv (s : State) : State := ((s.dropPriv .spi).dropPriv .i2c).dropPriv .can

/-- The pipeline runs and no clock, power or reset action stops it. -/
def State.live (s : State) : Bool := s.jobs.frm.running && !s.ctl.clockLost && !s.ctl.powerFail && !s.ctl.resetLow

/-- The stage at which the job of slot j is cut off in the present frame; an idle slot cannot overrun (R89, R93). -/
def cutStage (s : State) (j : Nat) : Option Nat := (s.slot j).cutNow

/-- The step runs: no step of its job up to it has been cut off in this frame (R98). -/
def stepRuns (s : State) (j k : Nat) : Bool := match cutStage s j with | some c => decide (k < c) | none => true

/-- S4 of the safety job runs in this frame; what it decides stands as it was where it does not (R90, R98). -/
def safetyRuns (s : State) : Bool := stepRuns s (slotFor s 11 0) 4

end Sys2Proof.Machine
end

