-- ==== Sys2Proof/Machine/Sense.lean ====
section
/-! DEFINITION. Sensing (04_sensing_calibration R113 to R139): capture, correction, temperature pins and bands, the slot plan, and the
sense front end's own commands. -/

namespace Sys2Proof.Machine

/-! Coefficients (R129, R140). -/

/-- The pattern record of channel c in force; a record that failed counts as zeros (R141). -/
def patternOf (s : State) (c : Nat) : Pattern :=
  let p := s.params.pattern.getD c {}
  if p.crcOk then p else { p with off := 0, gain := 0, tc := 0 }

/-- A_OFFSET of an alteration block (R142). -/
def altOff (b : List Byte) : Int := toS 16 (fld b 2 2)
/-- A_GAIN of an alteration block (R142). -/
def altGain (b : List Byte) : Int := toS 16 (fld b 4 2)

/-- The alteration of channel c in force. -/
def altOf (s : State) (c : Nat) : Option (List Byte) := assocGet s.params.alts c

/-- OFF_eff in 1/16 LSB (R129). -/
def offEff (s : State) (c : Nat) : Int := (patternOf s c).off + ((altOf s c).map altOff).getD 0

/-- G_eff in 2^-36 for a pattern gain and an alteration gain (R129). -/
def gainProd (pg ag : Int) : Int := (262144 + pg) * (262144 + ag)

/-- G_eff of channel c in 2^-36. -/
def gEff (s : State) (c : Nat) : Int := gainProd (patternOf s c).gain (((altOf s c).map altGain).getD 0)

/-- The denominator of the LSB 5 / d volts of channel c's converter (R114, R118). -/
def lsbDen (c : Nat) : Nat := if 40 ≤ c then 8192 else 262144

/-- v_pin of channel c for the code cn / cd, as a fraction of a volt (R129). -/
def vpin (s : State) (c : Nat) (cn : Int) (cd : Nat) : Int × Nat :=
  ((16 * cn - offEff s c * cd) * 5 * gEff s c * (200000000 + (patternOf s c).tc * (s.jobs.sense.die - 2500)),
   16 * cd * lsbDen c * 2 ^ 36 * 200000000)

/-- A value brought into 32 signed bits; one that does not fit is a free value, since no rule states the result (log 3). -/
def fit32 (i : Int) : Int := if -2147483648 ≤ i && i ≤ 2147483647 then i else toS 32 (ofS 32 (Config.openResult 1 i))

/-- The corrected value of the code cn / cd of channel c in mV or mA (R129, R131). -/
def correct (s : State) (c : Nat) (cn : Int) (cd : Nat) : Int :=
  let v := vpin s c cn cd
  fit32 (divR ((v.1 * lsbDen c - parS s gSNS c SNS.ZERO * 5 * v.2) * (par s gSNS c SNS.SCALE) * 1000) (v.2 * lsbDen c * 65536))

/-! Temperature (R132, R133, R135). -/

/-- The atanh series z + z^3/3 + ... for z in 2^-60, k terms from the odd number o. -/
def atanhSeries (z2 : Int) : Nat → Int → Nat → Int
  | 0, _, _ => 0
  | k + 1, p, o => p / o + atanhSeries z2 k (p * z2 / 2 ^ 60) (o + 2)

/-- The natural logarithm of n / d in 2^-60, for n and d above 0 (R133). -/
def lnQ (n d : Nat) : Int :=
  let e : Int := (Nat.log2 n : Int) - (Nat.log2 d : Int)
  let n' : Int := if e < 0 then n * 2 ^ e.natAbs else n
  let d' : Int := if 0 < e then d * 2 ^ e.natAbs else d
  let z := (n' - d') * 2 ^ 60 / (n' + d')
  2 * atanhSeries (z * z / 2 ^ 60) 40 z 1 + e * 799144290325165979

/-- The temperature of a diode reading in 0.01 degC, from the codes at 10 uA and 100 uA (R132); q / (k ln 10) is 5039.7781853354902 K
per volt. -/
def diodeTemp (s : State) (c : Nat) (c1 c2 : Nat) : Int :=
  let a := vpin s c c1 1
  let b := vpin s c c2 1
  let dn := (b.1 - a.1) * 1000000 - 9 * (par s gSNS c SNS.TS_RSER : Int) * a.2
  divR (dn * 50397781853354902 * 16384 * 100) (a.2 * 1000000 * 10000000000000 * (par s gSNS c SNS.TS_IDEAL)) - 27315

/-- The resistance Rt of a thermistor reading as a fraction of an ohm, from the codes of the pin and of the reference (R133); none
where the formula gives none that is positive. -/
def thermRt (s : State) (c : Nat) (c1 c2 : Nat) : Option (Int × Int) :=
  let v := (vpin s c c1 1).1
  let r := (vpin s c c2 1).1
  let rp : Int := par s gSNS c SNS.NTC_RPAR
  let n := if rp = 0 then 10000 * v else 10000 * v * rp
  let d := if rp = 0 then r else rp * r - 10000 * v
  if (0 < n && 0 < d) || (n < 0 && d < 0) then some (absN n, absN d) else none

/-- The temperature of a thermistor reading in 0.01 degC (R133); none where the formula gives none. -/
def thermTemp (s : State) (c : Nat) (c1 c2 : Nat) : Option Int :=
  match thermRt s c c1 c2 with
  | none => none
  | some (n, d) =>
    let beta : Int := par s gSNS c SNS.NTC_BETA
    let l := lnQ n.toNat (d * par s gSNS c SNS.NTC_RNOM).toNat
    let den := 100 * beta * 2 ^ 60 + 29815 * l
    if den ≤ 0 then none else some (divR (29815 * beta * 2 ^ 60 * 100) den - 27315)

/-- A reading of two codes: its temperature, or the case of R135 and R157 that makes it invalid. -/
def reading (s : State) (c : Nat) (c1 c2 : Nat) : Except Nat Int :=
  let v1 := vpin s c c1 1
  let v2 := vpin s c c2 1
  let range (t : Option Int) : Except Nat Int :=
    match t with
    | some t => if -5500 ≤ t && t ≤ 15000 then .ok t else .error 3
    | none => .error 3
  if par s gSNS c SNS.TS_MODE = 1 then
    if v2.1 > v2.2 then .error 1 else if 4 * v1.1 < v1.2 then .error 2 else range (some (diodeTemp s c c1 c2))
  else
    if 5 * v1.1 > 6 * v1.2 then .error 1 else if 1000 * v1.1 < 2 * v1.2 then .error 2 else range (thermTemp s c c1 c2)

/-- The mean of a list of readings. -/
def meanOf (l : List Int) : Int := divR (sumOf id l) l.length

/-- One reading enters the pin: a valid one joins the history of 16, an invalid one counts, and the fourth invalid or hundredth valid one
in a row is noted whatever follows it in the frame (R134, R136). -/
def TsPin.take (p : TsPin) : Except Nat Int → TsPin
  | .ok t => { p with hist := (t :: p.hist).take 16, bad := 0, good := satN 65535 (p.good + 1), goodHit := p.goodHit || decide (p.good = 99) }
  | .error k => { p with bad := satN 65535 (p.bad + 1), good := 0, case_ := k, badHit := if p.bad = 3 then some k else p.badHit }

/-- The codes of a frame make readings two by two; an odd one waits for its second (R132, R133). -/
def takePairs (f : Nat → Nat → Except Nat Int) : List Nat → TsPin → TsPin
  | [], p => p
  | c :: cs, p =>
    match p.half with
    | none => takePairs f cs { p with half := some c }
    | some a => takePairs f cs ({ p with half := none }.take (f a c))

/-- The band a temperature gives from the present band: up at the upper bound, down 4 degC below the lower bound (R138). -/
def bandStep (t : Int) (b : Nat) : Nat :=
  match b with
  | 0 => if -1000 ≤ t then 1 else 0
  | 1 => if 4000 ≤ t then 2 else if t < -1400 then 0 else 1
  | 2 => if 8500 ≤ t then 3 else if t < 3600 then 1 else 2
  | _ => if t < 8100 then 2 else 3

/-- The band set without hysteresis (R139). -/
def bandFirst (t : Int) : Nat := if t < -1000 then 0 else if t < 4000 then 1 else if t < 8500 then 2 else 3

/-- A change of TS_MODE discards the history; a pin with a temperature keeps it until 16 valid readings, one without publishes as
after the start of the pipeline, and mode 0 has no temperature (R137). Whether FAULTED survives the change no rule says: it does
(DESIGN CHOICE, log 75). -/
def TsPin.setMode (p : TsPin) (m : Nat) : TsPin :=
  if p.mode = m then p
  else if m = 0 then { p with mode := m, hist := [], half := none, bad := 0, good := 0, temp := none, refill := false, bandSet := false, band := 3 }
  else { p with mode := m, hist := [], half := none, bad := 0, good := 0, refill := p.temp.isSome }

/-- What the pin publishes after its readings (R134, R136, R137), and its band (R138, R139). -/
def TsPin.publish (p : TsPin) : TsPin :=
  if p.faulted then { p with band := 3 }
  else if p.hist.isEmpty || (p.refill && p.hist.length < 16) then p
  else
    let t := meanOf p.hist
    { p with temp := some t, refill := false, bandSet := true
             band := if p.bandSet then iter (bandStep t) 3 p.band else bandFirst t }

/-- The pin publishes no usable temperature: NOT_READY or FAULTED (R134, R136). -/
def TsPin.unusable (p : TsPin) : Bool := p.faulted || p.temp.isNone

/-- The band that the functions see: B3 while the pin is unusable (R134, R136). -/
def TsPin.bandNow (p : TsPin) : Nat := if p.unusable then 3 else p.band

/-- TS_BAND (R156). -/
def TsPin.bandWord (p : TsPin) : Nat := p.bandNow + (if p.temp.isNone then 2 ^ 14 else 0) + (if p.faulted then 2 ^ 15 else 0)

/-- The band of phase x: that of the pin its TS_PIN names (R139). -/
def phaseBand (s : State) (x : Nat) : Nat := (s.pin (par s gPH x PH.TS_PIN)).bandNow

/-- The phases of lane n that are neither RETIRED nor WORN. -/
def soundPhases (s : State) (n : Nat) : List Nat :=
  (lanePhases s n).filter fun x => (s.phase x).st ≠ .retired && (s.phase x).st ≠ .worn

/-- The band of lane n: the highest among its sound phases (R139). -/
def laneBand (s : State) (n : Nat) : Nat := ((soundPhases s n).map (phaseBand s)).foldl max 0

/-! Capture and correction at the start of a frame (R95, R116, R119, S1 and S2). -/

/-- The capture bank of a precision channel: NEWEST, MEAN, COUNT and the age of the tag (R119). -/
def Chan.capture (ch : Chan) (codes : List Nat) : Chan :=
  match codes.getLast? with
  | none => { ch with count := 0, age := incSat 16 ch.age }
  | some z => { ch with newest := z, mean16 := divR (16 * sumOf (fun (n : Nat) => (n : Int)) codes) codes.length, count := codes.length, age := 1 }

/-- MEAN and NEWEST of a channel corrected (R129, R131). -/
def Chan.corrected (s : State) (c : Nat) (ch : Chan) : Chan :=
  { ch with value := correct s c ch.mean16 16, newV := correct s c ch.newest 1 }

/-- A precision channel other than a temperature pin, captured and corrected (R119, R129); the protection comparators see each
conversion, and each pair of them in a row, whatever the jobs do (R120, R437). -/
def captureChan (s : State) (c : Nat) (codes : List Nat) : Chan :=
  let ch := ((s.chan c).capture codes).corrected s c
  { ch with convs := (codes.reverse.map fun (z : Nat) => correct s c (z : Int) 1) ++ ch.convs.take 1 }

/-- A phase-current channel: the mean of the 200 samples of the frame before (R116), kept to 1/16 LSB as the MEAN of R119 is (DESIGN
CHOICE, log 100). -/
def capturePhase (s : State) (c : Nat) (sum : Int) : Chan :=
  let m := divR (16 * sum) 200
  let v := correct s c m 16
  { s.chan c with newest := divR sum 200, mean16 := m, count := 200, age := 1, value := v, newV := v }

/-- The temperature pin k with its channel's codes (R134 to R138). The codes converted in the frame before a change of TS_MODE count as
readings of the new mode (DESIGN CHOICE, log 74). -/
def capturePin (s : State) (k : Nat) (codes : List Nat) : TsPin :=
  let c := 18 + k
  let m := par s gSNS c SNS.TS_MODE
  let p := { (s.pin k).setMode m with badHit := none, goodHit := false }
  if m = 0 then p else (takePairs (reading s c) codes p).publish

/-- The lane configured for input port n, if any. -/
def laneOfInput (s : State) (n : Nat) : Option Nat :=
  (List.range (nLn s)).find? fun l => (lnKind s l == 1 || lnKind s l == 2) && lnPort s l == n

/-- The lane configured for partner port p, if any. -/
def laneOfPort (s : State) (p : Nat) : Option Nat :=
  (List.range (nLn s)).find? fun l => (lnKind s l == 3 || lnKind s l == 4) && lnPort s l == p

/-- The slots whose jobs take channel c in S1 and correct it in S2 (R88; DESIGN CHOICE, log 77): the port's job and the job of its lane,
the pack set for a partner port, the link job and every lane for VLINK and ILINK, and the job of the phase, the pin or the rail. The
AUX channels and the die temperature are taken by no job. -/
def chanSlots (s : State) (c : Nat) : List Nat :=
  let lane (o : Option Nat) : List Nat := (o.map fun n => slotFor s 2 n).toList
  let pack := if s.ident.big then 26 else 14
  let all := if c ≤ 7 then slotFor s 3 (c % 4) :: lane (laneOfInput s (c % 4))
    else if c ≤ 15 then [slotFor s 6 (c % 4), pack] ++ lane (laneOfPort s (c % 4))
    else if c ≤ 17 then (if s.ident.big then 27 else 14) :: (List.range (nLn s)).map fun n => slotFor s 2 n
    else if c ≤ 25 then [slotFor s 7 (c - 18)]
    else if c ≤ 33 then [slotFor s 8 (c - 26)]
    else if 40 ≤ c && c ≤ 55 then [slotFor s 1 (c - 40)] else []
  all.filter fun j => slotKind s j ≠ 0

/-- Every job that takes channel c is cut off at stage k or earlier in this frame, so what that stage gives keeps its value (R98). -/
def chanKept (s : State) (c k : Nat) : Bool :=
  let js := chanSlots s c
  !js.isEmpty && js.all fun j => match (s.slot j).cutNow with | some m => decide (m ≤ k) | none => false

/-- A channel after capture and correction, less what cut-off steps did not write (R98). -/
def keepCut (s : State) (c : Nat) (ch : Chan) : Chan :=
  let o := s.chan c
  if chanKept s c 1 then { o with age := incSat 16 o.age, convs := ch.convs }
  else if chanKept s c 2 then { ch with value := o.value, newV := o.newV }
  else ch

/-- The capture bank is closed, captured and corrected: every channel of the part, the die temperature and VSYS (R95, R119, R460). The
temperatures of the pins are S3 of the thermal jobs. The die temperature has no code, so RAW of channel 56 reads 0 (DESIGN CHOICE,
log 101). -/
def captureBank (s : State) (inp : FrameIn) : State :=
  if s.age < 2 then s else
  let s := s.modSense fun x => { x with die := inp.die, vsys := inp.vsys }
  let chans := (List.range 57).map fun c =>
    if !chanPresent s c then s.chan c
    else if c = 56 then { s.chan c with value := inp.die, newV := inp.die, count := 1, age := 1 }
    else if 40 ≤ c then keepCut s c (capturePhase s c (inp.phSum.getD (c - 40) 0))
    else if 18 ≤ c && c ≤ 25 then keepCut s c ((s.chan c).capture (inp.conv.getD c []))
    else keepCut s c (captureChan s c (inp.conv.getD c []))
  s.modSense fun x => { x with chans := chans }

/-- S3 of the thermal job for pin k: its readings, its published temperature and its band (R134 to R139). SNS[c].NEWEST of a pin reads
the published mean too, where R134 says only what it reads while NOT_READY (DESIGN CHOICE, log 72). -/
def thermalS3 (inp : FrameIn) (k : Nat) (s : State) : State :=
  if s.age < 2 || nTs s ≤ k then s else
  let p := capturePin s k (inp.conv.getD (18 + k) [])
  let t := p.temp.getD 0
  s.modSense fun x => { x with pins := modAt x.pins k fun _ => p, chans := modAt x.chans (18 + k) fun ch => { ch with value := t, newV := t } }

/-- A corrected value of the capture bank. -/
def State.val (s : State) (c : Nat) : Int := (s.chan c).value

/-! The slot plan (R121 to R126). -/

/-- The protection rate of channel c (R121). -/
def protRate (c : Nat) : Nat := if c ≤ 3 || (8 ≤ c && c ≤ 11) then 2 else if c = 16 then 4 else if 26 ≤ c && c ≤ 33 then 1 else 0

/-- The lane is in SOFTSTART, RUN or SLACK. -/
def LnSt.up (st : LnSt) : Bool := st == .softstart || st == .run || st == .slack

/-- The input port is served, so that its standing MPPT demand counts: its lane is up, or its direct search runs, which it does not with
ICS_MODE 0 (R121, R261). -/
def served (s : State) (n : Nat) : Bool :=
  match laneOfInput s n with
  | some l => (s.lane l).st.up
  | none => (s.src n).icsOn && par s gSRC n SRC.ICS_MODE ≠ 0

/-- The standing MPPT demand of channel c (R121). -/
def mpptRate (s : State) (c : Nat) : Nat :=
  if c ≤ 3 && served s c then 2 else if 4 ≤ c && c ≤ 7 && served s (c - 4) then 2 else 0

/-- The precision channels present. -/
def precChans (s : State) : List Nat := those 40 (chanPresent s)

/-- A plan being made: free slots, conversions granted in grant order (channel, conversions, who asked, 0 for standing demand), requests
with what they still want, one-off grants, telemetry conversions missed, what CAL_MEASURE may still take, conversions carried out. -/
structure Planning where
  free   : Nat
  given  : List (Nat × Nat × Nat)
  reqs   : List SlotReq
  grants : List (Nat × Nat × Nat)
  missed : Nat
  cap    : Nat
  carry  : Nat
deriving DecidableEq, Repr

/-- Standing demand of rate r of channel c is granted as far as slots are free (R124, R126). -/
def Planning.standing (p : Planning) (tel : Bool) (c r : Nat) : Planning :=
  let g := min r p.free
  if r = 0 then p
  else { p with free := p.free - g, given := p.given ++ (if g = 0 then [] else [(c, g, 0)]), missed := p.missed + (if tel then r - g else 0) }

/-- A one-off request is granted as far as slots are free; CAL_MEASURE shares at most 8 a frame (R122, R124). -/
def Planning.oneOff (p : Planning) (i : Nat) : Planning :=
  match p.reqs[i]? with
  | none => p
  | some r =>
    let want := if r.cls = 5 then min r.left p.cap else r.left
    let g := min want p.free
    { p with free := p.free - g
             given := p.given ++ (if g = 0 then [] else [(r.chan, g, r.who)])
             reqs := p.reqs.set i { r with left := r.left - g, carried := decide (g < want) }
             grants := p.grants ++ (if g = 0 then [] else [(r.cls, r.who, g)])
             cap := if r.cls = 5 then p.cap - want else p.cap
             carry := p.carry + (want - g) }

/-- The one-off requests of a class that may join the plan, carried or new, in order. -/
def Planning.pass (age : Nat) (cls : Nat) (carried : Bool) (p : Planning) : Planning :=
  let picks := (List.range p.reqs.length).filter fun i =>
    match p.reqs[i]? with
    | some r => r.cls == cls && r.first ≤ age && (decide (r.first < age)) == carried && 0 < r.left
    | none => false
  picks.foldl Planning.oneOff p

/-- The grants of the plan of the frame of a given age, in the order of R124. -/
def makePlan (s : State) (age : Nat) : Planning :=
  let cs := precChans s
  let p : Planning := { free := 200, given := [], reqs := s.jobs.sense.reqs, grants := [], missed := 0, cap := 8, carry := 0 }
  let p := cs.foldl (fun p c => p.standing false c (protRate c)) p
  let p := cs.foldl (fun p c => p.standing false c (par s gSNS c SNS.RATE_REG)) p
  let p := p.pass age 2 true
  let p := cs.foldl (fun p c => p.standing false c (mpptRate s c)) p
  let p := p.pass age 2 false
  let p := cs.foldl (fun p c => p.standing true c (par s gSNS c SNS.RATE_TEL)) p
  let p := (p.pass age 4 true).pass age 4 false
  (p.pass age 5 true).pass age 5 false

/-- The free slot nearest to index i, the lower one on ties (R125), searched outward from distance d. -/
def nearest (slots : List (Option (Nat × Nat))) (i : Nat) : Nat → Nat → Option Nat
  | 0, _ => none
  | k + 1, d =>
    if d ≤ i && slots[i - d]? == some none then some (i - d)
    else if slots[i + d]? == some none then some (i + d)
    else nearest slots i k (d + 1)

/-- The conversions of a request (channel, conversions, who) placed at the free slots nearest to floor(200 i / g) (R125). -/
def placeReq (slots : List (Option (Nat × Nat))) (r : Nat × Nat × Nat) : List (Option (Nat × Nat)) :=
  (List.range r.2.1).foldl (fun sl i => match nearest sl (i * 200 / r.2.1) 200 0 with
    | some k => sl.set k (some (r.1, r.2.2))
    | none => sl) slots

/-- The number under which a timer's conversion request is known to the slot planner (R512). -/
def tmrWho (t : Nat) : Nat := 2000 + t

/-- The slots that a plan has given to the timers' requests: timer and slot. -/
def timerSlots (slots : List (Option (Nat × Nat))) : List (Nat × Nat) :=
  (List.range slots.length).filterMap fun k => match slots.getD k none with
    | some (_, w) => if tmrWho 0 ≤ w && w < tmrWho 16 then some (w - tmrWho 0, k) else none
    | none => none

/-- The core cycle of the sampling instant of slot k (R117). -/
def slotCycle (k : Nat) : Nat := 80 * (k / 4) + 16

/-- The plan of the frame that begins, made from the requests handed over before cycle 3,600 of the frame before (R124 to R126). -/
def planSlots (s : State) : State :=
  let age := s.age + 1
  let p := makePlan s age
  let co := p.carry
  let slots := p.given.foldl placeReq (rep 200 none)
  let s := (timerSlots slots).foldl (fun s g => s.modTimer g.1 fun x => { x with slot := some g.2 }) s
  s.modSense fun x => { x with
    plan := slots.map (Option.map Prod.fst)
    reqs := p.reqs.filter fun r => 0 < r.left
    grants := p.grants
    granted := 200 - p.free
    carried := satN 65535 co
    telMissed := satN (2 ^ 32 - 1) (x.telMissed + p.missed)
    pressRun := if co = 0 then 0 else x.pressRun + 1
    pressed := if co = 0 then false else x.pressed }

/-- The number under which a fresh read's requests are known: its transport and tag. -/
def freshWho (tr : Transport) (tag : Nat) : Nat := 1000 + trNum tr * 256 + tag

/-- The fresh reads after a plan: one more plan for each; one that is fully granted is published with the image of the next frame
(R126, R127). -/
def freshPlanned (s : State) : State :=
  s.modHost fun h => { h with fresh := h.fresh.map fun f =>
    let left := f.wait.filter fun w => s.jobs.sense.reqs.any fun r => r.cls == 4 && r.who == freshWho f.tr (f.tag.getD 0) && r.chan == w.1
    let f := { f with wait := left, plans := f.plans + b2n (decide (f.first ≤ s.age)) }
    match f.ready with
    | some _ => f
    | none => if left.isEmpty && f.first ≤ s.age then { f with ready := some (s.age + 1) } else f }

/-! The sense front end's own commands. -/

/-- TS_FAULT (R136): on the fourth consecutive invalid reading the pin becomes FAULTED. Its band is B3 from then on, and falls from B3
with the hysteresis of R138 once it has recovered (DESIGN CHOICE, log 73). -/
def execTsFault (k : Nat) (s : State) : Out :=
  let p := s.pin k
  .next (if k < nTs s && (4 ≤ p.bad || p.badHit.isSome) && !p.faulted then
    (s.modPin k fun p => { p with faulted := true, band := 3, badHit := none }).raise Ev.TS_FAULT (k * 256 + p.badHit.getD p.case_)
  else s)

/-- TS_RECOVERED (R136): after 100 consecutive valid readings the pin leaves FAULTED. -/
def execTsRecovered (k : Nat) (s : State) : Out :=
  let p := s.pin k
  .next (if k < nTs s && p.faulted && (100 ≤ p.good || p.goodHit) then
    (s.modPin k fun p => { p with faulted := false, goodHit := false }).raise Ev.TS_RECOVERED k
  else s)

/-- SLOT_PRESSURE (R157): one-off requests were carried out of 1,000 consecutive plans. -/
def execSlotPressure (s : State) : Out :=
  let x := s.jobs.sense
  .next (if 1000 ≤ x.pressRun && !x.pressed then
    (s.modSense fun x => { x with pressed := true }).raise Ev.SLOT_PRESSURE x.carried
  else s)

end Sys2Proof.Machine
end

