-- ==== Sys2Proof/Machine/ParamCheck.lean ====
section
/-! DEFINITION. The checks of parameter writes: the entry checks of R62 and R151 and the cross-parameter rules of R530. -/

namespace Sys2Proof.Machine

/-! One value. -/

/-- The value of a parameter from its bits, signed where the parameter is (R522). -/
def ParamDef.num (d : ParamDef) (b : Nat) : Int := if d.signed then toS d.width b else b

/-- The value lies in the parameter's range. PH[x].TS_PIN and SCH[48].MAP_SEL depend on the part (R199, R245). -/
def inRange (s : State) (g k : Nat) (d : ParamDef) (v : Int) : Bool :=
  if g = gPH && k = PH.TS_PIN then 0 ≤ v && v < nTs s
  else if g = gSCH && k = SCH.MAP_SEL && d.name = "MAP_SEL" then 0 ≤ v && v < nMap s
  else d.rng.isEmpty || d.rng.any fun r => r.1 ≤ v && v ≤ r.2

/-- The value lies within the selvedge bound, the lane bounds being taken from the lane definition in cfg (R151, R571); without a valid
record nothing bounds (R150). -/
def inSelvedge (cfg : State) (d : ParamDef) (i : Nat) (v : Int) : Bool :=
  let lim (f : SelvF) (n : Nat) : Bool := v ≤ (selvField cfg f n : Nat)
  let k := lnKind cfg i
  let p := lnPort cfg i
  if !selvOk cfg then true else
  match d.bound with
  | .free => true
  | .atMost f => lim f i
  | .within lo hi => (selvField cfg lo i : Nat) ≤ v && lim hi i
  | .phPeak => 2 * v ≤ 3 * (selvField cfg .phImax i : Nat)
  | .scale =>
    (selvScale cfg i : Int) * (10000 - selvTol cfg i) ≤ v * 10000 && v * 10000 ≤ (selvScale cfg i : Int) * (10000 + selvTol cfg i)
  | .zero => selvZero cfg i - selvOffMax cfg i ≤ v && v ≤ selvZero cfg i + selvOffMax cfg i
  | .laneI => if k = 0 then true else if k ≤ 2 then lim .inImax p else lim .ppIdis p
  | .laneINeg => if k = 0 then true else if k ≤ 2 then lim .inImax p else lim .ppIchg p
  | .laneVov => if k = 0 then true else if k ≤ 2 then lim .inVmax p else lim .ppVmax p

/-! Sets of entries. -/

/-- The bits of the parameter d with the first ID id in a list of entries. -/
def entryBits (es : List (Nat × Word)) (d : ParamDef) (id : Nat) : Nat := ofWords (listed es id d.words)

/-- The parameters that a list of entries carries, by the ID of their first word, ascending. -/
def carried (s : State) (es : List (Nat × Word)) : List (Nat × ParamDef) :=
  es.filterMap fun e => match paramAt s.ident.big e.1 with
    | some d => if firstId d e.1 = e.1 then some (e.1, d) else none
    | none => none

/-- The entries put in force over the values in force. -/
def withEntries (s : State) (es : List (Nat × Word)) : State :=
  { s with params := { s.params with vals := es.foldl (fun v e => assocSet v e.1 e.2) s.params.vals } }

/-- The parameters of a lane whose bounds follow from its kind and port, for each lane that a list of entries defines (R571). -/
def definedBounds (s : State) (es : List (Nat × Word)) : List (Nat × ParamDef) :=
  ((List.range (nLn s)).filter fun n => [LN.KIND, LN.PORT].any fun k => (assocGet es (pid gLN n k)).isSome).flatMap fun n =>
    [LN.I_LIMIT, LN.I_LIMIT_NEG, LN.BW_VOV].filterMap fun k => (paramAt s.ident.big (pid gLN n k)).map fun d => (pid gLN n k, d)

/-- The first value of a set beyond its range or its selvedge bound, with its status (R63, R151); cfg has the set applied, and the set that
defines a lane is checked against the limits in force with it too (R571). -/
def checkValues (cfg : State) (es : List (Nat × Word)) : Option (Nat × Nat) :=
  ((definedBounds cfg es).foldl (fun l e => assocSet l e.1 e.2) (carried cfg es)).findSome? fun p =>
    let v := p.2.num (valBits cfg p.2 p.1)
    if !inRange cfg (idGroup p.1) (idIndex p.1) p.2 v then some (St.OUT_OF_RANGE, p.1)
    else if !inSelvedge cfg p.2 (idInst p.1) v then some (St.SELVEDGE, p.1)
    else none

/-! The cross-parameter rules of R530, in table order. Each answers the ID of the first offending parameter, by rising ID; old is the
configuration in force and new has the set applied. -/

/-- A parameter of lane n differs between the two. -/
def moved (old new : State) (g i k : Nat) : Bool := par old g i k ≠ par new g i k

/-- The lanes m below n that are defined in new. -/
def lanesBelow (new : State) (n : Nat) : List Nat := those n (lnUsed new)

/-- Rule 1: the lane definition of lane n (R176, R22). -/
def badLane (old new : State) (n : Nat) : Option Nat :=
  let busy := (old.lane n).st ≠ .off
  let used := lnUsed new n
  let input (m : Nat) : Bool := lnKind new m ≤ 2
  let ch (k : Nat) : Bool := busy && moved old new gLN n k
  if ch LN.KIND then some (pid gLN n LN.KIND)
  else if ch LN.PORT || (used && (nIn new ≤ lnPort new n ||
      (lanesBelow new n).any fun m => input m == input n && lnPort new m == lnPort new n)) then some (pid gLN n LN.PORT)
  else if ch LN.PHASES || (used && (lnPhases new n = 0 || 2 ^ nPh new ≤ lnPhases new n ||
      (lanesBelow new n).any fun m => lnPhases new m &&& lnPhases new n ≠ 0)) then some (pid gLN n LN.PHASES)
  else if ch LN.PORT_SIDE then some (pid gLN n LN.PORT_SIDE)
  else if ch LN.MODE then some (pid gLN n LN.MODE)
  else none

/-- Rule 5: the source kind of input port n (R248). -/
def badSource (old new : State) (n : Nat) : Option Nat :=
  let lanes := those (nLn new) fun l => lnUsed new l && lnPort new l == n
  let pv := lanes.any fun l => lnKind new l == 1
  let dc := lanes.any fun l => lnKind new l == 2
  let k := par new gSRC n SRC.KIND
  let st := (old.src n).st
  if (k = 1 && !pv) || (pv && k ≠ 1) || (dc && k ≠ 2) || (moved old new gSRC n SRC.KIND && st ≠ .off && st ≠ .absent) then
    some (pid gSRC n SRC.KIND)
  else none

/-- Rule 7: the link window and the two deviations. -/
def badLink (new : State) : Option Nat :=
  let v := par new gSRC 4 SRC.VSET
  if v < par new gSRC 4 SRC.LV_MIN || par new gSRC 4 SRC.LV_MAX < v then some (pid gSRC 4 SRC.VSET)
  else if par new gSRC 4 SRC.SUPP_DV ≤ par new gSRC 4 SRC.CHG_DV then some (pid gSRC 4 SRC.SUPP_DV)
  else none

/-- The sum of R123. -/
def slotDemand (s : State) : Nat :=
  (precChans s).foldl (fun a c => a + protRate c + par s gSNS c SNS.RATE_REG) 0 +
    4 * countOf (fun n => par s gSRC n SRC.KIND ≠ 0) (List.range (nIn s))

/-- Rule 8: the slot demand, naming the lowest RATE_REG of the set. -/
def badSlots (new : State) (es : List (Nat × Word)) : Option Nat :=
  if slotDemand new ≤ 176 then none
  else some (((es.map (·.1)).find? fun i => idGroup i == gSNS && idIndex i == SNS.RATE_REG && idInst i < 40).getD (pid gSNS 0 SNS.RATE_REG))

/-- The first index of a chain of values that is below its predecessor. -/
def firstDrop : List (Nat × Int) → Option Nat
  | [] => none
  | [_] => none
  | a :: b :: l => if b.2 < a.2 then some b.1 else firstDrop (b :: l)

/-- Rule 10: a non-empty profile slot at instance i with thresholds or voltages not ascending; the zeros of slot 7 are exempt (R316). -/
def badProfile (new : State) (i : Nat) : Option Nat :=
  if par new gCHG i CHG.CHEM = 0 then none
  else
    let ts := [CHG.T1, CHG.T2, CHG.T3, CHG.T4, CHG.T5, CHG.T6].map fun k => (k, parS new gCHG i k)
    let vs := [CHG.PRE_V_CELL, CHG.FLOOR_CELL, CHG.STORE_CELL, CHG.MAINT_CELL, CHG.CV_RED_CELL, CHG.CV_CELL].map fun k => (k, parI new gCHG i k)
    let vs := vs.filter fun v => !(i == 15 && v.2 == 0)
    ((firstDrop ts).orElse fun _ => firstDrop vs).map (pid gCHG i)

/-- Rule 12: a trust key outside slots 8 to 15 while authentication is asked for (R479). -/
def badTrust (new : State) (g i mode key : Nat) : Option Nat :=
  let m := par new g i mode
  let k := par new g i key
  if (m = 1 || m = 2) && !(8 ≤ k && k ≤ 15) then some (pid g i key) else none

/-- The 64 bytes of SEC.KEY_NEW in force in a configuration (R478, R18). -/
def keyNew (s : State) : List Byte := leBytes 64 (par s gSEC 0 SEC.KEY_NEW)

/-- The device certificate (R476). -/
def State.cert (s : State) : List Byte := deviceCert s.ident.big s.ident.serial s.ident.priv

/-- The key in a slot; none while the slot is empty (R477). -/
def keyAt (s : State) (k : Nat) : Option (List Byte) :=
  if k = 0 then some s.otp.key0 else if k = 1 then s.otp.key1 else if k = 2 then some s.otp.key2 else if k = 3 then s.otp.key3
  else assocGet s.flash.keys k

/-- The level that writes a key slot (R477): OEM, but INSTALL for slots 5 and 7. -/
def keyLevel (k : Nat) : Nat := if k = 5 || k = 7 then 2 else 3

/-- The set installs a key: it carries both parameters (R478). -/
def installs (es : List (Nat × Word)) : Bool :=
  (assocGet es (pid gSEC 0 SEC.KEY_NEW)).isSome && (assocGet es (pid gSEC 0 SEC.KEY_SLOT)).isSome

/-- Rule 13: a key that cannot go into its slot (R478). -/
def badKey (old new : State) (es : List (Nat × Word)) : Bool :=
  let k := par new gSEC 0 SEC.KEY_SLOT
  let b := keyNew new
  installs es && k ≠ 0xFFFF &&
    (k = 0 || k = 2 || (k < 4 && (keyAt old k).isSome) || !(onCurve b || (4 ≤ k && b == rep 64 0xFF)))

/-- Rule 14: the sequencer (R426). -/
def badSeq (old new : State) (es : List (Nat × Word)) : Option Nat :=
  let has (i k : Nat) : Bool := (assocGet es (pid gSEQ i k)).isSome
  let a := (List.range 8).findSome? fun n =>
    if old.jobs.rails.st = .idle then none
    else if moved old new gSEQ n SEQ.ORDER then some (pid gSEQ n SEQ.ORDER)
    else if moved old new gSEQ n SEQ.LANES then some (pid gSEQ n SEQ.LANES)
    else none
  let b := if assocGet es (pid gSEQ 8 SEQ.ENABLE) = some 0 && par new gGLB 0 GLB.OPMODE = 1 then some (pid gSEQ 8 SEQ.ENABLE) else none
  let c := (List.range 8).findSome? fun n =>
    if par new gSEQ n SEQ.ORDER ≠ 0xFF && (has n SEQ.ORDER || has n SEQ.V_GOOD || has n SEQ.V_HYST || has n SEQ.V_OFF) &&
        parI new gSEQ n SEQ.V_GOOD - parI new gSEQ n SEQ.V_HYST ≤ parI new gSEQ n SEQ.V_OFF then some (pid gSEQ n SEQ.V_OFF)
    else none
  (a.orElse fun _ => b).orElse fun _ => c

/-- The pin that timer t drives under IO_MODE 1. -/
def tmrDrives (s : State) (t : Nat) : Option Nat :=
  let p := par s gTMR t TMR.IO_PIN
  if par s gTMR t TMR.IO_MODE = 1 && p < 8 then some p else none

/-- The pins that timer t takes as SOURCE 2 or as a capture input. -/
def tmrTakes (s : State) (t : Nat) : List Nat :=
  (if par s gTMR t TMR.SOURCE = 2 then [bits (par s gTMR t TMR.SRC_ARG) 2 0] else []) ++
  (let m := par s gTMR t TMR.IO_MODE; let p := par s gTMR t TMR.IO_PIN; if 2 ≤ m && m ≤ 4 && p < 8 then [p] else [])

/-- Rule 16: timer t (R504). -/
def badTimer (old new : State) (es : List (Nat × Word)) (t : Nat) : Option Nat :=
  let mv (k : Nat) : Bool := (old.timer t).run && moved old new gTMR t k
  let o := parI new gTMR t TMR.OFFSET
  let p := parI new gTMR t TMR.PERIOD
  let m := par new gTMR t TMR.MODE
  let clash := match tmrDrives new t with
    | some q => (List.range 16).any fun u => u ≠ t && ((tmrDrives new u == some q && decide (u < t)) || (tmrTakes new u).contains q)
    | none => false
  if mv TMR.MODE then some (pid gTMR t TMR.MODE)
  else if mv TMR.SOURCE then some (pid gTMR t TMR.SOURCE)
  else if mv TMR.PRESC then some (pid gTMR t TMR.PRESC)
  else if mv TMR.OFFSET || ((assocGet es (pid gTMR t TMR.OFFSET)).isSome &&
      (if m = 3 then 2 * p - 1 < o else (m = 1 || m = 2 || m = 4) && p < o)) then some (pid gTMR t TMR.OFFSET)
  else if mv TMR.SRC_ARG || (par new gTMR t TMR.SOURCE = 3 && bits (par new gTMR t TMR.SRC_ARG) 3 0 = t) then some (pid gTMR t TMR.SRC_ARG)
  else if mv TMR.IO_PIN || clash then some (pid gTMR t TMR.IO_PIN)
  else if mv TMR.IO_MODE then some (pid gTMR t TMR.IO_MODE)
  else none

/-- Rule 17: the CAN identifiers (R530). -/
def badCan (new : State) : Bool :=
  let a := par new gGLB 0 GLB.CAN_ID_CMD
  let b := par new gGLB 0 GLB.CAN_ID_RPL
  a = b || (par new gGLB 0 GLB.CAN_XID = 0 && (0x7FF < a || 0x7FF < b)) || 0x1FFFFFFF < a || 0x1FFFFFFF < b

/-- A pattern record has failed (R141). -/
def patternFailed (s : State) : Bool := (List.range 57).any fun c => chanPresent s c && !(s.params.pattern.getD c {}).crcOk

/-- The first rule of R530 that fails, with its status and the ID it names; level is the privilege of the transport where R478 asks for
it. -/
def crossCheck (old new : State) (es : List (Nat × Word)) (level : Option Nat) : Option (Nat × Nat) :=
  let lanes := List.range (nLn new)
  let o (x : Option Nat) : Option (Nat × Nat) := x.map fun i => (St.OUT_OF_RANGE, i)
  let sets := assocGet es (pid gGLB 0 GLB.OPMODE) = some 1
  [ o (lanes.findSome? (badLane old new)),
    o ((lanes.find? fun n => par new gLN n LN.MODE = 1 && lnKind new n = 4).map fun n => pid gLN n LN.MODE),
    o ((lanes.find? fun n => par new gLN n LN.F_MAX < par new gLN n LN.F_MIN).map fun n => pid gLN n LN.F_MAX),
    o ((lanes.find? fun n => par new gLN n LN.DUTY_MAX ≤ par new gLN n LN.DUTY_MIN).map fun n => pid gLN n LN.DUTY_MAX),
    o ((List.range (nIn new)).findSome? (badSource old new)),
    o (((List.range (nIn new)).find? fun n => par new gSRC n SRC.V_MAX ≤ par new gSRC n SRC.V_MIN).map fun n => pid gSRC n SRC.V_MIN),
    o (badLink new),
    o (badSlots new es),
    o ((lanes.find? fun n => lnKind new n = 3 && par new gLN n LN.SLACK_EN = 0).map fun n => pid gLN n LN.SLACK_EN),
    o ([10, 11, 12, 13, 14, 15].findSome? (badProfile new)),
    o (((List.range (nPp new)).find? fun p => par new gPRT p PRT.TAKE_VMAX ≤ par new gPRT p PRT.TAKE_VMIN).map fun p => pid gPRT p PRT.TAKE_VMIN),
    o (((List.range (nPp new)).findSome? fun p => badTrust new gPRT p PRT.AUTH_MODE PRT.AUTH_KEY).orElse
        fun _ => badTrust new gFLE 3 FLE.AUTH_MODE FLE.AUTH_KEY),
    (if badKey old new es then some (St.OUT_OF_RANGE, pid gSEC 0 SEC.KEY_SLOT)
     else match level with
      | some l => if installs es && par new gSEC 0 SEC.KEY_SLOT ≠ 0xFFFF && l < keyLevel (par new gSEC 0 SEC.KEY_SLOT) then some (St.LOCKED, 1) else none
      | none => none),
    o (badSeq old new es),
    o (if par new gSAF 0 SAF.WD_CLOSE ≤ par new gSAF 0 SAF.WD_OPEN then some (pid gSAF 0 SAF.WD_OPEN) else none),
    o ((List.range 16).findSome? (badTimer old new es)),
    o (if badCan new then some (pid gGLB 0 GLB.CAN_ID_CMD) else none),
    (if sets && patternFailed new then some (St.OUT_OF_RANGE, pid gGLB 0 GLB.OPMODE)
     else if sets && !selvOk new then some (St.SELVEDGE, pid gGLB 0 GLB.OPMODE) else none) ].findSome? id

/-- The check of a set at a stitch (R63): every value, then the rules of R530. -/
def checkSet (s : State) (es : List (Nat × Word)) (level : Option Nat) : Option (Nat × Nat) :=
  let new := withEntries s es
  (checkValues new es).orElse fun _ => crossCheck s new es level

/-! Entries of PARAM_BASTE and PARAM_WRITE_LIVE (R62, R522). -/

/-- The words that a list of entries carries for the parameter with first ID id; the later entry of an ID counts (R61). -/
def lastWords (es : List Entry) (id : Nat) : Nat → List (Option Word)
  | 0 => []
  | k + 1 => ((es.reverse.find? fun e => e.id = id).map (·.val)) :: lastWords es (id + 1) k

/-- The value that entry e carries with the other words of its parameter, whose first ID is id; none while some word is missing (R62, R522). -/
def wholeBits (es : List Entry) (d : ParamDef) (id : Nat) (e : Entry) : Option Nat :=
  let ws := (lastWords es id d.words).set (e.id - id) (some e.val)
  if ws.all Option.isSome then some (ofWords (ws.map fun w => w.getD 0)) else none

/-- The index of the first entry that carries a word of the parameter. -/
def firstCarried (es : List Entry) (d : ParamDef) (id : Nat) : Nat :=
  (es.findIdx? fun e => id ≤ e.id && e.id < id + d.words).getD 0

/-- The checks of R62 on one entry, in their order; live asks for a live parameter (R70). The answer is a status and its DETAIL. -/
def checkEntry (s : State) (level : Nat) (live : Bool) (es : List Entry) (i : Nat) (e : Entry) : Option (Nat × Nat) :=
  match paramAt s.ident.big e.id with
  | none => some (St.BAD_PARAM_ID, i)
  | some d =>
    let id := firstId d e.id
    if d.attr = .ro then some (St.READ_ONLY, i)
    else if live && d.attr ≠ .live then some (St.LOCKED, 4)
    else if level < writeLevel id then some (St.LOCKED, 1)
    else match wholeBits es d id e with
      | none => some (St.OUT_OF_RANGE, firstCarried es d id)
      | some b =>
        if !inRange s (idGroup id) (idIndex id) d (d.num b) then some (St.OUT_OF_RANGE, i)
        else if !inSelvedge s d (idInst id) (d.num b) then some (St.SELVEDGE, i)
        else none

/-- The first failing entry decides (R51, R62). -/
def checkEntries (s : State) (level : Nat) (live : Bool) (es : List Entry) : Option (Nat × Nat) :=
  (List.range es.length).findSome? fun i => match es[i]? with
    | some e => checkEntry s level live es i e
    | none => none

end Sys2Proof.Machine
end

