-- ==== Sys2Proof/Machine/FleetOps.lean ====
section
/-! DEFINITION. The named operations of the fleet bus (10_fleet_bus): numbering and acknowledgement of frames (R370), forwarding (R371),
root election (R379 to R381), the fleet states (R375), launches (R389 to R392), renumbering (R386) and the parent's address work. -/

namespace Sys2Proof.Machine

/-! Frame types (R372). -/
namespace Eli
abbrev HELLO : Nat := 0x01
abbrev DELAY_REQ : Nat := 0x02
abbrev DELAY_RESP : Nat := 0x03
abbrev ANNOUNCE : Nat := 0x04
abbrev JOIN_REQ : Nat := 0x05
abbrev JOIN_ACK : Nat := 0x06
abbrev REPAIR : Nat := 0x07
abbrev AUTH_CERT_GET : Nat := 0x10
abbrev AUTH_CERT : Nat := 0x11
abbrev AUTH_CHALLENGE : Nat := 0x12
abbrev AUTH_SIGN : Nat := 0x13
abbrev LAUNCH : Nat := 0x20
abbrev LAUNCH_CANCEL : Nat := 0x21
abbrev BARRIER_UP : Nat := 0x22
abbrev BARRIER_RELEASE : Nat := 0x23
abbrev RESET : Nat := 0x24
abbrev CMD : Nat := 0x30
abbrev CMD_REPLY : Nat := 0x31
abbrev CMD_STATUS : Nat := 0x32
abbrev SNAP_REQ : Nat := 0x40
abbrev SNAP_RECORD : Nat := 0x41
abbrev EVENT : Nat := 0x42
abbrev EVENTS_LOST : Nat := 0x43
abbrev NEED : Nat := 0x50
abbrev SHARES : Nat := 0x51
end Eli

/-- The fleet job. -/
def State.fleet (s : State) : Fleet := s.jobs.fleet

/-- A unit parameter of the fleet, FLE[3] (R405). -/
def fle (s : State) (k : Nat) : Nat := par s gFLE 3 k

/-! Ports (R370, R371, R373, R376, R377). -/

/-- Port q carries every kind of frame: its link is up, it is not blocked as a loop, for want of a common version, or for want of a
passed check (R373, R376, R377). -/
def openPort (s : State) (q : Nat) : Bool :=
  let p := s.fl q
  p.up && !p.loop && !p.noVer && (fle s FLE.AUTH_MODE ≠ 2 || p.authRes == some 0)

/-- Port q faces the parent. -/
def isParent (s : State) (q : Nat) : Bool := s.fleet.parent == some q

/-- The ports that face a child, to which broadcasts go (R371). -/
def childPorts (s : State) : List Nat := (List.range 3).filter fun q => openPort s q && !isParent s q

/-- The link version of the unit: that of its parent port; its own highest as root (R397, R400). -/
def unitVer (s : State) : Nat :=
  match s.fleet.parent with
  | some q => (s.fl q).ver
  | none => fle s FLE.VER_MAX

/-! Sending (R369, R370). -/

/-- A frame is numbered and acknowledged: ROUTE 1 and 3, and every hop frame but DELAY_REQ and DELAY_RESP (R370). -/
def FFrame.numbered (f : FFrame) : Bool :=
  f.route = 1 || f.route = 3 || (f.route = 0 && f.typ ≠ Eli.DELAY_REQ && f.typ ≠ Eli.DELAY_RESP)

/-- A frame with priority pr joins those that wait for the window, behind those of its priority (R371). -/
def waitIn (pr : Nat) (f : FFrame) : List (Nat × FFrame) → List (Nat × FFrame)
  | [] => [(pr, f)]
  | (k, g) :: l => if pr < k then (pr, f) :: (k, g) :: l else (k, g) :: waitIn pr f l

/-- A frame as it stands on the line between SOF and EOF: header, payload, CRC-32 (R369). -/
def FFrame.wire (f : FFrame) : List Byte :=
  let b := [byte f.typ, byte f.route, byte f.lseq, byte f.ver] ++ leBytes 2 f.src ++ leBytes 2 f.dst ++ f.pay
  b ++ leBytes 4 (crc32 b)

/-- The data bytes of a marker: FRAME, OFFSET, ACK, FLAGS, CRC-8 (R368). -/
def markerBytes (frame off ack flags : Nat) : List Byte :=
  let b := leBytes 7 (frame % 2 ^ 52) ++ leBytes 2 off ++ [byte ack, byte flags]
  b ++ [byte (crc8 b)]

/-- The data bytes of a tick: ACK, FLAGS, CRC-8 (R368). -/
def tickBytes (ack flags : Nat) : List Byte := let b := [byte ack, byte flags]; b ++ [byte (crc8 b)]

/-- The frame types that the unit knows (R372). -/
def knownType (typ : Nat) : Bool :=
  (1 ≤ typ && typ ≤ 7) || (0x10 ≤ typ && typ ≤ 0x13) || (0x20 ≤ typ && typ ≤ 0x24) || (0x30 ≤ typ && typ ≤ 0x32) ||
  (0x40 ≤ typ && typ ≤ 0x43) || typ = 0x50 || typ = 0x51

/-- A frame as it goes onto a link: VER is the version of that link (R369); one of an unknown TYPE goes unchanged (R371). -/
def FFrame.onLink (f : FFrame) (ver : Nat) : FFrame := if knownType f.typ then { f with ver := ver } else f

/-- A numbered frame goes onto the line under the next LSEQ (R370). -/
def FlPort.emit (p : FlPort) (f : FFrame) : FlPort :=
  let g := { f.onLink p.ver with lseq := p.txSeq }
  { p with sent := p.sent ++ [g.wire], unacked := p.unacked ++ [g], txSeq := (p.txSeq + 1) % 256, ackAge := if p.unacked.isEmpty then 0 else p.ackAge }

/-- Frames that wait go out while fewer than 8 are unacknowledged (R370). -/
def FlPort.pump : Nat → FlPort → FlPort
  | 0, p => p
  | k + 1, p =>
    match p.wait with
    | (_, f) :: l => if p.unacked.length < 8 then FlPort.pump k ({ p with wait := l }.emit f) else p
    | [] => p

/-- A frame is given to port q with its priority. A broadcast, DELAY_REQ or DELAY_RESP has no number: the LSEQ byte it carries is open. -/
def FlPort.give (p : FlPort) (pr : Nat) (f : FFrame) : FlPort :=
  if !p.up then p
  else if f.numbered then FlPort.pump 8 { p with wait := waitIn pr f p.wait }
  else { p with sent := p.sent ++ [(f.onLink p.ver).wire] }

/-- A frame of this unit. -/
def mkFrame (s : State) (q typ route dst : Nat) (pay : List Byte) : FFrame :=
  ⟨typ, route, (Config.openByte 5 s.freeCtr).toNat, (s.fl q).ver, s.fleet.addr, dst, pay⟩

/-- A frame of this unit goes out on port q. -/
def flSend (q pr typ route dst : Nat) (pay : List Byte) (s : State) : State :=
  (s.modFl q fun p => p.give pr (mkFrame s q typ route dst pay)).drawn 1

/-- A hop frame. -/
def hopSend (q typ : Nat) (pay : List Byte) (s : State) : State := flSend q 0 typ 0 0xFFFF pay s

/-- The priority of a frame type upstream (R371); 0 for a type the order does not name (DESIGN CHOICE, log 24). -/
def upPrio (typ : Nat) : Nat :=
  if typ = Eli.LAUNCH || typ = Eli.LAUNCH_CANCEL || typ = Eli.BARRIER_UP || typ = Eli.REPAIR then 1
  else if typ = Eli.CMD_REPLY || typ = Eli.CMD_STATUS then 2
  else if typ = Eli.NEED then 3 else if typ = Eli.SNAP_RECORD then 4
  else if typ = Eli.EVENT || typ = Eli.EVENTS_LOST then 5 else 0

/-- A frame goes on towards the root through the parent port, unchanged but for its LSEQ (R371). -/
def fwdUp (f : FFrame) (s : State) : State :=
  match s.fleet.parent with
  | some q => if openPort s q then s.modFl q fun p => p.give (upPrio f.typ) f else s
  | none => s

/-- A frame goes out on every port that faces a child (R371). -/
def fwdDown (f : FFrame) (s : State) : State := (childPorts s).foldl (fun s q => s.modFl q fun p => p.give 0 f) s

/-- The port for an address: that of the subtree which holds it, else the parent's (R371); none at the end of the way. -/
def routePort (s : State) (dst : Nat) : Option Nat :=
  match assocGet s.fleet.routes dst with
  | some q => if openPort s q then some q else none
  | none => match s.fleet.parent with
    | some q => if openPort s q then some q else none
    | none => none

/-- The port on which a frame that came in on port q goes on to an address: never back to where it came from, since that unit has found the
address below this one (R371). -/
def onwardPort (s : State) (q dst : Nat) : Option Nat := (routePort s dst).filter (· ≠ q)

/-- An addressed frame from port q goes on; it is lost where no port leads to its target (R371). -/
def fwdTo (q : Nat) (f : FFrame) (s : State) : State :=
  match onwardPort s q f.dst with
  | some k => s.modFl k fun p => p.give (upPrio f.typ) f
  | none => s

/-- An addressed frame of this unit. -/
def sendTo (dst typ : Nat) (pay : List Byte) (s : State) : State :=
  match routePort s dst with
  | some q => flSend q (upPrio typ) typ 3 dst pay s
  | none => s

/-- A frame of this unit to the root. -/
def sendUp (typ : Nat) (pay : List Byte) (s : State) : State :=
  match s.fleet.parent with
  | some q => if openPort s q then flSend q (upPrio typ) typ 1 0xFFFF pay s else s
  | none => s

/-- The root's broadcast: the next BSEQ, kept among the last 32, and sent to every child (R370). The source address is that of the unit
the frame comes from. -/
def broadcast (typ src : Nat) (pay : List Byte) (s : State) : State :=
  let b := (s.fleet.bseq + 1) % 65536
  let f : FFrame := { mkFrame s 0 typ 2 b pay with src := src }
  fwdDown f ((s.modFleet fun t => { t with bseq := b, bseen := true, kept := (f :: t.kept).take 32 }).drawn 1)

/-! Receiving (R370, R371, R377). -/

/-- Whether a frame arrives on port q intact, in order and acceptable, with the state in which its number is taken. A frame on a port
whose link is down is left unacknowledged; one out of order is discarded and counted (R370); one on a blocked or unchecked port is
acknowledged and not taken (R373, R376, R377). -/
def flTake (q typ : Nat) (f : FHdr) (s : State) : Bool × State :=
  let p := s.fl q
  let g : FFrame := ⟨typ, f.route, f.lseq, f.ver, f.src, f.dst, []⟩
  if !(q < 3 && p.up && s.clocked) then (false, s)
  else if g.numbered && f.lseq ≠ (p.rxSeq + 1) % 256 then (false, s.modFl q fun p => { p with crcErr := incSat 32 p.crcErr })
  else
    let s := if g.numbered then s.modFl q fun p => { p with rxSeq := f.lseq } else s
    let auth := typ = Eli.HELLO || (Eli.AUTH_CERT_GET ≤ typ && typ ≤ Eli.AUTH_SIGN)
    (openPort s q || (f.route = 0 && (auth || fle s FLE.AUTH_MODE ≠ 2 || p.authRes == some 0)), s)

/-- A received frame as it is forwarded. -/
def frameOf (f : FHdr) (typ : Nat) (pay : List Byte) : FFrame := ⟨typ, f.route, f.lseq, f.ver, f.src, f.dst, pay⟩

/-- A hop frame on port q is taken; in a frame that cuts S4 of the fleet job off it is left unacknowledged, to be resent (R99, R370). -/
def hopIn (q typ : Nat) (f : FHdr) (act : State → State) (s : State) : State :=
  let lost := match (s.slot (slotFor s 10 0)).cutNow with | some k => decide (k ≤ 4) | none => false
  let r := if lost then (false, s) else flTake q typ f s
  if r.1 && f.route = 0 then act r.2 else r.2

/-- A numbered frame of ROUTE 1 or 3 on port q is taken. -/
def wayIn (q typ : Nat) (f : FHdr) (act : State → State) (s : State) : State :=
  let r := flTake q typ f s
  if r.1 && (f.route = 1 || f.route = 3) then act r.2 else r.2

/-! States (R375, R387). -/

/-- FLEET_STATE tells the state with a cause (R408). -/
def fleetTell (cause : Nat) (s : State) : State :=
  (s.modFleet fun f => { f with cause := cause }).raise Ev.FLEET_STATE (cause * 256 + s.fleet.st.code)

/-- A fleet state is entered (R375). -/
def fleetEnter (st : FlSt) (cause : Nat) (s : State) : State :=
  fleetTell cause (s.modFleet fun f => { f with st := st, inState := 0 })

/-- A tide-table entry leaves the table and its set is released with its contents (R67, R81). -/
def dropLaunch (lid : Nat) (s : State) : State :=
  s.modHost fun h => { h with tide := h.tide.filter (fun t => t.lid ≠ lid)
                              sets := h.sets.map fun k => if k.heldBy = some lid then { k with heldBy := none } else k }

/-- Pending launches that satisfy p are cancelled with a cause (R386, R387, R408). -/
def cancelLaunches (p : Tide → Bool) (cause : Nat) (s : State) : State :=
  (s.host.tide.filter p).foldl (fun s t => (dropLaunch t.lid s).raise Ev.LAUNCH_CANCELLED (t.lid * 2 ^ 16 + cause)) s

/-- Every pending launch marked FLEET_CRITICAL is cancelled, cause 2 (R375, R387). -/
def cancelCritical (s : State) : State := cancelLaunches (fun t => bit t.flags 0) 2 s

/-- A member or unit loses its parent's time: ISLANDED, its critical launches cancelled (R387). -/
def fleetIsland (cause : Nat) (s : State) : State :=
  cancelCritical (fleetEnter .islanded cause (s.modFleet fun f => { f with alignRun := 0, aligned := false, slewing := false, islFor := 0 }))

/-- JOINING is entered: the address is given up and offered again, what was known of the tree is forgotten (R375, R378). -/
def fleetJoining (cause : Nat) (s : State) : State :=
  fleetEnter .joining cause (s.modFleet fun f => { f with
    prevAddr := if f.addr = 0xFFFF then f.prevAddr else some f.addr
    addr := 0xFFFF, parent := none, best := none, annAge := 0, joinAge := none, missed := 0, routes := [], members := [], offered := [], joinFrom := []
    needs := [], offKnown := false, alignDue := false, shares := none, shared := false, gaps := [], bseen := false, cut := false, aligned := false, alignRun := 0, slewing := false
    ports := f.ports.map fun p => { p with loop := false, rootedRun := 0 } })

/-- The refusal state of R387: the unit is CUT, ISLANDED, JOINING or LINKDOWN. -/
def cutOff (s : State) : Bool := s.fleet.cut || s.fleet.st = .islanded || s.fleet.st = .joining || s.fleet.st = .linkdown

/-! Election (R379 to R381). -/

/-- The order of (PRIO, SERIAL), lowest first (R379). -/
def better (a b : Nat × Nat) : Bool := a.1 < b.1 || (a.1 == b.1 && a.2 < b.2)

/-- The unit's own pair. -/
def ownPair (s : State) : Nat × Nat := (fle s FLE.PRIO, s.ident.serial)

/-- The best root the unit knows, itself if no better one (R380). -/
def bestRoot (s : State) : Nat × Nat := s.fleet.best.getD (ownPair s)

/-- The root that port q announces, where the port may lead to a parent. -/
def annRoot (s : State) (q : Nat) : Option (Nat × Nat) :=
  let p := s.fl q
  if p.up && !p.noVer && (fle s FLE.AUTH_MODE ≠ 2 || p.authRes == some 0) then p.ann.map fun a => (a.1, a.2.1) else none

/-- ANNOUNCE goes out on port q (R372, R380). -/
def announceOn (q : Nat) (s : State) : State :=
  let r := bestRoot s
  let f := s.fleet
  hopSend q Eli.ANNOUNCE ([byte r.1, 0] ++ leBytes 8 r.2 ++ [byte f.depth, byte f.fdepth, byte f.fver, 0] ++ leBytes 2 f.units) s

/-- ANNOUNCE goes out on every port but the parent's (R380). -/
def announceAll (s : State) : State :=
  ((List.range 3).filter fun q => (s.fl q).up && !isParent s q).foldl (fun s q => announceOn q s) (s.modFleet fun f => { f with annSent := 0 })

/-- The address offered when joining (R378). -/
def addrPref (s : State) : Nat := s.fleet.prevAddr.getD (fle s FLE.ADDR_PREF)

/-- JOIN_REQ goes to the parent (R375). -/
def sendJoin (s : State) : State :=
  match s.fleet.parent with
  | some q => flSend q 0 Eli.JOIN_REQ 1 0xFFFF (leBytes 8 s.ident.serial ++ leBytes 2 (addrPref s) ++ [byte s.fleet.depth, byte (s.fl q).ver])
      (s.modFleet fun f => { f with joinAge := some 0 })
  | none => s

/-- Among the ports that announce root r, the parent is the one of lowest DEPTH, ties to UP, DOWN, BRANCH; every other is blocked and
told by FLEET_LOOP (R373). What the parent announces of the fleet is taken over. -/
def takeParent (r : Nat × Nat) (s : State) : State :=
  let qs := (List.range 3).filter fun q => annRoot s q = some r
  let depth (q : Nat) : Nat := match (s.fl q).ann with | some a => a.2.2.1 | none => 0
  match minBy (fun q => (depth q : Int)) qs with
  | none => s
  | some q =>
    let s := (qs.filter fun k => k ≠ q && !(s.fl k).loop).foldl (fun s k => (s.modFl k fun p => { p with loop := true }).raise Ev.FLEET_LOOP k) s
    let s := s.modFl q fun p => { p with loop := false }
    s.modFleet fun f => match (s.fl q).ann with
      | some a => { f with parent := some q, offKnown := f.offKnown && f.parent == some q, rootSer := a.2.1, depth := a.2.2.1 + 1, fdepth := a.2.2.2.1, fver := a.2.2.2.2.1, units := a.2.2.2.2.2 }
      | none => f

/-- The best root that a port announces and that is better than the unit itself. -/
def bestSeen (s : State) : Option (Nat × Nat) :=
  ((List.range 3).filterMap (annRoot s)).foldl (fun b r => if better r (b.getD (ownPair s)) then some r else b) none

/-- A unit in JOINING follows the best root it hears of: parent chosen, JOIN_REQ sent when the parent is new (R375, R381), and ANNOUNCE of
a better root passed on (R380). -/
def followRoot (s : State) : State :=
  match bestSeen s with
  | none => s.modFleet fun f => { f with best := none, parent := none, joinAge := none }
  | some r =>
    let was := s.fleet.parent
    let news := s.fleet.best ≠ some r
    let s := takeParent r (s.modFleet fun f => { f with best := some r })
    let s := if news || s.fleet.parent ≠ was then sendJoin s else s
    if news then announceAll s else s

/-! Time (R383, R386). -/

/-- On joining or rejoining: an offset of a frame or more renumbers the counter at the next cycle 0, with every pending launch cancelled,
and what remains of one cycle or more is slewed (R386). -/
def alignStart (s : State) : State :=
  let o := s.fleet.offset
  if 256000 ≤ absN o then
    let k := (o + 128000) / 256000
    let s := s.modFleet fun f => { f with renumber := some k, offset := o - 256000 * k, slewing := decide (64 ≤ absN (o - 256000 * k)) }
    (cancelLaunches (fun _ => true) 3 s).raise Ev.FLEET_RENUMBERED (ofS 32 (clampI (-2147483648) 2147483647 k))
  else s.modFleet fun f => { f with slewing := decide (64 ≤ absN o) }

/-- A member that has joined handles its offset as soon as one has been measured against its present parent (R383, R386). -/
def alignStep (s : State) : State :=
  if s.fleet.st = .member && s.fleet.alignDue && s.fleet.offKnown then alignStart (s.modFleet fun f => { f with alignDue := false }) else s

/-! Launches (R389 to R392). -/

/-- lead_min of R390. -/
def leadMin (s : State) : Nat :=
  ceilDiv ((s.fleet.depth + s.fleet.fdepth) * 320) 10000 + 2

/-- The fleet port logic writes a LAUNCH into the tide table, or refuses it with a cause (R391). -/
def takeLaunch (pay : List Byte) (s : State) : State :=
  let lid := fld pay 0 2
  let act := fld pay 2 1
  let arg := fld pay 4 1
  let fr := fld pay 8 8
  let set := s.host.sets.getD arg {}
  let refuse (c : Nat) : State := s.raise Ev.LAUNCH_REFUSED (lid * 2 ^ 16 + c)
  if fr < s.frame + 2 then refuse 1
  else if 16 ≤ s.host.tide.length then refuse 2
  else if act = 0 && set.heldBy.isSome then refuse 3
  else s.modHost fun h => { h with
    tide := h.tide ++ [⟨lid, act, 1, fld pay 3 1, arg, fr, false⟩]
    sets := if act = 0 then modAt h.sets arg fun k => { k with heldBy := some lid } else h.sets }

/-- A LAUNCH_CANCEL takes effect: unless frame L - 2 has ended, the entry goes, cause 1 (R392). -/
def takeCancel (pay : List Byte) (s : State) : State :=
  let lid := fld pay 0 2
  cancelLaunches (fun t => t.lid = lid && s.frame + 2 ≤ t.frame) 1 s

/-! Barriers (R395). -/

/-- a is at b or before it, modulo 65,536 within a window of 32,768. -/
def notAfter (a b : Nat) : Bool := (b + 65536 - a) % 65536 < 32768

/-- The lower of two levels, a transparent one giving way. -/
def minLevel : Option Nat → Option Nat → Option Nat
  | none, b => b
  | a, none => a
  | some a, some b => some (if notAfter a b then a else b)

/-- The unit's own contribution: its oldest barrier; without one, an automatic unit is transparent and HELD while inner work runs, and
one that is not automatic holds the barrier back (DEDUCED, log 25). -/
def ownBarrier (s : State) : Bool × Option Nat :=
  match s.fleet.bars with
  | (b, _) :: _ => (false, some b)
  | [] => if fle s FLE.BARRIER_AUTO = 1 then (!s.fleet.inner.isEmpty, none) else (true, none)

/-- The combination of the unit and its children (R395). -/
def barrierSum (s : State) : Bool × Option Nat :=
  (childPorts s).foldl (fun a q => (a.1 || (s.fl q).barHeld, minLevel a.2 (s.fl q).barLvl)) (ownBarrier s)

/-- Every FLEET_BARRIER for b or an earlier number ends with OK (R395). -/
def releaseBars (b : Nat) (s : State) : State :=
  let done := s.fleet.bars.filter fun x => notAfter x.1 b
  let s := s.modFleet fun f => { f with bars := f.bars.filter fun x => !notAfter x.1 b }
  done.foldl (fun s x => if (s.opRun 0x72 x.2.1).isSome then s.endOp 0x72 x.2.1 St.OK else s) s

/-- The payload of BARRIER_UP. A combination without a level sets bit 1 of HELD, since no rule gives its LEVEL (DESIGN CHOICE, log 25). -/
def barrierPay (c : Bool × Option Nat) : List Byte :=
  [byte (b2n c.1 + 2 * b2n c.2.isNone), 0] ++ leBytes 2 (c.2.getD 0)

/-- The combination goes up; at the root, one that is not HELD releases its level (R395). -/
def barrierTell (s : State) : State :=
  let c := barrierSum s
  match s.fleet.st with
  | .root => (match c with
    | (false, some b) =>
      let s := releaseBars b (broadcast Eli.BARRIER_RELEASE s.fleet.addr (leBytes 2 b) s)
      s.modFleet fun f => { f with barSent := barrierSum s }
    | _ => s.modFleet fun f => { f with barSent := c })
  | .member => sendUp Eli.BARRIER_UP (barrierPay c) (s.modFleet fun f => { f with barSent := c })
  | _ => s

/-- A changed combination is told (R395). -/
def barrierStep (s : State) : State := if barrierSum s = s.fleet.barSent then s else barrierTell s

/-- MEMBER is entered: the offset is to be handled (R386), and the parent, which may know nothing of the unit's barriers, is told of them
(R395). -/
def fleetMember (cause : Nat) (s : State) : State :=
  barrierTell (alignStep (fleetEnter .member cause (s.modFleet fun f => { f with alignDue := true })))

/-! Results of FLEET_CMD at its origin (R393). -/

/-- The FLEET_CMD of this unit with an OPID, and its list entry's arguments: OPID, TARGET, whether the reply has come. -/
def cmdOp (s : State) (opid : Nat) : Option Op := s.host.ops.find? fun o => o.opc == 0x70 && o.args.getD 0 0 == opid

/-- The running operation num with f applied. -/
def modOp (num : Nat) (f : Op → Op) (s : State) : State :=
  s.modHost fun h => { h with ops := h.ops.map fun o => if o.num = num then f o else o }

/-- The inner reply of a single target becomes the result. -/
def cmdReplied (opid : Nat) (pkt : List Byte) (s : State) : State :=
  match cmdOp s opid with
  | some o => if o.args.getD 1 0 ≠ 0xFFFF && o.args.length = 2 then modOp o.num (fun o => { o with args := o.args ++ [1], data := pkt }) s else s
  | none => s

/-- The units listed in a broadcast result. -/
def listedUnits : List Byte → List Nat
  | a :: b :: _ :: _ :: l => (a.toNat + 256 * b.toNat) :: listedUnits l
  | _ => []

/-- A member's status joins the broadcast result, in order of arrival, once. -/
def cmdStatused (opid unit status : Nat) (s : State) : State :=
  match cmdOp s opid with
  | some o => if o.args.getD 1 0 = 0xFFFF && !(listedUnits o.data).contains unit then
      modOp o.num (fun o => { o with data := o.data ++ leBytes 2 unit ++ [byte status, 0] }) s else s
  | none => s

/-- CMD_REPLY or CMD_STATUS goes to the origin, which may be this unit (R393). -/
def answerOrigin (origin opid : Nat) (bcast : Bool) (pkt : List Byte) (s : State) : State :=
  if origin = s.fleet.addr then
    (if bcast then cmdStatused opid s.fleet.addr (fld pkt 0 1) s else cmdReplied opid pkt s)
  else if bcast then sendTo origin Eli.CMD_STATUS (leBytes 2 opid ++ [(pkt.head?).getD 0, 0]) s
  else sendTo origin Eli.CMD_REPLY (leBytes 2 opid ++ pkt) s

/-- Every reply that an inner command has completed goes to its origin; an inner long operation stays in progress until it ends (R393,
R395). -/
def flushInner (s : State) : State :=
  let due := s.host.inner.replies.filter fun r => r.ready ≤ s.frame
  let s := s.modHost fun h => { h with
    inner := { h.inner with replies := h.inner.replies.filter fun r => !decide (r.ready ≤ s.frame) }
    flights := due.foldl (fun fs r => freeTag fs .fleet r) h.flights }
  let s := due.foldl (fun s r =>
    match (if r.owns then s.fleet.inner else s.fleet.inner.reverse).find? (fun c => c.tag = r.tag && c.tag.isSome) with
    | some c =>
      let op := if r.status = St.ACCEPTED then some (fld r.pay 0 2) else none
      let s := s.modFleet fun f => { f with inner := f.inner.filterMap fun d =>
        if d = c then (if op.isSome then some { d with tag := none, op := op } else none) else some d }
      answerOrigin c.origin c.opid c.bcast r.bytes s
    | none => s) s
  s.modFleet fun f => { f with inner := f.inner.filter fun c =>
    match c.op with | some n => s.host.ops.any (fun o => o.num == n) | none => c.tag.isSome }

/-! Snapshots (R396). -/

/-- The records that the last gathering may hold: 256 at this unit, less those of earlier gatherings still held (R45, R396). -/
def snapRoom (f : Fleet) : Nat := 256 - f.snapHeld.foldl (fun a g => a + g.recs.length) 0

/-- A record joins the gathering, once a unit, while the window has room. -/
def snapAdd (unit : Nat) (r : List Byte) (s : State) : State :=
  match s.fleet.snap with
  | some g => if g.recs.length < snapRoom s.fleet && !(g.gone.contains unit) && g.recs.all (fun x => x.1 ≠ unit) then
      s.modFleet fun f => { f with snap := some { g with recs := g.recs ++ [(unit, r)] } } else s
  | none => s

/-- The record of frame fr goes to the requester, which may be this unit. -/
def snapGive (fr who : Nat) (r : List Byte) (s : State) : State :=
  if who = s.fleet.addr then
    (match s.fleet.snap with | some g => if g.frame = fr then snapAdd s.fleet.addr r s else s | none => s)
  else sendTo who Eli.SNAP_RECORD r s

/-- The link version of a unit: the root holds it; elsewhere it is 2 where the lowest of the fleet is, and else 1 or 2, which the origin has
no means to know (R378, R397, R403; DESIGN CHOICE, log 114). -/
def verOf (s : State) (unit : Nat) : Nat :=
  match s.fleet.members.find? fun m => m.1 = unit with
  | some m => m.2.2.1
  | none => if s.fleet.fver = 2 then 2 else 1 + (Config.openByte 8 s.freeCtr).toNat % 2

/-- A MISSING record for a unit (R396, R397). -/
def missingRecord (s : State) (unit fr : Nat) : List Byte :=
  [byte (verOf s unit), byte 1] ++ leBytes 2 unit ++ leBytes 8 fr ++ rep 116 (byte 0)

end Sys2Proof.Machine
end

