-- ==== Sys2Proof/Machine/Fleet.lean ====
section
/-! DEFINITION. The Elivo fleet bus (10_fleet_bus R364 to R402): the fleet port logic and the fleet job, every received marker, tick and
frame, and every timer of the fleet. The inner command of a CMD runs in HostCmd.lean. -/

namespace Sys2Proof.Machine

/-! The fleet port logic and the fleet job (R366, R368, R375, R384, R398). -/

/-- What a frame counts on a port: link conditions, missing markers, rooted markers, acknowledgement (R366, R370, R375). -/
def FlPort.count (p : FlPort) (i : FleetIn) : FlPort :=
  { p with
    aligned := i.aligned, viol := i.violations
    upRun := if i.aligned && i.violations = 0 && p.got then p.upRun + 1 else 0
    silent := if p.got then 0 else p.silent + 1
    rootedRun := if p.gotMark && p.rooted then p.rootedRun + 1 else 0
    ackAge := if p.unacked.isEmpty then 0 else p.ackAge + 1
    auth := p.auth.map fun a => { a with age := a.age + 1 }
    authAge := p.authAge + 1
    got := false, gotMark := false, sent := [], mark := none, tick := none }

/-- The marker or tick that port q sends in a frame (R368); the marker starts off steps after cycle 0. -/
def FlPort.signal (p : FlPort) (f : Fleet) (frame off q : Nat) : FlPort :=
  if f.parent = some q then { p with tick := some (tickBytes p.rxSeq (b2n (f.st == .member))) }
  else { p with mark := some (markerBytes frame off p.rxSeq (b2n (f.st == .islanded || f.cut) + 2 * b2n (f.st == .member || f.st == .root))) }

/-- The steps from cycle 0 to the next character boundary of a port, less than the 80 ns of a character: which, no rule says (R365, R368;
DESIGN CHOICE, log 91). -/
def markOffset (s : State) (q : Nat) : Nat := (Config.openByte 6 (s.freeCtr + q)).toNat + 256 * ((Config.openByte 7 (s.freeCtr + q)).toNat % 8)

/-- The fleet port logic at the start of a frame: counts, then a marker or tick on every port. -/
def fleetPorts (ins : List FleetIn) (s : State) : State :=
  let hit := match s.fleet.parent with | some q => (s.fl q).gotMark | none => true
  let rooted := match s.fleet.parent with | some q => (s.fl q).gotMark && (s.fl q).rooted | none => false
  (s.modFleet fun f => { f with
    missed := if hit then 0 else f.missed + 1
    islFor := if rooted then 0 else f.islFor + 1
    ports := (List.range 3).map fun q => ((f.ports.getD q {}).count (ins.getD q ⟨false, 0⟩)).signal f s.frame (markOffset s q) q }).drawn 3

/-- The discipline loop and the length of the frame (R104 to R106, R384, R386). The correction is saturated where a frame asks for a cycle or
more (R106). A unit in JOINING with a rate from an earlier membership goes on applying it (DESIGN CHOICE, log 71). -/
def discipline (s : State) : State :=
  let f := s.fleet
  let r := s.jobs.frm
  if f.st = .root then s.modFrm fun m => { m with len := 4000, satRun := 0, satTold := false }
  else
    let lim : Int := 1073741824
    let run := f.st = .member && f.offNew && !f.slewing && absN f.offset < 64
    let rate := if run then clampI (-lim) lim (r.rate + parI s gFLE 3 FLE.DISC_KI * f.offset * 256) else r.rate
    let want := rate + (if run then parI s gFLE 3 FLE.DISC_KP * f.offset * 256 else 0)
    let acc := if f.slewing then r.acc else r.acc + want
    let sat : Bool := f.slewing || decide (lim ≤ absN want) || decide (2 * lim ≤ absN acc)
    let len : Nat := if f.slewing then (if 0 < f.offset then 4001 else 3999) else if lim ≤ acc then 4001 else if acc ≤ -lim then 3999 else 4000
    let acc := if f.slewing then acc else if lim ≤ acc then acc - lim else if acc ≤ -lim then acc + lim else acc
    let near := f.st = .member && f.offNew && absN f.offset < 256
    let s := s.modFrm fun m => { m with rate := rate, acc := acc, len := len, satRun := if sat then m.satRun + 1 else 0, satTold := m.satTold && sat }
    s.modFleet fun f => { f with
      offNew := false
      alignRun := if near then f.alignRun + 1 else 0
      aligned := f.aligned && !(f.offNew && 512 < absN f.offset)
      slewing := f.slewing && !(f.offNew && absN f.offset < 64) }

/-- Gathered events and lost counts go to the parent while the window is open (R398). -/
def drainEvents : Nat → State → State
  | 0, s => s
  | k + 1, s =>
    match s.fleet.parent, s.fleet.evUp with
    | some q, (u, e) :: l =>
      let p := s.fl q
      if s.fleet.st = .member && openPort s q && p.wait.isEmpty && p.unacked.length < 8 then
        drainEvents k (((s.modFleet fun f => { f with evUp := l }).modFl q fun p => p.give 5 { mkFrame s q Eli.EVENT 1 0xFFFF e with src := u }).drawn 1)
      else s
    | _, _ => s

/-- EVENTS_LOST for each unit with a count, as soon as the queue has room (R398). -/
def drainLost (s : State) : State :=
  match s.fleet.parent with
  | some q =>
    if s.fleet.st = .member && openPort s q && s.fleet.evUp.length < 32 then
      s.fleet.evDrop.foldl (fun s d => (s.modFl q fun p => p.give 5 { mkFrame s q Eli.EVENTS_LOST 1 0xFFFF (leBytes 4 d.2) with src := d.1 }).drawn 1)
        (s.modFleet fun f => { f with evDrop := [] })
    else s
  | none => s

/-- SNAP_REQs whose frame has passed are answered with the unit's record; one of a frame the unit never captured is dropped (R396). -/
def answerSnaps (s : State) : State :=
  let due := s.fleet.snapReqs.filter fun r => r.1 < s.frame
  due.foldl (fun s r => match assocGet s.fleet.snaps r.1 with | some b => snapGive r.1 r.2 b s | none => s)
    (s.modFleet fun f => { f with snapReqs := f.snapReqs.filter fun r => !decide (r.1 < s.frame) })

/-- A version-2 member that has had no SHARES since it joined uses JOIN_SHARE in both directions (R402). -/
def joinShares (s : State) : State :=
  if s.fleet.st = .member && !s.fleet.shared && 2 ≤ unitVer s then
    s.modSched fun c => { c with siteChg := fle s FLE.JOIN_SHARE, siteDis := fle s FLE.JOIN_SHARE }
  else s

/-- A check of the neighbour ends with a result; a failure is reported where it blocks the port (R377, R408). -/
def fleetAuthEnd (q res : Nat) (s : State) : State :=
  let s := s.modFl q fun p => { p with auth := none, authRes := some res, authAge := 0 }
  if res ≠ 0 && fle s FLE.AUTH_MODE = 2 then fleetTell 8 s else s

/-- The next chunk of the neighbour's certificate is asked for (R357). -/
def fleetCertAsk (q off : Nat) (s : State) : State := hopSend q Eli.AUTH_CERT_GET (leBytes 2 off ++ [64, 0]) s

/-- A check of the neighbour begins; a link at version 1 fails it (R377). -/
def fleetAuthStart (q : Nat) (s : State) : State :=
  if (s.fl q).ver < 2 then fleetAuthEnd q 4 s
  else fleetCertAsk q 0 (s.modFl q fun p => { p with auth := some ⟨1, [], 0, [], 0, none⟩ })

/-- A check that AUTH_MODE asks for and that has not run on a link that is up begins: a stitch may have set the mode since (R377). -/
def authStep (s : State) : State :=
  (List.range 3).foldl (fun s q =>
    let p := s.fl q
    let wanted := fle s FLE.AUTH_MODE = 2 || (fle s FLE.AUTH_MODE = 1 && s.fleet.st = .member && isParent s q)
    if p.up && p.ver ≠ 0 && p.auth.isNone && p.authRes.isNone && wanted then fleetAuthStart q s else s) s

/-- The upstream queue takes what has come since the frame before, source by source (R398). -/
def fillEvents (s : State) : State := s.modFleet fun f => f.fillUp f.evIn.length

/-- S4 of the fleet job (R375). -/
def fleetS4 (s : State) : State :=
  let s := s.modFleet fun f => { f with
    inState := f.inState + 1, annAge := f.annAge + 1, joinAge := f.joinAge.map (· + 1), needAge := f.needAge + 1, annSent := f.annSent + 1
    delayAge := f.delayAge + 1, bars := f.bars.map fun b => (b.1, b.2.1, b.2.2.1 + 1, b.2.2.2)
    snap := f.snap.map fun g => { g with age := if g.frame < s.frame then g.age + 1 else g.age } }
  barrierStep (answerSnaps (drainLost (drainEvents 8 (fillEvents (flushInner (joinShares (authStep (discipline s))))))))

/-! Links (R366, R375). -/

/-- HELLO of this unit (R372, R376). -/
def helloPay (s : State) : List Byte :=
  [byte 1, byte (fle s FLE.VER_MAX), byte (fle s FLE.PRIO),
   byte (1 + 2 * b2n (fle s FLE.AUTH_MODE = 2) + 4 * b2n (!s.ident.big))] ++ leBytes 8 s.ident.serial ++
  leBytes 2 (fle s FLE.ADDR_PREF) ++ [0, 0]

/-- FLEET_LINK_UP (R366, R375): HELLO on the port; out of LINKDOWN the unit joins. The numbering of frames starts anew (DESIGN CHOICE, log 26). -/
def execFleetLinkUp (q : Nat) (s : State) : Out :=
  let p := s.fl q
  .next (if q < 3 && !p.up && 100 ≤ p.upRun then
    let s := s.modFl q fun p => ({ up := true, upRun := p.upRun, aligned := p.aligned, viol := p.viol, got := p.got, gotMark := p.gotMark
                                   mark := p.mark, tick := p.tick, crcErr := p.crcErr, resends := p.resends } : FlPort)
    let s := if s.fleet.st = .linkdown then fleetJoining 1 s else s
    hopSend q Eli.HELLO (helloPay s) s
  else s)

/-- What the root announces follows its members (R372, R403). -/
def rootCount (s : State) : State :=
  s.modFleet fun f => { f with
    units := f.members.length
    fdepth := f.members.foldl (fun a m => max a m.2.2.2) 0
    fver := f.members.foldl (fun a m => min a m.2.2.1) 2 }

/-- FLEET_LINK_DOWN (R366, R375): units reached through the port are gone; with every link down, LINKDOWN. -/
def execFleetLinkDown (q : Nat) (s : State) : Out :=
  let p := s.fl q
  .next (if q < 3 && p.up && (3 ≤ p.silent || 16 ≤ p.viol) then
    let s := s.modFl q fun p => ({ aligned := p.aligned, viol := p.viol, silent := p.silent, mark := p.mark, tick := p.tick, crcErr := p.crcErr, resends := p.resends } : FlPort)
    let gone := (s.fleet.routes.filter fun r => r.2 = q).map (·.1)
    let s := s.modFleet fun f => { f with
      routes := f.routes.filter fun r => r.2 ≠ q
      members := f.members.filter fun m => !gone.contains m.1
      needs := f.needs.filter fun n => !gone.contains n.1 }
    let s := if s.fleet.st = .root then rootCount s else s
    let s := if (List.range 3).all fun k => !(s.fl k).up then
        cancelCritical (fleetEnter .linkdown 1 (s.modFleet fun f => { f with parent := none, aligned := false, alignRun := 0, slewing := false, cut := false }))
      else if s.fleet.st = .joining && isParent s q then followRoot s else s
    barrierStep s
  else s)

/-! Markers and ticks (R368, R370, R383). -/

/-- An ACK byte releases the frames up to the one it names, and those that wait go out (R370). -/
def FlPort.acked (p : FlPort) (ack : Nat) : FlPort :=
  match (p.unacked.map (·.lseq)).findIdx? (· = ack) with
  | some k => FlPort.pump 8 { p with unacked := p.unacked.drop (k + 1), ackAge := 0 }
  | none => p

/-- FLEET_MARKER (R368, R370, R383, R387): a neighbour that sends markers does not take this unit for its parent (R407). -/
def execFleetMarker (q : Nat) (m : Marker) (s : State) : Out :=
  .next (if !(q < 3 && s.clocked) then s else
    let s := s.modFl q fun p => { p.acked m.ack with got := true, gotMark := true, silent := 0, joined := false, cut := bit m.flags 0, rooted := bit m.flags 1 }
    let st := s.fleet.st
    if isParent s q && (st == .joining || st == .member || st == .islanded) then
      let o := ((m.frame : Int) - s.frame) * 256000 + (m.tArr - m.offset - (s.fl q).hop)
      let cut := st == .member && bit m.flags 0
      let newly := cut && !s.fleet.cut
      let s := alignStep (s.modFleet fun f => { f with offset := o, offNew := true, offKnown := true, cut := cut })
      if newly then cancelCritical s else s
    else s)

/-- FLEET_TICK (R368, R370); with AUTH_MODE 1 a child that has joined is checked (R377). -/
def execFleetTick (q ack flags : Nat) (s : State) : Out :=
  .next (if !(q < 3 && s.clocked) then s else
    let s := s.modFl q fun p => { p.acked ack with got := true, silent := 0, joined := bit flags 0 }
    let p := s.fl q
    if fle s FLE.AUTH_MODE = 1 && p.up && p.joined && p.ver ≠ 0 && p.auth.isNone && p.authRes.isNone then fleetAuthStart q s else s)

/-- FLEET_FRAME_DISCARDED (R369, R370). -/
def execFleetFrameDiscarded (q : Nat) (s : State) : Out :=
  .next (if q < 3 && (s.fl q).up then s.modFl q fun p => { p with crcErr := incSat 32 p.crcErr } else s)

/-- LSEQ_RESEND (R370): from the first unacknowledged frame. -/
def execLseqResend (q : Nat) (s : State) : Out :=
  let p := s.fl q
  .next (if q < 3 && p.up && !p.unacked.isEmpty && 2 ≤ p.ackAge then
    s.modFl q fun p => { p with sent := p.sent ++ p.unacked.map FFrame.wire, ackAge := 0, resends := satN 0xFFFFFFFF (p.resends + p.unacked.length) }
  else s)

/-! HELLO and authentication (R376, R377). -/

/-- ELIVO_HELLO (R376, R377). -/
def execElivoHello (q : Nat) (f : FHdr) (pl : List Byte) (s : State) : Out :=
  .next (hopIn q Eli.HELLO f (fun s =>
    let lo := fld pl 0 1
    let hi := fld pl 1 1
    let top := fle s FLE.VER_MAX
    let v := if 2 ≤ top && lo ≤ 2 && 2 ≤ hi then 2 else if lo ≤ 1 && 1 ≤ hi then 1 else 0
    let s := s.modFl q fun p => { p with hello := some (lo, hi, fld pl 2 1, fld pl 3 1, fld pl 4 8, fld pl 12 2), ver := v, noVer := v = 0, auth := none, authRes := none }
    if fle s FLE.AUTH_MODE = 2 && v ≠ 0 then fleetAuthStart q s else s) s)

/-- FLEET_AUTH_CERT_GET (R357, R377). -/
def execFleetAuthCertGet (q : Nat) (f : FHdr) (pl : List Byte) (s : State) : Out :=
  .next (hopIn q Eli.AUTH_CERT_GET f (fun s =>
    let off := fld pl 0 2
    let n := fld pl 2 1
    if 2 ≤ (s.fl q).ver && 1 ≤ n && n ≤ 64 then
      hopSend q Eli.AUTH_CERT (leBytes 2 off ++ leBytes 2 s.cert.length ++ (s.cert.drop off).take n) s
    else s) s)

/-- FLEET_AUTH_CERT (R357, R377). -/
def execFleetAuthCert (q : Nat) (f : FHdr) (pl : List Byte) (s : State) : Out :=
  .next (hopIn q Eli.AUTH_CERT f (fun s =>
    match (s.fl q).auth with
    | some a =>
      let off := fld pl 0 2
      let total := fld pl 2 2
      let more := pl.drop 4
      if a.step ≠ 1 then s
      else if 1024 < total || off ≠ a.bytes.length || more.isEmpty then fleetAuthEnd q 1 s
      else
        let bs := a.bytes ++ more
        if bs.length < total then fleetCertAsk q bs.length (s.modFl q fun p => { p with auth := some { a with bytes := bs, total := total } })
        else
          let nonce := (List.range 32).map fun k => Config.randomByte (s.freeCtr + k)
          hopSend q Eli.AUTH_CHALLENGE nonce ((s.drawn 32).modFl q fun p => { p with auth := some { a with bytes := bs.take total, total := total, step := 2, nonce := nonce } })
    | none => s) s)

/-- FLEET_AUTH_CHALLENGE (R377): a signature over the nonce and the unit's SERIAL. -/
def execFleetAuthChallenge (q : Nat) (f : FHdr) (pl : List Byte) (s : State) : Out :=
  .next (hopIn q Eli.AUTH_CHALLENGE f (fun s =>
    if 2 ≤ (s.fl q).ver && 32 ≤ pl.length then
      hopSend q Eli.AUTH_SIGN (ecdsaSign s.ident.priv (Config.sigNonce s.freeCtr) (sha256 (pl.take 32 ++ leBytes 8 s.ident.serial))) (s.drawn 1)
    else s) s)

/-- FLEET_AUTH_SIGN (R357, R358, R377). -/
def execFleetAuthSign (q : Nat) (f : FHdr) (pl : List Byte) (s : State) : Out :=
  .next (hopIn q Eli.AUTH_SIGN f (fun s =>
    match (s.fl q).auth with
    | some a =>
      if a.step ≠ 2 then s else
      (match certCheck (keyAt s (fle s FLE.AUTH_KEY)) a.bytes with
      | none => fleetAuthEnd q 1 s
      | some c => fleetAuthEnd q (if ecdsaVerify c.key (sha256 (a.nonce ++ leBytes 8 c.serial)) (pl.take 64) then 0 else 2) s)
    | none => s) s)

/-- FLEET_AUTH_RECHECK (R377). -/
def execFleetAuthRecheck (q : Nat) (s : State) : Out :=
  let p := s.fl q
  let bad := match p.authRes with | some r => r ≠ 0 | none => false
  .next (if q < 3 && p.up && p.auth.isNone && bad && fle s FLE.AUTH_MODE = 2 && 100000 ≤ p.authAge then fleetAuthStart q s else s)

/-- FLEET_AUTH_TIMEOUT (R377). -/
def execFleetAuthTimeout (q : Nat) (s : State) : Out :=
  .next (match (s.fl q).auth with
  | some a => if q < 3 && 200000 ≤ a.age then fleetAuthEnd q 3 s else s
  | none => s)

/-! Root election and joining (R373 to R381, R402). -/

/-- ANNOUNCE (R373, R375, R380, R381). -/
def execAnnounce (q : Nat) (f : FHdr) (pl : List Byte) (s : State) : Out :=
  .next (hopIn q Eli.ANNOUNCE f (fun s =>
    let r := (fld pl 0 1, fld pl 2 8)
    let s := s.modFl q fun p => { p with
      ann := some (r.1, r.2, fld pl 10 1, fld pl 11 1, fld pl 12 1, fld pl 14 2), loop := p.loop && decide (r = bestRoot s) }
    if annRoot s q ≠ some r then s else
    match s.fleet.st with
    | .joining => followRoot (if better r (ownPair s) then s.modFleet fun t => { t with annAge := 0 } else s)
    | .root => if better r (ownPair s) then followRoot (fleetJoining 3 (cancelCritical s)) else s
    | .member =>
      if better r (bestRoot s) || (isParent s q && r ≠ bestRoot s) then followRoot (fleetJoining 3 (cancelCritical s))
      else if r = bestRoot s then
        let was := s.fleet.parent
        let s := takeParent r s
        if s.fleet.parent ≠ was then sendJoin s else s
      else s
    | .islanded => if better r (bestRoot s) then announceAll (s.modFleet fun t => { t with best := some r }) else s
    | .linkdown => s) s)

/-- The lowest address that no member holds. -/
def freeAddr (ms : List (Nat × Nat × Nat × Nat)) : Nat := ((List.range 1024).find? fun a => ms.all fun m => m.1 ≠ a).getD 0xFFFF

/-- JOIN_ACK to a unit on a port (R372). -/
def sendJoinAck (q serial addr status : Nat) (s : State) : State :=
  flSend q 0 Eli.JOIN_ACK 3 0xFFFE (leBytes 8 serial ++ leBytes 2 addr ++ [byte status, 0]) s

/-- The root gives a joining unit its address (R374, R378): its preference when free, or held by a unit of higher SERIAL that has offered the
same, which then is given another; else the lowest free one. -/
def assign (q : Nat) (pl : List Byte) (s : State) : State :=
  let serial := fld pl 0 8
  let pref := fld pl 8 2
  let depth := fld pl 10 1
  let ver := fld pl 11 1
  let others := s.fleet.members.filter fun m => m.2.1 ≠ serial
  let s := s.modFleet fun f => { f with joinFrom := assocSet f.joinFrom serial q, offered := assocSet f.offered serial pref }
  if 63 < depth then sendJoinAck q serial 0xFFFF 2 s
  else if 1024 ≤ others.length then sendJoinAck q serial 0xFFFF 1 s
  else
    let holder := others.find? fun m => m.1 = pref
    let yields := match holder with | some h => decide (serial < h.2.1) && h.1 ≠ s.fleet.addr && assocGet s.fleet.offered h.2.1 == some pref | none => true
    let addr := if pref < 1024 && yields then pref else freeAddr others
    let moved := if pref < 1024 && yields then holder else none
    let others := match moved with
      | some h => (others.filter fun m => m.1 ≠ pref) ++ [(freeAddr ((addr, 0, 0, 0) :: others), h.2.1, h.2.2.1, h.2.2.2)]
      | none => others
    let s := rootCount (s.modFleet fun f => { f with members := others ++ [(addr, serial, ver, depth)], routes := assocSet f.routes addr q })
    let s := sendJoinAck q serial addr 0 s
    match moved with
    | some h =>
      let a := freeAddr ((addr, 0, 0, 0) :: others.filter fun m => m.2.1 ≠ h.2.1)
      let k := (assocGet s.fleet.joinFrom h.2.1).getD q
      sendJoinAck k h.2.1 a 0 (s.modFleet fun f => { f with
        members := f.members.map fun m => if m.2.1 = h.2.1 then (a, m.2.1, m.2.2.1, m.2.2.2) else m
        routes := assocSet f.routes a k })
    | none => s

/-- A frame of ROUTE 1 from a child: the root acts on it, any other unit passes it up (R371). -/
def upIn (q typ : Nat) (f : FHdr) (pl : List Byte) (act : State → State) (s : State) : State :=
  wayIn q typ f (fun s => if isParent s q || f.route ≠ 1 then s else if s.fleet.st = .root then act s else fwdUp (frameOf f typ pl) s) s

/-- A frame of ROUTE 3: its target acts on it, any other unit passes it on (R371). -/
def toIn (q typ : Nat) (f : FHdr) (pl : List Byte) (act : State → State) (s : State) : State :=
  wayIn q typ f (fun s => if f.route ≠ 3 then s else if f.dst = s.fleet.addr then act s else fwdTo q (frameOf f typ pl) s) s

/-- JOIN_REQ (R371, R374, R378). -/
def execJoinReq (q : Nat) (f : FHdr) (pl : List Byte) (s : State) : Out :=
  .next (wayIn q Eli.JOIN_REQ f (fun s =>
    if isParent s q || f.route ≠ 1 then s
    else if s.fleet.st = .root then assign q pl s
    else fwdUp (frameOf f Eli.JOIN_REQ pl) (s.modFleet fun t => { t with joinFrom := assocSet t.joinFrom (fld pl 0 8) q })) s)

/-- The answer to this unit's JOIN_REQ (R374, R375, R378, R402). -/
def joined (pl : List Byte) (s : State) : State :=
  let addr := fld pl 8 2
  let status := fld pl 10 1
  if status = 0 then
    let pref := addrPref s
    let v2 := 2 ≤ unitVer s
    let share := if v2 then fle s FLE.JOIN_SHARE else 0xFFFFFFFF
    let was := s.fleet.st
    let s := s.modFleet fun f => { f with addr := addr, joinAge := none }
    let s := if was = .joining then
        fleetMember 2 (s.modSched fun c => { c with siteChg := share, siteDis := share })
      else barrierTell s
    let s := if pref ≠ 0xFFFF && pref ≠ addr then s.raise Ev.ADDR_CONFLICT (pref * 2 ^ 16 + addr) else s
    match s.fleet.parent with
    | some q => if fle s FLE.AUTH_MODE = 1 && was = .joining && (s.fl q).auth.isNone then fleetAuthStart q s else s
    | none => s
  else if s.fleet.st = .joining then fleetTell (if status = 3 then 8 else 7) s
  else s

/-- JOIN_ACK (R371, R374, R375, R378): at its target the unit joins; on its way it builds the route table. -/
def execJoinAck (q : Nat) (f : FHdr) (pl : List Byte) (s : State) : Out :=
  .next (wayIn q Eli.JOIN_ACK f (fun s =>
    let serial := fld pl 0 8
    if !isParent s q || f.route ≠ 3 then s
    else if serial = s.ident.serial then (if s.fleet.st = .joining || s.fleet.st = .member then joined pl s else s)
    else match assocGet s.fleet.joinFrom serial with
      | some k =>
        let s := if fld pl 10 1 = 0 then s.modFleet fun t => { t with routes := assocSet t.routes (fld pl 8 2) k } else s
        s.modFl k fun p => p.give 0 (frameOf f Eli.JOIN_ACK pl)
      | none => s) s)

/-- ROOT_ELECTION_TIMEOUT (R375, R378, R381). -/
def execRootElectionTimeout (s : State) : Out :=
  .next (if s.fleet.st = .joining && 3000 ≤ s.fleet.annAge then
    let a := fle s FLE.ADDR_PREF
    let addr := if a = 0xFFFF then 0 else a
    let s := fleetEnter .root 3 (s.modFleet fun f => { f with
      addr := addr, parent := none, best := none, depth := 0, rootSer := s.ident.serial, joinAge := none, routes := [], offered := [], joinFrom := [], needs := []
      members := [(addr, s.ident.serial, fle s FLE.VER_MAX, 0)] })
    barrierTell (announceAll (rootCount (s.modFrm fun m => { m with rate := 0, acc := 0 })))
  else s)

/-- JOIN_REQ_RETRY (R374, R375). -/
def execJoinReqRetry (s : State) : Out :=
  let due := match s.fleet.joinAge with | some k => decide (100000 ≤ k) | none => false
  .next (if s.fleet.st = .joining && due then sendJoin s else s)

/-- MARKERS_LOST (R375, R387). -/
def execMarkersLost (s : State) : Out :=
  .next (if s.fleet.st = .member && 3 ≤ s.fleet.missed then fleetIsland 4 s else s)

/-- ISLAND_REJOIN (R375, R386). -/
def execIslandRejoin (s : State) : Out :=
  .next (match s.fleet.parent with
  | some q => if s.fleet.st = .islanded && 16 ≤ (s.fl q).rootedRun then fleetMember 6 s else s
  | none => s)

/-- ELECT_WAIT_EXPIRY (R375, R388). -/
def execElectWaitExpiry (s : State) : Out :=
  .next (if s.fleet.st = .islanded && fle s FLE.ELECT_WAIT ≤ s.fleet.islFor then
    fleetJoining 3 (s.modFleet fun f => { f with ports := f.ports.map fun p => { p with ann := none } }) else s)

/-- ANNOUNCE_PERIOD (R380). -/
def execAnnouncePeriod (s : State) : Out :=
  .next (if s.fleet.st ≠ .linkdown && 1000 ≤ s.fleet.annSent then announceAll s else s)

/-! Delay and alignment (R382, R384). -/

/-- DELAY_PERIOD (R382): DELAY_REQ to the parent, sent at T1. -/
def execDelayPeriod (t1 : Nat) (s : State) : Out :=
  .next (match s.fleet.parent with
  | some q =>
    if s.fleet.st = .member && fle s FLE.DELAY_PERIOD ≤ s.fleet.delayAge then
      hopSend q Eli.DELAY_REQ (leBytes 8 t1) ((s.modFleet fun f => { f with delayAge := 0 }).modFl q fun p => { p with t1 := some t1 })
    else s
  | none => s)

/-- DELAY_REQ (R382): answered with T2 and T3. -/
def execDelayReq (q : Nat) (f : FHdr) (_pl : List Byte) (t2 t3 : Nat) (s : State) : Out :=
  .next (hopIn q Eli.DELAY_REQ f (fun s => hopSend q Eli.DELAY_RESP (leBytes 8 t2 ++ leBytes 8 t3) s) s)

/-- The mean of a list of hop delays. -/
def meanHop (l : List Int) : Int := divR (sumOf id l) l.length

/-- DELAY_RESP (R382): a value within 2 ns (51.2 steps) of the mean joins it. -/
def execDelayResp (q : Nat) (f : FHdr) (pl : List Byte) (t4 : Nat) (s : State) : Out :=
  .next (hopIn q Eli.DELAY_RESP f (fun s =>
    match (s.fl q).t1 with
    | some t1 =>
      let d := divR (((t4 : Int) - t1) - ((fld pl 8 8 : Nat) - (fld pl 0 8 : Nat))) 2
      let p := s.fl q
      let far := p.hops ≠ [] && 512 < 10 * absN (d - meanHop p.hops)
      let hops := if far then p.hops else (d :: p.hops).take 16
      s.modFl q fun p => { p with t1 := none, hops := hops, hop := if far then p.hop else (meanHop hops).toNat }
    | none => s) s)

/-- ALIGNED_SET (R384). -/
def execAlignedSet (s : State) : Out :=
  .next (if s.fleet.st = .member && !s.fleet.aligned && 1000 ≤ s.fleet.alignRun then s.modFleet fun f => { f with aligned := true } else s)

/-! Broadcasts and repair (R370, R371). -/

/-- A broadcast from the parent: taken once, kept, passed to the children; a unit that is still joining passes it on only (R371). A gap in BSEQ asks for REPAIR, and one beyond the 32 that the
parent keeps sends the unit back to JOINING, cause 9 (R370). -/
def bcastIn (q : Nat) (f : FFrame) (act : State → State) (s : State) : State :=
  if !isParent s q then s
  else if s.fleet.st = .joining then fwdDown f (s.modFleet fun t => { t with kept := (f :: t.kept).take 32 })
  else if s.fleet.st ≠ .member && s.fleet.st ≠ .islanded then s else
  let b := f.dst
  let t := s.fleet
  let n := (b + 65536 - t.bseq) % 65536
  let take (s : State) : State := act (fwdDown f (s.modFleet fun t => { t with kept := (f :: t.kept).take 32 }))
  if t.gaps.contains b then take (s.modFleet fun t => { t with gaps := t.gaps.filter (· ≠ b) })
  else if !t.bseen then take (s.modFleet fun t => { t with bseen := true, bseq := b })
  else if n = 0 || 32768 ≤ n then s
  else
    let missing := (List.range (min (n - 1) 32)).map fun k => (t.bseq + 1 + k) % 65536
    let gaps := t.gaps ++ missing
    let s := s.modFleet fun t => { t with bseq := b, gaps := gaps }
    let s := missing.foldl (fun s m => flSend q 1 Eli.REPAIR 0 0xFFFF (leBytes 2 m) s) s
    let s := take s
    if 32 < n || gaps.any fun g => 32 ≤ (b + 65536 - g) % 65536 then fleetJoining 9 (cancelCritical s) else s

/-- A frame that travels up to the root, which broadcasts it (R391, R392); every unit acts on the broadcast. -/
def roundIn (q typ : Nat) (f : FHdr) (pl : List Byte) (act : State → State) (s : State) : State :=
  let r := flTake q typ f s
  let s := r.2
  if !r.1 then s
  else if f.route = 2 then bcastIn q (frameOf f typ pl) act s
  else if f.route = 1 && !isParent s q then
    (if s.fleet.st = .root then act (broadcast typ f.src pl s) else fwdUp (frameOf f typ pl) s)
  else s

/-- A frame of this unit that every unit is to act on: up to the root, or broadcast by the root itself (R371, R391). -/
def originate (typ : Nat) (pay : List Byte) (act : State → State) (s : State) : State :=
  if s.fleet.st = .root then act (broadcast typ s.fleet.addr pay s) else sendUp typ pay s

/-- REPAIR (R370): the broadcast named is resent to the child that misses it. -/
def execRepair (q : Nat) (f : FHdr) (pl : List Byte) (s : State) : Out :=
  .next (hopIn q Eli.REPAIR f (fun s =>
    match s.fleet.kept.find? fun k => k.dst = fld pl 0 2 with
    | some k => s.modFl q fun p => p.give 0 k
    | none => s) s)

/-- FLEET_LAUNCH (R391). -/
def execFleetLaunch (q : Nat) (f : FHdr) (pl : List Byte) (s : State) : Out := .next (roundIn q Eli.LAUNCH f pl (takeLaunch pl) s)

/-- FLEET_LAUNCH_CANCEL (R392). -/
def execFleetLaunchCancel (q : Nat) (f : FHdr) (pl : List Byte) (s : State) : Out := .next (roundIn q Eli.LAUNCH_CANCEL f pl (takeCancel pl) s)

/-- FLEET_RESET (R394): forwarded, and the unit resets on the following frame. -/
def execFleetReset (q : Nat) (f : FHdr) (s : State) : Out :=
  .next (roundIn q Eli.RESET f [] (fun s => s.modCtl fun c => { c with resetReq := some 4 }) s)

/-- FLEET_UNKNOWN_FRAME (R371, R403): forwarded by its ROUTE unchanged; a hop frame is discarded. -/
def execFleetUnknownFrame (q typ : Nat) (f : FHdr) (pl : List Byte) (s : State) : Out :=
  .next (
    let r := flTake q typ f s
    let s := r.2
    if !r.1 then s
    else match f.route with
    | 1 => if isParent s q then s else fwdUp (frameOf f typ pl) s
    | 2 => bcastIn q (frameOf f typ pl) (fun s => s) s
    | 3 => if f.dst = s.fleet.addr then s else fwdTo q (frameOf f typ pl) s
    | _ => s)

/-! Barriers (R395). -/

/-- BARRIER_UP (R395): the child's combination. -/
def execBarrierUp (q : Nat) (f : FHdr) (pl : List Byte) (s : State) : Out :=
  .next (wayIn q Eli.BARRIER_UP f (fun s =>
    if isParent s q then s else
    let h := fld pl 0 1
    barrierStep (s.modFl q fun p => { p with barHeld := bit h 0, barLvl := if bit h 1 then none else some (fld pl 2 2) })) s)

/-- BARRIER_RELEASE (R395). -/
def execBarrierRelease (q : Nat) (f : FHdr) (pl : List Byte) (s : State) : Out :=
  .next (
    let r := flTake q Eli.BARRIER_RELEASE f s
    if r.1 && f.route = 2 then bcastIn q (frameOf f Eli.BARRIER_RELEASE pl) (fun s => barrierStep (releaseBars (fld pl 0 2) s)) r.2 else r.2)

/-- FLEET_BARRIER_TIMEOUT (R395). -/
def execFleetBarrierTimeout (opnum : Nat) (s : State) : Out :=
  .next (if s.fleet.bars.any fun b => b.2.1 = opnum && b.2.2.2 ≤ b.2.2.1 then
    let s := s.modFleet fun f => { f with bars := f.bars.filter fun b => b.2.1 ≠ opnum }
    barrierStep (if (s.opRun 0x72 opnum).isSome then s.endOp 0x72 opnum St.INTERNAL else s)
  else s)

/-! Commands (R393). -/

/-- The reply that an absent target yields: OUT_OF_RANGE, DETAIL 0, under the inner packet's tag (R393). -/
def absentReply (inner : List Byte) : List Byte :=
  Reply.bytes { tag := some (fld inner 1 1), status := St.OUT_OF_RANGE, pay := [0, 0], ready := 0, owns := false, can := none, since := 0 }

/-- An addressed CMD goes on towards its target on the port that leads there; at the end of the way the target is absent (R393). -/
def cmdOnward (way : Option Nat) (f : FFrame) (s : State) : State :=
  match way with
  | some q => s.modFl q fun p => p.give (upPrio f.typ) f
  | none => answerOrigin (fld f.pay 0 2) (fld f.pay 2 2) false (absentReply (f.pay.drop 6)) s

/-- A CMD frame arrives: run is the handling of its inner packet at a target (R393). -/
def cmdIn (q : Nat) (f : FHdr) (pl : List Byte) (run : State → State) (s : State) : State :=
  let r := flTake q Eli.CMD f s
  let s := r.2
  if !r.1 then s
  else match f.route with
  | 1 => if isParent s q then s else if s.fleet.st = .root then run (broadcast Eli.CMD f.src pl s) else fwdUp (frameOf f Eli.CMD pl) s
  | 2 => bcastIn q (frameOf f Eli.CMD pl) run s
  | 3 => if f.dst = s.fleet.addr then run s else cmdOnward (onwardPort s q f.dst) (frameOf f Eli.CMD pl) s
  | _ => s

/-- CMD_REPLY (R393). -/
def execCmdReply (q : Nat) (f : FHdr) (pl : List Byte) (s : State) : Out :=
  .next (toIn q Eli.CMD_REPLY f pl (cmdReplied (fld pl 0 2) (pl.drop 2)) s)

/-- CMD_STATUS (R393). -/
def execCmdStatus (q : Nat) (f : FHdr) (pl : List Byte) (s : State) : Out :=
  .next (toIn q Eli.CMD_STATUS f pl (cmdStatused (fld pl 0 2) f.src (fld pl 2 1)) s)

/-- FLEET_CMD_MEMBER_TIMEOUT (R393): after 1 s a member without an answer is listed with INTERNAL. -/
def execFleetCmdMemberTimeout (opnum unit : Nat) (s : State) : Out :=
  .next (match s.opRun 0x70 opnum with
  | some o =>
    let known := unit < 1024 && (s.fleet.st ≠ .root || s.fleet.members.any fun m => m.1 = unit)
    if o.args.getD 1 0 = 0xFFFF && 100000 ≤ s.age - o.since && known && (listedUnits o.data).length < s.fleet.units then
      cmdStatused (o.args.getD 0 0) unit St.INTERNAL s
    else s
  | none => s)

/-- FLEET_CMD_COMPLETE (R393): the reply of the one target, or every member's status, is the result. -/
def execFleetCmdComplete (opnum : Nat) (s : State) : Out :=
  .next (match s.opRun 0x70 opnum with
  | some o =>
    let l := listedUnits o.data
    if o.args.getD 1 0 = 0xFFFF then
      (if s.fleet.units ≤ l.length then (s.keepResult 0x70 opnum (leBytes 2 l.length ++ o.data)).endOp 0x70 opnum St.OK else s)
    else if o.args.length = 3 then (s.keepResult 0x70 opnum o.data).endOp 0x70 opnum St.OK
    else s
  | none => s)

/-! Snapshots (R396). -/

/-- SNAP_REQ (R396). -/
def execSnapReq (q : Nat) (f : FHdr) (pl : List Byte) (s : State) : Out :=
  .next (roundIn q Eli.SNAP_REQ f pl (fun s => s.modFleet fun t => { t with snapReqs := t.snapReqs ++ [(fld pl 0 8, f.src)] }) s)

/-- SNAP_RECORD (R396): it joins the window; while the window is full the record stays with its sender, unacknowledged. -/
def execSnapRecord (q : Nat) (f : FHdr) (pl : List Byte) (s : State) : Out :=
  let full := match s.fleet.snap with | some g => decide (snapRoom s.fleet ≤ g.recs.length) | none => false
  .next (if f.route = 3 && f.dst = s.fleet.addr && full then s
  else toIn q Eli.SNAP_RECORD f pl (fun s =>
    match s.fleet.snap with
    | some g => if g.frame = fld pl 4 8 then snapAdd (fld pl 2 2) pl s else s
    | none => s) s)

/-- SNAP_TIMEOUT (R396): a record that has not come is given with MISSING set. -/
def execSnapTimeout (opnum unit : Nat) (s : State) : Out :=
  .next (match s.fleet.snap with
  | some g =>
    let known := unit < 1024 && (s.fleet.st ≠ .root || s.fleet.members.any fun m => m.1 = unit)
    if g.num = opnum && fle s FLE.SNAP_TIMEOUT ≤ g.age && known && g.recs.length + g.gone.length < s.fleet.units then
      snapAdd unit (missingRecord s unit g.frame) (s.drawn 1)
    else s
  | none => s)

/-- FLEET_SNAPSHOT_COMPLETE (R396): every record has been gathered, or the window of 256 is full (DEDUCED, log 27); the records stay in
fleet snapshot staging. -/
def execFleetSnapshotComplete (opnum : Nat) (s : State) : Out :=
  .next (match s.opRun 0x71 opnum, s.fleet.snap with
  | some o, some g =>
    let want := if o.args.getD 0 0 = 0 then 1 else s.fleet.units
    if g.num = opnum && min want (max 1 (snapRoom s.fleet)) ≤ g.recs.length then (s.keepResult 0x71 opnum []).endOp 0x71 opnum St.OK else s
  | _, _ => s)

/-! Events (R398, R399). -/

/-- The root queues a gathered event as its pair, or drops the pair and counts it (R399). -/
def originPair (unit : Nat) (e : List Byte) (s : State) : State :=
  if 255 < ordinary s.host.events + 2 then s.modHost fun h => { h with lost := h.lost + 2 }
  else
    let s := s.raise Ev.FLEET_ORIGIN unit
    s.modHost fun h => h.queueEvent (fld e 0 2) (fld e 4 8) (fld e 12 4)

/-- FLEET_EVENT (R398, R399): at the root the pair is queued; any other unit keeps the entry for the turn of the port it came from. -/
def execFleetEvent (q : Nat) (f : FHdr) (pl : List Byte) (s : State) : Out :=
  .next (wayIn q Eli.EVENT f (fun s =>
    if isParent s q || f.route ≠ 1 then s
    else if s.fleet.st = .root then originPair f.src pl s
    else s.modFleet fun t => t.eventIn (q + 1) f.src pl) s)

/-- FLEET_EVENTS_LOST (R398, R399). -/
def execFleetEventsLost (q : Nat) (f : FHdr) (pl : List Byte) (s : State) : Out :=
  .next (upIn q Eli.EVENTS_LOST f pl (fun s => s.raise Ev.FLEET_EVENTS_LOST (satN 65535 (fld pl 0 4) * 2 ^ 16 + f.src)) s)

/-! The site power budget (R400 to R402). -/

/-- The need of this unit in W, charge and supply (R230). -/
def ownNeed (s : State) : Nat × Nat :=
  ((divR s.jobs.sched.needChg 1000).toNat, (divR s.jobs.sched.needDis 1000).toNat)

/-- The loop of R400 over the members (unit, need, PRIO) that still want: the spare power and the shares. Where no member wants, K is empty
at once and nothing is spare. -/
def shareLoop : Nat → Nat → List (Nat × Nat × Nat) → List (Nat × Nat) → Nat × List (Nat × Nat)
  | 0, rem, _, acc => (rem, acc)
  | n + 1, rem, us, acc =>
    let w (m : Nat × Nat × Nat) : Nat := m.2.1 * (1 + m.2.2)
    let total := us.foldl (fun a m => a + w m) 0
    let ks := us.filter fun m => m.2.1 * total ≤ rem * w m
    let left := us.filter fun m => !decide (m.2.1 * total ≤ rem * w m)
    let rem' := rem - ks.foldl (fun a m => a + m.2.1) 0
    let given := acc ++ ks.map fun m => (m.1, m.2.1)
    if ks.isEmpty then (0, acc ++ us.map fun m => (m.1, (divR (rem * w m : Nat) (total : Nat)).toNat))
    else if left.isEmpty then (rem', given)
    else shareLoop n rem' left given

/-- The shares of one direction: the budget (0xFFFFFFFF for none), the reserve of the version-1 members, the version-2 members (R400). -/
def shareOut (budget reserve : Nat) (ms : List (Nat × Nat × Nat)) : List (Nat × Nat) :=
  if budget = 0xFFFFFFFF then ms.map fun m => (m.1, 0xFFFFFFFF) else
  let r := shareLoop (ms.length + 1) (budget - reserve) (ms.filter fun m => 0 < m.2.1) []
  let total := ms.foldl (fun a m => a + (1 + m.2.2)) 0
  ms.map fun m => (m.1, (assocGet r.2 m.1).getD 0 + (if r.1 = 0 then 0 else (divR (r.1 * (1 + m.2.2) : Nat) (total : Nat)).toNat))

/-- A list cut into pieces of 100. -/
def pieces {α : Type} : Nat → List α → List (List α)
  | 0, _ => []
  | n + 1, l => if l.isEmpty then [] else l.take 100 :: pieces n (l.drop 100)

/-- The own entry of a SHARES frame is taken from whichever frame lists it; one that comes late takes effect on the frame after (R401). -/
def takeShares (pl : List Byte) (s : State) : State :=
  let n := fld pl 8 2
  let mine := (List.range n).find? fun k => fld pl (10 + 10 * k) 2 = s.fleet.addr
  match mine with
  | some k => if unitVer s < 2 then s else
      s.modFleet fun f => { f with shares := some (max (fld pl 0 8) (s.frame + 1), fld pl (12 + 10 * k) 4, fld pl (16 + 10 * k) 4) }
  | none => s

/-- A unit's entry in a SHARES frame (R372). What stands in that of a member at version 1, which none of its shares binds, no rule says
(R402; DESIGN CHOICE, log 115). -/
def shareEntry (s : State) (chg dis : List (Nat × Nat)) (u : Nat) : List Byte :=
  leBytes 2 u ++ match assocGet chg u, assocGet dis u with
    | some c, some d => leBytes 4 c ++ leBytes 4 d
    | _, _ => (List.range 8).map fun k => Config.openByte 9 (s.freeCtr + 8 * u + k)

/-- The root shares the site budget among the members at version 2 and broadcasts the shares; the frames list every member (R400, R401). -/
def sendShares (s : State) : State :=
  let ms := s.fleet.members.filter fun m => 2 ≤ m.2.2.1
  let v1 := s.fleet.members.length - ms.length
  let get (u : Nat) : Nat × Nat × Nat := (assocGet s.fleet.needs u).getD (0, 0, 0)
  let reserve := v1 * fle s FLE.V1_RESERVE
  let asc (l : List (Nat × Nat × Nat × Nat)) : List Nat := (l.foldl (fun l m => assocSet l m.1 ()) ([] : List (Nat × Unit))).map (·.1)
  let units := asc ms
  let chg := shareOut (fle s FLE.SITE_CHG_W) reserve (units.map fun u => (u, (get u).1, (get u).2.2))
  let dis := shareOut (fle s FLE.SITE_DIS_W) reserve (units.map fun u => (u, (get u).2.1, (get u).2.2))
  let ps := pieces 11 (asc s.fleet.members)
  let effect := s.frame + leadMin s + 10 * ps.length
  ps.foldl (fun s p =>
    let pay := leBytes 8 effect ++ leBytes 2 p.length ++ p.flatMap (shareEntry s chg dis)
    takeShares pay (broadcast Eli.SHARES s.fleet.addr pay s)) (s.modFleet fun f => { f with round := [] })

/-- The root records a need. -/
def noteNeed (unit chg dis prio : Nat) (s : State) : State :=
  s.modFleet fun f => { f with needs := assocSet f.needs unit (chg, dis, prio) }

/-- The other members at version 2, whose NEEDs a sharing waits for. -/
def v2Others (s : State) : List Nat := (s.fleet.members.filter fun m => 2 ≤ m.2.2.1 && m.1 ≠ s.fleet.addr).map (·.1)

/-- BUDGET_PERIOD (R400): a version-2 member sends NEED; the root counts its own need, and shares the budget where NEEDs have come that no
sharing has used, or no other member sends one (DESIGN CHOICE, log 28). -/
def execBudgetPeriod (s : State) : Out :=
  .next (if s.fleet.needAge < fle s FLE.BUDGET_PERIOD || unitVer s < 2 then s else
    let n := ownNeed s
    let prio := par s gSCH 48 SCH.SITE_PRIO
    let s0 := s.modFleet fun f => { f with needAge := 0 }
    match s.fleet.st with
    | .member => sendUp Eli.NEED (leBytes 4 n.1 ++ leBytes 4 n.2 ++ [byte prio, 0, 0, 0]) s0
    | .root =>
      let s1 := noteNeed s.fleet.addr n.1 n.2 prio s0
      if (v2Others s).isEmpty || !s.fleet.round.isEmpty then sendShares s1 else s1
    | _ => s)

/-- NEED (R400): passed up; the root shares the budget once every version-2 member's NEED has come since the last sharing (log 28). -/
def execNeed (q : Nat) (f : FHdr) (pl : List Byte) (s : State) : Out :=
  .next (upIn q Eli.NEED f pl (fun s =>
    if unitVer s < 2 then s else
    let n := ownNeed s
    let s := noteNeed f.src (fld pl 0 4) (fld pl 4 4) (fld pl 8 1) (noteNeed s.fleet.addr n.1 n.2 (par s gSCH 48 SCH.SITE_PRIO) s)
    let s := s.modFleet fun t => { t with round := if t.round.contains f.src then t.round else t.round ++ [f.src] }
    if (v2Others s).all fun u => s.fleet.round.contains u then sendShares s else s) s)

/-- SHARES (R401). -/
def execShares (q : Nat) (f : FHdr) (pl : List Byte) (s : State) : Out :=
  .next (
    let r := flTake q Eli.SHARES f s
    if r.1 && f.route = 2 then bcastIn q (frameOf f Eli.SHARES pl) (takeShares pl) r.2 else r.2)

/-- SHARES_EFFECT (R400, R401): in S4 of frame EFFECT, or of the frame after a late entry. -/
def execSharesEffect (s : State) : Out :=
  .next (match s.fleet.shares with
  | some (e, chg, dis) =>
    if e ≤ s.frame then (s.modSched fun c => { c with siteChg := chg, siteDis := dis }).modFleet fun f => { f with shares := none, shared := true } else s
  | none => s)

end Sys2Proof.Machine
end

