-- ==== Sys2Proof/Machine/Contract.lean ====
section
/-! DEFINITION. What a partner port's messages say: cable ratings (R322, R324), and the contract values of a pack (R287, R342). -/

namespace Sys2Proof.Machine

/-- The current rating of a cable code in 0.01 A, away from the link or toward it: for a direct mating PP_ICHG and PP_IDIS, or the rating of
code 6 while the record is blank (R322, R150). -/
def cableI (s : State) (p : Nat) (away : Bool) (code : Nat) : Nat :=
  match code with
  | 0 => if selvOk s then (if away then selvField s .ppIchg p else selvField s .ppIdis p) else 500
  | 1 => 1000 | 2 => 2500 | 3 => 1000 | 4 => 2500 | 5 => 4000 | _ => 500

/-- The voltage rating of a cable code in 0.1 V (R322, R150). -/
def cableV (s : State) (p code : Nat) : Nat :=
  match code with
  | 0 => if selvOk s then selvField s .ppVmax p else 600
  | 1 => 4500 | 2 => 4500 | 3 => 10000 | 4 => 10000 | 5 => 10000 | _ => 600

/-- The codes known at the two ends; 0xFF contributes nothing (R324). -/
def knownCodes (t : PtPort) : List Nat := [t.code, t.code2].filter (· ≠ 0xFF)

/-- The current rating in force in a direction in 0.01 A: the lower of the codes known, code 6 while none is (R324, reset of R362). -/
def ratingI (s : State) (p : Nat) (away : Bool) : Nat :=
  match knownCodes (s.port p) with
  | [] => cableI s p away 6
  | c :: cs => cs.foldl (fun a c => min a (cableI s p away c)) (cableI s p away c)

/-- The voltage rating in force in 0.1 V (R324). -/
def ratingV (s : State) (p : Nat) : Nat :=
  match knownCodes (s.port p) with
  | [] => cableV s p 6
  | c :: cs => cs.foldl (fun a c => min a (cableV s p c)) (cableV s p c)

/-- The cable code of the ratings in force (R322, R362): a known one where it carries them all, else the one of the table that does (the
codes 2 and 3 of two ends leave 10 A and 450 V, code 1); 6 while none is known. -/
def ratingCode (s : State) (p : Nat) : Nat :=
  let known := knownCodes (s.port p)
  let fits (c : Nat) : Bool := cableV s p c == ratingV s p && cableI s p true c == ratingI s p true && cableI s p false c == ratingI s p false
  ((known ++ [1, 2, 3, 4, 5, 6]).find? fits).getD ((minBy (fun c => (min (cableI s p true c) (cableI s p false c) : Nat)) known).getD 6)

/-- The voltage of a contract in 0.1 V. -/
def Contract.volt : Contract → Nat | .supply v .. => v | _ => 0

/-- The KIND code of a contract (R362). -/
def Contract.kind : Contract → Nat
  | .none => 0 | .supply .. => 1 | .pack => 2 | .null => 3

/-! The pack contract (R342). -/

/-- The pack has a contract whose values count: every value takes the age of the last PACK_STATUS, and one older than 100,000 frames is
absent (R287, R342). -/
def hasPack (t : PtPort) : Bool := t.con == .pack && match t.stat with | some x => decide (x.age ≤ 100000) | none => false

/-- The contract in force is a pack contract or a null pack contract (R341). -/
def ofPack (t : PtPort) : Bool := t.con == .pack || (t.con == .null && t.pkReq.isSome)

/-- The port is in CONTRACT with a pack contract (R295, R312). -/
def inPackContract (t : PtPort) : Bool := t.st == .contract && t.con == .pack

/-- V_MAX of the contract in 0.1 V: the lower of PACK_REQUEST and PACK_STATUS (2.3). -/
def conVmax (t : PtPort) : Nat :=
  let r := (t.pkReq.map (·.2.2.1)).getD 0
  match t.stat.bind (·.vMax) with
  | some v => min r v
  | none => r

/-- V_MIN of the contract in 0.1 V: the higher of the two. -/
def conVmin (t : PtPort) : Nat :=
  let r := (t.pkReq.map (·.2.2.2.1)).getD 0
  match t.stat.bind (·.vMin) with
  | some v => max r v
  | none => r

/-- I_CHG of the contract in 0.01 A: the lower of the two. -/
def conIchg (t : PtPort) : Nat :=
  let r := (t.pkReq.map (·.1)).getD 0
  match t.stat.bind (·.iChg) with
  | some v => min r v
  | none => r

/-- I_DIS of the contract in 0.01 A. -/
def conIdis (t : PtPort) : Nat :=
  let r := (t.pkReq.map (·.2.1)).getD 0
  match t.stat.bind (·.iDis) with
  | some v => min r v
  | none => r

/-- CELL_SPREAD in mV: the field of PACK_STATUS from 2.1, the difference of the two cell voltages below it (R342). -/
def conSpread (t : PtPort) : Option Nat :=
  t.stat.bind fun x => if 0x21 ≤ t.ver then x.spread
    else match x.vMaxC, x.vMinC with | some a, some b => some (a - b) | _, _ => none

/-- The age of the last PACK_STATUS in frames (R342). -/
def conAge (t : PtPort) : Option Nat := t.stat.map (·.age)

/-! Supply contracts (R338 to R340). -/

/-- What the provider's lane supplies: from the OK to a REQUEST its offer, else the contract in force: voltage in 0.1 V and I_MAX in
0.01 A; none for a null contract (R339, R572). -/
def provCon (t : PtPort) : Option (Nat × Nat) :=
  if !t.prov then none
  else match (if t.reqOk then t.next else t.con) with
    | .supply v _ im _ => if v = 0 then none else some (v, im)
    | _ => none

/-- The taker may draw: the contract stands and is not being negotiated again (R340, R343, R353). -/
def takerDraws (t : PtPort) : Bool := t.st == .contract && !t.void && !t.noDemand

/-- What the taker's lane draws: offer voltage, I_OP and tolerance of the contract in force (R340). -/
def takeCon (t : PtPort) : Option (Nat × Nat × Nat) :=
  if t.prov then none
  else match t.con with
    | .supply v io _ tol => if v = 0 then none else some (v, io, tol)
    | _ => none

end Sys2Proof.Machine
end

