-- ==== Sys2Proof/Machine/Lanes.lean ====
section
/-! DEFINITION. Lanes and phases above the carrier (05_phases_lanes_modulation R176 to R202, R572, R573): conversion ratio, limits, loops,
split and issue of the lane job stage by stage, the lane state machine, and the commands of its thresholds. -/

namespace Sys2Proof.Machine

/-! Channels and terminals (R113, R177). -/

/-- VLINK in mV. -/
def vLink (s : State) : Int := s.val 16

/-- The channel of the port voltage of lane n. -/
def portVch (s : State) (n : Nat) : Nat := if lnKind s n ≤ 2 then lnPort s n else 8 + lnPort s n

/-- The channel of the port current of lane n. -/
def portIch (s : State) (n : Nat) : Nat := portVch s n + 4

/-- The port voltage of lane n in mV. -/
def portV (s : State) (n : Nat) : Int := s.val (portVch s n)

/-- The port current of lane n in mA, positive toward the link. -/
def portI (s : State) (n : Nat) : Int := s.val (portIch s n)

/-- The port is on the low side of the phases (R177). -/
def portLow (s : State) (n : Nat) : Bool := par s gLN n LN.PORT_SIDE = 0

/-- The conversion ratio low side over high side for a port voltage v, as a fraction (R24, R177). -/
def ratioFor (s : State) (n : Nat) (v : Int) : Int × Int := if portLow s n then (v, vLink s) else (vLink s, v)

/-- A ratio lies between lo and hi hundredths. -/
def ratioIn (lo hi : Int) (r : Int × Int) : Bool := 0 < r.2 && lo * r.2 ≤ 100 * r.1 && 100 * r.1 ≤ hi * r.2

/-- A value that does not fit the unsigned word it is held in is a free value of that width (log 3). -/
def fitU (w : Nat) (i : Int) : Nat := if 0 ≤ i && i < (2 ^ w : Nat) then i.toNat else (Config.openResult 2 i % (2 ^ w : Nat)).toNat

/-- A voltage reference of the port bounded to a ratio of 0.10 to 0.90 against the other side at v mV (R181); ref is on the low side
of the phases when lowSide holds. -/
def boundRatio (lowSide : Bool) (v ref : Int) : Int :=
  if lowSide then clampI ((v + 9) / 10) (9 * v / 10) ref else clampI ((10 * v + 8) / 9) (10 * v) ref

/-- The lane holds the link (R180). -/
def holdsLink (s : State) (n : Nat) : Bool :=
  (lnKind s n == 1 || lnKind s n == 2) && s.jobs.link.holder == 4 + lnPort s n

/-! Readiness and demand (R183, R186, R572). -/

/-- A hold of protection or of SAFEn lies on lane n (R434, R437). -/
def laneHeld (s : State) (f : Safety) (n : Nat) : Bool :=
  f.hold || f.die.on || (f.link.on && (lnKind s n == 1 || lnKind s n == 2)) ||
  (List.range 8).any fun k => (f.stage.getD k {}).on && (lanePhases s n).any fun x => par s gPH x PH.TS_PIN == k

/-- A protection hold of kind 2 to 4 lies on lane n (R436). -/
def protHeld (s : State) (n : Nat) : Bool := laneHeld s { s.jobs.safe with hold := false } n

/-- The controller is in RUN or SAFE, and no MOOR sequence ramps it down (R11). -/
def ctlRuns (s : State) : Bool := (s.ctl.state == .run || s.ctl.state == .safe) && !s.ctl.mooring

/-- The controller is in RUN, and no MOOR sequence ramps it down. -/
def inRun (s : State) : Bool := s.ctl.state == .run && !s.ctl.mooring

/-- VLINK may be drawn on by an input lane: the link has a holder, or VLINK has stayed in the window (R264, R278, R572). -/
def linkTaken (s : State) : Bool := s.jobs.link.holder ≠ 0 || 2000 ≤ s.jobs.link.inWin

/-- The port of lane n is ready under its chapter (R250, R295, R339, R340), and no hold lies on the lane. -/
def portReady (s : State) (n : Nat) : Bool :=
  !laneHeld s s.jobs.safe n &&
  match lnKind s n with
  | 1 | 2 => (s.src (lnPort s n)).st == .ready
  | 3 => let p := s.pack (lnPort s n); p.ph ≠ .absent && (p.ph ≠ .qualify || p.connect)
  | 4 => let t := s.port (lnPort s n)
         if t.prov then (provCon t).isSome else (takeCon t).isSome && t.settled
  | _ => false

/-- Lane n has a demand other than 0 (R572). -/
def hasDemand (s : State) (n : Nat) : Bool :=
  match lnKind s n with
  | 1 => (s.src (lnPort s n)).st == .ready && linkTaken s
  | 2 => (s.src (lnPort s n)).st == .ready && linkTaken s && 0 < (s.src (lnPort s n)).iRef
  | 3 => (s.pack (lnPort s n)).uDem ≠ 0
  | 4 => let t := s.port (lnPort s n)
         if t.prov then (provCon t).isSome && s.ctl.state ≠ .safe
         else portReady s n && takerDraws t && match takeCon t with | some (_, io, _) => 0 < io | none => false
  | _ => false

/-- The port does not let a lane run: not ready, or the link without a holder for an input lane (R183, R264). -/
def portLost (s : State) (n : Nat) : Bool :=
  !portReady s n || ((lnKind s n == 1 || lnKind s n == 2) && !linkTaken s)

/-- The conditions of the OFF row of R183. -/
def offConditions (s : State) (n : Nat) : Bool :=
  ctlRuns s && !portLost s n && !(soundPhases s n).isEmpty && (hasDemand s n || par s gLN n LN.SLACK_EN == 1)

/-- The cause that the loss of those conditions leaves (R202). R183 names none for QUALIFY to OFF: where several conditions are lost the
controller state comes before the port and the port before the phases, and IDLE stands where the demand alone is lost (DESIGN CHOICE, log 96). -/
def offCause (s : State) (n : Nat) : Nat :=
  if !ctlRuns s then 6 else if portLost s n then 5 else if (soundPhases s n).isEmpty then 7 else 8

/-- The condition "sequencer RUNNING" for lane n (R420). -/
def seqReady (s : State) (n : Nat) : Bool :=
  s.jobs.rails.st == .running &&
  (List.range 8).all fun r => !bit (par s gSEQ r SEQ.LANES) n || (s.rail r).st == .running

/-- The starting V_ref of R255 in mV, bounded to the port's window and under R181 (R254). -/
def boundVref (s : State) (n : Nat) (v : Int) : Int :=
  let k := lnPort s n
  boundRatio (portLow s n) (vLink s) (clampI (100 * parI s gSRC k SRC.V_MIN) (100 * parI s gSRC k SRC.V_MAX) v)

/-- The starting V_ref before it is bounded (R255). -/
def startVref (s : State) (k : Nat) : Int :=
  let p := s.src k
  if p.vmppAge < 1000000 then 100 * (p.vmpp : Int) else 78 * (p.voc : Int)

/-- The ratio that QUALIFY tests (R183, R256, R339). -/
def qualRatio (s : State) (n : Nat) : Int × Int :=
  match lnKind s n with
  | 1 => ratioFor s n (boundVref s n (startVref s (lnPort s n)))
  | 4 => match provCon (s.port (lnPort s n)) with
         | some (v, _) => ratioFor s n (100 * v)
         | none => ratioFor s n (portV s n)
  | _ => ratioFor s n (portV s n)

/-! Phases and modulators. -/

/-- The ACTIVE phases of lane n, ascending. -/
def activePhases (s : State) (n : Nat) : List Nat := (lanePhases s n).filter fun x => (s.phase x).st == .active

/-- The frequency code in force on lane n (R158): that of its first ACTIVE phase, else that of its plan. -/
def laneFreq (s : State) (n : Nat) : Nat :=
  match activePhases s n with
  | x :: _ => (s.mod x).cur.freq
  | [] => (s.lane n).plan.freq

/-- A modulator with both outputs low and nothing pending (R183, R190). -/
def Modulator.low (m : Modulator) : Modulator :=
  { m with forcedLow := true, switching := false, hiWin := none, loWin := none, pend := { m.pend with on := false, share := 0 }
           cur := { m.cur with on := false, share := 0 } }

/-- The shadow of phase x with f applied. -/
def State.modShadow (s : State) (x : Nat) (f : ModSet → ModSet) : State := { s with shadow := { s.shadow with mods := modAt s.shadow.mods x f } }

/-- Both outputs of phase x low at once; an ACTIVE phase is SHED (R187). -/
def phaseLow (s : State) (x : Nat) : State :=
  ((s.modMod x Modulator.low).modShadow x fun m => { m with on := false, share := 0 }).modPhase x fun p =>
    { p with st := if p.st = .active then .shed else p.st, shedding := none, share := 0 }

/-- Both outputs of every phase of lane n low at once. -/
def lanePhasesLow (s : State) (n : Nat) : State := (lanePhases s n).foldl phaseLow s

/-- The PWM of lane n stops at each phase's next valley: nothing is pending for it any more (R183). -/
def lanePhasesEnd (s : State) (n : Nat) : State :=
  (lanePhases s n).foldl (fun s x =>
    ((s.modMod x fun m => { m with pend := { m.pend with on := false, share := 0 } }).modShadow x fun m => { m with on := false, share := 0 }).modPhase x
      fun p => { p with shedding := none, share := 0 }) s

/-- LNENn is wanted at a level from the coming commit. -/
def setLnen (n : Nat) (b : Bool) (s : State) : State :=
  { s.modLane n fun l => { l with lnen := b, enFor := if b then some 0 else none } with shadow := { s.shadow with lnen := s.shadow.lnen.set n b } }

/-! Changes of the lane state (R183, R184, R202, R203). -/

/-- RUN or SLACK. -/
def LnSt.flows (st : LnSt) : Bool := st == .run || st == .slack

/-- Lane n enters a state with a cause (none keeps the last one); LANE_STATE tells it unless it changes between RUN and SLACK. -/
def laneEnter (n : Nat) (st : LnSt) (cause : Option Nat) (s : State) : State :=
  let l := s.lane n
  let c := cause.getD l.cause
  let s' := s.modLane n fun l => { l with
    st := st, cause := c, inState := 0, okRun := 0, idleRun := 0
    ratioRun := if st.flows && l.st.flows then l.ratioRun else 0
    retryLeft := if st = .retry then l.retryLeft else 0
    upRun := if st.flows && l.st.flows then l.upRun else 0
    started := if st = .softstart then false else l.started
    ramp := if st = .softstart then 0 else l.ramp
    rampHit := if st = .softstart then false else l.rampHit
    iMain := if st = .softstart then 0 else l.iMain
    clMain := if st = .softstart then 0 else l.clMain
    iLim := if st = .softstart then 0 else l.iLim
    clLim := if st = .softstart then 0 else l.clLim
    limDir := if st = .softstart then 0 else l.limDir }
  if l.st = st then s'
  else if st.flows && l.st.flows then s' else s'.raise Ev.LANE_STATE (n * 2 ^ 8 + c * 2 ^ 4 + st.code)

/-- The wait after the k-th consecutive failed attempt, in frames (R184). -/
def retryWait (k : Nat) : Nat := min (2 ^ (min k 7 - 1)) 60 * 100000

/-- Lane n enters RETRY after one more failed attempt (R183, R184). -/
def laneRetry (n cause : Nat) (s : State) : State :=
  laneEnter n .retry (some cause) (s.modLane n fun l => { l with
    retries := incSat 32 l.retries, attempt := l.attempt + 1, retryLeft := retryWait (l.attempt + 1), stopped := false, restart := none })

/-- A soft-start has failed: LNENn low, RETRY and SOFTSTART_FAILED; PWM goes off at once for a STOP, else at the coming commit (R183). -/
def softFail (n cause : Nat) (atOnce : Bool) (s : State) : State :=
  let s := setLnen n false (if atOnce then lanePhasesLow s n else s.modLane n fun l => { l with lowAt := true })
  let s := laneRetry n cause s
  s.raise Ev.SOFTSTART_FAILED ((s.lane n).retries % 65536 * 2 ^ 16 + n * 2 ^ 8 + cause)

/-- Lane n is OFF at once with both outputs of every phase low (R183). -/
def laneOffNow (n : Nat) (cause : Option Nat) (s : State) : State :=
  laneEnter n .off cause (setLnen n false (lanePhasesLow s n))

/-- Lane n enters RAMPDOWN with a cause; a restart that a recovery has marked ends with it (R100, R183). -/
def laneRamp (n cause : Nat) (s : State) : State := laneEnter n .rampdown (some cause) (s.modLane n fun l => { l with restart := none })

/-- A STOP on lane n (R183, R190, R573): what switches is OFF at once and decided at the coming commit point; a soft-start fails. -/
def stopLane (n cause : Nat) (s : State) : State :=
  match (s.lane n).st with
  | .run | .slack | .rampdown => (laneOffNow n (some cause) s).modLane n fun l => { l with stopped := true, restart := none }
  | .qualify => (laneOffNow n (some cause) s).modLane n fun l => { l with stopped := true }
  | .softstart => softFail n cause true s
  | .off | .retry => s

/-- A recovery of R99 sends lane n to RAMPDOWN and marks its restart (R99, R100); a lane that has not reached RUN since the same job's
last recovery has failed a soft-start (R100). -/
def laneRestart (j n : Nat) (s : State) : State :=
  let l := s.lane n
  match l.st with
  | .run | .slack => (laneRamp n 3 s).modLane n fun l => { l with restart := some j }
  | .softstart => if l.restart = some j then softFail n 3 false s else (laneRamp n 3 s).modLane n fun l => { l with restart := some j }
  | .rampdown => s.modLane n fun l => { l with restart := some j }
  | .off | .qualify | .retry => s

/-- A lane without a phase that is neither RETIRED nor WORN is OFF at once (R183, LANE_NO_PHASES). -/
def laneNoPhases (n : Nat) (s : State) : State :=
  if lnUsed s n && (soundPhases s n).isEmpty && (s.lane n).st ≠ .off then
    ((laneOffNow n (some 7) s).modLane n fun l => { l with stopped := false, restart := none }).raise Ev.LANE_NO_PHASES n
  else s

/-! Stages of the phase job and of the lane job (R88 to R94). -/

/-- S2 of the phase job: the corrected frame average (R116, R199). -/
def phaseS2 (x : Nat) (s : State) : State := s.modPhase x fun p => { p with iMeas := s.val (40 + x) }

/-- The high-side current of lane n at frame rate, in 2^-24 mA: each phase's current times its mean adopted duty (R214). -/
def highCurrent (s : State) (n : Nat) : Int := sumOf (fun x => (s.phase x).iMeas * (s.phase x).dMean) (activePhases s n)

/-- An edge of a current bin passed: |i| times 200 over the rating, to the 24th, against 200^k, scaled by num / den (R207). -/
def cbinAbove (i rated k num den : Nat) : Bool := 200 ^ k * (rated * num) ^ 24 ≤ (i * 200 * den) ^ 24

/-- One step of the current bin with its hysteresis (R207); rated in mA. -/
def cbinStep (i rated : Nat) (b : Nat) : Nat :=
  if b < 23 && cbinAbove i rated (b + 1) 102 100 then b + 1
  else if 0 < b && !cbinAbove i rated b 100 102 then b - 1 else b

/-- One step of the ratio bin with its hysteresis; r the ratio in 2^-16 (R208). -/
def rbinStep (r : Nat) (b : Nat) : Nat :=
  if b < 7 && (200 + 100 * b + 5) * 65536 < 1000 * r then b + 1
  else if 0 < b && 1000 * r < (100 + 100 * b - 5) * 65536 then b - 1 else b

/-- S3 of the lane job: current, ratio, powers, loss, and the three indices of the loss map (R177, R205 to R208, R214). -/
def laneS3 (n : Nat) (s : State) : State :=
  if !lnUsed s n then s else
  let act := activePhases s n
  let i := sumOf (fun x => (s.phase x).iMeas) act
  let r := ratioFor s n (portV s n)
  let ratio := fitU 16 (divR (r.1 * 65536) r.2)
  let pp := portV s n * portI s n
  let pl := vLink s * (if portLow s n then highCurrent s n else i * 2 ^ 24)
  let aux := (par s gSCH n SCH.AUX_W : Int) * 10000
  let gd := (act.length * par s gSCH n SCH.GD_PH * 100 * (20 + 4 * laneFreq s n) : Nat)
  let rated := 10 * par s gLN n LN.I_RATED
  s.modLane n fun l => { l with
    iMeas := fit32 i, ratio := ratio, pPort := pp, pLink := pl
    loss := pp * 2 ^ 24 - pl - aux * 2 ^ 24 + gd * 2 ^ 24
    band := laneBand s n
    rbin := iter (rbinStep ratio) 8 l.rbin
    cbin := iter (cbinStep (absN i) rated) 24 l.cbin }

/-- The bounds of the port's contract in mA of the lane: toward and away from the link (R178, R293, R339, R340). -/
def contractBounds (s : State) (n : Nat) : Option Int × Option Int :=
  let t := s.port (lnPort s n)
  let r := ratioFor s n (portV s n)
  let low (i : Nat) : Int := if portLow s n then 10 * i else divR (10 * i * r.2) r.1
  match lnKind s n with
  | 3 => if hasPack t then (some (low (conIdis t)), some (low (conIchg t))) else (none, none)
  | 4 => (match t.con with | .supply _ io _ _ => if t.prov then none else some (low io) | _ => none,
          match provCon t with | some (_, im) => some (low im) | none => none)
  | _ => (none, none)

/-- The bound of the scheduler on lane n in mA (R231). -/
def schBound (l : Lane) : Option Int := match l.heat, l.site with
  | some a, some b => some (min a b)
  | some a, none => some a
  | none, b => b

/-- I_POS_EFF and I_NEG_EFF of lane n in mA under a bound b of the scheduler (R178). -/
def limitsUnder (s : State) (n : Nat) (b : Option Int) : Int × Int :=
  let ph : Int := 10 * sumOf (fun x => (par s gPH x PH.I_LIMIT : Int)) (soundPhases s n)
  let c := contractBounds s n
  let bound (l : Int) (o : Option Int) : Int := match o with | some b => min l b | none => l
  let f (lim : Nat) (o : Option Int) : Int := bound (bound (min (10 * (lim : Int)) ph) o) b
  (f (par s gLN n LN.I_LIMIT) c.1, f (par s gLN n LN.I_LIMIT_NEG) c.2)

/-- I_POS_EFF and I_NEG_EFF of lane n in mA (R178). -/
def effLimits (s : State) (n : Nat) : Int × Int := limitsUnder s n (schBound (s.lane n))

/-- The controller state or the SAFE rule sends a running lane to RAMPDOWN (R183, R186). -/
def ctlRamp (s : State) (n : Nat) : Bool :=
  !ctlRuns s || (s.ctl.state == .safe && lnKind s n == 4 && (s.lane n).ref < 0)

/-- The counters of R183 that a frame moves on. -/
def laneCount (s : State) (n : Nat) (l : Lane) : Lane :=
  let tol := 5 * (l.iMeas - l.u).natAbs ≤ par s gLN n LN.I_RATED
  { l with
    inState := l.inState + 1
    enFor := l.enFor.map (· + 1)
    retryLeft := l.retryLeft - 1
    upRun := if l.st.flows then l.upRun + 1 else 0
    okRun := match l.st with
      | .qualify => if seqReady s n && ratioIn 10 90 (qualRatio s n) then l.okRun + 1 else 0
      | .softstart => if l.started && l.rampHit && tol then l.okRun + 1 else 0
      | _ => 0
    idleRun := if l.st = .run && l.u = 0 then l.idleRun + 1 else 0
    ratioRun := if l.st.flows && !ratioIn 8 92 (ratioFor s n (portV s n)) then l.ratioRun + 1 else 0 }

/-- Lane n enters SOFTSTART: LNENn rises, and the switch of a port that the lane supplies closes, its voltage reference starting from the
port's voltage (R183, R339). -/
def laneStart (n : Nat) (s : State) : State :=
  let s := setLnen n true (laneEnter n .softstart none s)
  let p := lnPort s n
  if lnKind s n = 4 && (s.port p).prov then
    { s.modPort p fun t => { t with sw := true, vRamp := s.val (8 + p) } with shadow := { s.shadow with swpp := s.shadow.swpp.set p true } }
  else s

/-- S4 of the lane job: limits, counters, and the transitions of R183 that no row of the table names. A lane OFF after the RAMPDOWN of a
recovery skips QUALIFY where its port is ready and the ratio in range; otherwise the OFF row holds for it too. -/
def laneS4 (n : Nat) (s : State) : State :=
  if !lnUsed s n then (if (s.lane n).st = .off then s else laneOffNow n none s) else
  let e := effLimits s n
  let s := s.modLane n fun l => { laneCount s n l with limPos := e.1, limNeg := e.2 }
  let l := s.lane n
  match l.st with
  | .off =>
    if l.stopped then s
    else if l.restart.isSome && ctlRuns s && !portLost s n && ratioIn 10 90 (qualRatio s n) && !(soundPhases s n).isEmpty then laneStart n s
    else if offConditions s n then laneEnter n .qualify none (s.modLane n fun l => { l with restart := none })
    else if ctlRuns s then s else s.modLane n fun l => { l with restart := none }
  | .qualify => if offConditions s n then s else laneEnter n .off (some (offCause s n)) s
  | .softstart => if ctlRamp s n then laneRamp n 6 s else if portLost s n then laneRamp n 5 s else s
  | .run =>
    if ctlRamp s n then laneRamp n 6 s else if portLost s n then laneRamp n 5 s
    else if l.u = 0 && par s gLN n LN.SLACK_EN == 1 then laneEnter n .slack none s else s
  | .slack =>
    if ctlRamp s n then laneRamp n 6 s else if portLost s n then laneRamp n 5 s
    else if l.u ≠ 0 then laneEnter n .run none s else s
  | .rampdown => s
  | .retry =>
    if !ctlRuns s then laneEnter n .off (some 6) (s.modLane n fun l => { l with attempt := 0, retryLeft := 0 })
    else if protHeld s n && !s.jobs.safe.hold then s
    else if !portReady s n then laneEnter n .off (some 5) (s.modLane n fun l => { l with attempt := 0, retryLeft := 0 })
    else s

/-- One frame of a loop of the form of R179 with the error e, between lo and hi in mA. -/
def loopRun (kp ki : Nat) (e lo hi : Int) (l : Loop) : Loop :=
  let i := if l.cl ≠ 0 && l.cl = sgn e then l.i else l.i + ki * e
  let v := kp * e + i
  { i := i, cl := if hi * 65536 < v then 1 else if v < lo * 65536 then -1 else 0, out := clampI lo hi (divR v 65536) }

/-- A loop whose output is set to u: I = u - p (R191, R267, R273). -/
def loopSet (kp : Nat) (e u : Int) : Loop := { i := u * 65536 - kp * e, cl := 0, out := u }

/-- A voltage reference bounded by the port's or the link's window of the selvedge record (R153): the bounded reference. -/
def selvVolt (s : State) (n : Nat) (atLink : Bool) (v : Int) : Int :=
  if !selvOk s then v
  else if atLink then clampI (100 * selvField s .linkVmin 0) (100 * selvField s .linkVmax 0) v
  else if lnKind s n ≤ 2 then min v (100 * selvField s .inVmax (lnPort s n))
  else clampI (100 * selvField s .ppVmin (lnPort s n)) (100 * selvField s .ppVmax (lnPort s n)) v

/-- The voltage reference of the port side of lane n in mV, before R153 (R180, R181, R254, R339, R340). -/
def portRef (s : State) (n : Nat) (v : Int) : Int := boundRatio (portLow s n) (vLink s) v

/-- The link reference of an input lane that holds the link (R180, R181, R263). -/
def linkRef (s : State) (n : Nat) : Int := boundRatio (!portLow s n) (portV s n) s.jobs.link.vset

/-- The contract voltage that a provider's lane regulates to, on its ramp (R339). -/
def provRef (t : PtPort) : Int := t.vRamp

/-- The main voltage reference of lane n before R153, and whether it stands on the link; none where the main loop has none. -/
def mainRef (s : State) (n : Nat) : Option (Bool × Int) :=
  match lnKind s n with
  | 1 => if holdsLink s n then some (true, linkRef s n) else some (false, portRef s n (s.src (lnPort s n)).vRef)
  | 2 => if holdsLink s n then some (true, linkRef s n) else none
  | 4 => let t := s.port (lnPort s n); if t.prov then some (false, portRef s n (provRef t)) else none
  | _ => none

/-- The error and the gains of the main loop of lane n (R180); none for a lane whose u is a demand. -/
def mainErr (s : State) (n : Nat) : Option (Int × Nat × Nat) :=
  let kp := par s gLN n LN.KP_MAIN
  let ki := par s gLN n LN.KI_MAIN
  match mainRef s n with
  | some (true, r) => some (-(vLink s - selvVolt s n true r), par s gSRC 4 SRC.KP_LINK, par s gSRC 4 SRC.KI_LINK)
  | some (false, r) => some (portV s n - selvVolt s n false r, kp, ki)
  | none => if lnKind s n = 2 then some (-(portI s n - 10 * (s.src (lnPort s n)).iRef), kp, ki) else none

/-- The demand of a lane without a main loop: the link job's demand, or the contract demand (R180, R340). -/
def laneDemand (s : State) (n : Nat) : Int :=
  match lnKind s n with
  | 3 => (s.pack (lnPort s n)).uDem
  | 4 => let t := s.port (lnPort s n)
         match takeCon t with
         | some (_, io, _) => if !takerDraws t || !t.settled || !s.outs.swpp.getD (lnPort s n) false then 0
                              else if portLow s n then 10 * io
                              else let r := ratioFor s n (portV s n); divR (10 * io * r.2) r.1
         | none => 0
  | _ => 0

/-- The voltage reference of the limit loop of lane n for an output u, before R153, and the side it narrows: 1 raising u toward 0, -1
lowering u; none where no voltage limits (R180). -/
def limRef (s : State) (n : Nat) (u : Int) : Option (Int × Int) :=
  let k := lnPort s n
  match lnKind s n with
  | 1 => some (portRef s n (s.src k).vRef, -1)
  | 2 => some (portRef s n (100 * parI s gSRC k SRC.V_MIN), -1)
  | 3 => if u < 0 then some (portRef s n (s.pack k).vChg, 1) else if 0 < u then some (portRef s n (s.pack k).vFloor, -1) else none
  | 4 => if (s.port k).prov then none else match takeCon (s.port k) with
         | some (v, _, tol) => some (portRef s n (v * (100 - tol)), -1)
         | none => none
  | _ => none

/-- The limit loop of lane n for an output u: its error and the side it narrows; none where none acts (R180). A lane that supplies its
port is limited by the contract current. -/
def limErr (s : State) (n : Nat) (u : Int) : Option (Int × Int) :=
  match limRef s n u with
  | some (r, side) => some (portV s n - selvVolt s n false r, side)
  | none =>
    if lnKind s n = 4 && (s.port (lnPort s n)).prov then
      (provCon (s.port (lnPort s n))).map fun c => (-(portI s n + 10 * (c.2 : Int)), 1)
    else none

/-- SRC[n].KIND in force. -/
def srcKind (s : State) (n : Nat) : Nat := par s gSRC n SRC.KIND

/-- Port n is a direct input (R23, R248). -/
def isDirect (s : State) (n : Nat) : Bool := srcKind s n = 2 && (laneOfInput s n).isNone

/-- A holder code names a direct input. -/
def directCode (s : State) (c : Nat) : Bool := 4 ≤ c && isDirect s (c - 4)

/-- A holder code names a lane-served source. -/
def laneCode (s : State) (c : Nat) : Bool := 4 ≤ c && !isDirect s (c - 4)

/-- The references of the charge-back and of the supplement loop (R265). -/
def cbRef (s : State) : Int := s.jobs.link.vset - 100 * parI s gSRC 4 SRC.CHG_DV
def supRef (s : State) : Int := s.jobs.link.vset - 100 * parI s gSRC 4 SRC.SUPP_DV

/-- The link references that the pack-set demand follows: VSET under PACKS, those of the two loops under an input lane (R264, R265). -/
def linkRefs (s : State) : List Int :=
  if s.jobs.link.holder = 1 then [s.jobs.link.vset] else if laneCode s s.jobs.link.holder then [cbRef s, supRef s] else []

/-- The lane's port is left by a transfer ramp on which its main loop follows the port's own reference (R575). -/
def followsPort (s : State) (n : Nat) : Bool :=
  match s.jobs.link.seam with
  | some m => m.step = 2 && directCode s m.target && m.old == 4 + lnPort s n && lnKind s n = 1
  | none => false

/-- A voltage reference of lane n is bounded by R153 in this frame: that of its main loop, that which it follows on a transfer ramp, that
of its limit loop for an output u, or, of a pack lane, one of the link's (DESIGN CHOICE, log 102). -/
def voltClamped (s : State) (n : Nat) (u : Int) : Bool :=
  (match mainRef s n with | some (atLink, r) => decide (selvVolt s n atLink r ≠ r) | none => false) ||
  (followsPort s n && (let r := portRef s n (s.src (lnPort s n)).vRef; decide (selvVolt s n false r ≠ r))) ||
  (lnKind s n = 3 && (linkRefs s).any fun r => decide (selvVolt s n true r ≠ r)) ||
  (match limRef s n u with | some (r, _) => decide (selvVolt s n false r ≠ r) | none => false)

/-- The output narrowed by the limit loop in its one direction. A pack lane is bounded toward 0 only. -/
def narrow (kind : Nat) (side u lim : Int) : Int :=
  if side = 1 then max u (min lim 0) else if kind = 3 then min u (max lim 0) else min u lim

/-- The clamp of the main loop under limits e: I_NEG_EFF and I_POS_EFF, with I_ref for a DC-supply lane that holds the link (R262). -/
def mainBounds (s : State) (n : Nat) (e : Int × Int) : Int × Int :=
  let r := ratioFor s n (portV s n)
  let iref : Int := 10 * (s.src (lnPort s n)).iRef
  let hi := if lnKind s n = 2 && holdsLink s n then min e.1 (if portLow s n then iref else divR (iref * r.2) r.1) else e.1
  (-e.2, hi)

/-- An episode of R153: it begins when the bound acts and ends after 1,000 frames without it. -/
def episode (acted : Bool) (e : Option Nat) : Option Nat :=
  if acted then some 0 else match e with
    | some k => if 999 ≤ k then none else some (k + 1)
    | none => none

/-- A bound of R153 on lane n acted or not in this frame: its episode, and SELVEDGE_CLAMP when one begins. -/
def clampEvent (n bound : Nat) (acted : Bool) (s : State) : State :=
  let l := s.lane n
  let e := if bound = 1 then l.clampI else l.clampV
  let s := s.modLane n fun l => if bound = 1 then { l with clampI := episode acted e } else { l with clampV := episode acted e }
  if acted && e.isNone then s.raise Ev.SELVEDGE_CLAMP (n * 2 ^ 8 + bound) else s

/-- The output to which a transfer ramp holds an input lane that is the old or the new holder of a seam with a direct input (R273, R575). -/
def seamRamp (s : State) (n : Nat) : Option Int :=
  match s.jobs.link.seam with
  | some m => if m.step = 2 && (lnKind s n == 1 || lnKind s n == 2) && (m.old == 4 + lnPort s n || m.target == 4 + lnPort s n) then some m.ramp else none
  | none => none

/-- The main loop of lane n within b, or its demand dem (R179, R180, R191, R267, R575); a lane that supplies its port has demand 0 in SAFE
(R186). -/
def mainLoop (s : State) (n : Nat) (b : Int × Int) (dem : Int) : Loop :=
  let l := s.lane n
  let fp : Int := 10 * par s gLN n LN.FP_I
  let main : Loop := match mainErr s n with
    | some (e, kp, ki) => match seamRamp s n with
      | some u => loopSet kp e (clampI b.1 b.2 u)
      | none => if l.fpHand then loopSet kp e fp else loopRun kp ki e b.1 b.2 ⟨l.iMain, l.clMain, 0⟩
    | none => ⟨0, 0, clampI b.1 b.2 (if l.fpHand then fp else dem)⟩
  if s.ctl.state == .safe && lnKind s n == 4 && (s.port (lnPort s n)).prov then { main with out := 0 } else main

/-- The limit loop of lane n within b, for the error e and the side it narrows (R179, R180). -/
def limLoop (s : State) (n : Nat) (b : Int × Int) (e side : Int) : Loop :=
  let l := s.lane n
  let kp := par s gLN n LN.KP_LIM
  loopRun kp (par s gLN n LN.KI_LIM) e b.1 b.2
    (if lnKind s n = 3 && l.limDir ≠ side then loopSet kp e (if side = 1 then b.1 else b.2) else ⟨l.iLim, l.clLim, 0⟩)

/-- The main loop and the limit loop of lane n run (R179, R180). -/
def laneLoops (n : Nat) (s : State) : Lane :=
  let l := s.lane n
  let b := mainBounds s n (l.limPos, l.limNeg)
  let main := mainLoop s n b (laneDemand s n)
  match limErr s n main.out with
  | none => { l with iMain := main.i, clMain := main.cl, u := main.out, limActed := false, fpHand := false }
  | some (e, side) =>
    let lim := limLoop s n b e side
    let u := narrow (lnKind s n) side main.out lim.out
    { l with iMain := main.i, clMain := main.cl, iLim := lim.i, clLim := lim.cl, limDir := side, u := u, limActed := u ≠ main.out, fpHand := false }

/-- u of lane n as it would stand without the site bound: the same loops, from the same integrators, within the limits less that bound, and
for a pack lane the demand that the link job's loops and split give within such limits (R229, R230; DEDUCED, log 78). -/
def loopsFree (s : State) (n : Nat) : Int :=
  let b := mainBounds s n (limitsUnder s n (s.lane n).heat)
  let main := mainLoop s n b (if lnKind s n = 3 then (s.pack (lnPort s n)).free.u else laneDemand s n)
  match limErr s n main.out with
  | none => main.out
  | some (e, side) => narrow (lnKind s n) side main.out (limLoop s n b e side).out

/-- r moved toward t by at most k. -/
def toward (k : Int) (t r : Int) : Int := if r < t then min t (r + k) else max t (r - k)

/-- The correction of r_h in mA: the frame's mean difference between the reference ref and the current, within 10 % of I_RATED (R175). -/
def cotFix (s : State) (n : Nat) (ref : Int) : Int :=
  let b := parI s gLN n LN.I_RATED
  clampI (-b) b (ref - (s.lane n).iMeas)

/-- r_h in mA: the lane reference as it stands, on its ramps and under a surge, in the direction that the high-side switch drives, with its
correction (R175). -/
def cotRef (s : State) (n : Nat) : Int := let l := s.lane n; if portLow s n then l.ref + l.rhFix else -(l.ref + l.rhFix)

/-- S5 of the lane job: the loops, the soft-start ramp, and the lane reference (R179, R183). -/
def laneS5 (n : Nat) (s : State) : State :=
  if !lnUsed s n then s else
  let l := s.lane n
  if !l.st.up then
    clampEvent n 2 false (if l.st = .rampdown then s
     else s.modLane n fun l => { l with u := 0, uFree := 0, ref := 0, ramp := 0, iMain := 0, clMain := 0, iLim := 0, clLim := 0, limDir := 0,
                                        limActed := false, fpHand := false })
  else
    let volt := voltClamped s n (mainLoop s n (mainBounds s n (l.limPos, l.limNeg)) (laneDemand s n)).out
    let l' := laneLoops n s
    let ramp := if l'.st = .softstart && l'.started then toward (parI s gLN n LN.SS_RATE) l'.u l'.ramp else l'.ramp
    let ref := match l'.st with
      | .softstart => if l'.started then ramp else 0
      | _ => l'.u
    clampEvent n 2 volt (s.modLane n fun _ => { l' with
      ramp := ramp, ref := ref, uFree := loopsFree s n, rampHit := l'.rampHit || (l'.st == .softstart && l'.started && ramp == l'.u) })

/-- The lane's phases switch: it is in SOFTSTART with its phases started, RUN or SLACK. -/
def laneDrives (l : Lane) : Bool := l.st.flows || (l.st == .softstart && l.started)

/-- The phases that carry a share: sound and in the plan in force (R182, R189). -/
def sharers (s : State) (n : Nat) : List Nat := (soundPhases s n).filter fun x => bit (s.lane n).plan.mask x

/-- The selvedge current bound of lane n toward (true) or away from the link, in mA: active phases times PH_IMAX, and the port's limit (R153). -/
def selvCurrent (s : State) (n : Nat) (pos : Bool) : Option Int :=
  if !selvOk s then none else
  let ph := 10 * sumOf (fun x => (selvField s .phImax x : Int)) (sharers s n)
  let r := ratioFor s n (portV s n)
  let i : Int := 10 * (if lnKind s n ≤ 2 then selvField s .inImax (lnPort s n) else if pos then selvField s .ppIdis (lnPort s n) else selvField s .ppIchg (lnPort s n))
  some (min ph (if portLow s n then i else divR (i * r.2) r.1))

/-- The slack share is held at 0 until SWPPx has closed: a pack lane, and a lane that takes on a partner port (R296, R340). -/
def slackHeld (s : State) (n : Nat) : Bool :=
  (lnKind s n == 3 || (lnKind s n == 4 && !(s.port (lnPort s n)).prov)) && !s.outs.swpp.getD (lnPort s n) false

/-- S6 of the lane job: R153 on the current, the equal split over the sharers bounded to each phase's limit (R182), the slack shares
(R183), whose sum R153 bounds too, share 0 and a shed for an ACTIVE phase that the plan has dropped (R188), and the correction of r_h (R175). -/
def laneS6 (n : Nat) (s : State) : State :=
  let l := s.lane n
  if !(lnUsed s n && laneDrives l) then
    (if lnUsed s n then clampEvent n 1 false (s.modLane n fun l => { l with rhFix := if l.st = .rampdown then cotFix s n l.ref else 0 }) else s) else
  let sh := sharers s n
  let want : Int := if l.st = .slack then (if slackHeld s n then 0 else 10 * parS s gLN n LN.SLACK_I * sh.length) else l.ref
  let ref := match selvCurrent s n (0 ≤ want) with
    | some b => clampI (-b) b want
    | none => want
  let s := s.modLane n fun l => { l with ref := if l.st = .slack then l.ref else ref, rhFix := cotFix s n ref }
  let s := clampEvent n 1 (decide (ref ≠ want)) s
  (lanePhases s n).foldl (fun s x =>
    let lim : Int := 10 * par s gPH x PH.I_LIMIT
    if sh.contains x then
      let i := divR ref sh.length
      s.modPhase x fun p => { p with share := clampI (-lim) lim i, shedding := none }
    else s.modPhase x fun p => { p with share := 0, shedding := if p.st = .active then (match p.shedding with | some k => some k | none => some 2) else none }) s

/-- The phase-current code of a share in mA, through the inverse of the effective calibration (R129, R172). -/
def shareCode (s : State) (x : Nat) (mA : Int) : Int :=
  let c := 40 + x
  let sc : Int := par s gSNS c SNS.SCALE
  let d : Int := lsbDen c
  let n1 := mA * 65536 * d + parS s gSNS c SNS.ZERO * 5 * 1000 * sc
  let g := gEff s c * (200000000 + (patternOf s c).tc * (s.jobs.sense.die - 2500))
  clampI (-2048) 2047 (divR (n1 * 2 ^ 36 * 200000000 * 16 + offEff s c * 5 * g * 1000 * sc) (1000 * sc * 5 * g * 16))

/-- A dead-time code of the lane bounded for phase x by its table entry in the present band and LN[n].DT_SPAN; 0 stands for the table
entry (R168, R206). -/
def deadTime (s : State) (n x table code : Nat) : Nat :=
  let e := bits table (8 * phaseBand s x + 7) (8 * phaseBand s x)
  min (max code e) (min 255 (e + par s gLN n LN.DT_SPAN))

/-- The dead times in force for phase x of lane n with the codes issued, in the phase's band as it stands (R168). -/
def ModSet.dead (s : State) (n x : Nat) (m : ModSet) : ModSet :=
  { m with dtr := deadTime s n x (par s gPH x PH.DT_RISE) m.codeR, dtf := deadTime s n x (par s gPH x PH.DT_FALL) m.codeF }

/-- What S7 issues for phase x of lane n at position q of m (R96, R163, R168, R172). -/
def issueFor (s : State) (n x q m : Nat) : ModSet :=
  let l := s.lane n
  let r := ratioFor s n (portV s n)
  ModSet.dead s n x
    { on := true, share := shareCode s x (s.phase x).share, dff := divR (r.1 * 2 ^ 24) r.2
      freq := min (max l.plan.freq (par s gLN n LN.F_MIN)) (par s gLN n LN.F_MAX), pos := q, cnt := m
      codeR := l.plan.dtr, codeF := l.plan.dtf, mode := par s gLN n LN.MODE }

/-- The place of x in a list. -/
def placeOf (x : Nat) (l : List Nat) : Nat := (l.takeWhile (· ≠ x)).length

/-- What S7 issues for a phase of lane n that switches on without a place in the plan: the lane's codes, ratio and dead times, with the
set-point and the position it has; a phase being shed has none (R158, R163, R165, R168, R170, R188). -/
def issueKeep (s : State) (n x : Nat) (m : ModSet) : ModSet :=
  { issueFor s n x m.pos m.cnt with on := m.on, share := m.share }

/-- S7 of the lane job: set-points of its phases and LNENn into the issue shadow (R96, R185). In RAMPDOWN the ramp hardware moves the
shares, and the codes, the ratio and the dead times go on being issued; every other phase has both outputs low. -/
def laneS7 (n : Nat) (s : State) : State :=
  if !lnUsed s n then s else
  let l := s.lane n
  let s := { s with shadow := { s.shadow with lnen := s.shadow.lnen.set n l.lnen } }
  if l.st = .rampdown then (lanePhases s n).foldl (fun s x => s.modShadow x fun m => issueKeep s n x m) s
  else if laneDrives l then
    let sh := sharers s n
    (lanePhases s n).foldl (fun s x =>
      if sh.contains x then s.modShadow x fun _ => issueFor s n x (placeOf x sh) sh.length
      else s.modShadow x fun m => issueKeep s n x { m with on := (s.phase x).st == .active && (s.phase x).shedding.isSome, share := shareCode s x 0, cnt := 0 }) s
  else (lanePhases s n).foldl (fun s x => s.modShadow x fun m => { m with on := false, share := 0 }) s

/-! The ramp hardware (R183) and the decision after a STOP (R573), at the commit point. -/

/-- RAMPDOWN: every share of lane n moves toward 0 at RD_RATE. -/
def rampShares (s : State) (n : Nat) : State :=
  if (s.lane n).st ≠ .rampdown then s else
  let k := parI s gLN n LN.RD_RATE
  let s := (lanePhases s n).foldl (fun s x =>
    let i := toward k 0 (s.phase x).share
    (s.modPhase x fun p => { p with share := i }).modShadow x fun m => { m with share := shareCode s x i }) s
  s.modLane n fun l => { l with ref := sumOf (fun x => (s.phase x).share) (activePhases s n) }

/-- R573: a lane that a STOP put OFF goes to RETRY where its port is still ready, else stays OFF with the cause of the STOP, since CAUSE is
that of the last entry (R202). -/
def stopDecision (s : State) (n : Nat) : State :=
  let l := s.lane n
  if !l.stopped then s
  else if l.st ≠ .off then s.modLane n fun l => { l with stopped := false }
  else if portReady s n && ctlRuns s && !(soundPhases s n).isEmpty then laneRetry n l.cause s
  else s.modLane n fun l => { l with stopped := false }

/-! The commands of the lane's thresholds. -/

/-- LANE_QUALIFIED (R183): after 100 consecutive frames the lane enters SOFTSTART and LNENn rises; a provider's SWPPx closes with it (R339). -/
def execLaneQualified (n : Nat) (s : State) : Out :=
  .next (if lnUsed s n && (s.lane n).st = .qualify && 100 ≤ (s.lane n).okRun then laneStart n s else s)

/-- SOFTSTART_PHASES_START (R183): EN_LEAD frames after LNENn rose the phases of the plan start. -/
def execSoftstartPhasesStart (n : Nat) (s : State) : Out :=
  let l := s.lane n
  .next (if lnUsed s n && l.st = .softstart && !l.started && par s gLN n LN.EN_LEAD ≤ l.enFor.getD 0 then
    s.modLane n fun l => { l with started := true, ramp := 0 }
  else s)

/-- SOFTSTART_DONE (R183): to RUN, or to SLACK when u = 0 and SLACK_EN is 1. -/
def execSoftstartDone (n : Nat) (s : State) : Out :=
  let l := s.lane n
  .next (if lnUsed s n && l.st = .softstart && 100 ≤ l.okRun then
    (laneEnter n (if l.u = 0 && par s gLN n LN.SLACK_EN == 1 then .slack else .run) none s).modLane n fun l => { l with restart := none }
  else s)

/-- SOFTSTART_FAILED (R183): SS_TIMEOUT frames since entry. -/
def execSoftstartFailed (n : Nat) (s : State) : Out :=
  .next (if lnUsed s n && (s.lane n).st = .softstart && par s gLN n LN.SS_TIMEOUT ≤ (s.lane n).inState then softFail n 1 false s else s)

/-- LANE_IDLE_OFF (R183): u = 0 without slack on IDLE_OFF consecutive frames. -/
def execLaneIdleOff (n : Nat) (s : State) : Out :=
  let l := s.lane n
  .next (if lnUsed s n && l.st = .run && par s gLN n LN.SLACK_EN ≠ 1 && l.u = 0 && par s gLN n LN.IDLE_OFF ≤ l.idleRun then laneRamp n 8 s else s)

/-- RATIO_FAULT (R181): the ratio outside 0.08 to 0.92 on 100 consecutive frames. -/
def execRatioFault (n : Nat) (s : State) : Out :=
  .next (if lnUsed s n && (s.lane n).st.flows && 100 ≤ (s.lane n).ratioRun then laneRamp n 4 s else s)

/-- RAMPDOWN_DONE (R183): the current is small, or RD_TIMEOUT frames have passed. -/
def execRampdownDone (n : Nat) (s : State) : Out :=
  let l := s.lane n
  .next (if lnUsed s n && l.st = .rampdown && (10 * absN l.iMeas ≤ par s gLN n LN.I_RATED || par s gLN n LN.RD_TIMEOUT ≤ l.inState) then
    laneEnter n .off none (setLnen n false (lanePhasesEnd s n))
  else s)

/-- RETRY_ELAPSED (R183, R184); a lane under a protection hold stays in RETRY, and none leaves it in a SAFEn hold (R434, R436). -/
def execRetryElapsed (n : Nat) (s : State) : Out :=
  .next (if lnUsed s n && (s.lane n).st = .retry && (s.lane n).retryLeft = 0 && !laneHeld s s.jobs.safe n then laneEnter n .qualify none s else s)

/-- RETRY_BACKOFF_RESET (R184): 6,000,000 frames in RUN or SLACK. -/
def execRetryBackoffReset (n : Nat) (s : State) : Out :=
  .next (if lnUsed s n && (s.lane n).st.flows && 6000000 ≤ (s.lane n).upRun then s.modLane n fun l => { l with attempt := 0 } else s)

end Sys2Proof.Machine
end

