-- ==== Sys2Proof/Machine/Mods.lean ====
section
/-! DEFINITION. The modulators and the breakwater (05_phases_lanes_modulation R158 to R175, R187 to R198): one carrier cycle of a phase,
its compensator and plausibility, the limits of the breakwater, retirement and the end of a shed. -/

namespace Sys2Proof.Machine

/-! The carrier (R158 to R165). -/

/-- The period P in steps of 39.0625 ps of a frequency code: f is 20 kHz + code times 4 kHz (R158, R159). -/
def periodSteps (code : Nat) : Nat := (divHalfAway 25600000 (20 + 4 * code)).toNat

/-- The target offset of position q of m (R163). -/
def offsetTarget (q m P : Nat) : Int := if m = 0 then 0 else divHalfAway (q * P) m

/-- An offset error reduced into the range -P/2 to +P/2 (R164). -/
def reduceOffset (e : Int) (P : Nat) : Int := let r := e % (P : Int); if (P : Int) < 2 * r then r - P else r

/-- The correction of one period of a phase whose carrier lies off steps after a common origin, with position 0 at off0: the error bounded
to round(P/8); the carrier at position 0 is never moved (R163, R164). -/
def offsetStep (q m P : Nat) (off0 off : Int) : Int :=
  let b := divHalfAway P 8
  if q = 0 then 0 else clampI (-b) b (reduceOffset (off0 + offsetTarget q m P - off) P)

/-- The phase of lane n that the last commit put at position 0; none once it has left the active set, until the next commit (R163, R194). -/
def originPhase (s : State) (n : Nat) : Option Nat :=
  (lanePhases s n).find? fun y => let p := (s.mod y).pend; p.on && p.cnt ≠ 0 && p.pos == 0

/-- The high-side window of a period of P steps at duty d / 2^24 (R159). -/
def highWindow (P : Nat) (d : Int) : Int × Int :=
  let a := divHalfAway ((P : Int) * (2 ^ 24 - d)) (2 ^ 25)
  (a, a + divHalfAway ((P : Int) * d) (2 ^ 24))

/-- The low-side window beside it, with the dead times (R160). -/
def lowWindow (P : Nat) (w : Int × Int) (dtr dtf : Nat) : Int × Int := (w.2 + 16 * dtf, P + w.1 - 16 * dtr)

/-- The sample that the compensator takes: the first at or after the carrier peak, moved by PH[x].SAMPLE_SHIFT (R169). -/
def cycSelected (c : CycleIn) (shift : Int) : Int := c.samples.getD ((c.peak : Int) + shift).toNat 0

/-- The newest sample of the cycle. -/
def cycNewest (c : CycleIn) : Int := c.samples.getLastD 0

/-- A code carries the SAT flag (R115). -/
def satCode (i : Int) : Bool := i == -2048 || i == 2047

/-- A window shorter than MIN_PULSE does not pulse (R161). -/
def pulseOf (minPulse : Nat) (w : Int × Int) : Option (Int × Int) := if w.2 - w.1 < 16 * minPulse then none else some w

/-! The compensator (R170). -/

/-- A value wrapped into 32 signed bits. -/
def s32 (i : Int) : Int := toS 32 (ofS 32 i)

/-- The correction c[k] and the duty of one cycle, from the error of the cycle (R170). -/
def compensate (s : State) (n : Nat) (m : Modulator) (e dff : Int) : Int × Int :=
  let b (k : Nat) : Int := parS s gLN n k
  let t := s32 (b LN.CC_B0 * e + b LN.CC_B1 * m.e1 + b LN.CC_B2 * m.e2)
  let lim := 256 * parI s gLN n LN.CC_CLAMP
  let c := clampI (-lim) lim (s32 (m.c + t / 2 ^ (par s gLN n LN.CC_SHIFT)))
  let lo := 256 * parI s gLN n LN.DUTY_MIN
  let hi := 256 * parI s gLN n LN.DUTY_MAX
  let d := s32 (dff + c)
  let c := if d < lo then max c m.c else c
  let d := if d < lo then lo else d
  let c := if hi < d then min c m.c else c
  (c, if hi < d then hi else d)

/-- s of R170: -1 with the port on the low side, +1 on the high side. -/
def ccSign (s : State) (n : Nat) : Int := if portLow s n then -1 else 1

/-- The reference share in force as a code, bounded to the phase's limit (R170). -/
def boundedShare (s : State) (x : Nat) (share : Int) : Int :=
  let lim : Int := 10 * par s gPH x PH.I_LIMIT
  let a := shareCode s x (-lim)
  let b := shareCode s x lim
  clampI (min a b) (max a b) share

/-- The step, counted from the end of the on-time, at which the next on-time starts: where i_h and the ramp that falls at RI_SLOPE first
reach r_h, interpolated between samples 50 ns apart, and not before COT_TOFF_MIN; none where the samples do not reach it (R175). sums are
the sums of the newest samples in mA; all is doubled, the ramp falling by RI_SLOPE / 2 mA in 50 ns. -/
def cotTrigger (s : State) (n : Nat) (sums : List Int) : Option Nat :=
  let r := 2 * cotRef s n
  let v := (List.range sums.length).map fun k => -2 * ccSign s n * sums.getD k 0 - parI s gLN n LN.RI_SLOPE * k
  match (List.range v.length).find? fun k => v.getD k 0 ≤ r with
  | none => none
  | some 0 => some (16 * par s gLN n LN.COT_TOFF_MIN)
  | some (k + 1) =>
    let a := v.getD k 0
    some (max (16 * par s gLN n LN.COT_TOFF_MIN) (1280 * k + (divR (1280 * (a - r)) (a - v.getD (k + 1) 0)).toNat))

/-- The ACTIVE phase to which the next trigger goes: ascending rotation (R175). -/
def cotNext (s : State) (n x : Nat) : Option Nat :=
  let act := (activePhases s n).filter fun y => (s.mod y).switching
  match act.find? (x < ·) with | some y => some y | none => act.head?

/-- The frame-rate trim of phase x: toward its share, of a size that no rule states, within 25 % (R175; DESIGN CHOICE, log 79). -/
def cotTrim (s : State) (n x : Nat) : Int :=
  let e := -ccSign s n * ((s.phase x).share - (s.phase x).iMeas)
  sgn e * min 4194304 (absN (Config.openResult 4 e))

/-- The duty of a pulse in constant on-time mode: T_on / T after the trim of at most 25 % (R175). -/
def cotDuty (m : Modulator) : Int := m.cur.dff + m.cur.dff * clampI (-4194304) 4194304 m.trim / 2 ^ 24

/-! Plausibility (R193). -/

/-- The current of phase x in mA for a sample code. -/
def phaseMA (s : State) (x : Nat) (code : Int) : Int := correct s (40 + x) code 1

/-- Every count holds its value in this cycle (R193). -/
def countsHold (m : Modulator) : Bool := m.sinceOn < 32 || m.sinceStep < 32 || m.limited

/-- The count of a condition after a cycle. -/
def countNext (k : Nat) (cond : Bool) : Nat := if cond then k + 1 else 0

/-- The four counts and the duty range of the frozen count after a cycle with duty d (R193). -/
def plausible (s : State) (x : Nat) (c : CycleIn) (m : Modulator) (d : Int) : Modulator :=
  if countsHold m then m else
  let lim := par s gPH x PH.I_LIMIT
  let z := cycSelected c (parS s gPH x PH.SAMPLE_SHIFT)
  let i := phaseMA s x z
  let r := phaseMA s x m.cur.share
  let spread := absN (phaseMA s x (maxL 0 c.samples) - phaseMA s x (minL 0 c.samples))
  let k (j : Nat) : Nat := m.counts.getD j 0
  let c1 := if absN r < lim then k 0 else countNext (k 0) (35 * absN r < 100 * absN (i - r))
  let c2 := countNext (k 1) (satCode z)
  let same := m.lastCode == some z
  let c3 := countNext (k 2) same
  let c4 := countNext (k 3) (100 * spread < 15 * lim && 100 * absN i < 15 * lim && m.hiWin.isSome && m.loWin.isSome && 2 ^ 24 ≤ 20 * d && 20 * d ≤ 19 * 2 ^ 24)
  { m with counts := [c1, c2, c3, c4]
           dMin := if c3 ≤ 1 then d else min m.dMin d
           dMax := if c3 ≤ 1 then d else max m.dMax d }

/-- The cause of R193 whose count has reached its limit, the lowest first. -/
def failCause (m : Modulator) : Option Nat :=
  let k (j : Nat) : Nat := m.counts.getD j 0
  if 16 ≤ k 0 then some 1 else if 64 ≤ k 1 then some 2 else if 64 ≤ k 2 && 65536 ≤ m.dMax - m.dMin then some 3
  else if 64 ≤ k 3 then some 4 else none

/-! One cycle. -/

/-- The regulation of one cycle of a switching phase: compensator or constant on-time pulse, plausibility, duty (R170, R175, R193). -/
def Modulator.regulate (s : State) (n x : Nat) (c : CycleIn) (m : Modulator) : Modulator :=
  let m := plausible s x c m m.d
  let z := cycSelected c (parS s gPH x PH.SAMPLE_SHIFT)
  let e := ccSign s n * (boundedShare s x m.cur.share - z)
  let cd := if m.cur.mode = 1 then (m.c, cotDuty m) else compensate s n m e m.cur.dff
  { m with c := cd.1, d := cd.2, e2 := m.e1, e1 := e, lastCode := some z
           sinceOn := satN 65535 (m.sinceOn + 1), sinceStep := satN 65535 (m.sinceStep + 1)
           failed := match m.failed with | some k => some k | none => failCause m }

/-- The valley that ends the cycle: pending values are adopted (R162, R165, R173); a phase that starts switching begins with c and the
error history at 0 and the duty d_ff. -/
def Modulator.valley (s : State) (x : Nat) (m : Modulator) : Modulator :=
  let p := m.pend
  let step := par s gPH x PH.I_LIMIT < absN (phaseMA s x p.share - phaseMA s x m.cur.share)
  if p.on && !m.switching then
    { m with cur := p, switching := true, forcedLow := false, c := 0, e1 := 0, e2 := 0, d := p.dff, sinceOn := 0, sinceStep := 65535
             counts := [0, 0, 0, 0], lastCode := none, failed := none, limited := false }
  else if p.on then { m with cur := p, sinceStep := if step then 0 else m.sinceStep, limited := false }
  else { m with cur := p, switching := false, limited := false }

/-- Lane n carries a positive current, as the newest samples of its ACTIVE phases give it (R19, R177, R190). -/
def lanePositive (s : State) (n : Nat) : Bool := 0 < sumOf (fun x => phaseMA s x (s.mod x).sample) (activePhases s n)

/-- The cycle that begins on a phase of lane n keeps both outputs low while VLINK is above its threshold (R190). -/
def Modulator.linkCycle (s : State) (n : Nat) (m : Modulator) : Modulator := { m with linkLow := m.switching && s.linkOver && lanePositive s n }

/-- A phase that adopts a new period before position 0 does lags it by that much more afterwards (R163, R165); P0 is the period before. -/
def rebased (s : State) (n x P0 P : Nat) (off : Int) : Int :=
  match originPhase s n with
  | some y => if y ≠ x && (s.mod y).cur.freq ≠ (s.mod y).pend.freq then off + P - P0 else off
  | none => off

/-- The windows of the cycle that begins on phase x, in compensator mode, its period having been that of code f0: offset correction and
period (R164, R165), windows (R159, R160, R161). -/
def Modulator.windows (s : State) (n x f0 : Nat) (m : Modulator) : Modulator :=
  let P := periodSteps m.cur.freq
  let mp := par s gLN n LN.MIN_PULSE
  let off := rebased s n x (periodSteps f0) P m.offset
  if !m.switching then { m with hiWin := none, loWin := none, period := P, offset := off }
  else
    let st : Int := match originPhase s n with
      | some y => if m.cur.cnt = 0 || y = x then 0 else offsetStep m.cur.pos m.cur.cnt P (s.mod y).offset off
      | none => 0
    let T := (P + st).toNat
    let w := highWindow T m.d
    { m with offset := off + st, period := T
             hiWin := if m.linkLow then none else pulseOf mp w
             loWin := if m.linkLow then none else pulseOf mp (lowWindow T w m.cur.dtr m.cur.dtf), limited := m.linkLow }

/-- The pulse that a trigger off steps after the end of the on-time before starts in constant on-time mode (R175): the high-side window
lasts T_on; the low-side window ends at the phase's next trigger, which comes no earlier than COT_TOFF_MIN and whose time is open until
then (DESIGN CHOICE, log 80). The period runs from the on-time before. -/
def Modulator.pulse (s : State) (n off : Nat) (m : Modulator) : Modulator :=
  let P := periodSteps m.cur.freq
  let mp := par s gLN n LN.MIN_PULSE
  let on := (0, divHalfAway ((P : Int) * m.d) (2 ^ 24))
  let rest := max (16 * parI s gLN n LN.COT_TOFF_MIN) (Config.openResult 3 s.freeCtr)
  { m with period := (on.2 + off).toNat, limited := m.linkLow
           hiWin := if m.linkLow then none else pulseOf mp on
           loWin := if m.linkLow then none else pulseOf mp (on.2 + 16 * m.cur.dtf, on.2 + rest - 16 * m.cur.dtr) }

/-- A cycle that the link-overvoltage LIMIT has kept low spoils the learning window of its lane (R213). -/
def limitSpoils (n y : Nat) (s : State) : State := if (s.mod y).linkLow then s.modLane n fun l => { l with winBad := true } else s

/-- The pulse of phase y of lane n is triggered off steps after the end of the on-time before (R175). -/
def cotFire (n off y : Nat) (s : State) : State :=
  limitSpoils n y ((s.modMod y fun m => (m.linkCycle s n).pulse s n off).modLane n fun l => { l with cotLast := some y })

/-! A cycle of a phase, and a plausibility failure found in it (R187, R194 to R198). -/

/-- 24 h of powered time in frames. -/
def day : Nat := 8640000000

/-- The retirements within the last 24 h of powered time at a clock (R195). -/
def Ledger.within24h (l : Ledger) (clock : Nat) : Nat := satN 255 (countOf (fun t => decide (clock < t + day)) l.retired)

/-- The retirements of a phase within the last 24 h of powered time that its ledger holds (R195). -/
def retiredIn24h (s : State) (x : Nat) : Nat := (s.led x).within24h s.jobs.sched.clock

/-- A failure of phase x with a cause (R194, R195): both outputs low at once, and the phase is RETIRED, or WORN at its third retirement
within 24 h; its ledger keeps the time and the mark, and the flash record is owed within 100 ms. The WORN mark stands in flash at once,
since it survives every power cycle (R196; DESIGN CHOICE, log 81). A lane that has lost its last phase is OFF (R183). -/
def phaseFail (x cause : Nat) (s : State) : State :=
  let s := (phaseLow s x).modMod x fun m => { m with failed := some cause, failedAt := s.age }
  let s := s.modLed x fun l => { l with retired := (s.jobs.sched.clock :: l.retired).take 255, isRet := true, cause := cause }
  let worn := decide (3 ≤ retiredIn24h s x)
  let s := s.modLed x fun l => { l with worn := l.worn || worn }
  let s := s.modPhase x fun p => { p with st := if worn then .worn else .retired, cause := cause, nextSt := none }
  let s := if worn then s.modFlash fun f => { f with worn := f.worn.set x true } else s
  let s := { s with writer := { s.writer with retJobs := s.writer.retJobs ++ [(x, 0)] } }
  match laneOfPhase s x with
  | some n => laneNoPhases n s
  | none => s

/-- A switching phase is ACTIVE, another is SHED (R187). -/
def phaseFollows (x : Nat) (s : State) : State :=
  if (s.mod x).switching then s.modPhase x fun p => { p with st := .active }
  else s.modPhase x fun p => { p with st := if p.st = .active then .shed else p.st, shedding := none }

/-- The mean duty of the frame takes the duty that phase x adopts (R214). -/
def dutyTaken (x : Nat) (s : State) : State := s.modMod x fun m => if m.switching then { m with dSum := m.dSum + m.d, dN := m.dN + 1 } else m

/-- A pulse of phase x of lane n in constant on-time mode has run (R175): pending values are adopted, and the phase that had the turn
triggers the next one where i_h reaches r_h. A phase that starts joins the rotation, and begins it when no phase has the turn. -/
def cotCycle (n x : Nat) (c : CycleIn) (m : Modulator) (s : State) : State :=
  let turn := match (s.lane n).cotLast with
    | none => true
    | some y => y == x || !(s.mod y).switching
  let was := m.switching
  let m' := m.valley s x
  let s' := phaseFollows x (s.modMod x fun _ => if m'.switching && was then m' else { m' with hiWin := none, loWin := none })
  if !turn then dutyTaken x s'
  else if !was then (if m'.switching then cotFire n 0 x (dutyTaken x s') else s')
  else match cotTrigger s n c.sums with
    | none => s
    | some off => match cotNext s' n x with
      | some y => cotFire n off y (dutyTaken x s')
      | none => s'.modLane n fun l => { l with cotLast := none }

/-- CARRIER_CYCLE (R170): one carrier cycle of phase x of a lane, or one pulse of it in constant on-time mode. A failing phase has both
outputs low at once and is RETIRED or WORN (R194). A phase outside every lane, RETIRED or WORN has both outputs low (R187). -/
def execCarrierCycle (x : Nat) (c : CycleIn) (s : State) : Out :=
  .next (if nPh s ≤ x then s else
    let s := s.modMod x fun m => { m with sample := cycNewest c }
    match laneOfPhase s x with
    | none => if (s.mod x).switching then phaseLow s x else s
    | some n =>
      if (s.phase x).st == .retired || (s.phase x).st == .worn then s else
      let m := s.mod x
      let m := if m.switching then m.regulate s n x c else m
      match m.failed with
      | some k => phaseFail x k s
      | none =>
        (if m.pend.mode = 1 then cotCycle n x c m s
         else limitSpoils n x (dutyTaken x (phaseFollows x (s.modMod x fun _ => ((m.valley s x).linkCycle s n).windows s n x m.cur.freq)))).drawn 1)

/-! The breakwater (R190). -/

/-- The high-side output ends at count c for the rest of the cycle; the low side follows after its dead time (R190). -/
def Modulator.endHigh (c : Int) (m : Modulator) : Modulator :=
  match m.hiWin with
  | none => { m with limited := true }
  | some (a, b) =>
    if b ≤ c then { m with limited := true }
    else
      let e := match m.loWin with | some w => w.2 | none => (m.period : Int) + a - 16 * m.cur.dtr
      { m with limited := true, hiWin := if a < c then some (a, c) else none, loWin := if c + 16 * m.cur.dtf < e then some (c + 16 * m.cur.dtf, e) else none }

/-- The low-side output ends at count c for the rest of the cycle; the high side follows after its dead time, and goes on where it
conducts (R190). -/
def Modulator.endLow (c : Int) (m : Modulator) : Modulator :=
  let P : Int := m.period
  let lo := match m.loWin with | some w => if w.1 < c then some (w.1, min w.2 c) else none | none => none
  let start := match m.hiWin with | some (a, b) => if a ≤ c && c < b then a else c + 16 * m.cur.dtr | none => c + 16 * m.cur.dtr
  { m with limited := true, loWin := lo, hiWin := if start < P then some (start, P) else m.hiWin }

/-- PHASE_PEAK_LIMIT (R190): the comparator of phase x sees a current in mA at count c of the cycle. Past BW_IPK_POS, or below BW_IPK_NEG,
the output that drives the current further ends for the rest of the cycle. BW_COUNT goes up by 1 with each action, as R190 has it, though
R199 calls it a count of cycles: two actions in one cycle count twice (DESIGN CHOICE, log 98). -/
def execPhasePeakLimit (x : Nat) (peak : PeakIn) (s : State) : Out :=
  let c := peak.count
  .next (match laneOfPhase s x with
  | none => s
  | some n =>
    let pos := decide (10 * parI s gPH x PH.BW_IPK_POS < peak.current)
    let neg := decide (peak.current < -(10 * parI s gPH x PH.BW_IPK_NEG))
    if (s.mod x).switching && c < (s.mod x).period && (pos || neg) then
      let high := portLow s n == neg
      ((s.modMod x fun m => if high then m.endHigh c else m.endLow c).modPhase x
        fun p => { p with bwCount := incSat 32 p.bwCount }).modLane n fun l => { l with winBad := true }
    else s)

/-- The phases that the link-overvoltage LIMIT keeps low: those of the lanes with positive current that switch (R190). -/
def linkLimited (s : State) : List Nat :=
  those 16 fun x => (s.mod x).switching && (laneOfPhase s x).any (lanePositive s)

/-- Both outputs of phase x are low at once, in the cycle that runs, and the learning window of its lane is spoilt (R190, R213). -/
def linkLowNow (s : State) (x : Nat) : State :=
  let s := s.modMod x fun m => { m with linkLow := true, limited := true, hiWin := none, loWin := none }
  match laneOfPhase s x with
  | some n => limitSpoils n x s
  | none => s

/-- LINK_OVERVOLTAGE_LIMIT (R190): with VLINK above SRC[4].BW_VOV every phase of a lane with positive current keeps both outputs low in
each cycle, which each cycle decides anew, until VLINK is 1 % below the threshold. -/
def execLinkOvervoltageLimit (vlink : Nat) (s : State) : Out :=
  let thr := 100 * par s gSRC 4 SRC.LBW_VOV
  .next (if thr < vlink then (linkLimited s).foldl linkLowNow { s with linkOver := true }
  else if 100 * vlink < 99 * thr then { s with linkOver := false, mods := s.mods.map fun m => { m with linkLow := false } }
  else s)

/-! What the frame after a retirement tells (R194, R195), and the end of a shed (R188). -/

/-- The retirement of phase x for a cause is told, and PHASE_WORN after it when the phase is WORN (R194, R195). -/
def retireTell (x cause : Nat) (s : State) : State :=
  let s := (s.modMod x fun m => { m with failed := none }).modPhase x fun p => { p with newRet := true }
  let s := s.raiseRec Ev.PHASE_RETIRED (retiredIn24h s x * 2 ^ 16 + x * 2 ^ 8 + cause)
  if (s.phase x).st = .worn then s.raise Ev.PHASE_WORN x else s

/-- PHASE_RETIRED (R194, R195): in the frame after the one in which the modulator has found the failure. -/
def execPhaseRetired (x cause : Nat) (s : State) : Out :=
  .next (if x < nPh s && (s.mod x).failed = some cause && (s.mod x).failedAt < s.age && ((s.phase x).st = .retired || (s.phase x).st = .worn) then
    retireTell x cause s
  else s)

/-- PHASE_SHED_STOP (R188): a shedding phase stops both outputs at a valley once its current is within 2 % of its limit, or at the valley
after the next commit; current in mA. -/
def execPhaseShedStop (x : Nat) (current : Int) (s : State) : Out :=
  .next (match (s.phase x).shedding with
  | some k =>
    if k = 0 || (k = 1 && 10 * absN current ≤ 2 * par s gPH x PH.I_LIMIT) then phaseLow s x else s
  | none => s)

end Sys2Proof.Machine
end

