-- ==== Sys2Proof/Machine/LossMap.lean ====
section
/-! DEFINITION. The loss map (06_loss_map_scheduler R204 to R223): its layout, the default model, entries, learning, resets, and the wear
ledger's rainflow counter (R241 to R243). -/

namespace Sys2Proof.Machine

/-! Layout (R204, R205). -/

/-- The signature of lane n: KIND, PORT, PHASES, PORT_SIDE, I_RATED (R222). -/
def laneSig (s : State) (n : Nat) : List Nat :=
  if n < nLn s then [lnKind s n, lnPort s n, lnPhases s n, par s gLN n LN.PORT_SIDE, par s gLN n LN.I_RATED] else [0, 0, 0, 0, 0]

/-- The signatures of the lanes in force. -/
def laneSigs (s : State) : List (List Nat) := (List.range 6).map (laneSig s)

/-- The number of phases of a defined lane by its signature; 0 for an undefined one. -/
def sigPhases (g : List Nat) : Nat := if g.getD 0 0 = 0 then 0 else popCount 16 (g.getD 2 0)

/-- BASE(n) for a list of signatures (R204). -/
def baseOf (sigs : List (List Nat)) (n : Nat) : Nat := 768 * ((sigs.take n).map sigPhases).foldl (· + ·) 0

/-- The lane whose region holds index i (R204). -/
def laneOfIndex (s : State) (i : Nat) : Option Nat :=
  let sg := laneSigs s
  (List.range 6).find? fun n => baseOf sg n ≤ i && i < baseOf sg n + 768 * sigPhases (sg.getD n [])

/-- The index of R205. -/
def mapIndex (s : State) (n m band rbin cbin : Nat) : Nat := baseOf (laneSigs s) n + 768 * (m - 1) + 192 * band + 24 * rbin + cbin

/-! The default model (R210). -/

/-- 200^((c + 0.5) / 24) in 2^-40, rounded, for c = 0 to 23: I_c over 0.5 % of the rating (The default model and first use). -/
def centre : List Nat := [
  1227829183018, 1531137528562, 1909371567151, 2381040052533, 2969223921265, 3702705750470, 4617378223438, 5758000525852,
  7180388621279, 8954146586320, 11166072662377, 13924406698006, 17364126829012, 21653554587514, 27002591658743, 33672991348463,
  41991167391762, 52364166897915, 65299589061928, 81430424358120, 101546029713219, 126630755418503, 157912113975769, 196920848003191]

/-- k_band in hundredths. -/
def kBand (band : Nat) : Nat := [85, 100, 120, 140].getD band 140

/-- L_model in 1/64 W, rounded, saturated at 0xFFFF (R206, R210). -/
def lModel (s : State) (n m band cbin : Nat) : Nat :=
  let p (k : Nat) : Nat := par s gSCH n k
  let g := centre.getD cbin 0
  let ir := par s gLN n LN.I_RATED
  let num := m * m * p SCH.DEF_A * 10 ^ 13 * 2 ^ 80 + p SCH.DEF_R * kBand band * ir * ir * g * g * 25 +
    p SCH.DEF_E * (20 + 4 * p SCH.DEF_FREQ) * ir * p SCH.DEF_V * g * 500 * 2 ^ 40 * m
  satN 0xFFFF (divHalfAway ((64 * num : Nat) : Int) (10 ^ 15 * 2 ^ 80 * m)).toNat

/-- The entry with index i: what was learned, else the default model with CONF 0; outside every region 0 (R204, R210). -/
def mapEntry (s : State) (i : Nat) : MapEnt :=
  match laneOfIndex s i with
  | none => ⟨0, 0, 0, 0, 0, 0⟩
  | some n =>
    match assocGet s.jobs.sched.map i with
    | some e => e
    | none =>
      let o := i - baseOf (laneSigs s) n
      ⟨lModel s n (o / 768 + 1) (o % 768 / 192) (o % 24), par s gSCH n SCH.DEF_FREQ, 0, 0, 0, 0⟩

/-- Bytes 0 to 7 of an entry (R206). -/
def MapEnt.bytes (e : MapEnt) : List Byte := leBytes 2 e.loss ++ [byte e.freq, byte e.dtr, byte e.dtf, byte e.conf, byte e.count, 0]

/-- Bytes 0 to 7 of an entry as a number (R206, R245). -/
def mapEntryNum (s : State) (i : Nat) : Nat :=
  if nMap s ≤ i then 0 else
  let e := mapEntry s i
  leNat e.bytes

/-- The candidate of lane n with m phases at its present band and bins (R209). -/
def cand (s : State) (n m : Nat) : MapEnt :=
  let l := s.lane n
  mapEntry s (mapIndex s n m l.band l.rbin l.cbin)

/-- An entry is written. -/
def setEntry (i : Nat) (e : MapEnt) (s : State) : State := s.modSched fun c => { c with map := assocSet c.map i e }

/-! Persistence images (R222, R223). -/

/-- The image of the whole map (R222). -/
def mapImage (s : State) : List Byte := (List.range (nMap s)).flatMap fun i => (mapEntry s i).bytes

/-- The learned entries of an image from index i on: those with CONF above 0 (R206, R223). -/
def imageEntries : Nat → Nat → List Byte → List (Nat × MapEnt)
  | 0, _, _ => []
  | k + 1, i, b =>
    let e : MapEnt := ⟨fld b 0 2, fld b 2 1, fld b 3 1, fld b 4 1, fld b 5 1, fld b 6 1⟩
    let rest := imageEntries k (i + 1) (b.drop 8)
    if e.conf = 0 then rest else (i, e) :: rest

/-- The records of the wear-ledger region, newest first: the active bank, then the other (R244). -/
def Flash.recs (f : Flash) : List BankRec := f.banks.getD f.bank [] ++ f.banks.getD (1 - f.bank) []

/-- A record written into the wear-ledger region: a bank holds 512 records of 64 bytes, and a full one gives way to the other, erased
(R244). -/
def Flash.put (r : BankRec) (f : Flash) : Flash :=
  let b := f.banks.getD f.bank []
  if b.length < 512 then { f with banks := f.banks.set f.bank (r :: b) } else { f with bank := 1 - f.bank, banks := f.banks.set (1 - f.bank) [r] }

/-- The image of the newest directory record whose CRC matches (R223). -/
def Flash.newestImage (f : Flash) : Option (DirRec × List Byte) :=
  f.recs.findSome? fun r => match r with
    | .dir d => match assocGet f.sectors (d.gen % 16) with
      | some b => if crc32 b = d.crc then some (d, b) else none
      | none => none
    | .phase _ => none

/-! Resets (R211, R212, R223). -/

/-- The open learning window of a lane is dropped, and counted when a frame had joined it (R213, R245). -/
def Lane.dropWindow (l : Lane) : Lane :=
  { l with winSum := 0, winN := 0, winBad := false, discards := if l.winN = 0 then l.discards else incSat 32 l.discards }

/-- The region of lane n returns to the default model; LOSSMAP_RESET with its cause (R212). -/
def resetRegion (n cause : Nat) (s : State) : State :=
  let sg := laneSigs s
  let b := baseOf sg n
  let e := b + 768 * sigPhases (sg.getD n [])
  let s := s.modSched fun c => { c with map := c.map.filter fun p => !(b ≤ p.1 && p.1 < e) }
  (s.modLane n fun l => { l.dropWindow with pend := none, winDone := none }).raise Ev.LOSSMAP_RESET (cause * 2 ^ 8 + n)

/-- The lanes whose definition or BASE(n) differs between two lists of signatures (R212). -/
def movedLanes (old new : List (List Nat)) : List Nat :=
  those 6 fun n => old.getD n [] != new.getD n [] || (baseOf old n ≠ baseOf new n && sigPhases (new.getD n []) ≠ 0)

/-- After a stitch: every lane whose definition or BASE(n) has changed has its region reset, with cause 1 (R212). -/
def remap (s : State) : State :=
  let old := s.jobs.sched.sigs
  let new := laneSigs s
  let mv := movedLanes old new
  let keep (i : Nat) : Bool := match laneOfIndex s i with | some n => !mv.contains n | none => false
  let s := s.modSched fun c => { c with sigs := new, map := if mv.isEmpty then c.map else c.map.filter fun p => keep p.1 }
  mv.foldl (fun s n => (s.modLane n fun l => { l.dropWindow with pend := none, winDone := none }).raise Ev.LOSSMAP_RESET (1 * 2 ^ 8 + n)) s

/-- RESTORE_FACTORY keeps the loss map (R155): the lanes take their new definitions and no region is reset. -/
def keepMap (s : State) : State := s.modSched fun c => { c with sigs := laneSigs s }

/-- A change of a DEF_ parameter of lane n recomputes its CONF-0 entries (R210). -/
def redefault (n : Nat) (s : State) : State :=
  s.modSched fun c => { c with map := c.map.filter fun p => !(p.2.conf = 0 && laneOfIndex s p.1 == some n) }

/-! Learning (R215, R216). -/

/-- An entry returns to the default model and counts; LOSSMAP_QUARANTINE at most once in 100,000 frames per lane (R215, R216). -/
def quarantine (n i : Nat) (s : State) : State :=
  let quiet := match (s.lane n).quarAt with | some a => decide (s.age < a + 100000) | none => false
  let s := (s.modSched fun c => { c with map := assocDel c.map i }).modLane n fun l =>
    { l with quar := incSat 32 l.quar, quarAt := if quiet then l.quarAt else some s.age }
  if quiet then s else s.raise Ev.LOSSMAP_QUARANTINE (i * 2 ^ 16 + n)

/-- The update of entry i of lane n by a window mean L in 1/64 W, with the codes in force (R215). -/
def learn (n i : Nat) (L : Int) (p : Plan) (s : State) : State :=
  let e := mapEntry s i
  let o := i - baseOf (laneSigs s) n
  let M : Int := lModel s n (o / 768 + 1) (o % 768 / 192) (o % 24)
  let step := par s gSCH n SCH.CONF_STEP
  let codes (e : MapEnt) : MapEnt := { e with freq := p.freq, dtr := p.dtr, dtf := p.dtf }
  if L < M / 4 || 4 * M < L then s.modLane n fun l => { l with discards := incSat 32 l.discards }
  else if e.conf = 0 then
    match (s.lane n).pend with
    | some (j, q) =>
      if j = i && (L - q).natAbs ≤ (q / 8).toNat then
        (setEntry i (codes { e with loss := satN 0xFFFF ((L + q + 1) / 2).toNat, conf := step, count := 2 }) s).modLane n fun l => { l with pend := none }
      else s.modLane n fun l => { l with pend := some (i, L) }
    | none => s.modLane n fun l => { l with pend := some (i, L) }
  else
    let d := L - e.loss
    let a : Int := max (256 - (e.conf : Int)) 16
    let nw := (e.loss : Int) + a * d / 256
    if e.loss / 4 < (nw - e.loss).natAbs then quarantine n i s
    else
      let agree := d.natAbs ≤ e.loss / 8
      setEntry i (codes { e with
        loss := satN 0xFFFF nw.toNat
        conf := if agree then min (e.conf + step) 255 else max (e.conf - step) 1
        count := min (e.count + 1) 255 }) s

/-- The mean of n losses in 2^-24 uW whose sum is given, in 1/64 W, rounded (R215). -/
def windowMean (sum : Int) (n : Nat) : Int := divHalfAway (sum * 64) (n * 2 ^ 24 * 1000000)

/-! The wear ledger (R241 to R244). -/

/-- The 64-byte record of phase x at a clock (R244); a retirement that there has not been leaves 0 in RETIRE_T (DESIGN CHOICE, log 82). -/
def Ledger.record (l : Ledger) (x clock : Nat) : List Byte :=
  let b := l.bins.flatMap (leBytes 4) ++ leBytes 4 l.onTime ++ leBytes 8 l.energy ++ leBytes 4 (l.retired.getD 0 0 / 100000) ++
    leBytes 4 (l.retired.getD 1 0 / 100000) ++ [byte (l.within24h clock), byte (b2n l.worn), byte x] ++ rep 7 0
  b ++ leBytes 2 (crc16 b)

/-- A record of phase x with a valid CRC, read back (R244). RETIRE24 may count more retirements than the two whose times the record holds:
those others count as made at the older of the two (DESIGN CHOICE, log 97). -/
def ledgerOf (x : Nat) (b : List Byte) : Option Ledger :=
  if b.length = 64 && fld b 62 2 = crc16 (b.take 62) && fld b 54 1 = x then
    let t := (List.range 2).filter fun k => fld b (44 + 4 * k) 4 ≠ 0 || k < fld b 52 1
    let more := rep (fld b 52 1 - t.length) (fld b 48 4)
    some { bins := (List.range 8).map fun k => fld b (4 * k) 4, onTime := fld b 32 4, energy := fld b 36 8
           retired := (t.map fun k => fld b (44 + 4 * k) 4).map (100000 * ·) ++ more.map (100000 * ·), worn := bit (fld b 53 1) 0 }
  else none

/-- The newest record of phase x with a valid CRC; an empty ledger where there is none (R244). -/
def Flash.ledger (f : Flash) (x : Nat) : Ledger :=
  (f.recs.findSome? fun r => match r with | .phase b => ledgerOf x b | .dir _ => none).getD {}

/-- The bin of a range in 0.01 degC (R242). -/
def rangeBin (r : Nat) : Nat :=
  if r < 500 then 0 else if r < 1000 then 1 else if r < 2000 then 2 else if r < 3000 then 3 else if r < 4000 then 4
  else if r < 6000 then 5 else if r ≤ 8000 then 6 else 7

/-- Half cycles are added to the bin of a range. -/
def Ledger.addRange (l : Ledger) (r halves : Nat) : Ledger := { l with bins := modAt l.bins (rangeBin r) fun b => satN (2 ^ 32 - 1) (b + halves) }

/-- One application of the four-point rule to a stack, newest first: the stack and the range of the cycle counted (R241). -/
def fourPoint : List Int → Option (Nat × List Int)
  | d :: c :: b :: a :: rest =>
    if (b - c).natAbs ≤ (a - b).natAbs && (b - c).natAbs ≤ (c - d).natAbs then some ((b - c).natAbs, d :: a :: rest) else none
  | _ => none

/-- The rule applied as long as it counts. -/
def rainflow : Nat → List Int → Ledger → List Int × Ledger
  | 0, t, l => (t, l)
  | k + 1, t, l => match fourPoint t with
    | some (r, t') => rainflow k t' (l.addRange r 2)
    | none => (t, l)

/-- A turning point joins the stack of 32; a full stack counts its oldest range as a half cycle (R241). -/
def pushTurn (t : List Int) (v : Int) (l : Ledger) : List Int × Ledger :=
  let old := t.reverse
  let (t, l) := if 32 ≤ t.length then (t.dropLast, l.addRange ((old.getD 0 0 - old.getD 1 0).natAbs) 1) else (t, l)
  rainflow 32 (v :: t) l

/-- One sample of Tj: a turning point is recorded when Tj reverses by 2.0 degC from the running extreme (R241). -/
def sampleTj (tj : Int) (h : Therm) (l : Ledger) : Therm × Ledger :=
  match h.ext with
  | none => ({ h with ext := some (tj, 0) }, l)
  | some (e, dir) =>
    if dir = 0 then
      if 200 ≤ (tj - e).natAbs then
        let p := pushTurn h.turns e l
        ({ h with turns := p.1, ext := some (tj, sgn (tj - e)) }, p.2)
      else (h, l)
    else if 0 < dir * (tj - e) then ({ h with ext := some (tj, dir) }, l)
    else if 200 ≤ (tj - e).natAbs then
      let p := pushTurn h.turns e l
      ({ h with turns := p.1, ext := some (tj, -dir) }, p.2)
    else (h, l)

end Sys2Proof.Machine
end

