-- ==== Sys2Proof/Machine/Flags.lean ====
section
/-! DEFINITION. The read-only parameters: every status word bit by bit as its layout table gives it (R102, R200, R202, R281, R282, R318,
R362, R406, R407, R429, R430, R472, R497, R519, R533), and every measured value and counter. Results of the jobs come from the read
image (R97); what belongs to the command core, the outputs and the timers is read as it stands. -/

namespace Sys2Proof.Machine

/-- A saturated unsigned reading. -/
def sat16 (i : Int) : Nat := (clampI 0 65535 i).toNat

/-- The outputs of the jobs as the guard copies them, with the switch and enable outputs, the duties of the frame and the controller state
(R97). DUTY is in 2^-16 of the period, the adopted duty in 2^-24; R199 states no rounding (log 52). -/
def imageOf (s : State) : Jobs :=
  { s.jobs with
    outs := s.outs, phases := (List.range 16).map fun x => { s.phase x with duty := sat16 (divR (s.mod x).d 256) }
    ctlSt := s.ctl.state, haltC := s.ctl.haltCause }

/-- FAULTn asserted low (R456). -/
def faultLow (s : State) : Bool :=
  s.ctl.state == .halt || s.ctl.clockLost || s.ctl.powerFail || s.jobs.safe.hold || s.jobs.safe.link.on ||
  s.jobs.safe.stage.any (·.on) || s.jobs.safe.die.on || s.jobs.rails.st == .tripped || s.ctl.state == .safe ||
  (s.ctl.state == .boot && s.ctl.resetCause == 6 && !s.ctl.loader) || (par s gSAF 0 SAF.FAULT_FORCE == 1)

/-- EVENTn asserted low (R73); released in BOOT and in MOORED (R553). -/
def eventLow (s : State) : Bool := !s.host.events.isEmpty && s.ctl.state != .boot && s.ctl.state != .moored

/-- FAULTn as the guard found it, from the states of the jobs in the read image (R97, R456). -/
def faultShown (s : State) : Bool := faultLow { s with jobs := s.image, ctl := { s.ctl with state := s.image.ctlSt } }

/-- A rail is FAILED_UP: DEGRADED (R430, R533). -/
def anyFailedUp (j : Jobs) : Bool := j.rails.rails.any fun r => r.st == .failedUp

/-- GLB.STATUS (R533). The records are judged in BOOT, so their two bits read 0 until it has ended. -/
def statusWord (s : State) : Nat :=
  let boot := s.ctl.state == .boot
  b2n (eventLow s) * 2 ^ 15 + b2n (faultShown s) * 2 ^ 14 + b2n (anyFailedUp s.image) * 2 ^ 13 + b2n s.image.safe.hold * 2 ^ 12 +
  b2n (!boot && patternFailed s) * 2 ^ 11 + b2n (!boot && !selvOk s) * 2 ^ 10 +
  b2n (s.image.fleet.st == .islanded || s.image.fleet.cut) * 2 ^ 9 + s.image.link.holder * 2 ^ 4 + s.image.ctlSt.code

/-- The image slot whose firmware runs. -/
def runSlot (s : State) : FwSlot := s.flash.fw.getD s.ctl.slot {}
/-- VERSION of a firmware slot (R486). -/
def slotVersion (f : FwSlot) : Nat := match f.shipped with | some (v, _, _) => v | none => fld f.bytes 8 4
/-- BUILD of a firmware slot (R486). -/
def slotBuild (f : FwSlot) : Nat := match f.shipped with | some (_, b, _) => b | none => fld f.bytes 12 4
/-- FW_BUILD: the running build, 0 in the recovery loader (R495). -/
def fwBuild (s : State) : Nat := if s.ctl.loader then 0 else slotBuild (runSlot s)

/-- GLB.HOST_VER (R532). -/
def hostVer (s : State) : Nat := s.host.can.ver * 256 + s.host.i2c.ver * 16 + s.host.spi.ver

/-- FRM[j].STATUS (R102). -/
def frmStatus (s : State) (j : Nat) : Nat :=
  let x := s.image.frm.slots.getD j {}
  slotKind s j * 2 ^ 12 + b2n x.held * 2 ^ 11 + x.cut * 2 ^ 8 + x.consec

/-- The STATE field of PH[x].STATE: a phase outside every lane reads SHED (R187, R200). -/
def phCode (s : State) (x : Nat) : Nat := if (laneOfPhase s x).isNone then PhSt.shed.code else (s.image.phases.getD x {}).st.code

/-- PH[x].STATE (R200). -/
def phState (s : State) (x : Nat) : Nat :=
  let p := s.image.phases.getD x {}
  let l := laneOfPhase s x
  let slack := match l with | some n => (s.image.lanes.getD n {}).st == .slack && p.st == .active | none => false
  b2n slack * 2 ^ 15 + p.cause * 2 ^ 8 + (l.getD 7) * 2 ^ 4 + b2n l.isNone * 2 ^ 2 + phCode s x

/-- LN[n].STATE (R202). -/
def lnState (s : State) (n : Nat) : Nat :=
  let l := s.image.lanes.getD n {}
  l.cause * 2 ^ 8 + satN 15 l.attempt * 2 ^ 4 + l.st.code

/-- SRC[n].STATE (R281). -/
def srcState (s : State) (n : Nat) : Nat :=
  let x := s.image.srcs.getD n {}
  b2n (s.image.outs.swin.getD n false) * 2 ^ 15 + b2n x.icsHold * 2 ^ 14 + b2n x.sweep.isSome * 2 ^ 13 + b2n x.curtail * 2 ^ 12 +
  x.cause * 2 ^ 8 + x.st.code

/-- SRC[4].HOLDER (R282). -/
def holderWord (s : State) : Nat :=
  let l := s.image.link
  let step := match l.seam with | some m => m.step | none => 0
  let tgt := match l.seam with | some m => m.target | none => 0
  let low := if l.lownRan then ((List.range 6).find? fun k => bit l.lownMask k).getD 15 else 0
  b2n l.lown * 2 ^ 15 + b2n s.image.outs.swlink * 2 ^ 14 + step * 2 ^ 12 + tgt * 2 ^ 8 + low * 2 ^ 4 + l.holder

/-- CHG[p].STATE (R318). -/
def chgState (s : State) (p : Nat) : Nat :=
  let k := s.image.packs.getD p {}
  b2n k.unanch * 2 ^ 15 + b2n k.test.isSome * 2 ^ 14 + b2n k.topFor.isSome * 2 ^ 13 + b2n k.supOk * 2 ^ 12 + k.cause * 2 ^ 8 +
  k.region * 2 ^ 5 + b2n k.connect * 2 ^ 4 + k.ph.code

/-- The AUTH field of PRT[p].STATE (R362). -/
def authField (run : Bool) (res : Option Nat) : Nat :=
  if run then 3 else match res with | none => 0 | some 0 => 1 | some _ => 2

/-- PRT[p].STATE (R362). -/
def prtState (s : State) (p : Nat) : Nat :=
  let t := s.image.ports.getD p {}
  ratingCode { s with jobs := s.image } p * 2 ^ 13 + authField t.auth.isSome t.authRes * 2 ^ 11 + (if t.void then 0 else t.con.kind) * 2 ^ 9 + t.talk * 2 ^ 8 +
  b2n t.prov * 2 ^ 7 + t.st.code

/-- FLE[3].STATE (R406). -/
def fleState (s : State) : Nat :=
  let f := s.image.fleet
  b2n f.aligned * 2 ^ 15 + b2n f.slewing * 2 ^ 14 + b2n f.cut * 2 ^ 13 + (f.parent.getD 7) * 2 ^ 8 +
  (if f.st == .member || f.st == .root then f.fver else 0) * 2 ^ 6 + f.st.code

/-- FLE[p].LINK (R407): ROLE 1 parent, 2 child, 3 blocked, as a loop, for want of a common version, or for want of a passed check (R373,
R376, R377). -/
def fleLink (s : State) (q : Nat) : Nat :=
  let x := s.image.fleet.ports.getD q {}
  let unchecked := x.up && x.ver ≠ 0 && par s gFLE 3 FLE.AUTH_MODE = 2 && x.authRes ≠ some 0
  let role := if x.loop || x.noVer || unchecked then 3 else if s.image.fleet.parent == some q then 1 else if x.joined then 2 else 0
  let st := if x.auth.isSome then 3 else if x.authRes.isSome && x.authRes ≠ some 0 then 4 else if x.up then 2 else if x.upRun ≠ 0 then 1 else 0
  x.ver * 2 ^ 6 + role * 2 ^ 4 + b2n (x.authRes == some 0) * 2 ^ 3 + st

/-- SEQ[n].STATE (R429). -/
def seqState (s : State) (n : Nat) : Nat :=
  let r := s.image.rails.rails.getD n {}
  b2n r.good * 2 ^ 15 + b2n r.raw * 2 ^ 14 + b2n (s.image.outs.seqen.getD n false) * 2 ^ 13 + b2n r.ov * 2 ^ 12 + r.st.code

/-- The wait after the k-th consecutive trip, in frames (R419). -/
def tripWait (s : State) (k : Nat) : Nat := max (min (2 ^ (min k 7 - 1)) 60 * 100000) (par s gSEQ 8 SEQ.MIN_OFF)

/-- Frames left before a restart may begin: of the trip wait while TRIPPED, of the minimum off time while IDLE (R419, R421). -/
def tripNext (s : State) : Nat :=
  let r := s.image.rails
  match r.st with
  | .tripped => tripWait s r.k - r.tripFor
  | .idle => par s gSEQ 8 SEQ.MIN_OFF - r.offFor
  | _ => 0

/-- SEQ[8].STATE (R430). -/
def seqUnit (s : State) : Nat :=
  let r := s.image.rails
  b2n (anyFailedUp s.image) * 2 ^ 15 + b2n (tripNext s ≠ 0) * 2 ^ 14 + (r.group.getD 15) * 2 ^ 8 + satN 15 r.k * 2 ^ 4 + r.st.code

/-- The lanes that a hold of kind 2 to 4 lies on (R436, R437). -/
def lanesHeld (s : State) (f : Safety) : List Nat := those (nLn s) fun n => lnUsed s n && laneHeld s { f with hold := false } n

/-- SAF.PROT_HOLD (R471). -/
def protHold (s : State) : Nat :=
  let f := s.image.safe
  maskOf (lanesHeld s f) * 2 ^ 8 + b2n f.hold * 2 ^ 3 + b2n f.die.on * 2 ^ 2 + b2n (f.stage.any (·.on)) * 2 + b2n f.link.on

/-- SAF.WD_STATUS (R472). -/
def wdStatus (s : State) : Nat :=
  let f := s.image.safe
  b2n f.armed * 2 ^ 15 + b2n f.fault * 2 ^ 14 + b2n f.dup * 2 ^ 13 + f.wdCause * 2 ^ 4

/-- The level that timer t drives on its pin: its idle level while it is stopped (R505). -/
def tmrOut (s : State) (t : Nat) : Bool := if (s.timer t).run then (s.timer t).pin else par s gTMR t TMR.IO_IDLE == 1

/-- The level of pin TMRIOq: what a timer drives while the timers run, else the level that came in last (R499, R511, R516). -/
def tmrio (s : State) (q : Nat) : Bool :=
  match (List.range 16).find? fun t => s.live && tmrDrives s t == some q with
  | some t => tmrOut s t
  | none => bit s.timers.io q

/-- The level of the pin of timer t; low without a pin. -/
def tmrPin (s : State) (t : Nat) : Bool := let q := par s gTMR t TMR.IO_PIN; q < 8 && tmrio s q

/-- TMR[t].STATE (R519). -/
def tmrState (s : State) (t : Nat) : Nat :=
  let x := s.timer t
  b2n x.run * 2 ^ 15 + b2n x.down * 2 ^ 14 + b2n x.frozen * 2 ^ 13 + b2n x.ovf * 2 ^ 12 + b2n x.conv.isSome * 2 ^ 11 + b2n (tmrPin s t) * 2 ^ 10 +
  x.fifo.length

/-- SEC.FW_STATE (R497). -/
def fwState (s : State) : Nat :=
  let v (k : Nat) : Nat := b2n ((s.flash.fw.getD k {}).valid)
  (match s.fw with | some f => 2 ^ 15 + trNum f.tr * 2 ^ 13 + f.target * 2 ^ 11 | none => 0) +
  b2n s.flash.copyReq * 2 ^ 12 + s.ctl.slot * 2 ^ 10 + v 1 * 2 ^ 9 + v 0 * 2 ^ 8

/-- SEC.KEYS: the slots that hold a key (R496). -/
def keysMask (s : State) : Nat := maskOf (those 16 fun k => (keyAt s k).isSome)

/-- SEC.KEY_ID: the first 8 bytes of the SHA-256 of the selected key, 0 when empty (R496). -/
def keyId (s : State) : Nat :=
  match keyAt s (par s gSEC 0 SEC.KEY_SEL) with
  | some k => leNat ((sha256 k).take 8)
  | none => 0

/-- The selvedge record as the part holds it in OTP (R148, R535). -/
def selvWord (s : State) : Nat := selvStateOf s.params.selv

/-! The groups, each as the value of its read-only parameter with index k (first word) at instance i; 0 for a writable one. -/

/-- GLB (R532). -/
def roGLB (s : State) (k : Nat) : Int :=
  if k = GLB.STATUS then statusWord s else if k = GLB.FW_BUILD then fwBuild s else if k = GLB.PART then partCode s
  else if k = GLB.DIE_STEP then 0xB0 else if k = GLB.HOST_VER then hostVer s else if k = GLB.HOST_DROPS then s.host.drops
  else if k = GLB.CAN_CLASSIC then s.host.classic else 0

/-- FRM (R112). -/
def roFRM (s : State) (i k : Nat) : Int :=
  let f := s.image.frm
  let x := f.slots.getD i {}
  if i = 48 then
    if k = FRM.FRAME then f.frame else if k = FRM.LEN_LAST then f.lenLast else if k = FRM.DISC_RATE then f.rate
    else if k = FRM.STRETCHES then f.stretches else if k = FRM.SHRINKS then f.shrinks else if k = FRM.OVR_TOTAL then f.ovrTotal else 0
  else if k = FRM.STATUS then frmStatus s i else if k = FRM.OVR_COUNT then x.ovr else if k = FRM.RECOVERIES then x.recov
  else if k = FRM.STEP_MAX then x.maxStep else 0

/-- SNS (R156). -/
def roSNS (s : State) (i k : Nat) : Int :=
  let x := s.image.sense
  let c := x.chans.getD i {}
  if i = 57 then
    if k = SNS.GRANTED then x.granted else if k = SNS.CARRIED then x.carried else if k = SNS.TEL_MISSED then x.telMissed
    else if k = SNS.DEFERRED then s.jobs.sense.deferred else 0
  else if k = SNS.VALUE then c.value else if k = SNS.NEWEST then c.newV else if k = SNS.RAW then ofS 16 c.newest
  else if k = SNS.AGE then c.age else if k = SNS.TS_BAND then (x.pins.getD (i - 18) {}).bandWord else 0

/-- CAL (R535). -/
def roCAL (s : State) (k : Nat) : Int :=
  let failed := those 57 fun c => chanPresent s c && !(s.params.pattern.getD c {}).crcOk
  if k = CAL.SELV_STATE then selvWord s else if k = CAL.JOURNAL_USED then s.flash.journal.length else if k = CAL.PATTERN_FAILED then failed.length
  else if k = CAL.ALTER_MASK then maskOf (s.params.alts.map (·.1)) else if k = CAL.PATTERN_MASK then maskOf failed else 0

/-- PH (R199). -/
def roPH (s : State) (i k : Nat) : Int :=
  let p := s.image.phases.getD i {}
  if k = PH.STATE then phState s i else if k = PH.I_MEAS then p.iMeas else if k = PH.DUTY then p.duty
  else if k = PH.BW_COUNT then p.bwCount else 0

/-- LN (R201). -/
def roLN (s : State) (i k : Nat) : Int :=
  let l := s.image.lanes.getD i {}
  if k = LN.STATE then lnState s i else if k = LN.I_MEAS then l.iMeas else if k = LN.RATIO then l.ratio
  else if k = LN.LIMIT_POS then sat16 (divR l.limPos 10) else if k = LN.LIMIT_NEG then sat16 (divR l.limNeg 10)
  else if k = LN.FREQ then laneFreq { s with jobs := s.image } i else if k = LN.RETRIES then l.retries else if k = LN.RETRY_NEXT then (if l.st = .retry then l.retryLeft else 0) else 0

/-- SRC (R280). -/
def roSRC (s : State) (i k : Nat) : Int :=
  let x := s.image.srcs.getD i {}
  let v (c : Nat) : Int := (s.image.sense.chans.getD c {}).value
  if i = 4 then
    if k = SRC.LV_MEAS then v 16 else if k = SRC.VSET_EFF then sat16 (divR s.image.link.vsetEff 100) else if k = SRC.HOLDER then holderWord s
    else if k = SRC.SEAMS then s.image.link.seams else 0
  else if k = SRC.STATE then srcState s i else if k = SRC.V_MEAS then v i else if k = SRC.I_MEAS then v (4 + i) else if k = SRC.VOC then x.voc
  else if k = SRC.V_REF then sat16 (divR x.vRef 100) else if k = SRC.VMPP_AGE then x.vmppAge else if k = SRC.VMPP_LAST then x.vmpp
  else if k = SRC.I_REF then x.iRef else if k = SRC.ICS_FOUND then x.icsFound else if k = SRC.P_AVAIL then x.pAvail else 0

/-- CHG (R315). -/
def roCHG (s : State) (i k : Nat) : Int :=
  let p := s.image.packs.getD i {}
  let v (c : Nat) : Int := (s.image.sense.chans.getD c {}).value
  if i = 16 then (if k = CHG.C_MAX then s.image.unit.cMax else if k = CHG.S_MAX then s.image.unit.sMax else 0)
  else if 4 ≤ i then 0
  else if k = CHG.STATE then chgState s i else if k = CHG.SOC then p.soc * 1000 / 2 ^ 48 else if k = CHG.V_MEAS then v (8 + i)
  else if k = CHG.I_MEAS then v (12 + i) else if k = CHG.V_CHG then sat16 (divR p.vChg 100) else if k = CHG.V_FLOOR_EFF then sat16 (divR p.vFloor 100)
  else if k = CHG.I_CHG then sat16 (divR p.iChg 10) else if k = CHG.I_DIS then sat16 (divR p.iDis 10) else if k = CHG.SHARE then p.share
  else if k = CHG.PRE_RETRIES then p.retries else if k = CHG.CAP_MEAS then p.capMeas else if k = CHG.AH_THRU then p.ahThru / 36000000000 else 0

/-- SCH (R245). -/
def roSCH (s : State) (i k : Nat) : Int :=
  let l := s.image.lanes.getD i {}
  if i = 48 then
    if k = SCH.SITE_CHG then s.image.sched.siteChg else if k = SCH.SITE_DIS then s.image.sched.siteDis
    else if k = SCH.MAP_ENTRY then mapEntryNum { s with jobs := s.image } (par s gSCH 48 SCH.MAP_SEL)
    else if k = SCH.PERSIST_GEN then s.image.sched.gen else 0
  else if 16 ≤ i then (if k = SCH.TJ then ((s.image.sched.therm.getD (i - 16) {}).tj).getD 0 else 0)
  else if k = SCH.PLAN then l.plan.mask else if k = SCH.ENTRY then l.plan.entry
  else if k = SCH.BOUND then (match [l.heat, l.site].filterMap id with | [] => 0xFFFF | b => sat16 (divR (minL 0 b) 10))
  else if k = SCH.QUAR_COUNT then l.quar else if k = SCH.DISCARDS then l.discards else 0

/-- PRT (R361). -/
def roPRT (s : State) (i k : Nat) : Int :=
  let t := s.image.ports.getD i {}
  let z := { s with jobs := s.image }
  let pk (f : PkCaps → Nat) : Int := (t.pk.map f).getD 0
  let st (f : PkStat → Option Nat) : Int := (t.stat.bind f).getD 0
  if k = PRT.STATE then prtState s i else if k = PRT.VER then t.ver
  else if k = PRT.CON_V then (match t.con with | .supply v .. => if t.void then 0 else v | _ => 0)
  else if k = PRT.CON_I then (match t.con with | .supply _ o .. => if t.void then 0 else o | _ => 0)
  else if k = PRT.CABLE_V then (if (knownCodes t).isEmpty then 0 else ratingV z i)
  else if k = PRT.CABLE_I then (if (knownCodes t).isEmpty then 0 else min (ratingI z i true) (ratingI z i false))
  else if k = PRT.PK_CHEM then pk (·.chem) else if k = PRT.PK_CELLS then pk (·.cells) else if k = PRT.PARTNER_SERIAL then pk (·.serial)
  else if k = PRT.PK_CAP then pk (·.cap) else if k = PRT.PK_SOH then pk (·.soh)
  else if k = PRT.PK_VMAX then conVmax t else if k = PRT.PK_VMIN then conVmin t else if k = PRT.PK_ICHG then conIchg t else if k = PRT.PK_IDIS then conIdis t
  else if k = PRT.PK_SOC then st (·.soc) else if k = PRT.PK_TEMP then (t.stat.bind (·.temp)).getD 0
  else if k = PRT.PK_SPREAD then ((conSpread t).getD 0 : Nat) else if k = PRT.PK_AGE then ((conAge t).getD 0xFFFFFFFF : Nat)
  else if k = PRT.SOFT_RESETS then t.softN else if k = PRT.HARD_RESETS then t.hardN else if k = PRT.RESENDS then t.resends
  else if k = PRT.CRC_ERRORS then t.crcErr else 0

/-- FLE (R405). -/
def roFLE (s : State) (i k : Nat) : Int :=
  let f := s.image.fleet
  let x := f.ports.getD i {}
  if i = 3 then
    if k = FLE.STATE then fleState s else if k = FLE.ADDR then f.addr else if k = FLE.DEPTH then f.depth else if k = FLE.FLEET_DEPTH then f.fdepth
    else if k = FLE.ROOT_SERIAL then f.rootSer else if k = FLE.OFFSET then f.offset else if k = FLE.EVT_LOST then f.evLost
    else if k = FLE.UNITS then f.units else 0
  else if k = FLE.LINK then fleLink s i else if k = FLE.HOP_DELAY then x.hop else if k = FLE.CRC_ERRORS then x.crcErr
  else if k = FLE.RESENDS then x.resends else 0

/-- SEQ (R427, R428). -/
def roSEQ (s : State) (i k : Nat) : Int :=
  let r := s.image.rails.rails.getD i {}
  if i = 8 then (if k = SEQ.USTATE then seqUnit s else if k = SEQ.TRIPS then s.image.rails.trips else if k = SEQ.TRIP_NEXT then tripNext s else 0)
  else if 8 ≤ i then 0
  else if k = SEQ.STATE then seqState s i else if k = SEQ.V_MEAS then (s.image.sense.chans.getD (26 + i) {}).newV
  else if k = SEQ.CHATTER then r.chatter else if k = SEQ.RISE_FRAMES then r.rise else 0

/-- SAF (R471). -/
def roSAF (s : State) (k : Nat) : Int :=
  let f := s.image.safe
  if k = SAF.WD_STATUS then wdStatus s else if k = SAF.WD_ELAPSED then f.elapsed else if k = SAF.WD_TIMEOUTS then f.timeouts
  else if k = SAF.WD_SEEN then f.seen else if k = SAF.HALT_CAUSE then s.image.haltC else if k = SAF.PROT_HOLD then protHold s
  else if k = SAF.RESET_CAUSE then s.ctl.resetCause else if k = SAF.CORE_RESTARTS then s.coreRst else if k = SAF.POWER_FAILS then s.flash.pfails
  else if k = SAF.REC_COUNT then s.flash.recNo else if k = SAF.REC_SKIPPED then s.records.skipped else 0

/-- TMR (R518): the timers are read as they stand. -/
def roTMR (s : State) (i k : Nat) : Int :=
  let t := s.timer i
  if 16 ≤ i then 0
  else if k = TMR.CAPTURE then t.capture else if k = TMR.FIFO then t.fifo.headD 0 else if k = TMR.STATE then tmrState s i
  else if k = TMR.CONV_MISSED then t.missed else 0

/-- TEL (R473). -/
def roTEL (s : State) (i k : Nat) : Int :=
  let e := s.image.energy.getD (i - 48) {}
  if i < 48 then 0 else if k = TEL.E_POS then e.pos else if k = TEL.E_NEG then e.neg else 0

/-- SEC (R496). -/
def roSEC (s : State) (k : Nat) : Int :=
  let ver (n : Nat) : Nat := let f := s.flash.fw.getD n {}; if f.valid then slotVersion f else 0
  if k = SEC.KEYS then keysMask s else if k = SEC.ROLLBACK then s.otp.fuses else if k = SEC.FW_STATE then fwState s
  else if k = SEC.KEY_ID then keyId s else if k = SEC.SERIAL then s.ident.serial else if k = SEC.FW_VERSION_A then ver 0
  else if k = SEC.FW_VERSION_B then ver 1 else 0

/-- The value of a read-only parameter. -/
def roVal (s : State) (g i k : Nat) : Int :=
  match g with
  | 0 => roGLB s k | 1 => roFRM s i k | 2 => roSNS s i k | 3 => roCAL s k | 4 => roPH s i k | 5 => roLN s i k | 6 => roSRC s i k
  | 7 => if 8 ≤ i && i ≤ 15 then parS s g i k else roCHG s i k
  | 8 => roSCH s i k | 9 => roPRT s i k | 10 => roFLE s i k | 11 => roSEQ s i k | 12 => roSAF s k
  | 13 => roTMR s i k | 14 => roTEL s i k | 15 => roSEC s k | _ => 0

/-- The bits of a live parameter that the hardware changes itself: the largest step (R112), the adopted timer values (R503, R515), and
the requests that read 0 because they act once. -/
def liveVal (s : State) (g i k : Nat) : Option Nat :=
  if g = gFRM && k = FRM.STEP_MAX && i < 48 then some (s.image.frm.slots.getD i {}).maxStep
  else if g = gTMR && k = TMR.COUNT && i < 16 then some (s.timer i).count
  else none

/-- The bits of a parameter as a read shows it. -/
def readBits (s : State) (d : ParamDef) (id : Nat) : Nat :=
  match d.attr with
  | .ro => ofS d.width (roVal s (idGroup id) (idInst id) d.idx)
  | _ => (liveVal s (idGroup id) (idInst id) d.idx).getD (valBits s d id)

/-- The word that a read of an ID shows without a latch; 0 for an absent ID (R521). -/
def readWord (s : State) (id : Nat) : Word :=
  match paramAt s.ident.big id with
  | some d => (toWords d.words (readBits s d (firstId d id))).getD (id - firstId d id) 0
  | none => 0

end Sys2Proof.Machine
end

