-- ==== Sys2Proof/Machine/Sched.lean ====
section
/-! DEFINITION. The scheduler and the ledger job (06_loss_map_scheduler R213 to R244): learning windows, thermal model, heat and site
bounds, the plan of each lane, shedding, rotation, probes, ledger counts, and the commands of their thresholds. -/

namespace Sys2Proof.Machine

/-! Thermal model (R224 to R227). -/

/-- The temperatures published by valid pins. -/
def validTemps (s : State) : List Int := (List.range (nTs s)).filterMap fun k => if (s.pin k).unusable then none else (s.pin k).temp

/-- T_pin of phase x in 0.01 degC (R224, R226). -/
def tPin (s : State) (x : Nat) : Option Int :=
  let p := s.pin (par s gPH x PH.TS_PIN)
  let hot := maxBy id (validTemps s)
  if p.faulted then (match p.temp, hot with | some a, some b => some (max a b) | some a, none => some a | none, b => b)
  else match p.temp with
    | some t => some t
    | none => hot

/-- One frame of dT for phase x of a lane with m ACTIVE phases: loss in 2^-24 uW, dT in 2^-32 of 0.01 degC (R224). -/
def stepDT (s : State) (dT loss : Int) (m : Nat) : Int :=
  let k : Int := (max m 1) * 10000000
  let p := if m = 0 then 0 else loss * 256 * parI s gSCH 48 SCH.RTH
  dT + divR (p - dT * k) (k * 100 * parI s gSCH 48 SCH.TAU)

/-- The thermal model of phase x after this frame (R224). -/
def thermStep (s : State) (x : Nat) : Therm :=
  let h := s.jobs.sched.therm.getD x {}
  let (loss, m) : Int × Nat := match laneOfPhase s x with
    | some n => if (s.phase x).st == .active then ((s.lane n).loss, (activePhases s n).length) else (0, 0)
    | none => (0, 0)
  let dT := stepDT s h.dT loss m
  { h with dT := dT, tj := (tPin s x).map fun t => t + divR dT (2 ^ 32) }

/-- Tj of phase x in 0.01 degC. -/
def tjOf (s : State) (x : Nat) : Option Int := (s.jobs.sched.therm.getD x {}).tj

/-- The headroom of phase x in 0.01 degC; 0 where it has no temperature (R224, R226). -/
def headroom (s : State) (x : Nat) : Int := match tjOf s x with | some t => 10 * parI s gSCH 48 SCH.TJ_MAX - t | none => 0

/-- The headroom of lane n in 0.01 degC (R224). -/
def laneHeadroom (s : State) (n : Nat) : Int :=
  let a := activePhases s n
  minL 0 ((if a.isEmpty then soundPhases s n else a).map (headroom s))

/-- The heat bound of lane n in mA (R227). -/
def heatBound (s : State) (n : Nat) : Option Int :=
  let e := soundPhases s n
  let h := laneHeadroom s n
  let span := 10 * parI s gSCH 48 SCH.DERATE_SPAN
  if !e.isEmpty && e.all (fun x => (s.phase x).st == .active) && h < span then some (divR (10 * parI s gLN n LN.I_RATED * max h 0) span) else none

/-- The heat bound of lane n takes its value of this frame; THERMAL_DERATE on the first frame of an episode, which ends after 100,000
frames with the headroom at or above the span (R227). -/
def heatStep (s : State) (n : Nat) : State :=
  let l := s.lane n
  let b := heatBound s n
  let h := laneHeadroom s n
  let cool := 10 * parI s gSCH 48 SCH.DERATE_SPAN ≤ h
  let ep := match l.derate with
    | none => if b.isSome then some 0 else none
    | some k => if b.isSome || !cool then some 0 else if 100000 ≤ k + 1 then none else some (k + 1)
  let s := s.modLane n fun l => { l with heat := b, derate := ep }
  if b.isSome && l.derate.isNone then s.raise Ev.THERMAL_DERATE (n * 2 ^ 8 + (clampI 0 255 (h / 10)).toNat) else s

/-! Site budget (R228 to R230). -/

/-- A share in W: the lower of the fleet's and the local limit; none where neither limits (R228). -/
def shareW (fleet loc : Nat) : Option Nat :=
  match (if fleet = 0xFFFFFFFF then none else some fleet), (if loc = 0 then none else some loc) with
  | some a, some b => some (min a b)
  | some a, none => some a
  | none, b => b

/-- The charge share and the supply share in force (R228). -/
def chgShare (s : State) : Option Nat := shareW s.jobs.sched.siteChg (par s gSCH 48 SCH.LOCAL_CHG)
def disShare (s : State) : Option Nat := shareW s.jobs.sched.siteDis (par s gSCH 48 SCH.LOCAL_DIS)

/-- The reference of a lane as it stands before any site bound, so that a share of 0 holds and the need counts it (R29, R230); a lane that
its own loops do not drive has the reference left to it. -/
def freeRef (l : Lane) : Int := if laneDrives l then l.uFree else l.ref

/-- The lanes counted against the charge share: pack and partner lanes whose reference carries current from the link (R228, R229). -/
def chgLanes (s : State) : List Nat := those (nLn s) fun n => (lnKind s n == 3 || lnKind s n == 4) && freeRef (s.lane n) < 0
/-- The lanes counted against the supply share: pack lanes whose reference carries current to the link. -/
def disLanes (s : State) : List Nat := those (nLn s) fun n => lnKind s n == 3 && 0 < freeRef (s.lane n)

/-- The sum of VLINK times |u| over lanes, in uW, u as it stands before any site bound (R229, R230). -/
def sitePower (s : State) (ls : List Nat) : Int := sumOf (fun n => vLink s * (absN (s.lane n).uFree : Int)) ls

/-- The site bound of lane n in mA, never above its part of the share (R29, R229). -/
def siteBound (s : State) (n : Nat) : Option Int :=
  let one (ls : List Nat) (sh : Option Nat) : Option Int := match sh with
    | some w => let P := sitePower s ls
                if ls.contains n && (w : Int) * 1000000 < P then some ((absN (s.lane n).uFree : Int) * w * 1000000 / P) else none
    | none => none
  match one (chgLanes s) (chgShare s) with
  | some b => some b
  | none => one (disLanes s) (disShare s)

/-- The site bounds of all lanes and the unit's need; SITE_LIMITED once per episode, which ends after 100,000 frames (R229, R230). -/
def siteStep (s : State) : State :=
  let bs := (List.range (nLn s)).map (siteBound s)
  let hit := those (nLn s) fun n => (bs.getD n none).isSome
  let supply := hit.all fun n => (disLanes s).contains n
  let e := s.jobs.sched.siteEp
  let ep := if !hit.isEmpty then some 0 else match e with | some k => if 100000 ≤ k + 1 then none else some (k + 1) | none => none
  let s' := s.modJobs fun j => { j with lanes := (List.range 6).map fun n => { s.lane n with site := bs.getD n none } }
  let s' := s'.modSched fun c => { c with siteEp := ep, needChg := divR (sitePower s (chgLanes s)) 1000, needDis := divR (sitePower s (disLanes s)) 1000 }
  if !hit.isEmpty && e.isNone then s'.raise Ev.SITE_LIMITED (b2n supply * 2 ^ 8 + maskOf hit) else s'

/-! Choosing the set (R237). -/

/-- D(x) of R237. -/
def wearOf (s : State) (x : Nat) : Nat :=
  (((s.led x).bins.zip [1, 8, 64, 216, 512, 1728, 4096, 8000]).map fun p => p.1 * p.2).foldl (· + ·) 0

/-- The key of phase x among the eligible phases e, scaled by the wear range (R237). -/
def rankKey (s : State) (n : Nat) (e : List Nat) (x : Nat) : Int :=
  let ds := e.map fun y => (wearOf s y : Int)
  let lo := minL 0 ds
  let r := max (maxL 0 ds - lo) 1
  (tjOf s x).getD 0 * r + 10 * parI s gSCH n SCH.WEAR_K * (wearOf s x - lo)

/-- The scale of those keys. -/
def rankScale (s : State) (e : List Nat) : Int :=
  let ds := e.map fun y => (wearOf s y : Int)
  max (maxL 0 ds - minL 0 ds) 1

/-- Phase x ranks before phase y: a phase without a temperature last, then the key, ON_HOURS and the number (R226, R237). -/
def ranksBefore (s : State) (n : Nat) (e : List Nat) (x y : Nat) : Bool :=
  let nx := (tjOf s x).isNone
  let ny := (tjOf s y).isNone
  if nx != ny then ny else
  let kx := rankKey s n e x
  let ky := rankKey s n e y
  if kx ≠ ky then kx < ky else if (s.led x).onTime ≠ (s.led y).onTime then (s.led x).onTime < (s.led y).onTime else x < y

/-- The list with x inserted in rank order. -/
def insertRank (lt : Nat → Nat → Bool) (x : Nat) : List Nat → List Nat
  | [] => [x]
  | y :: l => if lt x y then x :: y :: l else y :: insertRank lt x l

/-- Phases in rank order, the lowest key first. -/
def ranked (s : State) (n : Nat) (l : List Nat) : List Nat := l.foldr (insertRank (ranksBefore s n (soundPhases s n))) []

/-! The plan (R232 to R236). -/

/-- The ACTIVE set of the plan in force. -/
def planSet (s : State) (n : Nat) : List Nat := sharers s n

/-- The current the lane needs in mA (R232). -/
def iNeed (l : Lane) : Nat :=
  let a := l.peaks.foldl max (absN l.u)
  match schBound l with | some b => min a b.toNat | none => a

/-- m_min of lane n before the heat rule: bounded to 1..|E| (R232). -/
def mMinBase (s : State) (n : Nat) : Nat :=
  let e := soundPhases s n
  let least := (minL 0 (e.map fun x => (par s gPH x PH.I_LIMIT : Int))).toNat
  let d := par s gSCH n SCH.PH_LOAD * least
  let k := if d = 0 then e.length else ceilDiv (10 * iNeed (s.lane n)) d
  min (max k 1) e.length

/-- m_min of lane n (R232). -/
def mMin (s : State) (n : Nat) : Nat :=
  let a := planSet s n
  let m := mMinBase s n
  if a.any (fun x => headroom s x < 500) then min (max m (a.length + 1)) (soundPhases s n).length else m

/-- The m in lo..hi with the least LOSS, ties to the larger (R232). -/
def bestM (s : State) (n lo hi : Nat) : Nat :=
  (List.range (hi + 1 - lo)).foldl (fun b k => if (cand s n (lo + k)).loss ≤ (cand s n b).loss then lo + k else b) lo

/-- The power entering the lane in uW. -/
def powerIn (l : Lane) : Int := if 0 ≤ l.iMeas then l.pPort else -(l.pLink / 2 ^ 24)

/-- The loss b is lower than the loss a by more than the hysteresis (R232). -/
def beats (s : State) (n a b : Nat) : Bool :=
  let d := ((cand s n a).loss : Int) - (cand s n b).loss
  16 < d && powerIn (s.lane n) * par s gSCH n SCH.HYST * 64 < d * 10000000000

/-- The number of phases that SLACK aims at (R232). -/
def slackTarget (s : State) (n : Nat) : Nat := min (par s gSCH n SCH.SLACK_PHASES) (soundPhases s n).length

/-- What the scheduler decides of a lane: the phases to run, the SHED_HOLD count, whether a shed step is wanted (R232). -/
def decide232 (s : State) (n : Nat) : Nat × Nat × Bool :=
  let l := s.lane n
  let a := (planSet s n).length
  let e := (soundPhases s n).length
  let mm := mMin s n
  match l.st with
  | .slack => (max (slackTarget s n) a, 0, decide (slackTarget s n < a))
  | .softstart => (max mm a, 0, false)
  | _ =>
    let mb := bestM s n mm e
    if a < mm then (max mm mb, 0, false)
    else if a < mb && beats s n a mb then (mb, 0, false)
    else if mb < a && beats s n a mb then
      let r := if l.shedBlock = 0 then l.shedRun + 1 else 0
      (a, r, par s gSCH n SCH.SHED_HOLD ≤ r)
    else (a, 0, false)

/-- The plan with a mask of phases, the codes of its candidate bounded by F_MIN and F_MAX, and its entry; in SLACK the candidate is that of
the target, though more phases may still run (R209, R232). -/
def planOf (s : State) (n mask : Nat) : Plan :=
  let m := max (if (s.lane n).st = .slack then slackTarget s n else popCount 16 mask) 1
  let c := cand s n m
  let l := s.lane n
  { mask := mask, freq := min (max c.freq (par s gLN n LN.F_MIN)) (par s gLN n LN.F_MAX), dtr := c.dtr, dtf := c.dtf
    entry := mapIndex s n m l.band l.rbin l.cbin }

/-- A new plan for lane n; a change starts the settling of the learning window (R213, R233). -/
def setPlan (n : Nat) (p : Plan) (s : State) : State :=
  s.modLane n fun l => if l.plan.mask = p.mask && l.plan.freq = p.freq && l.plan.dtr = p.dtr && l.plan.dtf = p.dtf then { l with plan := p }
    else { l.dropWindow with plan := p, planFor := 0, steady := 0 }

/-- A probe ends without a result; a lane returns to the plan it came from (R220). -/
def dropProbe (n : Nat) (s : State) : State :=
  match (s.lane n).probe with
  | none => s
  | some p => (setPlan n p.base s).modLane n fun l => { l with probe := none, discards := incSat 32 l.discards }

/-- A probe of lane n may start but for its grant (R218). -/
def probeOk (s : State) (n : Nat) : Bool :=
  let l := s.lane n
  lnUsed s n && l.st == .run && par s gSCH n SCH.STEADY ≤ l.steady && par s gSCH n SCH.PROBE_EN = 1 && l.probe.isNone &&
  (match l.probeFor with | some k => decide (max (par s gSCH n SCH.PROBE_GAP) 1000 ≤ k) | none => true) &&
  (match l.surgeFor with | some k => decide (10000 ≤ k) | none => true) &&
  500 ≤ laneHeadroom s n && (soundPhases s n).all (fun x => (tPin s x).isSome)

/-- A grant to a lane whose probe may not start any more is withdrawn (R218). -/
def probeWithdraw (n : Nat) (s : State) : State :=
  if (s.lane n).probeGo && !probeOk s n then s.modLane n fun l => { l with probeGo := false } else s

/-- The plan of lane n for the next frame (R232, R234). -/
def planLane (s : State) (n : Nat) : State :=
  if !lnUsed s n then s else
  let s := s.modLane n fun l => { l with
    peaks := (absN l.u :: l.peaks).take 100, planFor := l.planFor + 1, shedFor := l.shedFor.map (· + 1), rotFor := l.rotFor.map (· + 1)
    probeFor := l.probeFor.map (· + 1), surgeFor := l.surgeFor.map (· + 1), shedBlock := if 1 < l.shedBlock then l.shedBlock - 1 else l.shedBlock }
  match (s.lane n).st with
  | .off | .qualify | .retry =>
    (dropProbe n s).modLane n fun l => { l.dropWindow with
      plan := { l.plan with mask := 0 }, shedRun := 0, wantShed := false, rotZ := none, peaks := [], steady := 0, probeGo := false }
  | .rampdown => s.modLane n fun l => { l with probe := none, probeGo := false, discards := if l.probe.isSome then incSat 32 l.discards else l.discards }
  | _ =>
    let d := decide232 s n
    let pr := (s.lane n).probe
    let add : Bool := match pr with | some p => popCount 16 p.plan.mask < mMin s n | none => false
    let s := probeWithdraw n (if add then dropProbe n s else s)
    match (s.lane n).probe with
    | some p => (setPlan n p.plan s).modLane n fun l => { l with shedRun := d.2.1, wantShed := false }
    | none =>
      let a := planSet s n
      let idle := (soundPhases s n).filter fun x => !a.contains x
      let mask := maskOf (a ++ (ranked s n idle).take (d.1 - a.length))
      (setPlan n (planOf s n mask) s).modLane n fun l => { l with shedRun := d.2.1, wantShed := d.2.2 || l.rotZ.isSome }

/-- S4 of the scheduler but for deferrable work: thermal model, bounds, plans (R224 to R232). -/
def schedPlan (s : State) : State :=
  let th := (List.range 16).map fun x => if x < nPh s then thermStep s x else s.jobs.sched.therm.getD x {}
  let s := s.modSched fun c => { c with therm := th }
  let s := (those (nLn s) (lnUsed s)).foldl heatStep s
  let s := siteStep s
  (List.range (nLn s)).foldl planLane s

/-! Shedding and rotation (R235, R238). -/

/-- A shed step is allowed on lane n (R235). -/
def shedAllowed (s : State) (n : Nat) : Bool :=
  let l := s.lane n
  let clear := (lanePhases s n).all fun x => (s.phase x).shedding.isNone && ((s.phase x).st ≠ .active || bit l.plan.mask x)
  let gap := match l.shedFor with | some k => max (par s gSCH n SCH.SHED_GAP) 8 < k | none => true
  let quiet := match l.surgeFor with | some k => 10000 ≤ k | none => true
  clear && gap && quiet && l.shedBlock = 0 && (match l.probe with | some p => p.kind == 7 | none => true)

/-- Phase z leaves the plan of lane n, which takes the codes of the smaller set (R232, R235). -/
def shedPhase (n z : Nat) (s : State) : State :=
  (setPlan n (planOf s n (clrBit (s.lane n).plan.mask z)) s).modLane n fun l => { l with shedFor := some 0, shedRun := 0, wantShed := false, rotZ := none }

/-- SHED_STEP (R232, R235): one phase is shed, that of a pending rotation or the one with the highest key. -/
def execShedStep (n : Nat) (s : State) : Out :=
  let l := s.lane n
  let a := planSet s n
  .next (if lnUsed s n && laneDrives l && (l.wantShed || l.rotZ.isSome) && shedAllowed s n && 1 < a.length then
    match l.rotZ with
    | some z => shedPhase n z s
    | none => match (ranked s n a).getLast? with
      | some z => shedPhase n z s
      | none => s
  else s)

/-- ROTATION_BEGIN (R238): the phase with the lowest key joins at once, the one with the highest key is shed next. None begins during a
probe, whose plan is applied over the set. -/
def execRotationBegin (n : Nat) (s : State) : Out :=
  let l := s.lane n
  let a := planSet s n
  let e := soundPhases s n
  let idle := (ranked s n e).filter fun x => !a.contains x
  .next (match idle.head?, (ranked s n a).getLast? with
    | some y, some z =>
      let hyst := 10 * parI s gSCH n SCH.ROT_HYST * rankScale s e
      let gap := match l.rotFor with | some k => decide (par s gSCH n SCH.ROT_MIN ≤ k) | none => true
      let cooler := (tjOf s y).isSome && ((tjOf s z).isNone || rankKey s n e y < rankKey s n e z - hyst)
      if lnUsed s n && l.st.flows && (if l.st = .slack then slackTarget s n else (decide232 s n).1) = a.length && l.rotZ.isNone && l.probe.isNone && cooler && gap && shedAllowed s n then
        (setPlan n (planOf s n (setBit l.plan.mask y)) s).modLane n fun l => { l with rotZ := some z, rotFor := some 0, wantShed := true }
      else s
    | _, _ => s)

/-- SHED_BLOCK_END (R236): 10,000 frames after a surge shedding is allowed again and the SHED_HOLD count restarts. -/
def execShedBlockEnd (n : Nat) (s : State) : Out :=
  let l := s.lane n
  .next (if l.shedBlock ≠ 0 && 10000 ≤ l.surgeFor.getD 0 then s.modLane n fun l => { l with shedBlock := 0, shedRun := 0 } else s)

/-! Learning windows in S8 of the lane job (R213, R217, R220). -/

/-- What discards a window or a probe in this frame (R213); the shed of an M- probe is its own step. -/
def windowSpoilt (s : State) (n : Nat) : Bool :=
  let l := s.lane n
  let own := match l.probe with | some p => p.kind == 7 | none => false
  let shed := !own && (lanePhases s n).any fun x => (s.phase x).shedding.isSome
  let fresh := fun c => decide ((s.chan c).age ≤ 1)
  let surge := match l.surgeFor with | some k => decide (k < 10000) | none => false
  l.st != LnSt.run || l.winBad || shed || surge || (lanePhases s n).any (fun x => (s.phase x).newRet) ||
  !(fresh (portVch s n) && fresh (portIch s n) && fresh 16) || 20 * absN l.iMeas < par s gLN n LN.I_RATED

/-- A learning window that LEARN_FRAMES frames have joined is complete, whatever the scheduler decides later in the frame (R213). While the
plan stays as it is the next window opens on the following frame, which no rule states (DESIGN CHOICE, log 99). -/
def Lane.windowFull (l : Lane) (frames : Nat) : Lane :=
  if frames ≤ l.winN then { l with winSum := 0, winN := 0, winDone := some (l.winEntry, windowMean l.winSum l.winN, l.plan) } else l

/-- S8 of the lane job: the learning window, the window of a probe, and the count of steady frames (R213, R218, R220). A change of the band
or of a bin, which the index modulo 768 shows, ends a probe too. -/
def laneS8 (n : Nat) (s : State) : State :=
  if !lnUsed s n then s else
  let l := s.lane n
  let bad := windowSpoilt s n || !ctlRuns s
  let settle := par s gSCH n SCH.SETTLE
  let idx := mapIndex s n (max (activePhases s n).length 1) l.band l.rbin l.cbin
  let before := l.winEntry
  let moved := idx ≠ before
  let l := { l with winBad := false, winEntry := idx, steady := if l.st == LnSt.run && !moved then satN 65535 (l.steady + 1) else 0 }
  let l' : Lane := match l.probe with
    | some p =>
      let p := { p with age := p.age + 1, bad := p.bad || bad || idx % 768 ≠ before % 768 }
      { l with probe := some (if settle < p.age then { p with sum := p.sum + l.loss, n := p.n + 1 } else p) }
    | none =>
      if bad || moved then l.dropWindow
      else if settle ≤ l.planFor then { l with winSum := l.winSum + l.loss, winN := l.winN + 1 }.windowFull (par s gSCH n SCH.LEARN_FRAMES)
      else { l with winSum := 0, winN := 0 }
  let s := s.modLane n fun _ => l'
  let s := (lanePhases s n).foldl (fun s x => s.modPhase x fun p => { p with newRet := false }) s
  match l'.probe with
  | some p => if p.bad then dropProbe n s else s
  | none => s

/-- LEARNING_WINDOW_CLOSE (R215): LEARN_FRAMES frames have joined the window. -/
def execLearningWindowClose (n : Nat) (s : State) : Out :=
  .next (match (s.lane n).winDone with
  | some (i, L, p) => if lnUsed s n then learn n i L p (s.modLane n fun l => { l with winDone := none }) else s
  | none => s)

/-! Probes (R218 to R221). -/

/-- Lane n waits for the grant of a probe (R218, R239). -/
def probeReady (s : State) (n : Nat) : Bool := probeOk s n && !(s.lane n).probeGo

/-- A dead-time code lies within the bounds of R168 for every phase of the plan. -/
def deadOk (s : State) (n reg code : Nat) : Bool :=
  (planSet s n).all fun x =>
    let e := bits (par s gPH x reg) (8 * phaseBand s x + 7) (8 * phaseBand s x)
    e ≤ code && code ≤ min 255 (e + par s gLN n LN.DT_SPAN)

/-- The dead-time code a lane runs at: the issued one bounded for its first phase (R168). -/
def deadNow (s : State) (n reg code : Nat) : Nat :=
  match planSet s n with
  | x :: _ => deadTime s n x (par s gPH x reg) code
  | [] => code

/-- The plan of a probe kind: F+, F-, DR+, DR-, DF+, DF-, M+, M-; none where its point lies outside the bounds (R219). An M probe runs with
the codes of the candidate of its number of phases, which no rule states (DESIGN CHOICE, log 94). -/
def probePlan (s : State) (n kind : Nat) : Option Plan :=
  let l := s.lane n
  let p := l.plan
  let step := par s gSCH n SCH.PROBE_FSTEP
  let a := planSet s n
  let idle := (ranked s n (soundPhases s n)).filter fun x => !a.contains x
  let dead (reg : Nat) (c : Nat) : Option Nat := if deadOk s n reg c then some c else none
  let less (reg : Nat) (c : Nat) : Option Nat := if c < 2 then none else dead reg (c - 2)
  match kind with
  | 0 => if p.freq + step ≤ par s gLN n LN.F_MAX then some { p with freq := p.freq + step } else none
  | 1 => if par s gLN n LN.F_MIN + step ≤ p.freq then some { p with freq := p.freq - step } else none
  | 2 => (dead PH.DT_RISE (deadNow s n PH.DT_RISE p.dtr + 2)).map fun c => { p with dtr := c }
  | 3 => (less PH.DT_RISE (deadNow s n PH.DT_RISE p.dtr)).map fun c => { p with dtr := c }
  | 4 => (dead PH.DT_FALL (deadNow s n PH.DT_FALL p.dtf + 2)).map fun c => { p with dtf := c }
  | 5 => (less PH.DT_FALL (deadNow s n PH.DT_FALL p.dtf)).map fun c => { p with dtf := c }
  | 6 => idle.head?.map fun y => planOf s n (setBit p.mask y)
  | _ => if mMin s n < a.length && shedAllowed s n then (ranked s n a).getLast?.map fun z => planOf s n (clrBit p.mask z) else none

/-- The first kind from k on, in cyclic order, that has a plan (R219). -/
def nextProbe (s : State) (n : Nat) : Nat → Nat → Option (Nat × Plan)
  | 0, _ => none
  | t + 1, k => match probePlan s n (k % 8) with
    | some p => some (k % 8, p)
    | none => nextProbe s n t (k + 1)

/-- PROBE_START (R218, R219): a granted probe runs the lane at a neighbour of the point in force; where its conditions no longer hold, or no
kind has a point, the grant is withdrawn. -/
def execProbeStart (n : Nat) (s : State) : Out :=
  let l := s.lane n
  .next (if l.probeGo && probeOk s n then
    match nextProbe s n 8 l.probeKind with
    | some (k, p) =>
      (setPlan n p s).modLane n fun l' => { l' with
        probe := some { kind := k, plan := p, base := l.plan, age := 0, sum := 0, n := 0, bad := false }
        probeGo := false, probeFor := some 0, probeKind := (k + 1) % 8, shedFor := if k = 7 then some 0 else l'.shedFor }
    | none => s.modLane n fun l => { l with probeGo := false }
  else probeWithdraw n s)

/-- PROBE_ABANDON (R31, R220): the mean loss over the first 20 frames of the window is beyond the loss of the entry in force, to whose point
the lane returns, by more than 0.2 % of the input power. -/
def execProbeAbandon (n : Nat) (s : State) : Out :=
  let l := s.lane n
  .next (match l.probe with
  | some p =>
    let e := mapEntry s p.base.entry
    if p.n = 20 && 20 * ((e.loss : Int) * 15625 * 2 ^ 24 + powerIn l * 2 ^ 24 / 500) < p.sum then dropProbe n s else s
  | none => s)

/-- PROBE_END (R221): the window of an M probe is learned into its entry; that of an F or D probe updates the entry in force only within
its bounds, and a lower result is discarded. -/
def execProbeEnd (n : Nat) (s : State) : Out :=
  let l := s.lane n
  .next (match l.probe with
  | some p =>
    if par s gSCH n SCH.SETTLE + par s gSCH n SCH.LEARN_FRAMES ≤ p.age && 0 < p.n then
      let L := windowMean p.sum p.n
      let s := (setPlan n p.base s).modLane n fun l => { l with probe := none }
      if 6 ≤ p.kind then learn n (mapIndex s n (max (popCount 16 p.plan.mask) 1) l.band l.rbin l.cbin) L p.plan s
      else
        let i := mapIndex s n (max (popCount 16 p.base.mask) 1) l.band l.rbin l.cbin
        let e := mapEntry s i
        let hi : Int := e.loss - max (e.loss / 64) 1
        let lo : Int := e.loss - e.loss / 4
        if lo ≤ L && L ≤ hi then
          setEntry i { e with loss := L.toNat, freq := p.plan.freq, dtr := p.plan.dtr, dtf := p.plan.dtf, count := min (e.count + 1) 255 } s
        else if L < lo then s.modLane n fun l => { l with discards := incSat 32 l.discards } else s
    else s
  | none => s)

/-! Flash and ledger (R222, R239 to R244). -/

/-- The frame's counts of the powered-time clock and of the flash work that falls due (R222, R239, R240). -/
def flashCount (s : State) : State :=
  let c := s.jobs.sched
  let hour := 360000000
  let age (d : Option Nat) (since : Nat) : Option Nat := match d with
    | some k => some (k + 1)
    | none => if hour ≤ since + 1 then some 0 else none
  let s := { s with writer := { s.writer with
    flushDue := age s.writer.flushDue c.sinceFlush, persDue := age s.writer.persDue c.sincePers
    retJobs := s.writer.retJobs.map fun (j : Nat × Nat) => (j.1, j.2 + 1) } }
  s.modSched fun c => { c with clock := c.clock + 1, sinceFlush := c.sinceFlush + 1, sincePers := c.sincePers + 1 }

/-- ON_HOURS and ENERGY of phase x over one frame (R243). -/
def ledgerCount (s : State) (x : Nat) : State :=
  if (s.phase x).st ≠ .active then s else
  match laneOfPhase s x with
  | none => s
  | some n =>
    let low := if portLow s n then portV s n else vLink s
    let r := s.jobs.sched.rem.getD x (0, 0)
    let f := r.1 + 1
    let e := r.2 + absN (low * (s.phase x).iMeas)
    (s.modSched fun c => { c with rem := c.rem.set x (f % 360000, e % 100000000) }).modLed x fun l =>
      { l with onTime := satN (2 ^ 32 - 1) (l.onTime + f / 360000), energy := satN (2 ^ 64 - 1) (l.energy + e / 100000000) }

/-- LEDGER_SAMPLE (R241): on every frame whose number is a multiple of 100 each phase's Tj is sampled, in S8 of the ledger job; a frame in which
that job is cut off has no sample (R98). -/
def execLedgerSample (s : State) : Out :=
  .next (if s.live && s.frame % 100 = 0 && (s.slot (slotFor s 12 0)).cutNow.isNone then
    (List.range (nPh s)).foldl (fun s x => match tjOf s x with
      | none => s
      | some t =>
        let p := sampleTj t (s.jobs.sched.therm.getD x {}) (s.led x)
        (s.modSched fun c => { c with therm := c.therm.set x p.1 }).modLed x fun _ => p.2) s
  else s)

/-- The record of phase x written from the live ledger (R244). -/
def flashRecord (s : State) (x : Nat) (f : Flash) : Flash := f.put (.phase ((s.led x).record x s.jobs.sched.clock))

/-- The 160-byte record of the energy counters with its CRC-32 (R467); where in it each counter stands is open (DESIGN CHOICE, log 90). -/
def energyRecord (l : List Energy) : List Byte :=
  let b := (l.flatMap fun e => leBytes 8 e.pos ++ leBytes 8 e.neg) ++ rep (156 - 16 * l.length) 0
  b ++ leBytes 4 (crc32 b)

/-- The counters of an energy record with a valid CRC (R467). -/
def energyOf (b : List Byte) : Option (List Energy) :=
  if b.length = 160 && fld b 156 4 = crc32 (b.take 156) then
    some ((List.range 9).map fun k => { pos := fld b (16 * k) 8, neg := fld b (16 * k + 8) 8 })
  else none

/-- A record of the energy counters written: a full sector of 25 gives way to the other, erased (R467). -/
def Flash.putEnergy (r : List Byte) (f : Flash) : Flash :=
  let b := f.enSects.getD f.enSect []
  if b.length < 25 then { f with enSects := f.enSects.set f.enSect (r :: b) }
  else { f with enSect := 1 - f.enSect, enSects := f.enSects.set (1 - f.enSect) [r] }

/-- The counters of the newest valid record; 0 where there is none (R467). -/
def Flash.energy (f : Flash) : List Energy :=
  ((f.enSects.getD f.enSect [] ++ f.enSects.getD (1 - f.enSect) []).findSome? energyOf).getD (rep 9 {})

/-- LEDGER_FLUSH (R244, R467): the granted flush writes one record per phase and the energy counters. -/
def execLedgerFlush (s : State) : Out :=
  .next (if s.clocked && s.writer.busy = some 1 && s.writer.flushDue.isSome then
    let s := s.beginWrite 1 fun f =>
      { ((List.range (nPh s)).foldl (fun f x => flashRecord s x f) f).putEnergy (energyRecord s.jobs.energy) with clock := s.jobs.sched.clock }
    let s := s.modSched fun c => { c with sinceFlush := 0 }
    { s with writer := { s.writer with flushDue := none, lateF := false } }
  else s)

/-- LOSSMAP_PERSIST (R222): the granted persistence writes the map into the next of the 16 sectors, and then its directory record. -/
def execLossmapPersist (s : State) : Out :=
  .next (if s.clocked && s.writer.busy = some 2 && s.writer.persDue.isSome then
    let g := (s.jobs.sched.gen + 1) % 2 ^ 32
    let b := mapImage s
    let s := s.beginWrite 2 fun f => { f with sectors := assocSet f.sectors (g % 16) b, clock := s.jobs.sched.clock }.put (.dir ⟨g, s.jobs.sched.clock, laneSigs s, crc32 b⟩)
    let s := s.modSched fun c => { c with sincePers := 0, gen := g }
    { s with writer := { s.writer with persDue := none, lateP := false } }
  else s)

/-- A flush or persistence that a fault record pre-empts is due again and restarts from its beginning, a persistence with its generation:
its directory record, which follows the image, does not stand (R222, R240). -/
def preempted (s : State) : State :=
  let w := s.writer
  if w.busy = some 1 && w.flushDue.isNone then { s with writer := { w with flushDue := some 0 } }
  else if w.busy = some 2 && w.persDue.isNone then
    let s := s.modFlash fun f => { f with banks := modAt f.banks f.bank (·.drop 1) }
    (s.modSched fun c => { c with gen := (c.gen + 2 ^ 32 - 1) % 2 ^ 32 }).modWriter fun w => { w with persDue := some 0 }
  else s

/-- LEDGER_RETIRE_WRITE (R194, R244): a retirement writes its phase's record; one flash writer runs at a time, so it waits while another is
active (R240; DESIGN CHOICE, log 82). -/
def execLedgerRetireWrite (x : Nat) (s : State) : Out :=
  .next (if s.clocked && s.writer.busy.isNone && s.writer.retJobs.any (fun j => j.1 == x) then
    (s.beginWrite 5 (flashRecord s x)).modWriter fun w => { w with retJobs := w.retJobs.filter fun j => j.1 ≠ x }
  else s)

/-- FLASH_WRITE_LATE (R240): a flush (1) or a persistence (2) has waited 60,000,000 frames past its due time. -/
def execFlashWriteLate (which : Nat) (s : State) : Out :=
  let w := s.writer
  let late (d : Option Nat) : Bool := match d with | some k => decide (60000000 ≤ k) | none => false
  .next (if which = 1 && late w.flushDue && !w.lateF then { s with writer := { w with lateF := true } }.raise Ev.FLASH_WRITE_LATE 1
  else if which = 2 && late w.persDue && !w.lateP then { s with writer := { w with lateP := true } }.raise Ev.FLASH_WRITE_LATE 2
  else s)

/-- FLASH_WRITER_DONE (R240): the flash writer is free; a flush or persistence that was pre-empted restarts, or stays due while an update
session is open (R491). A chunk and the erasure of a slot end under their own names. -/
def execFlashWriterDone (s : State) : Out :=
  .next (match s.writer.busy with
  | none | some 4 | some 8 => s
  | some _ =>
    let wait := s.fw.isSome && (s.writer.redo = some 1 || s.writer.redo = some 2)
    { s with writer := { s.writer with busy := if wait then none else s.writer.redo, redo := none, before := none } })

end Sys2Proof.Machine
end

