-- ==== Sys2Proof/Machine/Sources.lean ====
section
/-! DEFINITION. Input ports (07_sources_link_seams R247 to R262, R574): the port state machine, the MPPT reference, global sweeps, the
input-current search, and the commands of their thresholds. -/

namespace Sys2Proof.Machine

/-! The port (R248 to R252). -/

/-- The bounds of the link window in mV (R249). -/
def linkWin (s : State) : Int × Int := (100 * parI s gSRC 4 SRC.LV_MIN, 100 * parI s gSRC 4 SRC.LV_MAX)

/-- VLINK lies inside the link window. -/
def linkInWin (s : State) : Bool := (linkWin s).1 ≤ vLink s && vLink s ≤ (linkWin s).2

/-- The window of port n in mV (R249). -/
def srcWin (s : State) (n : Nat) : Int × Int :=
  let w := (100 * parI s gSRC n SRC.V_MIN, 100 * parI s gSRC n SRC.V_MAX)
  if isDirect s n then (max w.1 (linkWin s).1, min w.2 (linkWin s).2) else w

/-- VINn lies inside its window. -/
def srcIn (s : State) (n : Nat) : Bool := (srcWin s n).1 ≤ s.val n && s.val n ≤ (srcWin s n).2

/-- VINn lies outside its window widened by 2 % (R249, R250). -/
def srcLost (s : State) (n : Nat) : Bool := 100 * s.val n < 98 * (srcWin s n).1 || 102 * (srcWin s n).2 < 100 * s.val n

/-- SWINn opened by a SAFEn hold or a rail trip, while that cause lasts (R574). -/
def switchesHeld (s : State) : Bool := s.jobs.safe.hold || s.jobs.rails.tripOpen

/-- The lane of port n, if any, is OFF. -/
def srcLaneOff (s : State) (n : Nat) : Bool := match laneOfInput s n with | some l => (s.lane l).st == .off | none => true

/-- Port n enters a state; SOURCE_STATE tells a change of state (R250, R283). -/
def srcEnter (n : Nat) (st : SrcSt) (cause : Option Nat) (s : State) : State :=
  let p := s.src n
  let c := cause.getD p.cause
  let s' := s.modSrc n fun p => { p with st := st, cause := c, qual := 0, vHist := [], conFor := 0, lossRun := 0, duskRun := 0 }
  if p.st = st then s' else s'.raise Ev.SOURCE_STATE (n * 2 ^ 8 + c * 2 ^ 4 + st.code)

/-- SWINn is wanted open at the coming commit. -/
def srcOpen (n : Nat) (s : State) : State :=
  { s.modSrc n fun p => { p with sw := false, openLater := false } with shadow := { s.shadow with swin := s.shadow.swin.set n false } }

/-- SWINn is wanted closed at the coming commit. -/
def srcClose (n : Nat) (s : State) : State :=
  { s.modSrc n fun p => { p with sw := true, openLater := false } with shadow := { s.shadow with swin := s.shadow.swin.set n true } }

/-- A seam closes the switch of a direct input: only in READY, and not while SAFEn or a rail trip holds the switches open (R12, R250,
R574). -/
def srcCloseDirect (n : Nat) (s : State) : State :=
  if (s.src n).st = .ready && !switchesHeld s && !s.jobs.safe.safenLow then srcClose n s else s

/-- SWINn opens once the lane of the port is OFF; without a lane at the coming commit (R250). -/
def srcOpenLater (n : Nat) (s : State) : State := if srcLaneOff s n then srcOpen n s else s.modSrc n fun p => { p with openLater := true }

/-- A lane that runs enters RAMPDOWN because its port is no longer ready (R250). -/
def rampLaneOf (l : Option Nat) (s : State) : State :=
  match l with
  | some k => if (s.lane k).st.up then laneRamp k 5 s else s
  | none => s

/-- READY is left for ABSENT (R250): the lane ramps down and SWINn opens when it is OFF; a direct input opens at the commit. -/
def srcLeave (n cause : Nat) (s : State) : State := srcOpenLater n (rampLaneOf (laneOfInput s n) (srcEnter n .absent (some cause) s))

/-- A BW_STOP of kind 1 or 2 on the port's lane, or its overvoltage: CONNECT and READY go to ABSENT and SWINn opens (R250, R437). -/
def srcBreak (n : Nat) (s : State) : State :=
  if (s.src n).st = .connect || (s.src n).st = .ready then srcOpen n (srcEnter n .absent (some 3) s) else s

/-- A forced seam releases port n: READY goes to QUALIFY and SWINn opens at the commit (R250). -/
def srcRelease (n : Nat) (s : State) : State :=
  if (s.src n).st = .ready then srcOpen n (srcEnter n .qualify (some 5) s) else s

/-- A recovery of ACTION 2: any state but OFF goes to QUALIFY (R99, R250). -/
def srcRecover (n : Nat) (s : State) : State :=
  if (s.src n).st = .off then s else srcOpen n (srcEnter n .qualify (some 4) s)

/-- SWINn opened by a SAFEn hold or a rail trip: any state but OFF goes to OFF at once (R574). -/
def srcTrip (n : Nat) (s : State) : State :=
  if (s.src n).st = .off then s else srcOpen n (srcEnter n .off (some 8) s)

/-! The MPPT reference (R254 to R260). -/

/-- The power VINn times IINn in uW. -/
def srcPower (s : State) (n : Nat) : Int := s.val n * s.val (4 + n)

/-- V_ref of port n bounded to its window and under R181 (R254). -/
def boundRef (s : State) (n : Nat) (v : Int) : Int := match laneOfInput s n with | some l => boundVref s l v | none => v

/-- The curtailment level in mV (R258). -/
def curtLevel (s : State) : Int :=
  let h := s.jobs.link.holder
  let dv := 100 * parI s gSRC 4 SRC.CURT_DV
  if h = 1 || (4 ≤ h && !isDirect s (h - 4)) then s.jobs.link.vset + dv else (linkWin s).2 - dv

/-- The lane of port n runs as R254 and R259 ask: in SOFTSTART or RUN. -/
def srcRuns (s : State) (n : Nat) : Bool :=
  match laneOfInput s n with | some l => (s.lane l).st == .softstart || (s.lane l).st == .run | none => false

/-- The lane of port n holds the link. -/
def srcHolds (s : State) (n : Nat) : Bool := s.jobs.link.holder = 4 + n

/-- The sweep could run now (R259). -/
def sweepCould (s : State) (n : Nat) : Bool := srcRuns s n && (s.src n).st == .ready && !srcHolds s n

/-- The sums of the present MPPT period start anew. -/
def SrcPort.newPeriod (p : SrcPort) : SrcPort := { p with perAge := 0, sumP := 0, nP := 0, sumV := 0, nV := 0, nClamp := 0, nLim := 0, sumAll := 0 }

/-- The sweep conversions of port n that wait are withdrawn. -/
def dropSweepReqs (n : Nat) (s : State) : State := s.modSense fun x => { x with reqs := x.reqs.filter fun r => !(r.cls == 2 && r.who == n) }

/-- The sweep of port n is abandoned: V_ref returns, the next period only measures, and it is asked for again (R257, R259). -/
def sweepAbandon (n : Nat) (s : State) : State :=
  match (s.src n).sweep with
  | none => s
  | some w =>
    let now := sweepCould s n
    dropSweepReqs n (s.modSrc n fun p => { p.newPeriod with sweep := none, vRef := w.back, pLast := none, wantSweep := now, againSweep := !now })

/-- The voltage of point k of a sweep (R259). -/
def sweepVolt (s : State) (n : Nat) (w : Sweep) (k : Nat) : Int := w.vHi - divR (k * w.span) (max (par s gSRC n SRC.SWEEP_POINTS) 2 - 1 : Nat)

/-- A granted sweep starts (R239, R259). -/
def sweepStart (n : Nat) (s : State) : State :=
  let p := s.src n
  let hi := boundRef s n (min (95 * (p.voc : Int)) (100 * parI s gSRC n SRC.V_MAX))
  let lo := boundRef s n (100 * parI s gSRC n SRC.V_MIN)
  let w : Sweep := { k := 0, left := par s gSRC n SRC.SWEEP_DWELL, vHi := hi, span := hi - lo, found := [], back := p.vRef, pows := [] }
  s.modSrc n fun p => { p with wantSweep := false, sweep := some w }

/-- A candidate for P_AVAIL joins; candidates it outdoes and those older than 100,000 frames leave (R269). -/
def pushPower (age : Nat) (P : Int) (h : List (Nat × Int)) : List (Nat × Int) :=
  (age, P) :: (h.filter fun e => P < e.2 && age < e.1 + 100000)

/-- P_AVAIL in W of the candidates of the last 100,000 frames (R269). -/
def availOf (age : Nat) (h : List (Nat × Int)) : Nat :=
  fitU 16 (divR (maxL 0 ((h.filter fun e => decide (age < e.1 + 100000)).map (·.2))) 1000000)

/-- One frame of a sweep: a frame whose conversions are still carried only waits; any other counts and asks for the next ones (R122,
R126, R259). -/
def sweepFrame (n : Nat) (w : Sweep) (s : State) : State :=
  let waits := s.jobs.sense.reqs.any fun r => r.cls == 2 && r.who == n && 0 < r.left
  let v := sweepVolt s n w w.k
  let s := s.modSrc n fun p => { p with vRef := v }
  if waits then s else
  let w := { w with left := w.left - 1, pows := (srcPower s n :: w.pows).take 10 }
  let req (c : Nat) : SlotReq := ⟨2, c, 8, n, false, s.age + 1⟩
  (s.modSrc n fun p => { p with sweep := some w }).modSense fun x => { x with reqs := x.reqs ++ [req n, req (4 + n)] }

/-- The sums of the MPPT period take one frame (R257, R260). -/
def SrcPort.gather (p : SrcPort) (period : Nat) (v P : Int) (clamped lim : Bool) : SrcPort :=
  let a := p.perAge + 1
  let second := period - period / 2 < a
  { p with perAge := a, sumV := p.sumV + v, nV := p.nV + 1, sumAll := p.sumAll + P
           sumP := if second then p.sumP + P else p.sumP, nP := if second then p.nP + 1 else p.nP
           nClamp := if clamped then p.nClamp + 1 else p.nClamp, nLim := if lim then p.nLim + 1 else p.nLim }

/-- S5 of a PV port (R254 to R260). V_ref is computed only in SOFTSTART and RUN; in SLACK it stands, and the sums of the period start anew
(R254, R257; DEDUCED, log 85). A frame counts as clamped where the lane's output is held at I_POS_EFF or SCH[n].BOUND (R257). -/
def pvS5 (n : Nat) (s : State) : State :=
  let age (p : SrcPort) : SrcPort := { p with
    vmppAge := if p.vmppAge = 0xFFFFFFFF then p.vmppAge else satN 0xFFFFFFFE (p.vmppAge + 1), sweepFor := p.sweepFor.map (· + 1)
    pAvail := availOf s.age p.pHist
    curtail := curtLevel s < vLink s || (p.curtail && !(vLink s < curtLevel s)) }
  let s := s.modSrc n age
  let s := if (s.src n).sweep.isSome && !sweepCould s n then sweepAbandon n s else s
  match laneOfInput s n with
  | none => s
  | some l =>
    let ln := s.lane l
    if !ln.st.up then s.modSrc n fun p => { p.newPeriod with track := false, pLast := none }
    else if !srcRuns s n then s.modSrc n SrcPort.newPeriod
    else
      let p := s.src n
      if !p.track then
        s.modSrc n fun p => { p.newPeriod with
          track := true, vRef := boundRef s n (startVref s n), dir := -1, pLast := none
          wantSweep := p.wantSweep || decide (1000000 ≤ p.vmppAge) }
      else
        let s := if p.againSweep && sweepCould s n then s.modSrc n fun p => { p with againSweep := false, wantSweep := true } else s
        match (s.src n).sweep with
        | some w => sweepFrame n w s
        | none =>
          let P := srcPower s n
          let clamped := decide (ln.u = ln.limPos)
          let lim := ln.limActed
          let s := s.modSrc n fun p => { p.gather (par s gSRC n SRC.MPPT_PERIOD) (s.val n) P clamped lim with vRef := boundRef s n p.vRef }
          if srcHolds s n && lim then s.modSrc n fun p => { p with pHist := pushPower s.age P p.pHist } else s

/-- V_ref as VMPP_LAST holds it, in 0.1 V. -/
def vmppOf (v : Int) : Nat := fitU 16 (divR v 100)

/-- MPPT_PERIOD_STEP (R257, R260): the step at the end of a period. -/
def execMpptPeriodStep (n : Nat) (s : State) : Out :=
  let p := s.src n
  let period := par s gSRC n SRC.MPPT_PERIOD
  .next (if n < nIn s && srcKind s n = 1 && srcRuns s n && p.track && p.sweep.isNone && period ≤ p.perAge && 0 < p.nP then
    let P := divR p.sumP p.nP
    let step := 100 * parI s gSRC n SRC.MPPT_STEP
    let avail := pushPower s.age (divR p.sumAll p.perAge) p.pHist
    let s := s.modSrc n fun p => { p.newPeriod with pLast := some P, pHist := avail, pAvail := availOf s.age avail }
    match p.pLast with
    | none => s
    | some q =>
      if srcHolds s n && 2 * p.nLim < p.perAge then s
      else if p.curtail then s.modSrc n fun p => { p with vRef := boundRef s n (p.vRef + step), dir := 1 }
      else if p.nClamp = p.nV then s.modSrc n fun x => { x with vRef := boundRef s n (divR p.sumV p.nV - step) }
      else
        let dir := if 1024 * P < 1023 * q then -p.dir else p.dir
        let v := boundRef s n (p.vRef + dir * step)
        s.modSrc n fun p => { p with dir := dir, vRef := v, vmpp := vmppOf v, vmppAge := 0 }
  else s)

/-- The index of the largest power, the lower one on ties (R259). -/
def bestPoint (l : List Int) : Nat := (maxBy (fun k => l.getD k 0) (List.range l.length)).getD 0

/-- SWEEP_POINT (R259): at the end of a dwell its power is recorded; the last point selects the voltage and ends the sweep. -/
def execSweepPoint (n : Nat) (s : State) : Out :=
  .next (match (s.src n).sweep with
  | none => s
  | some w =>
    if w.left ≠ 0 then s else
    let found := w.found ++ [divR (sumOf id w.pows) w.pows.length]
    if w.k + 1 < par s gSRC n SRC.SWEEP_POINTS then
      s.modSrc n fun p => { p with sweep := some { w with k := w.k + 1, left := par s gSRC n SRC.SWEEP_DWELL, found := found, pows := [] } }
    else
      let v := sweepVolt s n w (bestPoint found)
      let s := dropSweepReqs n (s.modSrc n fun p => { p.newPeriod with
        sweep := none, vRef := v, vmpp := vmppOf v, vmppAge := 0, dir := -1, pLast := none, sweepFor := some 0 })
      s.raise Ev.MPPT_SWEEP ((s.src n).vmpp * 2 ^ 16 + n))

/-- SWEEP_REPEAT (R259): SWEEP_INTERVAL frames after a sweep completed a new one is requested; 0 disables the repeat. -/
def execSweepRepeat (n : Nat) (s : State) : Out :=
  let p := s.src n
  let k := par s gSRC n SRC.SWEEP_INTERVAL
  .next (if n < nIn s && srcKind s n = 1 && k ≠ 0 && p.sweep.isNone && k ≤ p.sweepFor.getD 0 then
    if sweepCould s n then s.modSrc n fun p => { p with wantSweep := true, sweepFor := none }
    else s.modSrc n fun p => { p with againSweep := true, sweepFor := none }
  else s)

/-! The input-current search (R261). -/

/-- I_ref at the start: ICS_LIMIT with ICS_MODE 0, the start value of the search with 1 (R261). -/
def icsFirst (s : State) (n : Nat) : Nat :=
  let lim := par s gSRC n SRC.ICS_LIMIT
  if par s gSRC n SRC.ICS_MODE = 0 then lim else min (par s gSRC n SRC.ICS_START) lim

/-- I_ref of port n for a loop that follows it: the present one, or before the search has started the one it starts from (R261, R575;
DEDUCED, log 84). -/
def icsRef (s : State) (n : Nat) : Nat := if (s.src n).icsOn then (s.src n).iRef else icsFirst s n

/-- The search starts (R261). -/
def icsStart (n : Nat) (s : State) : State :=
  s.modSrc n fun p => { p with
    icsOn := true, iRef := icsFirst s n
    icsHold := false, icsT := 0, icsAge := 0, icsSumV := 0, icsSumI := 0 }

/-- The search stops. -/
def icsStop (n : Nat) (s : State) : State := s.modSrc n fun p => { p with icsOn := false, icsHold := false, iRef := 0 }

/-- S5 of a DC-supply port (R261). Its input power enters P_AVAIL by periods of MPPT_PERIOD frames (R269; DEDUCED, log 12). -/
def dcS5 (n : Nat) (s : State) : State :=
  let s := s.modSrc n fun p => { p with pAvail := availOf s.age p.pHist }
  let p := s.src n
  let on := if (laneOfInput s n).isSome then p.st == .ready else srcHolds s n
  if !on then (if p.icsOn then icsStop n s else s)
  else
    let s := if p.icsOn then s else icsStart n s
    let pw := srcPower s n
    let s := match laneOfInput s n with
      | some l => if srcHolds s n && (s.lane l).limActed then s.modSrc n fun p => { p with pHist := pushPower s.age pw p.pHist } else s
      | none => s
    let s := s.modSrc n fun p => p.gather (par s gSRC n SRC.MPPT_PERIOD) (s.val n) pw false false
    let p := s.src n
    let s := if par s gSRC n SRC.MPPT_PERIOD ≤ p.perAge then s.modSrc n fun p => { p.newPeriod with pHist := pushPower s.age (divR p.sumAll p.perAge) p.pHist } else s
    let s := s.modSrc n fun p => { p with pAvail := availOf s.age p.pHist }
    if par s gSRC n SRC.ICS_MODE = 0 then s.modSrc n fun p => { p with iRef := par s gSRC n SRC.ICS_LIMIT, icsHold := false }
    else s.modSrc n fun p => { p with icsAge := p.icsAge + 1, icsSumV := p.icsSumV + s.val n, icsSumI := p.icsSumI + s.val (4 + n) }

/-- Entry to HOLD or a back-off in it: ICS_FOUND takes I_ref and is reported (R261). -/
def icsFoundAt (n i : Nat) (s : State) : State :=
  (s.modSrc n fun p => { p with iRef := i, icsFound := i, icsHold := true, icsT := 0 }).raise Ev.ICS_FOUND (i * 2 ^ 16 + n)

/-- ICS_PERIOD_STEP (R261): the search raises, backs off or holds I_ref. -/
def execIcsPeriodStep (n : Nat) (s : State) : Out :=
  let p := s.src n
  let g (k : Nat) : Nat := par s gSRC n k
  .next (if n < nIn s && srcKind s n = 2 && p.icsOn && g SRC.ICS_MODE ≠ 0 && 0 < p.icsAge && g SRC.ICS_PERIOD ≤ p.icsAge then
    let s := s.modSrc n fun p => { p with icsAge := 0, icsSumV := 0, icsSumI := 0 }
    if p.icsSumV < 100 * parI s gSRC n SRC.V_MIN * p.icsAge then icsFoundAt n (p.iRef - g SRC.ICS_BACKOFF) s
    else if !p.icsHold then
      if 10 * ((p.iRef : Int) - p.iRef / 32) * p.icsAge ≤ p.icsSumI then
        let i := min (p.iRef + g SRC.ICS_STEP) (g SRC.ICS_LIMIT)
        if i = g SRC.ICS_LIMIT then icsFoundAt n i s else s.modSrc n fun p => { p with iRef := i }
      else s
    else
      let t := p.icsT + g SRC.ICS_PERIOD
      s.modSrc n fun p => { p with icsT := t, icsHold := decide (t < g SRC.ICS_RESEARCH) }
  else s)

/-! Stages of the input-port job. -/

/-- S4 of the input-port job: the transitions of R250 that no row of the table names, and the counts of the others. -/
def srcS4 (n : Nat) (s : State) : State :=
  let p := s.src n
  if nIn s ≤ n then s
  else if srcKind s n = 0 then (if p.st = .off then s else srcOpen n (srcEnter n .off none s))
  else if p.st ≠ .off && !ctlRuns s then srcOpenLater n (srcEnter n .off (some 6) s)
  else
    let s := if p.openLater && srcLaneOff s n then srcOpen n s else s
    match p.st with
    | .off => if ctlRuns s && !switchesHeld s then srcEnter n .absent none s else s
    | .absent => if srcIn s n then (srcEnter n .qualify none s).modSrc n fun p => { p with qual := 1, vHist := [s.val n] } else s
    | .qualify => if srcIn s n then s.modSrc n fun p => { p with qual := p.qual + 1, vHist := (s.val n :: p.vHist).take 100 } else srcEnter n .absent (some 1) s
    | .connect => if srcIn s n then s.modSrc n fun p => { p with conFor := p.conFor + 1 } else srcOpen n (srcEnter n .absent none s)
    | .ready =>
      let dusk := srcKind s n = 1 && srcPower s n < 1000000 * parI s gSRC n SRC.P_MIN
      s.modSrc n fun p => { p with lossRun := if srcLost s n then p.lossRun + 1 else 0, duskRun := if dusk then p.duskRun + 1 else 0 }

/-- S5 of the input-port job. -/
def srcS5 (n : Nat) (s : State) : State :=
  if nIn s ≤ n then s
  else match srcKind s n with
    | 1 => pvS5 n s
    | 2 => dcS5 n s
    | _ => s

/-- S7 of the input-port job: the wanted state of SWINn (R96). A direct input stays open while the hold of kind 2 lasts (R437). -/
def srcS7 (n : Nat) (s : State) : State :=
  if nIn s ≤ n then s else
  { s with shadow := { s.shadow with swin := s.shadow.swin.set n ((s.src n).sw && !(isDirect s n && s.jobs.safe.link.on)) } }

/-! The commands of the port's thresholds. -/

/-- The open-circuit check over the last 100 frames (R251): the mean in 2^0 mV times their number, when it passes. -/
def ocvCheck (s : State) (n : Nat) : Bool :=
  let h := (s.src n).vHist
  let sum := sumOf id h
  let k : Int := h.length
  100 * parI s gSRC n SRC.VOC_MIN * k ≤ sum && 100 * k * (maxL 0 h - minL 0 h) ≤ sum

/-- SOURCE_QUALIFIED (R250, R251): the qualification count has reached QUAL_FRAMES. -/
def execSourceQualified (n : Nat) (s : State) : Out :=
  let p := s.src n
  .next (if n < nIn s && p.st = .qualify && par s gSRC n SRC.QUAL_FRAMES ≤ p.qual && 0 < p.vHist.length then
    if srcKind s n = 1 && !ocvCheck s n then s.modSrc n fun p => { p with qual := 1, cause := 7, vHist := p.vHist.take 1 }
    else
      let s := if srcKind s n = 1 then s.modSrc n fun p => { p with voc := fitU 16 (divR (sumOf id p.vHist) (100 * p.vHist.length)) } else s
      if isDirect s n then srcEnter n .ready none s else srcClose n (srcEnter n .connect none s)
  else s)

/-- SOURCE_CONNECT_SETTLED (R250): SW_SETTLE frames since SWINn closed, VINn still inside its window. -/
def execSourceConnectSettled (n : Nat) (s : State) : Out :=
  let p := s.src n
  .next (if n < nIn s && p.st = .connect && par s gSRC n SRC.SW_SETTLE ≤ p.conFor && srcIn s n then
    let s := srcEnter n .ready none s
    if srcKind s n = 2 then icsStart n s else s
  else s)

/-- SOURCE_LOSS (R250): VINn outside its widened window on LOSS_FRAMES consecutive frames. -/
def execSourceLoss (n : Nat) (s : State) : Out :=
  let p := s.src n
  .next (if n < nIn s && p.st = .ready && 0 < p.lossRun && par s gSRC n SRC.LOSS_FRAMES ≤ p.lossRun then srcLeave n 1 s else s)

/-- DUSK (R252): the input power of a PV port below P_MIN on DUSK_FRAMES consecutive frames. -/
def execDusk (n : Nat) (s : State) : Out :=
  let p := s.src n
  .next (if n < nIn s && srcKind s n = 1 && p.st = .ready && 0 < p.duskRun && par s gSRC n SRC.DUSK_FRAMES ≤ p.duskRun then srcLeave n 2 s else s)

end Sys2Proof.Machine
end

