-- ==== Sys2Proof/Machine/Link.lean ====
section
/-! DEFINITION. The link job (07_sources_link_seams R263 to R279, R575; 08_pack_charging R303): set-point, the loops of each holder, the
split of the pack-set demand, candidates and policy, seams, SWLINK and LINKLOWn, and the surge (05_phases_lanes_modulation R191). -/

namespace Sys2Proof.Machine

/-! Candidates (R269, R270). -/

/-- The pack lanes, ascending. -/
def packLanes (s : State) : List Nat := those (nLn s) fun n => lnKind s n == 3

/-- PACKS is eligible (R269). -/
def packsEligible (s : State) : Bool :=
  (packLanes s).any fun n =>
    let v := portV s n
    let w := s.jobs.link.vsetEff
    (s.lane n).st.flows && (s.pack (lnPort s n)).supOk && ratioIn 10 90 (if portLow s n then (v, w) else (w, v))

/-- SOURCE(INn) is eligible (R269). -/
def sourceEligible (s : State) (n : Nat) : Bool :=
  (s.src n).st == .ready && n < nIn s &&
  if isDirect s n then s.jobs.link.holder = 0 || absN (s.val n - vLink s) ≤ 100 * par s gSRC n SRC.DIRECT_DV
  else (match laneOfInput s n with | some l => (s.lane l).st == .run | none => false) && par s gSRC n SRC.HOLD_PMIN ≤ (s.src n).pAvail

/-- The candidate with a holder code is eligible; from NONE every one but a direct input waits for the link window (R269, R278). -/
def eligible (s : State) (c : Nat) : Bool :=
  let waited := s.jobs.link.holder ≠ 0 || 2000 ≤ s.jobs.link.inWin
  match c with
  | 0 => true
  | 1 => packsEligible s && waited
  | 2 => par s gSRC 4 SRC.HOLDER_REQ = 2 && s.outs.swlink && waited
  | 3 => false
  | k => sourceEligible s (k - 4) && (isDirect s (k - 4) || waited)

/-- The sources by rank: higher PRIO, then lower port number (R270). -/
def rankedSources (s : State) : List Nat :=
  (List.range (nIn s)).foldr (fun n l =>
    let p (k : Nat) : Nat := par s gSRC k SRC.PRIO
    insertRank (fun a b => decide (p b < p a) || (p a == p b && decide (a < b))) n l) []

/-- The policy's choice (R270, R277). -/
def policyChoice (s : State) : Nat :=
  let src := (rankedSources s).map (4 + ·)
  let req := par s gSRC 4 SRC.HOLDER_REQ
  let ext := if req = 2 then [2] else []
  let order := match par s gSRC 4 SRC.POLICY with
    | 0 => 1 :: src
    | 1 => src ++ [1]
    | _ => (if req = 0 then [] else [req]) ++ (1 :: src)
  (((ext ++ order).find? (eligible s)).getD 0)

/-! Seams (R271 to R276, R575). -/

/-- The charge manager's demand under EXTERNAL: -C_max, or EXT_DEMAND over VLINK within -C_max to S_max, here c and d (R264, R301). -/
def mgrDemand (s : State) (c d : Int) : Int :=
  let w := parS s gCHG 16 CHG.EXT_DEMAND
  if w = 0 then -c else clampI (-c) d (divR (w * 1000000) (vLink s))

/-- The error of a link voltage loop against a reference (R264, SIGN -1). -/
def linkErr (s : State) (ref : Int) : Int := -(vLink s - (if selvOk s then clampI (100 * selvField s .linkVmin 0) (100 * selvField s .linkVmax 0) ref else ref))

/-- KP_LINK and KI_LINK. -/
def kpLink (s : State) : Nat := par s gSRC 4 SRC.KP_LINK
def kiLink (s : State) : Nat := par s gSRC 4 SRC.KI_LINK

/-- The loop in force over the pack set is set so that the pack-set demand is u (R267, Seams). -/
def setPackLoop (s : State) (l : LinkJob) (u : Int) : LinkJob :=
  let l := { l with demand := u }
  let s' := { s with jobs := { s.jobs with link := l } }
  if l.holder = 1 then { l with main := loopSet (kpLink s) (linkErr s' l.vset) u }
  else if laneCode s l.holder then
    let c := s.jobs.unit.cMax
    let cb := clampI 0 c (u + c)
    { l with cb := loopSet (kpLink s) (linkErr s' (cbRef s')) cb, sup := loopSet (kpLink s) (linkErr s' (supRef s')) (u + c - cb) }
  else if directCode s l.holder then
    { l with ics := loopSet (par s gSRC 4 SRC.KP_ICS) (s.val l.holder - 10 * (s.src (l.holder - 4)).iRef) u }
  else l

/-- A lane's main loop is set so that its output stays what it was (Seams). -/
def keepLane (n : Nat) (s : State) : State :=
  match mainErr s n with
  | some (e, kp, _) => s.modLane n fun l => { l with iMain := l.u * 65536 - kp * e, clMain := 0 }
  | none => s

/-- The role swap: the target holds the link with its set-point at VLINK, every changed loop goes on from its output, the seam is done
(R273, R274, Seams). A direct input that is left opens, one that takes the link closes and starts its search; a port released by a
forced seam goes to QUALIFY (R250, R261). The seam completes whatever has become of its target (R274), but the switch of a direct input
that has left READY stays open (R250). -/
def roleSwap (old target : Nat) (forced : Bool) (s : State) : State :=
  let l := s.jobs.link
  let dem := l.demand
  let s := s.modLinkJob fun l => { l with holder := target, vset := vLink s, slewing := true, seam := none, seamEnd := true, seams := incSat 32 l.seams
                                          swOpen := l.swOpen || (target = 0 && l.swlink) }
  let s := if directCode s old && old ≠ target then srcOpen (old - 4) (icsStop (old - 4) s) else s
  let s := if directCode s target then
      let s := srcCloseDirect (target - 4) s
      if (s.src (target - 4)).icsOn then s else icsStart (target - 4) s
    else s
  let s := if target = 0 then s.modLinkJob fun l => { l with demand := 0, main := {}, cb := {}, sup := {}, ics := {} }
    else s.modLinkJob fun l => setPackLoop s l dem
  let s := match (if laneCode s old then laneOfInput s (old - 4) else none) with | some n => keepLane n s | none => s
  let s := match (if laneCode s target then laneOfInput s (target - 4) else none) with | some n => keepLane n s | none => s
  let s := if forced && 4 ≤ old then srcRelease (old - 4) s else s
  s.raise Ev.SEAM_DONE (b2n forced * 2 ^ 16 + old * 2 ^ 8 + target)

/-- One frame of a transfer ramp: toward the follower's output in a seam to a direct input, toward the link in one from it (R575). While
the ramp of PACKS runs, the clamp of the link loop does not act (R279). -/
def rampFrame (s : State) (l : LinkJob) (m : Seam) : LinkJob :=
  let k := parI s gSRC 4 SRC.SEAM_RATE
  let u := s.jobs.unit
  if directCode s m.target then
    let d := m.target - 4
    if m.old = 1 then
      let f := loopRun (par s gSRC 4 SRC.KP_ICS) (par s gSRC 4 SRC.KI_ICS) (s.val m.target - 10 * (icsRef s d : Int)) (-u.cMax) u.sMax l.ics
      let r := toward k f.out m.ramp
      { l with main := { l.main with cl := 0 }, ics := f, demand := r, seam := some { m with ramp := r } }
    else match laneOfInput s (m.old - 4) with
      | some n =>
        let i := m.old - 4
        let e := if lnKind s n = 1 then portV s n - selvVolt s n false (portRef s n (s.src i).vRef) else -(portI s n - 10 * (s.src i).iRef)
        let b := mainBounds s n ((s.lane n).limPos, (s.lane n).limNeg)
        let f := loopRun (par s gLN n LN.KP_MAIN) (par s gLN n LN.KI_MAIN) e b.1 b.2 l.ics
        { l with ics := f, seam := some { m with ramp := toward k f.out m.ramp } }
      | none => l
  else
    let r := m.ramp + k
    if m.target = 1 then { l with demand := min r u.sMax, seam := some { m with ramp := min r u.sMax } }
    else { l with seam := some { m with ramp := r } }

/-- A seam begins (R273, R274): one that is a role swap alone completes on its first frame. -/
def seamBegin (target : Nat) (forced : Bool) (s : State) : State :=
  let old := s.jobs.link.holder
  let s := (s.modLinkJob fun l => { l with seamFor := some 0, elect := none, failRun := 0 }).raise Ev.SEAM_BEGUN (b2n forced * 2 ^ 16 + old * 2 ^ 8 + target)
  let start (step : Nat) (ramp : Int) (s : State) : State :=
    s.modLinkJob fun l => { l with seam := some { old := old, target := target, forced := forced, step := step, age := 0, ramp := ramp, hurry := false }, ics := {} }
  let out (c : Nat) : Int := match (if laneCode s c then laneOfInput s (c - 4) else none) with
    | some n => (s.lane n).u
    | none => s.jobs.link.demand
  if forced || old = 0 || target = 0 || target = 2 then roleSwap old target forced s
  else if directCode s target then start 1 0 (srcCloseDirect (target - 4) s)
  else if directCode s old then
    let m : Seam := { old := old, target := target, forced := forced, step := 2, age := 1, ramp := out target, hurry := false }
    s.modLinkJob fun l => rampFrame s { l with seam := some m } m
  else roleSwap old target forced s

/-- The target of a forced seam other than to NONE (R272). -/
def forcedTarget (s : State) : Nat :=
  let h := s.jobs.link.holder
  if packsEligible s then 1
  else (((rankedSources s).map (4 + ·)).find? fun c => c ≠ h && sourceEligible s (c - 4) &&
      (!directCode s c || absN (s.val (c - 4) - vLink s) ≤ 100 * par s gSRC (c - 4) SRC.DIRECT_DV)).getD 0

/-- The forced-seam cases of R272 that the state of a frame shows: the target, when one holds. -/
def forcedNow (s : State) : Option Nat :=
  let h := s.jobs.link.holder
  if h = 0 then none
  else if !ctlRuns s then some 0
  else if 4 ≤ h && ((s.src (h - 4)).st ≠ .ready || (laneCode s h && match laneOfInput s (h - 4) with | some n => (s.lane n).st ≠ .run | none => true)) then
    some (forcedTarget s)
  else if h = 1 && !packsEligible s then some (forcedTarget s)
  else none

/-- The forced-seam cases of R272 with those that an earlier frame left to S4: a surge, and a HOLD_FAIL during a seam. -/
def forcedCase (s : State) : Option Nat :=
  let l := s.jobs.link
  let due := (l.force = some 1 && (l.holder = 2 || directCode s l.holder)) || l.force = some 4
  if l.holder ≠ 0 && ctlRuns s && due then some (forcedTarget s) else forcedNow s

/-- The seam in progress moves on by one frame: its role swap when it is due (R273, R274, R575). -/
def seamFrame (s : State) : State :=
  match s.jobs.link.seam with
  | none => s
  | some m =>
    if m.hurry || m.step = 3 then roleSwap m.old m.target m.forced s
    else
      let fc := (forcedCase s).isSome
      s.modLinkJob fun l => { l with seam := some { m with age := m.age + 1, hurry := fc } }

/-! The stages of the link job. -/

/-- VSET_EFF in mV (R263), no lower than V_PPmax / 0.9 (R24). -/
def vsetEffOf (s : State) : Int :=
  let vs := ((packLanes s).filter fun n => (s.lane n).st ≠ .off).map (portV s)
  min (max (100 * parI s gSRC 4 SRC.VSET) ((10 * maxL 0 vs + 8) / 9)) (linkWin s).2

/-- S4 of the link job: set-points, the link window, forced seams and the seam in progress (R263, R268, R272 to R274, R278). -/
def linkS4 (s : State) : State :=
  let ve := vsetEffOf s
  let ok := linkInWin s
  let s := s.modLinkJob fun l =>
    let v := if l.slewing then toward (parI s gSRC 4 SRC.SEAM_SLEW) ve l.vset else ve
    { l with vsetEff := ve, vset := v, slewing := l.slewing && v ≠ ve
             inWin := if ok then l.inWin + 1 else 0, failRun := if ok || l.holder = 0 then 0 else l.failRun + 1
             seamFor := l.seamFor.map (· + 1), seamEnd := false
             swOpen := l.swlink && (l.swOpen || !ctlRuns s) }
  let s := if s.jobs.link.seam.isSome then seamFrame s
    else match forcedCase s with
      | some t => (seamBegin t true s).modLinkJob fun l => { l with force := none }
      | none => s.modLinkJob fun l => { l with force := none }
  let allOff := (List.range (nLn s)).all fun n => (s.lane n).st == .off
  if s.jobs.link.swOpen && allOff then s.modLinkJob fun l => { l with swlink := false, swOpen := false } else s

/-- S_FP: the link-side sum of FP_I over the pack lanes whose surge path acts (R267). -/
def surgeSum (s : State) : Int :=
  sumOf (fun n =>
    let fp := 10 * parI s gLN n LN.FP_I
    if (s.lane n).fpHand || 0 < (s.lane n).fpLeft then (if portLow s n then divR (fp * portV s n) (vLink s) else fp) else 0) (packLanes s)

/-- The pack-set demand of the holder in force, its loops run by one frame, for the limits c = C_max and d = S_max (R264, R265); D_chg
is -C_max under a source (R301). -/
def holderLoopsIn (s : State) (c d : Int) : LinkJob :=
  let l := s.jobs.link
  let kp := kpLink s
  let ki := kiLink s
  if l.holder = 1 then
    let m := loopRun kp ki (linkErr s l.vset) (-c) d l.main
    { l with main := m, demand := m.out }
  else if laneCode s l.holder then
    let cb := loopRun kp ki (linkErr s (cbRef s)) 0 c l.cb
    let sup := loopRun kp ki (linkErr s (supRef s)) 0 d l.sup
    { l with cb := cb, sup := sup, demand := -c + cb.out + sup.out }
  else if directCode s l.holder then
    let i := loopRun (par s gSRC 4 SRC.KP_ICS) (par s gSRC 4 SRC.KI_ICS) (s.val l.holder - 10 * (s.src (l.holder - 4)).iRef) (-c) d l.ics
    { l with ics := i, demand := i.out }
  else if l.holder = 2 then { l with demand := mgrDemand s c d }
  else { l with demand := 0 }

/-- The loops of the holder within C_max and S_max. -/
def holderLoops (s : State) : LinkJob := holderLoopsIn s s.jobs.unit.cMax s.jobs.unit.sMax

/-- The ramp of a seam starts from the present output (R575). -/
def rampOf (s : State) (m : Seam) : Int :=
  match (if laneCode s m.old then laneOfInput s (m.old - 4) else none) with
  | some n => (s.lane n).u
  | none => s.jobs.link.demand

/-- S5 of the link job: the loops of the holder, a transfer ramp, or the surge path (R264, R265, R267, R575); beside it the demand that the
holder's loops would give without the site bound (R229, R230). -/
def linkS5 (s : State) : State :=
  let l := s.jobs.link
  let l' := match l.seam with
    | some m => if m.step = 2 then
        (if directCode s m.target && m.old = 1 then rampFrame s l m
         else
           let h := holderLoops s
           let r := rampFrame s { h with ics := if directCode s m.target then l.ics else h.ics } m
           r)
      else holderLoops s
    | none => holderLoops s
  let l' := if l.fpHand then { setPackLoop s l' (surgeSum s) with fpHand := false } else l'
  let free := if l.seam.isSome || l.fpHand then l'.demand else (holderLoopsIn s s.jobs.unit.cFree s.jobs.unit.sFree).demand
  s.modLinkJob fun _ => { l' with demFree := free }

/-- One pass of the split of R303: packs still in, each with its limit and weight; demand left; shares fixed so far. -/
def splitPass : Nat → List (Nat × Int × Int) → Int → List (Nat × Int) → List (Nat × Int)
  | 0, _, _, done => done
  | k + 1, ps, rem, done =>
    let W := sumOf (fun p => p.2.2) ps
    let full := ps.filter fun p => p.2.1 * W ≤ rem * p.2.2
    if ps.isEmpty then done
    else if full.isEmpty then done ++ ps.map fun p => (p.1, divR (rem * p.2.2) W)
    else splitPass k (ps.filter fun p => !(p.2.1 * W ≤ rem * p.2.2)) (rem - sumOf (fun p => p.2.1) full) (done ++ full.map fun p => (p.1, p.2.1))

/-- The limits and weights of a pack that are in force, or those it would have without the site bound. -/
def Pack.limits (k : Pack) (free : Bool) : PackLim := if free then k.free else { lc := k.lc, ld := k.ld, wC := k.wC, wD := k.wD }

/-- The packs that take part in a split of a demand d: their limit and weight (R301 to R303). A pack under test takes no part (R309). -/
def splitPacks (s : State) (free : Bool) (d : Int) : List (Nat × Int × Int) :=
  (List.range (nPp s)).filterMap fun p =>
    let k := s.pack p
    let on := match laneOfPort s p with | some n => lnKind s n == 3 && (s.lane n).st.flows && s.outs.swpp.getD p false | none => false
    if !on || k.test.isSome then none
    else
      let m := k.limits free
      if d < 0 then (if 0 < m.lc then some (p, m.lc, m.wC) else none)
      else if k.supOk && 0 < m.ld then some (p, m.ld, m.wD) else none

/-- The link-side share of a capacity test in progress on pack p (R309). -/
def testShare (s : State) (p : Nat) : Int :=
  let k := s.pack p
  let others := sumOf (fun q => if q ≠ p then (s.pack q).lc else 0) (List.range (nPp s))
  max 0 (minL k.ld [k.ld, k.testAmp, s.jobs.link.demand + others])

/-- The shares of a demand d among the packs, within their limits in force or those without the site bound (R303, R309). -/
def sharesOf (s : State) (free : Bool) (d : Int) : List (Nat × Int) :=
  let tests := (List.range (nPp s)).filter fun p => (s.pack p).test.isSome
  let given := tests.map fun p => (p, testShare s p)
  let r := d - sumOf (fun g => g.2) given
  given ++ (splitPass 5 (splitPacks s free r) (absN r) []).map fun p => (p.1, sgn r * p.2)

/-- u_p of a share a_p (R303). -/
def packU (s : State) (p : Nat) (a : Int) : Int :=
  match laneOfPort s p with
  | some n => if portLow s n then (if a = 0 then 0 else divR (a * vLink s) (portV s n)) else a
  | none => 0

/-- S6 of the link job: the split of the pack-set demand and the demand of each pack lane (R303, R309). -/
def linkS6 (s : State) : State :=
  let sh := sharesOf s false s.jobs.link.demand
  let fr := sharesOf s true s.jobs.link.demFree
  (List.range (nPp s)).foldl (fun s p =>
    let a := (assocGet sh p).getD 0
    s.modPack p fun k => { k with share := a, uDem := packU s p a, free := { k.free with u := packU s p ((assocGet fr p).getD 0) } }) s

/-- The causes of LINKLOWn in this frame (R279). -/
def lownCauses (s : State) : Nat :=
  let l := s.jobs.link
  let h := l.holder
  let low := (h = 1 || laneCode s h) && vLink s < l.vset - 100 * parI s gSRC 4 SRC.LOWN_DV
  let limAct := match (if laneCode s h then laneOfInput s (h - 4) else none) with | some n => (s.lane n).limActed | none => false
  let c : List Bool := [low, h = 1 && l.main.cl = 1, laneCode s h && (l.sup.cl = 1 || (!packsEligible s && limAct)), directCode s h && l.ics.cl = 1, h = 0 && l.swlink]
  (if h = 2 then 0 else maskOf (those 5 fun k => c.getD k false)) + (if par s gSRC 4 SRC.LOWN_FORCE = 1 then 32 else 0)

/-- S7 of the link job: SWLINK to the shadow, the causes of LINKLOWn (R96, R268, R279). -/
def linkS7 (s : State) : State :=
  let m := lownCauses s
  let s := s.modLinkJob fun l => { l with lownMask := m, lownRan := true, lownOn := if m = 0 then 0 else l.lownOn + 1, lownOff := if m = 0 then l.lownOff + 1 else 0 }
  { s with shadow := { s.shadow with swlink := s.jobs.link.swlink } }

/-- A forced-seam case that has come up since S4 of the link job is taken in the same frame (R272); during a seam the rest of that seam
comes first, on the next frame, and one that has ended in this frame leaves it to the next (R274). -/
def linkLate (s : State) : State :=
  match forcedNow s with
  | none => s
  | some t =>
    match s.jobs.link.seam with
    | some m => s.modLinkJob fun l => { l with seam := some { m with hurry := true } }
    | none => if s.jobs.link.seamEnd then s else linkS6 (seamBegin t true s)

/-! The commands. -/

/-- POLICY_EVALUATION (R270, R271): every 100 frames the command core chooses; a choice that differs from the holder asks for an elective
seam as a live write, where the conditions of R271 hold. -/
def execPolicyEvaluation (s : State) : Out :=
  .next (if s.live && s.coreRuns && s.frame % 100 = 0 then
    let c := policyChoice s
    let l := s.jobs.link
    let gap := match l.seamFor with | some k => decide (par s gSRC 4 SRC.SEAM_MIN_GAP ≤ k) | none => true
    let go := c ≠ l.holder && l.seam.isNone && gap && ctlRuns s && !(directCode s c && directCode s l.holder)
    s.modLinkJob fun l => { l with elect := if go then some (c, s.frame + 1) else l.elect }
  else s)

/-- ELECTIVE_SEAM_BEGIN (R271): the requested seam begins in S4 of its frame of effect. -/
def execElectiveSeamBegin (s : State) : Out :=
  .next (match s.jobs.link.elect with
  | some (c, f) =>
    if f ≤ s.frame then
      (if s.jobs.link.seam.isNone && c ≠ s.jobs.link.holder && ctlRuns s then seamBegin c false s
       else s.modLinkJob fun l => { l with elect := none })
    else s
  | none => s)

/-- HOLD_FAIL (R272): VLINK outside the link window on SRC[4].HOLD_FAIL consecutive frames forces a seam. -/
def execHoldFail (s : State) : Out :=
  let l := s.jobs.link
  .next (if l.holder ≠ 0 && 0 < l.failRun && par s gSRC 4 SRC.HOLD_FAIL ≤ l.failRun then
    let s := (s.modLinkJob fun l => { l with failRun := 0 }).raiseRec Ev.HOLD_FAIL l.holder
    match l.seam with
    | some m => s.modLinkJob fun l => { l with seam := some { m with hurry := true }, force := some 4 }
    | none => seamBegin (forcedTarget s) true s
  else s)

/-- SEAM_SWITCH_SETTLED (R273): on the last of SW_SETTLE frames of settling, the first being that of SEAM_BEGUN, the seam moves to its
ramp, or from EXTERNAL to its role swap, which the next frame makes. -/
def execSeamSwitchSettled (s : State) : Out :=
  .next (match s.jobs.link.seam with
  | some m =>
    if m.step = 1 && par s gSRC (m.target - 4) SRC.SW_SETTLE ≤ m.age + 1 then
      s.modLinkJob fun l => { l with seam := some { m with step := if m.old = 2 then 3 else 2, age := 0, ramp := rampOf s m } }
    else s
  | none => s)

/-- The ramp of a seam ends; the role swap follows on the next frame, and a direct input that is left opens at this commit (R273). -/
def rampEnd (m : Seam) (s : State) : State :=
  let s := s.modLinkJob fun l => { l with seam := some { m with step := 3 } }
  if directCode s m.old then srcOpen (m.old - 4) s else s

/-- SEAM_RAMP_END (R575): the outputs meet, or IINn has fallen to SEAM_IEND. -/
def execSeamRampEnd (s : State) : Out :=
  .next (match s.jobs.link.seam with
  | some m =>
    if m.step ≠ 2 then s
    else if directCode s m.target then
      (if 0 < m.age && absN (s.jobs.link.ics.out - m.ramp) ≤ par s gSRC 4 SRC.SEAM_RATE then rampEnd m s else s)
    else if s.val m.old ≤ 10 * parI s gSRC 4 SRC.SEAM_IEND then rampEnd m s else s
  | none => s)

/-- SEAM_TIMEOUT (R273, R575): a ramp that has not ended after SEAM_TIMEOUT frames ends at once. -/
def execSeamTimeout (s : State) : Out :=
  .next (match s.jobs.link.seam with
  | some m => if m.step = 2 && par s gSRC 4 SRC.SEAM_TIMEOUT ≤ m.age then rampEnd m s else s
  | none => s)

/-- SWLINK closes, and SWLINK_REQ returns to 0 (R268). -/
def swlinkClose (s : State) : State :=
  { s.modLinkJob fun l => { l with swlink := true, swOpen := false } with shadow := { s.shadow with swlink := true } }.setPar gSRC 4 SRC.SWLINK_REQ 0

/-- A host write of 1 to SWLINK_REQ while the holder is NONE, in RUN or SAFE (R268). -/
def swlinkAsk (s : State) : State :=
  if s.jobs.link.holder = 0 && !s.jobs.link.swlink && ctlRuns s && !switchesHeld s then swlinkClose s else s

/-- SWLINK_CLOSE (R268): the holder is not NONE and VLINK has stayed inside the link window on 2,000 consecutive frames. -/
def execSwlinkClose (s : State) : Out :=
  let l := s.jobs.link
  .next (if l.holder ≠ 0 && 2000 ≤ l.inWin && !l.swlink && ctlRuns s && !switchesHeld s then
    swlinkClose s
  else s)

/-- LINKLOWN_ASSERT (R279): a cause has held on LOWN_ASSERT consecutive frames. -/
def execLinklownAssert (s : State) : Out :=
  let l := s.jobs.link
  .next (if !l.lown && 0 < l.lownOn && par s gSRC 4 SRC.LOWN_ASSERT ≤ l.lownOn then
    ((s.modLinkJob fun l => { l with lown := true }).modOuts fun o => { o with lown := true }).raise Ev.LINK_LOW (2 ^ 8 + l.lownMask)
  else s)

/-- LINKLOWN_RELEASE (R279): no cause has held on LOWN_RELEASE consecutive frames. -/
def execLinklownRelease (s : State) : Out :=
  let l := s.jobs.link
  .next (if l.lown && 0 < l.lownOff && par s gSRC 4 SRC.LOWN_RELEASE ≤ l.lownOff then
    ((s.modLinkJob fun l => { l with lown := false }).modOuts fun o => { o with lown := false }).raise Ev.LINK_LOW 0
  else s)

/-! The surge path (R191, R266, R267). -/

/-- The reference of the output-undershoot comparator of lane n in mV, which the commit point latches; none where the comparator is
disabled (R266). -/
def undershootRef (s : State) (n : Nat) : Option Int :=
  let l := s.jobs.link
  match lnKind s n with
  | 1 | 2 => if holdsLink s n then some l.vset else none
  | 3 => if l.holder = 0 then none else if l.holder = 1 then some l.vset else some (if laneCode s l.holder then supRef s else vLink s)
  | 4 => (provCon (s.port (lnPort s n))).map fun c => 100 * (c.1 : Int)
  | _ => none

/-- The threshold of a surge is passed (R190): cause 1, the sensed voltage in mV lies below the latched reference less SURGE_V; cause 2,
the slope in 0.01 A per us exceeds SURGE_DIDT. -/
def surgeSensed (s : State) (n cause : Nat) (value : Int) : Bool :=
  match cause with
  | 1 => (match (s.lane n).uvRef with | some r => decide (value < r - 100 * parI s gLN n LN.SURGE_V) | none => false)
  | 2 => decide (par s gLN n LN.SURGE_DIDT < absN value)
  | _ => false

/-- What a surge hands phase x of lane n at place q of m: its share joins a running cycle at once, and a step of more than 10 % of
I_LIMIT starts the hold of R193; any other phase is switched on from its first valley (R191, R193). -/
def surgePhase (s : State) (n x q m : Nat) : State :=
  let p := { issueFor s n x q m with on := true }
  (s.modShadow x fun _ => p).modMod x fun k =>
    let step := par s gPH x PH.I_LIMIT < absN (phaseMA s x p.share - phaseMA s x k.cur.share)
    { k with pend := p, cur := if k.switching then { k.cur with share := p.share } else k.cur
             sinceStep := if k.switching && step then 0 else k.sinceStep }

/-- SURGE (R191, R236, R259, R267, R272): cause 1 output undershoot, 2 current slope, with the value sensed. Shed phases join, in SOFTSTART
before EN_LEAD too, the reference is spread over all, FP_I may replace it in hardware until the commit of the next frame; sheds are
blocked, a rotation, a probe and a sweep are abandoned. -/
def execSurge (n : Nat) (sensed : SurgeIn) (s : State) : Out :=
  let cause := sensed.cause
  let l := s.lane n
  .next (if lnUsed s n && l.st.up && surgeSensed s n cause sensed.value then
    let all := soundPhases s n
    let back := all.filter fun x => (s.phase x).st == .shed
    let fp := cause = 1 && l.st.flows && par s gLN n LN.FP_I ≠ 0
    let ref := if fp then 10 * parI s gLN n LN.FP_I else l.ref
    let s := dropProbe n s
    let s := s.modLane n fun l => { l.dropWindow with
      plan := { l.plan with mask := maskOf all }, planFor := 0, rotZ := none, wantShed := false, shedRun := 0
      shedBlock := 10000, surgeFor := some 0, started := true
      fpHand := fp, fpLeft := if fp then (if s.jobs.frm.committed then 1 else 2) else l.fpLeft, ref := ref }
    let s := all.foldl (fun s x =>
      let lim : Int := 10 * par s gPH x PH.I_LIMIT
      let i := clampI (-lim) lim (divR ref all.length)
      surgePhase (s.modPhase x fun p => { p with share := i, shedding := none }) n x (placeOf x all) all.length) s
    let s := if l.st = .slack then laneEnter n .run none s else s
    let s := if lnKind s n = 1 then sweepAbandon (lnPort s n) s else s
    let s := if fp && lnKind s n = 3 then s.modLinkJob fun l => { l with fpHand := true } else s
    let s := if cause = 1 && lnKind s n = 3 && (s.jobs.link.holder = 2 || directCode s s.jobs.link.holder) then s.modLinkJob fun l => { l with force := some 1 } else s
    s.raise Ev.SURGE (b2n fp * 2 ^ 24 + back.length * 2 ^ 16 + n * 2 ^ 8 + cause)
  else s)

end Sys2Proof.Machine
end

