-- ==== Sys2Proof/Machine/PortOps.lean ====
section
/-! DEFINITION. The named operations of a partner port (09_partner_ports): the wires (R321 to R323), messages and their acknowledgement
(R331 to R334), the changes of the port state (R346), soft reset (R353), and stopping a port's lane. -/

namespace Sys2Proof.Machine

/-! Message types (R335). -/
namespace Ple
abbrev ACK : Nat := 0x01
abbrev SOFT_RESET : Nat := 0x02
abbrev PING : Nat := 0x03
abbrev HELLO : Nat := 0x04
abbrev ALERT : Nat := 0x05
abbrev CAPS : Nat := 0x10
abbrev GET_CAPS : Nat := 0x11
abbrev REQUEST : Nat := 0x12
abbrev READY : Nat := 0x13
abbrev PACK_CAPS : Nat := 0x18
abbrev PACK_REQUEST : Nat := 0x19
abbrev PACK_STATUS : Nat := 0x1A
abbrev GET_STATUS : Nat := 0x1B
abbrev ROLE_SWAP : Nat := 0x20
abbrev SWAP_OFF : Nat := 0x21
abbrev AUTH_CERT_GET : Nat := 0x30
abbrev AUTH_CERT : Nat := 0x31
abbrev AUTH_CHALLENGE : Nat := 0x32
abbrev AUTH_SIGN : Nat := 0x33
end Ple

/-- The hard-reset marker among the frames that wait for the wire: it has no header and so no TYPE of eight bits (R328). -/
def marker : PMsg := ⟨0x100, 0, []⟩

/-! Wires (R322, R323). -/

/-- A level lies in the taker band, 0.25 V to 0.65 V. -/
def inBand (mv : Nat) : Bool := 250 ≤ mv && mv ≤ 650

/-- The cable code of a free wire's level in mV (R322). A level in the taker band carries no code of a plug: code 6 (DEDUCED, log 20). -/
def cableCode (mv : Nat) : Nat :=
  if 60 ≤ mv && mv ≤ 110 then 1 else if 130 ≤ mv && mv ≤ 200 then 2 else if 700 ≤ mv && mv ≤ 950 then 3
  else if 1050 ≤ mv && mv ≤ 1400 then 4 else if 1550 ≤ mv && mv ≤ 2000 then 5 else 6

/-- The partner that the two wires show: talk wire and cable code, 0xFF while the taker has not measured (R323). -/
def partnerSeen (prov : Bool) (a b : Nat) : Option (Nat × Nat) :=
  match inBand a, inBand b with
  | true, true => some (0, 0)
  | true, false => some (0, if prov then cableCode b else 0xFF)
  | false, true => some (1, if prov then cableCode a else 0xFF)
  | false, false => none

/-- The level of the talk wire. -/
def talkLevel (t : PtPort) : Nat := if t.talk = 0 then t.cfgA else t.cfgB

/-! States (R346, R363). -/

/-- The attached states (R325). -/
def PtSt.isAttached (st : PtSt) : Bool := st == .attached || st == .negotiating || st == .contract || st == .swapping || st == .softReset

/-- The states whose receiver is on: a port that has seen no partner for long enough hears nothing (R328, R329). -/
def PtSt.hears (st : PtSt) : Bool := st != .detached && st != .attachWait

/-- Port p enters a state; PORT_STATE tells a change with its cause (R363). -/
def portEnter (p : Nat) (st : PtSt) (cause : Nat) (s : State) : State :=
  let old := (s.port p).st
  let s := s.modPort p fun t => { t with st := st, inState := 0 }
  if old = st then s else s.raise Ev.PORT_STATE (p * 2 ^ 8 + cause * 2 ^ 4 + st.code)

/-- The operation of a PORT_CMD that waits for its completion: its action, when one of these is in progress (R360). -/
def portOpIs (t : PtPort) (acts : List Nat) : Bool := match t.op with | some (_, a) => t.opDone.isNone && acts.contains a | none => false

/-- The PORT_CMD in progress with one of these actions has its final status (R360). -/
def portOpEnd (p : Nat) (acts : List Nat) (status : Nat) (s : State) : State :=
  if portOpIs (s.port p) acts then s.modPort p fun t => { t with opDone := some status } else s

/-! Messages (R331, R334). -/

/-- A frame is an ACK. -/
def PMsg.isAck (m : PMsg) : Bool := m.typ == Ple.ACK

/-- The bytes of a frame: TYPE, ID, LEN, FLAGS with the sender's role in bit 4, payload, and the CRC of all of these, low byte first
(R327). -/
def PMsg.wire (prov : Bool) (m : PMsg) : List Byte :=
  let h := [byte m.typ, byte m.id, byte m.pay.length, byte (16 * b2n prov)] ++ m.pay
  h ++ leBytes 2 (crc16 h)

/-- The frames that a frame on the wire lasts: 42 + 8 × (6 + LEN) bit times, 50 for the marker, three to a frame (R326 to R328). -/
def PMsg.lasts (m : PMsg) : Nat := if m = marker then 17 else ceilDiv (42 + 8 * (6 + m.pay.length)) 3

/-- The greatest LEN: 96, and 32 until a version of 2.0 or later has been selected (R327). -/
def lenLimit (t : PtPort) : Nat := if 0x20 ≤ t.ver then 96 else 32

/-- A frame waits for the talk wire of port p. -/
def portPut (p : Nat) (m : PMsg) (s : State) : State := s.modPort p fun t => { t with out := t.out ++ [m], quiet := 0 }

/-- A frame has been received on port p: the wire has been idle for no frame yet (R330). -/
def portHeard (p : Nat) (s : State) : State := s.modPort p fun t => { t with wireFor := 0 }

/-- One frame of the transmitter: the frame on the wire goes on; the next one starts once the wire has been idle for 10 frames as provider
or 15 as taker, and after an aborted send for a random wait more (R330). A marker has been sent at its end (R354). -/
def PtPort.line (idle : Bool) (t : PtPort) : PtPort :=
  let done := t.busyFor = 1 && t.lastTx == some marker
  let t := { t with
    busyFor := t.busyFor - 1, wireFor := if 0 < t.busyFor || !idle then 0 else t.wireFor + 1
    marked := t.marked || done, markFor := if done then some 0 else t.markFor }
  match t.out with
  | [] => t
  | m :: rest =>
    if t.busyFor = 0 && (if t.prov then 10 else 15) + t.backoff ≤ t.wireFor then
      let t := { t with out := rest, lastTx := some m, busyFor := m.lasts, backoff := 0 }
      if m = marker then { t with mark := true } else { t with sent := t.sent ++ [m.wire t.prov] }
    else t

/-- The message m still waits for the wire or is on it: its response time has not begun (R334). -/
def PtPort.sending (t : PtPort) (m : PMsg) : Bool := t.out.contains m || (0 < t.busyFor && t.lastTx == some m)

/-- The message of the controller that is not acknowledged is given up: no resend of it waits for the wire. -/
def PtPort.dropOwn (t : PtPort) : PtPort := { t with unacked := none, out := t.out.filter PMsg.isAck }

/-- The ACK to message id with a RESULT (R335). -/
def ackMsg (id res : Nat) : PMsg := ⟨Ple.ACK, id, [byte id, byte res, byte 0, byte 0]⟩

/-- An ACK waits for the wire before every frame of the port's own, so that it starts within 100 frames (R333). -/
def PtPort.ackFirst (m : PMsg) (t : PtPort) : PtPort :=
  { t with out := t.out.filter PMsg.isAck ++ [m] ++ t.out.filter (fun x => !x.isAck), quiet := 0 }

/-- The ACK to message id with a RESULT (R331, R333, R335). -/
def portAck (p id res : Nat) (s : State) : State := s.modPort p (PtPort.ackFirst (ackMsg id res))

/-- A message goes out under the next ID. -/
def portStart (p typ : Nat) (pay : List Byte) (s : State) : State :=
  let m : PMsg := ⟨typ, (s.port p).nextId, pay⟩
  portPut p m (s.modPort p fun t => { t with unacked := some (m, 1, 0), nextId := (t.nextId + 1) % 256 })

/-- A message of the controller: sent at once, or after those before it, since one at most is unacknowledged (R331). -/
def portSend (p typ : Nat) (pay : List Byte) (s : State) : State :=
  if (s.port p).unacked.isNone && (s.port p).queue.isEmpty then portStart p typ pay s
  else s.modPort p fun t => { t with queue := t.queue ++ [(typ, pay)] }

/-- The wire is free for the next message. -/
def portNext (p : Nat) (s : State) : State :=
  match (s.port p).queue with
  | (typ, pay) :: q => if (s.port p).unacked.isNone then portStart p typ pay (s.modPort p fun t => { t with queue := q }) else s
  | [] => s

/-- The numbering restarts at 0 and the last ID received is forgotten (R331). -/
def portRenumber (p : Nat) (s : State) : State :=
  s.modPort p fun t => { t.dropOwn with nextId := 0, lastRx := none, queue := [] }

/-! Switch and lane. -/

/-- SWPPp is wanted open from the coming commit. -/
def portOpen (p : Nat) (s : State) : State :=
  { s.modPort p fun t => { t with sw := false } with shadow := { s.shadow with swpp := s.shadow.swpp.set p false } }

/-- SWPPp is wanted closed from the coming commit. -/
def portClose (p : Nat) (s : State) : State :=
  { s.modPort p fun t => { t with sw := true } with shadow := { s.shadow with swpp := s.shadow.swpp.set p true } }

/-- The partner lane of port p is stopped as by a STOP, and SWPPp opens at the commit (R325, R346). -/
def portStop (p : Nat) (s : State) : State :=
  match laneOfPort s p with
  | some n => if lnKind s n = 4 then portOpen p (stopLane n 2 s) else s
  | none => portOpen p s

/-- The contract and its negotiation are gone. -/
def PtPort.noContract (t : PtPort) : PtPort :=
  { t with con := .none, void := false, next := .none, reqOk := false, readyOk := false, noDemand := false, inTol := 0, outTol := 0, settled := false, pkReq := none, offers := [] }

/-- The contract is void, while its voltage and bound are held: of a provider also those that it has brought up since the OK to a REQUEST
(R339, R353). -/
def PtPort.voided (t : PtPort) : PtPort :=
  { t with con := if t.prov && t.reqOk then t.next else t.con, void := true, next := .none, reqOk := false, readyOk := false }

/-! Offers and HELLO (R335, R337, R339). -/

/-- The offers that the controller advertises as provider (R339): none outside RUN. -/
def advertised (s : State) (p : Nat) : List Offer :=
  if !inRun s then [] else
  (List.range 4).filterMap fun k =>
    let v := par s gPRT p (PRT.OFFER_V0 + k)
    let w := s.jobs.link.vsetEff
    if v = 0 || ratingV s p < v || 1000 * (v : Int) < w || 9 * w < 1000 * (v : Int) then none
    else some ⟨v, min (par s gPRT p (PRT.OFFER_I0 + k)) (ratingI s p true), par s gPRT p PRT.OFFER_TOL⟩

/-- The payload of CAPS (R335). -/
def capsPay (l : List Offer) : List Byte :=
  [byte l.length, byte 0] ++ l.flatMap fun o => leBytes 2 o.v ++ leBytes 2 o.i ++ [byte o.tol, byte 0]

/-- CAPS goes out with the offers of the moment (R338). -/
def sendCaps (p : Nat) (s : State) : State :=
  let l := advertised s p
  portSend p Ple.CAPS (capsPay l) (s.modPort p fun t => { t with offers := l, advN := l.length })

/-- HELLO goes out (R337). -/
def sendHello (p : Nat) (s : State) : State :=
  let t := s.port p
  let roles := match par s gPRT p PRT.PRESENT with | 0 => 2 | 1 => 1 | _ => 3
  let auth := 1 + 2 * b2n (par s gPRT p PRT.AUTH_MODE = 2)
  portSend p Ple.HELLO [byte 0x10, byte (par s gPRT p PRT.VER_MAX), byte roles, byte t.code, byte auth, 0, 0, 0]
    (s.modPort p fun t => { t with helloOut := true })

/-- ATTACHED is entered, or entered again without a version: the HELLO exchange begins (R337). -/
def helloStart (p cause : Nat) (s : State) : State :=
  let s := (portEnter p .attached cause s).modPort p fun t => { t with helloTx := false, helloRx := false, helloOut := false, verDone := false, ver := 0 }
  if (s.port p).prov then sendHello p s else s

/-- NEGOTIATING is entered; a provider sends CAPS (R338, R343). -/
def negStart (p cause : Nat) (s : State) : State :=
  let s := (portEnter p .negotiating cause s).modPort p fun t => { t with reqOk := false, readyOk := false, next := .none }
  if (s.port p).prov then sendCaps p s else s

/-! Authentication (R356 to R358). -/

/-- The partner has to pass a check before NEGOTIATING, and has not (R356). -/
def authWanted (s : State) (p : Nat) : Bool := par s gPRT p PRT.AUTH_MODE = 2 && (s.port p).authRes ≠ some 0

/-- A check of the partner ends with a result; PARTNER_AUTH reports it (R357, R360, R363). In ATTACHED with AUTH_MODE 2 a pass goes on to
NEGOTIATING and a failure stays (R346, R356). -/
def authEnd (p res : Nat) (s : State) : State :=
  let s := (s.modPort p fun t => { t with auth := none, authRes := some res }).raise Ev.PARTNER_AUTH (p * 2 ^ 8 + res)
  let s := portOpEnd p [5] (if res = 0 then St.OK else if res = 4 then St.VERSION else St.AUTH_FAIL) s
  let t := s.port p
  if t.st = .attached && t.ver ≠ 0 && par s gPRT p PRT.AUTH_MODE = 2 then
    (if res = 0 then negStart p 4 s else s.raise Ev.PORT_STATE (p * 2 ^ 8 + 7 * 2 ^ 4 + PtSt.attached.code))
  else s

/-- The next chunk of the partner's certificate is asked for (R357). -/
def certAsk (p off : Nat) (s : State) : State := portSend p Ple.AUTH_CERT_GET (leBytes 2 off ++ [64, 0]) s

/-- A check of the partner begins; a partner below 2.2 fails with result 4 (R356, R357). -/
def authStart (p : Nat) (op : Option Nat) (s : State) : State :=
  if (s.port p).ver < 0x22 then authEnd p 4 s
  else certAsk p 0 (s.modPort p fun t => { t with auth := some ⟨1, [], 0, [], 0, op⟩ })

/-- A check that runs goes on after a soft reset, which has forgotten its last message: that message is sent again (R331, R357). -/
def authAgain (p : Nat) (s : State) : State :=
  match (s.port p).auth with
  | some a => if a.step = 1 then certAsk p a.bytes.length s else portSend p Ple.AUTH_CHALLENGE a.nonce s
  | none => s

/-- The ALERT of severity 1 that the supply is withdrawn (R344). -/
def sendWithdrawn (p : Nat) (s : State) : State := portSend p Ple.ALERT [6, 1, 0, 0] s

/-- A soft reset is over: NEGOTIATING, or ATTACHED while no version has been selected or a check that AUTH_MODE 2 asks for has not passed
(R346, R356); the numbering restarts (R331), and an ALERT that waited goes out first (R344). -/
def softDone (p cause : Nat) (s : State) : State :=
  let s := portRenumber p s
  let s := if (s.port p).alertDue then sendWithdrawn p (s.modPort p fun t => { t with alertDue := false }) else s
  let t := s.port p
  if t.ver = 0 then helloStart p cause s
  else if authWanted s p then
    let s := portEnter p .attached cause s
    if t.auth.isNone && t.authRes.isNone then authStart p none s else authAgain p s
  else authAgain p (negStart p cause s)

/-- PORT_STATE cause for a soft-reset cause (R363). -/
def softCause : Nat → Nat
  | 1 => 3 | 4 => 3 | 3 => 5 | _ => 4

/-- A soft reset of port p begins, its own SOFT_RESET going out (R353, R363); counted. A role swap that the host has asked for ends with
INTERNAL (R360). -/
def softBegin (p cause : Nat) (s : State) : State :=
  let s := (s.modPort p fun t => { t.voided.dropOwn with softN := incSat 32 t.softN, cause := cause, queue := [], swapRetry := none }).raise
    Ev.PORT_SOFT_RESET (p * 2 ^ 8 + cause)
  portOpEnd p [2] St.INTERNAL (portEnter p .softReset (softCause cause) s)

/-- Port p enters SOFT_RESET from ATTACHED, NEGOTIATING or CONTRACT and sends its own SOFT_RESET (R346, R353). -/
def softReset (p cause : Nat) (s : State) : State :=
  match (s.port p).st with
  | .attached | .negotiating | .contract => portSend p Ple.SOFT_RESET [] (softBegin p cause s)
  | _ => s

end Sys2Proof.Machine
end

