-- ==== Sys2Proof/Machine/Packs.lean ====
section
/-! DEFINITION. The pack-set job (08_pack_charging R284 to R314): facts and profiles, temperature regions, limits, weights, state of charge,
the session machine, removal, the fallback profile, and the breakwater STOP of R190, which removes a pack. -/

namespace Sys2Proof.Machine

/-! Facts and profiles (R284, R287 to R290). -/

/-- The pack lane that serves PPp (R284). -/
def packLane (s : State) (p : Nat) : Option Nat := (laneOfPort s p).bind fun n => if lnKind s n = 3 then some n else none

/-- The pack has a contract that counts (R287). -/
def packCon (s : State) (p : Nat) : Bool := par s gCHG p CHG.PARTNER = 1 && hasPack (s.port p)

/-- A fact of PACK_CAPS. -/
def capsFact (s : State) (p : Nat) (f : PkCaps → Nat) : Option Nat := if packCon s p then (s.port p).pk.map f else none

/-- A written value where it is not 0, else the contract's where it is not 0. -/
def factOf (own : Nat) (con : Option Nat) : Option Nat := if own ≠ 0 then some own else con.bind fun v => if v = 0 then none else some v

/-- Cell count N (R287). -/
def packCells (s : State) (p : Nat) : Option Nat := factOf (par s gCHG p CHG.CELLS) (capsFact s p (·.cells))
/-- Capacity C in 0.1 Ah. -/
def packCap (s : State) (p : Nat) : Option Nat := factOf (par s gCHG p CHG.CAP) (capsFact s p (·.cap))
/-- Health H in ‰. -/
def packHealth (s : State) (p : Nat) : Nat := (factOf (par s gCHG p CHG.HEALTH) (capsFact s p (·.soh))).getD 1000

/-- The slot of the pack's own profile (R289): none without a match or with an empty slot. -/
def ownSlot (s : State) (p : Nat) : Option Nat :=
  let slot := match par s gCHG p CHG.PROFILE with
    | 0xFF => (match capsFact s p (·.chem) with | some 1 => some 0 | some 2 => some 1 | _ => none)
    | k => some k
  slot.bind fun k => if par s gCHG (8 + k) CHG.CHEM = 0 then none else some k

/-- A field of the pack's own profile. -/
def ownField (s : State) (p k : Nat) : Option Nat := (ownSlot s p).map fun x => par s gCHG (8 + x) k

/-- A voltage field of the profile in force: the own one, or in fallback slot 7 with its zeros inherited and CV lowered by FB_DV (R290). -/
def profV (s : State) (p k : Nat) : Option Nat :=
  if s.jobs.unit.fallback then
    let v := par s gCHG 15 k
    if v ≠ 0 then some v
    else (ownField s p k).map fun o => if k = CHG.CV_CELL || k = CHG.CV_RED_CELL then o - par s gCHG 16 CHG.FB_DV else o
  else ownField s p k

/-- The instance of the profile in force, whose other fields are used as written (R290, R313). -/
def profInst (s : State) (p : Nat) : Option Nat := if s.jobs.unit.fallback then some 15 else (ownSlot s p).map (8 + ·)

/-- A field of the profile in force other than a voltage; 0 without a profile. -/
def profF (s : State) (p k : Nat) : Nat := match profInst s p with | some i => par s gCHG i k | none => 0

/-- N times a cell voltage in mV; none without a cell count or profile. -/
def cellV (s : State) (p k : Nat) : Option Int := match packCells s p, profV s p k with | some n, some v => some (n * v : Nat) | _, _ => none

/-- VPPp in mV. -/
def packV (s : State) (p : Nat) : Int := s.val (8 + p)
/-- IPPp in mA, positive toward the link. -/
def packI (s : State) (p : Nat) : Int := s.val (12 + p)

/-- A current of x thousandths of C in mA, by a factor in %. -/
def cRate (s : State) (p x pct : Nat) : Option Int := (packCap s p).map fun c => divR (x * c * pct : Nat) 1000

/-! Regions (R291, R292). -/

/-- The thresholds T1 to T6 in 0.01 degC. -/
def thresholds (s : State) (p : Nat) : List Int :=
  match profInst s p with
  | some i => [CHG.T1, CHG.T2, CHG.T3, CHG.T4, CHG.T5, CHG.T6].map fun k => 10 * parS s gCHG i k
  | none => []

/-- The region of a temperature without hysteresis: the number of thresholds reached. -/
def regionOf (ts : List Int) (t : Int) : Nat := countOf (fun x => decide (x ≤ t)) ts

/-- One step of the region with its hysteresis (R291). -/
def regionStep (ts : List Int) (hyst t : Int) (r : Nat) : Nat :=
  if r < 6 && ts.getD r 0 ≤ t then r + 1
  else if 0 < r && t < ts.getD (r - 1) 0 - hyst then r - 1 else r

/-- The region of one source after this frame (R292). -/
def sourceRegion (ts : List Int) (hyst : Int) (t : Option Int) (old : Option Nat) : Option Nat :=
  if ts.isEmpty then none else
  t.map fun v => match old with
    | none => regionOf ts v
    | some r => iter (regionStep ts hyst v) 6 r

/-- The region farther from NORMAL, the lower code on a tie, COLD without a source (R292). -/
def combineRegion : Option Nat → Option Nat → Nat
  | none, none => 1
  | some a, none => a
  | none, some b => b
  | some a, some b =>
    let d (r : Nat) : Nat := absN ((r : Int) - 3)
    if d a < d b then b else if d b < d a then a else min a b

/-- The contract temperature in 0.01 degC. -/
def conTemp (s : State) (p : Nat) : Option Int := if packCon s p then ((s.port p).stat.bind (·.temp)).map (10 * ·) else none

/-- The temperature of the pack's pin. -/
def packPinTemp (s : State) (p : Nat) : Option Int :=
  let k := par s gCHG p CHG.TS_PIN
  if k < nTs s && !(s.pin k).unusable then (s.pin k).temp else none

/-- The region is evaluated; PACK_REGION on a change (R292). -/
def packRegion (p : Nat) (s : State) : State :=
  let k := s.pack p
  let ts := thresholds s p
  let h := 10 * parI s gCHG 16 CHG.PTEMP_HYST
  let a := sourceRegion ts h (conTemp s p) k.regCon
  let b := sourceRegion ts h (packPinTemp s p) k.regPin
  let r := combineRegion a b
  let s := s.modPack p fun k => { k with regCon := a, regPin := b, region := r }
  if r = k.region then s else s.raise Ev.PACK_REGION (p * 2 ^ 8 + r)

/-- The region allows charge. -/
def regCharge (r : Nat) : Bool := 2 ≤ r && r ≤ 4
/-- The region allows supply. -/
def regSupply (r : Nat) : Bool := 1 ≤ r && r ≤ 5
/-- The charge current factor of a region in %. -/
def regF (s : State) (p r : Nat) : Nat := if r = 2 then profF s p CHG.COOL_F else if r = 4 then profF s p CHG.WARM_F else 100
/-- The charge voltage reduction of a region in mV per cell. -/
def regDV (s : State) (p r : Nat) : Nat := if r = 2 then profF s p CHG.COOL_DV else if r = 4 then profF s p CHG.WARM_DV else 0

/-! State of charge (R305 to R307). -/

/-- Full, in 2^-48 of capacity. -/
def socFull : Nat := 2 ^ 48
/-- SOC compared with x ‰. -/
def socBelow (k : Pack) (x : Nat) : Bool := k.soc * 1000 < x * socFull
/-- x ‰ in 2^-48; the bits below its resolution are free. -/
def socOf (x : Nat) : Nat := min socFull (divR (x * socFull : Nat) 1000).toNat
/-- SOC in ‰ as reported. -/
def socPm (k : Pack) : Nat := (divR (k.soc * 1000 : Nat) socFull).toNat

/-- SOC from the OCV table at a pack voltage (R306): linear between the 10 % points, bounded to 0 and full. -/
def ocvSoc (s : State) (p : Nat) (v : Int) : Option Nat :=
  match packCells s p, (List.range 11).mapM fun j => profV s p (CHG.OCV0 + j) with
  | some n, some tab =>
    let at_ (j : Nat) : Int := n * (tab.getD j 0)
    match ((List.range 11).filter fun j => decide (at_ j ≤ v)).getLast? with
    | none => some 0
    | some j => if j = 10 then some socFull
                else some (min socFull (divR ((j * (at_ (j + 1) - at_ j) + (v - at_ j)) * socFull) (10 * (at_ (j + 1) - at_ j))).toNat)
  | _, _ => none

/-- The estimate is anchored by a source at a value in 2^-48 (R306); sources 1, 2 and 4 clear UNANCHORED (R307). -/
def anchor (p src soc : Nat) (s : State) : State :=
  let s := s.modPack p fun k => { k with soc := soc, socSet := true, unanch := k.unanch && src == 3 }
  s.raise Ev.SOC_ANCHORED (socPm (s.pack p) * 2 ^ 16 + p * 2 ^ 8 + src)

/-- SOC on entry to QUALIFY (R307), as soon as a source gives one. -/
def setSoc (p : Nat) (s : State) : State :=
  if (s.pack p).socSet then s else
  match (if packCon s p then (s.port p).stat.bind (·.soc) else none) with
  | some x => s.modPack p fun k => { k with soc := socOf x, socSet := true, unanch := false }
  | none => match ocvSoc s p (packV s p) with
    | some v => s.modPack p fun k => { k with soc := v, socSet := true, unanch := true }
    | none => s.modPack p fun k => { k with unanch := true }

/-- S3 of the pack-set job for pack p: coulomb count, throughput, and a contract report (R305, R306). -/
def packS3 (p : Nat) (s : State) : State :=
  let k := s.pack p
  if k.ph = .absent then s.modPack p fun k => { k with socRep := false } else
  let i := packI s p
  let d : Int := match packCap s p with
    | some c => divR ((if i < 0 then i * par s gCHG p CHG.COUL_EFF else i * 65536) * socFull) (c * 36000000000 * 65536 : Nat)
    | none => 0
  let s := s.modPack p fun k => { k with
    soc := (clampI 0 socFull ((k.soc : Int) - d)).toNat, ahThru := k.ahThru + absN i, socRep := false
    testAh := if k.test.isSome then k.testAh + i.toNat else k.testAh }
  match (if k.socRep && packCon s p then (s.port p).stat.bind (·.soc) else none) with
  | some x => anchor p 1 (socOf x) s
  | none => s

/-! Limits and weights (R293, R297, R298, R301, R302, R304). -/

/-- The phase whose limits govern: that of SUPPLY is its resume phase (R297). -/
def Pack.limPhase (k : Pack) : PkPh := if k.ph = .supply then k.resume else k.ph

/-- V_phase in mV per cell with 2 decimals (hundredths), before the region's reduction (R297). -/
def vPhase (s : State) (p : Nat) : Option Int :=
  let k := s.pack p
  match k.limPhase with
  | .precharge => (profV s p CHG.PRE_V_CELL).map fun v => (105 * v : Nat)
  | .cc | .cv => (profV s p (if k.unanch then CHG.CV_RED_CELL else CHG.CV_CELL)).map fun v => (100 * v : Nat)
  | .storage => (profV s p CHG.STORE_CELL).map fun v => (100 * v : Nat)
  | _ => (profV s p CHG.CV_CELL).map fun v => (100 * v : Nat)

/-- I_phase in 0.001 C (R297). -/
def iPhase (s : State) (p : Nat) : Nat :=
  let k := s.pack p
  match k.limPhase with
  | .precharge => profF s p CHG.PRE_C
  | .cc | .cv => profF s p CHG.CC_C
  | .taper => if k.topFor.isSome then profF s p CHG.TOPOFF_C else 0
  | .storage => match cellV s p CHG.STORE_CELL with | some v => if packV s p < v then profF s p CHG.CC_C else 0 | none => 0
  | _ => 0

/-- The least of the bounds that are present. -/
def minOf (l : List (Option Int)) : Option Int := match l.filterMap id with | [] => none | a :: r => some (r.foldl min a)

/-- V_chg in mV (R293). -/
def vChgOf (s : State) (p : Nat) : Int :=
  let k := s.pack p
  let base := match packCells s p, vPhase s p with
    | some n, some v => some (divR (n * (v - 100 * regDV s p k.region)) 100)
    | _, _ => none
  (minOf [base, if packCon s p then some (100 * conVmax (s.port p)) else none, some (100 * parI s gCHG p CHG.CV_V),
          if selvOk s then some (100 * selvField s .ppVmax p) else none]).getD 0

/-- I_chg in mA under the lane limit lim (R293). -/
def iChgOf (s : State) (p : Nat) (lim : Int) : Int :=
  let k := s.pack p
  if !regCharge k.region then 0 else
  max 0 ((minOf [some ((cRate s p (iPhase s p) (regF s p k.region)).getD 0), if packCon s p then some (10 * conIchg (s.port p)) else none,
    some (10 * parI s gCHG p CHG.CC_I), if selvOk s then some (10 * selvField s .ppIchg p) else none, some lim]).getD 0)

/-- V_floor in mV (R293). -/
def vFloorOf (s : State) (p : Nat) : Int :=
  maxL 0 ([cellV s p CHG.FLOOR_CELL, if packCon s p then some (100 * (conVmin (s.port p) : Int)) else none, some (100 * parI s gCHG p CHG.V_FLOOR),
    if selvOk s then some (100 * (selvField s .ppVmin p : Int)) else none].filterMap id)

/-- The pack is permitted to supply (R298, R312). -/
def supplyOk (s : State) (p : Nat) (floor : Int) : Bool :=
  let k := s.pack p
  let ph := match k.ph with | .cc | .cv | .taper | .rest | .maintain | .storage | .supply => true | _ => false
  let v := packV s p
  let store := match cellV s p CHG.STORE_CELL with | some x => decide (x < v) | none => false
  ph && par s gCHG p CHG.SUPPLY_EN = 1 && regSupply k.region &&
  (k.unanch || profF s p CHG.SOC_RESERVE * socFull < k.soc * 1000) &&
  (if k.supOk then floor ≤ v else 1005 * floor ≤ 1000 * v) && (k.ph ≠ .storage || store) &&
  (par s gCHG p CHG.PARTNER ≠ 1 || inPackContract (s.port p))

/-- I_dis in mA under the lane limit lim (R293). -/
def iDisOf (s : State) (p : Nat) (lim : Int) (ok : Bool) : Int :=
  if !ok then 0 else
  max 0 ((minOf [some ((cRate s p (profF s p CHG.DIS_C) 100).getD 0), if packCon s p then some (10 * conIdis (s.port p)) else none,
    some (10 * parI s gCHG p CHG.DIS_I), if selvOk s then some (10 * selvField s .ppIdis p) else none, some lim]).getD 0)

/-- A port current on the link side (R301). -/
def toLink (s : State) (p : Nat) (i : Int) : Int := if i = 0 then 0 else divR (i * packV s p) (vLink s)

/-- The pack takes part in the split: RUN or SLACK, SWPPx closed, a contract where one is required (R296, R301, R312). -/
def takesPart (s : State) (p n : Nat) : Bool :=
  (s.lane n).st.flows && s.outs.swpp.getD p false && (par s gCHG p CHG.PARTNER ≠ 1 || inPackContract (s.port p))

/-- A weight in 2^-16 mA: a limit in mA times x / 1,000 in ‰ of 2^48 times H / 1,000, at least 2^-16 A (R302). -/
def weightOf (lim x : Int) (h : Nat) : Int := max 1000 (divR (lim * 65536 * x * h) (1000000 * socFull))

/-- The link-side limits and weights of pack p on lane n for an I_chg and an I_dis (R301, R302, R304). The replacement of R304 stands in CV
and in a frame after one in which the lane's limit loop acted. -/
def packLim (s : State) (p n : Nat) (ic id_ : Int) : PackLim :=
  let k := s.pack p
  let on := takesPart s p n
  let l := s.lane n
  let own := toLink s p (divR (105 * (absN (packI s p) : Int) + 10 * parI s gLN n LN.I_RATED) 100)
  let lc := if on then toLink s p ic else 0
  let lc := if on && (k.ph = .cv || l.limWas) then min lc own else lc
  let ld := if on then toLink s p id_ else 0
  let h := packHealth s p
  { lc := lc, ld := ld, wC := weightOf lc (1050 * socFull - k.soc * 1000) h
    wD := weightOf ld (k.soc * 1000 - (profF s p CHG.SOC_RESERVE : Int) * socFull + 50 * socFull) h }

/-- The limits and weights of pack p on lane n (R293, R298, R301, R302, R304), and those without the site bound (R229, R230). -/
def packLimits (p n : Nat) (s : State) : State :=
  let k := s.pack p
  if k.ph = .absent then s.modPack p fun k => { k with vChg := 0, vFloor := 0, iChg := 0, iDis := 0, supOk := false, lc := 0, ld := 0, wC := 0, wD := 0, free := {}, testAmp := 0 }
  else
    let floor := vFloorOf s p
    let ok := supplyOk s p floor
    let ic := iChgOf s p (s.lane n).limNeg
    let id_ := iDisOf s p (s.lane n).limPos ok
    let m := packLim s p n ic id_
    let e := limitsUnder s n (s.lane n).heat
    let free := packLim s p n (iChgOf s p e.2) (iDisOf s p e.1 ok)
    s.modPack p fun k => { k with
      vChg := vChgOf s p, vFloor := floor, iChg := ic, iDis := id_, supOk := ok, lc := m.lc, ld := m.ld, wC := m.wC, wD := m.wD
      free := { free with u := k.free.u }
      testAmp := toLink s p ((cRate s p (par s gCHG 16 CHG.CAPTEST_C) 100).getD 0) }

/-! Phases (R295, R299, R318, R319). -/

/-- A capacity test ends: 0 complete, 1 time limit, 2 abandoned (R309). -/
def testEnd (p code : Nat) (s : State) : State :=
  if (s.pack p).test.isNone then s else
  let s := (s.modPack p fun k => { k with test := none, testWant := false }).setPar gCHG p CHG.CAPTEST_REQ 0
  s.raise Ev.CAPTEST_DONE ((if code = 0 then (s.pack p).capMeas else 0) * 2 ^ 16 + p * 2 ^ 8 + code)

/-- CC entered from a phase restarts the CHG_TIMEOUT clock unless the same charge resumes (R299). -/
def keepsClock (k : Pack) : Bool := k.ph == .supply && (k.resume == .cc || k.resume == .cv)

/-- Pack p enters a phase, with a cause where the entry records one; PACK_PHASE tells a change within the session (R319). -/
def packEnter (p : Nat) (ph : PkPh) (cause : Option Nat) (s : State) : State :=
  let k := s.pack p
  let c := cause.getD k.cause
  let s := s.modPack p fun k => { k with
    ph := ph, cause := c, connect := false, qual := 0, run1 := 0, termRun := 0, mntRun := 0, supRun := 0, noSupRun := 0, inPh := 0
    reported := if ph = .qualify && k.ph ≠ .qualify then 0 else k.reported
    preClk := if ph = .precharge then 0 else k.preClk
    chgClk := if ph = .cc && !keepsClock k then 0 else k.chgClk
    topFor := none, topWant := decide (ph = .taper), resume := if ph = .supply then k.ph else k.resume }
  let s := if k.ph = .taper && ph ≠ .taper then s.setPar gCHG p CHG.TOPOFF_REQ 0 else s
  let s := if k.ph = .supply && ph ≠ .supply then testEnd p 2 s else s
  if k.ph = .absent || ph = .absent || k.ph = ph then s
  else s.raise Ev.PACK_PHASE (p * 2 ^ 16 + c * 2 ^ 8 + k.ph.code * 2 ^ 4 + ph.code)

/-- SWPPp of a pack is wanted open from the coming commit. -/
def packOpen (p : Nat) (s : State) : State :=
  { s.modPack p fun k => { k with swFor := none, openLater := false } with shadow := { s.shadow with swpp := s.shadow.swpp.set p false } }

/-- The session returns to QUALIFY at step CHECK: SOC and anchor stay, SWPPx opens once the lane is OFF (R295, R314). -/
def packDrop (p cause : Nat) (s : State) : State :=
  let k := s.pack p
  if k.ph = .absent || (k.ph = .qualify && !k.connect) then s else
  (packEnter p .qualify (some cause) s).modPack p fun k => { k with openLater := k.swFor.isSome }

/-- The first condition of QUALIFY, CHECK that fails: its cause (R295, R318); the order 7, 6, 5, 8, 9 is DEDUCED (log 21). -/
def checkCause (s : State) (p : Nat) : Option Nat :=
  let k := s.pack p
  let v := packV s p
  if (packCells s p).isNone || (packCap s p).isNone then some 7
  else if (ownSlot s p).isNone then some 6
  else match cellV s p CHG.DEAD_CELL with
    | none => some 6
    | some dead =>
      if v < dead || 102 * vChgOf s p < 100 * v then some 5
      else if k.region = 0 || k.region = 6 then some 8
      else if !ctlRuns s then some 9 else none

/-- A frame of QUALIFY, CHECK (R295). -/
def packCheck (p : Nat) (s : State) : State :=
  let s := setSoc p s
  match checkCause s p with
  | none => s.modPack p fun k => { k with qual := k.qual + 1 }
  | some c =>
    let seen := bit (s.pack p).reported c
    let s := s.modPack p fun k => { k with qual := 0, cause := c, reported := setBit k.reported c }
    if seen then s else s.raise Ev.QUALIFY_FAILED (p * 2 ^ 8 + c)

/-- The attach window of a pack without a partner protocol (R295). -/
def attachWindow (s : State) (p : Nat) : Bool :=
  let v := packV s p
  if par s gCHG p CHG.CELLS = 0 || (ownSlot s p).isNone then
    decide (if selvOk s then (selvField s .ppVmax p : Int) < v else 0 < v)
  else match cellV s p CHG.DEAD_CELL, cellV s p CHG.CV_CELL with
    | some a, some b => decide (a ≤ v && 100 * v ≤ 102 * b)
    | _, _ => false

/-- The TERM current in mA (R297). -/
def termI (s : State) (p : Nat) : Int :=
  let t := par s gCHG p CHG.TERM_I
  if t ≠ 0 then 10 * t else (cRate s p (profF s p CHG.TERM_C) 100).getD 0

/-- The counts of R295, R299, R306 and R310 that a frame moves on. -/
def packCount (s : State) (p n : Nat) (k : Pack) : Pack :=
  let v := packV s p
  let i := packI s p
  let rated := parI s gLN n LN.I_RATED
  let l := s.lane n
  let up (c : Bool) (x : Nat) : Nat := if c then x + 1 else 0
  let cond1 : Bool := match k.ph with
    | .precharge => (match cellV s p CHG.PRE_V_CELL with | some x => decide (101 * x ≤ 100 * v) | none => false)
    | .cc => decide (995 * k.vChg ≤ 1000 * v)
    | _ => false
  let clock := regCharge k.region && l.st.flows
  let small : Bool := match packCap s p with
    | some c => decide ((absN i : Int) * 10 ≤ (par s gCHG 16 CHG.ANCHOR_C * c : Nat))
    | none => false
  { k with
    inPh := k.inPh + 1
    swFor := if s.outs.swpp.getD p false then k.swFor.map (· + 1) else k.swFor
    run1 := up cond1 k.run1
    termRun := up (k.ph == .cv && decide ((absN i : Int) ≤ termI s p)) k.termRun
    mntRun := up (k.ph == .maintain && match cellV s p CHG.MAINT_CELL with | some x => decide (v < x) | none => false) k.mntRun
    supRun := up (decide (rated ≤ 5 * i)) k.supRun
    noSupRun := up (k.ph == .supply && decide (10 * i < rated)) k.noSupRun
    preClk := if k.ph == .precharge && clock then k.preClk + 1 else k.preClk
    chgClk := if (k.ph == .cc || k.ph == .cv) && clock then k.chgClk + 1 else k.chgClk
    topFor := k.topFor.map (· + 1)
    test := k.test.map (· + 1)
    testRun := up (k.test.isSome && decide (v ≤ k.vFloor)) k.testRun
    eocFor := k.eocFor.map (· + 1)
    ocvRun := up (k.ph != .absent && small) k.ocvRun
    flrRun := up (k.ph != .absent && decide (v ≤ k.vFloor && 0 < i)) k.flrRun
    holdoff := k.holdoff.map (· + 1)
    attRun := up (k.ph == .absent && par s gCHG p CHG.PARTNER == 0 && attachWindow s p) k.attRun
    collapse := up (k.ph != .absent && decide (rated ≤ 2 * (absN l.iMeas : Int) && 10 * absN i < absN l.iMeas)) k.collapse }

/-- CC where SOC is below RECHG_SOC, else MAINTAIN (R295). -/
def rechargePhase (s : State) (p : Nat) : PkPh := if socBelow (s.pack p) (profF s p CHG.RECHG_SOC) then .cc else .maintain

/-- The transitions of R295 that no row of the table names. -/
def packMoves (p n : Nat) (s : State) : State :=
  let k := s.pack p
  let s := if k.openLater && ((s.lane n).st = .off || s.ctl.state = .halt) then packOpen p s else s
  let s := if k.test.isSome && (!regSupply k.region || s.ctl.state = .safe) then testEnd p 2 s else s
  let store := par s gCHG p CHG.STORAGE_REQ = 1
  match k.ph with
  | .absent => s
  | .qualify =>
    if k.connect then
      (if !ctlRuns s then packDrop p 9 s
       else if k.swFor.isNone && (s.lane n).st.flows && !switchesHeld s then
         { s.modPack p fun k => { k with swFor := some 0, openLater := false } with shadow := { s.shadow with swpp := s.shadow.swpp.set p true } }
       else s)
    else packCheck p s
  | .cc | .cv | .taper | .rest | .maintain =>
    if !ctlRuns s then packDrop p 9 s else if store then packEnter p .storage none s else s
  | .storage => if !ctlRuns s then packDrop p 9 s else if !store then packEnter p (rechargePhase s p) none s else s
  | .precharge | .supply => if !ctlRuns s then packDrop p 9 s else s

/-- The session of pack p ends: a test is abandoned, a top-off request that stood in TAPER returns to 0, and what the session held is lost
(R307 to R309, R311); a test that has only been asked for goes on waiting. -/
def packEnd (p : Nat) (s : State) : State :=
  let s := if (s.pack p).ph = .taper then s.setPar gCHG p CHG.TOPOFF_REQ 0 else s
  (packOpen p (testEnd p 2 s)).modPack p fun k => { retries := k.retries, ahThru := k.ahThru, capMeas := k.capMeas, testWant := k.testWant }

/-- A session whose lane is no longer a pack lane ends (R284). -/
def packGone (p : Nat) (s : State) : State := if (s.pack p).ph = .absent then s else packEnd p s

/-- S4 of the pack-set job for pack p. -/
def packS4 (p : Nat) (s : State) : State :=
  match packLane s p with
  | none => packGone p s
  | some n =>
    let s := if (s.pack p).ph = .absent then s else packRegion p s
    let s := packLimits p n s
    packMoves p n (s.modPack p (packCount s p n))

/-- S4 of the pack-set job: every pack, then C_max and S_max (R301). -/
def packsS4 (s : State) : State :=
  let s := (List.range (nPp s)).foldl (fun s p => packS4 p s) s
  let c := sumOf (fun p => (s.pack p).lc) (List.range (nPp s))
  let d := sumOf (fun p => if (s.pack p).supOk then (s.pack p).ld else 0) (List.range (nPp s))
  let cf := sumOf (fun p => (s.pack p).free.lc) (List.range (nPp s))
  let df := sumOf (fun p => if (s.pack p).supOk then (s.pack p).free.ld else 0) (List.range (nPp s))
  s.modJobs fun j => { j with unit := { j.unit with cMax := c, sMax := d, cFree := cf, sFree := df } }

/-- S3 of the pack-set job. -/
def packsS3 (s : State) : State := (List.range (nPp s)).foldl (fun s p => packS3 p s) s

/-! Removal (R310, R311). -/

/-- Pack p is removed: its lane is OFF with cause 5 whatever its state was (DEDUCED, log 86), SWPPx opens at the commit, the session ends,
the demand is split anew, and for causes 2 and 3 the port is soft-reset (R311). The forced seam where PACKS is no longer eligible is
linkLate's, in the same frame (R272). -/
def packRemove (p cause : Nat) (s : State) : State :=
  match packLane s p with
  | none => s
  | some n =>
    if (s.pack p).ph = .absent then s else
    let s := if (s.lane n).st = .off then s
      else (laneOffNow n (some 5) s).modLane n fun l => { l with attempt := if l.st = .retry then 0 else l.attempt, stopped := false, restart := none }
    let s := linkS6 ((packEnd p s).modPack p fun k => { k with holdoff := some 0 })
    let a := p * 2 ^ 8 + cause
    let s := if cause = 2 || cause = 3 then s.raiseRec Ev.PACK_REMOVED a else s.raise Ev.PACK_REMOVED a
    if cause = 2 || cause = 3 then softReset p 6 s else s

/-! The fallback profile (R313, R314). -/

/-- SAFE is entered: every pack takes slot 7 from the next frame, grants lapse, tests are abandoned (R313); a test that has only been asked
for goes on waiting (R309). -/
def fallbackOn (s : State) : State :=
  let s := (List.range 4).foldl (fun s p => testEnd p 2 (s.modPack p fun k => { k with topFor := none })) s
  (s.modJobs fun j => { j with unit := { j.unit with fallback := true } }).raise Ev.PROFILE_FALLBACK 1

/-- SAFE is left under R8: every pack returns to its own profile; one without goes to QUALIFY with cause 6 (R314). -/
def fallbackOff (s : State) : State :=
  if !s.jobs.unit.fallback then s else
  let s := (s.modJobs fun j => { j with unit := { j.unit with fallback := false } }).raise Ev.PROFILE_FALLBACK 0
  (List.range (nPp s)).foldl (fun s p => if (packLane s p).isSome && (ownSlot s p).isNone then packDrop p 6 s else s) s

/-! The commands. -/

/-- A row of pack p acts only where a pack lane serves it. -/
def onPack (p : Nat) (cond : State → Pack → Nat → Bool) (f : State → State) (s : State) : State :=
  match packLane s p with
  | some n => if p < nPp s && cond s (s.pack p) n then f s else s
  | none => s

/-- PACK_ATTACHED (R295, R307). -/
def execPackAttached (p : Nat) (s : State) : Out :=
  .next (onPack p (fun s k _ => k.ph == .absent && k.holdoff.isNone &&
      (if par s gCHG p CHG.PARTNER = 1 then inPackContract (s.port p)
       else decide (par s gCHG 16 CHG.UQUAL_FRAMES ≤ k.attRun))) (fun s =>
    let s := packEnter p .qualify none (s.modPack p fun k => { k with attRun := 0, socSet := false, reported := 0, cause := 0, eocFor := none, ocvRun := 0, flrRun := 0, collapse := 0 })
    (setSoc p s).raise Ev.PACK_ATTACHED (p * 2 ^ 8 + b2n (inPackContract (s.port p)))) s)

/-- PACK_QUALIFIED (R295, R296): QUAL_FRAMES of passing checks. -/
def execPackQualified (p : Nat) (s : State) : Out :=
  .next (onPack p (fun s k _ => k.ph == .qualify && !k.connect && decide (par s gCHG 16 CHG.UQUAL_FRAMES ≤ k.qual))
    (fun s => s.modPack p fun k => { k with connect := true, openLater := false }) s)

/-- PACK_SWITCH_SETTLED (R295): SW_SETTLE frames since SWPPx closed. -/
def execPackSwitchSettled (p : Nat) (s : State) : Out :=
  .next (onPack p (fun s k _ => k.ph == .qualify && k.connect && match k.swFor with | some x => decide (par s gCHG 16 CHG.USW_SETTLE ≤ x) | none => false)
    (fun s =>
      let low := match cellV s p CHG.PRE_V_CELL with | some x => decide (packV s p < x) | none => false
      let ph : PkPh := if low then .precharge
        else if par s gCHG p CHG.STORAGE_REQ = 1 then .storage
        else if (s.pack p).unanch then .cc else rechargePhase s p
      packEnter p ph none s) s)

/-- PRECHARGE_DONE (R295). -/
def execPrechargeDone (p : Nat) (s : State) : Out :=
  .next (onPack p (fun _ k _ => k.ph == .precharge && decide (1000 ≤ k.run1)) (packEnter p .cc none) s)

/-- PRECHARGE_TIMEOUT (R295, R299). -/
def execPrechargeTimeout (p : Nat) (s : State) : Out :=
  .next (onPack p (fun s k _ => k.ph == .precharge && decide (profF s p CHG.PRE_TIMEOUT ≤ k.preClk)) (fun s =>
    let s := packEnter p .rest (some 1) (s.modPack p fun k => { k with retries := incSat 32 k.retries })
    s.raise Ev.PRECHARGE_TIMEOUT ((s.pack p).retries % 65536 * 2 ^ 16 + p)) s)

/-- CC_DONE (R295, R307). -/
def execCcDone (p : Nat) (s : State) : Out :=
  .next (onPack p (fun _ k _ => k.ph == .cc && decide (1000 ≤ k.run1)) (fun s =>
    if (s.pack p).unanch then packEnter p .rest (some 3) s else packEnter p .cv none s) s)

/-- Top-off is wanted at the end of CV (R308). -/
def topOffWanted (s : State) (p : Nat) : Bool :=
  profF s p CHG.TOPOFF_C ≠ 0 && profF s p CHG.TOPOFF_TIME ≠ 0 && !(s.pack p).unanch &&
  (par s gCHG p CHG.TOPOFF_REQ = 1 ||
   match (if packCon s p then conSpread (s.port p) else none) with | some x => decide (par s gCHG 16 CHG.TOPOFF_SPREAD < x) | none => false)

/-- CHARGE_TERMINATED (R295, R306, R308): the end of CV, with its anchor at the full voltage of the own profile. -/
def execChargeTerminated (p : Nat) (s : State) : Out :=
  .next (onPack p (fun s k _ => k.ph == .cv && decide (profF s p CHG.TERM_FRAMES ≤ k.termRun) && decide (0 < k.termRun)) (fun s =>
    let k := s.pack p
    let full := !k.unanch && regDV s p k.region = 0 && !s.jobs.unit.fallback
    let s := if full then (anchor p 3 socFull s).modPack p fun k => { k with eocFor := some 0 } else s
    if topOffWanted s p then packEnter p .taper none s else packEnter p .rest (some 4) s) s)

/-- CHARGE_TIMEOUT (R295, R299). -/
def execChargeTimeout (p : Nat) (s : State) : Out :=
  .next (onPack p (fun s k _ => (k.ph == .cc || k.ph == .cv) && decide (profF s p CHG.CHG_TIMEOUT ≤ k.chgClk)) (packEnter p .rest (some 2)) s)

/-- TAPER_END (R295, R308): TOPOFF_TIME since the grant. -/
def execTaperEnd (p : Nat) (s : State) : Out :=
  .next (onPack p (fun s k _ => k.ph == .taper && match k.topFor with | some x => decide (profF s p CHG.TOPOFF_TIME ≤ x) | none => false)
    (packEnter p .rest (some 4)) s)

/-- TAPER_NO_GRANT (R295): one hour in TAPER without a grant. -/
def execTaperNoGrant (p : Nat) (s : State) : Out :=
  .next (onPack p (fun _ k _ => k.ph == .taper && k.topFor.isNone && decide (360000000 ≤ k.inPh)) (packEnter p .rest (some 4)) s)

/-- REST_END (R295, R299, R300). -/
def execRestEnd (p : Nat) (s : State) : Out :=
  .next (onPack p (fun s k _ => k.ph == .rest && decide (profF s p (if k.cause = 1 then CHG.PRE_REST else CHG.REST_TIME) ≤ k.inPh)) (fun s =>
    let low := match cellV s p CHG.PRE_V_CELL with | some x => decide (packV s p < x) | none => false
    packEnter p (if low then .precharge else rechargePhase s p) none s) s)

/-- MAINTAIN_RECHARGE (R295). -/
def execMaintainRecharge (p : Nat) (s : State) : Out :=
  .next (onPack p (fun s k _ => k.ph == .maintain && ((!k.unanch && socBelow k (profF s p CHG.RECHG_SOC)) || decide (1000 ≤ k.mntRun)))
    (packEnter p .cc none) s)

/-- SUPPLY_ENTER (R295). -/
def execSupplyEnter (p : Nat) (s : State) : Out :=
  .next (onPack p (fun _ k _ => (match k.ph with | .cc | .cv | .taper | .rest | .maintain | .storage => true | _ => false) && decide (100 ≤ k.supRun))
    (packEnter p .supply none) s)

/-- SUPPLY_EXIT (R295); a capacity test keeps the pack in SUPPLY until it ends (R309; DEDUCED, log 22). -/
def execSupplyExit (p : Nat) (s : State) : Out :=
  .next (onPack p (fun _ k _ => k.ph == .supply && k.test.isNone && decide (100 ≤ k.noSupRun)) (fun s =>
    let k := s.pack p
    let ph : PkPh := if par s gCHG p CHG.STORAGE_REQ = 1 then .storage
      else if k.resume == .maintain && !socBelow k (profF s p CHG.RECHG_SOC) then .maintain else .cc
    packEnter p ph none s) s)

/-- PACK_REMOVAL_COLLAPSE (R310, R311). -/
def execPackRemovalCollapse (p : Nat) (s : State) : Out :=
  .next (onPack p (fun _ k _ => k.ph != .absent && decide (2 ≤ k.collapse)) (packRemove p 3) s)

/-- PACK_HOLDOFF_END (R311): a new session may begin. -/
def execPackHoldoffEnd (p : Nat) (s : State) : Out :=
  .next (if (match (s.pack p).holdoff with | some x => decide (par s gCHG 16 CHG.HOLDOFF ≤ x) | none => false) then
    s.modPack p fun k => { k with holdoff := none }
  else s)

/-- SOC_ANCHOR_OCV (R306). -/
def execSocAnchorOcv (p : Nat) (s : State) : Out :=
  .next (onPack p (fun s k _ => k.ph != .absent && decide (par s gCHG 16 CHG.ANCHOR_FRAMES ≤ k.ocvRun) && decide (0 < k.ocvRun)) (fun s =>
    match ocvSoc s p (packV s p) with
    | some v => (anchor p 2 v s).modPack p fun k => { k with ocvRun := 0 }
    | none => s) s)

/-- SOC_ANCHOR_FLOOR (R306). -/
def execSocAnchorFloor (p : Nat) (s : State) : Out :=
  .next (onPack p (fun _ k _ => k.ph != .absent && decide (1000 ≤ k.flrRun)) (fun s =>
    (anchor p 4 0 s).modPack p fun k => { k with flrRun := 0 }) s)

/-- CAPTEST_FLOOR_REACHED (R309): VPPn at or below V_floor on 1,000 frames of the test; the Ah delivered, the floor anchor, CC. -/
def execCaptestFloorReached (p : Nat) (s : State) : Out :=
  .next (onPack p (fun _ k _ => k.test.isSome && decide (1000 ≤ k.testRun)) (fun s =>
    let s := s.modPack p fun k => { k with capMeas := fitU 16 (divR k.testAh 36000000000) }
    let s := testEnd p 0 (anchor p 4 0 s)
    packEnter p .cc none (s.modPack p fun k => { k with flrRun := 0 })) s)

/-- CAPTEST_TIMEOUT (R309). -/
def execCaptestTimeout (p : Nat) (s : State) : Out :=
  .next (onPack p (fun s k _ => match k.test with | some x => decide (par s gCHG 16 CHG.CAPTEST_MAX ≤ x) | none => false) (testEnd p 1) s)

/-- The port overvoltage threshold of lane n in mV; BW_VOV 0 stands for the VMAX of the lane's port (R190, R571). -/
def bwVov (s : State) (n : Nat) : Int :=
  let v := par s gLN n LN.BW_VOV
  100 * (if v ≠ 0 then v else if lnKind s n ≤ 2 then selvField s .inVmax (lnPort s n) else selvField s .ppVmax (lnPort s n) : Nat)

/-- The kind of BW_STOP that a port voltage in mV calls for: 1 overvoltage, 2 a step out of the window centred on the port's MEAN at the
last commit; none within both (R190, R203). -/
def bwKind (s : State) (n : Nat) (volt : Int) : Option Nat :=
  if bwVov s n < volt then some 1
  else if 100 * par s gLN n LN.BW_WIN < absN (volt - (s.lane n).bwMid) then some 2 else none

/-- A BW_STOP of a kind on lane n: the lane stops at once; that of a pack in session is taken OFF by the removal (R190, R310, R311). -/
def bwStopped (n kind : Nat) (s : State) : State :=
  let held := lnKind s n = 3 && (s.pack (lnPort s n)).ph ≠ .absent
  (if held then s else stopLane n 2 s).raiseRec Ev.BW_STOP (n * 2 ^ 8 + kind)

/-- BW_STOP (R190, R203, R310): the port voltage passes the overvoltage threshold or leaves its window; the lane stops at once, the input
port follows R250, a pack is removed. A SAFEn (3) and a running-rail fault (4) come with their own rows. -/
def execBwStop (n : Nat) (volt : Int) (s : State) : Out :=
  .next (match (if lnUsed s n then bwKind s n volt else none) with
  | none => s
  | some kind =>
    let s := bwStopped n kind s
    let p := lnPort s n
    match lnKind s n with
    | 1 | 2 => srcBreak p s
    | 3 => packRemove p 2 s
    | _ => s)

end Sys2Proof.Machine
end

