-- ==== Sys2Proof/Machine/Rails.lean ====
section
/-! DEFINITION. Rails and resets (11_rail_sequencing R409 to R425): the rail supervisors, the sequencer, the running-rail fault, the reset
outputs, and what the controller state follows: GLB.OPMODE and the sequencer (R7, R8). -/

namespace Sys2Proof.Machine

/-! Stops and switches (R12, R190, R417, R434). -/

/-- Every lane stops as by a STOP; BW_STOP of a kind tells each lane not already OFF. The PWM of a lane that is OFF already and still
switches to its next valley goes low with the rest (R12, R190, R417). -/
def stopAll (kind : Nat) (s : State) : State :=
  let s := (List.range (nLn s)).foldl (fun s n =>
    if lnUsed s n && (s.lane n).st ≠ .off then (stopLane n 2 s).raiseRec Ev.BW_STOP (n * 2 ^ 8 + kind) else s) s
  (List.range (nPh s)).foldl phaseLow s

/-- SWINn, SWPPx and SWLINK open at once. -/
def switchesOpen (s : State) : State :=
  let s := s.modOuts fun o => { o with swin := rep 4 false, swpp := rep 4 false, swlink := false }
  let s := { s with shadow := { s.shadow with swin := rep 4 false, swpp := rep 4 false, swlink := false } }
  s.modJobs fun j => { j with
    srcs := j.srcs.map fun p => { p with sw := false, openLater := false }
    packs := j.packs.map fun k => { k with swFor := none, openLater := false }
    ports := j.ports.map fun t => { t with sw := false }
    link := { j.link with swlink := false, swOpen := false } }

/-- The switches open by a SAFEn hold or a rail trip: every input port passes to OFF with cause 8, every pack session to QUALIFY (R295,
R574). -/
def switchesTrip (s : State) : State :=
  let s := switchesOpen s
  let s := (List.range (nIn s)).foldl (fun s n => srcTrip n s) s
  (List.range (nPp s)).foldl (fun s p => packDrop p 9 s) s

/-! The controller state (R7, R8, R10). -/

/-- RUN is entered; from STANDBY the watchdog's elapsed time starts from 0 (R7, R439). -/
def enterRun (s : State) : State :=
  let s := if s.ctl.state = .standby then s.modSafe fun f => { f with elapsed := 0 } else s
  s.enter .run

/-- What SAFE leaves behind: the packs return to their own profiles (R8, R314). -/
def leaveSafe (s : State) : State := fallbackOff (s.modCtl fun k => { k with service := false, stitchAfter := false })

/-- The controller follows GLB.OPMODE in force, the sequencer and the conditions of R8. -/
def followOpmode (s : State) : State :=
  let run := par s gGLB 0 GLB.OPMODE = 1
  match s.ctl.state with
  | .standby => if run && s.jobs.rails.st = .running then enterRun s else s
  | .run => if run then s else s.enter .standby
  | .safe => if !run then leaveSafe (s.enter .standby) else if s.ctl.service && s.ctl.stitchAfter then leaveSafe (s.enter .run) else s
  | _ => s

/-- A cause of HALT is decided for this frame's commit; the first one stands (R454). -/
def wantHalt (cause : Nat) (s : State) : State :=
  if s.ctl.state = .halt then s else s.modCtl fun c => { c with wantHalt := some (c.wantHalt.getD cause) }

/-! Groups (R415). -/

/-- SEQ[n].ORDER in force. -/
def railOrder (s : State) (n : Nat) : Nat := par s gSEQ n SEQ.ORDER

/-- Rail n is in use. -/
def railUsed (s : State) (n : Nat) : Bool := railOrder s n ≠ 0xFF

/-- The rails of group g. -/
def railsOf (s : State) (g : Nat) : List Nat := those 8 fun n => railUsed s n && railOrder s n = g

/-- The lowest group from g on that has a rail. -/
def groupFrom (s : State) (g : Nat) : Option Nat := (List.range 8).find? fun k => g ≤ k && !(railsOf s k).isEmpty

/-- The highest group with a rail that is started. -/
def groupTop (s : State) : Option Nat :=
  (List.range 8).reverse.find? fun k => (railsOf s k).any fun n => (s.rail n).st ≠ .off

/-- Every rail is OFF. -/
def railsOff (s : State) : Bool := (List.range 8).all fun n => (s.rail n).st == .off

/-- SEQENn is wanted at a level from the coming commit. -/
def setSeqen (n : Nat) (b : Bool) (s : State) : State :=
  { s.modRail n fun r => { r with en := b, swFor := 0 } with shadow := { s.shadow with seqen := s.shadow.seqen.set n b } }

/-- The sequencer enters a state (R416, R431). -/
def seqEnter (st : SqSt) (s : State) : State :=
  let s := s.modSeq fun q => { q with st := st, runFor := 0 }
  s.raise Ev.SEQ_STATE (b2n (anyFailedUp s.jobs) * 2 ^ 8 + st.code)

/-! Reset outputs (R424, R425). -/

/-- The rails that gate RSTOUTk. -/
def rstRails (s : State) (k : Nat) : List Nat := bitsOf 8 (par s gSEQ (9 + k) SEQ.MASK)

/-- The rails that gate RSTOUTk are RUNNING. -/
def rstReady (s : State) (k : Nat) : Bool := (rstRails s k).all fun n => (s.rail n).st == .running

/-- RSTOUTk is asserted at once while one of its rails is not RUNNING; otherwise its stretch counts from the frame on which the last of
them became RUNNING, or, with MASK 0, from the end of BOOT (R424). -/
def rstStep (s : State) : State :=
  (List.range 4).foldl (fun s k =>
    if rstReady s k then
      let run := (rstRails s k).foldl (fun (a : Nat) n => min a (s.rail n).upFor) s.age
      s.modSeq fun q => { q with rstFor := q.rstFor.set k (some run) }
    else s.modSeq fun q => { q with rst := q.rst.set k true, rstFor := q.rstFor.set k none }) s

/-- RSTOUTk stands at its asserted level (R424, R425). -/
def rstAsserted (s : State) (k : Nat) : Bool :=
  s.jobs.rails.rst.getD k true || par s gSEQ (9 + k) SEQ.FORCE == 1 || (k == 3 && s.jobs.rails.pulse ≠ 0)

/-- RSTOUT0 to RSTOUT3 are driven: they are high-impedance in reset and in BOOT until the configuration has been loaded (R553), save that
the clock monitor and the power-fail comparator assert them (R449, R451). -/
def rstDriven (s : State) : Bool := s.ctl.state != .boot || s.ctl.clockLost || s.ctl.powerFail

/-- The level of RSTOUTk, high or low as SEQ[9 + k].POLARITY selects the asserted one (R424). -/
def rstLevel (s : State) (k : Nat) : Bool := rstAsserted s k == (par s gSEQ (9 + k) SEQ.POLARITY == 1)

/-! Groups start and stop (R412, R415, R416). -/

/-- Group g is started: its rails enter RAMP (R412, R415). -/
def groupStart (g : Nat) (s : State) : State :=
  (railsOf s g).foldl (fun s n =>
    if (s.rail n).st = .off then setSeqen n true (s.modRail n fun r => { r with st := .ramp, stable := 0 }) else s)
    (s.modSeq fun q => { q with group := some g, next := none })

/-- Group g is stopped: its rails enter FALLING, and the reset outputs follow (R412, R415, R424). -/
def groupStop (g : Nat) (s : State) : State :=
  rstStep ((railsOf s g).foldl (fun s n =>
    match (s.rail n).st with
    | .running | .ramp | .failedUp => setSeqen n false (s.modRail n fun r => { r with st := .falling })
    | _ => s)
    (s.modSeq fun q => { q with group := some g, next := none }))

/-- POWER_UP: the first group is started; the minimum off time has been used (R416, R421). -/
def powerUp (s : State) : State :=
  let s := seqEnter .powerUp (s.modSeq fun q => { q with group := none, next := none, minOff := false, offFor := 0 })
  match groupFrom s 0 with
  | some g => groupStart g s
  | none => s

/-- The sequencer reaches RUNNING: an opening by a trip ends (R416, R417). -/
def seqRunning (s : State) : State := seqEnter .running (s.modSeq fun q => { q with group := none, next := none, tripOpen := false })

/-- IDLE, with the minimum off time begun (R416, R421). -/
def seqIdle (s : State) : State :=
  seqEnter .idle (s.modSeq fun q => { q with group := none, next := none, offFor := 0, minOff := false, goDown := false })

/-- The frames from the completion of group g to the start of the next one, as DELAY_UP in force gives them (R415, R426). -/
def groupDelay (s : State) (g : Nat) : Nat := (railsOf s g).foldl (fun a n => max a (par s gSEQ n SEQ.DELAY_UP)) 0

/-- A group in POWER_UP may be complete: the wait for the next one begins, or the sequencer is RUNNING (R415, R416). -/
def groupStep (s : State) : State :=
  let q := s.jobs.rails
  match q.group with
  | some g =>
    if q.st = .powerUp && q.next.isNone && (railsOf s g).all (fun n => (s.rail n).st == .running || (s.rail n).st == .failedUp) then
      (match groupFrom s (g + 1) with
       | some _ => s.modSeq fun q => { q with next := some 0 }
       | none => seqRunning s)
    else s
  | none => s

/-- A rail of the group in POWER_UP that was still FALLING when its group started, as after a trip, is started once it is OFF (R412). -/
def groupCatch (s : State) : State :=
  match s.jobs.rails.group with
  | some g => if s.jobs.rails.next.isNone then groupStart g s else s
  | none => s

/-- The sequencer is enabled (R416). -/
def seqEnabled (s : State) : Bool :=
  par s gSEQ 8 SEQ.ENABLE = 1 && !s.ctl.mooring && (s.ctl.state == .standby || s.ctl.state == .run || s.ctl.state == .safe)

/-! The running-rail fault (R417, R419). -/

/-- A trip: every lane stops, every SEQENn falls, every switch opens, the reset outputs follow, RAIL_TRIP and a record. -/
def railTrip (lost : List Nat) (cause : Nat) (s : State) : State :=
  let s := stopAll 4 s
  let s := (List.range 8).foldl (fun s n => if (s.rail n).st = .off then s else setSeqen n false (s.modRail n fun r => { r with st := .falling })) s
  let s := s.modOuts fun o => { o with seqen := rep 8 false }
  let s := switchesTrip s
  let s := rstStep s
  let s := s.modSeq fun q => { q with k := q.k + 1, trips := incSat 32 q.trips, tripFor := 0, offFor := 0, lowFor := 0, minOff := false, group := none, next := none, tripOpen := true }
  let s := s.raiseRec Ev.RAIL_TRIP (s.jobs.rails.k % 256 * 2 ^ 24 + maskOf lost * 2 ^ 16 + lost.headD 0 * 2 ^ 8 + cause)
  let s := seqEnter .tripped s
  if par s gSEQ 8 SEQ.TRIP_HALT = 1 then wantHalt 2 s else s

/-! S4 of the rail supervisors (R410 to R416). -/

/-- The corrected NEWEST value of SEQMONn in mV. -/
def railV (s : State) (n : Nat) : Int := (s.chan (26 + n)).newV

/-- S4 of rail n: the raw good signal, its run, the STABLE count, the chatter, the end of FALLING (R410 to R414). -/
def railS4 (n : Nat) (s : State) : State :=
  let v := railV s n
  let tooHigh := par s gSEQ n SEQ.V_OV ≠ 0 && parI s gSEQ n SEQ.V_OV < v
  let under := v < parI s gSEQ n SEQ.V_GOOD - parI s gSEQ n SEQ.V_HYST
  s.modRail n fun r =>
    let raw := if tooHigh || under then false else if parI s gSEQ n SEQ.V_GOOD ≤ v then true else r.raw
    let ends := r.st == .falling && decide (v < parI s gSEQ n SEQ.V_OFF)
    { r with
      raw := raw, ov := if r.raw && !raw then tooHigh else r.ov
      rawRun := if raw = r.raw then r.rawRun + 1 else 1
      chatter := if r.st = .ramp && r.raw && !raw then incSat 32 r.chatter else r.chatter
      stable := if r.st = .ramp && r.good then r.stable + 1 else 0
      swFor := r.swFor + 1
      upFor := if r.st = .running then r.upFor + 1 else 0
      st := if ends then .off else r.st }

/-- The sequencer asks for POWER_DOWN (R416). -/
def wantsDown (s : State) : Bool :=
  par s gSEQ 8 SEQ.ENABLE = 0 || s.ctl.mooring || (s.ctl.state == .halt && s.jobs.rails.goDown)

/-- S4 of the sequencer: its counts, the reset outputs, and the transitions that no row of the table names (R415, R416, R421, R424). -/
def seqS4 (s : State) : State :=
  let s := s.modSeq fun q => { q with
    next := q.next.map (· + 1), offFor := q.offFor + 1, lowFor := if s.outs.seqen.any id then 0 else q.lowFor + 1, tripFor := q.tripFor + 1
    runFor := if q.st = .running then q.runFor + 1 else 0
    minOff := q.minOff && decide (par s gSEQ 8 SEQ.MIN_OFF ≤ q.offFor + 1)
    pulse := if 1 < q.pulse then q.pulse - 1 else q.pulse }
  let s := rstStep s
  let lanesOff := (List.range (nLn s)).all fun n => (s.lane n).st == .off
  match s.jobs.rails.st with
  | .idle => if seqEnabled s && s.jobs.rails.minOff then powerUp s else s
  | .powerUp | .running =>
    if wantsDown s && lanesOff then
      let s := seqEnter .powerDown s
      (match groupTop s with
       | some g => groupStop g s
       | none => s.modSeq fun q => { q with group := none, next := none })
    else if s.jobs.rails.st = .powerUp then (if s.jobs.rails.group.isNone then seqRunning s else groupCatch s)
    else s
  | _ => s

/-! The commands. -/

/-- RAIL_GROUP_START (R415): the next group's SEQENn rise at the commit of this frame. -/
def execRailGroupStart (s : State) : Out :=
  let q := s.jobs.rails
  .next (match q.group, q.next with
  | some g, some k => if q.st = .powerUp && groupDelay s g ≤ k then (match groupFrom s (g + 1) with | some k => groupStart k s | none => s) else s
  | _, _ => s)

/-- RAIL_DEBOUNCED_CHANGE (R411, R417): the debounced good signal takes the raw level held; a RUNNING rail that loses it while the sequencer
is in POWER_UP or RUNNING trips, together with every other that loses it on this frame. -/
def execRailDebouncedChange (n : Nat) (s : State) : Out :=
  let due (k : Nat) : Bool := (s.rail k).raw != (s.rail k).good && par s gSEQ k SEQ.DEBOUNCE ≤ (s.rail k).rawRun
  .next (if !(n < 8 && due n) then s
  else
    let lost := those 8 fun k => due k && !(s.rail k).raw && (s.rail k).st == .running
    let armed := s.jobs.rails.st == .powerUp || s.jobs.rails.st == .running
    if armed && lost.contains n then
      let s' := lost.foldl (fun s k => s.modRail k fun r => { r with good := false, stable := 0 }) s
      railTrip lost (if (s.rail (lost.headD 0)).ov then 2 else 1) s'
    else s.modRail n fun r => { r with good := r.raw, stable := if r.raw && r.st = .ramp then 1 else 0 })

/-- RAIL_RUNNING (R412). -/
def execRailRunning (n : Nat) (s : State) : Out :=
  let r := s.rail n
  .next (if n < 8 && r.st = .ramp && r.good && par s gSEQ n SEQ.STABLE ≤ r.stable then
    groupStep (rstStep (s.modRail n fun r => { r with st := .running, upFor := 0, rise := satN 65535 r.swFor }))
  else s)

/-- RAIL_FAILED_UP (R412, R413). -/
def execRailFailedUp (n : Nat) (s : State) : Out :=
  let r := s.rail n
  .next (if n < 8 && r.st = .ramp && par s gSEQ n SEQ.RAMP_TIMEOUT ≤ r.swFor && !(r.good && par s gSEQ n SEQ.STABLE ≤ r.stable) then
    groupStep ((s.modRail n fun r => { r with st := .failedUp }).raise Ev.RAIL_FAILED_UP (r.chatter % 65536 * 2 ^ 16 + n))
  else s)

/-- RAIL_SLOW_DOWN (R412). -/
def execRailSlowDown (n : Nat) (s : State) : Out :=
  let r := s.rail n
  .next (if n < 8 && r.st = .falling && par s gSEQ n SEQ.FALL_TIMEOUT ≤ r.swFor then
    (s.modRail n fun r => { r with st := .off }).raise Ev.RAIL_SLOW_DOWN n
  else s)

/-- RAIL_GROUP_STOP (R415, R416): every rail of the group is OFF; the next lower group is stopped, or the sequencer is IDLE. -/
def execRailGroupStop (s : State) : Out :=
  let q := s.jobs.rails
  let done := match q.group with | some g => (railsOf s g).all fun n => (s.rail n).st == .off | none => true
  .next (if q.st = .powerDown && done then
    match groupTop s with
    | some g => groupStop g s
    | none => seqIdle s
  else s)

/-- SEQ_TRIP_RESTART (R419). -/
def execSeqTripRestart (s : State) : Out :=
  let q := s.jobs.rails
  .next (if q.st = .tripped && seqEnabled s && tripWait s q.k ≤ q.tripFor && railsOff s then powerUp s else s)

/-- A trip that causes HALT keeps the sequencer TRIPPED until HALT is left (R419). -/
def tripKept (s : State) : Bool := par s gSEQ 8 SEQ.TRIP_HALT = 1 && (s.ctl.state == .halt || s.ctl.wantHalt.isSome)

/-- SEQ_TRIP_IDLE (R416): the minimum off time since the trip has elapsed. -/
def execSeqTripIdle (s : State) : Out :=
  let q := s.jobs.rails
  .next (if q.st = .tripped && !tripKept s && par s gSEQ 8 SEQ.ENABLE = 0 && par s gSEQ 8 SEQ.MIN_OFF ≤ q.tripFor then
    seqEnter .idle (s.modSeq fun q => { q with group := none, next := none, minOff := true })
  else s)

/-- MIN_OFF_ELAPSED (R416, R421). -/
def execMinOffElapsed (s : State) : Out :=
  let q := s.jobs.rails
  .next (if q.st = .idle && !q.minOff && par s gSEQ 8 SEQ.MIN_OFF ≤ q.offFor then
    let s := s.modSeq fun q => { q with minOff := true }
    if seqEnabled s then powerUp s else s
  else s)

/-- TRIP_COUNT_RESET (R419). -/
def execTripCountReset (s : State) : Out :=
  let q := s.jobs.rails
  .next (if q.st = .running && 6000000 ≤ q.runFor then s.modSeq fun q => { q with k := 0 } else s)

/-- RSTOUT_RELEASE (R424). -/
def execRstoutRelease (k : Nat) (s : State) : Out :=
  let q := s.jobs.rails
  let due := match q.rstFor.getD k none with | some x => decide (par s gSEQ (9 + k) SEQ.STRETCH ≤ x) | none => false
  .next (if s.live && k < 4 && q.rst.getD k true && due then s.modSeq fun q => { q with rst := q.rst.set k false } else s)

/-- SAFE_PULSE_END (R425). -/
def execSafePulseEnd (s : State) : Out :=
  .next (if s.jobs.rails.pulse = 1 then s.modSeq fun q => { q with pulse := 0 } else s)

end Sys2Proof.Machine
end

