-- ==== Sys2Proof/Machine/Records.lean ====
section
/-! DEFINITION. Fault records, telemetry, energy counters and the trace (12_protection_watchdogs_records R459 to R470). -/

namespace Sys2Proof.Machine

/-! Fault records (R459 to R462). -/

/-- The greatest of the junction temperatures in the read image, 0 where none is known. -/
def tjMax (s : State) : Int := maxL 0 ((s.image.sched.therm.take (nPh s)).filterMap (·.tj))

/-- 16-bit words as little-endian bytes. -/
def words16 (l : List Nat) : List Byte := l.flatMap (leBytes 2)

/-- f at each index below n, 0 at those the part lacks. -/
def upTo (n have_ : Nat) (f : Nat → Nat) : List Nat := (List.range n).map fun k => if k < have_ then f k else 0

/-- The first 252 bytes of a fault record taken from the read image, its number still 0 (R460). -/
def recordBody (s : State) (r : RecReq) : List Byte :=
  let raw (c : Nat) : Nat := if chanPresent s c then ofS 16 ((s.image.sense.chans.getD c {}).newest) else 0
  let slot (j : Nat) : Slot := s.image.frm.slots.getD j {}
  let rail (n : Nat) : Nat := let x := s.image.rails.rails.getD n {}; b2n x.good * 8 + x.st.code
  leBytes 2 0x5243 ++ [1, byte r.origin] ++ leBytes 4 0 ++ leBytes 8 r.frame ++ leBytes 8 r.time ++ leBytes 2 r.cause ++
  [byte (if r.origin = 0 || r.origin = 3 then s.image.ctlSt else s.ctl.state).code, byte r.prev] ++ leBytes 4 r.arg ++
  words16 ((List.range 40).map raw) ++ words16 ((List.range 16).map fun x => raw (40 + x)) ++
  leBytes 2 (ofS 16 s.image.sense.die) ++ leBytes 2 (s.image.sense.vsys / 100 * 100) ++
  leBytes 8 (maskOf (those (nSlots s) fun j => (slot j).held)) ++
  leBytes 12 ((List.range (nSlots s)).foldl (fun a j => a + (slot j).consec % 4 * 4 ^ j) 0) ++
  words16 (upTo 6 (nLn s) (lnState s)) ++
  leBytes 4 ((List.range (nPh s)).foldl (fun a x => a + phCode s x * 4 ^ x) 0) ++
  words16 (upTo 4 (nIn s) (srcState s)) ++ leBytes 2 (holderWord s) ++
  words16 (upTo 4 (nPp s) (prtState s)) ++ words16 (upTo 4 (nPp s) (chgState s)) ++
  leBytes 2 (seqUnit s) ++ leBytes 4 ((List.range 8).foldl (fun a n => a + rail n * 16 ^ n) 0) ++
  leBytes 2 (fleState s) ++ leBytes 4 s.image.safe.elapsed ++ leBytes 2 (ofS 16 (tjMax s)) ++ leBytes 4 (fwBuild s) ++
  [byte s.ctl.slot] ++ rep 23 0

/-- The record with its number and its CRC-32 (R460). -/
def recordBytes (no : Nat) (body : List Byte) : List Byte :=
  let b := body.take 4 ++ leBytes 4 no ++ body.drop 8
  b ++ leBytes 4 (crc32 b)

/-- The slot of the ring that record no takes. -/
def ringSlot (no : Nat) : Nat := (no + 63) % 64

/-- A record is written into the next erased slot; the thirteenth slot of a sector erases the next sector (R461). -/
def writeRecord (body : List Byte) (s : State) : State :=
  let no := (s.flash.recNo + 1) % 2 ^ 32
  let k := ringSlot no
  let gone := (k / 16 + 1) % 4
  let ring := if k % 16 = 12 then s.flash.ring.filter (fun r => ringSlot r.no / 16 ≠ gone) else s.flash.ring
  let s := s.modFlash fun f => { f with recNo := no, ring := ⟨no, recordBytes no body⟩ :: ring.filter fun r => ringSlot r.no ≠ k }
  { s with records := { s.records with sinceRst := s.records.sinceRst + 1 } }

/-- The guard gives each waiting record the read image it publishes (R459). -/
def recordsGuard (s : State) : State :=
  { s with records := { s.records with wait := s.records.wait.map fun r =>
      if r.bytes.isNone then { r with bytes := some (recordBody s r) } else r } }

/-- The CRC-32 of a record's slot is right (R460, R461). -/
def Rec.valid (r : Rec) : Bool := fld r.bytes 252 4 == crc32 (r.bytes.take 252)

/-- The record that REC_READ finds INDEX back from the newest slot, unless its slot is erased or its CRC fails (R461). -/
def recordAt (s : State) (i : Nat) : Option (List Byte) :=
  if 64 ≤ i || s.flash.recNo ≤ i then none
  else ((s.flash.ring.find? fun r => r.no == s.flash.recNo - i).filter Rec.valid).map (·.bytes)

/-- FAULT_RECORD_WRITE (R240, R459, R462): the oldest waiting record whose image is taken is written when the flash writer is free; it
pre-empts a flush, a persistence or a chunk of a firmware update, which restarts (R491). -/
def execFaultRecordWrite (s : State) : Out :=
  let free : Bool := s.writer.busy.isNone || s.writer.busy == some 1 || s.writer.busy == some 2 || s.writer.busy == some 4
  .next (match s.records.wait with
  | { bytes := some b, .. } :: rest =>
    if free && s.clocked then
      let was := s.writer.busy
      let s := preempted s
      let t := writeRecord b ({ s with records := { s.records with wait := rest } } : State).skipsOver
      t.modWriter fun w => { w with busy := some 3, redo := if was.isSome then was else w.redo, before := some s.flash }
    else s
  | _ => s)

/-- RECORD_ALLOWANCE_REFILL (R462): every 18,000,000 frames the allowance rises by 1, up to 16. -/
def execRecordAllowanceRefill (s : State) : Out :=
  .next (if 18000000 ≤ s.records.refill then
    ({ s with records := { s.records with refill := 0, allow := satN 16 (s.records.allow + 1) } } : State).skipsOver
  else s)

/-! Telemetry (R463 to R465). -/

/-- The telemetry channels of R463 that the part has. -/
def telChans (s : State) : List Nat :=
  those 104 fun c =>
    if c ≤ 56 then chanPresent s c else if 64 ≤ c && c ≤ 69 then c - 64 < nLn s else if 72 ≤ c && c ≤ 75 then c - 72 < nIn s
    else if 76 ≤ c && c ≤ 79 then c - 76 < nPp s else if c = 80 then true else 88 ≤ c && c - 88 < nPh s

/-- The power V x I of two channels in uW, from the jobs j. -/
def powerAt (j : Jobs) (v i : Nat) : Int := (j.sense.chans.getD v {}).value * (j.sense.chans.getD i {}).value

/-- The value of a telemetry channel over its divisor, from the jobs j; none where the frame contributes nothing (R463, R464). -/
def telVal (s : State) (j : Jobs) (c : Nat) : Option (Int × Int) :=
  let ch := j.sense.chans.getD c {}
  if c ≤ 39 && ch.count = 0 then none
  else if 18 ≤ c && c ≤ 25 then ((j.sense.pins.getD (c - 18) {}).temp).map fun t => (t, 1)
  else if c ≤ 3 || (8 ≤ c && c ≤ 11) || c = 16 then some (ch.value, 100)
  else if c ≤ 17 || (40 ≤ c && c ≤ 55) then some (ch.value, 10)
  else if 34 ≤ c && c ≤ 39 then some (ch.value, parI s gTEL c TEL.DIV)
  else if c ≤ 56 then some (ch.value, 1)
  else if c ≤ 69 then some ((j.lanes.getD (c - 64) {}).pPort, 1000000)
  else if c ≤ 75 then some (powerAt j (c - 72) (c - 68), 1000000)
  else if c ≤ 79 then some (powerAt j (c - 68) (c - 64), 1000000)
  else if c = 80 then some (powerAt j 16 17, 1000000)
  else ((j.sched.therm.getD (c - 88) {}).tj).map fun t => (t, 1)

/-- The instantaneous value of a channel in the read image: the value stands whatever the COUNT of the frame (R465). -/
def telNow (s : State) (c : Nat) : Int :=
  let j := { s.image with sense := { s.image.sense with chans := s.image.sense.chans.map fun x => { x with count := max 1 x.count } } }
  match telVal s j c with
  | some (v, d) => clampI (-32767) 32767 (divR v d)
  | none => -32768

/-- The length of window w in frames (R464). -/
def telLen (w : Nat) : Nat := [100, 10000, 100000, 6000000].getD w 100

/-- The window w of channel c in the jobs j. -/
def telWin (j : Jobs) (c w : Nat) : TelWin := (assocGet j.tel (c * 4 + w)).getD {}

/-- The window w of channel c set. -/
def setTel (c w : Nat) (x : TelWin) (j : Jobs) : Jobs := { j with tel := assocSet j.tel (c * 4 + w) x }

/-- Each frame contributes one value per channel to every window (R464); the values are kept in the quantity's base unit. -/
def telStep (s : State) : State :=
  if !s.ident.big then s else
  (telChans s).foldl (fun s c => match telVal s s.jobs c with
    | some (v, _) => (List.range 4).foldl (fun s w =>
        let x := telWin s.jobs c w
        s.modJobs (setTel c w { x with sum := x.sum + v, n := x.n + 1 })) s
    | none => s) s

/-- The windows open at this frame are discarded (R99, ACTION 4). -/
def telDiscard (s : State) : State :=
  { s with telBad := rep 4 true }.modJobs fun j => { j with tel := j.tel.map fun (e : Nat × TelWin) => (e.1, { e.2 with sum := 0, n := 0 }) }

/-- A window that closes (R464, R465): AVG, and the held MIN and MAX where the window had contributions. -/
def TelWin.close (d : Int) (x : TelWin) : TelWin :=
  if x.n = 0 then { x with sum := 0, n := 0, avg := -32768 }
  else
    let a := clampI (-32767) 32767 (divR x.sum (x.n * d))
    { sum := 0, n := 0, avg := a, mn := some (match x.mn with | some m => min m a | none => a)
      mx := some (match x.mx with | some m => max m a | none => a) }

/-- The divisor of a channel's base value. -/
def telDiv (s : State) (c : Nat) : Int :=
  if c ≤ 3 || (8 ≤ c && c ≤ 11) || c = 16 then 100 else if c ≤ 17 || (40 ≤ c && c ≤ 55) then 10
  else if 34 ≤ c && c ≤ 39 then parI s gTEL c TEL.DIV else if 64 ≤ c && c ≤ 80 then 1000000 else 1

/-- TEL_WINDOW_CLOSE (R464): on the last frame of window w, k x N + N - 1, AVG and the held MIN and MAX are updated; a discarded window
leaves them. -/
def execTelWindowClose (w : Nat) (s : State) : Out :=
  let n := telLen w
  .next (if w < 4 && s.ident.big && s.live && s.frame % n = n - 1 && s.telAt.getD w 0 ≠ s.frame / n + 1 then
    let bad := s.telBad.getD w false
    let s' := (telChans s).foldl (fun s c =>
      let x := telWin s.jobs c w
      s.modJobs (setTel c w (if bad then { x with sum := 0, n := 0 } else x.close (telDiv s c)))) s
    { s' with telAt := s.telAt.set w (s.frame / n + 1), telBad := s.telBad.set w false }
  else s)

/-- The held MIN and MAX of window w of channel c start anew (R465). -/
def telClear (c w : Nat) (j : Jobs) : Jobs := setTel c w { telWin j c w with mn := none, mx := none } j

/-- TEL_READ (R84, R463, R465): the windows are read from the read image (R97); bit 0 of FLAGS clears the held values there and where they
are kept. -/
def doTelRead (c : Ctx) (chan window flags : Nat) (s : State) : State :=
  if !(telChans s).contains chan then s.refuse c St.OUT_OF_RANGE 0
  else if window = 0xFF then
    let v := leBytes 2 (ofS 16 (telNow s chan))
    s.okReply c (v ++ v ++ v ++ leBytes 2 0)
  else if !s.ident.big || 4 ≤ window then s.refuse c St.OUT_OF_RANGE 1
  else
    let x := telWin s.image chan window
    let pay := leBytes 2 (ofS 16 x.avg) ++ leBytes 2 (ofS 16 (x.mn.getD (-32768))) ++ leBytes 2 (ofS 16 (x.mx.getD (-32768))) ++ leBytes 2 0
    let f := telClear chan window
    let s := if bit flags 0 then { s.modJobs f with image := f s.image, imgNext := s.imgNext.map f } else s
    s.okReply c pay

/-- REC_READ (R461). -/
def doRecRead (c : Ctx) (index : Nat) (s : State) : State :=
  match recordAt s index with
  | some b => s.okReply c b
  | none => s.refuse c St.OUT_OF_RANGE 0

/-! Energy (R466). -/

/-- The energy of a frame added to a counter: p in uW over len core cycles; 1 mJ is 4 x 10^11 uW cycles. -/
def Energy.addFrame (e : Energy) (p : Int) (len : Nat) : Energy :=
  let mJ := 400000000000
  if 0 ≤ p then
    let r := e.remP + absN p * len
    { e with pos := satN (2 ^ 64 - 1) (e.pos + r / mJ), remP := r % mJ }
  else
    let r := e.remN + absN p * len
    { e with neg := satN (2 ^ 64 - 1) (e.neg + r / mJ), remN := r % mJ }

/-- The power of energy counter k in uW: IN0 to IN3, PP0 to PP3, the link (R466). -/
def energyPower (s : State) (k : Nat) : Int :=
  if k < 4 then (if k < nIn s then powerAt s.jobs k (4 + k) else 0)
  else if k < 8 then (if k - 4 < nPp s then powerAt s.jobs (4 + k) (8 + k) else 0)
  else powerAt s.jobs 16 17

/-- The nine energy counters over the present frame. -/
def energyStep (s : State) : State :=
  s.modJobs fun j => { j with energy := (List.range 9).map fun k => (j.energy.getD k {}).addFrame (energyPower s k) j.frm.len }

/-- S8 of the ledger and telemetry job: telemetry, energy, the wear ledger (R243, R464, R466). -/
def telemetryS8 (s : State) : State :=
  (List.range (nPh s)).foldl ledgerCount (energyStep (telStep s))

/-! The trace (R468 to R470). -/

/-- The number of words of CHMASK bit k. -/
def traceWords (k : Nat) : Nat := if k = 25 then 6 else if k = 26 || k = 27 then 16 else 1

/-- The bytes of a row (R468). -/
def rowBytes (mask : Nat) : Nat := 4 + 2 * (bitsOf 28 mask).foldl (fun a k => a + traceWords k) 0

/-- ROWS (R468). -/
def traceRows (mask : Nat) : Nat := 65504 / rowBytes mask

/-- A value as a trace word. -/
def traceWord (v d : Int) : Nat := ofS 16 (clampI (-32767) 32767 (divR v d))

/-- The words of CHMASK bit k, from the read image (R468). -/
def traceVals (s : State) (k : Nat) : List Nat :=
  let v (c : Nat) : Int := (s.image.sense.chans.getD c {}).value
  let tj (x : Nat) : Nat := match (s.image.sched.therm.getD x {}).tj with | some t => traceWord t 1 | none => 0x8000
  if k ≤ 3 || (8 ≤ k && k ≤ 11) || k = 16 then [traceWord (v k) 100]
  else if k ≤ 17 then [traceWord (v k) 10]
  else if k ≤ 23 then [traceWord (s.image.lanes.getD (k - 18) {}).iMeas 10]
  else if k = 24 then [holderWord s]
  else if k = 25 then upTo 6 (nLn s) (lnState s)
  else if k = 26 then upTo 16 (nPh s) tj
  else upTo 16 (nPh s) fun x => traceWord (v (40 + x)) 10

/-- The row of the guard that publishes the read image. -/
def traceRow (s : State) : TrRow := ⟨s.frame % 2 ^ 32, (bitsOf 28 s.trace.mask).flatMap (traceVals s)⟩

/-- The rows kept before the trigger at most: P = floor(ROWS x PRE / 100), with room left for the trigger row (R469). -/
def tracePre (t : Trace) : Nat := min (traceRows t.mask * t.pre / 100) (traceRows t.mask - 1)

/-- The row r of the present frame is the trigger row after the rows l (R469). -/
def traceTrigger (l : List TrRow) (r : TrRow) (s : State) : State :=
  let t := s.trace
  let keep := l.drop (l.length - tracePre t)
  { s with trace := { t with st := 2, hit := false, rows := keep ++ [r], preN := keep.length, frTrig := s.frame } }.raise
    Ev.TRACE_TRIGGERED (s.frame % 2 ^ 32)

/-- One row per frame in the guard; a trigger since the last guard makes this one the trigger row (R468, R469). -/
def traceGuard (s : State) : State :=
  let t := s.trace
  let r := traceRow s
  let n := traceRows t.mask
  if t.st = 1 then
    if t.hit then traceTrigger t.rows r s
    else { s with trace := { t with rows := (t.rows ++ [r]).drop (t.rows.length + 1 - n) } }
  else if t.st = 2 && t.rows.length < n then { s with trace := { t with rows := t.rows ++ [r] } }
  else s

/-- TRACE_NOW_TRIGGER (R469): with TRIG 2 the trigger falls on the frame after acceptance. -/
def execTraceNowTrigger (s : State) : Out :=
  let t := s.trace
  .next (if t.st = 1 && t.trig = 2 && !t.hit && t.armedAt < s.frame then { s with trace := { t with hit := true } } else s)

/-- TRACE_FULL (R469): the post-trigger rows have been recorded. -/
def execTraceFull (s : State) : Out :=
  let t := s.trace
  .next (if t.st = 2 && traceRows t.mask ≤ t.rows.length then
    { s with trace := { t with st := 3 } }.raise Ev.TRACE_FULL (traceRows t.mask)
  else s)

/-- A match of timer n triggers a trace armed for it (R469, TRIG 1). The frame of the match is the trigger row (R513), also where its row
stands already. -/
def traceOnMatch (n : Nat) (s : State) : State :=
  if s.trace.st = 1 && s.trace.trig = 1 && s.trace.code = n then
    match s.trace.rows.getLast? with
    | some r => if s.jobs.frm.committed && r.frame = s.frame % 2 ^ 32 then traceTrigger s.trace.rows.dropLast r s
                else { s with trace := { s.trace with hit := true } }
    | none => { s with trace := { s.trace with hit := true } }
  else s

/-- A CHMASK bit names an instance the part lacks (R468). -/
def traceAbsent (s : State) (k : Nat) : Bool :=
  if k ≤ 7 then nIn s ≤ k % 4 else if k ≤ 15 then nPp s ≤ k % 4 else if 18 ≤ k && k ≤ 23 then nLn s ≤ k - 18
  else if k = 25 then nLn s < 6 else if k = 26 || k = 27 then nPh s < 16 else false

/-- TRACE_ARM (R77, R468): any trace is discarded and recording starts at once. -/
def doTraceArm (c : Ctx) (trig pre code mask : Nat) (s : State) : State :=
  if 2 < trig then s.refuse c St.OUT_OF_RANGE 0
  else if 100 < pre then s.refuse c St.OUT_OF_RANGE 1
  else if trig = 1 && 16 ≤ code then s.refuse c St.OUT_OF_RANGE 2
  else if mask = 0 || 2 ^ 28 ≤ mask || (bitsOf 28 mask).any (traceAbsent s) then s.refuse c St.OUT_OF_RANGE 4
  else
    { s with trace := { st := 1, trig := trig, pre := pre, code := code, mask := mask, armedAt := s.frame } }.okReply c []

/-- The bytes that TRACE_READ addresses: the header and the rows, oldest first; bytes beyond are open (R470). -/
def traceBytes (t : Trace) : List Byte :=
  leBytes 2 (rowBytes t.mask) ++ leBytes 2 t.rows.length ++ leBytes 2 t.preN ++ [byte t.trig, 0] ++ leBytes 4 t.mask ++ leBytes 2 t.code ++
  leBytes 2 0 ++ leBytes 8 t.frTrig ++ rep 8 0 ++ t.rows.flatMap fun r => leBytes 4 r.frame ++ words16 r.words

/-- TRACE_READ (R470). -/
def doTraceRead (c : Ctx) (offset n : Nat) (s : State) : State :=
  if n = 0 || 1022 < n then s.refuse c St.OUT_OF_RANGE 4
  else if 65536 < offset + n then s.refuse c St.OUT_OF_RANGE 0
  else
    let b := traceBytes s.trace
    s.okReply c ([byte s.trace.st, 0] ++ (List.range n).map fun k => b.getD (offset + k) (Config.openByte 1 (offset + k)))

end Sys2Proof.Machine
end

