-- ==== Sys2Proof/Machine/Protect.lean ====
section
/-! DEFINITION. Protection and the host watchdog (12_protection_watchdogs_records R432 to R444, R454): the SAFEn hold, the protections from
precision conversions and their holds, the keys and check-ins of the watchdog, the S4 step of the safety job, and the entries to SAFE
and HALT at the commit point. -/

namespace Sys2Proof.Machine

/-! SAFEn (R12, R433 to R435). -/

/-- A lane in RETRY is OFF: its port is not ready in the SAFEn hold, and its backoff returns to 1 s (R183, R434; DEDUCED, log 119). -/
def retryOff (s : State) (n : Nat) : State :=
  if (s.lane n).st = .retry then laneEnter n .off (some 5) (s.modLane n fun l => { l with attempt := 0, retryLeft := 0 }) else s

/-- The SAFEn hold begins: every lane stops and is OFF, every switch opens, SAFEN is raised (R12, R434). -/
def safenHold (s : State) : State :=
  if s.jobs.safe.hold then s.modSafe fun f => { f with highRun := 0 }
  else
    let s := stopAll 3 (s.modSafe fun f => { f with hold := true, highRun := 0 })
    (switchesTrip ((List.range (nLn s)).foldl retryOff s)).raise Ev.SAFEN 1

/-- SAFEN_LOW (R12, R434): a low level acts at once in every state in which the pipeline runs; in any other the outputs are low already,
and the level counts from the first frame that sees it. In MOORED SAFEn is ignored (R12, R553). -/
def execSafenLow (s : State) : Out :=
  .next (if s.ctl.state = .moored then s else
  let s := s.modSafe fun f => { f with safenLow := true }
  if s.live then safenHold (s.modSafe fun f => { f with sawLow := true }) else s)

/-- SAFEN_RELEASE (R434): SAFEn has been high on SAFEN_RELEASE consecutive frames. -/
def execSafenRelease (s : State) : Out :=
  let f := s.jobs.safe
  .next (if f.hold && !f.safenLow && par s gSAF 0 SAF.SAFEN_RELEASE ≤ f.highRun then
    (s.modSafe fun f => { f with hold := false, highRun := 0 }).raise Ev.SAFEN 0
  else s)

/-! Protection from precision conversions (R436, R437). -/

/-- Two values in a row of a list lie above a limit. -/
def pairAbove (lim : Int) : List Int → Bool
  | a :: b :: l => (decide (lim < a) && decide (lim < b)) || pairAbove lim (b :: l)
  | _ => false

/-- Two consecutive conversions of a channel lie above a limit, the last frame's among themselves or its first with the last one before
(R120, R437). -/
def twoAbove (s : State) (c : Nat) (lim : Int) : Bool := pairAbove lim (s.chan c).convs

/-- SWINn opens at once and stays open past the next commit (R96, R437). -/
def swinOpen (n : Nat) (s : State) : State :=
  { s.modOuts fun o => { o with swin := o.swin.set n false } with shadow := { s.shadow with swin := s.shadow.swin.set n false } }

/-- PROT_PORT_OVERVOLTAGE (R437, kind 1): the port's lane stops with BW_STOP of kind 1; an input port goes to ABSENT with cause 3, a direct
input's SWINn opens at once; a pack session takes it as removal with cause 2. -/
def execProtPortOvervoltage (chan : Nat) (s : State) : Out :=
  .next (
    if !(selvOk s && s.live && chanPresent s chan) then s
    else if chan ≤ 3 then
      if !twoAbove s chan (100 * selvField s .inVmax chan) then s
      else match laneOfInput s chan with
        | some n =>
          if (s.lane n).st = .off || (s.lane n).st = .retry then srcBreak chan s
          else srcBreak chan ((stopLane n 2 s).raiseRec Ev.BW_STOP (n * 2 ^ 8 + 1))
        | none => swinOpen chan (srcBreak chan s)
    else if 8 ≤ chan && chan ≤ 11 then
      let p := chan - 8
      if !twoAbove s chan (100 * selvField s .ppVmax p) then s
      else match laneOfPort s p with
        | some n =>
          let s := if (s.lane n).st = .off || (s.lane n).st = .retry then s else bwStopped n 1 s
          if lnKind s n = 3 then packRemove p 2 s else s
        | none => s
    else s)

/-- The lanes that one hold lies on (R437). -/
def holdLanes (s : State) (kind pin : Nat) : List Nat :=
  let f : Safety := if kind = 2 then { link := { on := true } } else if kind = 3 then { stage := (rep 8 {}).set pin { on := true } } else { die := { on := true } }
  those (nLn s) fun n => lnUsed s n && laneHeld s f n

/-- The argument of PROTECT_HOLD (R474). -/
def holdArg (s : State) (begun : Bool) (kind pin : Nat) : Nat :=
  b2n begun * 2 ^ 16 + maskOf (holdLanes s kind pin) * 2 ^ 8 + kind * 2 ^ 4 + pin

/-- PROT_LINK_OVERVOLTAGE (R437, kind 2): hold on every PV boost and DC-supply input lane; every direct input opens at once. -/
def execProtLinkOvervoltage (s : State) : Out :=
  .next (if selvOk s && s.live && !s.jobs.safe.link.on && twoAbove s 16 (105 * selvField s .linkVmax 0) then
    let s := s.modSafe fun f => { f with link := { on := true } }
    let s := (List.range (nIn s)).foldl (fun s n =>
      if isDirect s n then swinOpen n s else s) s
    s.raiseRec Ev.PROTECT_HOLD (holdArg s true 2 0)
  else s)

/-- PROT_STAGE_OVERTEMP (R437, kind 3): hold on every lane with a phase of the pin. -/
def execProtStageOvertemp (pin : Nat) (s : State) : Out :=
  let hot := match (s.pin pin).temp with | some t => decide (10 * (selvField s .tstage 0 : Int) < t) | none => false
  .next (if selvOk s && s.live && pin < nTs s && !(s.jobs.safe.stage.getD pin {}).on && hot then
    (s.modSafe fun f => { f with stage := f.stage.set pin { on := true } }).raiseRec Ev.PROTECT_HOLD (holdArg s true 3 pin)
  else s)

/-- PROT_DIE_OVERTEMP (R437, kind 4): hold on every lane above 135 degC. -/
def execProtDieOvertemp (s : State) : Out :=
  .next (if s.live && !s.jobs.safe.die.on && 13500 < s.jobs.sense.die then
    (s.modSafe fun f => { f with die := { on := true } }).raiseRec Ev.PROTECT_HOLD (holdArg s true 4 0)
  else s)

/-- A hold with one more frame on which its end condition holds, or not. -/
def Hold.count (h : Hold) (cool : Bool) : Hold := if h.on && cool then { h with run := h.run + 1 } else { h with run := 0 }

/-- PROTECT_HOLD_END (R437): kind 2 after 1,000 frames, kinds 3 and 4 after 100,000. -/
def execProtectHoldEnd (kind pin : Nat) (s : State) : Out :=
  let f := s.jobs.safe
  .next (if kind = 2 && f.link.on && 1000 ≤ f.link.run then
    (s.modSafe fun f => { f with link := {} }).raise Ev.PROTECT_HOLD (holdArg s false 2 0)
  else if kind = 3 && pin < 8 && (f.stage.getD pin {}).on && 100000 ≤ (f.stage.getD pin {}).run then
    (s.modSafe fun f => { f with stage := f.stage.set pin {} }).raise Ev.PROTECT_HOLD (holdArg s false 3 pin)
  else if kind = 4 && f.die.on && 100000 ≤ f.die.run then
    (s.modSafe fun f => { f with die := {} }).raise Ev.PROTECT_HOLD (holdArg s false 4 0)
  else s)

/-! The host watchdog (R438 to R444). -/

/-- The pulse on RSTOUT3 starts (R425). -/
def pulseStart (s : State) : State :=
  let n := par s gSEQ 12 SEQ.SAFE_PULSE
  if n = 0 then s else s.modSeq fun q => { q with pulse := n + 1 }

/-- The watchdog counts: in RUN and SAFE (R439). -/
def wdCounts (s : State) : Bool := s.ctl.state == .run || s.ctl.state == .safe

/-- A watchdog fault of a cause with the elapsed frames it tells: SAFE is decided for this frame's commit (R443). -/
def wdFault (cause el : Nat) (s : State) : State :=
  let s := s.modSafe fun f => { f with elapsed := 0, fault := true, notEarly := true, wdCause := cause, timeouts := incSat 32 f.timeouts }
  let s := s.raiseRec Ev.WD_FAULT (satN 0xFFFFFFF el * 2 ^ 4 + cause)
  if wdCounts s then s.modCtl fun c => { c with wantSafe := true, service := false, stitchAfter := false } else s

/-- The frames of SAF.WD_CLOSE. -/
def wdClose (s : State) : Nat := 100 * par s gSAF 0 SAF.WD_CLOSE

/-- The cycle at which the S4 step of the safety job begins (R438). -/
def wdCycle (s : State) : Nat := if s.ident.big then 3136 else 2800

/-- WD_TIMEOUT (R443): elapsed has reached WD_CLOSE in RUN or SAFE. -/
def execWdTimeout (s : State) : Out :=
  let f := s.jobs.safe
  .next (if s.live && safetyRuns s && wdCounts s && par s gSAF 0 SAF.WD_EN = 1 && wdClose s ≤ f.elapsed && !f.fired then
    wdFault 1 f.elapsed (s.modSafe fun f => { f with fired := true, late := f.elapsed })
  else s)

/-- The mask of tasks named and not seen (R441). -/
def wdMissing (s : State) : Nat := maskOf (those 16 fun k => bit (par s gSAF 0 SAF.WD_TASKMASK) k && !bit s.jobs.safe.seen k)

/-- A service has been completed (R8, R442). -/
def wdComplete (s : State) : State :=
  let s := s.modSafe fun f => { f with elapsed := 0, armed := false, seen := 0, dup := false, fault := false, notEarly := false }
  if s.ctl.state = .safe || s.ctl.wantSafe then s.modCtl fun c => { c with service := true, stitchAfter := false } else s

/-- What a key or a check-in does in the frame in which it counts, with the status and the payload of its reply (R440 to R442). Where the
watchdog does not count, no service is early and no fault follows (DEDUCED, log 29). -/
abbrev WdAnswer := State × Nat × List Byte

/-- A key that breaks the sequence (R440). -/
def wdBroken (key : Nat) (s : State) : WdAnswer :=
  let el := s.jobs.safe.elapsed
  let s := s.modSafe fun f => { f with armed := false }
  (if wdCounts s then wdFault 3 el s else s, St.WD_SEQUENCE, leBytes 2 key)

/-- A KEY_B that completes a service: early, within the window, or late (R442). -/
def wdService (s : State) : WdAnswer :=
  let f := s.jobs.safe
  let on := wdCounts s && par s gSAF 0 SAF.WD_EN == 1
  let el := if f.fired then f.late else f.elapsed
  if on && !f.fired && !f.notEarly && el < 100 * par s gSAF 0 SAF.WD_OPEN then
    (wdFault 2 el (s.modSafe fun f => { f with armed := false, seen := 0, dup := false }), St.WD_EARLY, leBytes 2 (el % 65536))
  else
    let s := if on && !f.fired && wdClose s ≤ el then wdFault 1 el (s.modSafe fun f => { f with fired := true, late := el }) else s
    ((wdComplete s).modSafe fun f => { f with fired := false }, St.OK, leBytes 4 el)

/-- A key: KEY_A, KEY_B or another (R440 to R442). -/
def wdKey (key : Nat) (s : State) : WdAnswer :=
  if key = 0x51A7 then (s.modSafe fun f => { f with armed := true }, St.OK, [])
  else if key ≠ 0xE48C || !s.jobs.safe.armed then wdBroken key s
  else if wdMissing s ≠ 0 then (s, St.WD_TASKS_INCOMPLETE, leBytes 2 (wdMissing s))
  else wdService s

/-- A check-in of a task (R441). -/
def wdCheckin (task : Nat) (s : State) : WdAnswer :=
  let f := s.jobs.safe
  let named := bit (par s gSAF 0 SAF.WD_TASKMASK) task
  let dup := named && bit f.seen task
  let s := s.modSafe fun f => { f with dup := f.dup || dup, seen := if named then setBit f.seen task else f.seen }
  (if dup && par s gSAF 0 SAF.WD_DUP_STRICT = 1 && wdCounts s then wdFault 4 f.elapsed s else s, St.OK, leBytes 2 s.jobs.safe.seen)

/-- The key or check-in w counts in the present frame, and its reply is given where it is still owed (R438, R48). -/
def wdCount (s : State) (w : WdWait) : State :=
  let a := if w.checkin then wdCheckin w.arg s else wdKey w.arg s
  if w.owed then a.1.answer w.cmd a.2.1 a.2.2 else a.1

/-- A key or check-in handed over before S4 of the safety job begins counts in this frame, a later one in the next; where that step is cut
off it waits for the next too (R98, R438). -/
def wdHand (w : WdWait) (s : State) : State :=
  if wdCycle s ≤ w.cmd.cyc || !safetyRuns s then s.modSafe fun f => { f with later := f.later ++ [w] } else wdCount s w

/-- WD_SERVE (R438 to R442). -/
def doWdServe (c : Ctx) (key : Nat) (s : State) : State := wdHand ⟨c, false, key, true⟩ s

/-- WD_CHECKIN (R438, R441). -/
def doWdCheckin (c : Ctx) (task : Nat) (s : State) : State :=
  if 15 < task then s.refuse c St.OUT_OF_RANGE 0 else wdHand ⟨c, true, task, true⟩ s

/-- The keys and check-ins that count in this frame because they came too late for the one before, in the order of their hand-over. -/
def wdLater (s : State) : State :=
  if !safetyRuns s then s else s.jobs.safe.later.foldl wdCount (s.modSafe fun f => { f with later := [] })

/-- A frame in which the watchdog counts has begun (R439). -/
def wdFrame (s : State) : State := if wdCounts s then s.modSafe fun f => { f with missed := f.missed + 1 } else s

/-! S4 of the safety job (R434, R435, R437, R439, R454). -/

/-- S4 of the safety job with the level of SAFEn in this frame. -/
def safetyS4 (safen : Bool) (s : State) : State :=
  let low := s.jobs.safe.sawLow || !safen
  let lim := selvOk s
  let s := s.modSafe fun f => { f with
    elapsed := satN (2 ^ 32 - 1) (f.elapsed + f.missed), missed := 0, fired := false
    safenLow := !safen, sawLow := false, highRun := if low then 0 else f.highRun + 1
    link := f.link.count (lim && decide ((s.chan 16).newV < 100 * selvField s .linkVmax 0))
    stage := (List.range 8).map fun k => (f.stage.getD k {}).count (lim && !(s.pin k).faulted &&
      match (s.pin k).temp with | some t => decide (t < 10 * selvField s .tstage 0 - 1000) | none => false)
    die := f.die.count (decide (s.jobs.sense.die < 12000)) }
  let s := if low then safenHold s else s
  if low && par s gSAF 0 SAF.SAFEN_HALT = 1 then wantHalt 1 s else s

/-! Entries at the commit point (R10, R313, R425, R443, R454). -/

/-- SAFE is entered (R53, R313, R425). -/
def enterSafe (s : State) : State := pulseStart (fallbackOn (s.enter .safe).dropAllPriv)

/-- HALT is entered with its cause: every lane OFF with both outputs of every phase low, every switch open, the rails as HALT_ACTION has
them, a record and HALT_ENTERED (R185, R416, R422, R454). -/
def enterHalt (cause : Nat) (s : State) : State :=
  let prev := s.ctl.state.code
  let s := (s.enter .halt).modCtl fun c => { c with
    haltCause := cause, wantHalt := none, wantSafe := false, service := false, stitchAfter := false, mooring := false }
  let s := (List.range (nLn s)).foldl (fun s n =>
    if !lnUsed s n then s
    else (if (s.lane n).st = .off then lanePhasesLow s n else laneOffNow n (some 6) s).modLane n fun l => { l with stopped := false, restart := none }) s
  let s := switchesOpen s
  let s := (List.range (nIn s)).foldl (fun s n => if (s.src n).st = .off then s else srcEnter n .off (some 6) s) s
  let s := (List.range (nPp s)).foldl (fun s p => packDrop p 9 s) s
  let s := s.modSeq fun q => { q with goDown := par s gSEQ 8 SEQ.HALT_ACTION == 1 }
  (s.raise Ev.HALT_ENTERED cause).askRecord Ev.HALT_ENTERED cause 0 s.fleetTime prev true

/-- SAFE at the commit of this frame: entered from RUN, or kept, its pulse starting again (R8, R10, R443). -/
def commitSafe (s : State) : State :=
  let s := s.modCtl fun c => { c with wantSafe := false }
  if s.ctl.state = .run then enterSafe s else if s.ctl.state = .safe then pulseStart s else s

/-- The controller state that the safety job has decided in this frame: HALT above SAFE above what GLB.OPMODE asks for (R7, R8, R10, R443,
R454), for the frames from this commit point on (R94; DEDUCED, log 120); it stands as it was where S4 of the safety job has been cut off
(R98). -/
def commitState (s : State) : State :=
  if !safetyRuns s then s else
  match s.ctl.wantHalt with
  | some k => enterHalt k s
  | none => if s.ctl.wantSafe then commitSafe s else followOpmode s

end Sys2Proof.Machine
end

