-- ==== Sys2Proof/Machine/Boot.lean ====
section
/-! DEFINITION. Resets, BOOT and what stops the whole controller (00_scope R5 to R11, 12_protection_watchdogs_records R445 to R458,
13_identity_security R486 to R489, 15_parameter_map R527, R528, 16_balls_electrical R553, R555, R560): loading the configuration, the ROM,
the end of BOOT, the supervision watchdog, the clock monitor, the power-fail comparator, MOORED and RESETn. -/

namespace Sys2Proof.Machine

/-! The configuration (R7, R72, R152, R527, R528). -/

/-- Every parameter of the part with the ID of its first word, by group. -/
def allParams (s : State) : List (Nat × ParamDef) :=
  (List.range 16).flatMap fun g => (paramsOf g).flatMap fun d =>
    ((List.range (d.inst1 + 1 - d.inst0)).filter fun i => instOn s.ident.big g (d.inst0 + i)).map fun i => (pid g (d.inst0 + i) d.idx, d)

/-- The words of a parameter's value as entries of the sparse store. -/
def putBits (vals : List (Nat × Word)) (d : ParamDef) (id b : Nat) : List (Nat × Word) :=
  ((toWords d.words b).zipIdx id).foldl (fun v e => assocSet v e.2 e.1) vals

/-- The words of a parameter taken out of the sparse store. -/
def dropBits (vals : List (Nat × Word)) (d : ParamDef) (id : Nat) : List (Nat × Word) := vals.filter fun e => !(id ≤ e.1 && e.1 < id + d.words)

/-- The bound's own value nearest to v (R152): the field or limit of the record that v lies beyond. -/
def boundValue (cfg : State) (d : ParamDef) (i : Nat) (v : Int) : Int :=
  let f (x : SelvF) (n : Nat) : Int := (selvField cfg x n : Nat)
  let k := lnKind cfg i
  let p := lnPort cfg i
  match d.bound with
  | .free => v
  | .atMost x => min v (f x i)
  | .within lo hi => clampI (f lo i) (f hi i) v
  | .phPeak => min v (3 * f .phImax i / 2)
  | .scale =>
    let c : Int := selvScale cfg i
    clampI ((c * (10000 - selvTol cfg i) + 9999) / 10000) (c * (10000 + selvTol cfg i) / 10000) v
  | .zero => clampI (selvZero cfg i - selvOffMax cfg i) (selvZero cfg i + selvOffMax cfg i) v
  | .laneI => if k ≤ 2 then min v (f .inImax p) else min v (f .ppIdis p)
  | .laneINeg => if k ≤ 2 then min v (f .inImax p) else min v (f .ppIchg p)
  | .laneVov => if k ≤ 2 then min v (f .inVmax p) else min v (f .ppVmax p)

/-- One selvedge-bounded parameter against the record (R152): a stored value beyond it gives way to the default, and a default beyond it
to the bound's own value, which SELVEDGE_LOAD tells. -/
def selvedgeLoad (s : State) (e : Nat × ParamDef) : State :=
  let d := e.2
  let i := idInst e.1
  let ok (z : State) : Bool := inSelvedge z d i (d.num (valBits z d e.1))
  if ok s then s
  else
    let z := { s with params := { s.params with vals := dropBits s.params.vals d e.1 } }
    if (assocGet s.params.vals e.1).isSome && ok z then z
    else
      let v := boundValue z d i (dfltVal z d i)
      { z with params := { z.params with vals := putBits z.params.vals d e.1 (ofS d.width v) } }.raise Ev.SELVEDGE_LOAD e.1

/-- The configuration in force from stored words, every bounded value checked against the record (R152, R527). -/
def loadConfig (stored : List (Nat × Word)) (s : State) : State :=
  let s := { s with params := { s.params with vals := stored } }
  if !selvOk s then s else
  ((allParams s).filter fun e => e.2.bound ≠ .free && e.2.attr ≠ .ro).foldl selvedgeLoad s

/-- The staged words among the words in force: what flash stores (R72, R528). A parameter never written stores nothing and takes its
default anew at BOOT (DESIGN CHOICE, log 66). -/
def stagedWords (s : State) : List (Nat × Word) :=
  s.params.vals.filter fun e => match paramAt s.ident.big e.1 with | some d => d.attr == .staged | none => false

/-- The alterations in force after BOOT: of each channel the newest journal record with a valid CRC (R146). -/
def journalAlts (j : List JRec) : List (Nat × List Byte) :=
  (List.range 57).filterMap fun c => match (j.reverse.find? fun r => r.chan == c && r.crcOk) with
    | some r => if bit (fld r.block 0 1) 0 then none else some (c, r.block)
    | none => none

/-! A whole reset. -/

/-- What a reset leaves of the balls: the boundary-scan port, which has a reset of its own (R556). -/
def Outs.scanKept (o : Outs) : Outs := { jtag := o.jtag, cells := o.cells, captured := o.captured }

/-- The block after a reset of a cause (R458): what flash, OTP and the identity hold stays; the RETIRED marks and the instant SEQENs were
last driven low stay where the rules keep them (R196, R421); a level above SEC.PRIV_DEFAULT has fallen (R53). A configuration write that R72
still holds back is dropped with its 10 s count (DESIGN CHOICE, log 105). -/
def resetTo (cause : Nat) (s : State) : State :=
  let s := s.abandonWrite
  let hard := cause = 1
  let fell := hard || cause = 7 || s.ctl.powerFail || (cause = 8 && s.ctl.vsysFell)
  let high := s.outs.seqen.any id
  let d := par s gSEC 0 SEC.PRIV_DEFAULT
  let z : State := { State.reset with
    pending := s.pending, ident := s.ident, otp := s.otp, flash := s.flash, freeCtr := s.freeCtr
    coreRst := if hard then 0 else s.coreRst
    ctl := { State.reset.ctl with resetCause := cause, vsysFell := fell }
    outs := if hard then State.reset.outs else s.outs.scanKept
    jobs := { State.reset.jobs with
      sched := { State.reset.jobs.sched with ledger := if fell then rep 16 {} else s.jobs.sched.ledger.map fun l => { isRet := l.isRet, worn := l.worn, cause := l.cause } }
      rails := if hard then {} else let k := if high then 0 else s.jobs.rails.lowFor; { offFor := k, lowFor := k, minOff := false }
      safe := { safenLow := s.jobs.safe.safenLow } } }
  if hard then z else
  [Transport.spi, .i2c, .can].foldl (fun z t => if d < (s.link t).priv then z.raise Ev.PRIV_DROPPED (trNum t * 256 + d) else z) z

/-- A timer stopped where it stands (R516). -/
def Timer.halted (x : Timer) : Timer := { x with run := false, hits := [], held := [], stopAt := none, startAt := none }

/-- The jobs held in reset: the pipeline, the ports and the links stand still at their reset states; the frame counter, the wear ledger, the
energy counters and what the instant of the last falling SEQEN leaves are kept (R449, R451). -/
def heldJobs (s : State) : Jobs :=
  { State.reset.jobs with
    frm := { State.reset.jobs.frm with frame := s.frame, age := s.age }
    sched := { State.reset.jobs.sched with ledger := s.jobs.sched.ledger }
    rails := { offFor := s.jobs.rails.offFor, lowFor := if s.outs.seqen.any id then 0 else s.jobs.rails.lowFor, rst := rep 4 true }
    safe := { safenLow := s.jobs.safe.safenLow }
    energy := s.jobs.energy }

/-- Every output at its reset state, every modulator low, every timer, job and port stopped (R449, R451, R516). -/
def allDown (s : State) : State :=
  { s with
    outs := s.outs.scanKept, mods := s.mods.map Modulator.low, shadow := {}
    jobs := heldJobs s, trace := {}, fw := none
    timers := { s.timers with t := s.timers.t.map Timer.halted }, ctl := { s.ctl with coreUp := false } }

/-! Firmware images and the ROM (R486 to R489). -/

/-- The step of R487 at which an image fails; 0 where it is valid. Of the image that the part ships with no rule says whether it carries an
OEM co-signature: step 8 is free (log 4). -/
def fwCheck (s : State) (f : FwSlot) : Nat :=
  match f.shipped with
  | some (_, _, r) => if r < s.otp.fuses then 4 else match s.otp.key1 with
    | some k => if Config.shippedSigned k then 0 else 8
    | none => 0
  | none =>
    let b := f.bytes
    let h := sha256 (b.take 128)
    let n := fld b 16 4
    let body := (b.drop 256).take n
    if b.length < 256 || fld b 0 4 ≠ 0x31574654 || fld b 4 1 ≠ 1 then 1
    else if !bit (fld b 6 1) (if s.ident.big then 0 else 1) then 2
    else if 0xB0 < fld b 7 1 then 3
    else if fld b 5 1 < s.otp.fuses then 4
    else if 524032 < n then 5
    else if sha256 (body ++ rep (n - body.length) 0xFF) ≠ (b.drop 24).take 32 then 6
    else if !ecdsaVerify s.otp.key0 h ((b.drop 128).take 64) then 7
    else match s.otp.key1 with
      | some k => if ecdsaVerify k h ((b.drop 192).take 64) then 0 else 8
      | none => 0

/-- ROLLBACK of an image (R486). -/
def fwRollback (f : FwSlot) : Nat := match f.shipped with | some (_, _, r) => r | none => fld f.bytes 5 1

/-- Whether the image of slot k is valid now. -/
def fwOk (s : State) (k : Nat) : Bool := fwCheck s (s.flash.fw.getD k {}) == 0

/-- The VALID bits follow R487. -/
def fwMarks (s : State) : State :=
  s.modFlash fun f => { f with fw := (List.range 2).map fun k => { f.fw.getD k {} with valid := fwOk s k } }

/-- BOOT_ROM (R488, R495): the strap of I2C_ADDR is sampled (R37, R553); the copy, then slot A, slot B or the recovery loader; the fuses are
burnt up to the image's ROLLBACK. A reset that the recovery loader has been asked for comes first. -/
def execBootRom (s : State) : Out :=
  let s := match s.ctl.resetReq with | some c => if s.ctl.loader then resetTo c s else s | none => s
  .next (if s.ctl.state = .boot && !s.ctl.romDone && !s.ctl.loader && !s.ctl.resetLow && !s.ctl.clockLost && !s.ctl.powerFail then
    let s := { s with ident := { s.ident with strap := Config.strapLevel } }
    let copy := s.flash.copyReq && fwOk s 1
    let s := s.modFlash fun f => { f with fw := if copy then [f.fw.getD 1 {}, f.fw.getD 1 {}] else f.fw, copyReq := false }
    let s := fwMarks (s.modCtl fun c => { c with copied := copy })
    match (if fwOk s 0 then some 0 else if fwOk s 1 then some 1 else none) with
    | some k =>
      let r := satN 64 (fwRollback (s.flash.fw.getD k {}))
      let s := { s with otp := { s.otp with fuses := max s.otp.fuses r } }
      fwMarks (s.modCtl fun c => { c with slot := k, romDone := true })
    | none => s.modCtl fun c => { c with loader := true, coreUp := true }
  else s)

/-! The end of BOOT (R7, R9, R141, R146, R152, R196, R223, R244, R424, R458, R467, R527). -/

/-- The ledgers and phase states after BOOT (R196, R244): the newest valid records; RETIRED and the cause stand as RAM kept them, WORN as
flash holds it. -/
def bootLedger (s : State) : State :=
  let led (x : Nat) : Ledger :=
    let m := s.led x
    { s.flash.ledger x with isRet := m.isRet, worn := s.flash.worn.getD x false, cause := m.cause }
  let s := s.modSched fun c => { c with ledger := (List.range 16).map led }
  s.modJobs fun j => { j with phases := (List.range 16).map fun x =>
    let l := s.led x
    { st := if l.worn then .worn else if l.isRet then .retired else .shed, cause := if l.worn || l.isRet then l.cause else 0 } }

/-- The loss map after BOOT: the image of the newest directory record whose CRC matches (R223). -/
def bootMap (s : State) : State :=
  match s.flash.newestImage with
  | some (d, b) => remap (s.modSched fun c => { c with map := imageEntries (b.length / 8) 0 b, gen := d.gen, sigs := d.sigs })
  | none => (s.modSched fun c => { c with map := [], sigs := laneSigs s }).raise Ev.LOSSMAP_RESET 0x3FF

/-- BOOT_COMPLETE (R7, R87): the records and the stored configuration are loaded and checked, the pipeline starts, and the controller is
in STANDBY, or in HALT again after a clock loss in HALT (R9). BOOT lasts at least 40 ms (R560), which the minimum off time counts: 3,999
frames here and one more in the first frame. -/
def execBootComplete (s : State) : Out :=
  .next (if s.ctl.state = .boot && s.ctl.romDone && !s.ctl.resetLow && !s.ctl.clockLost && !s.ctl.powerFail then
    let bad := those 57 fun c => chanPresent s c && !(s.otp.pattern.getD c {}).crcOk
    let s := { s with params := { s.params with
      selv := s.otp.selv, alts := journalAlts s.flash.journal
      pattern := s.otp.pattern.map fun (p : Pattern) => if p.crcOk then p else { p with off := 0, gain := 0, tc := 0 } } }
    let s := s.raise Ev.BOOT_SLOT (s.otp.fuses * 2 ^ 8 + b2n s.ctl.copied * 2 + s.ctl.slot)
    let s := s.raise Ev.RESET_CAUSE s.ctl.resetCause
    let s := bad.foldl (fun s c => s.raise Ev.PATTERN_FAULT c) s
    let s := loadConfig s.flash.cfg s
    let s := if par s gGLB 0 GLB.OPMODE = 1 && (patternFailed s || !selvOk s) then s.setPar gGLB 0 GLB.OPMODE 0 else s
    let s := bootLedger (s.modJobs fun j => { j with energy := s.flash.energy })
    let s := s.modSched fun c => { c with clock := s.flash.clock, sincePers := 180000000 }
    let s := bootMap s
    let d := par s gSEC 0 SEC.PRIV_DEFAULT
    let s := s.modHost fun h => { h with spi := { h.spi with priv := d }, i2c := { h.i2c with priv := d }, can := { h.can with priv := d } }
    let s := s.modFrm fun f => { f with running := true, fresh := true, committed := false }
    let s := s.modSeq fun q => { q with offFor := q.offFor + 3999, lowFor := q.lowFor + 3999 }
    let halt := s.ctl.haltCause
    let s := s.modCtl fun c => { c with coreUp := true, romDone := false, vsysFell := false }
    let s := s.enter .standby
    let s := { s with image := imageOf s, imgNext := none }
    let s := if halt ≠ 0 then enterHalt halt s else s
    { s with image := imageOf s }
  else s)

/-! Power-on, RESETn, MOORED. -/

/-- POWER_ON_RESET (R560): VSYS rises through 8.0 V with the supplies down; the ROM starts. -/
def execPowerOnReset (s : State) : Out := .next (resetTo 1 s)

/-- The reset by RESETn (R555). While the clock monitor holds the logic in reset it goes on doing so, with what stands in SRAM (R449); a HALT
that the clock loss would keep is left (R9). -/
def resetnAct (s : State) : State :=
  let z := resetTo 2 s
  if !s.ctl.clockLost then z
  else { z with
    image := s.image, params := s.params
    jobs := { z.jobs with frm := { z.jobs.frm with frame := s.frame, age := s.age }, rails := s.jobs.rails } }.modCtl fun c => { c with clockLost := true }

/-- RESETN_LOW (R5, R555): a reset in every state but MOORED; during the power-fail shut-down it takes effect when the record write has ended. -/
def execResetnLow (s : State) : Out :=
  .next (if s.ctl.state = .moored then s
  else if s.ctl.powerFail && !s.ctl.pfDone then s.modCtl fun c => { c with resetLow := true, resetDue := true }
  else (resetnAct s).modCtl fun c => { c with resetLow := true })

/-- RESETN_RISE (R555): BOOT begins. -/
def execResetnRise (s : State) : Out := .next (s.modCtl fun c => { c with resetLow := false })

/-- MOOR_ENTER (R11): every lane and rail is OFF and every switch open; a TRIPPED sequencer passes to IDLE; the core clock stops. The
privilege levels stand until the wake, which is a reset, drops them (R53), and every RSTOUTk is driven at its asserted level (R553). A
configuration write that R72 still holds back is dropped (DESIGN CHOICE, log 105). -/
def execMoorEnter (s : State) : Out :=
  let open_ := !(s.outs.swin.any id) && !(s.outs.swpp.any id) && !s.outs.swlink
  let lanesOff := (List.range (nLn s)).all fun n => (s.lane n).st == .off
  let sq := s.jobs.rails.st
  .next (if s.ctl.mooring && s.ctl.state ≠ .halt && lanesOff && open_ && railsOff s && (sq = .idle || sq = .tripped) then
    { State.reset with
      pending := s.pending, ident := s.ident, otp := s.otp, flash := s.flash, freeCtr := s.freeCtr, coreRst := s.coreRst
      host := { State.reset.host with spi := { priv := s.host.spi.priv }, i2c := { priv := s.host.i2c.priv }, can := { priv := s.host.can.priv } }
      params := { vals := s.params.vals.filter fun e =>
        (pid gSEC 0 SEC.PRIV_DEFAULT :: (List.range 4).map fun k => pid gSEQ (9 + k) SEQ.POLARITY).contains e.1 }
      ctl := { State.reset.ctl with state := .moored, resetCause := s.ctl.resetCause, vsysFell := false }
      outs := s.outs.scanKept
      jobs := { State.reset.jobs with
        sched := { State.reset.jobs.sched with ledger := s.jobs.sched.ledger }
        rails := { offFor := s.jobs.rails.lowFor, lowFor := s.jobs.rails.lowFor, minOff := false } } }
  else s)

/-- WAKE_FROM_MOORED (R5). -/
def execWakeFromMoored (s : State) : Out := .next (if s.ctl.state = .moored then resetTo 8 s else s)

/-! The supervision watchdog (R445 to R447, R48, R49). -/

/-- The final status of a long operation that a restart ends; none while it goes on (R49, R493). -/
def opSurvives (s : State) (o : Op) : Bool :=
  (o.opc == 0x31 && s.host.altJobs.any fun a => a.2.2.2 == o.num) || o.opc == 0x38

/-- The open update session is abandoned, with the chunk that was being written or the erasure of its slot (R490, R493). -/
def fwDrop (s : State) : State :=
  let w := s.writer
  { s with fw := none, writer := { w with busy := if w.busy = some 4 || w.busy = some 8 then none else w.busy, redo := if w.redo = some 4 then none else w.redo } }

/-- What a restart leaves of a transport: its level, its version and its lockout; what waited is gone (R48). -/
def Link.restarted (l : Link) : Link := { l with replies := [], latch := [] }

/-- A restart of the command core: tags, sets that no tide-table entry holds, long operations and the update session end (R48, R49,
R493); what has been accepted for a frame of effect stays, as does the hand-over of a RESTORE_FACTORY, which runs again (R49). -/
def coreRestart (s : State) : State :=
  let run := s.host.ops.filter fun o => !opSurvives s o
  let gone := countOf (fun f => f.tag.isSome && f.tr != .fleet) s.host.flights
  let s := s.modHost fun h => { h with
    spi := h.spi.restarted, i2c := h.i2c.restarted, can := h.can.restarted, inner := { h.inner with replies := [] }
    flights := [], partial_ := none, fresh := []
    sets := h.sets.map fun x => if x.heldBy.isSome then x else {}
    stitches := h.stitches.map fun x => { x with owes := none }
    ops := h.ops.filter (opSurvives s)
    ended := h.ended ++ run.map fun o => (o.num, o.opc, St.INTERNAL)
    restoreAgain := (h.restoreJob.map fun r => r.1).orElse fun _ => h.restoreAgain, restoreJob := none
    discTags := gone }
  let s := s.modSafe fun f => { f with later := f.later.map fun w => { w with owed := false } }
  let s := s.modSense fun x => { x with reqs := x.reqs.filter fun r => !(r.cls = 4 && r.who < 2000) && r.cls ≠ 5 }
  fwDrop (s.modFleet fun f => { f with inner := [] })

/-- SUPERVISION_WATCHDOG_EXPIRY (R445 to R447): 500 frames at least after the count began, at the end of BOOT, a restart or a release from
a debugger halt, the command core restarts; the eighth restart within 1,000,000 frames resets the device. -/
def execSupervisionWatchdogExpiry (s : State) : Out :=
  .next (if s.live && s.coreRuns && s.ctl.state ≠ .boot && s.ctl.supFrom + 500 ≤ s.age then
    let near := s.age :: s.ctl.restarts.filter fun a => decide (s.age < a + 1000000)
    if 8 ≤ near.length then resetTo 5 s
    else
      let s := coreRestart { s with coreRst := incSat 32 s.coreRst }
      let s := s.modCtl fun c => { c with coreUp := false, restarts := near, supFrom := s.age }
      s.askRecord Ev.CORE_RESTARTED s.host.discTags 3 s.fleetTime s.ctl.state.code false
  else s)

/-! The clock monitor (R448 to R450). -/

/-- CLOCK_LOSS (R449): the outputs are driven safe; all other logic is held in reset, SRAM and the frame counter as they stood. -/
def execClockLoss (s : State) : Out :=
  .next (if s.ctl.state = .moored || s.ctl.clockLost || s.ctl.powerFail then s
  else (allDown s).modCtl fun c => { c with clockLost := true })

/-- CLOCK_RECOVERED (R9, R450): the controller starts through BOOT with cause 6; the record of ORIGIN 2 is taken from the read image kept,
CLOCK_LOSS tells the frame of the loss, and the cause of a HALT is kept. The 10,000 windows of the recovery are 1,600 frames of the minimum
off time (R421); the time without a clock before them is not counted (DESIGN CHOICE, log 95). -/
def execClockRecovered (s : State) : Out :=
  .next (if !s.ctl.clockLost then s else
    let prev := s.ctl.state.code
    let halt := s.ctl.haltCause
    let fr := s.frame % 2 ^ 32
    let r : RecReq := ⟨Ev.CLOCK_LOSS, fr, 2, s.frame, s.fleetTime, prev, none⟩
    let body := recordBody (s.modCtl fun c => { c with state := .boot }) r
    let z := resetTo 6 s
    let z := z.modCtl fun c => { c with haltCause := halt, resetLow := s.ctl.resetLow }
    let z := z.modSeq fun q => { q with offFor := q.offFor + 1600, lowFor := q.lowFor + 1600 }
    ({ z with records := { z.records with wait := [{ r with bytes := some body }] } }).raise Ev.CLOCK_LOSS fr)

/-! The power-fail comparator (R451, R452). -/

/-- POWER_FAIL_TRIP (R423, R451): lanes stop, switches open, rails drop, the pipeline stops; the record of ORIGIN 1 is taken from the read
image, and a flash writer in progress is abandoned. In MOORED the fall of VSYS is only remembered (R5). -/
def execPowerFailTrip (s : State) : Out :=
  .next (if s.ctl.state = .moored then s.modCtl fun c => { c with vsysFell := true }
  else if s.ctl.powerFail then s
  else
    let r : RecReq := ⟨Ev.POWER_FAIL, (s.flash.recNo + 1) % 2 ^ 32, 1, s.frame, s.fleetTime, s.ctl.state.code, none⟩
    let body := recordBody s r
    let s := (allDown s).modCtl fun c => { c with powerFail := true, pfDone := false, clockLost := false, vsysFell := true }
    { s.abandonWrite with records := { s.records with wait := [{ r with bytes := some body }] } })

/-- POWER_FAIL_RECORD_DONE (R451, R452): the record stands in the ring, and the core clock stops; a low level of RESETn that has come since
the trip takes effect (R555). -/
def execPowerFailRecordDone (s : State) : Out :=
  .next (if s.ctl.powerFail && !s.ctl.pfDone then
    let low := s.ctl.resetLow
    let due := s.ctl.resetDue
    let s := s.modCtl fun c => { c with pfDone := true, resetDue := false }
    let s := match s.records.wait with
      | { bytes := some b, .. } :: _ => writeRecord b { s with records := { s.records with wait := [] } }
      | _ => s
    if due then (resetnAct s).modCtl fun c => { c with resetLow := low } else s
  else s)

/-- POWER_RETURN (R423, R452): VSYS has reached 8.0 V and 5,000 frames have passed since the shut-down; BOOT with cause 7. -/
def execPowerReturn (s : State) : Out :=
  .next (if s.ctl.powerFail && s.ctl.pfDone then
    let z := resetTo 7 s
    let z := z.modCtl fun c => { c with resetLow := s.ctl.resetLow }
    let z := z.modSeq fun q => { q with offFor := q.offFor + 5000, lowFor := q.lowFor + 5000 }
    (z.modFlash fun f => { f with pfails := incSat 32 f.pfails }).raise Ev.POWER_FAIL s.flash.recNo
  else s)

end Sys2Proof.Machine
end

