-- ==== Sys2Proof/Machine/Security.lean ====
section
/-! DEFINITION. Identity, attestation, privilege and firmware update (13_identity_security R475 to R495): the bodies of ATTEST,
AUTH_CHALLENGE, AUTH_RESPONSE, FW_BEGIN, FW_CHUNK and FW_COMMIT, and the ends of the operations they start. -/

namespace Sys2Proof.Machine

/-- n frames have passed since the age `since`; in the recovery loader, where no frame runs, the command itself says that the time is
over. -/
def elapsed (s : State) (since n : Nat) : Bool := since + n ≤ s.age || s.ctl.loader

/-! Attestation (R485). -/

/-- Every parameter of a group with the ID of its first word, rising. -/
def groupParams (s : State) (g : Nat) : List (Nat × ParamDef) :=
  ((allParams s).filter fun e => idGroup e.1 == g).foldl (fun l e => assocSet l e.1 e.2) []

/-- The bytes under CONFIG_DIGEST: every staged or selvedge-bounded parameter in force, ID and value of each word, by rising ID. -/
def configBytes (s : State) : List Byte :=
  (List.range 16).flatMap fun g => ((groupParams s g).filter fun e => e.2.attr == .staged || (e.2.attr != .ro && e.2.bound ≠ .free)).flatMap fun e =>
    ((toWords e.2.words (valBits s e.2 e.1)).zipIdx e.1).flatMap fun w => leBytes 2 w.2 ++ leBytes 2 w.1.toNat

/-- The bytes under ALTER_DIGEST: the alteration blocks of channels 0 to 55 in force, zeros where there is none. -/
def alterBytes (s : State) : List Byte :=
  (List.range 56).flatMap fun c => match altOf s c with | some b => b.take 12 ++ rep (12 - b.length) 0 | none => rep 12 0

/-- DIGEST of a slot: SHA-256 of bytes 0 to 127 of its image, zero when invalid. No rule gives the bytes of the image the part ships
with, so its digest is a free value (log 4). -/
def slotDigest (s : State) (k : Nat) : List Byte :=
  let f := s.flash.fw.getD k {}
  if !f.valid then rep 32 0
  else match f.shipped with
    | some _ => (List.range 32).map (Config.openByte 3)
    | none => sha256 (f.bytes.take 128)

/-- The body of a statement by its KIND. -/
def attestBody (s : State) (kind : Nat) : List Byte :=
  let f (k : Nat) : FwSlot := s.flash.fw.getD k {}
  let ver (k : Nat) : Nat := if (f k).valid then slotVersion (f k) else 0
  match kind with
  | 0 => sha256 (s.otp.selv ++ rep (784 - s.otp.selv.length) 0xFF) ++ leBytes 4 (fld (s.otp.selv ++ rep (784 - s.otp.selv.length) 0xFF) 4 4) ++
      leBytes 2 (keysMask s) ++ [0, 0]
  | 1 => slotDigest s 0 ++ slotDigest s 1 ++ leBytes 4 (ver 0) ++ leBytes 4 (ver 1) ++ [byte (b2n (f 0).valid + 2 * b2n (f 1).valid), 0, 0, 0]
  | _ => sha256 (configBytes s) ++ sha256 (alterBytes s) ++ leBytes 8 s.host.stitchFrame

/-- The statement: its header of 48 bytes and its body (R485). -/
def attestStatement (s : State) (nonce : List Byte) (kind : Nat) : List Byte :=
  nonce ++ leBytes 8 s.ident.serial ++ leBytes 2 (partCode s) ++ [0xB0, byte kind] ++ leBytes 8 s.frame ++ leBytes 4 (fwBuild s) ++
    leBytes 4 (slotVersion (runSlot s)) ++ [byte s.ctl.slot, byte s.otp.fuses, byte s.ctl.state.code, 0] ++ attestBody s kind

/-- The whole result of ATTEST (R485), signed with the nonce of the signing engine that the count k draws. -/
def attestResult (s : State) (nonce : List Byte) (kind k : Nat) : List Byte :=
  let st := attestStatement s nonce kind
  [1, byte kind] ++ leBytes 2 st.length ++ st ++ ecdsaSign s.ident.priv (Config.sigNonce k) (sha256 st) ++
    leBytes 2 s.cert.length ++ s.cert

/-- ATTEST (R77, R46, R485). -/
def doAttest (c : Ctx) (nonce : List Byte) (kind : Nat) (s : State) : State :=
  if 2 < kind then s.refuse c St.OUT_OF_RANGE 16
  else if 8 ≤ s.resultsHeld then s.refuse c St.BUSY 7
  else s.startOp c 0 [kind] nonce

/-- ATTEST_COMPLETE (R45, R485). -/
def execAttestComplete (opnum : Nat) (s : State) : Out :=
  .next (match s.opRun 0x48 opnum with
  | some o =>
    if !s.coreRuns then s else
    ((s.drawn 1).keepResult 0x48 opnum (attestResult s o.data (o.args.getD 0 0) s.freeCtr)).endOp 0x48 opnum St.OK
  | none => s)

/-! Privilege (R480 to R483). -/

/-- AUTH_CHALLENGE (R480, R483). -/
def doAuthChallenge (c : Ctx) (level : Nat) (s : State) : State :=
  if level = 0 || 4 < level then s.refuse c St.OUT_OF_RANGE 0
  else if (match (s.link c.tr).lockUntil with | some a => decide (s.age < a) | none => false) then s.refuse c St.LOCKED 1
  else
    let ch := (List.range 32).map fun k => Config.randomByte (s.freeCtr + k)
    ((s.drawn 32).modLink c.tr fun l => { l with challenge := some (level, ch, s.age) }).okReply c ch

/-- The level that the key in a slot grants (R477). -/
def keyGrant (k : Nat) : Nat := match k with | 2 => 4 | 3 => 3 | 4 => 2 | 6 => 2 | 5 => 1 | 7 => 1 | _ => 0

/-- A challenge given at age a still stands (R480); in the recovery loader, where no frame runs and no command tells the time, that is free
(log 110). -/
def challengeStands (s : State) (a : Nat) : Bool := if s.ctl.loader then Config.cycleDraw s.freeCtr % 2 = 0 else s.age ≤ a + 1000000

/-- AUTH_RESPONSE (R480, R481): any response consumes the challenge; the operation keeps it where it is valid, and decides every other case
at its end. -/
def doAuthResponse (c : Ctx) (level keyslot : Nat) (sig : List Byte) (s : State) : State :=
  let ch := match (s.link c.tr).challenge with
    | some (l, b, a) => if l = level && challengeStands s a then b else []
    | none => []
  let s := if s.ctl.loader then s.drawn 1 else s
  (s.modLink c.tr fun l => { l with challenge := none }).startOp c 0 [level, keyslot, b2n (!ch.isEmpty)] (sig.take 64 ++ ch)

/-- The check of R481 and R482 on a running AUTH_RESPONSE. -/
def authPasses (s : State) (o : Op) : Bool :=
  let level := o.args.getD 0 0
  let slot := o.args.getD 1 0
  if level = 3 && slot = 3 && s.otp.key3.isNone then true
  else if o.args.getD 2 0 = 0 || keyGrant slot < level then false
  else match keyAt s slot with
    | some key => ecdsaVerify key (sha256 (o.data.drop 64 ++ leBytes 8 s.ident.serial ++ [byte level, byte (trNum o.tr)])) (o.data.take 64)
    | none => false

/-- AUTH_RESPONSE_COMPLETE (R481 to R483): on OK the level is LEVEL, otherwise DETAIL is the key slot; the fifth consecutive AUTH_FAIL locks AUTH_CHALLENGE for 60 s, and
the count begins again (DEDUCED, log 30). -/
def execAuthResponseComplete (opnum : Nat) (s : State) : Out :=
  .next (match s.opRun 0x4A opnum with
  | some o =>
    if !s.coreRuns then s else
    if authPasses s o then (s.modLink o.tr fun l => { l with priv := o.args.getD 0 0, fails := 0 }).endOp 0x4A opnum St.OK
    else
      let n := (s.link o.tr).fails + 1
      let s := s.modLink o.tr fun l => if 5 ≤ n then { l with fails := 0, lockUntil := some (s.age + 6000000) } else { l with fails := n }
      let s := s.endOpDetail 0x4A opnum St.AUTH_FAIL (o.args.getD 1 0)
      if 5 ≤ n then s.raise Ev.AUTH_LOCKOUT (trNum o.tr) else s
  | none => s)

/-- AUTH_LOCKOUT_END (R483). -/
def execAuthLockoutEnd (tr : Transport) (s : State) : Out :=
  .next (match (s.link tr).lockUntil with
  | some a => if elapsed s a 0 then s.modLink tr fun l => { l with lockUntil := none } else s
  | none => s)

/-! Firmware update (R490 to R493, R82, R85). -/

/-- The slot an update writes: B while A runs, A while B runs, A in the recovery loader (R490, R495). -/
def fwTarget (s : State) : Nat := if s.ctl.loader then 0 else 1 - s.ctl.slot

/-- The erasure of firmware slot t, which holds the flash writer. -/
def eraseSlot (t : Nat) (s : State) : State := (s.modFlash fun f => { f with fw := f.fw.set t {} }).modWriter fun w => { w with busy := some 8 }

/-- FW_BEGIN (R490, R85): an open session is abandoned, and a check that still runs on it ends without an image. The erasure of the slot
holds the flash writer, and waits while another has it (R240). -/
def doFwBegin (c : Ctx) (size version : Nat) (s : State) : State :=
  let t := fwTarget s
  if size < 257 || 524288 < size then s.refuse c St.OUT_OF_RANGE 0
  else if s.opHeld 0x50 t then s.refuse c St.BUSY 5
  else
    let s := fwDrop s
    let s := s.modHost fun h => { h with ops := h.ops.map fun o => if o.opc == 0x52 then { o with args := [], data := [] } else o }
    let s := if s.writer.busy.isNone then eraseSlot t s else s
    let s := { s with fw := some ⟨c.tr, t, size, version, [], 0, [], s.age, false, false⟩ }
    s.startOp c t [] []

/-- FW_BEGIN_COMPLETE (R490): the slot is erased, its VALID bit reads 0, and the flash writer is free. -/
def execFwBeginComplete (opnum : Nat) (s : State) : Out :=
  .next (match s.opRun 0x50 opnum with
  | some o =>
    if !s.coreRuns || !(s.writer.busy.isNone || s.writer.busy = some 8) then s else
    let s := (eraseSlot o.res s).modWriter fun w => { w with busy := none }
    ({ s with fw := s.fw.map (fun (f : FwSession) => { f with erased := true }) }).endOp 0x50 opnum St.OK
  | none => s)

/-- FW_CHUNK (R491, R82): the next chunk, or the last one again; BUSY while the slot is being erased, a chunk is being written or another
writer holds the flash. -/
def doFwChunk (c : Ctx) (off : Nat) (d : List Byte) (s : State) : State :=
  match s.fw with
  | none => s.refuse c St.LOCKED 2
  | some f =>
    if f.tr ≠ c.tr then s.refuse c St.LOCKED 2
    else if off = f.lastOff && d == f.last && off ≠ f.bytes.length then
      if f.writing || s.writer.busy.isSome then s.refuse c St.BUSY 3 else s.okReply c []
    else if off ≠ f.bytes.length || f.size < off + d.length then s.refuse c St.OUT_OF_RANGE 0
    else if !f.erased || f.writing || s.writer.busy.isSome then s.refuse c St.BUSY 3
    else
      ({ s with fw := some { f with bytes := f.bytes ++ d, lastOff := off, last := d, at_ := s.age, writing := true }
                writer := { s.writer with busy := some 4 } }).okReply c []

/-- FW_CHUNK_WRITTEN (R491): the chunk is in flash and the writer is free. -/
def execFwChunkWritten (s : State) : Out :=
  .next (if s.writer.busy = some 4 then
    { s with fw := s.fw.map (fun (f : FwSession) => { f with writing := false }), writer := { s.writer with busy := none } }
  else s)

/-- FW_COMMIT (R492, R85). LOCKED for an unfinished session comes before BUSY for a commit that runs on the slot (DESIGN CHOICE, log 106). -/
def doFwCommit (c : Ctx) (s : State) : State :=
  match s.fw with
  | none => s.refuse c St.LOCKED 2
  | some f =>
    if f.bytes.length ≠ f.size || f.writing then s.refuse c St.LOCKED 2
    else if s.opHeld 0x52 f.target then s.refuse c St.BUSY 5
    else if f.tr ≠ c.tr then s.refuse c St.LOCKED 2
    else s.startOp c f.target [f.target, f.version] f.bytes

/-- The final status of a FW_COMMIT on the image b that FW_BEGIN announced with a version, and its DETAIL: the key slot 0 or 1 for AUTH_FAIL
(R492). -/
def fwVerdict (s : State) (b : List Byte) (version : Nat) : Nat × Option Nat :=
  let k := fwCheck s { bytes := b }
  if 7 ≤ k then (St.AUTH_FAIL, some (k - 7)) else if k ≠ 0 || fld b 8 4 ≠ version then (St.OUT_OF_RANGE, none) else (St.OK, none)

/-- FW_COMMIT_COMPLETE (R492, R495): the image is checked; on OK it is the slot's, FW_STAGED tells its VERSION, and a target B sets the
copy request. In the recovery loader BOOT follows. -/
def execFwCommitComplete (opnum : Nat) (flashOk : Bool) (s : State) : Out :=
  .next (match s.opRun 0x52 opnum with
  | some o =>
    if !s.coreRuns then s else
    match o.args with
    | [t, version] =>
      let v := if flashOk then fwVerdict s o.data version else (St.INTERNAL, some 2)
      let s := { s with fw := none }
      if v.1 = St.OK then
        let s := s.modFlash fun f => { f with fw := f.fw.set t { bytes := o.data, valid := true }, copyReq := f.copyReq || t == 1 }
        let s := (s.endOp 0x52 opnum St.OK).raise Ev.FW_STAGED version
        if s.ctl.loader then s.modCtl fun k => { k with resetReq := some k.resetCause } else s
      else match v.2 with
        | some d => s.endOpDetail 0x52 opnum v.1 d
        | none => s.endOp 0x52 opnum v.1
    | _ => s.endOp 0x52 opnum St.OUT_OF_RANGE
  | none => s)

/-- FW_SESSION_TIMEOUT (R493): ten minutes without an accepted chunk. -/
def execFwSessionTimeout (s : State) : Out :=
  .next (match s.fw with
  | some f => if elapsed s f.at_ 60000000 && !s.opHeld 0x52 f.target then fwDrop s else s
  | none => s)

/-! Key installation (R478). -/

/-- KEY_INSTALL_WRITE (R478): the oldest key that waits goes into its slot, 64 bytes of 0xFF erase a flash slot; SEC.KEY_SLOT reads
0xFFFF. A key for flash waits while another writer has it (R240). One for an OTP slot that an earlier one has programmed fails. -/
def execKeyInstallWrite (ok : Bool) (s : State) : Out :=
  .next (match s.host.keyJobs with
  | (k, b) :: rest =>
    if !(s.live && s.coreRuns) || (4 ≤ k && s.writer.busy.isSome) then s else
    let fail := !ok || (k < 4 && (keyAt s k).isSome)
    let s := (s.modHost fun h => { h with keyJobs := rest }).setPar gSEC 0 SEC.KEY_SLOT 0xFFFF
    let s := if fail then s
      else if k = 1 then { s with otp := { s.otp with key1 := some b } }
      else if k = 3 then { s with otp := { s.otp with key3 := some b } }
      else s.beginWrite 7 fun f => { f with keys := if b == rep 64 0xFF then assocDel f.keys k else assocSet f.keys k b }
    s.raise Ev.KEY_INSTALLED (b2n fail * 2 ^ 8 + k)
  | [] => s)

end Sys2Proof.Machine
end

