-- ==== Sys2Proof/Machine/Timers.lean ====
section
/-! DEFINITION. The general timers (14_timers_counters R499 to R517): counting, starting and stopping, actions, captures, the FIFO, the
conversion requests; the debugger halt (R447, R484, R517) and the boundary-scan port (R556). -/

namespace Sys2Proof.Machine

/-! Movement (R500 to R503). -/

/-- The timers run: from the end of BOOT, while the clock does (R516). -/
def timersRun (s : State) : Bool := s.live

/-- Timer t takes what waits in its shadow (R503). -/
def Timer.adopt (x : Timer) : Timer :=
  { x with period := x.shPer.getD x.period, cmpA := x.shA.getD x.cmpA, cmpB := x.shB.getD x.cmpB, shPer := none, shA := none, shB := none }

/-- The counter moved by one tick in a mode: the timer after it, whether the tick counted down, and whether it was a turn; the update
boundary adopts the shadow (R501, R503). -/
def Timer.move (mode : Nat) (x : Timer) : Timer × Bool × Bool :=
  if mode = 1 then
    if x.period ≤ x.count then ({ x.adopt with count := 0 }, false, true) else ({ x with count := x.count + 1 }, false, false)
  else if mode = 2 then
    if x.count = 0 then (let z := x.adopt; ({ z with count := z.period }, true, true)) else ({ x with count := x.count - 1 }, true, false)
  else if mode = 3 then
    if x.down || x.period ≤ x.count then
      if x.count ≤ 1 then ({ x.adopt with count := 0, down := false }, true, true) else ({ x with count := x.count - 1, down := true }, true, false)
    else let top := decide (x.period ≤ x.count + 1); ({ x with count := x.count + 1, down := top }, false, top)
  else
    let c := min (x.count + 1) x.period
    ({ x with count := c, run := decide (c < x.period) }, false, decide (x.period ≤ c))

/-- One tick of a running timer in a mode: the counter moves, and a match of a compare value up to PERIOD and a turn wait to be acted on
(R501 to R503). -/
def Timer.tick (mode : Nat) (x : Timer) : Timer :=
  let m := x.move mode
  let y := m.1
  let hit (on : Bool) (k : Nat) : List TmrHit := if on then [⟨k, m.2.1, y.count, x.ticks + 1⟩] else []
  { y with ticks := x.ticks + 1
           hits := x.hits ++ hit (decide (y.count = y.cmpA && y.cmpA ≤ y.period)) 0 ++ hit (decide (y.count = y.cmpB && y.cmpB ≤ y.period)) 1 ++
             hit m.2.2 2 }

/-- A timer that stops at the end of a one-shot takes what waits in its shadow (R503, R505). -/
def Timer.settle (x : Timer) : Timer := if x.run then x else x.adopt

/-- n source events reach timer t: the accumulator rises by 65,536 for each, and every PRESC of it is a tick (R500). What earlier events
reached is past. -/
def sourceEvents (t n : Nat) (s : State) : State :=
  let x := s.timer t
  let m := par s gTMR t TMR.MODE
  let p := par s gTMR t TMR.PRESC
  let gated := par s gTMR t TMR.IO_MODE = 5 && !tmrPin s t
  if !(timersRun s && x.run && !x.frozen && !gated && m ≠ 0 && p ≠ 0) then s
  else
    let a := x.acc + 65536 * n
    s.modTimer t fun x => (iter (fun (y : Timer) => if y.run then y.tick m else y) (a / p)
      { x with acc := a % p, hits := if a / p = 0 then x.hits else [] }).settle

/-- The levels of the timer pins come in, bit q that of TMRIOq (R510). -/
def pinsIn (levels : Nat) (s : State) : State := { s with timers := { s.timers with io := levels } }

/-- An edge of a direction is one that the selection of SRC_ARG bits 9:8 takes: 0 rising, 1 falling, 2 both (R499). -/
def edgeTaken (sel : Nat) (rising : Bool) : Bool := sel = 2 || (sel = 0 && rising) || (sel = 1 && !rising)

/-- TIMER_TICK (R499, R500): events of the core clock, or edges of a pin, reach timer t; the frame start and other timers' actions reach
their timers by themselves. The level of the pin follows its edge. What the ticks of one command hit waits for its own rows (DESIGN CHOICE,
log 108). -/
def execTimerTick (t : Nat) (inp : TickIn) (s : State) : Out :=
  let src := par s gTMR t TMR.SOURCE
  let arg := par s gTMR t TMR.SRC_ARG
  .next (if !(t < 16 && timersRun s) then s
  else if src = 0 then sourceEvents t inp.events (pinsIn inp.levels s)
  else if src = 2 then
    let l := if inp.rising then setBit inp.levels inp.pin else clrBit inp.levels inp.pin
    let s := pinsIn l s
    if bits arg 2 0 = inp.pin && edgeTaken (bits arg 9 8) inp.rising then sourceEvents t inp.events s else s
  else s)

/-- Frame start: one event for each timer of SOURCE 1 (R499). -/
def frameTicks (s : State) : State :=
  (List.range 16).foldl (fun s t => if par s gTMR t TMR.SOURCE = 1 then sourceEvents t 1 s else s) s

/-! Start, stop, reset (R505 to R507, R509). -/

/-- The counter at its offset (R507). -/
def Timer.atOffset (mode off : Nat) (x : Timer) : Timer :=
  if mode = 3 && x.period < off then { x with count := 2 * x.period - off, down := true }
  else { x with count := off, down := decide (mode = 2) }

/-- What reaches timer t on core cycle k acts on it (R505, R508, R509): START from the offset, which a STOP of the same cycle prevents, as
mode 0 does (R501); STOP, which holds the counter and undoes a START of the same cycle; RESET to the offset. -/
def tmrAct (d : TmrDo) (k t : Nat) (s : State) : State :=
  let m := par s gTMR t TMR.MODE
  let off := par s gTMR t TMR.OFFSET
  match d with
  | .start =>
    if m = 0 || (s.timer t).stopAt = some k then s
    else s.modTimer t fun x =>
      let y := if m = 4 || !x.run then x.adopt else x
      { y.atOffset m off with acc := 0, run := true, pin := if x.run then x.pin else par s gTMR t TMR.IO_IDLE == 1
                              startAt := some (k, x.count, x.acc) }
  | .stop => s.modTimer t fun x =>
      let y := match x.startAt with | some (c, n, a) => if c = k then { x with count := n, acc := a } else x | none => x
      { y with run := false, stopAt := some k, startAt := none }.adopt
  | .reset => s.modTimer t fun x => { x.atOffset m off with startAt := none }

/-- What reaches timer t on core cycle k; a frozen timer holds, and takes it at its release (R517; DESIGN CHOICE, log 103). -/
def tmrReach (d : TmrDo) (k t : Nat) (s : State) : State :=
  if 16 ≤ t then s
  else if (s.timer t).frozen then s.modTimer t fun x => { x with held := x.held ++ [(d, k)] }
  else tmrAct d k t s

/-- A START of timer t on core cycle k (R505). -/
def tmrStart (k t : Nat) (s : State) : State := tmrReach .start k t s

/-- A STOP of timer t on core cycle k (R505). -/
def tmrStop (k t : Nat) (s : State) : State := tmrReach .stop k t s

/-- A RESET of timer t on core cycle k (R508). -/
def tmrReset (k t : Nat) (s : State) : State := tmrReach .reset k t s

/-- Timer t is released: what has reached it in the halt acts in order (R517). -/
def tmrRelease (t : Nat) (s : State) : State :=
  (s.timer t).held.foldl (fun s d => tmrAct d.1 d.2 t s) (s.modTimer t fun x => { x with frozen := false, held := [] })

/-- A host write or a named frame starts the timers of a mask at cycle 0 of the present frame (R505). -/
def tmrStartMask (mask : Nat) (s : State) : State := (bitsOf 16 mask).foldl (fun s t => tmrStart (s.swapFrame * 4096) t s) s

/-- A host write stops the timers of a mask (R505). -/
def tmrStopMask (mask : Nat) (s : State) : State := (bitsOf 16 mask).foldl (fun s t => tmrStop (s.swapFrame * 4096) t s) s

/-- PERIOD, CMP_A or CMP_B written: held in the shadow, or adopted at once by a timer that does not run (R503). -/
def tmrShadow (t k v : Nat) (s : State) : State :=
  s.modTimer t fun x =>
    let y := if k = TMR.PERIOD then { x with shPer := some v } else if k = TMR.CMP_A then { x with shA := some v } else { x with shB := some v }
    y.settle

/-- TMR_NAMED_START (R506): at cycle 0 of START_FRAME the timers of START_AT start together, and the start is cleared. -/
def execTmrNamedStart (s : State) : Out :=
  .next (match s.timers.named with
  | some (f, m) =>
    if timersRun s && f ≤ s.swapFrame then
      let s := tmrStartMask m { s with timers := { s.timers with named := none } }
      let v := (List.range 4).foldl (fun v k => assocDel v (pid gTMR 16 TMR.START_FRAME + k)) s.params.vals
      { s with params := { s.params with vals := assocDel v (pid gTMR 16 TMR.START_AT) } }
    else s
  | none => s)

/-! Actions (R508 to R514). -/

/-- An entry joins the FIFO of timer t, or is dropped (R511). -/
def fifoPush (t : Nat) (e : Nat) (s : State) : State :=
  let x := s.timer t
  if x.fifo.length < 32 then s.modTimer t fun x => { x with fifo := x.fifo ++ [e] }
  else
    let s := s.modTimer t fun x => { x with ovf := true }
    if x.ovf then s else s.raise Ev.TMR_FIFO_FULL t

/-- An entry of R511 from the frame, a data word and a counter. -/
def fifoEntry (s : State) (data cnt : Nat) : Nat := s.frame % 65536 * 2 ^ 48 + data * 2 ^ 32 + cnt

/-- The data word named by DMA_DATA (R511). -/
def dmaData (s : State) (t : Nat) : Nat :=
  let d := par s gTMR t TMR.DMA_DATA
  if 1 ≤ d && d ≤ 16 then ofS 16 (s.mod (d - 1)).sample
  else if d = 17 then maskOf (those 8 (tmrio s)) else 0

/-- CONV: one fresh conversion is asked for unless one waits already; at cycle 3,600 or later it joins the plan of the frame after the
next (R124, R512). -/
def convAsk (t at_ : Nat) (s : State) : State :=
  if (s.timer t).conv.isSome then s
  else
    let s := s.modTimer t fun x => { x with conv := some 0, slot := none }
    let first := s.age + 1 + b2n (decide (3600 ≤ at_) || s.jobs.frm.committed)
    s.modSense fun x => { x with reqs := x.reqs ++ [⟨4, par s gTMR t TMR.CONV_CHAN, 1, tmrWho t, false, first⟩] }

/-- EVENT: TMR_ACTION at most once per timer in 100 frames, with the actions since the previous one (R514, R520). -/
def tmrEvent (t kind : Nat) (s : State) : State :=
  let x := s.timer t
  let n := satN 65535 (x.evN + 1)
  if (match x.evAt with | some a => decide (s.age < a + 100) | none => false) then s.modTimer t fun x => { x with evN := n }
  else (s.modTimer t fun x => { x with evAt := some s.age, evN := 0 }).raise Ev.TMR_ACTION (n * 2 ^ 16 + kind * 2 ^ 8 + t)

/-- The pin action of an action word: clear prevails over set, and set over toggle, among those of one tick (R508, R509). -/
def pinAct (t w tick : Nat) (s : State) : State :=
  let a := bits w 9 8
  let rank := if a = 1 then 2 else if a = 2 then 3 else if a = 3 then 1 else 0
  let done := if (s.timer t).pinDone.1 = tick then (s.timer t).pinDone.2 else 0
  if par s gTMR t TMR.IO_MODE = 1 && done < rank then
    s.modTimer t fun x => { x with pin := if a = 1 then true else if a = 2 then false else !x.pin, pinDone := (tick, rank) }
  else s

/-- The timers that count the actions of kind k of timer t take one event (R499, SOURCE 3). -/
def chainEvents (t k : Nat) (s : State) : State :=
  (List.range 16).foldl (fun s u =>
    let a := par s gTMR u TMR.SRC_ARG
    if par s gTMR u TMR.SOURCE = 3 && bits a 3 0 = t && bits a 9 8 = k then sourceEvents u 1 s else s) s

/-- The core cycle after cycle at of the present frame, on which an action reaches its targets (R509); cycle 0 of the next frame after the
last of this one. -/
def nextCycle (s : State) (at_ : Nat) : Nat :=
  if s.jobs.frm.len ≤ at_ + 1 then (s.frame + 1) * 4096 else s.frame * 4096 + at_ + 1

/-- An action word of timer t runs on cycle at of the frame for h, a match, a turn, or a capture (kind 3): pin, targets on the next core
cycle with STOP before START and RESET after both, FIFO, conversion, event (R508, R509). -/
def runAction (t : Nat) (h : TmrHit) (w at_ : Nat) (s : State) : State :=
  let kind := h.kind
  let k := nextCycle s at_
  let tg := bitsOf 16 (par s gTMR t TMR.TARGET)
  let s := if kind = 3 then s else pinAct t w h.tick s
  let s := if bit w 2 then fifoPush t (fifoEntry s (dmaData s t) h.count) s else s
  let s := if bit w 4 then tg.foldl (fun s u => tmrStop k u s) s else if bit w 3 then tg.foldl (fun s u => tmrStart k u s) s else s
  let s := if bit w 5 then tg.foldl (fun s u => tmrReset k u s) s else s
  let s := if bit w 1 then convAsk t at_ s else s
  let s := if bit w 0 then tmrEvent t kind s else s
  if kind = 3 then s else chainEvents t kind s

/-- The slope condition of a match or a turn in mode 3 (R508). -/
def slopeOk (s : State) (t w : Nat) (h : TmrHit) : Bool :=
  let c := bits w 11 10
  par s gTMR t TMR.MODE ≠ 3 || (c ≠ 1 && c ≠ 2) || (if h.kind = 2 then (c = 1) == h.down else (c = 2) == h.down)

/-- The oldest match or turn of a kind of timer t that waits to be acted on; none of a timer that does not exist, stands or is frozen
(R516, R517). -/
def hitOf (s : State) (t kind : Nat) : Option TmrHit :=
  if t < 16 && timersRun s && !(s.timer t).frozen then (s.timer t).hits.find? fun h => h.kind == kind else none

/-- The match or turn h of timer t is acted on with the action word w (R502, R508). -/
def takeHit (t : Nat) (h : TmrHit) (w at_ : Nat) (s : State) : State :=
  let s := s.modTimer t fun x => { x with hits := x.hits.erase h }
  if slopeOk s t w h then runAction t h w at_ s else s

/-- TMR_MATCH_A (R502, R508, R513): a tick has brought the counter to CMP_A; ACT_A runs, and an armed trace is triggered. -/
def execTmrMatchA (t : Nat) (at_ : Nat) (s : State) : Out :=
  .next (match hitOf s t 0 with
  | some h => takeHit t h (par s gTMR t TMR.ACT_A) at_ (traceOnMatch t s)
  | none => s)

/-- TMR_MATCH_B (R502, R508). -/
def execTmrMatchB (t : Nat) (at_ : Nat) (s : State) : Out :=
  .next (match hitOf s t 1 with
  | some h => takeHit t h (par s gTMR t TMR.ACT_B) at_ s
  | none => s)

/-- TMR_TURN (R501, R508): a wrap, a peak, a valley or the end of a one-shot; ACT_TURN runs. The tick itself adopted the shadow (R503). -/
def execTmrTurn (t : Nat) (at_ : Nat) (s : State) : Out :=
  .next (match hitOf s t 2 with
  | some h => takeHit t h (par s gTMR t TMR.ACT_TURN) at_ s
  | none => s)

/-- TMR_CAPTURE (R510): the edge that IO_MODE 2 (rising), 3 (falling) or 4 (either) takes copies the counter into CAPTURE, and ACT_CAP
runs; the level of the pin follows any edge. -/
def execTmrCapture (t : Nat) (edge : EdgeIn) (s : State) : Out :=
  let m := par s gTMR t TMR.IO_MODE
  let q := par s gTMR t TMR.IO_PIN
  .next (if t < 16 && 2 ≤ m && m ≤ 4 && q < 8 && timersRun s then
    let s := pinsIn (if edge.rising then setBit s.timers.io q else clrBit s.timers.io q) s
    if (s.timer t).frozen || !(m = 4 || (m = 2) == edge.rising) then s
    else
      let n := (s.timer t).count
      runAction t ⟨3, false, n, 0⟩ (par s gTMR t TMR.ACT_CAP) edge.at_ (s.modTimer t fun x => { x with capture := n })
  else s)

/-! Conversion requests (R512). -/

/-- The request of timer t still waits for its grant. -/
def convWaits (s : State) (t : Nat) : Bool := s.jobs.sense.reqs.any fun r => r.cls == 4 && r.who == tmrWho t

/-- One more plan has been made for every waiting request that could join it. -/
def convPlanned (s : State) : State :=
  (List.range 16).foldl (fun s t =>
    if s.jobs.sense.reqs.any fun r => r.cls == 4 && r.who == tmrWho t && decide (r.first ≤ s.age) then
      s.modTimer t fun x => { x with conv := x.conv.map (· + 1) }
    else s) s

/-- TMR_CONV_RESULT (R117, R512): the granted conversion's raw code and the cycle of its sampling instant, which is that of its slot, go
into the FIFO. -/
def execTmrConvResult (t : Nat) (code : Nat) (cyc : Nat) (s : State) : Out :=
  .next (match (s.timer t).slot with
  | some k =>
    if t < 16 && (s.timer t).conv.isSome && !convWaits s t && cyc = slotCycle k then
      fifoPush t (fifoEntry s (code % 65536) (slotCycle k)) (s.modTimer t fun x => { x with conv := none, slot := none })
    else s
  | none => s)

/-- TMR_CONV_WITHDRAWN (R512): not granted within 4 plans. -/
def execTmrConvWithdrawn (t : Nat) (s : State) : Out :=
  .next (if t < 16 && convWaits s t && 4 ≤ (s.timer t).conv.getD 0 then
    let s := s.modSense fun x => { x with reqs := x.reqs.filter fun r => !(r.cls == 4 && r.who == tmrWho t) }
    s.modTimer t fun x => { x with conv := none, missed := incSat 32 x.missed }
  else s)

/-! Reads that act (R511, R515, R523). -/

/-- The oldest entry leaves the FIFO; an episode of drops ends when it is read empty (R511). -/
def fifoPop (t : Nat) (s : State) : State :=
  s.modTimer t fun x => { x with fifo := x.fifo.drop 1, ovf := if x.fifo.length ≤ 1 then false else x.ovf }

/-! The debugger (R447, R484, R517). -/

/-- DEBUGGER_HALT (R447, R517): possible only while SEC.DEBUG_EN is 1; no host command is answered; a timer with DBG_FREEZE 1 holds. -/
def execDebuggerHalt (s : State) : Out :=
  .next (if par s gSEC 0 SEC.DEBUG_EN = 1 && s.ctl.coreUp && s.live && !s.ctl.dbgHalt then
    let s := s.modCtl fun c => { c with dbgHalt := true }
    (List.range 16).foldl (fun s t => if par s gTMR t TMR.DBG_FREEZE = 1 then s.modTimer t fun x => { x with frozen := true } else s) s
  else s)

/-- DEBUGGER_RELEASE (R447, R517): the core goes on, and frozen timers resume without loss. -/
def execDebuggerRelease (s : State) : Out :=
  .next (if s.ctl.dbgHalt then
    let s := s.modCtl fun c => { c with dbgHalt := false, supFrom := s.age }
    (List.range 16).foldl (fun s t => tmrRelease t s) s
  else s)

end Sys2Proof.Machine
end

