-- ==== Sys2Proof/Machine/Bank.lean ====
section
/-! DEFINITION. Where parameter changes land (03_frame_pipeline R107 to R110, 02_host_commands R64 to R72, 15_parameter_map R531, R534): the
effect of a value put in force, stitches, live writes, launches, snapshots, and what the bank loader does for CAL_ALTER and
RESTORE_FACTORY (04_sensing_calibration R145, R154). -/

namespace Sys2Proof.Machine

/-! A value put in force. -/

/-- A change of GLB.HOST_FRAMING (R55, R534): on each transport whose framing changes, waiting replies are discarded and their tags freed,
but for the reply to the write itself; the transport then runs at version 1, or at 2. -/
def setFraming (old new : Nat) (keep : Option (Transport × Option Nat)) (s : State) : State :=
  [(Transport.spi, 0), (.i2c, 1), (.can, 2)].foldl (fun s e =>
    if bit old e.2 == bit new e.2 then s
    else
      let s := s.modLink e.1 fun l => { l with
        ver := if bit new e.2 then 1 else 2, replies := l.replies.filter fun r => keep == some (e.1, r.tag) }
      s.modHost fun h => { h with flights := h.flights.filter fun f => !(f.tr == e.1 && f.done && keep != some (e.1, f.tag)) }) s

/-- What follows when the parameter with the first ID id takes the bits v, old being the state before: requests that act once (R212,
R268, R309, R454), the framing (R534), the timers in mode 0, their counters and the named start (R503, R505, R506, R515), STEP_MAX (R112). -/
def putInForce (old : State) (keep : Option (Transport × Option Nat)) (id v : Nat) (s : State) : State :=
  let g := idGroup id
  let i := idInst id
  let k := idIndex id
  if g = gSAF && k = SAF.HALT_REQ then (if v = 0x4854 then wantHalt 3 s else s).setPar gSAF 0 SAF.HALT_REQ 0
  else if g = gSCH && i < 6 && k = SCH.MAP_CLEAR then (if v = 0x4C43 then resetRegion i 2 s else s).setPar gSCH i SCH.MAP_CLEAR 0
  else if g = gFRM && i < 48 && k = FRM.STEP_MAX then s.modSlot i fun x => { x with maxStep := 0 }
  else if g = gGLB && k = GLB.HOST_FRAMING then setFraming (par old gGLB 0 GLB.HOST_FRAMING) v keep s
  else if g = gSRC && i = 4 && k = SRC.SWLINK_REQ then (if v = 1 then swlinkAsk s else s)
  else if g = gCHG && i < 4 && k = CHG.CAPTEST_REQ then s.modPack i fun p => { p with testWant := decide (v = 1) }
  else if g = gTMR && i = 16 then
    if k = TMR.START then tmrStartMask v s
    else if k = TMR.STOP then tmrStopMask v s
    else if k = TMR.START_FRAME then
      { s with timers := { s.timers with named := if v = 0 then none else some (v, par s gTMR 16 TMR.START_AT) } }
    else s
  else if g = gTMR then
    if k = TMR.MODE then (if v = 0 && i < 16 then tmrStop (s.swapFrame * 4096) i s else s)
    else if k = TMR.COUNT then (if (s.timer i).run then s else s.modTimer i fun t => { t with count := v })
    else if k = TMR.PERIOD || k = TMR.CMP_A || k = TMR.CMP_B then tmrShadow i k v s
    else s
  else s

/-- Words put in force with what follows from each parameter they carry. -/
def applyWords (keep : Option (Transport × Option Nat)) (es : List (Nat × Word)) (s : State) : State :=
  (carried s es).foldl (fun t p => putInForce s keep p.1 (entryBits es p.2 p.1) t) (withEntries s es)

/-! Stitches (R64 to R72, R108, R110, R531). -/

/-- The entries of a set that stand when stitches of several sets take effect on one frame: those no higher set has put in force (R68). -/
def standing (s : State) (set : Nat) (es : List (Nat × Word)) : List (Nat × Word) :=
  es.filter fun e => !(s.host.stitched.any fun p => p.1 == e.1 && decide (set < p.2))

/-- The lanes whose DEF_ parameters differ between two configurations (R210). -/
def movedDefs (old new : State) : List Nat :=
  those 6 fun n => [SCH.DEF_A, SCH.DEF_R, SCH.DEF_E, SCH.DEF_V, SCH.DEF_FREQ].any fun k => moved old new gSCH n k

/-- The CAN FD settings differ between two configurations (R534). -/
def movedCan (old new : State) : Bool :=
  canSettings old != canSettings new || moved old new gGLB 0 GLB.CAN_ID_CMD

/-- Both outputs of a phase that new values take out of every lane are low (R22, R187). -/
def dropPhases (old s : State) : State :=
  (those 16 fun x => (laneOfPhase old x).isSome && (laneOfPhase s x).isNone).foldl (fun s x => phaseLow s x) s

/-- What follows from new values as a whole: phases outside every lane, the loss map (R210, R212), a partial CAN FD packet discarded (R39, R534). The controller
follows OPMODE (R7, R8) in S4 of the frame of effect, with the jobs of FRAME_START. -/
def afterConfig (old : State) (s : State) : State :=
  let s := (movedDefs old s).foldl (fun s n => redefault n s) (remap (dropPhases old s))
  if movedCan old s && s.host.partial_.isSome then s.modHost fun h => { h with partial_ := none, drops := incSat 32 h.drops } else s

/-- A stitch of a set takes effect on frame eff: its values, what follows from them, a key installation (R478), the service condition of
SAFE (R8), and the configuration to be stored (R72); STITCH_APPLIED tells the set, launch 1 for a launch. -/
def applyStitch (set eff : Nat) (launch : Bool) (es : List (Nat × Word)) (s : State) : State :=
  let won := standing s set es
  let old := s
  let s := applyWords none won s
  let s := s.modHost fun h => { h with
    stitched := won.map (fun e => (e.1, set)) ++ h.stitched.filter fun p => !(won.any fun e => e.1 == p.1)
    stitchFrame := eff
    dirty := h.dirty || stagedWords old != stagedWords s
    keyJobs := if installs es && par s gSEC 0 SEC.KEY_SLOT ≠ 0xFFFF then h.keyJobs ++ [(par s gSEC 0 SEC.KEY_SLOT, keyNew s)] else h.keyJobs }
  let s := if s.ctl.service then s.modCtl fun c => { c with stitchAfter := true } else s
  let s := s.raise Ev.STITCH_APPLIED (b2n launch * 2 ^ 8 + set)
  afterConfig old s

/-- The entries of the lower-numbered sets whose stitches, checked and passed, take effect on frame eff, in ascending set number (R531). -/
def lowerSets (s : State) (eff set : Nat) : List (Nat × Word) :=
  (List.range set).flatMap fun k =>
    ((s.host.stitches.filter fun x => x.set == k && x.eff == eff && x.checked).flatMap (·.entries)) ++
    (if s.host.tide.any (fun t => t.action == 0 && t.arg == k && t.frame == eff && t.passed) then (s.host.sets.getD k {}).entries else [])

/-- The check of R531: the set against the configuration in force with the lower sets of its frame applied. -/
def recheck (s : State) (eff set : Nat) (es : List (Nat × Word)) : Option (Nat × Nat) := checkSet (withEntries s (lowerSets s eff set)) es none

/-- The entries of a refused stitch return to their set, below what was basted since (R531); of a version-1 write those that the set held
before it (R51, R59). All stay, also where the set then holds more than 512 (DESIGN CHOICE, log 104). -/
def giveBack (x : Stitch) (s : State) : State :=
  s.modHost fun h => { h with sets := modAt h.sets x.set fun k => { k with entries := k.entries.foldl (fun l e => assocSet l e.1 e.2) x.back } }

/-- f run at the bank swap, at cycle 0 of the frame that it begins: what it raises carries that frame (R73, R108). -/
def atSwap (f : State → State) (s : State) : State :=
  let t := f (s.modFrm fun r => { r with frame := s.swapFrame, committed := false })
  t.modFrm fun r => { r with frame := s.frame, committed := s.jobs.frm.committed }

/-- The reply that a stitch owes, sent once frame `ready` has begun. -/
def stitchReply (x : Stitch) (status ready : Nat) (pay : List Byte) (s : State) : State :=
  match x.owes with
  | some (tr, tag) => s.pushReply tr { tag := tag, status := status, pay := pay, ready := ready, owns := true, can := x.can, since := s.age }
  | none => s

/-- The first stitch of a set that satisfies p, and the stitches without it. -/
def takeStitch (p : Stitch → Bool) : List Stitch → Option (Stitch × List Stitch)
  | [] => none
  | x :: l => if p x then some (x, l) else (takeStitch p l).map fun r => (r.1, x :: r.2)

/-- A stitch checked on the frame before its effect (R64, R531): one that fails is not applied and replies with the status. -/
def checkStitch (x : Stitch) (rest : List Stitch) (s : State) : State :=
  match recheck s x.eff x.set x.entries with
  | none => s.modHost fun h => { h with stitches := rest ++ [{ x with checked := true }] }
  | some (st, id) =>
    stitchReply x st 0 (leBytes 2 id) (giveBack x (s.modHost fun h => { h with stitches := rest }))

/-- STITCH_CHECK (R531): on frame F + 1. -/
def execStitchCheck (set : Nat) (s : State) : Out :=
  .next (match takeStitch (fun x => x.set == set && !x.checked && decide (x.eff ≤ s.frame + 1)) s.host.stitches with
  | some (x, rest) => if s.jobs.frm.running then checkStitch x rest s else s
  | none => s)

/-- STITCH_APPLIED (R64, R108, R110): at cycle 0 of its frame of effect a stitch is in force in every stage, and its reply is sent. One that
has not been checked is checked first. -/
def execStitchApplied (set : Nat) (s : State) : Out :=
  let due (x : Stitch) : Bool := x.set == set && decide (x.eff ≤ s.swapFrame)
  .next (if !s.jobs.frm.running then s else
  let s := match takeStitch (fun x => due x && !x.checked) s.host.stitches with
    | some (x, rest) => checkStitch x rest s
    | none => s
  match takeStitch (fun x => due x && x.checked) s.host.stitches with
  | some (x, rest) =>
    let s := atSwap (applyStitch set x.eff false x.entries) (s.modHost fun h => { h with stitches := rest })
    stitchReply x St.OK x.eff (leBytes 8 x.eff) s
  | none => s)

/-! Live writes (R69, R108). -/

/-- LIVE_WRITE_EFFECT (R69): the live writes due on this frame, in the order of their acceptance; a word that a stitch of the same frame has
put in force stands. -/
def execLiveWriteEffect (s : State) : Out :=
  let due := s.host.lives.filter fun w => w.eff ≤ s.swapFrame
  .next (if !s.jobs.frm.running then s else
    due.foldl (fun s w =>
      if s.host.stitched.any fun p => w.id ≤ p.1 && p.1 < w.id + w.ws.length then s
      else atSwap (applyWords (some w.by_) ((w.ws.zipIdx w.id).map fun e => (e.2, e.1))) s)
      (s.modHost fun h => { h with lives := h.lives.filter fun w => !decide (w.eff ≤ s.swapFrame) }))

/-! Launches (R67, R109, R391). -/

/-- A launched set that fails its check: the entry leaves, the set is released with its contents, and STITCH_REFUSED, or LAUNCH_REFUSED with
cause 4 for a fleet entry, tells it (R67, R391). -/
def refuseLaunch (t : Tide) (id : Nat) (s : State) : State :=
  let s := dropLaunch t.lid s
  if t.scope = 1 then s.raise Ev.LAUNCH_REFUSED (t.lid * 2 ^ 16 + 4) else s.raise Ev.STITCH_REFUSED (id * 2 ^ 16 + t.arg)

/-- The check of a STITCH launch on frame L - 1 (R67, R531). -/
def checkLaunch (t : Tide) (s : State) : State :=
  match recheck s t.frame t.arg (s.host.sets.getD t.arg {}).entries with
  | none => s.modHost fun h => { h with tide := h.tide.map fun u => if u.lid = t.lid then { u with passed := true } else u }
  | some (_, id) => refuseLaunch t id s

/-- The tide-table entry with an ID. -/
def tideAt (s : State) (lid : Nat) : Option Tide := s.host.tide.find? fun t => t.lid == lid

/-- LAUNCH_CHECK (R67). -/
def execLaunchCheck (id : Nat) (s : State) : Out :=
  .next (match tideAt s id with
  | some t => if s.jobs.frm.running && t.action = 0 && !t.passed && t.frame ≤ s.frame + 1 then checkLaunch t s else s
  | none => s)

/-- LAUNCH_STITCH (R109): at cycle 0 of frame L the set is in force; the entry leaves the table and the set becomes empty (R65). -/
def execLaunchStitch (id : Nat) (s : State) : Out :=
  .next (match tideAt s id with
  | some t =>
    if !(s.jobs.frm.running && t.action = 0 && t.frame ≤ s.swapFrame) then s
    else
      let s := if t.passed then s else atSwap (checkLaunch t) s
      match tideAt s id with
      | some t =>
        let es := (s.host.sets.getD t.arg {}).entries
        let s := s.modHost fun h => { h with tide := h.tide.filter fun u => u.lid ≠ id, sets := h.sets.set t.arg {} }
        atSwap (applyStitch t.arg t.frame true es) s
      | none => s
  | none => s)

/-- The snapshot record of frame fr, from the read image (R397). -/
def snapshotOf (s : State) (fr : Nat) : List Byte :=
  let v (c : Nat) : List Byte := leBytes 4 (if chanPresent s c then ofS 32 ((s.image.sense.chans.getD c {}).value) else 0)
  let vs (cs : List Nat) : List Byte := cs.flatMap v
  let f := s.image.fleet
  let two : Bool := unitVer s ≠ 1
  let u32 (n : Nat) : List Byte := leBytes 4 (if two then n else 0)
  [byte (unitVer s), byte (2 * b2n (f.st == .islanded || f.cut) + 4 * b2n (!f.aligned) + 8 * b2n (!s.ident.big))] ++ leBytes 2 f.addr ++
  leBytes 8 fr ++ [byte s.image.ctlSt.code, byte s.image.link.holder] ++ leBytes 2 (satN 65535 s.records.sinceRst) ++
  vs [16, 17, 0, 1, 2, 3, 4, 5, 6, 7, 8, 9, 10, 11, 12, 13, 14, 15] ++
  ((List.range 6).map fun n => byte (if n < nLn s then (s.image.lanes.getD n {}).st.code else 0)) ++
  ((List.range 4).map fun p => byte (if p < nPp s then (s.image.packs.getD p {}).ph.code else 0)) ++
  ((List.range 4).flatMap fun p => leBytes 2 (if p < nPp s then (roCHG s p CHG.SOC).toNat else 0)) ++ leBytes 2 (ofS 16 (tjMax s)) ++
  u32 (ownNeed { s with jobs := s.image }).1 ++ u32 (ownNeed { s with jobs := s.image }).2 ++ u32 s.image.sched.siteChg ++ u32 s.image.sched.siteDis ++ leBytes 2 s.host.events.length ++ [0, 0]

/-- A record joins the last 8 of the unit; SNAP_REQs for its frame are answered with it (R396). -/
def keepSnap (fr : Nat) (s : State) : State :=
  answerSnaps (s.modFleet fun f => { f with snaps := ((fr, snapshotOf s fr) :: f.snaps.filter fun r => r.1 ≠ fr).take 8 })

/-- The unit's own record joins a gathering of this unit for its frame (R396). -/
def ownSnap (s : State) : State :=
  match s.fleet.snap with
  | some g => (match assocGet s.fleet.snaps g.frame with | some r => snapAdd s.fleet.addr r s | none => s)
  | none => s

/-- LAUNCH_SNAPSHOT (R109): the guard of frame L has published the read image, and the record is captured. -/
def execLaunchSnapshot (id : Nat) (s : State) : Out :=
  .next (match tideAt s id with
  | some t =>
    if s.jobs.frm.running && t.action = 1 && (t.frame < s.frame || (t.frame = s.frame && s.jobs.frm.committed)) then
      let s := s.modHost fun h => { h with tide := h.tide.filter fun u => u.lid ≠ id }
      ownSnap (if t.frame = s.frame then withNewImage (keepSnap t.frame) s else keepSnap t.frame s)
    else s
  | none => s)

/-! The bank loader's work for calibration (R145, R154). -/

/-- Alterations due on this frame are in force; OP_COMPLETE and CAL_ALTERED tell it (R145). -/
def alterationsDue (s : State) : State :=
  let due := s.host.altJobs.filter fun a => a.2.2.1 ≤ s.frame
  due.foldl (fun s a =>
    let s := { s with params := { s.params with alts := match a.2.1 with | some b => assocSet s.params.alts a.1 b | none => assocDel s.params.alts a.1 } }
    (s.endOp 0x31 a.2.2.2 St.OK).raise Ev.CAL_ALTERED (a.1 * 2 ^ 8 + b2n a.2.1.isNone))
    (s.modHost fun h => { h with altJobs := h.altJobs.filter fun a => !decide (a.2.2.1 ≤ s.frame) })

/-- The words of the SEC group, which RESTORE_FACTORY keeps (R155). -/
def secWords (vals : List (Nat × Word)) : List (Nat × Word) := vals.filter fun e => idGroup e.1 == gSEC

/-- The configuration after RESTORE_FACTORY: every parameter outside the SEC group at its default, under R152 (R154, R155). -/
def factoryConfig (s : State) : State := loadConfig (secWords s.params.vals) s

/-- The factory configuration comes into force (R154, R155): defaults with what follows from them, no alterations, no stored maximum-power
voltage. -/
def restoreTaken (s : State) : State :=
  let old := s
  let s := factoryConfig s
  let s := setFraming (par old gGLB 0 GLB.HOST_FRAMING) 0 none { s with params := { s.params with alts := [] } }
  let s := s.modJobs fun j => { j with srcs := j.srcs.map fun (p : SrcPort) => { p with vmpp := 0, vmppAge := 0xFFFFFFFF }
                                       packs := j.packs.map fun (p : Pack) => { p with testWant := false } }
  let s := s.modFrm fun r => { r with slots := r.slots.map fun (x : Slot) => { x with maxStep := 0 } }
  let s := { s with timers := { s.timers with named := none } }
  let s := (List.range 16).foldl (fun s t =>
    [(TMR.PERIOD, 0xFFFFFFFF), (TMR.CMP_A, 0), (TMR.CMP_B, 0)].foldl (fun s e => tmrShadow t e.1 e.2 s) (tmrStop (s.frame * 4096) t s)) s
  let s := { s with timers := { s.timers with t := s.timers.t.map fun (t : Timer) => { t with count := 0 } } }
  afterConfig old (keepMap s)

/-- RESTORE_FACTORY takes effect on its frame (R154): OP_COMPLETE and CAL_RESTORED follow, but for a hand-over that a core restart has left
to be made again (R49). -/
def restoreDue (s : State) : State :=
  let s := match s.host.restoreAgain with
    | some f => if s.frame < f then s else restoreTaken (s.modHost fun h => { h with restoreAgain := none })
    | none => s
  match s.host.restoreJob with
  | some (f, num, n) =>
    if s.frame < f then s
    else ((restoreTaken (s.modHost fun h => { h with restoreJob := none })).endOp 0x38 num St.OK).raise Ev.CAL_RESTORED n
  | none => s

/-! Storing the configuration (R72). -/

/-- CONFIG_FLASH_WRITE (R72): the configuration in force is written when a stitch has changed it, at most once in 10 s, by the one flash
writer (R240). -/
def execConfigFlashWrite (s : State) : Out :=
  .next (if s.live && s.coreRuns && s.host.dirty && s.writer.busy.isNone && (match s.host.cfgAt with | some a => decide (a + 1000000 ≤ s.age) | none => true) then
    (s.beginWrite 6 fun f => { f with cfg := stagedWords s }).modHost fun h => { h with dirty := false, cfgAt := some s.age }
  else s)

end Sys2Proof.Machine
end

