-- ==== Sys2Proof/Machine/Grants.lean ====
section
/-! DEFINITION. Deferrable work (06_loss_map_scheduler R230, R239): what waits, the one item a frame grants, and the power reserved. -/

namespace Sys2Proof.Machine

/-- The power in mW of x thousandths of C at the voltage of pack p. -/
def cPower (s : State) (p x : Nat) : Int := divR ((cRate s p x 100).getD 0 * packV s p) 1000

/-- The power reserved for a top-off of pack p in mW. -/
def topOffPower (s : State) (p : Nat) : Int := cPower s p (profF s p CHG.TOPOFF_C)
/-- The power reserved for a capacity test of pack p in mW. -/
def testPower (s : State) (p : Nat) : Int := cPower s p (par s gCHG 16 CHG.CAPTEST_C)

/-- The power reserved for the granted top-offs, and for a capacity test in progress (R230). -/
def reservedChg (s : State) : Int := sumOf (fun p => if (s.pack p).topFor.isSome then topOffPower s p else 0) (List.range (nPp s))
def reservedDis (s : State) : Int := sumOf (fun p => if (s.pack p).test.isSome then testPower s p else 0) (List.range (nPp s))

/-- The standing demand in conversions per frame (R121). -/
def standingDemand (s : State) : Nat :=
  ((precChans s).map fun c => protRate c + par s gSNS c SNS.RATE_REG + mpptRate s c + par s gSNS c SNS.RATE_TEL).foldl (· + ·) 0

/-- A further reserve of power in mW stays within the charge share (R239; DEDUCED, log 23). -/
def withinShare (s : State) (mW : Int) : Bool :=
  match chgShare s with
  | some w => decide (s.jobs.sched.needChg + reservedChg s + mW ≤ 1000 * (w : Int))
  | none => true

/-- Orders 4 and 5 may be granted on pack p: not SAFE, 5.0 degC of headroom, the power within the share (R239). -/
def packGrantOk (s : State) (p : Nat) (mW : Int) : Bool :=
  s.ctl.state ≠ .safe && withinShare s mW && match packLane s p with | some n => decide (500 ≤ laneHeadroom s n) | none => false

/-- A requested capacity test may run: MAINTAIN within one hour of an end-of-charge anchor, anchored (R307, R309). -/
def testReady (k : Pack) : Bool := k.testWant && k.ph == .maintain && !k.unanch && match k.eocFor with | some x => decide (x ≤ 360000000) | none => false

/-- The item of R239 to be granted in this frame: its order and its port, pack or lane. A flush or a persistence waits while an update
session is open (R491). -/
def nextGrant (s : State) : Option (Nat × Nat) :=
  let w := s.writer
  if w.flushDue.isSome && w.busy.isNone && s.fw.isNone then some (1, 0)
  else if w.persDue.isSome && w.busy.isNone && s.fw.isNone then some (2, 0)
  else
    let sweeps := countOf (fun n => (s.src n).sweep.isSome) (List.range (nIn s))
    let roomy := sweeps < par s gSCH 48 SCH.SWEEP_MAX && standingDemand s + 16 + par s gSCH 48 SCH.HOST_RESERVE ≤ 200
    match (List.range (nIn s)).find? (fun n => roomy && (s.src n).wantSweep && (s.src n).sweep.isNone && sweepCould s n) with
    | some n => some (3, n)
    | none => match (List.range (nPp s)).find? (fun p => (s.pack p).topWant && (s.pack p).ph == .taper && packGrantOk s p (topOffPower s p)) with
      | some p => some (4, p)
      | none =>
        let alone := (List.range (nPp s)).all fun p => (s.pack p).test.isNone
        match (List.range (nPp s)).find? (fun p => alone && testReady (s.pack p) && packGrantOk s p (testPower s p)) with
        | some p => some (5, p)
        | none => ((List.range (nLn s)).find? (probeReady s)).map fun n => (6, n)

/-- The item is granted. -/
def grantItem (g : Nat × Nat) (s : State) : State :=
  match g.1 with
  | 1 => { s with writer := { s.writer with busy := some 1 } }
  | 2 => { s with writer := { s.writer with busy := some 2 } }
  | 3 => sweepStart g.2 s
  | 4 => s.modPack g.2 fun k => { k with topFor := some 0, topWant := false }
  | 5 => (packEnter g.2 .supply none s).modPack g.2 fun k => { k with test := some 0, testWant := false, testAh := 0, flrRun := 0 }
  | _ => s.modLane g.2 fun l => { l with probeGo := true }

/-- S4 of the scheduler, whole: bounds and plans, then at most one grant, and the unit's need with the power reserved (R230, R239). -/
def schedS4 (s : State) : State :=
  let s := schedPlan s
  let g := nextGrant s
  let s := match g with | some x => grantItem x s | none => s
  s.modSched fun c => { c with grant := g, needChg := c.needChg + reservedChg s, needDis := c.needDis + reservedDis s }

end Sys2Proof.Machine
end

