-- ==== Sys2Proof/Machine/Partner.lean ====
section
/-! DEFINITION. Partner ports and the Plehal protocol (09_partner_ports R320 to R360): the partner-port job, every received message, and
every timer of the port. -/

namespace Sys2Proof.Machine

/-! Resets and the end of a port's contract (R325, R346, R354). -/

/-- A pack session on the port ends, or the partner lane stops and SWPPx opens. -/
def portPower (p cause : Nat) (s : State) : State := portStop p (packRemove p cause s)

/-- What a port forgets when it detaches or is hard reset (R325, R331, R337); its own frame on the wire is cut off. -/
def PtPort.forget (t : PtPort) : PtPort :=
  { t.noContract with
    helloTx := false, helloRx := false, helloOut := false, ver := 0, verDone := false, nextId := 0, lastRx := none, unacked := none, out := []
    wireFor := if 0 < t.busyFor then 0 else t.wireFor, busyFor := 0, backoff := 0, queue := [], plug := none, auth := none
    swapOld := false, swapRetry := none, swapTries := 0, takeOver := false, alertDue := false, statAsked := false, advN := 0 }

/-- The presentation that PRT[p].PRESENT gives a port that begins again: provider for 1, taker for 0, and for dual-role what it was. -/
def defaultProv (s : State) (p : Nat) : Bool := match par s gPRT p PRT.PRESENT with | 0 => false | 1 => true | _ => (s.port p).prov

/-- Port p is DETACHED: contract void, lane stopped, a pack session ended with cause 1 (R325, R346). -/
def portDetachAs (p cause : Nat) (s : State) : State :=
  let s := portPower p 1 s
  let s := s.modPort p fun t => { t.forget with
    pk := none, stat := none, hadCon := false, authRes := none, code := 0xFF, code2 := 0xFF, pRoles := 0, pMin := 0, pMax := 0, pAuth := 0
    seen := none, seenRun := 0, lostRun := 0, detHold := 0, hardAtt := 0, marked := false, dualAge := 0, prov := defaultProv s p }
  portOpEnd p [0, 1, 2, 3, 4, 5] St.INTERNAL (portEnter p .detached cause s)

/-- 5 s have passed since the last marker on the port, or none has been sent (R354). -/
def PtPort.markDue (t : PtPort) : Bool := match t.markFor with | some k => decide (500000 ≤ k) | none => true

/-- The marker waits for the wire like every frame (R328, R330, R354). -/
def putMarker (p : Nat) (s : State) : State := if (s.port p).sending marker then s else portPut p marker s

/-- Port p enters HARD_RESET (R346, R354), from SAFE0 too; in HARD_RESET it already is (DEDUCED, log 88). why is the cause that PORT_STATE
tells (R363).
The lane is stopped, a pack session ends with cause 4, the contract and the version go; an ACK that waits for the wire still goes out
(R331, R353), save after a marker; the marker is sent when 5 s have passed since the last one. -/
def hardResetAs (p cause why : Nat) (s : State) : State :=
  match (s.port p).st with
  | .detached | .attachWait | .hardReset => s
  | _ =>
    let v := s.val (8 + p)
    let s := portPower p 4 s
    let s := s.modPort p fun t => { t.forget with
      out := if cause = 2 then [] else t.out.filter PMsg.isAck
      vHard := v, lowRun := 0, hardN := incSat 32 t.hardN, hardAtt := t.hardAtt + 1, marked := decide (cause = 2), cause := cause }
    let s := s.raise Ev.PORT_HARD_RESET ((s.port p).hardAtt % 65536 * 2 ^ 16 + p * 2 ^ 8 + cause)
    let s := portEnter p .hardReset why s
    let s := portOpEnd p [0, 2, 3, 4, 5] St.INTERNAL s
    if cause ≠ 2 && (s.port p).markDue then putMarker p s else s

/-- Port p enters HARD_RESET for a cause of R363 that tells its own reason: a marker is the partner, action 1 the host, the rest a time. -/
def hardReset (p cause : Nat) (s : State) : State := hardResetAs p cause (match cause with | 2 => 4 | 3 => 5 | _ => 3) s

/-- A cause of SOFT_RESET (R346): in SWAPPING it leads to HARD_RESET instead. -/
def softOrHard (p cause : Nat) (s : State) : State :=
  if (s.port p).st = .swapping then hardResetAs p 4 (softCause cause) s else softReset p cause s

/-! Versions (R337). -/

/-- The highest common version; 0 for none (R337). -/
def selectVersion (mine lo hi : Nat) : Nat :=
  (([0x23, 0x22, 0x21, 0x20, 0x11, 0x10].find? fun v => v ≤ mine && v ≤ hi && lo ≤ v)).getD 0

/-- With both HELLOs acknowledged the version is selected and reported (R337, R346). -/
def versionStep (p : Nat) (s : State) : State :=
  let t := s.port p
  if !(t.st == .attached && t.helloTx && t.helloRx && !t.verDone) then s else
  let v := selectVersion (par s gPRT p PRT.VER_MAX) t.pMin t.pMax
  let s := (s.modPort p fun t => { t with ver := v, verDone := true }).raise Ev.PARTNER_VERSION (v * 2 ^ 16 + p * 2 ^ 8 + t.pMax)
  if v = 0 then s.raise Ev.PORT_STATE (p * 2 ^ 8 + 6 * 2 ^ 4 + PtSt.attached.code)
  else if par s gPRT p PRT.AUTH_MODE = 2 then authStart p none s
  else negStart p 4 s

/-! Contracts (R338 to R343). -/

/-- Port p enters CONTRACT with the contract it has made (R338, R341, R343, R346); the first one starts the check of AUTH_MODE 1 (R356). -/
def enterContract (p : Nat) (s : State) : State :=
  let t := s.port p
  let c := t.next
  let first := !t.hadCon
  let s := s.modPort p fun t => { t with
    con := c, void := false, next := .none, reqOk := false, readyOk := false, noDemand := false, outTol := 0, hadCon := true
    settled := t.settled && t.con.volt == c.volt, inTol := if t.con.volt = c.volt then t.inTol else 0, quiet := 0 }
  let s := (portEnter p .contract 4 s).raise Ev.CONTRACT (c.volt * 2 ^ 16 + p * 2 ^ 8 + c.kind)
  let s := portOpEnd p [0, 3] St.OK s
  let s := if (s.port p).swapped then portOpEnd p [2] St.OK s else s
  if first && par s gPRT p PRT.AUTH_MODE = 1 then authStart p none s else s

/-- A case of R343: CONTRACT is left for NEGOTIATING. -/
def renegotiate (p cause : Nat) (s : State) : State := if (s.port p).st = .contract then negStart p cause s else s

/-- The offer that the controller as taker requests (R340): number, voltage, current, tolerance; none where none qualifies. -/
def chooseOffer (s : State) (p : Nat) (l : List Offer) : Option (Nat × Nat × Nat × Nat) :=
  let take := par s gPRT p PRT.TAKE_I
  let avail (o : Offer) : Nat := min (min o.i take) (ratingI s p false)
  let ok (o : Offer) : Bool := par s gPRT p PRT.TAKE_VMIN ≤ o.v && o.v ≤ par s gPRT p PRT.TAKE_VMAX && o.v ≤ ratingV s p && o.v ≠ 0
  if take = 0 then none else
  let ks := (List.range l.length).filter fun k => ok (l.getD k ⟨0, 0, 0⟩)
  (maxBy (fun k => let o := l.getD k ⟨0, 0, 0⟩; ((o.v * avail o : Nat) : Int)) ks).map fun k =>
    let o := l.getD k ⟨0, 0, 0⟩
    (k + 1, o.v, avail o, o.tol)

/-- REQUEST goes out (R338, R340). -/
def sendRequest (p : Nat) (s : State) : State :=
  match chooseOffer s p (s.port p).offers with
  | some (k, v, i, tol) => portSend p Ple.REQUEST ([byte k, 0] ++ leBytes 2 i ++ leBytes 2 i) (s.modPort p fun t => { t with next := .supply v i i tol, pkReq := none })
  | none => portSend p Ple.REQUEST [0, 0, 0, 0, 0, 0] (s.modPort p fun t => { t with next := .null, pkReq := none })

/-- PACK_REQUEST goes out, bounded by the cable and the selvedge limits; a null pack contract where the cable does not bear the pack's
voltage or no pack lane serves the port (R341). A bound that a short PACK_CAPS leaves absent is omitted, 0xFFFF standing for a V_MAX that
nothing bounds (R336; DESIGN CHOICE, log 113). -/
def sendPackRequest (p : Nat) (c : PkCaps) (s : State) : State :=
  let beyond := match c.vMax with | some v => decide (ratingV s p < v) | none => false
  let null := beyond || (packLane s p).isNone
  let lim (f : SelvF) (v : Nat) : Nat := if selvOk s then min v (selvField s f p) else v
  let ic := if null then 0 else lim .ppIchg (min (c.iChg.getD 0xFFFF) (ratingI s p true))
  let id_ := if null then 0 else lim .ppIdis (min (c.iDis.getD 0xFFFF) (ratingI s p false))
  let vx := lim .ppVmax (c.vMax.getD 0xFFFF)
  let vn := if selvOk s then max (c.vMin.getD 0) (selvField s .ppVmin p) else c.vMin.getD 0
  let per := par s gPRT p PRT.STATUS_PERIOD
  let s := if beyond then s.raise Ev.CABLE_LIMITED (p * 2 ^ 8 + ratingCode s p) else s
  portSend p Ple.PACK_REQUEST (leBytes 2 ic ++ leBytes 2 id_ ++ leBytes 2 vx ++ leBytes 2 vn ++ leBytes 2 per ++ [0, 0])
    (s.modPort p fun t => { t with pkReq := some (ic, id_, vx, vn, per), next := if null then .null else .pack })

/-- The contract in force asks for more than the cable bears (R360). -/
def overCable (s : State) (p : Nat) : Bool :=
  let t := s.port p
  match t.con with
  | .supply v _ i _ => ratingV s p < v || ratingI s p t.prov < i
  | .pack => ratingV s p < conVmax t || ratingI s p true < conIchg t || ratingI s p false < conIdis t
  | _ => false

/-! Receiving (R329, R331, R332, R336). -/

/-- A frame is discarded, counted in CRC_ERRORS and not answered (R329). -/
def frameDiscarded (p : Nat) (s : State) : State := s.modPort p fun t => { t with crcErr := incSat 32 t.crcErr, wireFor := 0 }

/-- The version that governs a port: the one selected, 1.0 before that. -/
def verNow (t : PtPort) : Nat := max t.ver 0x10

/-- A message of TYPE and ID with LEN payload bytes arrives. One whose LEN is beyond the version's limit is discarded and counted (R329);
outside the attached states it has no further effect. A resend takes its old ACK; one above the version is NOT_SUPPORTED; else the
port judges it (none: left unanswered, R350) and, where the answer is OK, acts. -/
def receive (p typ id len minVer : Nat) (judge : State → Option Nat) (act : State → State) (s : State) : State :=
  let t := s.port p
  if !(p < nPp s && t.st.hears && s.clocked) then s else
  if lenLimit t < len then frameDiscarded p s else
  if !t.st.isAttached then portHeard p s else
  let s := s.modPort p fun t => { t with quiet := 0, wireFor := 0 }
  match t.lastRx with
  | some (ty, i, r) => if ty = typ && i = id then portAck p id r s else go t s
  | none => go t s
where
  go (t : PtPort) (s : State) : State :=
    match (if verNow t < minVer then some 3 else judge s) with
    | none => s
    | some r =>
      let s := portAck p id r (s.modPort p fun t => { t with lastRx := some (typ, id, r) })
      if r = 0 then act s else s

/-- OK where a condition holds, else REJECT. -/
def okIf (b : Bool) : Option Nat := some (if b then 0 else 1)

/-! The partner-port job (R88, R320 to R325, R339, R343, R344, R346). -/

/-- The parameters whose change R343 and R346 watch. -/
def watched (s : State) (p : Nat) : List Nat :=
  [PRT.MODE, PRT.PRESENT, PRT.OFFER_V0, PRT.OFFER_V1, PRT.OFFER_V2, PRT.OFFER_V3, PRT.OFFER_I0, PRT.OFFER_I1, PRT.OFFER_I2, PRT.OFFER_I3,
   PRT.OFFER_TOL, PRT.TAKE_VMIN, PRT.TAKE_VMAX, PRT.TAKE_I, PRT.STATUS_PERIOD].map (par s gPRT p)

/-- The voltage and tolerance that VPPn is compared with (R339, R340). -/
def supplyTol (t : PtPort) : Option (Nat × Nat) :=
  match (if t.prov && t.reqOk then t.next else t.con) with
  | .supply v _ _ tol => if v = 0 then none else some (v, tol)
  | _ => none

/-- The ages and counts that a frame moves on. A wire that is not idle is not classified: what it showed last stands and no count moves
(R322, R325; DEDUCED, log 87). -/
def portCount (s : State) (p : Nat) (c : CfgIn) (t : PtPort) : PtPort :=
  let v := s.val (8 + p)
  let up (b : Bool) (x : Nat) : Nat := if b then x + 1 else 0
  let tol : Option Bool := (supplyTol t).map fun x => decide ((absN (v - 100 * x.1) : Nat) ≤ x.1 * x.2)
  let inT := match tol with | some b => b | none => false
  let outT := match tol with | some b => !b && t.st == .contract && !t.prov | none => false
  let low := match t.st with
    | .swapping => decide (20 * v ≤ t.vHard)
    | .safe0 => decide (20 * v < t.vHard)
    | _ => false
  let sees := partnerSeen t.prov c.a c.b
  let vt := match provCon t with | some (x, _) => 100 * (x : Int) | none => t.vRamp
  { t with
    cfgA := if c.idle then c.a else t.cfgA, cfgB := if c.idle then c.b else t.cfgB, idle := c.idle
    inState := t.inState + 1, quiet := t.quiet + 1, dualAge := t.dualAge + 1
    unacked := t.unacked.map fun u => (u.1, u.2.1, if t.sending u.1 then 0 else u.2.2 + 1)
    plug := t.plug.map (· + 1), markFor := t.markFor.map (· + 1), swapRetry := t.swapRetry.map (· + 1)
    stat := t.stat.map fun x => { x with age := satN 0xFFFFFFFE (x.age + 1) }
    auth := t.auth.map fun a => { a with age := a.age + 1 }
    inTol := up inT t.inTol, outTol := up outT t.outTol, lowRun := up low t.lowRun
    seenRun := if t.st == .attachWait && c.idle && sees == t.seen then t.seenRun + 1 else t.seenRun
    lostRun := if !(t.st.isAttached && t.st != .swapping) || 0 < t.detHold then 0
      else if !c.idle then t.lostRun else up (!inBand (if t.talk = 0 then c.a else c.b)) t.lostRun
    detHold := t.detHold - 1
    vRamp := if t.prov then toward (100 * parI s gPRT p PRT.V_SLEW) vt t.vRamp else t.vRamp }

/-- The wires of a port that is not attached (R321, R323, R346). -/
def portWires (p : Nat) (s : State) : State :=
  let t := s.port p
  let sees := partnerSeen t.prov t.cfgA t.cfgB
  if !t.idle then s else
  match t.st with
  | .detached => if sees.isSome then (portEnter p .attachWait 1 s).modPort p fun t => { t with seen := sees, seenRun := 0 } else s
  | .attachWait => if sees = t.seen then s
    else (portEnter p .detached 2 s).modPort p fun t => { t with seen := none, seenRun := 0, dualAge := 0, hardAtt := 0 }
  | _ => s

/-- CAPS goes out with the offers of the moment: from CONTRACT by way of NEGOTIATING (R343). -/
def tellCaps (p : Nat) (s : State) : State :=
  match (s.port p).st with
  | .contract => negStart p 5 s
  | .negotiating => sendCaps p s
  | _ => s

/-- The controller has entered SAFE, STANDBY or HALT: the partner of a provider takes an ALERT, after a soft reset that runs, and a CAPS
without offers; on return to RUN it takes one with them (R344). -/
def ctlMoved (p : Nat) (saw : Ctl) (s : State) : State :=
  let t := s.port p
  if saw = s.ctl.state || !t.prov || t.ver = 0 then s
  else match s.ctl.state with
    | .safe | .standby | .halt =>
      tellCaps p (if t.ver < 0x11 then s
        else if t.st = .softReset then s.modPort p fun t => { t with alertDue := true }
        else if t.st.isAttached then sendWithdrawn p s else s)
    | .run => tellCaps p (s.modPort p fun t => { t with alertDue := false })
    | _ => s

/-- The new provider of a swap: its ACK to SWAP_OFF is off the wire, so it presents as provider and goes on from NEGOTIATING (R351). -/
def swapTaken (p : Nat) (s : State) : State :=
  let t := s.port p
  if t.takeOver && t.busyFor = 0 && !t.out.any PMsg.isAck then
    let s := (s.modPort p fun t => { t with prov := true, swapped := true, takeOver := false, detHold := 1000 }).raise Ev.ROLE_SWAPPED (p * 2 ^ 8 + 1)
    negStart p 4 s
  else s

/-- S4 of the partner-port job. With MODE 0 the port presents nothing and is DETACHED (R320); a port that is not attached presents as
PRT[p].PRESENT has it (R321). -/
def portS4 (p : Nat) (c : CfgIn) (s : State) : State :=
  if nPp s ≤ p then s else
  let w := watched s p
  let t := s.port p
  let old := t.seenPar.getD w
  let begins := t.st == .detached || t.st == .attachWait
  let s := if begins then s.modPort p fun t => { t with prov := defaultProv s p } else s
  let s := s.modPort p fun x => { (portCount s p c x).line c.idle with seenPar := some w, sawCtl := s.ctl.state, shows := true }
  if par s gPRT p PRT.MODE = 0 then
    (if t.st = .detached then s else portDetachAs p 5 s).modPort p fun t => { t with shows := false, prov := false, dualAge := 0 }
  else
    let s := if old.getD 1 0 ≠ w.getD 1 0 then hardReset p 3 s else s
    let s := portWires p s
    let s := swapTaken p s
    let s := ctlMoved p t.sawCtl s
    let t := s.port p
    let moved := old.drop 2 ≠ w.drop 2
    let nChanged := t.prov && (t.st == .contract) && (advertised s p).length ≠ t.advN
    let s := if t.st = .contract && (moved || nChanged) then renegotiate p 5 s else s
    let t := s.port p
    let s := if t.st = .hardReset && t.marked then (portEnter p .safe0 3 s).modPort p fun t => { t with lowRun := 0 } else s
    match laneOfPort s p with
    | some n =>
      if lnKind s n ≠ 4 then s
      else if (s.port p).sw && ((s.lane n).st == .off || s.ctl.state == .halt) then portOpen p s
      else if !t.prov && (takeCon t).isSome && !t.sw && (s.lane n).st.flows && !switchesHeld s then portClose p s
      else s
    | none => s

/-! Rows of the physical layer. -/

/-- PORT_ATTACH (R323, R331, R337): 150 ms with the same partner. -/
def execPortAttach (p : Nat) (s : State) : Out :=
  let t := s.port p
  .next (if p < nPp s && t.st = .attachWait && 15000 ≤ t.seenRun then
    match t.seen with
    | none => s
    | some (wire, code) =>
      let direct := code = 0
      let own := if t.prov || direct then code else 0xFF
      let s := s.modPort p fun t => { t.forget with talk := wire, code := own, code2 := 0xFF, plug := if t.prov || direct then none else some 0, lostRun := 0, hadCon := false, authRes := none }
      helloStart p 1 s
  else s)

/-- The plug measurement is over: the code is the port's own, a waiting HELLO goes out, a PORT_CMD cable query ends (R324, R337, R360). -/
def plugDone (p code : Nat) (s : State) : State :=
  let s := s.modPort p fun t => { t with code := code, plug := none }
  let t := s.port p
  let s := if t.st = .attached && !t.prov && t.helloRx && !t.helloOut then sendHello p s else s
  if portOpIs (s.port p) [4] then
    let s := portOpEnd p [4] St.OK s
    if overCable s p then
      renegotiate p 5 (s.raise Ev.CABLE_LIMITED (p * 2 ^ 8 + ratingCode s p))
    else s
  else s

/-- PLUG_MEASUREMENT_DONE (R324): level is the free wire's, in mV. -/
def execPlugMeasurementDone (p level : Nat) (s : State) : Out :=
  .next (match (s.port p).plug with
  | some k => if p < nPp s && 200 ≤ k then versionStep p (plugDone p (cableCode level) s) else s
  | none => s)

/-- PORT_DETACH (R325). -/
def execPortDetach (p : Nat) (s : State) : Out :=
  let t := s.port p
  .next (if p < nPp s && t.st.isAttached && t.st ≠ .swapping && 1000 ≤ t.lostRun then portDetachAs p 2 s else s)

/-- DUAL_ROLE_TOGGLE (R321). -/
def execDualRoleToggle (p : Nat) (s : State) : Out :=
  let t := s.port p
  .next (if p < nPp s && par s gPRT p PRT.MODE = 1 && par s gPRT p PRT.PRESENT = 2 && t.st = .detached && (if t.prov then 4000 else 3500) ≤ t.dualAge then
    s.modPort p fun t => { t with prov := !t.prov, dualAge := 0 }
  else s)

/-- HARD_RESET_MARKER (R328, R354): a received marker. -/
def execHardResetMarker (p : Nat) (s : State) : Out :=
  .next (if p < nPp s && s.clocked then
    match (s.port p).st with
    | .hardReset => s.modPort p fun t => { t with marked := true, out := t.out.filter (· ≠ marker) }
    | _ => hardReset p 2 s
  else s)

/-- PARTNER_FRAME_DISCARDED (R329). -/
def execPartnerFrameDiscarded (p : Nat) (s : State) : Out :=
  .next (if p < nPp s && s.clocked then frameDiscarded p s else s)

/-! Answers (R334). -/

/-- SWAPPING begins after an OK in either direction (R346, R351): a supplying lane enters RAMPDOWN; the contract voltage is kept for the
wait of the old provider. -/
def startSwap (p : Nat) (s : State) : State :=
  let t := s.port p
  let s := s.modPort p fun t => { t.noContract with vHard := 100 * (t.con.volt : Int), lowRun := 0, swapOld := t.prov }
  let s := match laneOfPort s p with
    | some n => if lnKind s n = 4 && (s.lane n).st.up then laneRamp n 5 s else s
    | none => s
  portEnter p .swapping (if portOpIs t [2] then 5 else 4) s

/-- The ROLE_SWAP of the controller has its answer (R348, R351, R360). -/
def swapAnswer (p res : Nat) (s : State) : State :=
  match res with
  | 0 => startSwap p s
  | 2 =>
    let t := s.port p
    if portOpIs t [2] then
      if t.swapTries < 10 then s.modPort p fun t => { t with swapRetry := some 0, swapTries := t.swapTries + 1 } else portOpEnd p [2] St.LOCKED s
    else s
  | 3 => portOpEnd p [2] St.VERSION s
  | _ => portOpEnd p [2] St.LOCKED s

/-- A message of the controller has its ACK, by its TYPE (R335). -/
def settled (p : Nat) (m : PMsg) (res : Nat) (s : State) : State :=
  let t := s.port p
  match m.typ with
  | 0x02 => if t.st = .softReset then softDone p (softCause t.cause) s else s
  | 0x04 => if res = 0 then versionStep p (s.modPort p fun t => { t with helloTx := true }) else s
  | 0x12 =>
    if res ≠ 0 || t.st ≠ .negotiating then s
    else if t.next = .null then enterContract p s
    else s.modPort p fun t => { t with reqOk := true }
  | 0x13 => if res = 0 && t.st = .negotiating && t.prov && t.reqOk then enterContract p s else s
  | 0x19 => if res = 0 && t.st = .negotiating then s.modPort p fun t => { t with reqOk := true } else s
  | 0x20 => if t.st = .contract || (t.st = .negotiating && res ≠ 0) then swapAnswer p res s else s
  | 0x21 =>
    if t.st = .swapping && t.swapOld then
      let s := (s.modPort p fun t => { t with prov := false, swapOld := false, swapped := true, detHold := 1000 }).raise Ev.ROLE_SWAPPED (p * 2 ^ 8)
      negStart p 4 s
    else s
  | 0x30 | 0x32 => if res = 3 && t.auth.isSome then authEnd p 4 s else s
  | _ => s

/-- PLEHAL_ACK (R331, R334, R335). -/
def execPlehalAck (p : Nat) (pl : List Byte) (s : State) : Out :=
  let t := s.port p
  .next (if !(p < nPp s && t.st.hears && s.clocked) then s
    else if lenLimit t < pl.length then frameDiscarded p s
    else match t.unacked with
      | some (m, _, _) =>
        if m.id = fld pl 0 1 then portNext p (settled p m (fld pl 1 1) (s.modPort p fun t => { t.dropOwn with quiet := 0, wireFor := 0 }))
        else portHeard p s
      | none => portHeard p s)

/-- PLEHAL_RESPONSE_TIMEOUT (R334, R346): a resend, at most two; then SOFT_RESET, or HARD_RESET where a SOFT_RESET stayed unanswered. -/
def execPlehalResponseTimeout (p : Nat) (s : State) : Out :=
  .next (match (s.port p).unacked with
  | some (m, sends, age) =>
    if !(p < nPp s && 3000 ≤ age) then s
    else if sends < 3 then
      portPut p m (s.modPort p fun t => { t with unacked := some (m, sends + 1, 0), resends := incSat 32 t.resends })
    else
      let s := s.modPort p fun t => { t with unacked := none }
      if (s.port p).st = .softReset then hardReset p 1 s else softOrHard p 1 s
  | none => s)

/-- PLEHAL_TX_RETRY (R330): the frame on the wire, a message or an ACK, is aborted; it goes out again before any other, after the idle time
and a random 0 to 20 frames, and is not counted as a send. -/
def execPlehalTxRetry (p : Nat) (s : State) : Out :=
  .next (match (s.port p).lastTx with
  | some m =>
    if p < nPp s && 0 < (s.port p).busyFor then
      (s.drawn 1).modPort p fun t => { t with out := m :: t.out, busyFor := 0, wireFor := 0, backoff := (Config.randomByte s.freeCtr).toNat % 21 }
    else s
  | none => s)

/-! Received messages. -/

/-- PLEHAL_SOFT_RESET (R346, R353). -/
def execPlehalSoftReset (p id : Nat) (s : State) : Out :=
  .next (receive p Ple.SOFT_RESET id 0 0x10 (fun _ => some 0) (fun s =>
    match (s.port p).st with
    | .swapping => hardResetAs p 4 (softCause 2) s
    | .softReset => softDone p 4 s
    | _ => softDone p 4 (softBegin p 2 s)) s)

/-- PLEHAL_PING (R331). -/
def execPlehalPing (p id : Nat) (s : State) : Out := .next (receive p Ple.PING id 0 0x10 (fun _ => some 0) (fun s => s) s)

/-- The cable code of a HELLO: 0xFF for none, and code 6 for every other that the table does not have (R322, R335, R336). -/
def helloCode (pl : List Byte) : Nat :=
  let c := fld pl 3 1
  if pl.length < 4 || c = 0xFF then 0xFF else min c 6

/-- PLEHAL_HELLO (R324, R335, R337). -/
def execPlehalHello (p id : Nat) (pl : List Byte) (s : State) : Out :=
  .next (receive p Ple.HELLO id pl.length 0x10 (fun _ => some 0) (fun s =>
    let s := s.modPort p fun t => { t with
      pMin := fld pl 0 1, pMax := fld pl 1 1, pRoles := fld pl 2 1, code2 := helloCode pl, pAuth := fld pl 4 1, helloRx := true }
    let t := s.port p
    let s := if t.st = .attached && !t.prov && !t.helloOut && t.plug.isNone then sendHello p s else s
    versionStep p s) s)

/-- PLEHAL_ALERT (R345). -/
def execPlehalAlert (p id : Nat) (pl : List Byte) (s : State) : Out :=
  .next (receive p Ple.ALERT id pl.length 0x11 (fun _ => some 0) (fun s =>
    let code := fld pl 0 1
    let sev := fld pl 1 1
    let s := s.raise Ev.PARTNER_ALERT (code * 2 ^ 16 + p * 2 ^ 8 + sev)
    if sev ≠ 1 then s
    else if code = 6 then s.modPort p fun t => { t with noDemand := true }
    else softOrHard p 5 s) s)

/-- The offers of a CAPS payload (R335, R336). -/
def parseOffers (pl : List Byte) : List Offer :=
  (List.range (min (fld pl 0 1) 4)).filterMap fun k =>
    if pl.length < 2 + 6 * (k + 1) then none else some ⟨fld pl (2 + 6 * k) 2, fld pl (4 + 6 * k) 2, fld pl (6 + 6 * k) 1⟩

/-- PLEHAL_CAPS (R338, R340, R343). -/
def execPlehalCaps (p id : Nat) (pl : List Byte) (s : State) : Out :=
  .next (receive p Ple.CAPS id pl.length 0x10 (fun s => let t := s.port p; okIf (!t.prov && (t.st == .negotiating || t.st == .contract))) (fun s =>
    let s := renegotiate p 4 s
    sendRequest p (s.modPort p fun t => { t with offers := parseOffers pl, reqOk := false })) s)

/-- PLEHAL_GET_CAPS (R343). -/
def execPlehalGetCaps (p id : Nat) (s : State) : Out :=
  .next (receive p Ple.GET_CAPS id 0 0x10 (fun s => let t := s.port p; okIf (t.prov && (t.st == .negotiating || t.st == .contract))) (fun s =>
    if (s.port p).st = .contract then negStart p 4 s else sendCaps p s) s)

/-- PLEHAL_REQUEST (R338, R339). -/
def execPlehalRequest (p id : Nat) (pl : List Byte) (s : State) : Out :=
  let k := fld pl 0 1
  let io := fld pl 2 2
  let im := fld pl 4 2
  .next (receive p Ple.REQUEST id pl.length 0x10 (fun s =>
    let t := s.port p
    let o := t.offers.getD (k - 1) ⟨0, 0, 0⟩
    okIf (t.prov && t.st == .negotiating && 1 ≤ pl.length && k ≤ t.offers.length && (k = 0 || (6 ≤ pl.length && im ≤ o.i)))) (fun s =>
    let o := (s.port p).offers.getD (k - 1) ⟨0, 0, 0⟩
    if k = 0 then enterContract p (s.modPort p fun t => { t with next := .null })
    else s.modPort p fun t => { t with next := .supply o.v io im o.tol, reqOk := true, readyOk := false, inTol := 0 }) s)

/-- PLEHAL_READY (R338, R341). -/
def execPlehalReady (p id : Nat) (pl : List Byte) (s : State) : Out :=
  .next (receive p Ple.READY id pl.length 0x10 (fun s => let t := s.port p; okIf (!t.prov && t.st == .negotiating && t.reqOk && 2 ≤ pl.length)) (fun s =>
    if (s.port p).pkReq.isSome then s.modPort p fun t => { t with readyOk := true } else enterContract p s) s)

/-- PLEHAL_PACK_CAPS (R335, R341, R343). -/
def execPlehalPackCaps (p id : Nat) (pl : List Byte) (s : State) : Out :=
  .next (receive p Ple.PACK_CAPS id pl.length 0x10 (fun s => let t := s.port p; okIf (!t.prov && (t.st == .negotiating || t.st == .contract))) (fun s =>
    let s := renegotiate p 4 s
    let soh := if 0x21 ≤ (s.port p).ver && 14 ≤ pl.length then fld pl 12 2 else 0
    let opt (o : Nat) : Option Nat := if o + 2 ≤ pl.length then some (fld pl o 2) else none
    let c : PkCaps := ⟨fld pl 0 1, fld pl 1 1, fld pl 2 2, opt 4, opt 6, opt 8, opt 10, soh, fld pl 16 8⟩
    sendPackRequest p c (s.modPort p fun t => { t with pk := some c, reqOk := false, readyOk := false })) s)

/-- The fields of PACK_STATUS that a version and a LEN give (R335, R336). -/
def parseStatus (ver : Nat) (pl : List Byte) : PkStat :=
  let opt (o minV : Nat) : Option Nat := if minV ≤ ver && o + 2 ≤ pl.length && fld pl o 2 ≠ 0xFFFF then some (fld pl o 2) else none
  { soc := opt 0 0x10
    temp := if 4 ≤ pl.length && fld pl 2 2 ≠ 0x8000 then some (toS 16 (fld pl 2 2)) else none
    vMaxC := if 6 ≤ pl.length then some (fld pl 4 2) else none, vMinC := if 8 ≤ pl.length then some (fld pl 6 2) else none, spread := opt 8 0x21
    iChg := opt 10 0x23, iDis := opt 12 0x23, vMax := opt 14 0x23, vMin := opt 16 0x23
    flags := if 0x23 ≤ ver then fld pl 18 2 else 0, age := 0 }

/-- PLEHAL_PACK_STATUS (R306, R341, R342). -/
def execPlehalPackStatus (p id : Nat) (pl : List Byte) (s : State) : Out :=
  .next (receive p Ple.PACK_STATUS id pl.length 0x10 (fun s => let t := s.port p; okIf (!t.prov && t.pk.isSome && (t.st == .negotiating || t.st == .contract))) (fun s =>
    let st := parseStatus (s.port p).ver pl
    let s := s.modPort p fun t => { t with stat := some st, statAsked := false }
    let s := if st.soc.isSome then s.modPack p fun k => { k with socRep := true } else s
    let t := s.port p
    if t.st = .negotiating && t.reqOk && t.readyOk then enterContract p s else s) s)

/-- The controller may take the role that a swap would give it (R349). -/
def swapAllowed (s : State) (p : Nat) : Bool :=
  let t := s.port p
  t.st == .contract && !ofPack t &&
  (if t.prov then bit (par s gPRT p PRT.SWAP_ACCEPT) 1
   else bit (par s gPRT p PRT.SWAP_ACCEPT) 0 && inRun s && !(advertised s p).isEmpty)

/-- An own ROLE_SWAP is unacknowledged. -/
def swapOut (t : PtPort) : Bool := match t.unacked with | some (m, _, _) => m.typ == Ple.ROLE_SWAP | none => false

/-- PLEHAL_ROLE_SWAP (R348 to R351). -/
def execPlehalRoleSwap (p id : Nat) (s : State) : Out :=
  let withdrawn := swapOut (s.port p) && !(s.port p).prov && 0x20 ≤ (s.port p).ver
  let s := if withdrawn then s.modPort p PtPort.dropOwn else s
  let goOn (s : State) : State := if withdrawn then portNext p s else s
  .next (goOn (receive p Ple.ROLE_SWAP id 0 0x20 (fun s =>
    let t := s.port p
    if swapOut t && t.prov then none
    else if !swapAllowed s p then some 1
    else if t.unacked.isSome then some 2 else some 0) (startSwap p) s))

/-- PLEHAL_SWAP_OFF (R351): the controller becomes provider once its ACK is off the wire. -/
def execPlehalSwapOff (p id : Nat) (s : State) : Out :=
  .next (receive p Ple.SWAP_OFF id 0 0x20 (fun s => let t := s.port p; okIf (t.st == .swapping && !t.swapOld)) (fun s =>
    s.modPort p fun t => { t with takeOver := true }) s)

/-- PLEHAL_AUTH_CERT_GET (R335, R359). -/
def execPlehalAuthCertGet (p id : Nat) (pl : List Byte) (s : State) : Out :=
  let off := fld pl 0 2
  let n := fld pl 2 1
  .next (receive p Ple.AUTH_CERT_GET id pl.length 0x22 (fun _ => okIf (1 ≤ n && n ≤ 64)) (fun s =>
    portSend p Ple.AUTH_CERT (leBytes 2 off ++ leBytes 2 s.cert.length ++ (s.cert.drop off).take n) s) s)

/-- PLEHAL_AUTH_CERT (R357). -/
def execPlehalAuthCert (p id : Nat) (pl : List Byte) (s : State) : Out :=
  .next (receive p Ple.AUTH_CERT id pl.length 0x22 (fun s => okIf (match (s.port p).auth with | some a => a.step == 1 | none => false)) (fun s =>
    match (s.port p).auth with
    | none => s
    | some a =>
      let off := fld pl 0 2
      let total := fld pl 2 2
      let more := pl.drop 4
      if 1024 < total || off ≠ a.bytes.length || more.isEmpty then authEnd p 1 s
      else
        let bs := a.bytes ++ more
        if bs.length < total then certAsk p bs.length (s.modPort p fun t => { t with auth := some { a with bytes := bs, total := total } })
        else
          let nonce := (List.range 32).map fun k => Config.randomByte (s.freeCtr + k)
          portSend p Ple.AUTH_CHALLENGE nonce ((s.drawn 32).modPort p fun t => { t with auth := some { a with bytes := bs.take total, total := total, step := 2, nonce := nonce } })) s)

/-- PLEHAL_AUTH_CHALLENGE (R359): AUTH_SIGN by the on-chip key over the nonce and the controller's role byte (R357). -/
def execPlehalAuthChallenge (p id : Nat) (pl : List Byte) (s : State) : Out :=
  .next (receive p Ple.AUTH_CHALLENGE id pl.length 0x22 (fun _ => okIf (32 ≤ pl.length)) (fun s =>
    let digest := sha256 (pl.take 32 ++ [if (s.port p).prov then 0x01 else 0x02])
    portSend p Ple.AUTH_SIGN (ecdsaSign s.ident.priv (Config.sigNonce s.freeCtr) digest) (s.drawn 1)) s)

/-- PLEHAL_AUTH_SIGN (R357, R358): the check is complete. -/
def execPlehalAuthSign (p id : Nat) (pl : List Byte) (s : State) : Out :=
  .next (receive p Ple.AUTH_SIGN id pl.length 0x22 (fun s => okIf (match (s.port p).auth with | some a => a.step == 2 | none => false)) (fun s =>
    match (s.port p).auth with
    | none => s
    | some a =>
      match certCheck (keyAt s (par s gPRT p PRT.AUTH_KEY)) a.bytes with
      | none => authEnd p 1 s
      | some c =>
        let digest := sha256 (a.nonce ++ [if (s.port p).prov then 0x02 else 0x01])
        authEnd p (if ecdsaVerify c.key digest (pl.take 64) then 0 else 2) s) s)

/-- PLEHAL_UNKNOWN_MESSAGE (R336). -/
def execPlehalUnknownMessage (p typ : Nat) (msg : MsgIn) (s : State) : Out :=
  .next (receive p typ msg.id msg.len 0x10 (fun _ => some 3) (fun s => s) s)

/-! Timers (R347). -/

/-- HELLO_WAIT_TIMEOUT (R337). -/
def execHelloWaitTimeout (p : Nat) (s : State) : Out :=
  let t := s.port p
  .next (if p < nPp s && t.st = .attached && !t.prov && !t.helloRx && !t.helloOut && 50000 ≤ t.inState then sendHello p s else s)

/-- PROVIDER_VOLTAGE_SETTLED (R339): READY. -/
def execProviderVoltageSettled (p : Nat) (s : State) : Out :=
  let t := s.port p
  .next (if p < nPp s && t.prov && t.st = .negotiating && t.reqOk && !t.readyOk && 100 ≤ t.inTol then
    portSend p Ple.READY (leBytes 2 t.next.volt ++ [0, 0]) (s.modPort p fun t => { t with readyOk := true })
  else s)

/-- TAKER_PORT_SETTLED (R340). -/
def execTakerPortSettled (p : Nat) (s : State) : Out :=
  let t := s.port p
  .next (if p < nPp s && t.st = .contract && (takeCon t).isSome && 100 ≤ t.inTol then s.modPort p fun t => { t with settled := true } else s)

/-- PORT_VOLTAGE_LOST (R340). -/
def execPortVoltageLost (p : Nat) (s : State) : Out :=
  let t := s.port p
  .next (if p < nPp s && t.st = .contract && !t.prov && (takeCon t).isSome && 1000 ≤ t.outTol then
    softReset p 8 (s.modPort p fun t => { t with noDemand := true, settled := false, outTol := 0 })
  else s)

/-- NEGOTIATION_TIMEOUT (R346). -/
def execNegotiationTimeout (p : Nat) (s : State) : Out :=
  let t := s.port p
  .next (if p < nPp s && t.st = .negotiating && 100000 ≤ t.inState then softReset p 4 s else s)

/-- KEEPALIVE_PING (R347): on supply contracts. -/
def execKeepalivePing (p : Nat) (s : State) : Out :=
  let t := s.port p
  .next (if p < nPp s && t.st = .contract && t.con.kind = 1 && 50000 ≤ t.quiet then portSend p Ple.PING [] s else s)

/-- The PERIOD of the pack contract in frames. -/
def statusPeriod (t : PtPort) : Nat := 100 * (t.pkReq.map (·.2.2.2.2)).getD 0

/-- PACK_STATUS_LATE (R342). -/
def execPackStatusLate (p : Nat) (s : State) : Out :=
  let t := s.port p
  .next (match t.stat with
  | some x =>
    if p < nPp s && t.st = .contract && ofPack t && 0x11 ≤ t.ver && !t.statAsked && 2 * statusPeriod t ≤ x.age then
      portSend p Ple.GET_STATUS [] (s.modPort p fun t => { t with statAsked := true })
    else s
  | none => s)

/-- PACK_STATUS_LOST (R342). -/
def execPackStatusLost (p : Nat) (s : State) : Out :=
  let t := s.port p
  .next (match t.stat with
  | some x => if p < nPp s && t.st = .contract && ofPack t && 90000 ≤ x.age then softReset p 7 s else s
  | none => s)

/-- SWAP_PORT_DISCHARGED (R351): VPPn has stayed at or below 5 % of the contract voltage, which a null contract does not have
(DEDUCED, log 89); the old provider presents as taker and sends SWAP_OFF. -/
def execSwapPortDischarged (p : Nat) (s : State) : Out :=
  let t := s.port p
  .next (if p < nPp s && t.st = .swapping && t.swapOld && t.prov && (t.vHard = 0 || 100 ≤ t.lowRun) then
    portSend p Ple.SWAP_OFF [] (s.modPort p fun t => { t with prov := false })
  else s)

/-- SWAP_OFF has not gone or come yet in the swap that runs: the old provider still presents as provider, the new one as taker (R346, R351). -/
def PtPort.noSwapOff (t : PtPort) : Bool := t.st == .swapping && t.swapOld == t.prov && !t.takeOver

/-- SWAP_TIMEOUT (R346). -/
def execSwapTimeout (p : Nat) (s : State) : Out :=
  let t := s.port p
  .next (if p < nPp s && t.noSwapOff && 80000 ≤ t.inState then hardReset p 4 s else s)

/-- SWAP_WAIT_RETRY (R360). -/
def execSwapWaitRetry (p : Nat) (s : State) : Out :=
  let t := s.port p
  .next (match t.swapRetry with
  | some k =>
    if p < nPp s && 10000 ≤ k && t.st = .contract && portOpIs t [2] then
      portSend p Ple.ROLE_SWAP [] (s.modPort p fun t => { t with swapRetry := none })
    else s
  | none => s)

/-- HARD_RESET_SPACING (R354): the marker goes out; SAFE0 follows its end. -/
def execHardResetSpacing (p : Nat) (s : State) : Out :=
  let t := s.port p
  .next (if p < nPp s && t.st = .hardReset && !t.marked && t.markDue then putMarker p s else s)

/-- SAFE0_END (R355, R346). -/
def execSafe0End (p : Nat) (s : State) : Out :=
  let t := s.port p
  .next (if p < nPp s && t.st = .safe0 && (100 ≤ t.lowRun || 80000 ≤ t.inState) then
    let s := if t.lowRun < 100 then
        s.raise Ev.SAFE0_LATE (p * 2 ^ 8 + (if t.vHard = 0 then 0 else fitU 8 (divR (100 * s.val (8 + p)) t.vHard)))
      else s
    let s := portOpEnd p [1] St.OK (s.modPort p fun x => { x with prov := defaultProv s p, marked := false, dualAge := 0 })
    let sees := partnerSeen (s.port p).prov (s.port p).cfgA (s.port p).cfgB
    if sees.isSome then (portEnter p .attachWait 1 s).modPort p fun t => { t with seen := sees, seenRun := 0 }
    else (portEnter p .detached 2 s).modPort p fun t => { t with seen := none, seenRun := 0, pk := none, stat := none, code := 0xFF, code2 := 0xFF, hardAtt := 0 }
  else s)

/-- PARTNER_AUTH_TIMEOUT (R357). -/
def execPartnerAuthTimeout (p : Nat) (s : State) : Out :=
  .next (match (s.port p).auth with
  | some a => if p < nPp s && 200000 ≤ a.age then authEnd p 3 s else s
  | none => s)

/-! PORT_CMD (R360). -/

/-- The action is accepted in the port's state. -/
def portCmdOk (s : State) (p act : Nat) : Bool :=
  let t := s.port p
  par s gPRT p PRT.MODE ≠ 0 &&
  match act with
  | 0 => t.st == .attached || t.st == .negotiating || t.st == .contract
  | 1 => t.st != .detached && t.st != .attachWait
  | 2 => t.st == .contract && !ofPack t
  | 3 => t.st == .attached || t.st == .contract
  | _ => t.st.isAttached

/-- The action begins. -/
def portCmdStart (p act op : Nat) (s : State) : State :=
  let s := s.modPort p fun t => { t with op := some (op, act), opDone := none, swapped := false, swapTries := 0, swapRetry := none }
  let t := s.port p
  match act with
  | 0 => softReset p 3 s
  | 1 => hardReset p 3 s
  | 2 => if t.ver < 0x20 then portOpEnd p [2] St.VERSION s else portSend p Ple.ROLE_SWAP [] s
  | 3 =>
    if t.st = .attached then (if t.ver = 0 then helloStart p 5 s else s)
    else
      let s := negStart p 5 s
      if t.prov then s else portSend p Ple.GET_CAPS [] s
  | 4 => if t.prov || t.code = 0 then plugDone p (if t.code = 0 then 0 else cableCode (if t.talk = 0 then t.cfgB else t.cfgA)) s
         else s.modPort p fun t => { t with plug := some 0 }
  | _ => if t.ver < 0x22 then portOpEnd p [5] St.VERSION s else authStart p (some op) s

/-- PORT_CMD_COMPLETE (R360): the action has reached its end. -/
def execPortCmdComplete (opnum : Nat) (s : State) : Out :=
  .next (match s.opRun 0x60 opnum with
  | none => s
  | some o =>
    match (s.port o.res).op, (s.port o.res).opDone with
    | some (n, _), some st => if n = opnum then (s.modPort o.res fun t => { t with op := none, opDone := none }).endOp 0x60 opnum st else s
    | _, _ => s)

end Sys2Proof.Machine
end

