-- ==== Sys2Proof/Machine/Frame.lean ====
section
/-! DEFINITION. The frame (03_frame_pipeline R86 to R106): the steps of the jobs in beat order, the start of a frame, cut-offs and
recoveries, the commit point and the guard, the discipline limit, and the replies of fresh reads (04_sensing_calibration R126, R127). -/

namespace Sys2Proof.Machine

/-! The steps of the jobs (R88 to R94). -/

/-- S4 of the link job of the TSN-0824, which shares its beat with S5 of IN1: it reads the power that port had before the beat (R94). -/
def linkBeat (was s : State) : State :=
  let now := (s.src 1).pAvail
  (linkS4 (s.modSrc 1 fun p => { p with pAvail := (was.src 1).pAvail })).modSrc 1 fun p => { p with pAvail := now }

/-- The step of stage k of the job of slot j (R90 to R92), was being the state before its beat; a stage whose work the model
takes elsewhere does nothing here: capture and correction of the channels (S1, S2) are captureBank, the phase shares and set-points are
those of the lane job. A thermal job of the TSN-0824 serves two pins (R91). -/
def jobStep (inp : FrameIn) (was : State) (j k : Nat) (s : State) : State :=
  match slotJob s.ident.big j with
  | (1, x) => if k = 2 && slotKind s j = 1 then phaseS2 x s else s
  | (2, n) =>
    if k = 3 then (if lnUsed s n then laneS3 n s else s) else if k = 4 then laneS4 n s else if k = 5 then laneS5 n s
    else if k = 6 then laneS6 n s else if k = 7 then laneS7 n s else if k = 8 then laneS8 n s else s
  | (3, n) => if k = 4 then srcS4 n s else if k = 5 then srcS5 n s else if k = 7 then srcS7 n s else s
  | (4, _) => if k = 3 then packsS3 s else if k = 4 then packsS4 s else s
  | (5, _) => if k = 4 then linkS4 s else if k = 5 then linkS5 s else if k = 6 then linkS6 s else if k = 7 then linkS7 s else s
  | (13, _) =>
    if k = 3 then packsS3 s else if k = 4 then linkBeat was (packsS4 s) else if k = 5 then linkS5 s else if k = 6 then linkS6 s
    else if k = 7 then linkS7 s else s
  | (6, p) => if k = 4 then portS4 p (inp.cfg.getD p ⟨0, 0, true⟩) s else s
  | (7, p) => if k = 3 then (let s := thermalS3 inp p s; if s.ident.big then s else thermalS3 inp (p + 1) s) else s
  | (8, n) =>
    if k = 4 then
      (List.range (if s.ident.big then 2 else 8)).foldl (fun s r => railS4 (n + r) s) s
    else s
  | (9, _) => if k = 4 then schedS4 s else s
  | (10, _) => if k = 4 then fleetS4 s else s
  | (11, _) => if k = 4 then safetyS4 inp.safen s else s
  | (12, _) => if k = 8 then telemetryS8 s else s
  | _ => s

/-- Every step of a frame in beat order, step (j, k) in beat j + k - 1 (R92, R94). Within a beat the later stages come first, so that no step
of a lower slot sees what a higher one gives in the same beat (DEDUCED, log 83). -/
def runBeats (inp : FrameIn) (s : State) : State :=
  (List.range (nSlots s + 7)).foldl (fun was b =>
    (List.range 8).reverse.foldl (fun s i =>
      let k := i + 1
      if b < i || nSlots s ≤ b - i then s
      else if stepRuns s (b - i) k then jobStep inp was (b - i) k s else s) was) s

/-- The sequencer, in S4 of the lowest-numbered rail supervisor (R416): what it does to a rail takes effect at the commit, so it comes after
every supervisor's own step. -/
def seqStep (s : State) : State := if stepRuns s (slotFor s 8 0) 4 then seqS4 s else s

/-! The start of a frame (R95, R96, R104, R111, R116). -/

/-- The frame counter goes on by one, and by what a renumbering adds (R111, R386); frames of effect already given move with it. The first
frame after the pipeline starts keeps its number 0. -/
def nextFrame (s : State) : State :=
  let d : Int := s.fleet.renumber.getD 0
  let mv (f : Nat) : Nat := ((f : Int) + d).toNat
  let f := s.jobs.frm
  let n := if f.fresh then f.frame else f.frame + 1
  let s := s.modFrm fun f => { f with
    frame := mv n % 2 ^ 52, age := if f.fresh then f.age else f.age + 1, fresh := false, committed := false
    lenLast := if f.fresh then f.lenLast else f.len
    stretches := if !f.fresh && f.len = 4001 then incSat 32 f.stretches else f.stretches
    shrinks := if !f.fresh && f.len = 3999 then incSat 32 f.shrinks else f.shrinks }
  if d = 0 then s.modFleet fun t => { t with renumber := none }
  else
    let link (l : Link) : Link := { l with replies := l.replies.map fun (r : Reply) => { r with ready := if r.ready = 0 then 0 else mv r.ready } }
    (s.modFleet fun t => { t with renumber := none }).modHost fun h => { h with
      stitches := h.stitches.map fun (x : Stitch) => { x with eff := mv x.eff }
      lives := h.lives.map fun (x : LiveW) => { x with eff := mv x.eff }
      altJobs := h.altJobs.map fun a => (a.1, a.2.1, mv a.2.2.1, a.2.2.2)
      restoreJob := h.restoreJob.map fun r => (mv r.1, r.2.1, r.2.2)
      restoreAgain := h.restoreAgain.map mv
      spi := link h.spi, i2c := link h.i2c, can := link h.can, inner := link h.inner }

/-- The cycle of its beat by which a step must end (R93). -/
def stepLimit (s : State) : Nat := if s.ident.big then 60 else 108

/-- The cycles of a step: three more for each corrected ECC error (R93). -/
def workLen (w : StepWork) : Nat := w.cycles + 3 * w.ecc

/-- The step is cut off: by an uncorrectable error, or at the limit (R93). -/
def stepCut (s : State) (w : StepWork) : Bool := w.lost || decide (stepLimit s < workLen w)

/-- The job slots at the start of a frame: the earliest stage at which each slot that is not idle is cut off, and its longest step, none
beyond the cut-off (R89, R93, R98, R112). -/
def slotsStart (inp : FrameIn) (s : State) : State :=
  s.modFrm fun f => { f with slots := (List.range 48).map fun j =>
    let x := f.slots.getD j {}
    let ws : List StepWork := if j < nSlots s && slotKind s j ≠ 0 then inp.work.filter fun w => w.slot == j && 1 ≤ w.stage && w.stage ≤ 8 else []
    let cut : Option Nat := (ws.filter (stepCut s)).foldl (fun (m : Option Nat) (w : StepWork) => some (min w.stage (m.getD w.stage))) none
    let ran := ws.filter fun (w : StepWork) => decide (w.stage ≤ cut.getD 8)
    { x with cutNow := cut, counted := false, maxStep := ran.foldl (fun m w => max m (min (workLen w) (stepLimit s))) x.maxStep } }

/-- A lane whose job is cut off contributes no sample: its learning window is spoilt (R98). -/
def spoilWindows (s : State) : State :=
  (List.range (nLn s)).foldl (fun s n => if (cutStage s (slotFor s 2 n)).isSome then s.modLane n fun l => { l with winBad := true } else s) s

/-- The mean adopted duty of each phase over the frame that ended (R214), and the frame-rate trim of the phases in constant on-time mode
(R175). -/
def dutyMeans (s : State) : State :=
  let s := s.modJobs fun j => { j with phases := (List.range 16).map fun x =>
    let m := s.mod x
    { j.phases.getD x {} with dMean := if m.dN = 0 then m.d else divR m.dSum m.dN } }
  { s with mods := (List.range 16).map fun x =>
    let m := s.mod x
    { m with dSum := 0, dN := 0, trim := match laneOfPhase s x with | some n => if m.cur.mode = 1 then cotTrim s n x else 0 | none => 0 } }

/-- The limit loops that acted in the frame that ended (R304). -/
def limitsWere (s : State) : State := s.modJobs fun j => { j with lanes := j.lanes.map fun (l : Lane) => { l with limWas := l.limActed } }

/-- The read image taken by the guard of the frame that ended is the one that reads take their values from (R97); a record whose cause was
raised after that frame's commit takes it too (R459). -/
def publish (s : State) : State := recordsGuard { s with image := s.imgNext.getD s.image, imgNext := none }

/-- What PH_REINSTATE and LEDGER_CLEAR_WORN have asked for phase x (R187, R197); a retirement not yet told is told first (R194). -/
def phaseDue (s : State) (x : Nat) : State :=
  let s := match (s.mod x).failed, (s.phase x).nextSt with | some k, some _ => retireTell x k s | _, _ => s
  let s' := s.modPhase x fun p => { p with nextSt := none }
  match (s.phase x).nextSt with
  | some .shed =>
    let s := (s'.modPhase x fun p => { p with st := .shed, newRet := false }).modLed x fun l => { l with isRet := false }
    s.raise Ev.PHASE_REINSTATED x
  | some st => s'.modPhase x fun p => { p with st := st }
  | none => s

/-- What the ports and the CAN FD bus sent in the frame before is gone. -/
def clearSent (s : State) : State :=
  (s.modJobs fun j => { j with ports := j.ports.map fun (t : PtPort) => { t with sent := [], mark := false } }).modHost fun h => { h with canOut := [] }

/-- FRAME_START (R95): cycle 0. The plan of this frame's slots is made of the requests handed over before (R124), the counter increments,
the capture bank is closed and corrected, what the bank loader holds for this frame is in force, and every job runs S1 to S8; then the keys
and check-ins that were late for the frame before count (R438). The jobs see the controller state as the safety job left it in the frame
before (R94); what it decides in this one stands at the commit point. A reset that was asked for takes the place of the frame (R77, R394). -/
def execFrameStart (inp : FrameIn) (s : State) : Out :=
  .next (
    if !(s.live && (s.jobs.frm.committed || s.jobs.frm.fresh)) then s
    else match s.ctl.resetReq with
    | some c => resetTo c s
    | none =>
      let s := publish (nextFrame (planSlots s))
      let s := restoreDue (alterationsDue (clearSent s))
      let s := (List.range (nPh s)).foldl phaseDue s
      let s := captureBank (slotsStart inp s) inp
      let s := convPlanned (freshPlanned s)
      let s := frameTicks { s with timers := { s.timers with io := inp.tmrio } }
      let s := flashCount (fleetPorts inp.fleet (limitsWere (dutyMeans s)))
      let s := { s with records := { s.records with refill := s.records.refill + 1 } }
      wdLater (seqStep (runBeats inp (wdFrame (spoilWindows s)))).flushCan)

/-! Overruns (R98 to R103). -/

/-- A cut-off of slot j is counted; JOB_OVERRUN when the same job did not overrun in the frame before (R99, R103). -/
def countCut (j : Nat) (s : State) : State :=
  let x := s.slot j
  match x.cutNow with
  | none => s
  | some k =>
    if x.counted then s
    else
      let s := (s.modSlot j fun x => { x with counted := true, cut := k - 1, ovr := incSat 32 x.ovr, consec := x.consec + 1 }).modFrm fun f =>
        { f with ovrTotal := incSat 32 f.ovrTotal }
      if x.held then s else s.raise Ev.JOB_OVERRUN (j * 2 ^ 8 + k)

/-- STEP_CUT_OFF (R93): a step of this frame was cut off; which steps are cut off is part of what the frame takes from outside, and the
job's later steps have not run. -/
def execStepCutOff (j stage : Nat) (s : State) : Out :=
  .next (if s.live && !s.jobs.frm.committed && (s.slot j).cutNow = some stage then countCut j s else s)

/-- The lanes that the recovery of slot j sends to RAMPDOWN (R99). -/
def recoveryLanes (s : State) (j : Nat) : List Nat :=
  let lanes := those (nLn s) (lnUsed s)
  match slotJob s.ident.big j with
  | (1, x) => (laneOfPhase s x).toList
  | (2, n) => [n]
  | (3, n) => (laneOfInput s n).toList
  | (4, _) => packLanes s
  | (6, p) => (laneOfPort s p).toList
  | (7, k) =>
    lanes.filter fun n => (lanePhases s n).any fun x =>
      let pin := par s gPH x PH.TS_PIN
      pin == k || (!s.ident.big && pin == k + 1)
  | (5, _) | (8, _) | (9, _) | (11, _) | (13, _) => lanes
  | _ => []

/-- The recovery of slot j on its third consecutive overrun, with its fault record (R99, R100, R103, R459); ACTION 1 restarts lanes, 2 a direct input, 3 the fleet,
4 discards telemetry windows. -/
def recoverJob (j : Nat) (s : State) : State :=
  let s := s.modSlot j fun x => { x with consec := 0, recov := incSat 16 x.recov }
  let kind := slotKind s j
  let ls := recoveryLanes s j
  let act := if kind = 10 then 3 else if kind = 12 then 4 else if kind = 3 && ls.isEmpty then 2 else 1
  let s := ls.foldl (fun s n => laneRestart j n s) s
  let s := if act = 2 then srcRecover (slotJob s.ident.big j).2 s
    else if act = 3 then (if s.fleet.st = .member then fleetIsland 5 s else s)
    else if act = 4 then telDiscard s else s
  s.raiseRec Ev.JOB_RECOVERY (maskOf (ls.filter fun n => (s.lane n).st == .rampdown) * 2 ^ 24 + j * 2 ^ 8 + act)

/-- JOB_RECOVERY (R99): in the seal of the third consecutive overrun frame. -/
def execJobRecovery (j : Nat) (s : State) : Out :=
  .next (if s.live && !s.jobs.frm.committed && j < nSlots s && 3 ≤ (s.slot j).consec then recoverJob j s else s)

/-- The seal (R86, R99, R102): the frame's cut-offs are counted, third consecutive ones recovered from, and HELD and the counts of the
frame stand. -/
def sealFrame (s : State) : State :=
  let s := (List.range (nSlots s)).foldl (fun s j =>
    let s := countCut j s
    if 3 ≤ (s.slot j).consec then recoverJob j s else s) s
  s.modFrm fun f => { f with slots := f.slots.map fun (x : Slot) =>
    { x with held := x.cutNow.isSome, consec := if x.cutNow.isNone then 0 else x.consec } }

/-! The commit point and the guard (R88, R96, R97). -/

/-- The issue shadow after the pipeline's first two frames; in those, zero set-points and open switches (R88). -/
def issued (s : State) : Shadow :=
  if s.age < 2 then { s.shadow with
    mods := s.shadow.mods.map fun (m : ModSet) => { m with on := false, share := 0 }
    swin := rep 4 false, swpp := rep 4 false, swlink := false }
  else s.shadow

/-- The surge path still replaces the reference of phase x until a later commit (R191). -/
def surging (s : State) (x : Nat) : Bool := match laneOfPhase s x with | some n => 0 < (s.lane n).fpLeft | none => false

/-- The phases of a lane whose soft-start has failed in this frame go low (R183). -/
def failedLow (s : State) (n : Nat) : State :=
  if (s.lane n).lowAt then (lanePhasesLow s n).modLane n fun l => { l with lowAt := false } else s

/-- What goes to the modulator of phase x, its dead times in the band that this frame has set (R168). -/
def issuedDead (s : State) (p : ModSet) (x : Nat) : ModSet := match laneOfPhase s x with | some n => p.dead s n x | none => p

/-- The whole issue shadow goes to the modulators and to the switch and enable outputs (R96). -/
def transfer (s : State) : State :=
  let i := issued s
  let s := s.modJobs fun j => { j with lanes := j.lanes.map fun (l : Lane) => { l with fpLeft := l.fpLeft - 1 } }
  let s := { s with mods := (List.range 16).map fun x =>
    let m := s.mod x
    let p := issuedDead s (i.mods.getD x {}) x
    { m with pend := if surging s x then { p with share := m.pend.share } else p } }
  let s := s.modOuts fun o => { o with lnen := i.lnen, swin := i.swin, swpp := i.swpp, swlink := i.swlink, seqen := i.seqen }
  s.modJobs fun j => { j with phases := j.phases.map fun (p : Phase) => { p with shedding := p.shedding.map fun k => k - 1 } }

/-- What the comparators of lane n compare with until the next commit point: the port's MEAN, and the reference of the undershoot
comparator (R190, R266). -/
def latchLane (s : State) (n : Nat) : State :=
  if lnUsed s n then s.modLane n fun l => { l with bwMid := portV s n, uvRef := undershootRef s n } else s

/-- The guard: the read image is taken, and the waiting records and the trace take theirs from it (R97, R459, R469); reads see it once the
guard has ended, at the next cycle 0. -/
def guard_ (s : State) : State :=
  let s := s.modFrm fun f => { f with committed := true }
  withNewImage (fun s => traceGuard (recordsGuard s)) { s with imgNext := some (imageOf s) }

/-- S4 of the link job has run in this frame. -/
def linkRan (s : State) : Bool := stepRuns s (slotFor s (if s.ident.big then 5 else 13) 0) 4

/-- COMMIT_POINT (R96): the seal, the controller state decided in this frame, a forced seam that its changes ask for (R272), the decision
after a STOP (R573), the ramp hardware (R100, R183), the transfer, and the guard. -/
def execCommitPoint (s : State) : Out :=
  .next (if !(s.live && !s.jobs.frm.committed && !s.jobs.frm.fresh) then s
  else
    let s := commitState (sealFrame s)
    let s := (List.range (nLn s)).foldl failedLow s
    let s := if linkRan s then linkLate s else s
    let s := (List.range (nLn s)).foldl (fun s n => latchLane (rampShares (stopDecision s n) n) n) s
    guard_ ((transfer s).modHost fun h => { h with stitched := [] }))

/-- DISCIPLINE_LIMIT (R106, R386): the correction has been saturated on 1,000 consecutive frames; told once in a run of them. -/
def execDisciplineLimit (s : State) : Out :=
  let f := s.jobs.frm
  .next (if s.live && !f.satTold && 1000 ≤ f.satRun then
    (s.modFrm fun f => { f with satTold := true }).raise Ev.DISCIPLINE_LIMIT f.satRun
  else s)

end Sys2Proof.Machine
end

