-- ==== Sys2Proof/Machine/HostOps.lean ====
section
/-! DEFINITION. What each host command does once it is accepted (02_host_commands R55 to R85, steps 8 and 9 of R42), in the order of R77:
the payload fields in payload order, then the conditions of state and resources; fresh reads (04_sensing_calibration R126 to R128) and
calibration (R140 to R155); and the ends of the operations they start. -/

namespace Sys2Proof.Machine

/-! Frames of effect. -/

/-- The frame in which a stitch or a live write handed over at its cycle counts as accepted (R107). -/
def accFrame (c : Ctx) (s : State) : Nat := s.frame + b2n (decide (3600 ≤ c.cyc) || s.jobs.frm.committed)

/-- The age of the frame whose plan a request handed over at its cycle joins first (R124). -/
def planAge (c : Ctx) (s : State) : Nat := s.age + 1 + b2n (decide (3600 ≤ c.cyc) || s.jobs.frm.committed)

/-- The greatest frame number that may be named (R80). -/
def lastFrame : Nat := 2 ^ 52 - 1

/-- The highest host version that is offered: 3, or 2 in the recovery loader (R56, R495). -/
def topVer (s : State) : Nat := if s.ctl.loader then 2 else 3

/-! HELLO and GET_INFO (R56, R77). -/

/-- HELLO (R56). On a version-1 transport the framing stays; the path of inner commands stays at version 3. -/
def doHello (c : Ctx) (lo hi : Nat) (s : State) : State :=
  let top := topVer s
  if top < lo || hi < 2 || hi < lo then s.refuse c St.VERSION top
  else if s.host.flights.any fun f => f.tr == c.tr && f.tag != c.tag then s.refuse c St.BUSY 6
  else
    let v := min hi top
    let s := if c.tr = .fleet || (s.link c.tr).ver = 1 then s else s.modLink c.tr fun l => { l with ver := v }
    s.okReply c ([byte v, byte top] ++ leBytes 2 (partCode s) ++ leBytes 4 (fwBuild s))

/-- GET_INFO (R77, R495). -/
def doGetInfo (c : Ctx) (s : State) : State :=
  s.okReply c (leBytes 2 (partCode s) ++ [0xB0, byte (if s.ctl.loader then 0xFF else s.ctl.slot)] ++ leBytes 4 (fwBuild s) ++
    leBytes 8 s.ident.serial ++ leBytes 8 s.frame ++ [byte s.ctl.state.code, byte (s.link c.tr).priv])

/-! Reads (R16, R76, R97, R511, R515, R521, R523, R524). -/

/-- The read of one word through a transport: a low word latches the upper words, an upper word takes its latch, a low word of a timer's
FIFO removes the oldest entry (R16, R511, R523). -/
def readOne (tr : Transport) (id : Nat) (s : State) : Word × State :=
  match paramAt s.ident.big id with
  | none => (0, s)
  | some d =>
    let f := firstId d id
    if d.words = 1 then (readWord s id, s)
    else if id = f then
      let ws := toWords d.words (readBits s d f)
      let s := s.modLink tr fun l => { l with latch := ((ws.drop 1).zipIdx (f + 1)).foldl (fun m e => assocSet m e.2 e.1) l.latch }
      (ws.headD 0, if idGroup f = gTMR && d.idx = TMR.FIFO then fifoPop (idInst f) s else s)
    else match assocGet (s.link tr).latch id with
      | some w => (w, s.modLink tr fun l => { l with latch := assocDel l.latch id })
      | none => (readWord s id, s)

/-- The reads of a list of words in order. -/
def readSeq (tr : Transport) : List Nat → State → List Word × State
  | [], s => ([], s)
  | id :: l, s =>
    let r := readOne tr id s
    let t := readSeq tr l r.2
    (r.1 :: t.1, t.2)

/-- Words as the bytes of a payload (R18). -/
def wordBytes (ws : List Word) : List Byte := ws.flatMap fun w => leBytes 2 w.toNat

/-- The reply of a read. -/
def readReply (c : Ctx) (ids : List Nat) (s : State) : State :=
  let r := readSeq c.tr ids s
  r.2.okReply c (wordBytes r.1)

/-- The channel whose conversion a FRESH read of an ID asks for: any read-only parameter of a channel (R76). -/
def freshChan (s : State) (id : Nat) : Option Nat :=
  match paramAt s.ident.big id with
  | some d => if idGroup id = gSNS && idInst id ≤ 56 && d.attr = .ro then some (idInst id) else none
  | none => none

/-- A fresh read waits: one conversion of each precision channel named, in the order of the IDs; a phase current or the die temperature
takes no slot, and a read of those alone waits for the next frame's average (R122, R128). -/
def freshStart (c : Ctx) (ids : List Nat) (chans : List Nat) (s : State) : State :=
  let prec := chans.filter (· < 40)
  let first := if prec.isEmpty then s.age + 1 else planAge c s
  let who := freshWho c.tr (c.tag.getD 0)
  let s := s.modSense fun x => { x with reqs := x.reqs ++ prec.map fun ch => ⟨4, ch, 1, who, false, first⟩ }
  s.modHost fun h => { h with fresh := h.fresh ++ [⟨c.tr, c.tag, ids, prec.map fun ch => (ch, 1), 0, first, if prec.isEmpty then some first else none⟩] }

/-- A list without its repeats, the first of each kept. -/
def nubNat : List Nat → List Nat
  | [] => []
  | a :: l => a :: (nubNat l).filter (· ≠ a)

/-- PARAM_READ (R76, R77, R521). -/
def doParamRead (c : Ctx) (flags : Nat) (ids : List Nat) (s : State) : State :=
  if ids.isEmpty || 64 < ids.length then s.refuse c St.OUT_OF_RANGE 1
  else match ids.findIdx? fun id => (paramAt s.ident.big id).isNone with
  | some i => s.refuse c St.BAD_PARAM_ID i
  | none =>
    let chans := nubNat (ids.filterMap (freshChan s))
    if bit flags 0 && !chans.isEmpty then freshStart c ids chans s else readReply c ids s

/-- The context in which a waiting command replies. -/
def lateCtx (tr : Transport) (tag : Option Nat) (opc : Nat) : Ctx := ⟨tr, tag, 0, opc⟩

/-- The first fresh read with a tag that satisfies p. -/
def freshAt (s : State) (tag : Nat) (p : Fresh → Bool) : Option Fresh := s.host.fresh.find? fun f => f.tag == some tag && p f

/-- The fresh reads without one of them, with its requests withdrawn. -/
def freshGone (f : Fresh) (s : State) : State :=
  let s := s.modHost fun h => { h with fresh := h.fresh.filter fun g => !(g.tr == f.tr && g.tag == f.tag) }
  s.modSense fun x => { x with reqs := x.reqs.filter fun r => !(r.cls == 4 && r.who == freshWho f.tr (f.tag.getD 0)) }

/-- FRESH_READ_REPLY (R127, R128): the read image that holds every conversion has been published. -/
def execFreshReadReply (tag : Nat) (s : State) : Out :=
  .next (match freshAt s tag fun f => match f.ready with | some a => decide (a < s.age) || (a == s.age && s.jobs.frm.committed) | none => false with
  | some f => if s.coreRuns && s.live then flushInner (withNewImage (readReply (lateCtx f.tr f.tag 0x10) f.ids) (freshGone f s)) else s
  | none => s)

/-- FRESH_READ_DEFERRED (R76, R126): four plans have not granted every conversion; DETAIL names the first entry still waiting. -/
def execFreshReadDeferred (tag : Nat) (s : State) : Out :=
  .next (match freshAt s tag fun f => f.ready.isNone && decide (4 ≤ f.plans) with
  | some f =>
    if !(s.coreRuns && s.live) then s else
    let i := (f.ids.findIdx? fun id => match freshChan s id with | some ch => f.wait.any (fun w => w.1 == ch) | none => false).getD 0
    let s := (freshGone f s).modSense fun x => { x with deferred := incSat 32 x.deferred }
    flushInner (s.refuse (lateCtx f.tr f.tag 0x10) St.DEFERRED i)
  | none => s)

/-- The block as it is right after reset on the same device, from which the reset value of a read-only parameter is read (R524). -/
def resetView (s : State) : State :=
  { State.reset with ident := s.ident, otp := s.otp, flash := s.flash, image := { State.reset.image with energy := s.flash.energy }
                     params := { vals := [], selv := s.params.selv, pattern := s.params.pattern, alts := journalAlts s.flash.journal } }

/-- The word of an ID as PARAM_READ_BLOCK gives it from a source (R77, R521, R524). -/
def blockWord (s : State) (source id : Nat) : Word :=
  if source = 0 then readWord s id
  else if source ≤ 4 then
    (match assocGet (s.host.sets.getD (source - 1) {}).entries id with | some w => w | none => readWord s id)
  else match paramAt s.ident.big id with
    | some d => if d.attr = .ro then readWord (resetView s) id else (toWords d.words (dfltBits s d (idInst id))).getD (id - firstId d id) 0
    | none => 0

/-- PARAM_READ_BLOCK (R77, R524). FIRST + N beyond 65,536 is refused with the offset of N (DESIGN CHOICE, log 68). -/
def doParamReadBlock (c : Ctx) (first n source : Nat) (s : State) : State :=
  if n = 0 || 512 < n || 65536 < first + n then s.refuse c St.OUT_OF_RANGE 2
  else if 5 < source then s.refuse c St.OUT_OF_RANGE 4
  else s.okReply c (wordBytes ((List.range n).map fun k => blockWord s source (first + k)))

/-! Staging sets (R61 to R71). -/

/-- The words that entries carry, rising by ID; the later of two entries of an ID counts (R61). -/
def entryWords (es : List Entry) (old : List (Nat × Word)) : List (Nat × Word) := es.foldl (fun l e => assocSet l e.id e.val) old

/-- Why a set may not be used: held by the tide table, or a version-1 write under way on set 3 (R59, R67). -/
def setLock (s : State) (set : Nat) : Option Nat :=
  if (s.host.sets.getD set {}).heldBy.isSome then some 3
  else if set = 3 && s.host.stitches.any (·.v1) then some 2
  else none

/-- The set n with f applied. -/
def State.modSet (s : State) (n : Nat) (f : StageSet → StageSet) : State := s.modHost fun h => { h with sets := modAt h.sets n f }

/-- PARAM_BASTE (R61, R62). -/
def doBaste (c : Ctx) (set : Nat) (es : List Entry) (s : State) : State :=
  if 3 < set then s.refuse c St.OUT_OF_RANGE 0
  else if es.isEmpty || 128 < es.length then s.refuse c St.OUT_OF_RANGE 1
  else match checkEntries s (s.link c.tr).priv false es with
  | some (st, d) => s.refuse c st d
  | none =>
    match setLock s set with
    | some d => s.refuse c St.LOCKED d
    | none =>
      let l := entryWords es (s.host.sets.getD set {}).entries
      if 512 < l.length then s.refuse c St.BUSY 2
      else (s.modSet set fun k => { k with entries := l }).okReply c (leBytes 2 l.length)

/-- A stitch at once is handed to the bank loader: the set's contents pass to it (R64, R65); its reply comes with its frame of effect. -/
def stitchNow (c : Ctx) (set : Nat) (es : List (Nat × Word)) (v1 : Bool) (s : State) : State :=
  let can := if c.tr = .can then some (canSettings s) else none
  let x : Stitch := ⟨set, es, accFrame c s + 2, some (c.tr, c.tag), can, false, v1, if v1 then (s.host.sets.getD set {}).entries else es⟩
  (s.modSet set fun k => { k with entries := [] }).modHost fun h => { h with stitches := h.stitches ++ [x] }

/-- PARAM_STITCH with MODE 0 (R63 to R66). -/
def doStitch (c : Ctx) (set frame : Nat) (s : State) : State :=
  if 3 < set then s.refuse c St.OUT_OF_RANGE 0
  else if frame ≠ 0 then s.refuse c St.OUT_OF_RANGE 4
  else match setLock s set with
  | some d => s.refuse c St.LOCKED d
  | none =>
    let es := (s.host.sets.getD set {}).entries
    match checkSet s es (some (s.link c.tr).priv) with
    | some (st, d) => s.refuse c st d
    | none => stitchNow c set es false s

/-- PARAM_UNPICK (R71). -/
def doUnpick (c : Ctx) (set : Nat) (s : State) : State :=
  if 3 < set then s.refuse c St.OUT_OF_RANGE 0
  else match setLock s set with
  | some d => s.refuse c St.LOCKED d
  | none => (s.modSet set fun k => { k with entries := [] }).okReply c (leBytes 2 (s.host.sets.getD set {}).entries.length)

/-! Launches (R67, R80, R81, R389 to R392). -/

/-- Local LAUNCH_IDs run from 1 to 0x7FFF (R391). -/
def lidAfter (n : Nat) : Nat := if 0x7FFF ≤ n then 1 else n + 1

/-- The next local LAUNCH_ID, skipping those in the tide table, which holds at most 16 (R391). -/
def freeLid : Nat → List Tide → Nat → Nat
  | 0, _, n => n
  | k + 1, l, n => if l.any (fun t => t.lid == n) then freeLid k l (lidAfter n) else n

/-- A local entry joins the tide table (R67, R389, R391); with ACTION STITCH it holds its set. -/
def addLocal (action flags arg frame : Nat) (s : State) : Nat × State :=
  let lid := freeLid 17 s.host.tide s.host.nextLid
  (lid, s.modHost fun h => { h with
    nextLid := lidAfter lid
    tide := h.tide ++ [⟨lid, action, 0, flags, arg, frame, false⟩]
    sets := if action = 0 then modAt h.sets arg fun k => { k with heldBy := some lid } else h.sets })

/-- A launch with SCOPE LOCAL, by LAUNCH_AT or by PARAM_STITCH with MODE 1 (R67, R80). -/
def launchLocal (c : Ctx) (action flags arg frame : Nat) (s : State) : State :=
  let go (s : State) : State :=
    if frame < s.frame + 2 then s.refuse c St.LAUNCH_TOO_LATE 2
    else if 16 ≤ s.host.tide.length then s.refuse c St.TIDE_FULL 0
    else
      let r := addLocal action flags arg frame s
      r.2.okReply c (leBytes 2 r.1)
  if action ≠ 0 then go s
  else match setLock s arg with
  | some d => s.refuse c St.LOCKED d
  | none =>
    match checkSet s (s.host.sets.getD arg {}).entries (some (s.link c.tr).priv) with
    | some (st, d) => s.refuse c st d
    | none => go s

/-- The LAUNCH_ID of the next fleet launch of this unit, and the state with its counter on (R391). -/
def fleetLid (s : State) : Nat × State :=
  let n := s.fleet.launchN % 32
  ((0x8000 + s.fleet.addr % 1024 * 32 + n) % 65536, s.modFleet fun f => { f with launchN := (n + 1) % 32 })

/-- LAUNCH travels from this unit (R391). -/
def sendLaunch (action flags arg frame : Nat) (s : State) : Nat × State :=
  let r := fleetLid s
  let pay := leBytes 2 r.1 ++ [byte action, byte flags, byte arg, 0, 0, 0] ++ leBytes 8 frame
  (r.1, originate Eli.LAUNCH pay (takeLaunch pay) r.2)

/-- A launch with SCOPE FLEET (R80, R390, R391). -/
def launchFleet (c : Ctx) (action flags arg frame : Nat) (s : State) : State :=
  if cutOff s then s.refuse c St.ISLANDED 0
  else if frame < s.frame + leadMin s then s.refuse c St.LAUNCH_TOO_LATE (leadMin s)
  else if 16 ≤ s.host.tide.length then s.refuse c St.TIDE_FULL 0
  else
    let r := sendLaunch action flags arg frame s
    r.2.okReply c (leBytes 2 r.1)

/-- PARAM_STITCH with MODE 1 (R67). -/
def doStitchLaunch (c : Ctx) (set flags frame : Nat) (s : State) : State :=
  if 3 < set then s.refuse c St.OUT_OF_RANGE 0
  else if lastFrame < frame then s.refuse c St.OUT_OF_RANGE 4
  else launchLocal c 0 flags set frame s

/-- LAUNCH_AT (R80). -/
def doLaunchAt (c : Ctx) (action scope flags arg frame : Nat) (s : State) : State :=
  if 1 < action then s.refuse c St.OUT_OF_RANGE 0
  else if 1 < scope then s.refuse c St.OUT_OF_RANGE 1
  else if (if action = 0 then 3 < arg else arg ≠ 0) then s.refuse c St.OUT_OF_RANGE 3
  else if lastFrame < frame then s.refuse c St.OUT_OF_RANGE 4
  else if scope = 1 then launchFleet c action flags arg frame s
  else launchLocal c action flags arg frame s

/-- A cancellation of a fleet entry travels; a unit that is cut off from the fleet removes its own entry (R392). -/
def sendCancel (lid : Nat) (s : State) : State :=
  if cutOff s then takeCancel (leBytes 2 lid) s else originate Eli.LAUNCH_CANCEL (leBytes 2 lid) (takeCancel (leBytes 2 lid)) s

/-- LAUNCH_CANCEL (R81, R392). -/
def doLaunchCancel (c : Ctx) (lid : Nat) (s : State) : State :=
  match tideAt s lid with
  | none => s.refuse c St.OUT_OF_RANGE 0
  | some t =>
    let lead := if t.scope = 1 then leadMin s else 2
    if t.frame < s.frame + lead then s.refuse c St.LAUNCH_TOO_LATE lead
    else (if t.scope = 1 then sendCancel lid s else dropLaunch lid s).okReply c []

/-- The bytes of a tide-table entry (R77). -/
def Tide.bytes (t : Tide) : List Byte :=
  leBytes 2 t.lid ++ [byte t.action, byte t.scope, byte t.flags, byte t.arg] ++ leBytes 8 t.frame

/-- TIDE_READ (R77). -/
def doTideRead (c : Ctx) (s : State) : State := s.okReply c ([byte s.host.tide.length, 0] ++ s.host.tide.flatMap Tide.bytes)

/-! Live writes (R69, R70, R506, R515). -/

/-- The index of the entry that carries the first word of TMR[16] parameter k that an entry list carries. -/
def tmr16At (es : List Entry) (k words : Nat) : Option Nat :=
  es.findIdx? fun e => pid gTMR 16 k ≤ e.id && e.id < pid gTMR 16 k + words

/-- The conditions of a live write beyond R62: START_FRAME and START_AT together and not too early (R506), COUNT of a running timer
(R515). The answer is a status and its DETAIL. -/
def liveCond (c : Ctx) (es : List Entry) (s : State) : Option (Nat × Nat) :=
  let f := tmr16At es TMR.START_FRAME 4
  let a := tmr16At es TMR.START_AT 1
  let ws := entryWords es []
  match f, a with
  | some i, none => some (St.OUT_OF_RANGE, i)
  | none, some i => some (St.OUT_OF_RANGE, i)
  | _, _ =>
    if f.isSome && ofWords (listed ws (pid gTMR 16 TMR.START_FRAME) 4) < accFrame c s + 2 then some (St.LAUNCH_TOO_LATE, 2)
    else if (List.range 16).any fun t => (s.timer t).run && (assocGet ws (pid gTMR t TMR.COUNT)).isSome then some (St.LOCKED, 2)
    else none

/-- Words handed to the bank loader as live writes, one for each parameter they carry (R69). -/
def liveNow (c : Ctx) (ws : List (Nat × Word)) (s : State) : State :=
  let eff := accFrame c s + 1
  s.modHost fun h => { h with lives := h.lives ++ (carried s ws).map fun p => ⟨p.1, listed ws p.1 p.2.words, eff, (c.tr, c.tag)⟩ }

/-- PARAM_WRITE_LIVE (R62, R69, R70). -/
def doWriteLive (c : Ctx) (es : List Entry) (s : State) : State :=
  if es.isEmpty || 64 < es.length then s.refuse c St.OUT_OF_RANGE 0
  else match checkEntries s (s.link c.tr).priv true es with
  | some (st, d) => s.refuse c st d
  | none =>
    match liveCond c es s with
    | some (st, d) => s.refuse c st d
    | none => (liveNow c (entryWords es []) s).okReply c (leBytes 8 (accFrame c s + 1))

/-! Version-1 framing (R58 to R60). -/

/-- The table of R60: the ID of a NUM, the factor from the version-1 unit to the native unit, and the divisor. -/
def v1Map (num : Nat) : Option (Nat × Nat × Nat) :=
  match num with
  | 0x00 => some (pid gGLB 0 GLB.FW_BUILD, 1, 1)
  | 0x01 => some (pid gGLB 0 GLB.OPMODE, 1, 1)
  | 0x02 => some (pid gGLB 0 GLB.STATUS, 1, 1)
  | 0x08 => some (pid gSRC 4 SRC.VSET, 1, 1)
  | 0x09 => some (pid gSRC 4 SRC.LV_MEAS, 100, 1)
  | 0x10 => some (pid gSRC 0 SRC.ICS_LIMIT, 10, 1)
  | 0x11 => some (pid gSRC 1 SRC.ICS_LIMIT, 10, 1)
  | 0x12 => some (pid gSRC 0 SRC.V_MIN, 1, 1)
  | 0x13 => some (pid gSRC 1 SRC.V_MIN, 1, 1)
  | 0x18 => some (pid gSRC 0 SRC.I_MEAS, 100, 1)
  | 0x19 => some (pid gSRC 1 SRC.I_MEAS, 100, 1)
  | 0x20 => some (pid gCHG 0 CHG.CV_V, 1, 1)
  | 0x21 => some (pid gCHG 0 CHG.CC_I, 10, 1)
  | 0x22 => some (pid gCHG 0 CHG.TERM_I, 1, 1)
  | 0x23 => some (pid gCHG 0 CHG.V_MEAS, 100, 1)
  | 0x28 => some (pid gSAF 0 SAF.WD_CLOSE, 100, 1)
  | 0x29 => some (pid gSAF 0 SAF.WD_OPEN, 100, 1)
  | _ => none

/-- PARAM_READ in version-1 framing: NUM, answered in the version-1 unit, rounded half away from zero (R58, R60). -/
def doV1Read (c : Ctx) (num : Nat) (s : State) : State :=
  match v1Map num with
  | none => s.refuse c St.BAD_PARAM_ID 0
  | some (id, mul, _) =>
    match paramAt s.ident.big id with
    | none => s.refuse c St.BAD_PARAM_ID 0
    | some d => s.okReply c (leBytes 2 (ofS 16 (divHalfAway (d.num (readBits s d id)) mul)))

/-- A version-1 write to a staged parameter: basted into set 3 and stitched at once (R59). -/
def v1Staged (c : Ctx) (e : List Entry) (s : State) : State :=
  let k := s.host.sets.getD 3 {}
  let es := entryWords e k.entries
  if k.heldBy.isSome then s.refuse c St.LOCKED 3
  else if 512 < es.length then s.refuse c St.BUSY 2
  else match checkSet s es (some (s.link c.tr).priv) with
  | some (st, d) => s.refuse c st d
  | none => stitchNow c 3 es true s

/-- The entries that carry the native bits v of the parameter with first ID id (R16, R60). -/
def nativeEntries (d : ParamDef) (id v : Nat) : List Entry := ((toWords d.words v).zipIdx id).map fun e => ⟨e.2, e.1⟩

/-- The checks of R62 on a version-1 write of the native value v: a value that the parameter's words cannot hold is out of range, behind
the checks that stand before the range (R60, R62). -/
def v1Check (c : Ctx) (d : ParamDef) (id v : Nat) (s : State) : Option (Nat × Nat) :=
  match checkEntries s (s.link c.tr).priv false (nativeEntries d id v) with
  | some (st, n) =>
    if st = St.READ_ONLY || st = St.LOCKED then some (st, n)
    else if 65536 ^ d.words ≤ v then some (St.OUT_OF_RANGE, 0) else some (st, 0)
  | none => if 65536 ^ d.words ≤ v then some (St.OUT_OF_RANGE, 0) else none

/-- PARAM_WRITE_LIVE in version-1 framing: NUM and VALUE (R58 to R60). -/
def doV1Write (c : Ctx) (num val : Nat) (s : State) : State :=
  match v1Map num with
  | none => s.refuse c St.BAD_PARAM_ID 0
  | some (id, mul, _) =>
    match paramAt s.ident.big id with
    | none => s.refuse c St.BAD_PARAM_ID 0
    | some d =>
      match v1Check c d id (val * mul) s with
      | some (st, n) => s.refuse c st n
      | none =>
        let es := nativeEntries d id (val * mul)
        if d.attr = .live then doWriteLive c es s else v1Staged c es s

/-! Events (R73 to R75, R399). -/

/-- EVENT_READ (R77). -/
def doEventRead (c : Ctx) (max : Nat) (s : State) : State :=
  if max = 0 || 63 < max then s.refuse c St.OUT_OF_RANGE 0
  else
    let l := s.host.events.take max
    s.okReply c ([byte l.length, 0] ++ leBytes 2 s.host.events.length ++ l.flatMap Event.bytes)

/-- The number of entries that the acknowledgement of the entry at index i removes: a FLEET_ORIGIN entry goes with the entry it names
(R75, R399). -/
def ackCount (l : List Event) (i : Nat) : Nat :=
  match l[i]? with
  | some e => if e.code = Ev.FLEET_ORIGIN then i + 2 else i + 1
  | none => i + 1

/-- EVENTS_LOST is queued with the count of dropped events when none is left in the queue, and counting restarts (R74). -/
def tellLost (s : State) : State :=
  if s.host.lost = 0 || s.host.events.any (fun e => e.code == Ev.EVENTS_LOST) then s
  else
    (s.drawn 1).modHost fun h => { h with
      events := h.events ++ [⟨Ev.EVENTS_LOST, h.evSeq, s.fleetTime, h.lost % 2 ^ 32⟩], evSeq := (h.evSeq + 1) % 65536, lost := 0 }

/-- EVENT_ACK (R74, R75). A refused acknowledgement queues no EVENTS_LOST (DESIGN CHOICE, log 67). -/
def doEventAck (c : Ctx) (seq : Nat) (s : State) : State :=
  match s.host.events.findIdx? fun e => e.seq == seq with
  | none => s.refuse c St.OUT_OF_RANGE 0
  | some i =>
    let s := tellLost (s.modHost fun h => { h with events := h.events.drop (ackCount h.events i) })
    s.okReply c (leBytes 2 s.host.events.length)

/-! Results (R45, R46, R396). -/

/-- The gathering of an operation whose records are still held (R45, R396). -/
def snapOf (s : State) (num : Nat) : Option SnapRun := (s.fleet.snap.toList ++ s.fleet.snapHeld).find? fun g => g.num == num

/-- The gathering g in place of the one of its operation. -/
def putSnap (g : SnapRun) (s : State) : State :=
  s.modFleet fun f => { f with
    snap := f.snap.map fun h => if h.num = g.num then g else h
    snapHeld := f.snapHeld.map fun h => if h.num = g.num then g else h }

/-- The fetch of the records of a FLEET_SNAPSHOT: its window begins at the records already freed; beyond a full window a fetch frees every
record below its OFFSET (R396). -/
def fetchSnap (c : Ctx) (g : SnapRun) (off : Nat) (s : State) : State :=
  let base := 128 * g.gone.length
  let top := base + 128 * g.recs.length
  let full : Bool := snapRoom s.fleet ≤ g.recs.length
  if off < base then s.refuse c St.OUT_OF_RANGE 2
  else if off < top || (off = top && !full) then
    s.okReply c (((g.recs.flatMap (·.2)).drop (off - base)).take 1024)
  else if !full then s.refuse c St.OUT_OF_RANGE 2
  else (putSnap { g with gone := g.gone ++ g.recs.map (·.1), recs := [] } s).okReply c []

/-- RESULT_FETCH: the opcode of the operation with a payload of OPNUM and OFFSET (R45, R49). -/
def doFetch (c : Ctx) (num off : Nat) (s : State) : State :=
  match s.host.results.find? fun r => r.num == num && r.opc == c.opc with
  | none => s.refuse c St.OUT_OF_RANGE 0
  | some r =>
    if r.lost then s.refuse c St.INTERNAL 3
    else match (if c.opc = 0x71 then snapOf s num else none) with
    | some g => fetchSnap c g off s
    | none => if r.bytes.length < off then s.refuse c St.OUT_OF_RANGE 2 else s.okReply c ((r.bytes.drop off).take 1024)

/-- RESULT_EXPIRY (R45): a result, or the mark of an operation that a restart ended, leaves the store 10 s after OP_COMPLETE. -/
def execResultExpiry (opnum : Nat) (s : State) : Out :=
  .next (match s.host.results.find? fun r => r.num == opnum && decide (r.until_ ≤ s.age) with
  | some r =>
    let s := s.modHost fun h => { h with results := h.results.filter fun x => x != r }
    if r.opc = 0x71 then
      s.modFleet fun f => { f with snap := f.snap.filter fun g => g.num ≠ opnum, snapHeld := f.snapHeld.filter fun g => g.num ≠ opnum }
    else s
  | none => s)

/-! Calibration (R140 to R149, R154, R155). -/

/-- n / d to the nearest whole number; a tie, whose rounding no rule states, takes either neighbour (free). -/
def roundR (n d : Int) : Int := if 2 * (n % d) = d then divR n d else (2 * n + d) / (2 * d)

/-- A 16-bit signed field; a value outside it is open. -/
def fitS16 (v : Int) : Nat := if -32768 ≤ v && v ≤ 32767 then ofS 16 v else ofS 16 (Config.openResult 16 v)

/-- The flags byte of the pattern record of channel c. -/
def patFlags (s : State) (c : Nat) : Nat := let p := s.params.pattern.getD c {}; b2n p.present + 2 * b2n (p.present && p.crcOk)

/-- The newest journal record of channel c. -/
def newestRec (s : State) (c : Nat) : Option JRec := s.flash.journal.reverse.find? fun r => r.chan == c

/-- The coefficient block of channel c in a layer (R140). -/
def calBlock (s : State) (c layer : Nat) : List Byte :=
  let p := s.params.pattern.getD c {}
  let b := (altOf s c).getD []
  if layer = 0 then leBytes 2 (ofS 16 p.off) ++ leBytes 2 (ofS 16 p.gain) ++ [byte (ofS 8 p.tc), byte (patFlags s c)] ++ leBytes 2 0 ++
    leBytes 4 p.stamp ++ leBytes 4 0
  else if layer = 1 then
    let fl := match newestRec s c with | some r => 1 + 2 * b2n r.crcOk | none => 0
    leBytes 2 (fld b 2 2) ++ leBytes 2 (fld b 4 2) ++ [0, byte fl] ++ leBytes 2 (fld b 6 2) ++ leBytes 4 (fld b 8 4) ++ leBytes 4 0
  else
    leBytes 2 (fitS16 (offEff s c)) ++ leBytes 2 (fitS16 (roundR (gEff s c - 2 ^ 36) (2 ^ 18))) ++
    [byte (ofS 8 p.tc), byte (patFlags s c + 4 * b2n (altOf s c).isSome)] ++ leBytes 2 (fld b 6 2) ++ leBytes 4 (fld b 8 4) ++
    leBytes 4 (if c < 56 then par s gSNS c SNS.SCALE else 0)

/-- The 784 bytes of the selvedge record in OTP; a blank one reads 0xFF. -/
def selvBytes (s : State) : List Byte := s.otp.selv ++ rep (784 - s.otp.selv.length) 0xFF

/-- CAL_READ (R140). -/
def doCalRead (c : Ctx) (chan layer : Nat) (s : State) : State :=
  if chan = 0xFE then s.okReply c (selvBytes s)
  else if !chanPresent s chan then s.refuse c St.OUT_OF_RANGE 0
  else if 2 < layer then s.refuse c St.OUT_OF_RANGE 1
  else s.okReply c (calBlock s chan layer)

/-- SCALE times G_eff with a new A_GAIN lies outside the scale window of channel c (R144). -/
def scaleOut (s : State) (c : Nat) (again : Int) : Bool :=
  let v : Int := parI s gSNS c SNS.SCALE * gainProd (patternOf s c).gain again * 10000
  let n : Int := (selvScale s c : Int) * 2 ^ 36
  v < n * (10000 - selvTol s c) || n * (10000 + selvTol s c) < v

/-- The controller, lane and sequencer states in which a channel may not be altered (R143). -/
def alterLocked (s : State) (c : Nat) : Bool :=
  s.ctl.state == .halt ||
  ((c ≤ 17 || 40 ≤ c) && (List.range (nLn s)).any fun n => (s.lane n).st != .off) ||
  (26 ≤ c && c ≤ 33 && s.jobs.rails.st != .idle)

/-- CAL_ALTER (R142 to R145, R85). A REMOVE carries no coefficients, so the windows of R144 are not tested (DESIGN CHOICE, log 69).
The scale window is tested before the offset window, and DETAIL of their SELVEDGE is the byte of the coefficient in the command, 6 for
A_GAIN and 4 for A_OFFSET (DESIGN CHOICE, log 107). -/
def doCalAlter (c : Ctx) (chan : Nat) (b : List Byte) (s : State) : State :=
  let remove := bit (fld b 0 1) 0
  if 56 ≤ chan || !chanPresent s chan then s.refuse c St.OUT_OF_RANGE 0
  else if !remove && (altGain b < -13107 || 13107 < altGain b) then s.refuse c St.OUT_OF_RANGE 6
  else if !remove && selvOk s && scaleOut s chan (altGain b) then s.refuse c St.SELVEDGE 6
  else if !remove && selvOk s && 16 * selvOffMax s chan < absN (altOff b) then s.refuse c St.SELVEDGE 4
  else if s.opHeld 0x31 chan then s.refuse c St.BUSY 5
  else if alterLocked s chan then s.refuse c St.LOCKED 2
  else s.startOp c chan [] b

/-- CAL_ALTER with CHAN 0xFE: the selvedge record (R149). -/
def doCalSelvedge (c : Ctx) (r : List Byte) (s : State) : State :=
  if fld r 0 2 ≠ 0x5E1D then s.refuse c St.OUT_OF_RANGE 2
  else if fld r 2 1 ≠ 1 then s.refuse c St.OUT_OF_RANGE 4
  else if crc32 (r.take 780) ≠ fld r 780 4 then s.refuse c St.OUT_OF_RANGE 782
  else if fld s.otp.selv 3 1 = 1 then s.refuse c St.READ_ONLY 0
  else if s.opHeld 0x31 0xFE then s.refuse c St.BUSY 5
  else if s.ctl.state ≠ .standby then s.refuse c St.LOCKED 2
  else s.startOp c 0xFE [] r

/-- The journal after compaction: the newest valid record of each channel, in their order (R146). -/
def compacted (j : List JRec) : List JRec :=
  j.filter fun r => r.crcOk && !(j.any fun q => q.chan == r.chan && q.crcOk && decide (r.seq < q.seq))

/-- A record appended to the journal, which is compacted first when its 1,024 records are used (R145, R146). -/
def journalAdd (j : List JRec) (chan : Nat) (b : List Byte) : List JRec :=
  let j := if 1024 ≤ j.length then compacted j else j
  j ++ [⟨chan, b, (match j.getLast? with | some r => r.seq + 1 | none => 0), true⟩]

/-- CAL_ALTER_COMPLETE (R145, R149): the record is written and the coefficients go to the bank loader, in force on frame F + 2; a failed
write ends the operation. A selvedge record goes into OTP. -/
def execCalAlterComplete (opnum : Nat) (ok : Bool) (s : State) : Out :=
  .next (match s.opRun 0x31 opnum with
  | none => s
  | some o =>
    if !(s.live && s.coreRuns) || s.host.altJobs.any (fun a => a.2.2.2 == opnum) then s
    else if !ok then s.endOp 0x31 opnum St.INTERNAL
    else if o.res = 0xFE then ({ s with otp := { s.otp with selv := o.data } }).endOp 0x31 opnum St.OK
    else
      let s := s.modFlash fun f => { f with journal := journalAdd f.journal o.res o.data }
      let b := if bit (fld o.data 0 1) 0 then none else some o.data
      s.modHost fun h => { h with altJobs := h.altJobs ++ [(o.res, b, s.swapFrame + 2, opnum)] })

/-- CAL_MEASURE (R85, R122, R147). Channel 56, which R147 gives no codes, is refused (DESIGN CHOICE, log 70). -/
def doCalMeasure (c : Ctx) (chan log2n : Nat) (s : State) : State :=
  if 56 ≤ chan || !chanPresent s chan then s.refuse c St.OUT_OF_RANGE 0
  else if 12 < log2n then s.refuse c St.OUT_OF_RANGE 1
  else if s.opHeld 0x32 chan then s.refuse c St.BUSY 5
  else if 8 ≤ s.resultsHeld then s.refuse c St.BUSY 7
  else
    let num := nextOp s.host.opNum
    let s := if chan < 40 then s.modSense fun x => { x with reqs := x.reqs ++ [⟨5, chan, 2 ^ log2n, num, false, planAge c s⟩] } else s
    s.startOp c chan [log2n] []

/-- A converted code as CAL_MEASURE takes it: the raw code, and offset binary for a phase-current channel (R147). -/
def measCode (chan : Nat) (code : Int) : Nat := (if 40 ≤ chan then clampI 0 4095 (code + 2048) else clampI 0 65535 code).toNat

/-- The result of CAL_MEASURE over codes: MEAN in 2^-16 LSB, MIN, MAX, N (R147). -/
def measured (codes : List Nat) : List Byte :=
  leBytes 4 (codes.foldl (· + ·) 0 * 65536 / codes.length) ++ leBytes 2 (codes.foldl min 65535) ++ leBytes 2 (codes.foldl max 0) ++
  leBytes 2 codes.length

/-- CAL_MEASURE_COMPLETE (R147): 2^LOG2N conversions have been granted and converted. -/
def execCalMeasureComplete (opnum : Nat) (codes : List Int) (s : State) : Out :=
  .next (match s.opRun 0x32 opnum with
  | none => s
  | some o =>
    if s.coreRuns && s.live && codes.length = 2 ^ o.args.getD 0 0 && !s.jobs.sense.reqs.any (fun r => r.cls == 5 && r.who == opnum) then
      (s.keepResult 0x32 opnum (measured (codes.map (measCode o.res)))).endOp 0x32 opnum St.OK
    else s)

/-- Every tide-table entry is cancelled as LAUNCH_CANCEL would (R154); a fleet entry too near to be cancelled in the fleet leaves this unit's
table. -/
def cancelAll (s : State) : State :=
  s.host.tide.foldl (fun s t =>
    if t.scope = 1 && !cutOff s && s.frame + leadMin s ≤ t.frame then sendCancel t.lid s
    else if t.scope = 1 then cancelLaunches (fun u => u.lid = t.lid) 1 s
    else dropLaunch t.lid s) s

/-- Steps 1 and 2 of R154: every tide-table entry cancelled, every staging set emptied. -/
def restoreClear (s : State) : State :=
  cancelAll (s.modHost fun h => { h with sets := h.sets.map fun (k : StageSet) => { k with entries := [] } })

/-- RESTORE_FACTORY, steps 1 and 2 (R78, R154). -/
def doRestoreFactory (c : Ctx) (confirm : Nat) (s : State) : State :=
  if confirm ≠ 0x7E57 then s.refuse c St.OUT_OF_RANGE 0
  else if s.ctl.state ≠ .standby then s.refuse c St.LOCKED 2
  else (restoreClear s).startOp c 0 [] []

/-- CORE_RESTARTED (R48, R49): the core accepts packets again; CORE_RESTARTED, then OP_COMPLETE for each ended operation, whose fetch
answers INTERNAL for 10 s. A RESTORE_FACTORY that still runs is run again from its first step. -/
def execCoreRestarted (s : State) : Out :=
  .next (if s.live && !s.ctl.coreUp && s.ctl.state ≠ .boot && s.ctl.state ≠ .moored then
    let e := s.host.ended
    let s := (s.modCtl fun c => { c with coreUp := true }).raise Ev.CORE_RESTARTED s.host.discTags
    let s := s.raiseAll (e.map fun o => (Ev.OP_COMPLETE, opArg o.2.2 o.2.1 o.1))
    let s := s.modHost fun h => { h with
      ended := [], discTags := 0
      results := h.results ++ (e.filter fun o => hasResult o.2.1).map fun o => ⟨o.1, o.2.1, [], true, s.age + 1000000⟩ }
    if s.host.ops.any fun o => o.opc == 0x38 then restoreClear s else s
  else s)

/-- RESTORE_FACTORY_COMPLETE (R154, R155): the journal is erased, the default configuration is written to flash and handed to the bank
loader, in force on frame F + 2. -/
def execRestoreFactoryComplete (opnum : Nat) (s : State) : Out :=
  .next (match s.opRun 0x38 opnum with
  | none => s
  | some _ =>
    if !(s.live && s.coreRuns) || s.host.restoreJob.isSome then s
    else
      let n := s.flash.journal.length
      let s := s.modFlash fun f => { f with journal := [], cfg := stagedWords (factoryConfig s) }
      s.modHost fun h => { h with dirty := false, cfgAt := some s.age, restoreJob := some (s.swapFrame + 2, opnum, n) })

/-! Phases and their ledger (R83, R196, R197, R241 to R244). -/

/-- PH_REINSTATE (R83, R187, R197): the phase is SHED from the next frame. -/
def doPhReinstate (c : Ctx) (x : Nat) (s : State) : State :=
  if nPh s ≤ x then s.refuse c St.OUT_OF_RANGE 0
  else if (s.phase x).st = .worn then s.refuse c St.LOCKED 5
  else if (s.phase x).st ≠ .retired then s.refuse c St.OUT_OF_RANGE 0
  else (s.modPhase x fun p => { p with nextSt := some .shed }).okReply c []

/-- LEDGER_READ (R77, R242, R243). -/
def doLedgerRead (c : Ctx) (x : Nat) (s : State) : State :=
  if nPh s ≤ x then s.refuse c St.OUT_OF_RANGE 0
  else
    let l := s.led x
    s.okReply c (l.bins.flatMap (leBytes 4) ++ leBytes 4 l.onTime ++ leBytes 8 l.energy ++
      [byte (satN 255 (countOf (fun t => decide (s.jobs.sched.clock < t + day)) l.retired)), byte (b2n l.worn)])

/-- LEDGER_CLEAR_WORN (R83, R187, R196): the mark goes, in flash too, and the phase is RETIRED from the next frame. -/
def doLedgerClearWorn (c : Ctx) (x : Nat) (s : State) : State :=
  if nPh s ≤ x || (s.phase x).st ≠ .worn then s.refuse c St.OUT_OF_RANGE 0
  else
    let s := (s.modPhase x fun p => { p with nextSt := some .retired }).modLed x fun l => { l with worn := false, isRet := true }
    (s.modFlash fun f => { f with worn := f.worn.set x false }).okReply c []

/-! Ports (R85, R360). -/

/-- PORT_CMD (R77, R85, R360). -/
def doPortCmd (c : Ctx) (p act arg : Nat) (s : State) : State :=
  if nPp s ≤ p then s.refuse c St.OUT_OF_RANGE 0
  else if 5 < act then s.refuse c St.OUT_OF_RANGE 1
  else if arg ≠ 0 then s.refuse c St.OUT_OF_RANGE 2
  else if s.opHeld 0x60 p then s.refuse c St.BUSY 5
  else if !portCmdOk s p act then s.refuse c St.LOCKED 2
  else portCmdStart p act (nextOp s.host.opNum) (s.startOp c p [act] [])

/-! MOOR and RESET_DEVICE (R9, R11, R78). -/

/-- MOOR (R11): the reply is sent, then the sequence begins. -/
def doMoor (c : Ctx) (confirm : Nat) (s : State) : State :=
  if confirm ≠ 0x4D52 then s.refuse c St.OUT_OF_RANGE 0
  else if s.ctl.state = .halt then s.refuse c St.LOCKED 2
  else (s.okReply c []).modCtl fun k => { k with mooring := true }

/-- RESET_DEVICE (R9): the reply is sent, then the reset follows. -/
def doResetDevice (c : Ctx) (confirm : Nat) (s : State) : State :=
  if confirm ≠ 0x5253 then s.refuse c St.OUT_OF_RANGE 0
  else (s.okReply c []).modCtl fun k => { k with resetReq := some 3 }

/-! The fleet (R80, R85, R393 to R396). -/

/-- FLEET_BARRIER (R395): the unit arrives; a barrier of the same number that a restart left goes on under the new operation (R49). -/
def doFleetBarrier (c : Ctx) (b timeout : Nat) (s : State) : State :=
  if timeout = 0 then s.refuse c St.OUT_OF_RANGE 2
  else if cutOff s then s.refuse c St.ISLANDED 0
  else if s.opHeld 0x72 0 then s.refuse c St.BUSY 5
  else
    let num := nextOp s.host.opNum
    let s := s.startOp c 0 [b] []
    barrierStep (s.modFleet fun f => { f with bars := f.bars.filter (fun x => x.1 ≠ b) ++ [(b, num, 0, timeout)] })

/-- The frame of a FLEET_SNAPSHOT: FRAME 0 stands for the earliest frame allowed (R396). -/
def snapFrame (frame scope : Nat) (s : State) : Nat :=
  if frame = 0 then s.frame + (if scope = 1 then leadMin s else 2) else frame

/-- A gathering of a frame begins under an operation; records of the same frame that wait in staging stay (R49, R396). The gathering
before it stays as long as its result is held (R45). -/
def gather (num fr : Nat) (s : State) : State :=
  let kept : List SnapRun := s.fleet.snap.toList.filter fun g => s.host.results.any fun r => r.num == g.num && r.opc == 0x71 && !r.lost
  ownSnap (s.modFleet fun f => { f with
    snapHeld := f.snapHeld ++ kept
    snap := some (match f.snap with
      | some g => if g.frame = fr then { g with num := num, age := 0 } else ⟨num, fr, [], [], 0⟩
      | none => ⟨num, fr, [], [], 0⟩) })

/-- FLEET_SNAPSHOT (R80, R85, R396). -/
def doFleetSnapshot (c : Ctx) (frame scope : Nat) (s : State) : State :=
  let fr := snapFrame frame scope s
  let lead := if scope = 1 then leadMin s else 2
  let have_ := (assocGet s.fleet.snaps fr).isSome || (match s.fleet.snap with | some g => g.frame == fr | none => false)
  let num := nextOp s.host.opNum
  if lastFrame < frame then s.refuse c St.OUT_OF_RANGE 0
  else if 1 < scope then s.refuse c St.OUT_OF_RANGE 8
  else if scope = 1 && cutOff s then s.refuse c St.ISLANDED 0
  else if s.opHeld 0x71 0 then s.refuse c St.BUSY 5
  else if 8 ≤ s.resultsHeld then s.refuse c St.BUSY 7
  else if have_ then
    let s := gather num fr (s.startOp c 0 [scope] [])
    if scope = 1 then originate Eli.SNAP_REQ (leBytes 8 fr) (fun t => t) s else s
  else if fr < s.frame + lead then s.refuse c St.LAUNCH_TOO_LATE lead
  else if 16 ≤ s.host.tide.length then s.refuse c St.TIDE_FULL 0
  else
    let s := gather num fr (s.startOp c 0 [scope] [])
    if scope = 1 then originate Eli.SNAP_REQ (leBytes 8 fr) (fun t => t) (sendLaunch 1 0 0 fr s).2
    else (addLocal 1 0 0 fr s).2

/-! Expiries (R47, R53). -/

/-- The number under which SIMPLE_OP_ABANDON and REPLY_DISCARD name a command: its TAG, or 48 plus its transport in version-1 framing. -/
def tagNo (tr : Transport) (tag : Option Nat) : Nat := tag.getD (48 + trNum tr)

/-- SIMPLE_OP_ABANDON (R47): a simple operation without a reply after 1 s replies INTERNAL with detail 1; what it waited for goes on without
its reply. -/
def execSimpleOpAbandon (tag : Nat) (s : State) : Out :=
  .next (match s.host.flights.find? fun f => !f.done && tagNo f.tr f.tag == tag && decide (f.since + 100000 ≤ s.age) with
  | some f =>
    if !(s.coreRuns && s.live) then s else
    let s := match s.host.fresh.find? fun g => g.tr == f.tr && g.tag == f.tag with | some g => freshGone g s | none => s
    let s := s.modHost fun h => { h with stitches := h.stitches.map fun (x : Stitch) => if x.owes = some (f.tr, f.tag) then { x with owes := none } else x }
    flushInner (s.refuse (lateCtx f.tr f.tag f.opc) St.INTERNAL 1)
  | none => s)

/-- REPLY_DISCARD (R47): a reply left undelivered for 10 s goes, and its tag is free. -/
def execReplyDiscard (tag : Nat) (s : State) : Out :=
  .next ([Transport.spi, .i2c, .can].foldl (fun s tr =>
    match (s.link tr).replies.find? fun r => tagNo tr r.tag == tag && elapsed s r.since 1000000 with
    | some r =>
      let s := s.modLink tr fun l => { l with replies := l.replies.filter fun x => x != r }
      s.modHost fun h => { h with flights := freeTag h.flights tr r }
    | none => s) s)

/-- PRIV_IDLE_TIMEOUT (R53): SEC.PRIV_IDLE seconds without an accepted command on a transport. -/
def execPrivIdleTimeout (tr : Transport) (s : State) : Out :=
  .next (if tr ≠ .fleet && elapsed s (s.link tr).lastCmd (100000 * par s gSEC 0 SEC.PRIV_IDLE) then s.dropPriv tr else s)

end Sys2Proof.Machine
end

