-- ==== Sys2Proof/Machine/HostCmd.lean ====
section
/-! DEFINITION. The command core (02_host_commands R40 to R58, R77): the checks of R42 in their order, one command of the opcode table
after another with its version, privilege, layout and body, and the packets that arrive from another unit (10_fleet_bus R393). -/

namespace Sys2Proof.Machine

/-- A command as its packet gives it: opcode, lowest host version, minimum privilege, LEN, whether LEN fits the layout (in version-1
framing or in tagged framing), and what it does (R42, R77). -/
structure Cmd where
  opc  : Nat
  ver  : Nat
  priv : Nat
  len  : Nat
  fits : Bool → Bool
  body : Ctx → State → State

/-! The gate (R42, R43, R58). -/

/-- The command core takes packets: it is up, not halted by a debugger (R447), and no reset, clock or power action holds it (R48). -/
def accepts (s : State) : Bool := s.coreRuns && !s.ctl.resetLow && !s.ctl.clockLost && !s.ctl.powerFail

/-- The level of HRDY (R36, R48): the receive buffer can take one packet of the maximum length whenever the command core takes packets,
since every packet is taken at once; low in reset, MOORED and BOOT (R553) and while the core restarts. -/
def hrdy (s : State) : Bool := accepts s

/-- The core logic is clocked and out of reset. -/
def powered (s : State) : Bool := s.ctl.state != .moored && !s.ctl.resetLow && !s.ctl.clockLost && !s.ctl.powerFail

/-- A packet that is not taken: SPI counts every write begun while HRDY is low (R36), CAN FD counts a packet while the core restarts (R48);
I2C does not acknowledge. -/
def dropPacket (tr : Transport) (s : State) : State :=
  if powered s && (tr == .spi || (tr == .can && s.live && !s.ctl.coreUp && s.ctl.state ≠ .boot)) then
    s.modHost fun h => { h with drops := incSat 32 h.drops }
  else s

/-- The transport uses untagged framing (R55); the recovery loader never does (R495). -/
def untagged (s : State) (tr : Transport) : Bool := (s.link tr).ver = 1 && !s.ctl.loader

/-- A reply that answers a packet refused at steps 1 to 3 of R42: it occupies no tag. -/
def State.refuseEarly (s : State) (tr : Transport) (tag : Option Nat) (status detail : Nat) : State :=
  s.pushReply tr { tag := tag, status := status, pay := leBytes 2 detail, ready := 0, owns := false, can := none, since := s.age }

/-- Step 3 of R42: the tag space, or the one command of version-1 framing. The host transports share the tags; the inner commands of the
fleet have tags of their own. DETAIL of OUT_OF_RANGE for a TAG above 47 is 1, the offset of TAG in the packet (DESIGN CHOICE, log 64). -/
def tagCheck (s : State) (tr : Transport) (tag : Option Nat) : Option (Nat × Nat) :=
  let mine := s.host.flights.filter fun f => (f.tr == .fleet) == (tr == .fleet)
  match tag with
  | none => if mine.any (fun f => f.tr == tr) then some (St.BUSY, 4) else none
  | some t =>
    if 47 < t then some (St.OUT_OF_RANGE, 1)
    else if 48 ≤ countOf (fun f => f.tag.isSome) mine then some (St.BUSY, 1)
    else if mine.any (fun f => f.tag == some t) then some (St.TAG_BUSY, t)
    else none

/-- The opcodes of version-1 framing (R58). -/
def v1Opcode (o : Nat) : Bool := [0x01, 0x02, 0x10, 0x15, 0x20, 0x28, 0x29, 0x7E, 0x7F].contains o

/-- The opcodes of the recovery loader (R495). -/
def loaderOpcode (o : Nat) : Bool := [0x01, 0x02, 0x49, 0x4A, 0x50, 0x51, 0x52, 0x7F].contains o

/-- Step 4 of R42: the opcode is known where it arrives (R58, R393, R495). -/
def opcodeKnown (s : State) (tr : Transport) (o : Nat) : Bool :=
  (!untagged s tr || v1Opcode o) && (!s.ctl.loader || loaderOpcode o) && (tr != .fleet || !(o = 0x70 || o = 0x71 || o = 0x72))

/-- Steps 4 to 9 of R42 on an accepted command. -/
def runCmd (c : Ctx) (k : Option Cmd) (len : Nat) (s : State) : State :=
  let bytes := len + (if c.tag.isSome then 6 else 5)
  match k with
  | none => s.refuse c St.BAD_OPCODE c.opc
  | some k =>
    if !opcodeKnown s c.tr c.opc then s.refuse c St.BAD_OPCODE c.opc
    else if (s.link c.tr).ver < k.ver then s.refuse c St.VERSION (topVer s)
    else if (s.link c.tr).priv < k.priv then s.refuse c St.LOCKED 1
    else if !k.fits c.tag.isNone then s.refuse c St.BAD_LEN bytes
    else k.body c s

/-- A command whose LEN and CRC hold (steps 1 and 2 of R42) arrives: the tag space, then the command; from here on its tag is in flight
(R43). -/
def arrive (tr : Transport) (tag : Option Nat) (cyc opc len : Nat) (k : Option Cmd) (s : State) : State :=
  match tagCheck s tr tag with
  | some (st, d) => s.refuseEarly tr tag st d
  | none =>
    let s := s.modHost fun h => { h with flights := h.flights ++ [⟨tr, tag, opc, s.age, false⟩] }
    runCmd ⟨tr, tag, cyc, opc⟩ k len (s.modLink tr fun l => { l with lastCmd := s.age })

/-- A command of the table under a header: what the host sends as one packet with that opcode, tag and payload. On an untagged transport
the packet carries no tag (R58). -/
def hostCmd (h : Hdr) (k : Cmd) (s : State) : Out :=
  .next (
    if !accepts s then dropPacket h.tr s
    else
      let tag := if untagged s h.tr then none else some h.tag
      if 1024 < k.len then s.refuseEarly h.tr tag St.BAD_LEN (k.len + (if tag.isSome then 6 else 5))
      else arrive h.tr tag h.cyc k.opc k.len (some k) s)

/-! The commands of R77 but for those of the fleet. -/

/-- A command whose layout has one fixed LEN. -/
def fixed (opc ver priv len : Nat) (body : Ctx → State → State) : Cmd := ⟨opc, ver, priv, len, fun _ => true, body⟩

def cmdHello (lo hi : Nat) : Cmd := fixed 0x01 1 0 2 fun c s => doHello c lo hi s
def cmdGetInfo : Cmd := fixed 0x02 1 0 0 doGetInfo
/-- PARAM_READ; in version-1 framing its payload is NUM alone (R58). -/
def cmdParamRead (flags : Nat) (ids : List Nat) : Cmd :=
  ⟨0x10, 1, 0, 2 + 2 * ids.length, fun v1 => !v1 || (ids.length = 1 && ids.all (· < 256)),
    fun c s => if c.tag.isNone then doV1Read c (ids.headD 0) s else doParamRead c flags ids s⟩
def cmdBaste (set : Nat) (es : List Entry) : Cmd := fixed 0x11 2 1 (2 + 4 * es.length) fun c s => doBaste c set es s
def cmdStitch (set frame : Nat) : Cmd := fixed 0x12 2 1 12 fun c s => doStitch c set frame s
def cmdStitchLaunch (set flags frame : Nat) : Cmd := fixed 0x12 3 1 12 fun c s => doStitchLaunch c set flags frame s
def cmdUnpick (set : Nat) : Cmd := fixed 0x13 2 1 1 fun c s => doUnpick c set s
def cmdReadBlock (first n source : Nat) : Cmd := fixed 0x14 2 0 5 fun c s => doParamReadBlock c first n source s
/-- PARAM_WRITE_LIVE; in version-1 framing its payload is NUM and VALUE (R58). -/
def cmdWriteLive (es : List Entry) : Cmd :=
  ⟨0x15, 1, 1, 2 + 4 * es.length, fun v1 => !v1 || (es.length = 1 && es.all (fun e => e.id < 256)),
    fun c s => if c.tag.isNone then (match es.head? with | some e => doV1Write c e.id e.val.toNat s | none => s.refuse c St.BAD_LEN 5)
               else doWriteLive c es s⟩
/-- A live write of one parameter by its ID, which version-1 framing cannot spell. -/
def cmdLive (es : List Entry) : Cmd := ⟨0x15, 1, 1, 2 + 4 * es.length, fun v1 => !v1, fun c s => doWriteLive c es s⟩
/-- A read of words by their IDs, which version-1 framing cannot spell. -/
def cmdRead (ids : List Nat) : Cmd := ⟨0x10, 1, 0, 2 + 2 * ids.length, fun v1 => !v1, fun c s => doParamRead c 0 ids s⟩
/-- LAUNCH_AT; with SCOPE FLEET it takes INSTALL (R77). -/
def cmdLaunchAt (action scope flags arg frame : Nat) : Cmd :=
  fixed 0x18 3 (if scope = 1 then 2 else 1) 12 fun c s => doLaunchAt c action scope flags arg frame s
def cmdLaunchCancel (lid : Nat) : Cmd := fixed 0x19 3 1 2 fun c s => doLaunchCancel c lid s
def cmdTideRead : Cmd := fixed 0x1A 3 0 0 doTideRead
def cmdWdServe (key : Nat) : Cmd := fixed 0x20 1 1 2 fun c s => doWdServe c key s
def cmdWdCheckin (task : Nat) : Cmd := fixed 0x21 2 1 1 fun c s => doWdCheckin c task s
def cmdEventRead (max : Nat) : Cmd := fixed 0x28 1 0 1 fun c s => doEventRead c max s
def cmdEventAck (seq : Nat) : Cmd := fixed 0x29 1 1 2 fun c s => doEventAck c seq s
def cmdCalRead (chan layer : Nat) : Cmd := fixed 0x30 2 0 2 fun c s => doCalRead c chan layer s
/-- CAL_ALTER; with CHAN 0xFE it takes OEM and the 784-byte record (R142, R149). -/
def cmdCalAlter (chan : Nat) (b : List Byte) : Cmd :=
  if chan = 0xFE then ⟨0x31, 2, 3, 2 + b.length, fun _ => b.length = 784, fun c s => doCalSelvedge c b s⟩
  else ⟨0x31, 2, 2, 2 + b.length, fun _ => b.length = 12, fun c s => doCalAlter c chan b s⟩
def cmdCalMeasure (chan log2n : Nat) : Cmd := fixed 0x32 2 2 4 fun c s => doCalMeasure c chan log2n s
def cmdRestoreFactory (confirm : Nat) : Cmd := fixed 0x38 2 3 2 fun c s => doRestoreFactory c confirm s
def cmdRecRead (index : Nat) : Cmd := fixed 0x40 2 0 1 fun c s => doRecRead c index s
def cmdTelRead (chan window flags : Nat) : Cmd := fixed 0x41 2 0 4 fun c s => doTelRead c chan window flags s
def cmdTraceArm (trig pre code mask : Nat) : Cmd := fixed 0x42 2 1 8 fun c s => doTraceArm c trig pre code mask s
def cmdTraceRead (offset n : Nat) : Cmd := fixed 0x43 2 0 6 fun c s => doTraceRead c offset n s
def cmdAttest (nonce : List Byte) (kind : Nat) : Cmd := fixed 0x48 3 0 20 fun c s => doAttest c nonce kind s
def cmdAuthChallenge (level : Nat) : Cmd := fixed 0x49 2 0 2 fun c s => doAuthChallenge c level s
def cmdAuthResponse (level keyslot : Nat) (sig : List Byte) : Cmd := fixed 0x4A 2 0 66 fun c s => doAuthResponse c level keyslot sig s
def cmdFwBegin (size version : Nat) : Cmd := fixed 0x50 2 3 8 fun c s => doFwBegin c size version s
def cmdFwChunk (offset : Nat) (d : List Byte) : Cmd :=
  ⟨0x51, 2, 3, 4 + d.length, fun _ => 1 ≤ d.length && d.length ≤ 1020, fun c s => doFwChunk c offset d s⟩
def cmdFwCommit : Cmd := fixed 0x52 2 3 0 doFwCommit
def cmdPhReinstate (x : Nat) : Cmd := fixed 0x58 2 2 1 fun c s => doPhReinstate c x s
def cmdLedgerRead (x : Nat) : Cmd := fixed 0x59 2 0 1 fun c s => doLedgerRead c x s
def cmdLedgerClearWorn (x : Nat) : Cmd := fixed 0x5A 2 3 1 fun c s => doLedgerClearWorn c x s
def cmdPortCmd (p act arg : Nat) : Cmd := fixed 0x60 2 1 4 fun c s => doPortCmd c p act arg s
def cmdMoor (confirm : Nat) : Cmd := fixed 0x7E 1 1 2 fun c s => doMoor c confirm s
def cmdResetDevice (confirm : Nat) : Cmd := fixed 0x7F 1 1 2 fun c s => doResetDevice c confirm s
/-- The fetch of a result: the version and privilege are those of its opcode (R45, R77). -/
def cmdFetch (opc ver priv num offset : Nat) : Cmd := fixed opc ver priv 6 fun c s => doFetch c num offset s

/-- The entries of a payload: N x (ID u16, VALUE u16). -/
def parseEntries : List Byte → List Entry
  | a :: b :: c :: d :: l => ⟨a.toNat + 256 * b.toNat, BitVec.ofNat 16 (c.toNat + 256 * d.toNat)⟩ :: parseEntries l
  | _ => []

/-- The IDs of a payload: N x ID u16. -/
def parseIds : List Byte → List Nat
  | a :: b :: l => (a.toNat + 256 * b.toNat) :: parseIds l
  | _ => []

/-- A command that spells an opcode with a LEN that may not fit its layout. -/
def Cmd.at_ (k : Cmd) (len : Nat) (ok : Bool) : Cmd := { k with len := len, fits := fun v1 => ok && k.fits v1 }

/-- A command that spells an opcode of one fixed LEN. -/
def Cmd.sized (k : Cmd) (len : Nat) : Cmd := k.at_ len (len = k.len)

/-- Version-1 payloads (R58): NUM of PARAM_READ, NUM and VALUE of PARAM_WRITE_LIVE. -/
def parseV1 (opc : Nat) (p : List Byte) : Option Cmd :=
  if opc = 0x10 then some ((cmdParamRead 0 [fld p 0 1]).at_ p.length (p.length = 1))
  else if opc = 0x15 then some ((cmdWriteLive [⟨fld p 0 1, BitVec.ofNat 16 (fld p 1 2)⟩]).at_ p.length (p.length = 3))
  else none

/-- The command that an opcode and a payload spell; none for an unknown opcode (R77). The opcodes of the fleet are left to parseCmd. -/
def parseCore (v1 : Bool) (opc : Nat) (p : List Byte) : Option Cmd :=
  let n := p.length
  let fetch : Bool := n = 6
  match (if v1 then parseV1 opc p else none) with
  | some k => some k
  | none =>
  match opc with
  | 0x01 => some ((cmdHello (fld p 0 1) (fld p 1 1)).sized n)
  | 0x02 => some (cmdGetInfo.sized n)
  | 0x10 => some ((cmdParamRead (fld p 0 1) (parseIds (p.drop 2))).at_ n (2 ≤ n && n = 2 + 2 * fld p 1 1))
  | 0x11 => some ((cmdBaste (fld p 0 1) (parseEntries (p.drop 2))).at_ n (2 ≤ n && n = 2 + 4 * fld p 1 1))
  | 0x12 =>
    -- MODE 1 takes version 3; a MODE outside 0 and 1 is out of range behind SET (R42, R57)
    if fld p 1 1 = 1 then some ((cmdStitchLaunch (fld p 0 1) (fld p 2 1) (fld p 4 8)).sized n)
    else if fld p 1 1 = 0 then some ((cmdStitch (fld p 0 1) (fld p 4 8)).sized n)
    else some ((fixed 0x12 2 1 12 fun c s => s.refuse c St.OUT_OF_RANGE (if 3 < fld p 0 1 then 0 else 1)).sized n)
  | 0x13 => some ((cmdUnpick (fld p 0 1)).sized n)
  | 0x14 => some ((cmdReadBlock (fld p 0 2) (fld p 2 2) (fld p 4 1)).sized n)
  | 0x15 => some ((cmdWriteLive (parseEntries (p.drop 2))).at_ n (2 ≤ n && n = 2 + 4 * fld p 0 1))
  | 0x18 => some ((cmdLaunchAt (fld p 0 1) (fld p 1 1) (fld p 2 1) (fld p 3 1) (fld p 4 8)).sized n)
  | 0x19 => some ((cmdLaunchCancel (fld p 0 2)).sized n)
  | 0x1A => some (cmdTideRead.sized n)
  | 0x20 => some ((cmdWdServe (fld p 0 2)).sized n)
  | 0x21 => some ((cmdWdCheckin (fld p 0 1)).sized n)
  | 0x28 => some ((cmdEventRead (fld p 0 1)).sized n)
  | 0x29 => some ((cmdEventAck (fld p 0 2)).sized n)
  | 0x30 => some ((cmdCalRead (fld p 0 1) (fld p 1 1)).sized n)
  | 0x31 => some ((cmdCalAlter (fld p 0 1) (p.drop 2)).at_ n (2 ≤ n))
  | 0x32 => some (if fetch then cmdFetch 0x32 2 2 (fld p 0 2) (fld p 2 4) else (cmdCalMeasure (fld p 0 1) (fld p 1 1)).sized n)
  | 0x38 => some ((cmdRestoreFactory (fld p 0 2)).sized n)
  | 0x40 => some ((cmdRecRead (fld p 0 1)).sized n)
  | 0x41 => some ((cmdTelRead (fld p 0 1) (fld p 1 1) (fld p 2 1)).sized n)
  | 0x42 => some ((cmdTraceArm (fld p 0 1) (fld p 1 1) (fld p 2 2) (fld p 4 4)).sized n)
  | 0x43 => some ((cmdTraceRead (fld p 0 4) (fld p 4 2)).sized n)
  | 0x48 => some (if fetch then cmdFetch 0x48 3 0 (fld p 0 2) (fld p 2 4) else (cmdAttest (p.take 16) (fld p 16 1)).sized n)
  | 0x49 => some ((cmdAuthChallenge (fld p 0 1)).sized n)
  | 0x4A => some ((cmdAuthResponse (fld p 0 1) (fld p 1 1) (p.drop 2)).sized n)
  | 0x50 => some ((cmdFwBegin (fld p 0 4) (fld p 4 4)).sized n)
  | 0x51 => some ((cmdFwChunk (fld p 0 4) (p.drop 4)).at_ n (5 ≤ n))
  | 0x52 => some (cmdFwCommit.sized n)
  | 0x58 => some ((cmdPhReinstate (fld p 0 1)).sized n)
  | 0x59 => some ((cmdLedgerRead (fld p 0 1)).sized n)
  | 0x5A => some ((cmdLedgerClearWorn (fld p 0 1)).sized n)
  | 0x60 => some ((cmdPortCmd (fld p 0 1) (fld p 1 1) (fld p 2 2)).sized n)
  | 0x7E => some ((cmdMoor (fld p 0 2)).sized n)
  | 0x7F => some ((cmdResetDevice (fld p 0 2)).sized n)
  | _ => none

/-! Packets (R40 to R42, R58). -/

/-- The TAG byte of a packet as received; where the packet ends before it, the byte is open. -/
def pktTag (bs : List Byte) : Nat := match bs[1]? with | some b => b.toNat | none => (Config.openByte 4 bs.length).toNat

/-- A packet received on a transport, its commands read by parse: steps 1 and 2 of R42, then the command. -/
def packetIn (parse : Bool → Nat → List Byte → Option Cmd) (tr : Transport) (bs : List Byte) (cyc : Nat) (s : State) : State :=
  if !accepts s then dropPacket tr s
  else
    let v1 := untagged s tr
    let hd := if v1 then 3 else 4
    let len := fld bs (hd - 2) 2
    let tag := if v1 then none else some (pktTag bs)
    if bs.length ≠ hd + len + 2 || 1024 < len then s.refuseEarly tr tag St.BAD_LEN (bs.length % 65536)
    else
      let crc := fld bs (hd + len) 2
      if crc16 (bs.take (hd + len)) ≠ crc then s.refuseEarly tr tag St.BAD_CRC crc
      else arrive tr tag cyc (fld bs 0 1) len (parse v1 (fld bs 0 1) ((bs.drop hd).take len)) s

/-! The commands of the fleet (R393 to R396). -/

/-- The inner packet of a CMD is handled at this unit, with the lowest of the levels, and its reply goes to the origin (R393). -/
def innerRun (origin opid priv : Nat) (bcast : Bool) (pkt : List Byte) (cyc : Nat) (s : State) : State :=
  if !accepts s then s
  else
    let s := s.modLink .fleet fun l => { l with priv := min priv (fle s FLE.REMOTE_PRIV) }
    let s := s.modFleet fun f => { f with inner := f.inner ++ [⟨origin, opid, some (pktTag pkt), none, bcast⟩] }
    flushInner (packetIn parseCore .fleet pkt cyc s)

/-- The handling of the inner packet of a CMD frame's payload (R393). -/
def cmdRun (pl : List Byte) (bcast : Bool) (s : State) : State :=
  innerRun (fld pl 0 2) (fld pl 2 2) (fld pl 4 1) bcast (pl.drop 6) 0 s

/-- FLEET_CMD_FRAME (R393): a CMD frame arrives. -/
def execFleetCmdFrame (q : Nat) (f : FHdr) (pl : List Byte) (s : State) : Out :=
  .next (cmdIn q f pl (cmdRun pl (f.route != 3)) s)

/-- The inner packet is a RESET_DEVICE with its CONFIRM, which every member carries out (R394). -/
def isReset (inner : List Byte) : Bool :=
  inner.length = 8 && fld inner 0 1 = 0x7F && fld inner 2 2 = 2 && fld inner 4 2 = 0x5253 && crc16 (inner.take 6) = fld inner 6 2

/-- FLEET_CMD (R80, R46, R393, R394). -/
def doFleetCmd (c : Ctx) (target : Nat) (inner : List Byte) (s : State) : State :=
  let opid := (s.fleet.opid + 1) % 65536
  let pay := leBytes 2 s.fleet.addr ++ leBytes 2 opid ++ [byte (s.link c.tr).priv, 0] ++ inner
  if 1024 ≤ target && target ≠ 0xFFFF then s.refuse c St.OUT_OF_RANGE 0
  else if cutOff s then s.refuse c St.ISLANDED 0
  else if 8 ≤ s.resultsHeld then s.refuse c St.BUSY 7
  else
    let s := (s.startOp c 0 [opid, target] []).modFleet fun f => { f with opid := opid }
    if target = 0xFFFF then
      (if isReset inner then originate Eli.RESET [] (fun s => s.modCtl fun k => { k with resetReq := some 4 }) s
       else originate Eli.CMD pay (cmdRun pay true) s)
    else if target = s.fleet.addr then cmdRun pay false s
    else cmdOnward (routePort s target) ⟨Eli.CMD, 3, 0, unitVer s, s.fleet.addr, target, pay⟩ s

def cmdFleetCmd (target : Nat) (inner : List Byte) : Cmd :=
  ⟨0x70, 3, 2, 4 + inner.length, fun _ => 6 ≤ inner.length && inner.length ≤ 1018, fun c s => doFleetCmd c target inner s⟩
def cmdFleetSnapshot (frame scope : Nat) : Cmd := fixed 0x71 3 1 12 fun c s => doFleetSnapshot c frame scope s
def cmdFleetBarrier (b timeout : Nat) : Cmd := fixed 0x72 3 1 4 fun c s => doFleetBarrier c b timeout s

/-- The command that an opcode and a payload spell on a host transport (R77). -/
def parseCmd (v1 : Bool) (opc : Nat) (p : List Byte) : Option Cmd :=
  let n := p.length
  let fetch : Bool := n = 6
  match opc with
  | 0x70 => some (if fetch then cmdFetch 0x70 3 2 (fld p 0 2) (fld p 2 4) else (cmdFleetCmd (fld p 0 2) (p.drop 4)).at_ n (4 ≤ n))
  | 0x71 => some (if fetch then cmdFetch 0x71 3 1 (fld p 0 2) (fld p 2 4) else (cmdFleetSnapshot (fld p 0 8) (fld p 8 1)).sized n)
  | 0x72 => some ((cmdFleetBarrier (fld p 0 2) (fld p 2 2)).sized n)
  | _ => parseCore v1 opc p

/-- RESULT_FETCH under an opcode: its payload of six bytes spells what the opcode makes of it (R45). -/
def fetchCmd (opc num offset : Nat) : Cmd :=
  match parseCmd false opc (leBytes 2 num ++ leBytes 4 offset) with
  | some k => k
  | none => fixed opc 1 0 6 fun c s => s.refuse c St.BAD_OPCODE c.opc

/-! The host commands of the table, row by row. -/

def execHello (h : Hdr) (minVer maxVer : Nat) (s : State) : Out := hostCmd h (cmdHello minVer maxVer) s
def execGetInfo (h : Hdr) (s : State) : Out := hostCmd h cmdGetInfo s
def execParamRead (h : Hdr) (flags : Nat) (ids : List Nat) (s : State) : Out := hostCmd h (cmdParamRead flags ids) s
def execParamBaste (h : Hdr) (set : Nat) (entries : List Entry) (s : State) : Out := hostCmd h (cmdBaste set entries) s
/-- PARAM_STITCH with MODE 0; FLAGS has no meaning there. -/
def execParamStitch (h : Hdr) (set _flags frame : Nat) (s : State) : Out := hostCmd h (cmdStitch set frame) s
def execParamStitchLaunch (h : Hdr) (set flags frame : Nat) (s : State) : Out := hostCmd h (cmdStitchLaunch set flags frame) s
def execParamUnpick (h : Hdr) (set : Nat) (s : State) : Out := hostCmd h (cmdUnpick set) s
def execParamReadBlock (h : Hdr) (first n source : Nat) (s : State) : Out := hostCmd h (cmdReadBlock first n source) s
def execParamWriteLive (h : Hdr) (entries : List Entry) (s : State) : Out := hostCmd h (cmdWriteLive entries) s
def execLaunchAtStitch (h : Hdr) (scope flags arg frame : Nat) (s : State) : Out := hostCmd h (cmdLaunchAt 0 scope flags arg frame) s
def execLaunchAtSnapshot (h : Hdr) (scope flags arg frame : Nat) (s : State) : Out := hostCmd h (cmdLaunchAt 1 scope flags arg frame) s
def execLaunchCancel (h : Hdr) (id : Nat) (s : State) : Out := hostCmd h (cmdLaunchCancel id) s
def execTideRead (h : Hdr) (s : State) : Out := hostCmd h cmdTideRead s
def execWdServeKeyA (h : Hdr) (s : State) : Out := hostCmd h (cmdWdServe 0x51A7) s
def execWdServeKeyB (h : Hdr) (s : State) : Out := hostCmd h (cmdWdServe 0xE48C) s
def execWdServeOtherKey (h : Hdr) (key : Nat) (s : State) : Out := hostCmd h (cmdWdServe key) s
def execWdCheckin (h : Hdr) (task : Nat) (s : State) : Out := hostCmd h (cmdWdCheckin task) s
def execEventRead (h : Hdr) (max : Nat) (s : State) : Out := hostCmd h (cmdEventRead max) s
def execEventAck (h : Hdr) (seq : Nat) (s : State) : Out := hostCmd h (cmdEventAck seq) s
def execResultFetch (h : Hdr) (opc opnum offset : Nat) (s : State) : Out := hostCmd h (fetchCmd opc opnum offset) s
def execCalRead (h : Hdr) (chan layer : Nat) (s : State) : Out := hostCmd h (cmdCalRead chan layer) s
def execCalAlter (h : Hdr) (chan : Nat) (block : List Byte) (s : State) : Out := hostCmd h (cmdCalAlter chan block) s
def execCalAlterSelvedge (h : Hdr) (rec : List Byte) (s : State) : Out := hostCmd h (cmdCalAlter 0xFE rec) s
def execCalMeasure (h : Hdr) (chan log2n : Nat) (s : State) : Out := hostCmd h (cmdCalMeasure chan log2n) s
def execRestoreFactory (h : Hdr) (confirm : Nat) (s : State) : Out := hostCmd h (cmdRestoreFactory confirm) s
def execRecRead (h : Hdr) (index : Nat) (s : State) : Out := hostCmd h (cmdRecRead index) s
def execTelRead (h : Hdr) (chan window flags : Nat) (s : State) : Out := hostCmd h (cmdTelRead chan window flags) s
def execTraceArm (h : Hdr) (trig pre code chmask : Nat) (s : State) : Out := hostCmd h (cmdTraceArm trig pre code chmask) s
def execTraceRead (h : Hdr) (offset n : Nat) (s : State) : Out := hostCmd h (cmdTraceRead offset n) s
def execAttest (h : Hdr) (nonce : List Byte) (kind : Nat) (s : State) : Out := hostCmd h (cmdAttest nonce kind) s
def execAuthChallenge (h : Hdr) (level : Nat) (s : State) : Out := hostCmd h (cmdAuthChallenge level) s
def execAuthResponse (h : Hdr) (level keyslot : Nat) (sig : List Byte) (s : State) : Out := hostCmd h (cmdAuthResponse level keyslot sig) s
def execFwBegin (h : Hdr) (size version : Nat) (s : State) : Out := hostCmd h (cmdFwBegin size version) s
def execFwChunk (h : Hdr) (offset : Nat) (data : List Byte) (s : State) : Out := hostCmd h (cmdFwChunk offset data) s
def execFwCommit (h : Hdr) (s : State) : Out := hostCmd h cmdFwCommit s
def execPhReinstate (h : Hdr) (phase : Nat) (s : State) : Out := hostCmd h (cmdPhReinstate phase) s
def execLedgerRead (h : Hdr) (phase : Nat) (s : State) : Out := hostCmd h (cmdLedgerRead phase) s
def execLedgerClearWorn (h : Hdr) (phase : Nat) (s : State) : Out := hostCmd h (cmdLedgerClearWorn phase) s
def execPortCmdSoftReset (h : Hdr) (port arg : Nat) (s : State) : Out := hostCmd h (cmdPortCmd port 0 arg) s
def execPortCmdHardReset (h : Hdr) (port arg : Nat) (s : State) : Out := hostCmd h (cmdPortCmd port 1 arg) s
def execPortCmdRoleSwap (h : Hdr) (port arg : Nat) (s : State) : Out := hostCmd h (cmdPortCmd port 2 arg) s
def execPortCmdRenegotiate (h : Hdr) (port arg : Nat) (s : State) : Out := hostCmd h (cmdPortCmd port 3 arg) s
def execPortCmdCableQuery (h : Hdr) (port arg : Nat) (s : State) : Out := hostCmd h (cmdPortCmd port 4 arg) s
def execPortCmdAuthenticate (h : Hdr) (port arg : Nat) (s : State) : Out := hostCmd h (cmdPortCmd port 5 arg) s
def execFleetCmd (h : Hdr) (target : Nat) (inner : List Byte) (s : State) : Out := hostCmd h (cmdFleetCmd target inner) s
def execFleetCmdReset (h : Hdr) (inner : List Byte) (s : State) : Out := hostCmd h (cmdFleetCmd 0xFFFF inner) s
def execFleetSnapshot (h : Hdr) (frame scope : Nat) (s : State) : Out := hostCmd h (cmdFleetSnapshot frame scope) s
def execFleetBarrier (h : Hdr) (barrier timeout : Nat) (s : State) : Out := hostCmd h (cmdFleetBarrier barrier timeout) s
def execMoor (h : Hdr) (confirm : Nat) (s : State) : Out := hostCmd h (cmdMoor confirm) s
def execResetDevice (h : Hdr) (confirm : Nat) (s : State) : Out := hostCmd h (cmdResetDevice confirm) s

/-! Live writes with a row of their own, and the reads of timer registers. -/

/-- The entries that write the parameter with index k at instance i of group g, low word first (R16). -/
def liveEntries (g i k words v : Nat) : List Entry := ((toWords words v).zipIdx (pid g i k)).map fun e => ⟨e.2, e.1⟩

/-- A live write of one parameter. -/
def liveRow (h : Hdr) (g i k words v : Nat) (s : State) : Out := hostCmd h (cmdLive (liveEntries g i k words v)) s

def execHostFramingWrite (h : Hdr) (v : Word) (s : State) : Out := liveRow h gGLB 0 GLB.HOST_FRAMING 1 v.toNat s
def execMapClearWrite (h : Hdr) (n : Nat) (v : Word) (s : State) : Out := liveRow h gSCH n SCH.MAP_CLEAR 1 v.toNat s
def execMapSelWrite (h : Hdr) (v : Word) (s : State) : Out := liveRow h gSCH 48 SCH.MAP_SEL 1 v.toNat s
def execHaltReqWrite (h : Hdr) (v : Word) (s : State) : Out := liveRow h gSAF 0 SAF.HALT_REQ 1 v.toNat s
def execFaultForceWrite (h : Hdr) (v : Word) (s : State) : Out := liveRow h gSAF 0 SAF.FAULT_FORCE 1 v.toNat s
def execSwlinkReqWrite (h : Hdr) (v : Word) (s : State) : Out := liveRow h gSRC 4 SRC.SWLINK_REQ 1 v.toNat s
def execHolderReqWrite (h : Hdr) (v : Word) (s : State) : Out := liveRow h gSRC 4 SRC.HOLDER_REQ 1 v.toNat s
def execLownForceWrite (h : Hdr) (v : Word) (s : State) : Out := liveRow h gSRC 4 SRC.LOWN_FORCE 1 v.toNat s
def execStorageReqWrite (h : Hdr) (p : Nat) (v : Word) (s : State) : Out := liveRow h gCHG p CHG.STORAGE_REQ 1 v.toNat s
def execTopoffReqWrite (h : Hdr) (p : Nat) (v : Word) (s : State) : Out := liveRow h gCHG p CHG.TOPOFF_REQ 1 v.toNat s
def execCaptestReqWrite (h : Hdr) (p : Nat) (v : Word) (s : State) : Out := liveRow h gCHG p CHG.CAPTEST_REQ 1 v.toNat s
def execExtDemandWrite (h : Hdr) (v : BitVec 32) (s : State) : Out := liveRow h gCHG 16 CHG.EXT_DEMAND 2 v.toNat s
/-- SEQ[9 + k].FORCE, the live write that asserts RSTOUTk (R425). -/
def execRstoutForceWrite (h : Hdr) (k : Nat) (v : Word) (s : State) : Out := liveRow h gSEQ (9 + k) SEQ.FORCE 1 v.toNat s
def execStepMaxClear (h : Hdr) (j : Nat) (v : Word) (s : State) : Out := liveRow h gFRM j FRM.STEP_MAX 1 v.toNat s
def execKeySelWrite (h : Hdr) (v : Word) (s : State) : Out := liveRow h gSEC 0 SEC.KEY_SEL 1 v.toNat s
def execDebugEnWrite (h : Hdr) (v : Word) (s : State) : Out := liveRow h gSEC 0 SEC.DEBUG_EN 1 v.toNat s
def execTmrStartWrite (h : Hdr) (mask : Word) (s : State) : Out := liveRow h gTMR 16 TMR.START 1 mask.toNat s
def execTmrStopWrite (h : Hdr) (mask : Word) (s : State) : Out := liveRow h gTMR 16 TMR.STOP 1 mask.toNat s
/-- TMR[16].START_FRAME and START_AT in one command (R506). -/
def execTmrStartAtWrite (h : Hdr) (frame : BitVec 64) (mask : Word) (s : State) : Out :=
  hostCmd h (cmdLive (liveEntries gTMR 16 TMR.START_AT 1 mask.toNat ++ liveEntries gTMR 16 TMR.START_FRAME 4 frame.toNat)) s
def execTmrCountWrite (h : Hdr) (t : Nat) (v : BitVec 32) (s : State) : Out := liveRow h gTMR t TMR.COUNT 2 v.toNat s
/-- The index of a shadow register (R503). -/
def shadowIdx : TmrShadow → Nat
  | .period => TMR.PERIOD | .cmpA => TMR.CMP_A | .cmpB => TMR.CMP_B
def execTmrShadowWrite (h : Hdr) (t : Nat) (which : TmrShadow) (v : BitVec 32) (s : State) : Out :=
  liveRow h gTMR t (shadowIdx which) 2 v.toNat s
/-- PARAM_READ of the low word of TMR[t].FIFO (R511). -/
def execTmrFifoRead (h : Hdr) (t : Nat) (s : State) : Out := hostCmd h (cmdRead [pid gTMR t TMR.FIFO]) s
/-- PARAM_READ of the low word of TMR[t].COUNT or CAPTURE (R515). -/
def execTmrCountRead (h : Hdr) (t : Nat) (capture : Bool) (s : State) : Out :=
  hostCmd h (cmdRead [pid gTMR t (if capture then TMR.CAPTURE else TMR.COUNT)]) s

/-! The transports (R33 to R39). -/

/-- SPI_MISO is driven while SPI_CSn is low: it is high-impedance in reset, in BOOT up to the configuration load save under the recovery
loader, and in MOORED (R449, R495, R553). -/
def misoDriven (s : State) : Bool := powered s && (s.ctl.state != .boot || s.ctl.loader)

/-- n bytes of 0xFF on SPI_MISO, or nothing where it is not driven. -/
def misoIdle (n : Nat) (s : State) : List Byte := if misoDriven s then rep n 0xFF else []

/-- SPI_WRITE_TRANSACTION (R34, R36): one packet behind the direction byte 0xC1; 0xFF is driven on SPI_MISO while it is clocked in. -/
def execSpiWriteTransaction (bytes : List Byte) (cyc : Nat) (s : State) : Out :=
  .next ((packetIn parseCmd .spi bytes cyc s).modLink .spi fun l => { l with lastOut := misoIdle bytes.length s })

/-- The controller's 7-bit I2C address (R37). -/
def i2cAddr (s : State) : Nat := if s.ident.strap then 0x4D else 0x4C

/-- I2C_WRITE_TRANSFER (R37): one packet. -/
def execI2cWriteTransfer (bytes : List Byte) (cyc : Nat) (s : State) : Out := .next (packetIn parseCmd .i2c bytes cyc s)

/-- n bytes clocked out of the oldest completed reply; the reply leaves, and its tag is free, once its last CRC byte has been clocked out
(R34, R35, R43). Beyond that byte 0xFF is clocked out, and the next reply that waits begins with the next transaction (DESIGN CHOICE,
log 65). -/
def clockOut (tr : Transport) (n : Nat) (s : State) : State :=
  match (s.link tr).replies.find? fun r => r.ready ≤ s.frame with
  | none => s.modLink tr fun l => { l with lastOut := rep n 0xFF }
  | some r =>
    let b := r.bytes
    let s := s.modLink tr fun l => { l with lastOut := b.take n ++ rep (n - b.length) 0xFF }
    if n < b.length then s
    else
      let s := s.modLink tr fun l => { l with replies := l.replies.erase r }
      s.modHost fun h => { h with flights := freeTag h.flights tr r }

/-- SPI_READ_TRANSACTION (R34, R35, R48): n bytes are clocked out behind the direction byte 0xC2; while no packet is taken, all are 0xFF. -/
def execSpiReadTransaction (n : Nat) (s : State) : Out :=
  .next (if accepts s then clockOut .spi n s else s.modLink .spi fun l => { l with lastOut := misoIdle n s })

/-- I2C_READ_TRANSFER (R37, R48): the address is not acknowledged while no packet is taken. -/
def execI2cReadTransfer (n : Nat) (s : State) : Out :=
  .next (if accepts s then clockOut .i2c n s else s.modLink .i2c fun l => { l with lastOut := [] })

/-- SPI_OTHER_DIRECTION_BYTE (R34): ignored. -/
def execSpiOtherDirectionByte (_dir : Byte) (_bytes : List Byte) (s : State) : Out := .next s

/-- A partial CAN FD packet is discarded and counted (R39). -/
def dropPartial (s : State) : State := s.modHost fun h => { h with partial_ := none, drops := incSat 32 h.drops }

/-- A segment reaches reassembly (R38, R39): kind, SEQ, bytes. A segment that continues nothing is out of sequence. -/
def segmentIn (kind seq : Nat) (d : List Byte) (cyc : Nat) (s : State) : State :=
  let late (a : Nat) : Bool := decide (a + 1000 < s.age)
  match kind with
  | 0 =>
    let s := if s.host.partial_.isSome then dropPartial s else s
    if seq ≠ 0 then dropPartial s else packetIn parseCmd .can d cyc s
  | 1 =>
    let s := if s.host.partial_.isSome then dropPartial s else s
    if seq ≠ 0 then dropPartial s else s.modHost fun h => { h with partial_ := some (0, d, s.age) }
  | _ =>
    match s.host.partial_ with
    | none => dropPartial s
    | some (q, bs, a) =>
      if late a || seq ≠ (q + 1) % 64 then dropPartial s
      else if kind = 2 then s.modHost fun h => { h with partial_ := some (seq, bs ++ d, s.age) }
      else packetIn parseCmd .can (bs ++ d) cyc (s.modHost fun h => { h with partial_ := none })

/-- CAN_FD_SEGMENT (R38, R39, R48): the first byte is the segment header; while no packet is taken, a packet counts with its last
segment. -/
def execCanFdSegment (seg : List Byte) (cyc : Nat) (s : State) : Out :=
  .next (match seg with
  | [] => s
  | hd :: d =>
    let kind := hd.toNat / 64
    if !accepts s then (if kind = 0 || kind = 3 then dropPacket .can s else s)
    else segmentIn kind (hd.toNat % 64) d cyc s)

/-- CAN_CLASSIC_FRAME (R39): ignored and counted, whether or not the command core takes packets; the bus is served from the end of BOOT on,
and by the recovery loader (R6). -/
def execCanClassicFrame (s : State) : Out :=
  .next (if powered s && (s.ctl.state ≠ .boot || s.ctl.loader) then s.modHost fun h => { h with classic := incSat 32 h.classic } else s)

/-- CAN_SEGMENT_GAP_TIMEOUT (R39): a gap of more than 10 ms discards the partial packet. -/
def execCanSegmentGapTimeout (s : State) : Out :=
  .next (match s.host.partial_ with
  | some (_, _, a) => if a + 1000 < s.age then dropPartial s else s
  | none => s)

/-- CAN_BUS_OFF_RECOVERY (R39): automatic; the replies that wait are sent. -/
def execCanBusOffRecovery (s : State) : Out := .next s.flushCan

end Sys2Proof.Machine
end

