-- ==== Sys2Proof/Machine/Balls.lean ====
section
/-! DEFINITION. The digital balls (16_balls_electrical R550, R553) and the boundary-scan port (R556): what each ball drives, what stands on
it, and the instruction that puts the scan cells in place of the functional levels. -/

namespace Sys2Proof.Machine

/-- A ball of the boundary-scan chain: every digital ball but those of the JTAG port and TEST (R550, R556). -/
inductive Ball where
  | pwmh (x : Nat) | pwml (x : Nat) | lnen (n : Nat) | swin (n : Nat) | swpp (p : Nat) | swlink | seqen (n : Nat)
  | rstout (k : Nat) | faultn | eventn | linklown | hrdy | spiMiso | canTx | tmrio (q : Nat) | i2cScl | i2cSda
  | spiCsn | spiSck | spiMosi | canRx | i2cAddr | resetn | safen | wake
deriving DecidableEq, Repr

/-- The chain. No rule gives its order: that of the groups of R550 (DESIGN CHOICE, log 116). -/
def scanChain : List Ball :=
  (List.range 16).map Ball.pwmh ++ (List.range 16).map Ball.pwml ++ (List.range 6).map Ball.lnen ++ (List.range 4).map Ball.swin ++
  (List.range 4).map Ball.swpp ++ [.swlink] ++ (List.range 8).map Ball.seqen ++ (List.range 8).map Ball.tmrio ++
  [.spiCsn, .spiSck, .spiMosi, .hrdy, .spiMiso, .i2cAddr, .i2cScl, .i2cSda, .canTx, .canRx] ++
  [.faultn, .eventn, .linklown, .resetn, .safen, .wake] ++ (List.range 4).map Ball.rstout

/-- The balls that the boundary-scan port moves only while SAFEn is low (R556). -/
def Ball.guarded : Ball → Bool
  | .pwmh _ | .pwml _ | .lnen _ | .swin _ | .swpp _ | .swlink | .seqen _ => true
  | _ => false

/-- Both outputs of phase x are low; else their levels at an instant of the carrier cycle are open. -/
def pwmLow (s : State) (x : Nat) : Bool := (s.mod x).forcedLow || (s.mod x).linkLow || !(s.mod x).switching

/-- The core clock runs, and with it the oscillator on XI and XO (R452, R553). -/
def oscRuns (s : State) : Bool := s.ctl.state != .moored && !(s.ctl.powerFail && s.ctl.pfDone)

/-- The functional level of a ball; none where the block does not drive it (R553). SPI_MISO is driven only while SPI_CSn is low; I2C is
never stretched (R37); CAN_TX is recessive while no frame goes out. -/
def ballDrive (s : State) : Ball → Option Bool
  | .pwmh x => some (!pwmLow s x && Config.pinLevel (s.freeCtr + x))
  | .pwml x => some (!pwmLow s x && Config.pinLevel (s.freeCtr + 16 + x))
  | .lnen n => some (s.outs.lnen.getD n false)
  | .swin n => some (s.outs.swin.getD n false)
  | .swpp p => some (s.outs.swpp.getD p false)
  | .swlink => some s.outs.swlink
  | .seqen n => some (s.outs.seqen.getD n false)
  | .rstout k => if rstDriven s then some (rstLevel s k) else none
  | .faultn => if faultLow s && s.ctl.state != .moored then some false else none
  | .eventn => if eventLow s then some false else none
  | .linklown => some (!s.outs.lown)
  | .hrdy => some (hrdy s)
  | .canTx => some (s.host.canOut.isEmpty || Config.pinLevel (s.freeCtr + 32))
  | .tmrio q => ((List.range 16).find? fun t => s.live && tmrDrives s t == some q).map (tmrOut s)
  | _ => none

/-- The place of a ball's cell in the chain. -/
def Ball.place (b : Ball) : Nat := (scanChain.findIdx? (· = b)).getD 0

/-- The boundary-scan port governs a ball: EXTEST, CLAMP or HIGHZ is in force, and of the guarded balls only while SAFEn is low (R556). -/
def scanDrives (s : State) (b : Ball) : Bool :=
  (s.outs.jtag == .extest || s.outs.jtag == .clamp || s.outs.jtag == .highz) && (!b.guarded || s.jobs.safe.safenLow)

/-- What the block drives on a ball: its functional level, or under EXTEST and CLAMP its cell, an open-drain ball only low, and under HIGHZ
nothing (R556). A ball that the block does not drive at the time keeps its direction (DESIGN CHOICE, log 116). -/
def ballOut (s : State) (b : Ball) : Option Bool :=
  if !scanDrives s b then ballDrive s b
  else if s.outs.jtag = .highz then none
  else
    let cell := s.outs.cells.getD b.place false
    if b = .faultn || b = .eventn then (if cell then none else some false) else (ballDrive s b).map fun _ => cell

/-- The level on a ball: what the block drives, else what the pins of the step have last shown, else the board's, which is open. -/
def ballLevel (s : State) (b : Ball) : Bool :=
  match ballOut s b, b with
  | some v, _ => v
  | none, .tmrio q => bit s.timers.io q
  | none, .resetn => !s.ctl.resetLow
  | none, .safen => !s.jobs.safe.safenLow
  | none, .i2cAddr => s.ident.strap
  | none, _ => Config.pinLevel (s.freeCtr + 33 + b.place)

/-- BOUNDARY_SCAN_INSTRUCTION (R556): the instruction comes into force; SAMPLE/PRELOAD and EXTEST capture the levels of the balls and load
the cells shifted in. In MOORED the port's inputs are ignored (R553). -/
def execBoundaryScanInstruction (ir : Jtag) (cells : List Bool) (s : State) : Out :=
  .next (if s.ctl.state = .moored then s else
    let s := s.modOuts fun o => { o with jtag := ir }
    if ir = .sample || ir = .extest then
      (s.modOuts fun o => { o with cells := cells, captured := scanChain.map (ballLevel s) }).drawn (33 + scanChain.length)
    else s)

/-- What IDCODE reads on the boundary-scan port (R556). -/
def idcode (s : State) : Nat := if s.ident.big then 0xB16486A7 else 0xB08246A7

/-- The register that the instruction in force puts between TDI and TDO, first bit out first: the identity code, the levels captured, or the
single bypass bit (R556; the one bit of BYPASS, CLAMP and HIGHZ is IEEE 1149.1's). TDO is high-impedance while nothing is shifted (R553). -/
def scanRegister (s : State) : List Bool :=
  match s.outs.jtag with
  | .idcode => (List.range 32).map (bit (idcode s))
  | .sample | .extest => s.outs.captured
  | _ => [false]

end Sys2Proof.Machine
end

