-- ==== Sys2Proof/Machine/Dispatch.lean ====
section
/-! DEFINITION. The one dispatch of commands to their meanings: one arm per command, one direct call each. -/

namespace Sys2Proof.Machine

def exec (i : Instr) (s : State) : Host.Outcome State Fault Refusal :=
  match i with
  | .spiWriteTransaction bytes cyc => Sys2Proof.Machine.execSpiWriteTransaction bytes cyc s
  | .spiReadTransaction n => Sys2Proof.Machine.execSpiReadTransaction n s
  | .spiOtherDirectionByte dir bytes => Sys2Proof.Machine.execSpiOtherDirectionByte dir bytes s
  | .i2cWriteTransfer bytes cyc => Sys2Proof.Machine.execI2cWriteTransfer bytes cyc s
  | .i2cReadTransfer n => Sys2Proof.Machine.execI2cReadTransfer n s
  | .canFdSegment seg cyc => Sys2Proof.Machine.execCanFdSegment seg cyc s
  | .canClassicFrame => Sys2Proof.Machine.execCanClassicFrame s
  | .canSegmentGapTimeout => Sys2Proof.Machine.execCanSegmentGapTimeout s
  | .canBusOffRecovery => Sys2Proof.Machine.execCanBusOffRecovery s
  | .hello h minVer maxVer => Sys2Proof.Machine.execHello h minVer maxVer s
  | .getInfo h => Sys2Proof.Machine.execGetInfo h s
  | .paramRead h flags ids => Sys2Proof.Machine.execParamRead h flags ids s
  | .paramBaste h set entries => Sys2Proof.Machine.execParamBaste h set entries s
  | .paramStitch h set flags frame => Sys2Proof.Machine.execParamStitch h set flags frame s
  | .paramStitchLaunch h set flags frame => Sys2Proof.Machine.execParamStitchLaunch h set flags frame s
  | .paramUnpick h set => Sys2Proof.Machine.execParamUnpick h set s
  | .paramReadBlock h first n source => Sys2Proof.Machine.execParamReadBlock h first n source s
  | .paramWriteLive h entries => Sys2Proof.Machine.execParamWriteLive h entries s
  | .launchAtStitch h scope flags arg frame => Sys2Proof.Machine.execLaunchAtStitch h scope flags arg frame s
  | .launchAtSnapshot h scope flags arg frame => Sys2Proof.Machine.execLaunchAtSnapshot h scope flags arg frame s
  | .launchCancel h id => Sys2Proof.Machine.execLaunchCancel h id s
  | .tideRead h => Sys2Proof.Machine.execTideRead h s
  | .wdServeKeyA h => Sys2Proof.Machine.execWdServeKeyA h s
  | .wdServeKeyB h => Sys2Proof.Machine.execWdServeKeyB h s
  | .wdServeOtherKey h key => Sys2Proof.Machine.execWdServeOtherKey h key s
  | .wdCheckin h task => Sys2Proof.Machine.execWdCheckin h task s
  | .eventRead h max => Sys2Proof.Machine.execEventRead h max s
  | .eventAck h seq => Sys2Proof.Machine.execEventAck h seq s
  | .resultFetch h opc opnum offset => Sys2Proof.Machine.execResultFetch h opc opnum offset s
  | .calRead h chan layer => Sys2Proof.Machine.execCalRead h chan layer s
  | .calAlter h chan block => Sys2Proof.Machine.execCalAlter h chan block s
  | .calAlterSelvedge h rec => Sys2Proof.Machine.execCalAlterSelvedge h rec s
  | .calMeasure h chan log2n => Sys2Proof.Machine.execCalMeasure h chan log2n s
  | .restoreFactory h confirm => Sys2Proof.Machine.execRestoreFactory h confirm s
  | .recRead h index => Sys2Proof.Machine.execRecRead h index s
  | .telRead h chan window flags => Sys2Proof.Machine.execTelRead h chan window flags s
  | .traceArm h trig pre code chmask => Sys2Proof.Machine.execTraceArm h trig pre code chmask s
  | .traceRead h offset n => Sys2Proof.Machine.execTraceRead h offset n s
  | .attest h nonce kind => Sys2Proof.Machine.execAttest h nonce kind s
  | .authChallenge h level => Sys2Proof.Machine.execAuthChallenge h level s
  | .authResponse h level keyslot sig => Sys2Proof.Machine.execAuthResponse h level keyslot sig s
  | .fwBegin h size version => Sys2Proof.Machine.execFwBegin h size version s
  | .fwChunk h offset data => Sys2Proof.Machine.execFwChunk h offset data s
  | .fwCommit h => Sys2Proof.Machine.execFwCommit h s
  | .phReinstate h phase => Sys2Proof.Machine.execPhReinstate h phase s
  | .ledgerRead h phase => Sys2Proof.Machine.execLedgerRead h phase s
  | .ledgerClearWorn h phase => Sys2Proof.Machine.execLedgerClearWorn h phase s
  | .portCmdSoftReset h port arg => Sys2Proof.Machine.execPortCmdSoftReset h port arg s
  | .portCmdHardReset h port arg => Sys2Proof.Machine.execPortCmdHardReset h port arg s
  | .portCmdRoleSwap h port arg => Sys2Proof.Machine.execPortCmdRoleSwap h port arg s
  | .portCmdRenegotiate h port arg => Sys2Proof.Machine.execPortCmdRenegotiate h port arg s
  | .portCmdCableQuery h port arg => Sys2Proof.Machine.execPortCmdCableQuery h port arg s
  | .portCmdAuthenticate h port arg => Sys2Proof.Machine.execPortCmdAuthenticate h port arg s
  | .fleetCmd h target inner => Sys2Proof.Machine.execFleetCmd h target inner s
  | .fleetCmdReset h inner => Sys2Proof.Machine.execFleetCmdReset h inner s
  | .fleetSnapshot h frame scope => Sys2Proof.Machine.execFleetSnapshot h frame scope s
  | .fleetBarrier h barrier timeout => Sys2Proof.Machine.execFleetBarrier h barrier timeout s
  | .moor h confirm => Sys2Proof.Machine.execMoor h confirm s
  | .resetDevice h confirm => Sys2Proof.Machine.execResetDevice h confirm s
  | .hostFramingWrite h v => Sys2Proof.Machine.execHostFramingWrite h v s
  | .mapClearWrite h n v => Sys2Proof.Machine.execMapClearWrite h n v s
  | .mapSelWrite h v => Sys2Proof.Machine.execMapSelWrite h v s
  | .haltReqWrite h v => Sys2Proof.Machine.execHaltReqWrite h v s
  | .faultForceWrite h v => Sys2Proof.Machine.execFaultForceWrite h v s
  | .swlinkReqWrite h v => Sys2Proof.Machine.execSwlinkReqWrite h v s
  | .holderReqWrite h v => Sys2Proof.Machine.execHolderReqWrite h v s
  | .lownForceWrite h v => Sys2Proof.Machine.execLownForceWrite h v s
  | .storageReqWrite h p v => Sys2Proof.Machine.execStorageReqWrite h p v s
  | .topoffReqWrite h p v => Sys2Proof.Machine.execTopoffReqWrite h p v s
  | .captestReqWrite h p v => Sys2Proof.Machine.execCaptestReqWrite h p v s
  | .extDemandWrite h v => Sys2Proof.Machine.execExtDemandWrite h v s
  | .rstoutForceWrite h k v => Sys2Proof.Machine.execRstoutForceWrite h k v s
  | .stepMaxClear h j v => Sys2Proof.Machine.execStepMaxClear h j v s
  | .keySelWrite h v => Sys2Proof.Machine.execKeySelWrite h v s
  | .debugEnWrite h v => Sys2Proof.Machine.execDebugEnWrite h v s
  | .tmrStartWrite h mask => Sys2Proof.Machine.execTmrStartWrite h mask s
  | .tmrStopWrite h mask => Sys2Proof.Machine.execTmrStopWrite h mask s
  | .tmrStartAtWrite h frame mask => Sys2Proof.Machine.execTmrStartAtWrite h frame mask s
  | .tmrCountWrite h t v => Sys2Proof.Machine.execTmrCountWrite h t v s
  | .tmrShadowWrite h t which v => Sys2Proof.Machine.execTmrShadowWrite h t which v s
  | .tmrFifoRead h t => Sys2Proof.Machine.execTmrFifoRead h t s
  | .tmrCountRead h t capture => Sys2Proof.Machine.execTmrCountRead h t capture s
  | .calAlterComplete opnum ok => Sys2Proof.Machine.execCalAlterComplete opnum ok s
  | .calMeasureComplete opnum codes => Sys2Proof.Machine.execCalMeasureComplete opnum codes s
  | .restoreFactoryComplete opnum => Sys2Proof.Machine.execRestoreFactoryComplete opnum s
  | .attestComplete opnum => Sys2Proof.Machine.execAttestComplete opnum s
  | .authResponseComplete opnum => Sys2Proof.Machine.execAuthResponseComplete opnum s
  | .authLockoutEnd tr => Sys2Proof.Machine.execAuthLockoutEnd tr s
  | .fwBeginComplete opnum => Sys2Proof.Machine.execFwBeginComplete opnum s
  | .fwChunkWritten => Sys2Proof.Machine.execFwChunkWritten s
  | .fwCommitComplete opnum flashOk => Sys2Proof.Machine.execFwCommitComplete opnum flashOk s
  | .fwSessionTimeout => Sys2Proof.Machine.execFwSessionTimeout s
  | .portCmdComplete opnum => Sys2Proof.Machine.execPortCmdComplete opnum s
  | .fleetCmdComplete opnum => Sys2Proof.Machine.execFleetCmdComplete opnum s
  | .fleetCmdMemberTimeout opnum unit => Sys2Proof.Machine.execFleetCmdMemberTimeout opnum unit s
  | .fleetSnapshotComplete opnum => Sys2Proof.Machine.execFleetSnapshotComplete opnum s
  | .snapTimeout opnum unit => Sys2Proof.Machine.execSnapTimeout opnum unit s
  | .fleetBarrierTimeout opnum => Sys2Proof.Machine.execFleetBarrierTimeout opnum s
  | .resultExpiry opnum => Sys2Proof.Machine.execResultExpiry opnum s
  | .simpleOpAbandon tag => Sys2Proof.Machine.execSimpleOpAbandon tag s
  | .replyDiscard tag => Sys2Proof.Machine.execReplyDiscard tag s
  | .privIdleTimeout tr => Sys2Proof.Machine.execPrivIdleTimeout tr s
  | .configFlashWrite => Sys2Proof.Machine.execConfigFlashWrite s
  | .keyInstallWrite ok => Sys2Proof.Machine.execKeyInstallWrite ok s
  | .frameStart inp => Sys2Proof.Machine.execFrameStart inp s
  | .stepCutOff j stage => Sys2Proof.Machine.execStepCutOff j stage s
  | .jobRecovery j => Sys2Proof.Machine.execJobRecovery j s
  | .commitPoint => Sys2Proof.Machine.execCommitPoint s
  | .stitchCheck set => Sys2Proof.Machine.execStitchCheck set s
  | .stitchApplied set => Sys2Proof.Machine.execStitchApplied set s
  | .liveWriteEffect => Sys2Proof.Machine.execLiveWriteEffect s
  | .launchCheck id => Sys2Proof.Machine.execLaunchCheck id s
  | .launchStitch id => Sys2Proof.Machine.execLaunchStitch id s
  | .launchSnapshot id => Sys2Proof.Machine.execLaunchSnapshot id s
  | .disciplineLimit => Sys2Proof.Machine.execDisciplineLimit s
  | .freshReadReply tag => Sys2Proof.Machine.execFreshReadReply tag s
  | .freshReadDeferred tag => Sys2Proof.Machine.execFreshReadDeferred tag s
  | .slotPressure => Sys2Proof.Machine.execSlotPressure s
  | .tsFault pin => Sys2Proof.Machine.execTsFault pin s
  | .tsRecovered pin => Sys2Proof.Machine.execTsRecovered pin s
  | .phasePeakLimit x peak => Sys2Proof.Machine.execPhasePeakLimit x peak s
  | .bwStop n volt => Sys2Proof.Machine.execBwStop n volt s
  | .linkOvervoltageLimit vlink => Sys2Proof.Machine.execLinkOvervoltageLimit vlink s
  | .surge n sensed => Sys2Proof.Machine.execSurge n sensed s
  | .phaseRetired x cause => Sys2Proof.Machine.execPhaseRetired x cause s
  | .phaseShedStop x current => Sys2Proof.Machine.execPhaseShedStop x current s
  | .laneQualified n => Sys2Proof.Machine.execLaneQualified n s
  | .softstartPhasesStart n => Sys2Proof.Machine.execSoftstartPhasesStart n s
  | .softstartDone n => Sys2Proof.Machine.execSoftstartDone n s
  | .softstartFailed n => Sys2Proof.Machine.execSoftstartFailed n s
  | .laneIdleOff n => Sys2Proof.Machine.execLaneIdleOff n s
  | .ratioFault n => Sys2Proof.Machine.execRatioFault n s
  | .rampdownDone n => Sys2Proof.Machine.execRampdownDone n s
  | .retryElapsed n => Sys2Proof.Machine.execRetryElapsed n s
  | .retryBackoffReset n => Sys2Proof.Machine.execRetryBackoffReset n s
  | .learningWindowClose n => Sys2Proof.Machine.execLearningWindowClose n s
  | .shedStep n => Sys2Proof.Machine.execShedStep n s
  | .rotationBegin n => Sys2Proof.Machine.execRotationBegin n s
  | .shedBlockEnd n => Sys2Proof.Machine.execShedBlockEnd n s
  | .probeStart n => Sys2Proof.Machine.execProbeStart n s
  | .probeAbandon n => Sys2Proof.Machine.execProbeAbandon n s
  | .probeEnd n => Sys2Proof.Machine.execProbeEnd n s
  | .lossmapPersist => Sys2Proof.Machine.execLossmapPersist s
  | .ledgerFlush => Sys2Proof.Machine.execLedgerFlush s
  | .ledgerRetireWrite x => Sys2Proof.Machine.execLedgerRetireWrite x s
  | .flashWriteLate which => Sys2Proof.Machine.execFlashWriteLate which s
  | .ledgerSample => Sys2Proof.Machine.execLedgerSample s
  | .sourceQualified n => Sys2Proof.Machine.execSourceQualified n s
  | .sourceConnectSettled n => Sys2Proof.Machine.execSourceConnectSettled n s
  | .sourceLoss n => Sys2Proof.Machine.execSourceLoss n s
  | .dusk n => Sys2Proof.Machine.execDusk n s
  | .mpptPeriodStep n => Sys2Proof.Machine.execMpptPeriodStep n s
  | .sweepPoint n => Sys2Proof.Machine.execSweepPoint n s
  | .sweepRepeat n => Sys2Proof.Machine.execSweepRepeat n s
  | .icsPeriodStep n => Sys2Proof.Machine.execIcsPeriodStep n s
  | .policyEvaluation => Sys2Proof.Machine.execPolicyEvaluation s
  | .electiveSeamBegin => Sys2Proof.Machine.execElectiveSeamBegin s
  | .holdFail => Sys2Proof.Machine.execHoldFail s
  | .seamSwitchSettled => Sys2Proof.Machine.execSeamSwitchSettled s
  | .seamRampEnd => Sys2Proof.Machine.execSeamRampEnd s
  | .seamTimeout => Sys2Proof.Machine.execSeamTimeout s
  | .swlinkClose => Sys2Proof.Machine.execSwlinkClose s
  | .linklownAssert => Sys2Proof.Machine.execLinklownAssert s
  | .linklownRelease => Sys2Proof.Machine.execLinklownRelease s
  | .packAttached p => Sys2Proof.Machine.execPackAttached p s
  | .packQualified p => Sys2Proof.Machine.execPackQualified p s
  | .packSwitchSettled p => Sys2Proof.Machine.execPackSwitchSettled p s
  | .prechargeDone p => Sys2Proof.Machine.execPrechargeDone p s
  | .prechargeTimeout p => Sys2Proof.Machine.execPrechargeTimeout p s
  | .ccDone p => Sys2Proof.Machine.execCcDone p s
  | .chargeTerminated p => Sys2Proof.Machine.execChargeTerminated p s
  | .chargeTimeout p => Sys2Proof.Machine.execChargeTimeout p s
  | .taperEnd p => Sys2Proof.Machine.execTaperEnd p s
  | .taperNoGrant p => Sys2Proof.Machine.execTaperNoGrant p s
  | .restEnd p => Sys2Proof.Machine.execRestEnd p s
  | .maintainRecharge p => Sys2Proof.Machine.execMaintainRecharge p s
  | .supplyEnter p => Sys2Proof.Machine.execSupplyEnter p s
  | .supplyExit p => Sys2Proof.Machine.execSupplyExit p s
  | .packRemovalCollapse p => Sys2Proof.Machine.execPackRemovalCollapse p s
  | .packHoldoffEnd p => Sys2Proof.Machine.execPackHoldoffEnd p s
  | .socAnchorOcv p => Sys2Proof.Machine.execSocAnchorOcv p s
  | .socAnchorFloor p => Sys2Proof.Machine.execSocAnchorFloor p s
  | .captestFloorReached p => Sys2Proof.Machine.execCaptestFloorReached p s
  | .captestTimeout p => Sys2Proof.Machine.execCaptestTimeout p s
  | .portAttach p => Sys2Proof.Machine.execPortAttach p s
  | .plugMeasurementDone p level => Sys2Proof.Machine.execPlugMeasurementDone p level s
  | .portDetach p => Sys2Proof.Machine.execPortDetach p s
  | .dualRoleToggle p => Sys2Proof.Machine.execDualRoleToggle p s
  | .plehalAck p pl => Sys2Proof.Machine.execPlehalAck p pl s
  | .plehalSoftReset p id => Sys2Proof.Machine.execPlehalSoftReset p id s
  | .plehalPing p id => Sys2Proof.Machine.execPlehalPing p id s
  | .plehalHello p id pl => Sys2Proof.Machine.execPlehalHello p id pl s
  | .plehalAlert p id pl => Sys2Proof.Machine.execPlehalAlert p id pl s
  | .plehalCaps p id pl => Sys2Proof.Machine.execPlehalCaps p id pl s
  | .plehalGetCaps p id => Sys2Proof.Machine.execPlehalGetCaps p id s
  | .plehalRequest p id pl => Sys2Proof.Machine.execPlehalRequest p id pl s
  | .plehalReady p id pl => Sys2Proof.Machine.execPlehalReady p id pl s
  | .plehalPackCaps p id pl => Sys2Proof.Machine.execPlehalPackCaps p id pl s
  | .plehalPackStatus p id pl => Sys2Proof.Machine.execPlehalPackStatus p id pl s
  | .plehalRoleSwap p id => Sys2Proof.Machine.execPlehalRoleSwap p id s
  | .plehalSwapOff p id => Sys2Proof.Machine.execPlehalSwapOff p id s
  | .plehalAuthCertGet p id pl => Sys2Proof.Machine.execPlehalAuthCertGet p id pl s
  | .plehalAuthCert p id pl => Sys2Proof.Machine.execPlehalAuthCert p id pl s
  | .plehalAuthChallenge p id pl => Sys2Proof.Machine.execPlehalAuthChallenge p id pl s
  | .plehalAuthSign p id pl => Sys2Proof.Machine.execPlehalAuthSign p id pl s
  | .plehalUnknownMessage p typ msg => Sys2Proof.Machine.execPlehalUnknownMessage p typ msg s
  | .hardResetMarker p => Sys2Proof.Machine.execHardResetMarker p s
  | .plehalResponseTimeout p => Sys2Proof.Machine.execPlehalResponseTimeout p s
  | .plehalTxRetry p => Sys2Proof.Machine.execPlehalTxRetry p s
  | .helloWaitTimeout p => Sys2Proof.Machine.execHelloWaitTimeout p s
  | .providerVoltageSettled p => Sys2Proof.Machine.execProviderVoltageSettled p s
  | .takerPortSettled p => Sys2Proof.Machine.execTakerPortSettled p s
  | .portVoltageLost p => Sys2Proof.Machine.execPortVoltageLost p s
  | .negotiationTimeout p => Sys2Proof.Machine.execNegotiationTimeout p s
  | .keepalivePing p => Sys2Proof.Machine.execKeepalivePing p s
  | .packStatusLate p => Sys2Proof.Machine.execPackStatusLate p s
  | .packStatusLost p => Sys2Proof.Machine.execPackStatusLost p s
  | .swapPortDischarged p => Sys2Proof.Machine.execSwapPortDischarged p s
  | .swapTimeout p => Sys2Proof.Machine.execSwapTimeout p s
  | .swapWaitRetry p => Sys2Proof.Machine.execSwapWaitRetry p s
  | .hardResetSpacing p => Sys2Proof.Machine.execHardResetSpacing p s
  | .safe0End p => Sys2Proof.Machine.execSafe0End p s
  | .partnerAuthTimeout p => Sys2Proof.Machine.execPartnerAuthTimeout p s
  | .fleetLinkUp q => Sys2Proof.Machine.execFleetLinkUp q s
  | .fleetLinkDown q => Sys2Proof.Machine.execFleetLinkDown q s
  | .fleetMarker q m => Sys2Proof.Machine.execFleetMarker q m s
  | .fleetTick q ack flags => Sys2Proof.Machine.execFleetTick q ack flags s
  | .elivoHello q f pl => Sys2Proof.Machine.execElivoHello q f pl s
  | .delayReq q f pl t2 t3 => Sys2Proof.Machine.execDelayReq q f pl t2 t3 s
  | .delayResp q f pl t4 => Sys2Proof.Machine.execDelayResp q f pl t4 s
  | .announce q f pl => Sys2Proof.Machine.execAnnounce q f pl s
  | .joinReq q f pl => Sys2Proof.Machine.execJoinReq q f pl s
  | .joinAck q f pl => Sys2Proof.Machine.execJoinAck q f pl s
  | .repair q f pl => Sys2Proof.Machine.execRepair q f pl s
  | .fleetAuthCertGet q f pl => Sys2Proof.Machine.execFleetAuthCertGet q f pl s
  | .fleetAuthCert q f pl => Sys2Proof.Machine.execFleetAuthCert q f pl s
  | .fleetAuthChallenge q f pl => Sys2Proof.Machine.execFleetAuthChallenge q f pl s
  | .fleetAuthSign q f pl => Sys2Proof.Machine.execFleetAuthSign q f pl s
  | .fleetLaunch q f pl => Sys2Proof.Machine.execFleetLaunch q f pl s
  | .fleetLaunchCancel q f pl => Sys2Proof.Machine.execFleetLaunchCancel q f pl s
  | .barrierUp q f pl => Sys2Proof.Machine.execBarrierUp q f pl s
  | .barrierRelease q f pl => Sys2Proof.Machine.execBarrierRelease q f pl s
  | .fleetReset q f => Sys2Proof.Machine.execFleetReset q f s
  | .fleetCmdFrame q f pl => Sys2Proof.Machine.execFleetCmdFrame q f pl s
  | .cmdReply q f pl => Sys2Proof.Machine.execCmdReply q f pl s
  | .cmdStatus q f pl => Sys2Proof.Machine.execCmdStatus q f pl s
  | .snapReq q f pl => Sys2Proof.Machine.execSnapReq q f pl s
  | .snapRecord q f pl => Sys2Proof.Machine.execSnapRecord q f pl s
  | .fleetEvent q f pl => Sys2Proof.Machine.execFleetEvent q f pl s
  | .fleetEventsLost q f pl => Sys2Proof.Machine.execFleetEventsLost q f pl s
  | .need q f pl => Sys2Proof.Machine.execNeed q f pl s
  | .shares q f pl => Sys2Proof.Machine.execShares q f pl s
  | .fleetUnknownFrame q typ f pl => Sys2Proof.Machine.execFleetUnknownFrame q typ f pl s
  | .rootElectionTimeout => Sys2Proof.Machine.execRootElectionTimeout s
  | .joinReqRetry => Sys2Proof.Machine.execJoinReqRetry s
  | .markersLost => Sys2Proof.Machine.execMarkersLost s
  | .islandRejoin => Sys2Proof.Machine.execIslandRejoin s
  | .electWaitExpiry => Sys2Proof.Machine.execElectWaitExpiry s
  | .announcePeriod => Sys2Proof.Machine.execAnnouncePeriod s
  | .delayPeriod t1 => Sys2Proof.Machine.execDelayPeriod t1 s
  | .lseqResend q => Sys2Proof.Machine.execLseqResend q s
  | .budgetPeriod => Sys2Proof.Machine.execBudgetPeriod s
  | .sharesEffect => Sys2Proof.Machine.execSharesEffect s
  | .fleetAuthRecheck q => Sys2Proof.Machine.execFleetAuthRecheck q s
  | .fleetAuthTimeout q => Sys2Proof.Machine.execFleetAuthTimeout q s
  | .alignedSet => Sys2Proof.Machine.execAlignedSet s
  | .railGroupStart => Sys2Proof.Machine.execRailGroupStart s
  | .railDebouncedChange n => Sys2Proof.Machine.execRailDebouncedChange n s
  | .railRunning n => Sys2Proof.Machine.execRailRunning n s
  | .railFailedUp n => Sys2Proof.Machine.execRailFailedUp n s
  | .railSlowDown n => Sys2Proof.Machine.execRailSlowDown n s
  | .railGroupStop => Sys2Proof.Machine.execRailGroupStop s
  | .seqTripRestart => Sys2Proof.Machine.execSeqTripRestart s
  | .seqTripIdle => Sys2Proof.Machine.execSeqTripIdle s
  | .minOffElapsed => Sys2Proof.Machine.execMinOffElapsed s
  | .tripCountReset => Sys2Proof.Machine.execTripCountReset s
  | .moorEnter => Sys2Proof.Machine.execMoorEnter s
  | .rstoutRelease k => Sys2Proof.Machine.execRstoutRelease k s
  | .safePulseEnd => Sys2Proof.Machine.execSafePulseEnd s
  | .safenLow => Sys2Proof.Machine.execSafenLow s
  | .safenRelease => Sys2Proof.Machine.execSafenRelease s
  | .protPortOvervoltage chan => Sys2Proof.Machine.execProtPortOvervoltage chan s
  | .protLinkOvervoltage => Sys2Proof.Machine.execProtLinkOvervoltage s
  | .protStageOvertemp pin => Sys2Proof.Machine.execProtStageOvertemp pin s
  | .protDieOvertemp => Sys2Proof.Machine.execProtDieOvertemp s
  | .protectHoldEnd kind pin => Sys2Proof.Machine.execProtectHoldEnd kind pin s
  | .wdTimeout => Sys2Proof.Machine.execWdTimeout s
  | .supervisionWatchdogExpiry => Sys2Proof.Machine.execSupervisionWatchdogExpiry s
  | .coreRestarted => Sys2Proof.Machine.execCoreRestarted s
  | .clockLoss => Sys2Proof.Machine.execClockLoss s
  | .clockRecovered => Sys2Proof.Machine.execClockRecovered s
  | .powerFailTrip => Sys2Proof.Machine.execPowerFailTrip s
  | .powerFailRecordDone => Sys2Proof.Machine.execPowerFailRecordDone s
  | .powerReturn => Sys2Proof.Machine.execPowerReturn s
  | .faultRecordWrite => Sys2Proof.Machine.execFaultRecordWrite s
  | .recordAllowanceRefill => Sys2Proof.Machine.execRecordAllowanceRefill s
  | .telWindowClose w => Sys2Proof.Machine.execTelWindowClose w s
  | .traceNowTrigger => Sys2Proof.Machine.execTraceNowTrigger s
  | .traceFull => Sys2Proof.Machine.execTraceFull s
  | .wakeFromMoored => Sys2Proof.Machine.execWakeFromMoored s
  | .powerOnReset => Sys2Proof.Machine.execPowerOnReset s
  | .resetnLow => Sys2Proof.Machine.execResetnLow s
  | .resetnRise => Sys2Proof.Machine.execResetnRise s
  | .bootRom => Sys2Proof.Machine.execBootRom s
  | .bootComplete => Sys2Proof.Machine.execBootComplete s
  | .tmrMatchA t at_ => Sys2Proof.Machine.execTmrMatchA t at_ s
  | .tmrMatchB t at_ => Sys2Proof.Machine.execTmrMatchB t at_ s
  | .tmrTurn t at_ => Sys2Proof.Machine.execTmrTurn t at_ s
  | .tmrCapture t edge => Sys2Proof.Machine.execTmrCapture t edge s
  | .tmrNamedStart => Sys2Proof.Machine.execTmrNamedStart s
  | .tmrConvResult t code cyc => Sys2Proof.Machine.execTmrConvResult t code cyc s
  | .tmrConvWithdrawn t => Sys2Proof.Machine.execTmrConvWithdrawn t s
  | .carrierCycle x c => Sys2Proof.Machine.execCarrierCycle x c s
  | .timerTick t inp => Sys2Proof.Machine.execTimerTick t inp s
  | .partnerFrameDiscarded p => Sys2Proof.Machine.execPartnerFrameDiscarded p s
  | .fleetFrameDiscarded q => Sys2Proof.Machine.execFleetFrameDiscarded q s
  | .debuggerHalt => Sys2Proof.Machine.execDebuggerHalt s
  | .debuggerRelease => Sys2Proof.Machine.execDebuggerRelease s
  | .boundaryScanInstruction ir cells => Sys2Proof.Machine.execBoundaryScanInstruction ir cells s
  | .flashWriterDone => Sys2Proof.Machine.execFlashWriterDone s

end Sys2Proof.Machine
end

