-- ==== Sys2Proof/Certificates/Slice0/Obligations.lean ====
section
/-! DEFINITION. The statements for the provers, one def Obligations.<Name> : Prop each, over the commands of spec/opcode_table.json, with
the few words they share. A command answers exec c s; t is the state it answers. -/

namespace Sys2Proof.Machine

/-- From s to t one event is raised and nothing else of the host side changes: the entry joins the queue, or is counted as lost (R73, R74). -/
def Told (s t : State) (code arg : Nat) : Prop := t.host = s.host.queueEvent code s.fleetTime arg

/-- By t an event with this code and argument is in the queue, or more entries have been lost than by s (R73, R74). -/
def Tells (s t : State) (code arg : Nat) : Prop :=
  s.host.lost < t.host.lost ∨ ∃ e ∈ t.host.events, e.code = code ∧ e.arg = arg % 2 ^ 32

/-- From s to t the long operation ends with a final status: it leaves the list, OP_COMPLETE is raised, and nothing else of the host side
changes (R44, R75). -/
def Ends (s t : State) (opc num status : Nat) : Prop :=
  t.host = ({ s.host with ops := s.host.ops.filter fun o => !(o.num == num && o.opc == opc) } : HostState).queueEvent Ev.OP_COMPLETE s.fleetTime
    (opArg status opc num)

/-- As Ends, with the DETAIL that the status has, if any, held for the host (R44, R50). -/
def EndsWith (s t : State) (opc num : Nat) (v : Nat × Option Nat) : Prop :=
  t.host = ({ s.host with
    ops := s.host.ops.filter fun o => !(o.num == num && o.opc == opc)
    endDetail := match v.2 with | some d => some (num, d) | none => s.host.endDetail } : HostState).queueEvent
      Ev.OP_COMPLETE s.fleetTime (opArg v.1 opc num)

/-! Partner ports (R331, R332, R335). -/

/-- The unit has port p, and the state has its record. -/
def HasPort (s : State) (p : Nat) : Prop := p < nPp s ∧ p < s.jobs.ports.length

/-- A message of TYPE typ and ID id with len payload bytes is a new one: the logic is clocked, port p is attached, its LEN is within the version's limit, and the
last message received was another. -/
def NewMsg (s : State) (p typ id len : Nat) : Prop :=
  HasPort s p ∧ s.clocked = true ∧ (s.port p).st.isAttached = true ∧ len ≤ lenLimit (s.port p) ∧ ∀ r, (s.port p).lastRx ≠ some (typ, id, r)

/-- Message id has been answered with this RESULT, in an ACK handed to the transmitter, and its TYPE and ID are remembered for a resend. -/
def Acked (t : State) (p typ id res : Nat) : Prop :=
  ackMsg id res ∈ (t.port p).out ∧ (t.port p).lastRx = some (typ, id, res)

/-- The message was answered, and of the whole state only port p's transmitter, which sends the ACK before every frame of its own, what it
remembers of the last message, and its quiet and idle times changed. -/
def OnlyAcked (s t : State) (p typ id res : Nat) : Prop :=
  Acked t p typ id res ∧
  t = s.modPort p fun x => ({ x with wireFor := 0, lastRx := some (typ, id, res) } : PtPort).ackFirst (ackMsg id res)

/-- Nothing of the controller's own is unacknowledged or waiting on port p. -/
def WireFree (s : State) (p : Nat) : Prop := (s.port p).unacked = none ∧ (s.port p).queue = []

/-- A message has been handed to the transmitter of port p under this ID, for the first time, and waits for its ACK. -/
def Sent (t : State) (p id typ : Nat) (pay : List Byte) : Prop :=
  (t.port p).unacked = some (⟨typ, id, pay⟩, 1, 0) ∧ ⟨typ, id, pay⟩ ∈ (t.port p).out

/-- The tide table holds at most 16 entries (R67, R80), the event queue at most 255 ordinary ones (R74). -/
def QueuesBounded (s : State) : Prop := s.host.tide.length ≤ 16 ∧ ordinary s.host.events ≤ 255

/-! The fleet bus (R369, R370). -/

/-- The unit has fleet port q, and the state has its record. -/
def HasFl (s : State) (q : Nat) : Prop := q < 3 ∧ s.jobs.fleet.ports.length = 3

/-- A frame under this header is taken on fleet port q: the logic is clocked, the link is up, the port is open to every kind of frame, and the number is the next. -/
def Took (s : State) (q : Nat) (f : FHdr) : Prop :=
  HasFl s q ∧ s.clocked = true ∧ (s.fl q).up = true ∧ openPort s q = true ∧ f.lseq = ((s.fl q).rxSeq + 1) % 256

/-- A hop frame under this header is taken on fleet port q: the fleet job's S4 runs in this frame (R99). -/
def TookHop (s : State) (q : Nat) (f : FHdr) : Prop :=
  Took s q f ∧ f.route = 0 ∧ ∀ k, (s.slot (slotFor s 10 0)).cutNow = some k → 4 < k

/-- A broadcast under this header is taken from the parent: the unit is in MEMBER, the frame's BSEQ is the next, nothing is missed. -/
def TookBcast (s : State) (q : Nat) (f : FHdr) : Prop :=
  Took s q f ∧ isParent s q = true ∧ s.fleet.st = .member ∧ f.route = 2 ∧ s.fleet.gaps = [] ∧ s.fleet.bseen = true ∧
  s.fleet.bseq < 65536 ∧ f.dst = (s.fleet.bseq + 1) % 65536

/-- A frame of this kind, way, target and payload is on the line of fleet port q, or waits there for the window (R370, R371). -/
def Gave (t : State) (q typ route dst : Nat) (pay : List Byte) : Prop :=
  ∃ g : FFrame, g.typ = typ ∧ g.route = route ∧ g.dst = dst ∧ g.pay = pay ∧
    (g.wire ∈ (t.fl q).sent ∨ ∃ pr, (pr, g) ∈ (t.fl q).wait)

/-! Resets (R5, R553). -/

/-- t stands after a reset of s with this cause: BOOT with the core down, outputs, parameters, lanes and the host side as after reset; the
device, its one-time memory and the waiting commands stand, the core restart count unless the supplies were lost. -/
def AfterReset (s t : State) (cause : Nat) : Prop :=
  t.ctl.state = .boot ∧ t.ctl.resetCause = cause ∧ t.ctl.coreUp = false ∧ t.ident = s.ident ∧ t.otp = s.otp ∧ t.pending = s.pending ∧
  t.coreRst = (if cause = 1 then 0 else s.coreRst) ∧ t.params = State.reset.params ∧ t.mods = State.reset.mods ∧
  t.outs = { State.reset.outs with jtag := t.outs.jtag, cells := t.outs.cells, captured := t.outs.captured } ∧ t.jobs.lanes = State.reset.jobs.lanes ∧
  t.jobs.packs = State.reset.jobs.packs ∧ t.host.ops = [] ∧ t.host.flights = [] ∧ t.host.tide = [] ∧ t.host.results = []

/-! Host commands (R38, R40, R42, R43). -/

/-- A command under this header passes steps 3 to 6 of R42: packets are taken, the framing is tagged, the opcode is known there, the link's
version and level suffice, and the tag is free. -/
def HostReady (s : State) (h : Hdr) (opc ver priv : Nat) : Prop :=
  accepts s = true ∧ h.tr ≠ .fleet ∧ untagged s h.tr = false ∧ opcodeKnown s h.tr opc = true ∧ ver ≤ (s.link h.tr).ver ∧
  priv ≤ (s.link h.tr).priv ∧ tagCheck s h.tr (some h.tag) = none

/-- A reply with this tag, status and payload waits on the transport, or, on CAN FD, its segments have been sent. -/
def RepliedTo (t : State) (tr : Transport) (tag : Option Nat) (status : Nat) (pay : List Byte) : Prop :=
  ∃ r : Reply, r.tag = tag ∧ r.status = status ∧ r.pay = pay ∧
    (r ∈ (t.link tr).replies ∨
     tr = .can ∧ ∃ c : Nat × Nat × Nat, ∀ d ∈ segments 20 0 true r.bytes, (⟨c.1, c.2.1, c.2.2, d⟩ : CanOut) ∈ t.host.canOut)

/-- The command under this header has this reply. -/
def Replied (t : State) (h : Hdr) (status : Nat) (pay : List Byte) : Prop := RepliedTo t h.tr (some h.tag) status pay

/-- From s to t only the transports with their replies, their levels and versions, and the tags in flight change. -/
def OnlyReplies (s t : State) : Prop :=
  t = { s with host := { s.host with spi := t.host.spi, i2c := t.host.i2c, can := t.host.can, canOut := t.host.canOut, flights := t.host.flights } }

/-- The command is answered with this status and payload, and does nothing else. -/
def Answers (s : State) (c : Instr) (h : Hdr) (status : Nat) (pay : List Byte) : Prop :=
  ∃ t, exec c s = .next t ∧ Replied t h status pay ∧ OnlyReplies s t

/-- The command starts a long operation: it is answered ACCEPTED with the next OPNUM, and the operation runs. -/
def Accepts (s t : State) (h : Hdr) (opc res : Nat) (args : List Nat) (data : List Byte) : Prop :=
  Replied t h St.ACCEPTED (leBytes 2 (nextOp s.host.opNum)) ∧ t.host.opNum = nextOp s.host.opNum ∧
  t.host.ops = s.host.ops ++ [⟨nextOp s.host.opNum, opc, h.tr, res, args, data, s.age⟩]

/-- A packet of R40: opcode, tag, LEN, payload, CRC. -/
def packet (opc tag : Nat) (pay : List Byte) : List Byte :=
  let b := [byte opc, byte tag] ++ leBytes 2 pay.length ++ pay
  b ++ leBytes 2 (crc16 b)

/-- The packet p carries the command c under the header h: rows without operands, with one, and with a list of entries (R40, R77). -/
def Packs (h : Hdr) (p : List Byte) (c : Instr) : Prop :=
  (p = packet 0x02 h.tag [] ∧ c = .getInfo h) ∨ (p = packet 0x1A h.tag [] ∧ c = .tideRead h) ∨
  (p = packet 0x20 h.tag (leBytes 2 0x51A7) ∧ c = .wdServeKeyA h) ∨ (p = packet 0x20 h.tag (leBytes 2 0xE48C) ∧ c = .wdServeKeyB h) ∨
  (∃ id, id < 65536 ∧ p = packet 0x19 h.tag (leBytes 2 id) ∧ c = .launchCancel h id) ∨
  (∃ seq, seq < 65536 ∧ p = packet 0x29 h.tag (leBytes 2 seq) ∧ c = .eventAck h seq) ∨
  (∃ set es, set < 256 ∧ es.length < 256 ∧ (∀ e ∈ es, e.id < 65536) ∧
    p = packet 0x11 h.tag ([byte set, byte es.length] ++ es.flatMap fun e => leBytes 2 e.id ++ leBytes 2 e.val.toNat) ∧
    c = .paramBaste h set es) ∨
  (∃ set fl fr, set < 256 ∧ fl < 256 ∧ fr < 2 ^ 64 ∧
    p = packet 0x12 h.tag ([byte set, byte 1, byte fl, 0] ++ leBytes 8 fr) ∧ c = .paramStitchLaunch h set fl fr)

/-- A packet of version-1 framing (R58): opcode, LEN, payload, CRC. -/
def packet1 (opc : Nat) (pay : List Byte) : List Byte :=
  let b := [byte opc] ++ leBytes 2 pay.length ++ pay
  b ++ leBytes 2 (crc16 b)

/-- The packet p of version-1 framing carries the command c under the header h: five of the rows that this framing can spell (R58). -/
def Packs1 (h : Hdr) (p : List Byte) (c : Instr) : Prop :=
  (p = packet1 0x02 [] ∧ c = .getInfo h) ∨ (∃ num, num < 256 ∧ p = packet1 0x10 [byte num] ∧ c = .paramRead h 0 [num]) ∨
  (∃ (num : Nat) (v : Word), num < 256 ∧ p = packet1 0x15 ([byte num] ++ leBytes 2 v.toNat) ∧ c = .paramWriteLive h [⟨num, v⟩]) ∨
  (∃ n, n < 256 ∧ p = packet1 0x28 [byte n] ∧ c = .eventRead h n) ∨ (p = packet1 0x20 (leBytes 2 0x51A7) ∧ c = .wdServeKeyA h)

/-- A live write of one parameter that passes its checks is answered with its frame of effect and handed over, and nothing else happens
(R62, R69). -/
def LiveTaken (s : State) (h : Hdr) (c : Instr) (es : List Entry) (id : Nat) (ws : List Word) : Prop :=
  HostReady s h 0x15 1 1 → checkEntries s (s.link h.tr).priv true es = none → liveCond ⟨h.tr, some h.tag, h.cyc, 0x15⟩ es s = none →
    ∃ t eff, exec c s = .next t ∧ eff = accFrame ⟨h.tr, some h.tag, h.cyc, 0x15⟩ s + 1 ∧ Replied t h St.OK (leBytes 8 eff) ∧
      (⟨id, ws, eff, (h.tr, some h.tag)⟩ : LiveW) ∈ t.host.lives ∧ (∀ w ∈ s.host.lives, w ∈ t.host.lives) ∧ t.host.events = s.host.events ∧
      t = { s with host := t.host }

end Sys2Proof.Machine

section
open Sys2Proof Sys2Proof.Machine

/-- While no packet is taken GET_INFO does nothing on I2C. Its tag above 47 is OUT_OF_RANGE with detail 1 (the offset of TAG in the packet:
the model's choice, log 64), a tag in flight TAG_BUSY with the tag. WD_SERVE on a link at level 0 is LOCKED with detail 1, LAUNCH_CANCEL
on one below version 3 VERSION with the highest one; in the recovery loader LAUNCH_CANCEL is BAD_OPCODE. In version-1 framing PARAM_READ
takes a NUM of the table and answers without a tag in the version-1 unit, and TIDE_READ is BAD_OPCODE. Each of these does nothing else.
(R42, R43, R48, R52, R58, R60, R77, R495) -/
def Obligations.HostGateRow : Prop :=
  ∀ (s : State) (h : Hdr), h.tr ≠ .fleet →
    (accepts s = false → h.tr = .i2c → exec (.getInfo h) s = .next s) ∧
    (accepts s = true → untagged s h.tr = false → 47 < h.tag → Answers s (.getInfo h) h St.OUT_OF_RANGE [1, 0]) ∧
    (∀ f, accepts s = true → untagged s h.tr = false → h.tag ≤ 47 → s.host.flights = [f] → f.tr ≠ .fleet → f.tag = some h.tag →
      Answers s (.getInfo h) h St.TAG_BUSY (leBytes 2 h.tag)) ∧
    (∀ key, HostReady s h 0x20 1 0 → (s.link h.tr).priv = 0 → Answers s (.wdServeOtherKey h key) h St.LOCKED [1, 0]) ∧
    (∀ id, HostReady s h 0x19 1 1 → (s.link h.tr).ver < 3 → Answers s (.launchCancel h id) h St.VERSION (leBytes 2 (topVer s))) ∧
    (∀ id, accepts s = true → s.ctl.loader = true → tagCheck s h.tr (some h.tag) = none →
      Answers s (.launchCancel h id) h St.BAD_OPCODE [0x19, 0]) ∧
    (∀ num id mul k d, accepts s = true → untagged s h.tr = true → s.host.flights = [] → num < 256 → v1Map num = some (id, mul, k) →
      paramAt s.ident.big id = some d → d.attr ≠ .ro →
      ∃ t, exec (.paramRead h 0 [num]) s = .next t ∧ OnlyReplies s t ∧
        RepliedTo t h.tr none St.OK (leBytes 2 (ofS 16 (divHalfAway (d.num (readBits s d id)) mul)))) ∧
    (accepts s = true → untagged s h.tr = true → s.host.flights = [] →
      ∃ t, exec (.tideRead h) s = .next t ∧ OnlyReplies s t ∧ RepliedTo t h.tr none St.BAD_OPCODE [0x1A, 0])

/-- HELLO sets the version of a link in tagged framing to the highest common one; GET_INFO, TIDE_READ, EVENT_READ, CAL_READ, REC_READ,
TEL_READ, TRACE_READ, LEDGER_READ and the fetch of a result give what they name; PARAM_READ of one ID gives the word in force, or
BAD_PARAM_ID with index 0; PARAM_READ_BLOCK of one ID gives a set's word. TEL_READ of a window reads the read image, and with bit 0 of
FLAGS clears its held minimum and maximum. A read of a timer's FIFO removes its oldest entry, a read of COUNT or CAPTURE none. (R16,
R45, R56, R76, R77, R140, R243, R461, R464, R470, R511, R515) -/
def Obligations.HostReadRows : Prop :=
  ∀ (s : State) (h : Hdr),
    (∀ lo hi, HostReady s h 0x01 1 0 → lo ≤ topVer s → 2 ≤ hi → lo ≤ hi → (∀ f ∈ s.host.flights, f.tr ≠ h.tr) →
      ∃ t, exec (.hello h lo hi) s = .next t ∧ OnlyReplies s t ∧ ((s.link h.tr).ver ≠ 1 → (t.link h.tr).ver = min hi (topVer s)) ∧
        Replied t h St.OK ([byte (min hi (topVer s)), byte (topVer s)] ++ leBytes 2 (partCode s) ++ leBytes 4 (fwBuild s))) ∧
    (HostReady s h 0x02 1 0 → Answers s (.getInfo h) h St.OK
      (leBytes 2 (partCode s) ++ [0xB0, byte (if s.ctl.loader then 0xFF else s.ctl.slot)] ++ leBytes 4 (fwBuild s) ++
        leBytes 8 s.ident.serial ++ leBytes 8 s.frame ++ [byte s.ctl.state.code, byte (s.link h.tr).priv])) ∧
    (∀ id d, HostReady s h 0x10 1 0 → paramAt s.ident.big id = some d → d.words = 1 → d.attr ≠ .ro →
      Answers s (.paramRead h 0 [id]) h St.OK (leBytes 2 (readWord s id).toNat)) ∧
    (∀ id, HostReady s h 0x10 1 0 → paramAt s.ident.big id = none → Answers s (.paramRead h 0 [id]) h St.BAD_PARAM_ID [0, 0]) ∧
    (∀ id k w, HostReady s h 0x14 2 0 → id < 65536 → k < 4 → assocGet (s.host.sets.getD k {}).entries id = some w →
      Answers s (.paramReadBlock h id 1 (k + 1)) h St.OK (leBytes 2 w.toNat)) ∧
    (HostReady s h 0x1A 3 0 →
      Answers s (.tideRead h) h St.OK ([byte s.host.tide.length, 0] ++ s.host.tide.flatMap Tide.bytes)) ∧
    (∀ n, HostReady s h 0x28 1 0 → 1 ≤ n → n ≤ 63 → Answers s (.eventRead h n) h St.OK
      ([byte (s.host.events.take n).length, 0] ++ leBytes 2 s.host.events.length ++ (s.host.events.take n).flatMap Event.bytes)) ∧
    (∀ c l, HostReady s h 0x30 2 0 → c ≠ 0xFE → chanPresent s c = true → l ≤ 2 → Answers s (.calRead h c l) h St.OK (calBlock s c l)) ∧
    (∀ k b, HostReady s h 0x40 2 0 → recordAt s k = some b → Answers s (.recRead h k) h St.OK b) ∧
    (∀ c fl, HostReady s h 0x41 2 0 → (telChans s).contains c = true → Answers s (.telRead h c 0xFF fl) h St.OK
      (leBytes 2 (ofS 16 (telNow s c)) ++ leBytes 2 (ofS 16 (telNow s c)) ++ leBytes 2 (ofS 16 (telNow s c)) ++ [0, 0])) ∧
    (∀ c w, HostReady s h 0x41 2 0 → (telChans s).contains c = true → s.ident.big = true → w < 4 →
      ∃ t, exec (.telRead h c w 1) s = .next t ∧ (telWin t.image c w) = { telWin s.image c w with mn := none, mx := none } ∧
        (telWin t.jobs c w) = { telWin s.jobs c w with mn := none, mx := none } ∧ t.jobs.lanes = s.jobs.lanes ∧ t.params = s.params ∧
        Replied t h St.OK (leBytes 2 (ofS 16 (telWin s.image c w).avg) ++ leBytes 2 (ofS 16 ((telWin s.image c w).mn.getD (-32768))) ++
          leBytes 2 (ofS 16 ((telWin s.image c w).mx.getD (-32768))) ++ [0, 0])) ∧
    (∀ off n, HostReady s h 0x43 2 0 → 1 ≤ n → off + n ≤ (traceBytes s.trace).length → n ≤ 1022 → off + n ≤ 65536 →
      Answers s (.traceRead h off n) h St.OK ([byte s.trace.st, 0] ++ ((traceBytes s.trace).drop off).take n)) ∧
    (∀ x, HostReady s h 0x59 2 0 → x < nPh s → Answers s (.ledgerRead h x) h St.OK
      ((s.led x).bins.flatMap (leBytes 4) ++ leBytes 4 (s.led x).onTime ++ leBytes 8 (s.led x).energy ++
        [byte (satN 255 (countOf (fun t => decide (s.jobs.sched.clock < t + day)) (s.led x).retired)), byte (b2n (s.led x).worn)])) ∧
    (∀ n off r, HostReady s h 0x48 3 0 → n < 65536 → off < 2 ^ 32 → s.host.results.find? (fun r => r.num == n && r.opc == 0x48) = some r →
      r.lost = false → off ≤ r.bytes.length → Answers s (.resultFetch h 0x48 n off) h St.OK ((r.bytes.drop off).take 1024)) ∧
    (∀ k, HostReady s h 0x10 1 0 → k < 16 → k < s.timers.t.length →
      ∃ t pay, exec (.tmrFifoRead h k) s = .next t ∧ Replied t h St.OK pay ∧ pay.length = 2 ∧ (t.timer k).fifo = (s.timer k).fifo.drop 1 ∧
        (t.timer k).count = (s.timer k).count ∧ ∀ j, j ≠ k → t.timer j = s.timer j) ∧
    (∀ k c, HostReady s h 0x10 1 0 → k < 16 → (s.timer k).count < 2 ^ 32 → (s.timer k).capture < 2 ^ 32 →
      Answers s (.tmrCountRead h k c) h St.OK (leBytes 2 ((if c then (s.timer k).capture else (s.timer k).count) % 65536)))

/-- BASTE adds its entries to the set and answers their number; a failed check changes nothing. STITCH hands the set over for frame F + 2
and empties it, its reply coming later. A launch that is not too late joins the tide table under the next LAUNCH_ID and, with a set,
holds it; one too late is refused. CANCEL removes it. UNPICK empties a set. A live write is handed over for frame F + 1. EVENT_ACK
removes the entries up to the one named. Parameters stand throughout. (R61, R62, R64, R65, R67, R69, R71, R75, R80, R81, R389, R391) -/
def Obligations.HostConfigRows : Prop :=
  ∀ (s : State) (h : Hdr),
    (∀ set es l, HostReady s h 0x11 2 1 → set ≤ 3 → set < s.host.sets.length → es ≠ [] → es.length ≤ 128 →
      checkEntries s (s.link h.tr).priv false es = none → setLock s set = none → l = entryWords es (s.host.sets.getD set {}).entries →
      l.length ≤ 512 →
      ∃ t, exec (.paramBaste h set es) s = .next t ∧ Replied t h St.OK (leBytes 2 l.length) ∧ (t.host.sets.getD set {}).entries = l ∧
        (∀ k, k ≠ set → t.host.sets.getD k {} = s.host.sets.getD k {}) ∧ t.params = s.params ∧ t.host.events = s.host.events) ∧
    (∀ set es st d, HostReady s h 0x11 2 1 → set ≤ 3 → es ≠ [] → es.length ≤ 128 → checkEntries s (s.link h.tr).priv false es = some (st, d) →
      Answers s (.paramBaste h set es) h st (leBytes 2 d)) ∧
    (∀ set fl es, HostReady s h 0x12 2 1 → set ≤ 3 → set < s.host.sets.length → setLock s set = none → es = (s.host.sets.getD set {}).entries →
      checkSet s es (some (s.link h.tr).priv) = none →
      ∃ t x, exec (.paramStitch h set fl 0) s = .next t ∧ t.host.stitches = s.host.stitches ++ [x] ∧ x.set = set ∧ x.entries = es ∧ x.back = es ∧
        x.eff = accFrame ⟨h.tr, some h.tag, h.cyc, 0x12⟩ s + 2 ∧ x.owes = some (h.tr, some h.tag) ∧ (t.host.sets.getD set {}).entries = [] ∧
        t.params = s.params ∧ (t.link h.tr).replies = (s.link h.tr).replies) ∧
    (∀ set fl fr lid, HostReady s h 0x12 3 1 → set ≤ 3 → set < s.host.sets.length → fr ≤ lastFrame → setLock s set = none →
      checkSet s (s.host.sets.getD set {}).entries (some (s.link h.tr).priv) = none →
      s.frame + 2 ≤ fr → s.host.tide.length < 16 → lid = freeLid 17 s.host.tide s.host.nextLid →
      ∃ t, exec (.paramStitchLaunch h set fl fr) s = .next t ∧ Replied t h St.OK (leBytes 2 lid) ∧
        t.host.tide = s.host.tide ++ [⟨lid, 0, 0, fl, set, fr, false⟩] ∧ (t.host.sets.getD set {}).heldBy = some lid ∧
        (t.host.sets.getD set {}).entries = (s.host.sets.getD set {}).entries ∧ t.params = s.params) ∧
    (∀ set, HostReady s h 0x13 2 1 → set ≤ 3 → set < s.host.sets.length → setLock s set = none →
      ∃ t, exec (.paramUnpick h set) s = .next t ∧ Replied t h St.OK (leBytes 2 (s.host.sets.getD set {}).entries.length) ∧
        (t.host.sets.getD set {}).entries = [] ∧ (∀ k, k ≠ set → t.host.sets.getD k {} = s.host.sets.getD k {}) ∧ t.params = s.params) ∧
    (∀ id v d, paramAt s.ident.big id = some d → d.words = 1 → LiveTaken s h (.paramWriteLive h [⟨id, v⟩]) [⟨id, v⟩] id [v]) ∧
    (∀ set fl fr lid, HostReady s h 0x18 3 1 → set ≤ 3 → set < s.host.sets.length → fr ≤ lastFrame → setLock s set = none →
      checkSet s (s.host.sets.getD set {}).entries (some (s.link h.tr).priv) = none →
      s.frame + 2 ≤ fr → s.host.tide.length < 16 → lid = freeLid 17 s.host.tide s.host.nextLid →
      ∃ t, exec (.launchAtStitch h 0 fl set fr) s = .next t ∧ Replied t h St.OK (leBytes 2 lid) ∧
        t.host.tide = s.host.tide ++ [⟨lid, 0, 0, fl, set, fr, false⟩] ∧ (t.host.sets.getD set {}).heldBy = some lid ∧ t.params = s.params) ∧
    (∀ fl fr lid, HostReady s h 0x18 3 1 → fr ≤ lastFrame → s.frame + 2 ≤ fr → s.host.tide.length < 16 →
      lid = freeLid 17 s.host.tide s.host.nextLid →
      ∃ t, exec (.launchAtSnapshot h 0 fl 0 fr) s = .next t ∧ Replied t h St.OK (leBytes 2 lid) ∧
        t.host.tide = s.host.tide ++ [⟨lid, 1, 0, fl, 0, fr, false⟩] ∧ t.host.sets = s.host.sets) ∧
    (∀ fl fr, HostReady s h 0x18 3 1 → fr ≤ lastFrame → fr < s.frame + 2 →
      Answers s (.launchAtSnapshot h 0 fl 0 fr) h St.LAUNCH_TOO_LATE [2, 0]) ∧
    (∀ fl fr, HostReady s h 0x18 3 2 → fr ≤ lastFrame → cutOff s = false → s.frame + leadMin s ≤ fr →
      s.host.tide.length < 16 → s.fleet.st = .root →
      ∃ t pay, exec (.launchAtSnapshot h 1 fl 0 fr) s = .next t ∧ Replied t h St.OK pay ∧ t.host.tide.length = s.host.tide.length + 1 ∧
        t.fleet.bseq = (s.fleet.bseq + 1) % 65536) ∧
    (∀ x, HostReady s h 0x19 3 1 → tideAt s x.lid = some x → x.scope ≠ 1 → s.frame + 2 ≤ x.frame →
      ∃ t, exec (.launchCancel h x.lid) s = .next t ∧ Replied t h St.OK [] ∧ t.host.tide = s.host.tide.filter (fun y => y.lid ≠ x.lid) ∧
        t.params = s.params ∧ t.host.events = s.host.events) ∧
    (∀ i e, HostReady s h 0x29 1 1 → s.host.lost = 0 → s.host.events[i]? = some e → (∀ j, j < i → (s.host.events[j]?).map (·.seq) ≠ some e.seq) →
      ∃ t, exec (.eventAck h e.seq) s = .next t ∧ t.host.events = s.host.events.drop (ackCount s.host.events i) ∧ t.host.lost = 0 ∧
        Replied t h St.OK (leBytes 2 t.host.events.length) ∧ t.params = s.params)

/-- A live write that passes its checks is answered OK with the frame of effect, F + 1, or F + 2 where it comes from cycle 3,600 on or after
the commit point of F (log 15), and stands with the bank loader as the parameter, its words and that frame; until then nothing but the
host side changes, and no event is raised. The named start hands over its mask and its frame together. (R62, R69, R503, R505, R506,
R515) -/
def Obligations.LiveWriteRows : Prop :=
  ∀ (s : State) (h : Hdr) (v : Word),
    LiveTaken s h (.hostFramingWrite h v) [⟨pid gGLB 0 GLB.HOST_FRAMING, v⟩] (pid gGLB 0 GLB.HOST_FRAMING) [v] ∧
    (∀ n, n < 6 → LiveTaken s h (.mapClearWrite h n v) [⟨pid gSCH n SCH.MAP_CLEAR, v⟩] (pid gSCH n SCH.MAP_CLEAR) [v]) ∧
    LiveTaken s h (.mapSelWrite h v) [⟨pid gSCH 48 SCH.MAP_SEL, v⟩] (pid gSCH 48 SCH.MAP_SEL) [v] ∧
    LiveTaken s h (.haltReqWrite h v) [⟨pid gSAF 0 SAF.HALT_REQ, v⟩] (pid gSAF 0 SAF.HALT_REQ) [v] ∧
    LiveTaken s h (.faultForceWrite h v) [⟨pid gSAF 0 SAF.FAULT_FORCE, v⟩] (pid gSAF 0 SAF.FAULT_FORCE) [v] ∧
    LiveTaken s h (.swlinkReqWrite h v) [⟨pid gSRC 4 SRC.SWLINK_REQ, v⟩] (pid gSRC 4 SRC.SWLINK_REQ) [v] ∧
    LiveTaken s h (.holderReqWrite h v) [⟨pid gSRC 4 SRC.HOLDER_REQ, v⟩] (pid gSRC 4 SRC.HOLDER_REQ) [v] ∧
    LiveTaken s h (.lownForceWrite h v) [⟨pid gSRC 4 SRC.LOWN_FORCE, v⟩] (pid gSRC 4 SRC.LOWN_FORCE) [v] ∧
    (∀ p, p < 4 → LiveTaken s h (.storageReqWrite h p v) [⟨pid gCHG p CHG.STORAGE_REQ, v⟩] (pid gCHG p CHG.STORAGE_REQ) [v] ∧
      LiveTaken s h (.topoffReqWrite h p v) [⟨pid gCHG p CHG.TOPOFF_REQ, v⟩] (pid gCHG p CHG.TOPOFF_REQ) [v] ∧
      LiveTaken s h (.captestReqWrite h p v) [⟨pid gCHG p CHG.CAPTEST_REQ, v⟩] (pid gCHG p CHG.CAPTEST_REQ) [v]) ∧
    (∀ d : BitVec 32, LiveTaken s h (.extDemandWrite h d)
      [⟨pid gCHG 16 CHG.EXT_DEMAND, d.extractLsb' 0 16⟩, ⟨pid gCHG 16 CHG.EXT_DEMAND + 1, d.extractLsb' 16 16⟩]
      (pid gCHG 16 CHG.EXT_DEMAND) [d.extractLsb' 0 16, d.extractLsb' 16 16]) ∧
    (∀ k, k < 4 → LiveTaken s h (.rstoutForceWrite h k v) [⟨pid gSEQ (9 + k) SEQ.FORCE, v⟩] (pid gSEQ (9 + k) SEQ.FORCE) [v]) ∧
    (∀ j, j < 48 → LiveTaken s h (.stepMaxClear h j v) [⟨pid gFRM j FRM.STEP_MAX, v⟩] (pid gFRM j FRM.STEP_MAX) [v]) ∧
    LiveTaken s h (.keySelWrite h v) [⟨pid gSEC 0 SEC.KEY_SEL, v⟩] (pid gSEC 0 SEC.KEY_SEL) [v] ∧
    LiveTaken s h (.debugEnWrite h v) [⟨pid gSEC 0 SEC.DEBUG_EN, v⟩] (pid gSEC 0 SEC.DEBUG_EN) [v] ∧
    LiveTaken s h (.tmrStartWrite h v) [⟨pid gTMR 16 TMR.START, v⟩] (pid gTMR 16 TMR.START) [v] ∧
    LiveTaken s h (.tmrStopWrite h v) [⟨pid gTMR 16 TMR.STOP, v⟩] (pid gTMR 16 TMR.STOP) [v] ∧
    (∀ fr : BitVec 64,
      LiveTaken s h (.tmrStartAtWrite h fr v)
        (liveEntries gTMR 16 TMR.START_AT 1 v.toNat ++ liveEntries gTMR 16 TMR.START_FRAME 4 fr.toNat) (pid gTMR 16 TMR.START_AT) [v] ∧
      LiveTaken s h (.tmrStartAtWrite h fr v)
        (liveEntries gTMR 16 TMR.START_AT 1 v.toNat ++ liveEntries gTMR 16 TMR.START_FRAME 4 fr.toNat) (pid gTMR 16 TMR.START_FRAME)
        (toWords 4 fr.toNat)) ∧
    (∀ (k : Nat) (d : BitVec 32), k < 16 →
      LiveTaken s h (.tmrCountWrite h k d)
        [⟨pid gTMR k TMR.COUNT, d.extractLsb' 0 16⟩, ⟨pid gTMR k TMR.COUNT + 1, d.extractLsb' 16 16⟩]
        (pid gTMR k TMR.COUNT) [d.extractLsb' 0 16, d.extractLsb' 16 16] ∧
      ∀ which, LiveTaken s h (.tmrShadowWrite h k which d)
        [⟨pid gTMR k (shadowIdx which), d.extractLsb' 0 16⟩, ⟨pid gTMR k (shadowIdx which) + 1, d.extractLsb' 16 16⟩]
        (pid gTMR k (shadowIdx which)) [d.extractLsb' 0 16, d.extractLsb' 16 16])

/-- Handed over before S4 of the safety job: KEY_A arms; KEY_B within the window completes the service with elapsed as its reply, before it
is WD_EARLY and a fault with cause 2; unarmed, or with another key, the sequence is broken, a fault with cause 3 where the watchdog
counts (it counts in RUN and SAFE; log 29). A check-in marks its task. Handed over later, a key waits for the next frame. MOOR begins
its sequence, RESET_DEVICE asks for the reset of the next frame. PH_REINSTATE of a retired phase is kept for the start of the next
frame, which makes it SHED. TRACE_ARM arms an empty trace. (R11, R9, R197, R438, R439, R440, R441, R442, R469) -/
def Obligations.HostControlRows : Prop :=
  ∀ (s : State) (h : Hdr),
    (HostReady s h 0x20 1 1 → h.cyc < wdCycle s → safetyRuns s = true →
      ∃ t, exec (.wdServeKeyA h) s = .next t ∧ Replied t h St.OK [] ∧ t.jobs.safe = { s.jobs.safe with armed := true } ∧ t.ctl = s.ctl ∧
        t.host.events = s.host.events) ∧
    (HostReady s h 0x20 1 1 → wdCycle s ≤ h.cyc ∨ safetyRuns s = false →
      ∃ t, exec (.wdServeKeyA h) s = .next t ∧ t.host.events = s.host.events ∧ t.ctl = s.ctl ∧
        t.jobs.safe = { s.jobs.safe with later := s.jobs.safe.later ++ [⟨⟨h.tr, some h.tag, h.cyc, 0x20⟩, false, 0x51A7, true⟩] }) ∧
    (HostReady s h 0x20 1 1 → s.jobs.safe.armed = true → wdMissing s = 0 → h.cyc < wdCycle s → safetyRuns s = true → s.jobs.safe.fired = false →
      wdCounts s = true →
      100 * par s gSAF 0 SAF.WD_OPEN ≤ s.jobs.safe.elapsed → s.jobs.safe.elapsed < wdClose s →
      ∃ t, exec (.wdServeKeyB h) s = .next t ∧ Replied t h St.OK (leBytes 4 s.jobs.safe.elapsed) ∧ t.jobs.safe.elapsed = 0 ∧
        t.jobs.safe.armed = false ∧ t.jobs.safe.seen = 0 ∧ t.jobs.safe.fault = false ∧ t.jobs.safe.timeouts = s.jobs.safe.timeouts ∧
        (s.ctl.state = .safe → t.ctl.service = true) ∧ t.host.events = s.host.events ∧ t.jobs.lanes = s.jobs.lanes) ∧
    (HostReady s h 0x20 1 1 → s.jobs.safe.armed = true → wdMissing s = 0 → h.cyc < wdCycle s → safetyRuns s = true → s.jobs.safe.fired = false →
      wdCounts s = true →
      par s gSAF 0 SAF.WD_EN = 1 → s.jobs.safe.notEarly = false → s.jobs.safe.elapsed < 100 * par s gSAF 0 SAF.WD_OPEN →
      ∃ t, exec (.wdServeKeyB h) s = .next t ∧ Replied t h St.WD_EARLY (leBytes 2 (s.jobs.safe.elapsed % 65536)) ∧ t.jobs.safe.elapsed = 0 ∧
        t.jobs.safe.fault = true ∧ t.jobs.safe.wdCause = 2 ∧ t.jobs.safe.timeouts = incSat 32 s.jobs.safe.timeouts ∧
        Tells s t Ev.WD_FAULT (satN 0xFFFFFFF s.jobs.safe.elapsed * 2 ^ 4 + 2) ∧ t.jobs.lanes = s.jobs.lanes) ∧
    (HostReady s h 0x20 1 1 → h.cyc < wdCycle s → safetyRuns s = true → s.jobs.safe.armed = false →
      ∃ t, exec (.wdServeKeyB h) s = .next t ∧ Replied t h St.WD_SEQUENCE (leBytes 2 0xE48C) ∧ t.jobs.safe.armed = false ∧
        (wdCounts s = false → t.jobs = s.jobs ∧ t.host.events = s.host.events) ∧
        (wdCounts s = true → t.jobs.safe.fault = true ∧ t.jobs.safe.wdCause = 3 ∧
          Tells s t Ev.WD_FAULT (satN 0xFFFFFFF s.jobs.safe.elapsed * 2 ^ 4 + 3))) ∧
    (∀ key, HostReady s h 0x20 1 1 → h.cyc < wdCycle s → safetyRuns s = true → key ≠ 0x51A7 → key ≠ 0xE48C →
      ∃ t, exec (.wdServeOtherKey h key) s = .next t ∧ Replied t h St.WD_SEQUENCE (leBytes 2 key) ∧ t.jobs.safe.armed = false ∧
        (wdCounts s = false → t.jobs.safe.fault = s.jobs.safe.fault ∧ t.host.events = s.host.events) ∧
        (wdCounts s = true → t.jobs.safe.fault = true ∧ t.jobs.safe.wdCause = 3 ∧
          Tells s t Ev.WD_FAULT (satN 0xFFFFFFF s.jobs.safe.elapsed * 2 ^ 4 + 3))) ∧
    (∀ k, HostReady s h 0x21 2 1 → h.cyc < wdCycle s → safetyRuns s = true → k ≤ 15 → bit (par s gSAF 0 SAF.WD_TASKMASK) k = true → bit s.jobs.safe.seen k = false →
      ∃ t, exec (.wdCheckin h k) s = .next t ∧ t.jobs.safe = { s.jobs.safe with seen := setBit s.jobs.safe.seen k } ∧
        Replied t h St.OK (leBytes 2 (setBit s.jobs.safe.seen k)) ∧ t.host.events = s.host.events) ∧
    (HostReady s h 0x7E 1 1 → s.ctl.state ≠ .halt →
      ∃ t, exec (.moor h 0x4D52) s = .next t ∧ Replied t h St.OK [] ∧ t.ctl = { s.ctl with mooring := true } ∧ t.jobs = s.jobs ∧ t.outs = s.outs) ∧
    (HostReady s h 0x7F 1 1 →
      ∃ t, exec (.resetDevice h 0x5253) s = .next t ∧ Replied t h St.OK [] ∧ t.ctl = { s.ctl with resetReq := some 3 } ∧ t.jobs = s.jobs ∧
        t.outs = s.outs) ∧
    (∀ x, HostReady s h 0x58 2 2 → x < nPh s → x < s.jobs.phases.length → (s.phase x).st = .retired →
      ∃ t, exec (.phReinstate h x) s = .next t ∧ Replied t h St.OK [] ∧ t.phase x = { s.phase x with nextSt := some .shed } ∧
        (∀ y, y ≠ x → t.phase y = s.phase y) ∧ t.jobs.lanes = s.jobs.lanes ∧ t.flash = s.flash ∧ t.host.events = s.host.events ∧
        ((phaseDue t x).phase x).st = .shed ∧ ((phaseDue t x).phase x).cause = (s.phase x).cause ∧
        Tells t (phaseDue t x) Ev.PHASE_REINSTATED x ∧ (phaseDue t x).flash = s.flash) ∧
    (∀ trig pre code mask, HostReady s h 0x42 2 1 → trig ≤ 2 → pre ≤ 100 → (trig = 1 → code < 16) → mask ≠ 0 → mask < 2 ^ 28 →
      (∀ k ∈ bitsOf 28 mask, traceAbsent s k = false) →
      ∃ t, exec (.traceArm h trig pre code mask) s = .next t ∧ Replied t h St.OK [] ∧
        t.trace = { st := 1, trig := trig, pre := pre, code := code, mask := mask, armedAt := s.frame } ∧ t.jobs = s.jobs)

/-- RESTORE_FACTORY, MOOR and RESET_DEVICE with a wrong CONFIRM are answered OUT_OF_RANGE and do nothing else. On a TSN-0824, TEL_READ with
a WINDOW other than 0xFF is answered OUT_OF_RANGE and does nothing else. The details of the two answers, 0 and 0 or 1, are read from the
tables. (R78, R84) -/
def Obligations.WrongConfirmAndTelemetryRules : Prop :=
  ∀ (s : State) (h : Hdr) (c : Nat),
    (HostReady s h 0x38 2 3 → c ≠ 0x7E57 → Answers s (.restoreFactory h c) h St.OUT_OF_RANGE [0, 0]) ∧
    (HostReady s h 0x7E 1 1 → c ≠ 0x4D52 → Answers s (.moor h c) h St.OUT_OF_RANGE [0, 0]) ∧
    (HostReady s h 0x7F 1 1 → c ≠ 0x5253 → Answers s (.resetDevice h c) h St.OUT_OF_RANGE [0, 0]) ∧
    (∀ w fl, HostReady s h 0x41 2 0 → s.ident.big = false → w ≠ 0xFF → ∃ d, Answers s (.telRead h c w fl) h St.OUT_OF_RANGE d)

/-- PH_REINSTATE is answered LOCKED with detail 5 for a phase marked WORN and OUT_OF_RANGE for one that is not retired. LEDGER_CLEAR_WORN
takes the WORN mark and leaves the phase retired, its state RETIRED from the start of the next frame on; for a phase without the mark it
is answered OUT_OF_RANGE and does nothing else. (R83) -/
def Obligations.WornPhaseRules : Prop :=
  ∀ (s : State) (h : Hdr) (x : Nat),
    (HostReady s h 0x58 2 2 → x < nPh s → (s.phase x).st = .worn → Answers s (.phReinstate h x) h St.LOCKED [5, 0]) ∧
    (HostReady s h 0x58 2 2 → (s.phase x).st ≠ .worn → (s.phase x).st ≠ .retired → Answers s (.phReinstate h x) h St.OUT_OF_RANGE [0, 0]) ∧
    (HostReady s h 0x5A 2 3 → x < nPh s → x < s.jobs.phases.length → x < s.jobs.sched.ledger.length → (s.phase x).st = .worn →
      ∃ t, exec (.ledgerClearWorn h x) s = .next t ∧ Replied t h St.OK [] ∧ t.phase x = { s.phase x with nextSt := some .retired } ∧
        ((phaseDue t x).phase x).st = .retired ∧ (t.led x).worn = false ∧ (t.led x).isRet = true ∧ t.flash.worn.getD x false = false ∧
        (∀ y, y ≠ x → t.phase y = s.phase y) ∧ t.jobs.lanes = s.jobs.lanes) ∧
    (HostReady s h 0x5A 2 3 → (s.phase x).st ≠ .worn → Answers s (.ledgerClearWorn h x) h St.OUT_OF_RANGE [0, 0])

/-- The start of a frame after the commit raises the frame number by 1 and, with SAFEn high, changes no output. A cut-off step is counted
once, with JOB_OVERRUN unless the frame before held too. At the third consecutive overrun the count begins again: the telemetry job
discards its windows, the fleet job of a member islands it, a running lane of its lane job ramps down. At the commit point every enable
and switch output takes the issue shadow (all open in the first two frames), and the read image is taken; the next start of a frame
publishes it. A saturated discipline is told once. (R93, R95, R96, R97, R99, R103, R106, R111) -/
def Obligations.FrameAndOverrunRows : Prop :=
  ∀ s : State,
    (∀ inp, s.live = true → s.jobs.frm.committed = true → s.jobs.frm.fresh = false → s.ctl.resetReq = none → s.fleet.renumber = none →
      ∃ t, exec (.frameStart inp) s = .next t ∧ t.frame = (s.frame + 1) % 2 ^ 52 ∧ t.age = s.age + 1 ∧ t.jobs.frm.committed = false ∧
        t.otp = s.otp ∧ t.image = s.imgNext.getD s.image ∧ t.imgNext = none ∧ (inp.safen = true → s.jobs.safe.sawLow = false → t.outs = s.outs)) ∧
    (∀ j st, s.live = true → s.jobs.frm.committed = false → (s.slot j).cutNow = some st → (s.slot j).counted = false →
      ∃ t, exec (.stepCutOff j st) s = .next t ∧ (t.slot j).counted = true ∧ (t.slot j).cut = st - 1 ∧
        (t.slot j).ovr = incSat 32 (s.slot j).ovr ∧ (t.slot j).consec = (s.slot j).consec + 1 ∧
        t.jobs.frm.ovrTotal = incSat 32 s.jobs.frm.ovrTotal ∧ t.jobs.lanes = s.jobs.lanes ∧
        ((s.slot j).held = false → Told s t Ev.JOB_OVERRUN (j * 2 ^ 8 + st)) ∧ ((s.slot j).held = true → t.host = s.host) ∧
        ∀ k, k ≠ j → t.slot k = s.slot k) ∧
    (∀ j, s.live = true → s.jobs.frm.committed = false → j < nSlots s → 3 ≤ (s.slot j).consec →
      ∃ t arg, exec (.jobRecovery j) s = .next t ∧ (t.slot j).consec = 0 ∧ (t.slot j).recov = incSat 16 (s.slot j).recov ∧
        Tells s t Ev.JOB_RECOVERY arg ∧
        (slotKind s j = 12 → arg = j * 2 ^ 8 + 4 ∧ t.telBad = rep 4 true ∧ t.jobs.lanes = s.jobs.lanes) ∧
        (slotKind s j = 10 → s.fleet.st = .member → t.fleet.st = .islanded ∧ t.jobs.lanes = s.jobs.lanes) ∧
        (∀ n, slotJob s.ident.big j = (2, n) → (s.lane n).st = .run → n < s.jobs.lanes.length →
          (t.lane n).st = .rampdown ∧ (t.lane n).restart = some j)) ∧
    (s.live = true → s.jobs.frm.committed = false → s.jobs.frm.fresh = false →
      ∃ t, exec .commitPoint s = .next t ∧ t.jobs.frm.committed = true ∧ t.outs.lnen = t.shadow.lnen ∧ t.outs.seqen = t.shadow.seqen ∧
        (2 ≤ s.age → t.outs.swin = t.shadow.swin ∧ t.outs.swpp = t.shadow.swpp ∧ t.outs.swlink = t.shadow.swlink) ∧
        (s.age < 2 → t.outs.swin = rep 4 false ∧ t.outs.swpp = rep 4 false ∧ t.outs.swlink = false) ∧
        t.host.stitched = [] ∧ t.frame = s.frame ∧ t.image = s.image ∧ t.imgNext.isSome = true) ∧
    (s.live = true → s.jobs.frm.satTold = false → 1000 ≤ s.jobs.frm.satRun →
      ∃ t, exec .disciplineLimit s = .next t ∧ Told s t Ev.DISCIPLINE_LIMIT s.jobs.frm.satRun ∧
        t.jobs.frm = { s.jobs.frm with satTold := true } ∧ t.jobs.lanes = s.jobs.lanes ∧ t.outs = s.outs)

/-- The check of a stitch marks it, and nothing else, where it passes; one that fails leaves, gives its entries back to its set and replies
with the status and the ID. At its frame a checked stitch puts its entries in force (but those a higher set of the frame has put in
force), tells STITCH_APPLIED, and replies OK with the frame. The live writes due leave the bank loader; one alone puts its words in
force, or none where a stitch of the frame carries one of them. The check of a launched set marks its entry, or takes it away and tells
it; at its frame the set is in force and empty. A snapshot launch leaves the table, the record of its frame kept. Groups with requests
that act once (SAF, SCH, SRC) are left out where values are named. The configuration in force is written to flash, by a flash writer
that is free, when a stitch changed it, at most once in 10 s. Each holds for every queue and table in which the command is due. (R64,
R65, R67, R69, R72, R108, R109, R240, R396, R531) -/
def Obligations.StitchAndLaunchRows : Prop :=
  ∀ s : State,
    (∀ n x rest, s.jobs.frm.running = true →
      takeStitch (fun y => y.set == n && !y.checked && decide (y.eff ≤ s.frame + 1)) s.host.stitches = some (x, rest) →
      recheck s x.eff n x.entries = none →
      exec (.stitchCheck n) s = .next (s.modHost fun h => { h with stitches := rest ++ [{ x with checked := true }] })) ∧
    (∀ n x rest st id, s.jobs.frm.running = true →
      takeStitch (fun y => y.set == n && !y.checked && decide (y.eff ≤ s.frame + 1)) s.host.stitches = some (x, rest) →
      recheck s x.eff n x.entries = some (st, id) →
      ∃ t, exec (.stitchCheck n) s = .next t ∧ t.host.stitches = rest ∧ t.params = s.params ∧ t.host.events = s.host.events ∧
        (n < s.host.sets.length →
          (t.host.sets.getD n {}).entries = (s.host.sets.getD n {}).entries.foldl (fun l e => assocSet l e.1 e.2) x.back) ∧
        ∀ tr tag, x.owes = some (tr, tag) → RepliedTo t tr tag st (leBytes 2 id)) ∧
    (∀ n x rest, s.jobs.frm.running = true →
      takeStitch (fun y => (y.set == n && decide (y.eff ≤ s.swapFrame)) && !y.checked) s.host.stitches = none →
      takeStitch (fun y => (y.set == n && decide (y.eff ≤ s.swapFrame)) && y.checked) s.host.stitches = some (x, rest) →
      ∃ t, exec (.stitchApplied n) s = .next t ∧ t.host.stitches = rest ∧ t.host.stitchFrame = x.eff ∧
        Tells s t Ev.STITCH_APPLIED n ∧ (∀ tr tag, x.owes = some (tr, tag) → RepliedTo t tr tag St.OK (leBytes 8 x.eff)) ∧
        ((∀ e ∈ x.entries, idGroup e.1 ≠ gSAF ∧ idGroup e.1 ≠ gSCH ∧ idGroup e.1 ≠ gSRC) → t.params = (withEntries s (standing s n x.entries)).params)) ∧
    (s.jobs.frm.running = true →
      ∃ t, exec .liveWriteEffect s = .next t ∧ t.host.lives = s.host.lives.filter (fun w => !decide (w.eff ≤ s.swapFrame)) ∧
        t.host.sets = s.host.sets ∧ t.host.tide = s.host.tide ∧ t.host.stitches = s.host.stitches ∧
        ∀ w, s.host.lives.filter (fun w => decide (w.eff ≤ s.swapFrame)) = [w] →
          ((∃ p ∈ s.host.stitched, w.id ≤ p.1 ∧ p.1 < w.id + w.ws.length) → t.params = s.params) ∧
          ((∀ p ∈ s.host.stitched, p.1 < w.id ∨ w.id + w.ws.length ≤ p.1) →
            (∀ k, k < w.ws.length → idGroup (w.id + k) ≠ gSAF ∧ idGroup (w.id + k) ≠ gSCH ∧ idGroup (w.id + k) ≠ gSRC) →
            t.params = (withEntries s ((w.ws.zipIdx w.id).map fun e => (e.2, e.1))).params)) ∧
    (∀ n x, s.jobs.frm.running = true → tideAt s n = some x → x.action = 0 → x.passed = false → x.frame ≤ s.frame + 1 →
      recheck s x.frame x.arg (s.host.sets.getD x.arg {}).entries = none →
      exec (.launchCheck n) s =
        .next (s.modHost fun h => { h with tide := h.tide.map fun u => if u.lid = n then { u with passed := true } else u })) ∧
    (∀ n x st id, s.jobs.frm.running = true → tideAt s n = some x → x.action = 0 → x.passed = false → x.frame ≤ s.frame + 1 →
      recheck s x.frame x.arg (s.host.sets.getD x.arg {}).entries = some (st, id) →
      ∃ t, exec (.launchCheck n) s = .next t ∧ t.params = s.params ∧ t.host.tide = s.host.tide.filter (fun u => u.lid ≠ n) ∧
        (∀ k, (t.host.sets.getD k {}).entries = (s.host.sets.getD k {}).entries ∧ (t.host.sets.getD k {}).heldBy ≠ some n) ∧
        (x.scope = 1 → Tells s t Ev.LAUNCH_REFUSED (n * 2 ^ 16 + 4)) ∧
        (x.scope ≠ 1 → Tells s t Ev.STITCH_REFUSED (id * 2 ^ 16 + x.arg))) ∧
    (∀ n x, s.jobs.frm.running = true → tideAt s n = some x → x.action = 0 → x.passed = true → x.frame ≤ s.swapFrame →
      ∃ t, exec (.launchStitch n) s = .next t ∧ t.host.tide = s.host.tide.filter (fun u => u.lid ≠ n) ∧ t.host.sets = s.host.sets.set x.arg {} ∧
        t.host.stitchFrame = x.frame ∧ Tells s t Ev.STITCH_APPLIED (2 ^ 8 + x.arg) ∧
        ((∀ e ∈ (s.host.sets.getD x.arg {}).entries, idGroup e.1 ≠ gSAF ∧ idGroup e.1 ≠ gSCH ∧ idGroup e.1 ≠ gSRC) →
          t.params = (withEntries s (standing s x.arg (s.host.sets.getD x.arg {}).entries)).params)) ∧
    (∀ n x, s.jobs.frm.running = true → tideAt s n = some x → x.action = 1 → x.frame < s.frame →
      ∃ t, exec (.launchSnapshot n) s = .next t ∧ t.host.tide = s.host.tide.filter (fun u => u.lid ≠ n) ∧ t.host.sets = s.host.sets ∧
        t.host.events = s.host.events ∧ assocGet t.fleet.snaps x.frame = some (snapshotOf s x.frame) ∧ t.params = s.params ∧
        t.jobs.lanes = s.jobs.lanes ∧ t.outs = s.outs) ∧
    (s.live = true → s.coreRuns = true → s.host.dirty = true → s.writer.busy = none → (∀ a, s.host.cfgAt = some a → a + 1000000 ≤ s.age) →
      exec .configFlashWrite s = .next ({ s with
        flash := { s.flash with cfg := stagedWords s }, writer := { s.writer with busy := some 6, before := some s.flash }
        host := { s.host with dirty := false, cfgAt := some s.age } }))

/-- A fresh read whose conversions a published image holds is answered OK and forgotten; after four plans without every conversion it is
answered DEFERRED. SLOT_PRESSURE is told once after 1,000 frames. Four bad conversions in a row make a pin faulted and its band 3, 100
good ones in a row end that, also where others of the same frame follow them. (R76, R126, R127, R136, R137) -/
def Obligations.SensingRows : Prop :=
  ∀ s : State,
    (∀ f tag a, s.host.fresh = [f] → f.tag = some tag → f.tr = .spi → f.ready = some a → a < s.age → s.coreRuns = true → s.live = true →
      s.host.inner.replies = [] → s.fleet.inner = [] →
      ∃ t, exec (.freshReadReply tag) s = .next t ∧ t.host.fresh = [] ∧ t.jobs.lanes = s.jobs.lanes ∧
        ∃ r ∈ (t.link .spi).replies, r.tag = some tag ∧ r.status = St.OK ∧ r.pay.length = 2 * f.ids.length) ∧
    (∀ f tag, s.host.fresh = [f] → f.tag = some tag → f.tr = .spi → f.ready = none → 4 ≤ f.plans → s.coreRuns = true → s.live = true →
      s.host.inner.replies = [] → s.fleet.inner = [] →
      ∃ t, exec (.freshReadDeferred tag) s = .next t ∧ t.host.fresh = [] ∧ t.jobs.sense.deferred = incSat 32 s.jobs.sense.deferred ∧
        ∃ r ∈ (t.link .spi).replies, r.tag = some tag ∧ r.status = St.DEFERRED) ∧
    (1000 ≤ s.jobs.sense.pressRun → s.jobs.sense.pressed = false →
      ∃ t, exec .slotPressure s = .next t ∧ t.jobs.sense = { s.jobs.sense with pressed := true } ∧ Told s t Ev.SLOT_PRESSURE s.jobs.sense.carried) ∧
    (∀ k, k < nTs s → k < s.jobs.sense.pins.length → 4 ≤ (s.pin k).bad ∨ (s.pin k).badHit.isSome = true →
      (s.pin k).faulted = false →
      ∃ t, exec (.tsFault k) s = .next t ∧ (t.pin k).faulted = true ∧ (t.pin k).band = 3 ∧ Told s t Ev.TS_FAULT (k * 256 + (s.pin k).badHit.getD (s.pin k).case_) ∧
        ∀ j, j ≠ k → t.pin j = s.pin j) ∧
    (∀ k, k < nTs s → (s.pin k).faulted = true → 100 ≤ (s.pin k).good ∨ (s.pin k).goodHit = true →
      ∃ t, exec (.tsRecovered k) s = .next t ∧ (t.pin k).faulted = false ∧ Told s t Ev.TS_RECOVERED k ∧ ∀ j, j ≠ k → t.pin j = s.pin j)

/-- From QUALIFY after 100 frames to SOFTSTART with LNENn wanted high; EN_LEAD frames later the phases start; after 100 good frames to RUN,
or to SLACK with u = 0 and SLACK_EN 1; at SS_TIMEOUT to RETRY with LNENn low, one more attempt and its wait; idle or with a ratio fault
to RAMPDOWN with cause 8 or 4; RAMPDOWN with a small current or at RD_TIMEOUT to OFF with LNENn low; RETRY with no wait left and no hold
of SAFEn or protection to QUALIFY; after 6,000,000 frames in RUN or SLACK the attempts start from 0. (R181, R183, R184) -/
def Obligations.LaneStateRows : Prop :=
  ∀ (s : State) (n : Nat), lnUsed s n = true →
    ((s.lane n).st = .qualify → 100 ≤ (s.lane n).okRun →
      ∃ t, exec (.laneQualified n) s = .next t ∧ (t.lane n).st = .softstart ∧ (t.lane n).lnen = true ∧ (t.lane n).enFor = some 0 ∧
        (t.lane n).started = false ∧ Told s t Ev.LANE_STATE (n * 2 ^ 8 + (s.lane n).cause * 2 ^ 4 + 2) ∧ ∀ m, m ≠ n → t.lane m = s.lane m) ∧
    ((s.lane n).st = .softstart → (s.lane n).started = false → par s gLN n LN.EN_LEAD ≤ (s.lane n).enFor.getD 0 →
      ∃ t, exec (.softstartPhasesStart n) s = .next t ∧ t.lane n = { s.lane n with started := true, ramp := 0 } ∧ t.host = s.host ∧
        ∀ m, m ≠ n → t.lane m = s.lane m) ∧
    ((s.lane n).st = .softstart → 100 ≤ (s.lane n).okRun →
      ∃ t, exec (.softstartDone n) s = .next t ∧
        (t.lane n).st = (if (s.lane n).u = 0 ∧ par s gLN n LN.SLACK_EN = 1 then .slack else .run) ∧ (t.lane n).restart = none ∧
        Told s t Ev.LANE_STATE (n * 2 ^ 8 + (s.lane n).cause * 2 ^ 4 + (t.lane n).st.code) ∧ ∀ m, m ≠ n → t.lane m = s.lane m) ∧
    ((s.lane n).st = .softstart → par s gLN n LN.SS_TIMEOUT ≤ (s.lane n).inState →
      ∃ t, exec (.softstartFailed n) s = .next t ∧ (t.lane n).st = .retry ∧ (t.lane n).cause = 1 ∧ (t.lane n).lnen = false ∧
        (t.lane n).retries = incSat 32 (s.lane n).retries ∧ (t.lane n).attempt = (s.lane n).attempt + 1 ∧
        (t.lane n).retryLeft = retryWait ((s.lane n).attempt + 1) ∧ ∀ m, m ≠ n → t.lane m = s.lane m) ∧
    ((s.lane n).st = .run → par s gLN n LN.SLACK_EN ≠ 1 → (s.lane n).u = 0 → par s gLN n LN.IDLE_OFF ≤ (s.lane n).idleRun →
      ∃ t, exec (.laneIdleOff n) s = .next t ∧ (t.lane n).st = .rampdown ∧ (t.lane n).cause = 8 ∧
        Told s t Ev.LANE_STATE (n * 2 ^ 8 + 8 * 2 ^ 4 + 5) ∧ ∀ m, m ≠ n → t.lane m = s.lane m) ∧
    ((s.lane n).st = .run ∨ (s.lane n).st = .slack → 100 ≤ (s.lane n).ratioRun →
      ∃ t, exec (.ratioFault n) s = .next t ∧ (t.lane n).st = .rampdown ∧ (t.lane n).cause = 4 ∧
        Told s t Ev.LANE_STATE (n * 2 ^ 8 + 4 * 2 ^ 4 + 5) ∧ ∀ m, m ≠ n → t.lane m = s.lane m) ∧
    ((s.lane n).st = .rampdown →
      10 * absN (s.lane n).iMeas ≤ par s gLN n LN.I_RATED ∨ par s gLN n LN.RD_TIMEOUT ≤ (s.lane n).inState →
      ∃ t, exec (.rampdownDone n) s = .next t ∧ (t.lane n).st = .off ∧ (t.lane n).cause = (s.lane n).cause ∧ (t.lane n).lnen = false ∧
        ∀ m, m ≠ n → t.lane m = s.lane m) ∧
    ((s.lane n).st = .retry → (s.lane n).retryLeft = 0 → laneHeld s s.jobs.safe n = false →
      ∃ t, exec (.retryElapsed n) s = .next t ∧ (t.lane n).st = .qualify ∧ (t.lane n).attempt = (s.lane n).attempt ∧
        Told s t Ev.LANE_STATE (n * 2 ^ 8 + (s.lane n).cause * 2 ^ 4 + 1) ∧ ∀ m, m ≠ n → t.lane m = s.lane m) ∧
    ((s.lane n).st = .run ∨ (s.lane n).st = .slack → 6000000 ≤ (s.lane n).upRun →
      ∃ t, exec (.retryBackoffReset n) s = .next t ∧ t.lane n = { s.lane n with attempt := 0 } ∧ t.host = s.host ∧
        ∀ m, m ≠ n → t.lane m = s.lane m)

/-- A port voltage above BW_VOV, or more than BW_WIN from the port's mean at the last commit, stops a lane in RUN, SLACK or RAMPDOWN: OFF
with cause 2, both outputs of its phases low, to be decided at the commit; a READY input port of it is ABSENT with cause 3, its switch
wanted open; the lane of a pack in session is OFF with cause 5 and the session ended. BW_STOP tells it; within both bounds nothing
happens. A surge on a lane that is up, an undershoot below the latched reference less SURGE_V or a slope above SURGE_DIDT, puts every
sound phase into the plan, ends a rotation and a probe, blocks sheds for 10,000 frames, and SURGE tells the phases brought back and
whether FP_I was applied. (R190, R191, R203, R236, R311) -/
def Obligations.BreakwaterStopRows : Prop :=
  ∀ (s : State) (n : Nat), lnUsed s n = true → s.mods.length = 16 → s.jobs.phases.length = 16 →
    (∀ v : Int, v ≤ bwVov s n → absN (v - (s.lane n).bwMid) ≤ 100 * par s gLN n LN.BW_WIN → exec (.bwStop n v) s = .next s) ∧
    (∀ v : Int, bwVov s n < v ∨ 100 * par s gLN n LN.BW_WIN < absN (v - (s.lane n).bwMid) →
      (s.lane n).st = .run ∨ (s.lane n).st = .slack ∨ (s.lane n).st = .rampdown →
      ∃ t, exec (.bwStop n v) s = .next t ∧ (t.lane n).lnen = false ∧
        Tells s t Ev.BW_STOP (n * 2 ^ 8 + (if bwVov s n < v then 1 else 2)) ∧
        (∀ x, x ∈ lanePhases s n → (t.mod x).switching = false ∧ (t.mod x).hiWin = none ∧ (t.mod x).loWin = none) ∧
        (lnKind s n ≠ 3 → (t.lane n).st = .off ∧ (t.lane n).cause = 2 ∧ (t.lane n).stopped = true ∧ ∀ m, m ≠ n → t.lane m = s.lane m) ∧
        (lnKind s n = 3 → packLane s (lnPort s n) = some n → (s.pack (lnPort s n)).ph ≠ .absent →
          (t.lane n).st = .off ∧ (t.lane n).cause = 5 ∧ (t.pack (lnPort s n)).ph = .absent) ∧
        (lnKind s n = 1 ∨ lnKind s n = 2 → (s.src (lnPort s n)).st = .ready →
          (t.src (lnPort s n)).st = .absent ∧ (t.src (lnPort s n)).cause = 3 ∧ (t.src (lnPort s n)).sw = false)) ∧
    (∀ (cause : Nat) (v : Int), (s.lane n).st = .softstart ∨ (s.lane n).st = .run ∨ (s.lane n).st = .slack →
      (cause = 1 ∧ ∃ r, (s.lane n).uvRef = some r ∧ v < r - 100 * parI s gLN n LN.SURGE_V) ∨
        (cause = 2 ∧ par s gLN n LN.SURGE_DIDT < absN v) →
      ∃ t, exec (.surge n ⟨cause, v⟩) s = .next t ∧ (t.lane n).plan.mask = maskOf (soundPhases s n) ∧ (t.lane n).shedBlock = 10000 ∧
        (t.lane n).surgeFor = some 0 ∧ (t.lane n).rotZ = none ∧ (t.lane n).probe = none ∧ (t.lane n).st ≠ .slack ∧
        (∀ x, x ∈ soundPhases s n → (t.phase x).shedding = none ∧ (t.mod x).pend.on = true) ∧
        Tells s t Ev.SURGE ((if cause = 1 ∧ (s.lane n).st ≠ .softstart ∧ par s gLN n LN.FP_I ≠ 0 then 2 ^ 24 else 0) +
          ((soundPhases s n).filter fun x => (s.phase x).st == .shed).length * 2 ^ 16 + n * 2 ^ 8 + cause) ∧
        ∀ m, m ≠ n → t.lane m = s.lane m) ∧
    (∀ v : Int, absN v ≤ par s gLN n LN.SURGE_DIDT → exec (.surge n ⟨2, v⟩) s = .next s)

/-- A phase current past BW_IPK_POS or BW_IPK_NEG in a cycle of a switching phase ends the output that drives it further at that count, and
counts in BW_COUNT; within both nothing happens. VLINK above BW_VOV keeps both outputs of the switching phases of lanes with positive
current low; 1 % below it the outputs may switch again. From the frame after a failure on PHASE_RETIRED tells the phase, its cause and
the retirements of 24 h, and PHASE_WORN a WORN one. A shedding phase at its last commit, or with a current within 2 % of its limit after
the first, stops both outputs. (R188, R190, R194, R195, R196) -/
def Obligations.PhaseRows : Prop :=
  ∀ (s : State) (x : Nat), s.mods.length = 16 → s.jobs.phases.length = 16 → s.jobs.sched.ledger.length = 16 →
    (∀ (n c : Nat) (cur : Int) (neg : Bool), x < 16 → laneOfPhase s x = some n → (s.mod x).switching = true → c < (s.mod x).period →
      10 * parI s gPH x PH.BW_IPK_POS < cur ∨ cur < -(10 * parI s gPH x PH.BW_IPK_NEG) →
      neg = decide (cur < -(10 * parI s gPH x PH.BW_IPK_NEG)) →
      ∃ t, exec (.phasePeakLimit x ⟨cur, c⟩) s = .next t ∧ (t.mod x).limited = true ∧
        (∀ a b, portLow s n = neg → (s.mod x).hiWin = some (a, b) → a < (c : Int) → (c : Int) < b → (t.mod x).hiWin = some (a, (c : Int))) ∧
        (∀ a b, portLow s n ≠ neg → (s.mod x).loWin = some (a, b) → a < (c : Int) → (c : Int) < b → (t.mod x).loWin = some (a, (c : Int))) ∧
        (t.phase x).bwCount = incSat 32 (s.phase x).bwCount ∧ t.host = s.host ∧ t.outs = s.outs ∧
        ∀ y, y ≠ x → t.phase y = s.phase y ∧ t.mod y = s.mod y) ∧
    (∀ (c : Nat) (cur : Int), -(10 * parI s gPH x PH.BW_IPK_NEG) ≤ cur → cur ≤ 10 * parI s gPH x PH.BW_IPK_POS →
      exec (.phasePeakLimit x ⟨cur, c⟩) s = .next s) ∧
    (∀ v n, 100 * par s gSRC 4 SRC.LBW_VOV < v → x < 16 → laneOfPhase s x = some n → lanePositive s n = true → (s.mod x).switching = true →
      ∃ t, exec (.linkOvervoltageLimit v) s = .next t ∧ (t.mod x).hiWin = none ∧ (t.mod x).loWin = none ∧ (t.mod x).linkLow = true ∧
        t.linkOver = true ∧ t.host = s.host ∧ t.outs = s.outs) ∧
    (∀ v, 100 * v < 99 * (100 * par s gSRC 4 SRC.LBW_VOV) →
      ∃ t, exec (.linkOvervoltageLimit v) s = .next t ∧ (t.mod x).linkLow = false ∧ t.linkOver = false ∧ t.jobs = s.jobs ∧
        t.host = s.host) ∧
    (∀ k, x < nPh s → (s.mod x).failed = some k → (s.mod x).failedAt < s.age → (s.phase x).st = .retired ∨ (s.phase x).st = .worn →
      ∃ t, exec (.phaseRetired x k) s = .next t ∧ (t.mod x).failed = none ∧ t.phase x = { s.phase x with newRet := true } ∧
        Tells s t Ev.PHASE_RETIRED (retiredIn24h s x * 2 ^ 16 + x * 2 ^ 8 + k) ∧ ((s.phase x).st = .worn → Tells s t Ev.PHASE_WORN x) ∧
        t.jobs.lanes = s.jobs.lanes ∧ t.outs = s.outs ∧ ∀ y, y ≠ x → t.phase y = s.phase y ∧ t.mod y = s.mod y) ∧
    (∀ (k : Nat) (i : Int), x < 16 → (s.phase x).shedding = some k → k = 0 ∨ (k = 1 ∧ 50 * (10 * absN i) ≤ 100 * par s gPH x PH.I_LIMIT) →
      (s.phase x).st = .active →
      ∃ t, exec (.phaseShedStop x i) s = .next t ∧ (t.phase x).st = .shed ∧ (t.phase x).shedding = none ∧ (t.mod x).switching = false ∧
        t.host = s.host ∧ ∀ y, y ≠ x → t.phase y = s.phase y ∧ t.mod y = s.mod y)

/-- A phase of a lane that is not switching and has switching values pending adopts them at the valley and begins with the duty d_ff and c
and the error history at 0, and is ACTIVE; in constant on-time mode, where no phase has the turn, it takes the turn too. A switching
phase whose selected sample saturates in the 64th cycle running has both outputs low at once and is RETIRED with cause 2, or WORN at its
third retirement within 24 h, its retirement in the ledger and due to be written. A RETIRED or WORN phase, one outside every lane that
does not switch, and a phase that the part has not got change nothing but the newest sample. No cycle touches another phase; none but a
failing one the host side. (R115, R159, R162, R169, R170, R175, R187, R193, R194, R195) -/
def Obligations.CarrierCycleRow : Prop :=
  ∀ (s : State) (x : Nat) (c : CycleIn), s.mods.length = 16 → s.jobs.phases.length = 16 → s.jobs.sched.ledger.length = 16 →
    (∀ n, laneOfPhase s x = some n → x < nPh s → (s.phase x).st = .shed → (s.mod x).switching = false → (s.mod x).failed = none →
      (s.mod x).pend.on = true →
      ∃ t, exec (.carrierCycle x c) s = .next t ∧ (t.mod x).cur = (s.mod x).pend ∧ (t.mod x).switching = true ∧
        (t.mod x).d = (s.mod x).pend.dff ∧ (t.mod x).c = 0 ∧ (t.mod x).e1 = 0 ∧ (t.mod x).e2 = 0 ∧ (t.phase x).st = .active ∧
        ((s.mod x).pend.mode = 1 → (s.lane n).cotLast = none → n < s.jobs.lanes.length → (t.lane n).cotLast = some x) ∧
        t.host = s.host ∧ ∀ y, y ≠ x → t.phase y = s.phase y ∧ t.mod y = s.mod y) ∧
    (∀ n k, laneOfPhase s x = some n → x < nPh s → (s.phase x).st = .active → (s.mod x).switching = true → (s.mod x).failed = none →
      32 ≤ (s.mod x).sinceOn → 32 ≤ (s.mod x).sinceStep → (s.mod x).limited = false → (s.mod x).counts = [0, 63, k, 0] →
      satCode (cycSelected c (parS s gPH x PH.SAMPLE_SHIFT)) = true →
      ∃ t, exec (.carrierCycle x c) s = .next t ∧ (t.mod x).hiWin = none ∧ (t.mod x).loWin = none ∧ (t.mod x).switching = false ∧
        (t.mod x).failed = some 2 ∧ (t.phase x).cause = 2 ∧ (t.led x).isRet = true ∧ (x, 0) ∈ t.writer.retJobs ∧
        (t.phase x).st = (if 3 ≤ retiredIn24h t x then .worn else .retired) ∧ (t.led x).retired.head? = some s.jobs.sched.clock ∧
        (∀ y, y ≠ x → t.led y = s.led y) ∧ (t.lane n = s.lane n → t.host = s.host)) ∧
    (x < nPh s → (laneOfPhase s x = none ∧ (s.mod x).switching = false) ∨
        (∃ n, laneOfPhase s x = some n) ∧ ((s.phase x).st = .retired ∨ (s.phase x).st = .worn) →
      exec (.carrierCycle x c) s = .next (s.modMod x fun m => { m with sample := cycNewest c })) ∧
    (x < nPh s → laneOfPhase s x = none → (s.mod x).switching = true →
      ∃ t, exec (.carrierCycle x c) s = .next t ∧ (t.mod x).switching = false ∧ (t.mod x).hiWin = none ∧ (t.mod x).loWin = none ∧ t.host = s.host) ∧
    (nPh s ≤ x → exec (.carrierCycle x c) s = .next s)

/-- An allowed shed step removes the phase a rotation names, else the one with the highest key, from the plan and restarts the shed gap. A
rotation whose coolest idle phase is cooler by more than the hysteresis adds that phase and names the hottest to be shed next. The block
on sheds ends 10,000 frames after a surge. A granted probe whose conditions still hold runs the first neighbour point that has a plan
and remembers the plan it came from, else the grant is withdrawn; it is abandoned with a discard when its first 20 frames cost too much,
and at its end the lane returns to the plan it came from. (R218, R219, R220, R221, R235, R236, R238) -/
def Obligations.SchedulerPlanRows : Prop :=
  ∀ (s : State) (n : Nat), n < s.jobs.lanes.length →
    (∀ z, lnUsed s n = true → laneDrives (s.lane n) = true →
      (s.lane n).rotZ = some z ∨ (s.lane n).rotZ = none ∧ (s.lane n).wantShed = true ∧ (ranked s n (planSet s n)).getLast? = some z →
      shedAllowed s n = true → 1 < (planSet s n).length →
      ∃ t, exec (.shedStep n) s = .next t ∧ (t.lane n).plan = planOf s n (clrBit (s.lane n).plan.mask z) ∧ (t.lane n).shedFor = some 0 ∧
        (t.lane n).rotZ = none ∧ (t.lane n).wantShed = false ∧ t.host = s.host ∧ ∀ m, m ≠ n → t.lane m = s.lane m) ∧
    (∀ y z, lnUsed s n = true → (s.lane n).st = .run → (s.lane n).rotZ = none → (s.lane n).rotFor = none → shedAllowed s n = true →
      ((ranked s n (soundPhases s n)).filter fun x => !(planSet s n).contains x).head? = some y →
      (ranked s n (planSet s n)).getLast? = some z → (decide232 s n).1 = (planSet s n).length → (tjOf s y).isSome = true → (tjOf s z).isSome = true →
      rankKey s n (soundPhases s n) y < rankKey s n (soundPhases s n) z - 10 * parI s gSCH n SCH.ROT_HYST * rankScale s (soundPhases s n) →
      ∃ t, exec (.rotationBegin n) s = .next t ∧ (t.lane n).plan = planOf s n (setBit (s.lane n).plan.mask y) ∧ (t.lane n).rotZ = some z ∧
        (t.lane n).rotFor = some 0 ∧ t.host = s.host ∧ ∀ m, m ≠ n → t.lane m = s.lane m) ∧
    ((s.lane n).shedBlock ≠ 0 → 10000 ≤ (s.lane n).surgeFor.getD 0 →
      ∃ t, exec (.shedBlockEnd n) s = .next t ∧ t.lane n = { s.lane n with shedBlock := 0, shedRun := 0 } ∧ t.host = s.host ∧
        ∀ m, m ≠ n → t.lane m = s.lane m) ∧
    (∀ k p, lnUsed s n = true → (s.lane n).probeGo = true → (s.lane n).st = .run → (s.lane n).probe = none →
      probeOk s n = true → nextProbe s n 8 (s.lane n).probeKind = some (k, p) →
      ∃ t, exec (.probeStart n) s = .next t ∧ (t.lane n).plan = p ∧ (t.lane n).probe = some ⟨k, p, (s.lane n).plan, 0, 0, 0, false⟩ ∧
        (t.lane n).probeKind = (k + 1) % 8 ∧ (t.lane n).probeFor = some 0 ∧ (t.lane n).probeGo = false ∧ t.host = s.host ∧
        ∀ m, m ≠ n → t.lane m = s.lane m) ∧
    ((s.lane n).probeGo = true → probeOk s n = false →
      exec (.probeStart n) s = .next (s.modLane n fun l => { l with probeGo := false })) ∧
    (∀ p, (s.lane n).probe = some p → (s.lane n).winN = 0 → p.n = 20 →
      20 * (((mapEntry s p.base.entry).loss : Int) * 15625 * 2 ^ 24 + powerIn (s.lane n) * 2 ^ 24 / 500) < p.sum →
      ∃ t, exec (.probeAbandon n) s = .next t ∧ (t.lane n).plan = p.base ∧ (t.lane n).probe = none ∧
        (t.lane n).discards = incSat 32 (s.lane n).discards ∧ t.jobs.sched = s.jobs.sched ∧ t.host = s.host ∧ ∀ m, m ≠ n → t.lane m = s.lane m) ∧
    (∀ p, (s.lane n).probe = some p → par s gSCH n SCH.SETTLE + par s gSCH n SCH.LEARN_FRAMES ≤ p.age → 0 < p.n →
      ∃ t, exec (.probeEnd n) s = .next t ∧ (t.lane n).plan = p.base ∧ (t.lane n).probe = none ∧ t.outs = s.outs ∧
        ∀ m, m ≠ n → t.lane m = s.lane m)

/-- A complete window of a lane closes once: every entry of the loss map but the window's stands, and so does every other lane. A mean
outside a factor 4 of the default model is discarded and counted. Within it, on an entry with CONF 0, the first mean waits; a second one
within an eighth of it gives the entry their mean, CONF_STEP, COUNT 2 and the codes in force; one further off takes its place. On a
learned entry the loss moves by the confidence's share of the difference; a move of more than a quarter of it quarantines the entry,
which returns to the default model. (R213, R215, R216) -/
def Obligations.LearningWindowRow : Prop :=
  ∀ (s : State) (n i o : Nat) (L M : Int) (p : Plan) (e : MapEnt), n < s.jobs.lanes.length → lnUsed s n = true →
    (s.lane n).winDone = some (i, L, p) → e = mapEntry s i → o = i - baseOf (laneSigs s) n →
    M = lModel s n (o / 768 + 1) (o % 768 / 192) (o % 24) →
    ∃ t, exec (.learningWindowClose n) s = .next t ∧ (t.lane n).winDone = none ∧ t.outs = s.outs ∧ t.params = s.params ∧
      (∀ j, j ≠ i → assocGet t.jobs.sched.map j = assocGet s.jobs.sched.map j) ∧ (∀ m, m ≠ n → t.lane m = s.lane m) ∧
      (L < M / 4 ∨ 4 * M < L → (t.lane n).discards = incSat 32 (s.lane n).discards ∧ t.jobs.sched = s.jobs.sched) ∧
      (M / 4 ≤ L → L ≤ 4 * M → e.conf = 0 → (s.lane n).pend = none → (t.lane n).pend = some (i, L) ∧ t.jobs.sched = s.jobs.sched) ∧
      (∀ q : Int, M / 4 ≤ L → L ≤ 4 * M → e.conf = 0 → (s.lane n).pend = some (i, q) → 0 ≤ q → 0 ≤ L →
        ((absN (L - q) : Int) ≤ q / 8 → (t.lane n).pend = none ∧ assocGet t.jobs.sched.map i =
          some { e with loss := min 0xFFFF ((L + q + 1) / 2).toNat, freq := p.freq, dtr := p.dtr, dtf := p.dtf
                        conf := par s gSCH n SCH.CONF_STEP, count := 2 }) ∧
        (q / 8 < (absN (L - q) : Int) → (t.lane n).pend = some (i, L) ∧ t.jobs.sched = s.jobs.sched)) ∧
      (∀ w : Int, M / 4 ≤ L → L ≤ 4 * M → e.conf ≠ 0 → w = e.loss + max (256 - (e.conf : Int)) 16 * (L - e.loss) / 256 → 0 ≤ w →
        (absN (w - e.loss) ≤ e.loss / 4 → ∃ b, assocGet t.jobs.sched.map i = some b ∧ b.loss = min 0xFFFF w.toNat ∧ b.freq = p.freq ∧
          b.dtr = p.dtr ∧ b.dtf = p.dtf ∧ b.count = min (e.count + 1) 255 ∧ b.conf =
            (if absN (L - e.loss) ≤ e.loss / 8 then min (e.conf + par s gSCH n SCH.CONF_STEP) 255 else max (e.conf - par s gSCH n SCH.CONF_STEP) 1)) ∧
        (e.loss / 4 < absN (w - e.loss) → assocGet t.jobs.sched.map i = none ∧ (t.lane n).quar = incSat 32 (s.lane n).quar))

/-- The flush writes a record of each phase's live ledger, one of the energy counters, and the powered-time clock; persistence writes the
map's image under the next generation, which then is the newest valid one; a retirement writes its phase's record while no other writer
is active and leaves the queue. Each changes nothing else of flash. A write 60,000,000 frames late is told once. The writer that is done
gives way to the one it pre-empted, but for a flush or persistence in an update session, which stays due. On a frame that is a multiple
of 100 whose ledger job is not cut off each phase with a junction temperature takes one rainflow sample, and every lane stands. (R194,
R222, R223, R240, R241, R244, R467) -/
def Obligations.LedgerAndMapWriteRows : Prop :=
  ∀ s : State, s.flash.banks.length = 2 → s.flash.bank < 2 →
    (∀ d, s.clocked = true → s.writer.busy = some 1 → s.writer.flushDue = some d → s.flash.enSects.length = 2 → s.flash.enSect < 2 →
      ∃ t, exec .ledgerFlush s = .next t ∧
        (∀ x, x < nPh s → BankRec.phase ((s.led x).record x s.jobs.sched.clock) ∈ t.flash.recs) ∧
        energyRecord s.jobs.energy ∈ t.flash.enSects.getD t.flash.enSect [] ∧
        t.flash = { s.flash with banks := t.flash.banks, bank := t.flash.bank, enSects := t.flash.enSects, enSect := t.flash.enSect
                                 clock := s.jobs.sched.clock } ∧
        t.jobs.sched = { s.jobs.sched with sinceFlush := 0 } ∧ t.writer.flushDue = none ∧ t.host = s.host) ∧
    (∀ d g, s.clocked = true → s.writer.busy = some 2 → s.writer.persDue = some d → g = (s.jobs.sched.gen + 1) % 2 ^ 32 →
      ∃ t, exec .lossmapPersist s = .next t ∧
        t.flash.newestImage = some (⟨g, s.jobs.sched.clock, laneSigs s, crc32 (mapImage s)⟩, mapImage s) ∧
        t.flash = { s.flash with banks := t.flash.banks, bank := t.flash.bank, sectors := assocSet s.flash.sectors (g % 16) (mapImage s)
                                 clock := s.jobs.sched.clock } ∧
        t.jobs.sched = { s.jobs.sched with gen := g, sincePers := 0 } ∧ t.writer.persDue = none ∧ t.host = s.host) ∧
    (∀ x k, s.clocked = true → s.writer.busy = none → (x, k) ∈ s.writer.retJobs →
      ∃ t, exec (.ledgerRetireWrite x) s = .next t ∧ BankRec.phase ((s.led x).record x s.jobs.sched.clock) ∈ t.flash.banks.getD t.flash.bank [] ∧
        t.flash = { s.flash with banks := t.flash.banks, bank := t.flash.bank } ∧ t.writer.busy = some 5 ∧
        (∀ j, j ∈ t.writer.retJobs ↔ j ∈ s.writer.retJobs ∧ j.1 ≠ x) ∧ t.jobs = s.jobs ∧ t.host = s.host) ∧
    (∀ x, s.writer.busy ≠ none → exec (.ledgerRetireWrite x) s = .next s) ∧
    (∀ d, s.writer.flushDue = some d → 60000000 ≤ d → s.writer.lateF = false →
      ∃ t, exec (.flashWriteLate 1) s = .next t ∧ t.writer = { s.writer with lateF := true } ∧ Told s t Ev.FLASH_WRITE_LATE 1) ∧
    (∀ d, s.writer.persDue = some d → 60000000 ≤ d → s.writer.lateP = false →
      ∃ t, exec (.flashWriteLate 2) s = .next t ∧ t.writer = { s.writer with lateP := true } ∧ Told s t Ev.FLASH_WRITE_LATE 2) ∧
    (∀ k, s.writer.busy = some k → k ≠ 4 → k ≠ 8 → s.fw = none →
      exec .flashWriterDone s = .next { s with writer := { s.writer with busy := s.writer.redo, redo := none, before := none } }) ∧
    (∀ k f j, s.writer.busy = some k → k ≠ 4 → k ≠ 8 → s.fw = some f → s.writer.redo = some j → j = 1 ∨ j = 2 →
      exec .flashWriterDone s = .next { s with writer := { s.writer with busy := none, redo := none, before := none } }) ∧
    (∀ x T, s.live = true → s.frame % 100 = 0 → (s.slot (slotFor s 12 0)).cutNow = none → x < nPh s → s.jobs.sched.therm.length = 16 →
      s.jobs.sched.ledger.length = 16 → tjOf s x = some T →
      ∃ t, exec .ledgerSample s = .next t ∧ t.led x = (sampleTj T (s.jobs.sched.therm.getD x {}) (s.led x)).2 ∧
        t.jobs.sched.therm.getD x {} = (sampleTj T (s.jobs.sched.therm.getD x {}) (s.led x)).1 ∧ t.jobs.lanes = s.jobs.lanes ∧
        t.host = s.host ∧ t.flash = s.flash)

/-- A port that has qualified closes its switch in CONNECT, or is READY as a direct input; a PV port that fails the open-circuit check
starts its count again with cause 7. After SW_SETTLE inside its window CONNECT is READY. A loss or dusk makes a READY port ABSENT with
cause 1 or 2 and sends its running lane to RAMPDOWN with cause 5. Every other port stands. (R250, R251, R252) -/
def Obligations.SourcePortRows : Prop :=
  ∀ (s : State) (n : Nat), n < nIn s →
    ((s.src n).st = .qualify → par s gSRC n SRC.QUAL_FRAMES ≤ (s.src n).qual → (s.src n).vHist ≠ [] →
      (srcKind s n = 1 → ocvCheck s n = true) →
      ∃ t, exec (.sourceQualified n) s = .next t ∧ (t.src n).st = (if isDirect s n then .ready else .connect) ∧
        (isDirect s n = false → (t.src n).sw = true) ∧ (t.src n).cause = (s.src n).cause ∧ t.jobs.lanes = s.jobs.lanes ∧
        ∀ m, m ≠ n → t.src m = s.src m) ∧
    ((s.src n).st = .qualify → par s gSRC n SRC.QUAL_FRAMES ≤ (s.src n).qual → (s.src n).vHist ≠ [] → srcKind s n = 1 → ocvCheck s n = false →
      ∃ t, exec (.sourceQualified n) s = .next t ∧ (t.src n).st = .qualify ∧ (t.src n).cause = 7 ∧ (t.src n).qual = 1 ∧ t.host = s.host ∧
        ∀ m, m ≠ n → t.src m = s.src m) ∧
    ((s.src n).st = .connect → par s gSRC n SRC.SW_SETTLE ≤ (s.src n).conFor → srcIn s n = true →
      ∃ t, exec (.sourceConnectSettled n) s = .next t ∧ (t.src n).st = .ready ∧ (t.src n).sw = (s.src n).sw ∧
        Told s t Ev.SOURCE_STATE (n * 2 ^ 8 + (s.src n).cause * 2 ^ 4 + 4) ∧ ∀ m, m ≠ n → t.src m = s.src m) ∧
    ((s.src n).st = .ready → 0 < (s.src n).lossRun → par s gSRC n SRC.LOSS_FRAMES ≤ (s.src n).lossRun →
      ∃ t, exec (.sourceLoss n) s = .next t ∧ (t.src n).st = .absent ∧ (t.src n).cause = 1 ∧
        (∀ l, laneOfInput s n = some l → (s.lane l).st = .run → (t.lane l).st = .rampdown ∧ (t.lane l).cause = 5) ∧
        (laneOfInput s n = none → (t.src n).sw = false) ∧ ∀ m, m ≠ n → t.src m = s.src m) ∧
    ((s.src n).st = .ready → srcKind s n = 1 → 0 < (s.src n).duskRun → par s gSRC n SRC.DUSK_FRAMES ≤ (s.src n).duskRun →
      ∃ t, exec (.dusk n) s = .next t ∧ (t.src n).st = .absent ∧ (t.src n).cause = 2 ∧
        (∀ l, laneOfInput s n = some l → (s.lane l).st = .run → (t.lane l).st = .rampdown ∧ (t.lane l).cause = 5) ∧
        ∀ m, m ≠ n → t.src m = s.src m)

/-- While its lane is in SOFTSTART or RUN, a first period only measures; a tracking port that curtails steps V_ref up; one that lost power
by more than 1/1024 turns round, and steps by MPPT_STEP in the direction that stands. A dwell that ends moves the sweep to its next
point; at the last point V_ref is the voltage of the largest power and MPPT_SWEEP tells it. SWEEP_INTERVAL frames after a sweep a new
one is asked for. A search below the port's minimum voltage backs I_ref off by ICS_BACKOFF and holds it. (R257, R258, R259, R261) -/
def Obligations.MpptAndSearchRows : Prop :=
  ∀ (s : State) (n : Nat), n < nIn s → n < s.jobs.srcs.length →
    (srcKind s n = 1 → srcRuns s n = true → (s.src n).track = true → (s.src n).sweep = none → par s gSRC n SRC.MPPT_PERIOD ≤ (s.src n).perAge → 0 < (s.src n).nP →
      ((s.src n).pLast = none →
        ∃ t, exec (.mpptPeriodStep n) s = .next t ∧ (t.src n).pLast = some (divR (s.src n).sumP (s.src n).nP) ∧ (t.src n).vRef = (s.src n).vRef ∧
          (t.src n).perAge = 0 ∧ t.host = s.host ∧ ∀ m, m ≠ n → t.src m = s.src m) ∧
      (∀ q, (s.src n).pLast = some q → srcHolds s n = false → (s.src n).curtail = true →
        ∃ t, exec (.mpptPeriodStep n) s = .next t ∧ (t.src n).vRef = boundRef s n ((s.src n).vRef + 100 * parI s gSRC n SRC.MPPT_STEP) ∧
          (t.src n).dir = 1 ∧ t.host = s.host ∧ ∀ m, m ≠ n → t.src m = s.src m) ∧
      (∀ q, (s.src n).pLast = some q → srcHolds s n = false → (s.src n).curtail = false → (s.src n).nClamp ≠ (s.src n).nV →
        ∃ t, exec (.mpptPeriodStep n) s = .next t ∧
          (t.src n).dir = (if 1024 * divR (s.src n).sumP (s.src n).nP < 1023 * q then -(s.src n).dir else (s.src n).dir) ∧
          (t.src n).vRef = boundRef s n ((s.src n).vRef + (t.src n).dir * (100 * parI s gSRC n SRC.MPPT_STEP)) ∧ (t.src n).vmppAge = 0 ∧
          t.host = s.host ∧ ∀ m, m ≠ n → t.src m = s.src m)) ∧
    (∀ w, (s.src n).sweep = some w → w.left = 0 →
      (w.k + 1 < par s gSRC n SRC.SWEEP_POINTS →
        ∃ t w', exec (.sweepPoint n) s = .next t ∧ (t.src n).sweep = some w' ∧ w'.k = w.k + 1 ∧ w'.left = par s gSRC n SRC.SWEEP_DWELL ∧
          w'.found.length = w.found.length + 1 ∧ t.host = s.host) ∧
      (par s gSRC n SRC.SWEEP_POINTS ≤ w.k + 1 →
        ∃ t, exec (.sweepPoint n) s = .next t ∧ (t.src n).sweep = none ∧ (t.src n).vmppAge = 0 ∧ (t.src n).sweepFor = some 0 ∧
          (t.src n).vRef = sweepVolt s n w (bestPoint (w.found ++ [divR (sumOf id w.pows) w.pows.length])) ∧
          Told s t Ev.MPPT_SWEEP ((t.src n).vmpp * 2 ^ 16 + n))) ∧
    (srcKind s n = 1 → par s gSRC n SRC.SWEEP_INTERVAL ≠ 0 → (s.src n).sweep = none →
      par s gSRC n SRC.SWEEP_INTERVAL ≤ (s.src n).sweepFor.getD 0 →
      ∃ t, exec (.sweepRepeat n) s = .next t ∧ (t.src n).sweepFor = none ∧
        (if sweepCould s n then (t.src n).wantSweep = true else (t.src n).againSweep = true) ∧ t.host = s.host ∧ ∀ m, m ≠ n → t.src m = s.src m) ∧
    (srcKind s n = 2 → (s.src n).icsOn = true → par s gSRC n SRC.ICS_MODE ≠ 0 → 0 < (s.src n).icsAge →
      par s gSRC n SRC.ICS_PERIOD ≤ (s.src n).icsAge → (s.src n).icsSumV < 100 * parI s gSRC n SRC.V_MIN * (s.src n).icsAge →
      ∃ t, exec (.icsPeriodStep n) s = .next t ∧ (t.src n).iRef = (s.src n).iRef - par s gSRC n SRC.ICS_BACKOFF ∧
        (t.src n).icsFound = (t.src n).iRef ∧ (t.src n).icsHold = true ∧ Told s t Ev.ICS_FOUND ((t.src n).iRef * 2 ^ 16 + n) ∧
        ∀ m, m ≠ n → t.src m = s.src m)

/-- On a frame that is a multiple of 100 the policy's choice is elected for the next frame where it differs from the holder, no seam is in
progress, the gap has passed and not both are direct inputs; nothing else changes. An elected lane or pack set takes the role at once;
an elected direct input first has its switch closed, where it is READY, and settles. A holder that has failed hands over at once to the
forced target. A settled switch starts the ramp; its end, or its timeout, leaves the role swap pending. (R270, R271, R272, R273) -/
def Obligations.SeamRows : Prop :=
  ∀ s : State,
    (s.live = true → s.coreRuns = true → s.frame % 100 = 0 → policyChoice s ≠ s.jobs.link.holder →
      s.jobs.link.seam = none → s.jobs.link.seamFor = none → ctlRuns s = true → directCode s (policyChoice s) = false →
      exec .policyEvaluation s = .next { s with jobs := { s.jobs with link := { s.jobs.link with elect := some (policyChoice s, s.frame + 1) } } }) ∧
    (∀ c f, s.jobs.link.elect = some (c, f) → f ≤ s.frame → s.jobs.link.seam = none → c ≠ s.jobs.link.holder → ctlRuns s = true →
      (directCode s c = false → directCode s s.jobs.link.holder = false →
        ∃ t, exec .electiveSeamBegin s = .next t ∧ t.jobs.link.holder = c ∧ t.jobs.link.seam = none ∧ t.jobs.link.elect = none ∧
          t.jobs.link.seamFor = some 0 ∧ t.jobs.link.seams = incSat 32 s.jobs.link.seams ∧ t.jobs.link.vset = vLink s) ∧
      (directCode s c = true → s.jobs.link.holder ≠ 0 →
        ∃ t m, exec .electiveSeamBegin s = .next t ∧ t.jobs.link.seam = some m ∧ m.old = s.jobs.link.holder ∧ m.target = c ∧ m.step = 1 ∧
          m.forced = false ∧ t.jobs.link.holder = s.jobs.link.holder ∧ t.jobs.link.elect = none ∧
          ((s.src (c - 4)).st = .ready → switchesHeld s = false → s.jobs.safe.safenLow = false → c - 4 < s.jobs.srcs.length →
            (t.src (c - 4)).sw = true) ∧
          ((s.src (c - 4)).st ≠ .ready → (t.src (c - 4)).sw = (s.src (c - 4)).sw))) ∧
    (s.jobs.link.holder ≠ 0 → 0 < s.jobs.link.failRun → par s gSRC 4 SRC.HOLD_FAIL ≤ s.jobs.link.failRun →
      (s.jobs.link.seam = none →
        ∃ t, exec .holdFail s = .next t ∧ t.jobs.link.holder = forcedTarget s ∧ t.jobs.link.failRun = 0 ∧ t.jobs.link.seam = none ∧
          t.jobs.link.seams = incSat 32 s.jobs.link.seams) ∧
      (∀ m, s.jobs.link.seam = some m →
        ∃ t, exec .holdFail s = .next t ∧ t.jobs.link.seam = some { m with hurry := true } ∧ t.jobs.link.force = some 4 ∧
          t.jobs.link.holder = s.jobs.link.holder)) ∧
    (∀ m, s.jobs.link.seam = some m →
      (m.step = 1 → par s gSRC (m.target - 4) SRC.SW_SETTLE ≤ m.age →
        exec .seamSwitchSettled s = .next { s with jobs := { s.jobs with link := { s.jobs.link with
          seam := some { m with step := if m.old = 2 then 3 else 2, age := 0, ramp := rampOf s m } } } }) ∧
      (m.step = 2 → directCode s m.target = true → 0 < m.age → absN (s.jobs.link.ics.out - m.ramp) ≤ par s gSRC 4 SRC.SEAM_RATE →
        ∃ t, exec .seamRampEnd s = .next t ∧ t.jobs.link.seam = some { m with step := 3 } ∧ t.jobs.link.holder = s.jobs.link.holder) ∧
      (m.step = 2 → directCode s m.target = false → s.val m.old ≤ 10 * parI s gSRC 4 SRC.SEAM_IEND → directCode s m.old = true →
        ∃ t, exec .seamRampEnd s = .next t ∧ t.jobs.link.seam = some { m with step := 3 } ∧ (t.src (m.old - 4)).sw = false) ∧
      (m.step = 2 → par s gSRC 4 SRC.SEAM_TIMEOUT ≤ m.age →
        ∃ t, exec .seamTimeout s = .next t ∧ t.jobs.link.seam = some { m with step := 3 } ∧ t.jobs.link.holder = s.jobs.link.holder ∧
          t.host = s.host))

/-- With a holder and VLINK in its window for 2,000 frames, SWLINK is wanted closed and the request reads 0 again. LINKLOWn is asserted
after a cause has lasted LOWN_ASSERT frames and told with the causes; it is released after LOWN_RELEASE frames without one. Lanes and
the holder stand. (R268, R278, R279) -/
def Obligations.LinkSwitchRows : Prop :=
  ∀ s : State,
    (s.jobs.link.holder ≠ 0 → 2000 ≤ s.jobs.link.inWin → s.jobs.link.swlink = false → ctlRuns s = true → switchesHeld s = false →
      ∃ t, exec .swlinkClose s = .next t ∧ t.jobs.link.swlink = true ∧ t.shadow.swlink = true ∧ par t gSRC 4 SRC.SWLINK_REQ = 0 ∧
        t.jobs.lanes = s.jobs.lanes ∧ t.jobs.link.holder = s.jobs.link.holder ∧ t.outs = s.outs ∧ t.host = s.host) ∧
    (s.jobs.link.lown = false → 0 < s.jobs.link.lownOn → par s gSRC 4 SRC.LOWN_ASSERT ≤ s.jobs.link.lownOn →
      ∃ t, exec .linklownAssert s = .next t ∧ t.outs = { s.outs with lown := true } ∧ t.jobs.link = { s.jobs.link with lown := true } ∧
        Told s t Ev.LINK_LOW (2 ^ 8 + s.jobs.link.lownMask) ∧ t.jobs.lanes = s.jobs.lanes) ∧
    (s.jobs.link.lown = true → 0 < s.jobs.link.lownOff → par s gSRC 4 SRC.LOWN_RELEASE ≤ s.jobs.link.lownOff →
      ∃ t, exec .linklownRelease s = .next t ∧ t.outs = { s.outs with lown := false } ∧ t.jobs.link = { s.jobs.link with lown := false } ∧
        Told s t Ev.LINK_LOW 0 ∧ t.jobs.lanes = s.jobs.lanes)

/-- For a pack served by a pack lane: attachment enters QUALIFY, a passed check allows the switch, a settled switch starts PRECHARGE,
STORAGE, CC or MAINTAIN, PRECHARGE ends in CC or, at its timeout, in REST with cause 1 and one more retry, CC in CV or, unanchored, in
REST with cause 3, CV in TAPER or REST with cause 4, the charge timeout in REST with cause 2, TAPER in REST with cause 4, REST in
PRECHARGE or by SOC, MAINTAIN in CC, a supply current in SUPPLY with the phase to resume noted, and its end back by SOC. (R295, R299,
R300, R307, R308, R319) -/
def Obligations.PackSessionRows : Prop :=
  ∀ (s : State) (p n : Nat), packLane s p = some n → p < nPp s → p < s.jobs.packs.length →
    ((s.pack p).ph = .absent → (s.pack p).holdoff = none → par s gCHG p CHG.PARTNER = 1 → inPackContract (s.port p) = true →
      ∃ t, exec (.packAttached p) s = .next t ∧ (t.pack p).ph = .qualify ∧ (t.pack p).connect = false ∧
        Told s t Ev.PACK_ATTACHED (p * 2 ^ 8 + 1) ∧ t.jobs.lanes = s.jobs.lanes ∧ ∀ q, q ≠ p → t.pack q = s.pack q) ∧
    ((s.pack p).ph = .qualify → (s.pack p).connect = false → par s gCHG 16 CHG.UQUAL_FRAMES ≤ (s.pack p).qual →
      ∃ t, exec (.packQualified p) s = .next t ∧ t.pack p = { s.pack p with connect := true, openLater := false } ∧ t.host = s.host ∧
        t.jobs.lanes = s.jobs.lanes ∧ ∀ q, q ≠ p → t.pack q = s.pack q) ∧
    (∀ x, (s.pack p).ph = .qualify → (s.pack p).connect = true → (s.pack p).swFor = some x → par s gCHG 16 CHG.USW_SETTLE ≤ x →
      (∀ v, cellV s p CHG.PRE_V_CELL = some v → v ≤ packV s p) →
      ∃ t, exec (.packSwitchSettled p) s = .next t ∧
        (t.pack p).ph = (if par s gCHG p CHG.STORAGE_REQ = 1 then .storage else if (s.pack p).unanch then .cc else rechargePhase s p) ∧
        t.jobs.lanes = s.jobs.lanes ∧ ∀ q, q ≠ p → t.pack q = s.pack q) ∧
    ((s.pack p).ph = .precharge → 1000 ≤ (s.pack p).run1 →
      ∃ t, exec (.prechargeDone p) s = .next t ∧ (t.pack p).ph = .cc ∧ (t.pack p).chgClk = 0 ∧
        Told s t Ev.PACK_PHASE (p * 2 ^ 16 + (s.pack p).cause * 2 ^ 8 + 2 * 2 ^ 4 + 3) ∧ ∀ q, q ≠ p → t.pack q = s.pack q) ∧
    ((s.pack p).ph = .precharge → profF s p CHG.PRE_TIMEOUT ≤ (s.pack p).preClk →
      ∃ t, exec (.prechargeTimeout p) s = .next t ∧ (t.pack p).ph = .rest ∧ (t.pack p).cause = 1 ∧
        (t.pack p).retries = incSat 32 (s.pack p).retries ∧ ∀ q, q ≠ p → t.pack q = s.pack q) ∧
    ((s.pack p).ph = .cc → 1000 ≤ (s.pack p).run1 →
      ∃ t, exec (.ccDone p) s = .next t ∧ (t.pack p).ph = (if (s.pack p).unanch then .rest else .cv) ∧
        ((s.pack p).unanch = true → (t.pack p).cause = 3) ∧ (t.pack p).chgClk = (s.pack p).chgClk ∧ ∀ q, q ≠ p → t.pack q = s.pack q) ∧
    ((s.pack p).ph = .cv → profF s p CHG.TERM_FRAMES ≤ (s.pack p).termRun → 0 < (s.pack p).termRun → topOffWanted s p = false →
      (s.pack p).unanch = true →
      ∃ t, exec (.chargeTerminated p) s = .next t ∧ (t.pack p).ph = .rest ∧ (t.pack p).cause = 4 ∧ (t.pack p).soc = (s.pack p).soc ∧
        ∀ q, q ≠ p → t.pack q = s.pack q) ∧
    ((s.pack p).ph = .cv → profF s p CHG.TERM_FRAMES ≤ (s.pack p).termRun → 0 < (s.pack p).termRun → (s.pack p).unanch = false →
      regDV s p (s.pack p).region = 0 → s.jobs.unit.fallback = false →
      ∃ t, exec (.chargeTerminated p) s = .next t ∧ (t.pack p).soc = socFull ∧ (t.pack p).eocFor = some 0 ∧
        (t.pack p).ph = (if topOffWanted s p then .taper else .rest) ∧ ∀ q, q ≠ p → t.pack q = s.pack q) ∧
    ((s.pack p).ph = .cc ∨ (s.pack p).ph = .cv → profF s p CHG.CHG_TIMEOUT ≤ (s.pack p).chgClk →
      ∃ t, exec (.chargeTimeout p) s = .next t ∧ (t.pack p).ph = .rest ∧ (t.pack p).cause = 2 ∧ ∀ q, q ≠ p → t.pack q = s.pack q) ∧
    (∀ x, (s.pack p).ph = .taper → (s.pack p).topFor = some x → profF s p CHG.TOPOFF_TIME ≤ x →
      ∃ t, exec (.taperEnd p) s = .next t ∧ (t.pack p).ph = .rest ∧ (t.pack p).cause = 4 ∧ (t.pack p).topFor = none ∧
        ∀ q, q ≠ p → t.pack q = s.pack q) ∧
    ((s.pack p).ph = .taper → (s.pack p).topFor = none → 360000000 ≤ (s.pack p).inPh →
      ∃ t, exec (.taperNoGrant p) s = .next t ∧ (t.pack p).ph = .rest ∧ (t.pack p).cause = 4 ∧ ∀ q, q ≠ p → t.pack q = s.pack q) ∧
    ((s.pack p).ph = .rest → profF s p (if (s.pack p).cause = 1 then CHG.PRE_REST else CHG.REST_TIME) ≤ (s.pack p).inPh →
      (∀ v, cellV s p CHG.PRE_V_CELL = some v → v ≤ packV s p) →
      ∃ t, exec (.restEnd p) s = .next t ∧ (t.pack p).ph = rechargePhase s p ∧ ∀ q, q ≠ p → t.pack q = s.pack q) ∧
    ((s.pack p).ph = .maintain → 1000 ≤ (s.pack p).mntRun →
      ∃ t, exec (.maintainRecharge p) s = .next t ∧ (t.pack p).ph = .cc ∧ (t.pack p).chgClk = 0 ∧ ∀ q, q ≠ p → t.pack q = s.pack q) ∧
    ((s.pack p).ph ∈ [PkPh.cc, .cv, .taper, .rest, .maintain, .storage] → 100 ≤ (s.pack p).supRun →
      ∃ t, exec (.supplyEnter p) s = .next t ∧ (t.pack p).ph = .supply ∧ (t.pack p).resume = (s.pack p).ph ∧
        Told s t Ev.PACK_PHASE (p * 2 ^ 16 + (s.pack p).cause * 2 ^ 8 + (s.pack p).ph.code * 2 ^ 4 + 9) ∧ ∀ q, q ≠ p → t.pack q = s.pack q) ∧
    ((s.pack p).ph = .supply → (s.pack p).test = none → 100 ≤ (s.pack p).noSupRun → par s gCHG p CHG.STORAGE_REQ ≠ 1 →
      ∃ t, exec (.supplyExit p) s = .next t ∧
        (t.pack p).ph = (if (s.pack p).resume = .maintain ∧ socBelow (s.pack p) (profF s p CHG.RECHG_SOC) = false then .maintain else .cc) ∧
        ∀ q, q ≠ p → t.pack q = s.pack q)

/-- The open-circuit anchor sets the state of charge to the table's value, the floor anchor to 0; a capacity test that reaches the floor
ends with the charge it delivered and charging begins, at its time limit it ends; a current collapse ends the session with its hold-off
begun, the retries and the throughput kept, and its running lane OFF; the hold-off ends after HOLDOFF frames. The anchors, the test and
the end of the hold-off leave other packs as they are. (R306, R309, R310, R311) -/
def Obligations.PackAnchorAndRemovalRows : Prop :=
  (∀ (s : State) (p n : Nat), packLane s p = some n → p < nPp s → (s.pack p).ph ≠ .absent →
    (∀ v, par s gCHG 16 CHG.ANCHOR_FRAMES ≤ (s.pack p).ocvRun → 0 < (s.pack p).ocvRun → ocvSoc s p (packV s p) = some v →
      ∃ t, exec (.socAnchorOcv p) s = .next t ∧ (t.pack p).soc = v ∧ (t.pack p).unanch = false ∧ (t.pack p).ocvRun = 0 ∧
        (t.pack p).ph = (s.pack p).ph ∧ t.jobs.lanes = s.jobs.lanes ∧ ∀ q, q ≠ p → t.pack q = s.pack q) ∧
    (1000 ≤ (s.pack p).flrRun →
      ∃ t, exec (.socAnchorFloor p) s = .next t ∧ (t.pack p).soc = 0 ∧ (t.pack p).flrRun = 0 ∧ (t.pack p).ph = (s.pack p).ph ∧
        t.jobs.lanes = s.jobs.lanes ∧ ∀ q, q ≠ p → t.pack q = s.pack q) ∧
    (∀ x, (s.pack p).test = some x → 1000 ≤ (s.pack p).testRun →
      ∃ t, exec (.captestFloorReached p) s = .next t ∧ (t.pack p).test = none ∧ (t.pack p).ph = .cc ∧ (t.pack p).soc = 0 ∧
        (t.pack p).capMeas = fitU 16 (divR (s.pack p).testAh 36000000000) ∧ ∀ q, q ≠ p → t.pack q = s.pack q) ∧
    (∀ x, (s.pack p).test = some x → par s gCHG 16 CHG.CAPTEST_MAX ≤ x →
      ∃ t, exec (.captestTimeout p) s = .next t ∧ (t.pack p).test = none ∧ (t.pack p).testWant = false ∧ (t.pack p).ph = (s.pack p).ph ∧
        (t.pack p).capMeas = (s.pack p).capMeas ∧ Told s t Ev.CAPTEST_DONE (p * 2 ^ 8 + 1) ∧ ∀ q, q ≠ p → t.pack q = s.pack q) ∧
    (2 ≤ (s.pack p).collapse → (s.lane n).st = .run →
      ∃ t, exec (.packRemovalCollapse p) s = .next t ∧ (t.pack p).ph = .absent ∧ (t.pack p).holdoff = some 0 ∧
        (t.pack p).retries = (s.pack p).retries ∧ (t.pack p).ahThru = (s.pack p).ahThru ∧ (t.lane n).st = .off)) ∧
  (∀ (s : State) (p x : Nat), (s.pack p).holdoff = some x → par s gCHG 16 CHG.HOLDOFF ≤ x →
    ∃ t, exec (.packHoldoffEnd p) s = .next t ∧ t.pack p = { s.pack p with holdoff := none } ∧ t.host = s.host ∧
      ∀ q, q ≠ p → t.pack q = s.pack q)

/-- 15,000 frames with the same partner give ATTACHED with the talk wire latched: a provider takes the cable code it sees and sends HELLO
under ID 0, a taker on a cable measures. 200 frames of measurement give the taker its code, and a HELLO that waited for it goes out.
1,000 frames without the talk wire detach: no contract, the running partner lane OFF, SWPPx wanted open. A DETACHED dual-role port turns
after 40 ms or 35 ms. A discarded frame is counted and not answered. (R321, R323, R324, R325, R329, R337) -/
def Obligations.PortAttachRows : Prop :=
  ∀ (s : State) (p : Nat), HasPort s p →
    (∀ w c, (s.port p).st = .attachWait → 15000 ≤ (s.port p).seenRun → (s.port p).seen = some (w, c) →
      ∃ t, exec (.portAttach p) s = .next t ∧ (t.port p).st = .attached ∧ (t.port p).talk = w ∧
        (t.port p).code = (if (s.port p).prov = true ∨ c = 0 then c else 0xFF) ∧
        (t.port p).plug = (if (s.port p).prov = true ∨ c = 0 then none else some 0) ∧ (t.port p).ver = 0 ∧
        ((s.port p).prov = true → ∃ pay, Sent t p 0 Ple.HELLO pay) ∧ ((s.port p).prov = false → (t.port p).unacked = none) ∧
        Told s t Ev.PORT_STATE (p * 2 ^ 8 + 2 ^ 4 + PtSt.attached.code) ∧ t.jobs.lanes = s.jobs.lanes ∧
        ∀ q, q ≠ p → t.port q = s.port q) ∧
    (∀ k v, (s.port p).plug = some k → 200 ≤ k → (s.port p).st = .attached → (s.port p).prov = false → (s.port p).helloRx = false →
      portOpIs (s.port p) [4] = false →
      exec (.plugMeasurementDone p v) s = .next (s.modPort p fun x => { x with code := cableCode v, plug := none })) ∧
    (∀ k v, (s.port p).plug = some k → 200 ≤ k → (s.port p).st = .attached → (s.port p).prov = false → (s.port p).helloRx = true →
      (s.port p).helloOut = false → (s.port p).helloTx = false → WireFree s p → portOpIs (s.port p) [4] = false →
      ∃ t, exec (.plugMeasurementDone p v) s = .next t ∧ (t.port p).code = cableCode v ∧ (∃ pay, Sent t p (s.port p).nextId Ple.HELLO pay) ∧
        t.host = s.host ∧ ∀ q, q ≠ p → t.port q = s.port q) ∧
    ((s.port p).st.isAttached = true → (s.port p).st ≠ .swapping → 1000 ≤ (s.port p).lostRun →
      ∃ t, exec (.portDetach p) s = .next t ∧ (t.port p).st = .detached ∧ (t.port p).con = .none ∧ (t.port p).unacked = none ∧
        (∀ n, laneOfPort s p = some n → lnKind s n = 4 → (s.lane n).st = .run →
          (t.lane n).st = .off ∧ (p < s.shadow.swpp.length → t.shadow.swpp.getD p true = false)) ∧
        (∀ n, packLane s p = some n → (s.pack p).ph ≠ .absent → (t.pack p).ph = .absent ∧ (t.pack p).holdoff = some 0)) ∧
    (par s gPRT p PRT.MODE = 1 → par s gPRT p PRT.PRESENT = 2 → (s.port p).st = .detached →
      (if (s.port p).prov then 4000 else 3500) ≤ (s.port p).dualAge →
      exec (.dualRoleToggle p) s = .next (s.modPort p fun x => { x with prov := !(s.port p).prov, dualAge := 0 })) ∧
    (s.clocked = true → ∃ t, exec (.partnerFrameDiscarded p) s = .next t ∧ (t.port p).crcErr = incSat 32 (s.port p).crcErr ∧
      t = s.modPort p fun x => { x with crcErr := (t.port p).crcErr, wireFor := 0 })

/-- An ACK that carries the ID of the unacknowledged message settles it: HELLO is noted, a REQUEST answered OK is held to be granted, the
READY of a provider makes the contract; the next message in waiting goes out. An ACK with another ID only ends the wire's idle time.
3,000 frames without it resend under the same ID, counted, twice at most; then a port in ATTACHED, NEGOTIATING or CONTRACT begins a soft
reset with cause 1, one in SOFT_RESET a hard reset. An aborted frame goes out again and is not counted as a send. (R330, R331, R334,
R338) -/
def Obligations.PortAckRows : Prop :=
  ∀ (s : State) (p : Nat) (m : PMsg) (k a : Nat), HasPort s p → (s.port p).unacked = some (m, k, a) →
   (s.clocked = true → (s.port p).st.hears = true →
    (∀ pl, lenLimit (s.port p) < pl.length →
      exec (.plehalAck p pl) s = .next (s.modPort p fun x => { x with crcErr := incSat 32 x.crcErr, wireFor := 0 })) ∧
    (∀ pl, pl.length ≤ lenLimit (s.port p) → m.id ≠ fld pl 0 1 →
      exec (.plehalAck p pl) s = .next (s.modPort p fun x => { x with wireFor := 0 })) ∧
    (∀ pl, pl.length ≤ lenLimit (s.port p) → m.id = fld pl 0 1 → (s.port p).queue = [] → m.typ = Ple.PING →
      exec (.plehalAck p pl) s = .next (s.modPort p fun x => { x.dropOwn with quiet := 0, wireFor := 0 })) ∧
    (∀ pl ty pay rest, pl.length ≤ lenLimit (s.port p) → m.id = fld pl 0 1 → (s.port p).queue = (ty, pay) :: rest → m.typ = Ple.PING →
      ∃ t, exec (.plehalAck p pl) s = .next t ∧ Sent t p (s.port p).nextId ty pay ∧ (t.port p).queue = rest ∧
        (t.port p).nextId = ((s.port p).nextId + 1) % 256 ∧ t.host = s.host) ∧
    (∀ pl, pl.length ≤ lenLimit (s.port p) → m.id = fld pl 0 1 → fld pl 1 1 = 0 → m.typ = Ple.HELLO → (s.port p).st = .attached → (s.port p).helloRx = false →
      (s.port p).queue = [] →
      exec (.plehalAck p pl) s = .next (s.modPort p fun x => { x.dropOwn with quiet := 0, wireFor := 0, helloTx := true })) ∧
    (∀ pl, pl.length ≤ lenLimit (s.port p) → m.id = fld pl 0 1 → fld pl 1 1 = 0 → m.typ = Ple.REQUEST → (s.port p).st = .negotiating → (s.port p).next ≠ .null →
      (s.port p).queue = [] →
      exec (.plehalAck p pl) s = .next (s.modPort p fun x => { x.dropOwn with quiet := 0, wireFor := 0, reqOk := true })) ∧
    (∀ pl, pl.length ≤ lenLimit (s.port p) → m.id = fld pl 0 1 → fld pl 1 1 = 0 → m.typ = Ple.READY → (s.port p).st = .negotiating → (s.port p).prov = true →
      (s.port p).reqOk = true →
      ∃ t, exec (.plehalAck p pl) s = .next t ∧ (t.port p).st = .contract ∧ (t.port p).con = (s.port p).next ∧ (t.port p).void = false ∧
        t.jobs.lanes = s.jobs.lanes ∧ (∀ q, q ≠ p → t.port q = s.port q) ∧
        Tells s t Ev.CONTRACT ((s.port p).next.volt * 2 ^ 16 + p * 2 ^ 8 + (s.port p).next.kind))) ∧
    (3000 ≤ a → k < 3 →
      ∃ t, exec (.plehalResponseTimeout p) s = .next t ∧ (t.port p).unacked = some (m, k + 1, 0) ∧ m ∈ (t.port p).out ∧
        (t.port p).resends = incSat 32 (s.port p).resends ∧ (t.port p).st = (s.port p).st ∧ (t.port p).nextId = (s.port p).nextId ∧
        t.host = s.host ∧ ∀ q, q ≠ p → t.port q = s.port q) ∧
    (3000 ≤ a → 3 ≤ k → (s.port p).st ∈ [PtSt.attached, .negotiating, .contract] →
      ∃ t, exec (.plehalResponseTimeout p) s = .next t ∧ (t.port p).st = .softReset ∧ (t.port p).cause = 1 ∧ (t.port p).void = true ∧
        (t.port p).softN = incSat 32 (s.port p).softN ∧ Sent t p (s.port p).nextId Ple.SOFT_RESET [] ∧
        Tells s t Ev.PORT_SOFT_RESET (p * 2 ^ 8 + 1) ∧ t.jobs.lanes = s.jobs.lanes ∧ ∀ q, q ≠ p → t.port q = s.port q) ∧
    (3000 ≤ a → 3 ≤ k → (s.port p).st = .softReset →
      ∃ t, exec (.plehalResponseTimeout p) s = .next t ∧ (t.port p).st = .hardReset ∧ (t.port p).cause = 1 ∧ (t.port p).con = .none ∧
        (t.port p).ver = 0 ∧ (t.port p).unacked = none ∧ (t.port p).hardN = incSat 32 (s.port p).hardN ∧
        ((s.port p).markDue = true → marker ∈ (t.port p).out)) ∧
    (∀ f, (s.port p).lastTx = some f → 0 < (s.port p).busyFor →
      ∃ t b, exec (.plehalTxRetry p) s = .next t ∧ b ≤ 20 ∧
        t = ({ s with freeCtr := s.freeCtr + 1 } : State).modPort p fun x =>
          { x with out := f :: x.out, busyFor := 0, wireFor := 0, backoff := b }) ∧
    ((s.port p).busyFor = 0 → exec (.plehalTxRetry p) s = .next s)

/-- Each new message is answered by an ACK with its ID. PING changes nothing else; a resend is answered as before and not acted on.
SOFT_RESET voids the contract and the numbering starts again, in NEGOTIATING, or in ATTACHED while a check that AUTH_MODE 2 asks for has
not passed. HELLO is noted and, with the own one acknowledged, the highest common version is selected. ALERT is told; a stop of supply
ends the demand, another one resets. A taker answers CAPS with the REQUEST of the best offer, and takes the contract on READY; a
provider answers GET_CAPS with CAPS, judges REQUEST by its offers and makes a null contract of offer 0. A message longer than the
version allows is discarded. (R331, R332, R337, R338, R339, R340, R343, R345, R353) -/
def Obligations.PortSupplyMessages : Prop :=
  ∀ (s : State) (p id : Nat),
    (NewMsg s p Ple.PING id 0 → ∃ t, exec (.plehalPing p id) s = .next t ∧ OnlyAcked s t p Ple.PING id 0) ∧
    (∀ r pl, HasPort s p → s.clocked = true → (s.port p).st.isAttached = true → pl.length ≤ lenLimit (s.port p) →
      (s.port p).lastRx = some (Ple.REQUEST, id, r) →
      exec (.plehalRequest p id pl) s = .next (s.modPort p fun x => ({ x with wireFor := 0 } : PtPort).ackFirst (ackMsg id r))) ∧
    (∀ pl, HasPort s p → s.clocked = true → (s.port p).st.isAttached = true → lenLimit (s.port p) < pl.length →
      exec (.plehalRequest p id pl) s = .next (s.modPort p fun x => { x with crcErr := incSat 32 x.crcErr, wireFor := 0 })) ∧
    (NewMsg s p Ple.SOFT_RESET id 0 → (s.port p).st ∈ [PtSt.attached, .negotiating, .contract] → (s.port p).ver ≠ 0 →
      ∃ t, exec (.plehalSoftReset p id) s = .next t ∧ (t.port p).st = (if authWanted s p then .attached else .negotiating) ∧ (t.port p).void = true ∧ (t.port p).lastRx = none ∧
        ackMsg id 0 ∈ (t.port p).out ∧ (t.port p).softN = incSat 32 (s.port p).softN ∧
        Tells s t Ev.PORT_SOFT_RESET (p * 2 ^ 8 + 2) ∧ t.jobs.lanes = s.jobs.lanes ∧ ∀ q, q ≠ p → t.port q = s.port q) ∧
    (∀ pl, NewMsg s p Ple.HELLO id pl.length → (s.port p).st = .attached → (s.port p).prov = true → (s.port p).helloTx = false →
      ∃ t, exec (.plehalHello p id pl) s = .next t ∧ Acked t p Ple.HELLO id 0 ∧ (t.port p).helloRx = true ∧ (t.port p).pMin = fld pl 0 1 ∧
        (t.port p).pMax = fld pl 1 1 ∧ (t.port p).code2 = helloCode pl ∧ (t.port p).st = .attached ∧ t.host = s.host ∧
        ∀ q, q ≠ p → t.port q = s.port q) ∧
    (∀ pl v, NewMsg s p Ple.HELLO id pl.length → (s.port p).st = .attached → (s.port p).prov = true → (s.port p).helloTx = true →
      (s.port p).verDone = false → par s gPRT p PRT.AUTH_MODE ≠ 2 →
      v = selectVersion (par s gPRT p PRT.VER_MAX) (fld pl 0 1) (fld pl 1 1) → v ≠ 0 →
      ∃ t, exec (.plehalHello p id pl) s = .next t ∧ Acked t p Ple.HELLO id 0 ∧ (t.port p).ver = v ∧ (t.port p).st = .negotiating ∧
        Tells s t Ev.PARTNER_VERSION (v * 2 ^ 16 + p * 2 ^ 8 + fld pl 1 1) ∧ ∀ q, q ≠ p → t.port q = s.port q) ∧
    (∀ pl, NewMsg s p Ple.ALERT id pl.length → 0x11 ≤ (s.port p).ver →
      ∃ t, exec (.plehalAlert p id pl) s = .next t ∧ Tells s t Ev.PARTNER_ALERT (fld pl 0 1 * 2 ^ 16 + p * 2 ^ 8 + fld pl 1 1) ∧
        (fld pl 1 1 ≠ 1 → Acked t p Ple.ALERT id 0 ∧ (t.port p).st = (s.port p).st ∧ (t.port p).noDemand = (s.port p).noDemand) ∧
        (fld pl 1 1 = 1 → fld pl 0 1 = 6 → Acked t p Ple.ALERT id 0 ∧ (t.port p).st = (s.port p).st ∧ (t.port p).noDemand = true) ∧
        (fld pl 1 1 = 1 → fld pl 0 1 ≠ 6 → (s.port p).st = .contract → (t.port p).st = .softReset ∧ (t.port p).cause = 5)) ∧
    (∀ pl k v i tol, NewMsg s p Ple.CAPS id pl.length → WireFree s p → (s.port p).prov = false → (s.port p).st = .negotiating →
      chooseOffer s p (parseOffers pl) = some (k, v, i, tol) →
      ∃ t, exec (.plehalCaps p id pl) s = .next t ∧ Acked t p Ple.CAPS id 0 ∧ (t.port p).next = .supply v i i tol ∧
        Sent t p (s.port p).nextId Ple.REQUEST ([byte k, 0] ++ leBytes 2 i ++ leBytes 2 i) ∧ t.host = s.host ∧
        ∀ q, q ≠ p → t.port q = s.port q) ∧
    (∀ pl, NewMsg s p Ple.CAPS id pl.length → (s.port p).prov = true → ∃ t, exec (.plehalCaps p id pl) s = .next t ∧ OnlyAcked s t p Ple.CAPS id 1) ∧
    (NewMsg s p Ple.GET_CAPS id 0 → WireFree s p → (s.port p).prov = true → (s.port p).st = .negotiating →
      ∃ t, exec (.plehalGetCaps p id) s = .next t ∧ Acked t p Ple.GET_CAPS id 0 ∧ (t.port p).offers = advertised s p ∧
        Sent t p (s.port p).nextId Ple.CAPS (capsPay (advertised s p)) ∧ t.host = s.host ∧ ∀ q, q ≠ p → t.port q = s.port q) ∧
    (∀ pl k o, NewMsg s p Ple.REQUEST id pl.length → (s.port p).prov = true → (s.port p).st = .negotiating → 6 ≤ pl.length → fld pl 0 1 = k + 1 →
      (s.port p).offers[k]? = some o →
      ∃ t, exec (.plehalRequest p id pl) s = .next t ∧
        (fld pl 4 2 ≤ o.i → Acked t p Ple.REQUEST id 0 ∧ (t.port p).next = .supply o.v (fld pl 2 2) (fld pl 4 2) o.tol ∧
          (t.port p).reqOk = true ∧ (t.port p).st = .negotiating ∧ (t.port p).con = (s.port p).con) ∧
        (o.i < fld pl 4 2 → OnlyAcked s t p Ple.REQUEST id 1)) ∧
    (∀ pl, NewMsg s p Ple.REQUEST id pl.length → (s.port p).prov = true → (s.port p).st = .negotiating → 1 ≤ pl.length → fld pl 0 1 = 0 →
      ∃ t, exec (.plehalRequest p id pl) s = .next t ∧ (t.port p).st = .contract ∧ (t.port p).con = .null ∧ t.jobs.lanes = s.jobs.lanes ∧
        Tells s t Ev.CONTRACT (p * 2 ^ 8 + Contract.null.kind)) ∧
    (∀ pl, NewMsg s p Ple.READY id pl.length → (s.port p).prov = false → (s.port p).st = .negotiating → (s.port p).reqOk = true → 2 ≤ pl.length →
      (s.port p).pkReq = none →
      ∃ t, exec (.plehalReady p id pl) s = .next t ∧ Acked t p Ple.READY id 0 ∧ (t.port p).st = .contract ∧
        (t.port p).con = (s.port p).next ∧ t.jobs.lanes = s.jobs.lanes ∧ (∀ q, q ≠ p → t.port q = s.port q) ∧
        Tells s t Ev.CONTRACT ((s.port p).next.volt * 2 ^ 16 + p * 2 ^ 8 + (s.port p).next.kind))

/-- A taker answers PACK_CAPS with PACK_REQUEST, null where the cable does not bear V_MAX or no pack lane serves the port. PACK_STATUS is
kept and completes a granted contract. ROLE_SWAP is taken up, refused, or told to wait; SWAP_OFF makes the controller provider, with the
port job, once its ACK is off the wire. The own certificate is given in parts and the own signature over a nonce. The partner's
certificate is gathered in order, a wrong part fails; a signature ends the check with 0 where chain and signature hold, 1 for the chain,
2 for the signature. An unknown TYPE is answered NOT_SUPPORTED. (R334, R336, R341, R342, R349, R351, R357, R358, R359) -/
def Obligations.PortPackAndRoleMessages : Prop :=
  ∀ (s : State) (p id : Nat),
    (∀ pl vm, NewMsg s p Ple.PACK_CAPS id pl.length → WireFree s p → (s.port p).prov = false → (s.port p).st = .negotiating →
      vm = (if 6 ≤ pl.length then some (fld pl 4 2) else none) →
      ∃ t pay, exec (.plehalPackCaps p id pl) s = .next t ∧ Acked t p Ple.PACK_CAPS id 0 ∧ Sent t p (s.port p).nextId Ple.PACK_REQUEST pay ∧
        (t.port p).next = (if vm.any (fun v => decide (ratingV s p < v)) ∨ packLane s p = none then .null else .pack) ∧
        (t.port p).pk.map (·.vMax) = some vm ∧ (t.port p).st = .negotiating ∧ ∀ q, q ≠ p → t.port q = s.port q) ∧
    (∀ pl, NewMsg s p Ple.PACK_STATUS id pl.length → (s.port p).prov = false → (s.port p).pk ≠ none → (s.port p).st = .contract →
      ∃ t, exec (.plehalPackStatus p id pl) s = .next t ∧ Acked t p Ple.PACK_STATUS id 0 ∧
        (t.port p).stat = some (parseStatus (s.port p).ver pl) ∧ (t.port p).st = .contract ∧ (t.port p).con = (s.port p).con ∧
        t.host = s.host ∧ ∀ q, q ≠ p → t.port q = s.port q) ∧
    (∀ pl, NewMsg s p Ple.PACK_STATUS id pl.length → (s.port p).prov = false → (s.port p).pk ≠ none → (s.port p).st = .negotiating →
      (s.port p).reqOk = true → (s.port p).readyOk = true →
      ∃ t, exec (.plehalPackStatus p id pl) s = .next t ∧ (t.port p).st = .contract ∧ (t.port p).con = (s.port p).next ∧
        (t.port p).stat = some (parseStatus (s.port p).ver pl)) ∧
    (NewMsg s p Ple.ROLE_SWAP id 0 → (s.port p).ver < 0x20 →
      ∃ t, exec (.plehalRoleSwap p id) s = .next t ∧ OnlyAcked s t p Ple.ROLE_SWAP id 3) ∧
    (NewMsg s p Ple.ROLE_SWAP id 0 → 0x20 ≤ (s.port p).ver → (s.port p).unacked = none → swapAllowed s p = true →
      ∃ t, exec (.plehalRoleSwap p id) s = .next t ∧ Acked t p Ple.ROLE_SWAP id 0 ∧ (t.port p).st = .swapping ∧ (t.port p).con = .none ∧
        (t.port p).swapOld = (s.port p).prov ∧ ∀ q, q ≠ p → t.port q = s.port q) ∧
    (NewMsg s p Ple.ROLE_SWAP id 0 → 0x20 ≤ (s.port p).ver → (s.port p).unacked = none → swapAllowed s p = false →
      ∃ t, exec (.plehalRoleSwap p id) s = .next t ∧ OnlyAcked s t p Ple.ROLE_SWAP id 1) ∧
    (NewMsg s p Ple.SWAP_OFF id 0 → 0x20 ≤ (s.port p).ver → (s.port p).st = .swapping → (s.port p).swapOld = false →
      ∃ t, exec (.plehalSwapOff p id) s = .next t ∧ Acked t p Ple.SWAP_OFF id 0 ∧ (t.port p).takeOver = true ∧
        (t.port p).prov = (s.port p).prov ∧ (t.port p).st = .swapping ∧ t.host = s.host ∧ t.jobs.lanes = s.jobs.lanes ∧
        ∀ q, q ≠ p → t.port q = s.port q) ∧
    (HasPort s p → (s.port p).takeOver = true → (s.port p).busyFor = 0 → (s.port p).out.any PMsg.isAck = false →
      ((swapTaken p s).port p).prov = true ∧ ((swapTaken p s).port p).st = .negotiating ∧ ((swapTaken p s).port p).takeOver = false ∧
        Tells s (swapTaken p s) Ev.ROLE_SWAPPED (p * 2 ^ 8 + 1) ∧ (swapTaken p s).jobs.lanes = s.jobs.lanes ∧
        ∀ q, q ≠ p → (swapTaken p s).port q = s.port q) ∧
    (∀ pl, NewMsg s p Ple.AUTH_CERT_GET id pl.length → 0x22 ≤ (s.port p).ver → WireFree s p →
      ∃ t, exec (.plehalAuthCertGet p id pl) s = .next t ∧
        (1 ≤ fld pl 2 1 ∧ fld pl 2 1 ≤ 64 → Acked t p Ple.AUTH_CERT_GET id 0 ∧ t.host = s.host ∧
          Sent t p (s.port p).nextId Ple.AUTH_CERT
            (leBytes 2 (fld pl 0 2) ++ leBytes 2 s.cert.length ++ (s.cert.drop (fld pl 0 2)).take (fld pl 2 1))) ∧
        (fld pl 2 1 = 0 ∨ 64 < fld pl 2 1 → OnlyAcked s t p Ple.AUTH_CERT_GET id 1)) ∧
    (∀ pl a, NewMsg s p Ple.AUTH_CERT id pl.length → 0x22 ≤ (s.port p).ver → WireFree s p → (s.port p).auth = some a → a.step = 1 →
      ∃ t, exec (.plehalAuthCert p id pl) s = .next t ∧ Acked t p Ple.AUTH_CERT id 0 ∧
        (fld pl 2 2 ≤ 1024 → fld pl 0 2 = a.bytes.length → 4 < pl.length → a.bytes.length + (pl.length - 4) < fld pl 2 2 →
          (t.port p).auth.map (·.bytes) = some (a.bytes ++ pl.drop 4) ∧
          Sent t p (s.port p).nextId Ple.AUTH_CERT_GET (leBytes 2 (a.bytes ++ pl.drop 4).length ++ [64, 0]) ∧ t.host = s.host) ∧
        (fld pl 2 2 ≤ 1024 → fld pl 0 2 = a.bytes.length → 4 < pl.length → fld pl 2 2 ≤ a.bytes.length + (pl.length - 4) →
          (t.port p).auth.map (·.step) = some 2 ∧ t.freeCtr = s.freeCtr + 32 ∧
          Sent t p (s.port p).nextId Ple.AUTH_CHALLENGE ((List.range 32).map fun k => Config.randomByte (s.freeCtr + k))) ∧
        (fld pl 0 2 ≠ a.bytes.length → (s.port p).st ≠ .attached → (t.port p).auth = none ∧ (t.port p).authRes = some 1 ∧
          Told s t Ev.PARTNER_AUTH (p * 2 ^ 8 + 1))) ∧
    (∀ pl, NewMsg s p Ple.AUTH_CHALLENGE id pl.length → 0x22 ≤ (s.port p).ver → WireFree s p → 32 ≤ pl.length →
      ∃ t, exec (.plehalAuthChallenge p id pl) s = .next t ∧ Acked t p Ple.AUTH_CHALLENGE id 0 ∧ t.host = s.host ∧
        Sent t p (s.port p).nextId Ple.AUTH_SIGN (ecdsaSign s.ident.priv (Config.sigNonce s.freeCtr)
          (sha256 (pl.take 32 ++ [if (s.port p).prov then 0x01 else 0x02])))) ∧
    (∀ pl a, NewMsg s p Ple.AUTH_SIGN id pl.length → 0x22 ≤ (s.port p).ver → (s.port p).auth = some a → a.step = 2 → (s.port p).st = .contract →
      ∃ t, exec (.plehalAuthSign p id pl) s = .next t ∧ Acked t p Ple.AUTH_SIGN id 0 ∧ (t.port p).auth = none ∧ (t.port p).st = .contract ∧
        (t.port p).authRes = some (match certCheck (keyAt s (par s gPRT p PRT.AUTH_KEY)) a.bytes with
          | none => 1
          | some c => if ecdsaVerify c.key (sha256 (a.nonce ++ [if (s.port p).prov then 0x02 else 0x01])) (pl.take 64) then 0 else 2) ∧
        ∀ q, q ≠ p → t.port q = s.port q) ∧
    (∀ typ len, NewMsg s p typ id len → ∃ t, exec (.plehalUnknownMessage p typ ⟨id, len⟩) s = .next t ∧ OnlyAcked s t p typ id 3)

/-- A taker sends HELLO after 0.5 s, a provider READY after 100 frames within the tolerance; a taker's port settles likewise, and 1,000
frames outside it soft reset the port with cause 8 and its demand off. One second of NEGOTIATING soft resets with cause 4. PING after
0.5 s without an exchange; GET_STATUS after two periods without PACK_STATUS, soft reset with cause 7 after 0.9 s. The old provider of a
swap sends SWAP_OFF on a discharged port; 0.8 s of SWAPPING without a SWAP_OFF end in HARD_RESET. A swap told to wait is asked again.
The delayed marker waits for the wire, and at its end has been sent; SAFE0 ends on a discharged port or late. A check of the partner
ends after 2 s. A received marker is taken. A PORT_CMD completes. (R337, R339, R340, R342, R346, R347, R351, R354, R355, R357, R360) -/
def Obligations.PortTimerRows : Prop :=
  ∀ (s : State) (p : Nat), HasPort s p →
    ((s.port p).st = .attached → (s.port p).prov = false → (s.port p).helloRx = false → (s.port p).helloOut = false → 50000 ≤ (s.port p).inState →
      WireFree s p →
      ∃ t pay, exec (.helloWaitTimeout p) s = .next t ∧ Sent t p (s.port p).nextId Ple.HELLO pay ∧ (t.port p).helloOut = true ∧
        t.host = s.host ∧ ∀ q, q ≠ p → t.port q = s.port q) ∧
    ((s.port p).st = .negotiating → (s.port p).prov = true → (s.port p).reqOk = true → (s.port p).readyOk = false → 100 ≤ (s.port p).inTol →
      WireFree s p →
      ∃ t, exec (.providerVoltageSettled p) s = .next t ∧ (t.port p).readyOk = true ∧ (t.port p).st = .negotiating ∧ t.host = s.host ∧
        Sent t p (s.port p).nextId Ple.READY (leBytes 2 (s.port p).next.volt ++ [0, 0])) ∧
    ((s.port p).st = .contract → (takeCon (s.port p)).isSome = true → 100 ≤ (s.port p).inTol →
      exec (.takerPortSettled p) s = .next (s.modPort p fun x => { x with settled := true })) ∧
    ((s.port p).st = .contract → (takeCon (s.port p)).isSome = true → 1000 ≤ (s.port p).outTol →
      ∃ t, exec (.portVoltageLost p) s = .next t ∧ (t.port p).st = .softReset ∧ (t.port p).cause = 8 ∧ (t.port p).noDemand = true ∧
        (t.port p).void = true ∧ Sent t p (s.port p).nextId Ple.SOFT_RESET []) ∧
    ((s.port p).st = .negotiating → 100000 ≤ (s.port p).inState →
      ∃ t, exec (.negotiationTimeout p) s = .next t ∧ (t.port p).st = .softReset ∧ (t.port p).cause = 4 ∧
        Sent t p (s.port p).nextId Ple.SOFT_RESET [] ∧ Tells s t Ev.PORT_SOFT_RESET (p * 2 ^ 8 + 4)) ∧
    ((s.port p).st = .contract → (s.port p).con.kind = 1 → 50000 ≤ (s.port p).quiet → WireFree s p →
      ∃ t, exec (.keepalivePing p) s = .next t ∧ Sent t p (s.port p).nextId Ple.PING [] ∧ (t.port p).st = .contract ∧ t.host = s.host) ∧
    (∀ x, (s.port p).stat = some x → (s.port p).st = .contract → ofPack (s.port p) = true → 0x11 ≤ (s.port p).ver → (s.port p).statAsked = false →
      2 * statusPeriod (s.port p) ≤ x.age → WireFree s p →
      ∃ t, exec (.packStatusLate p) s = .next t ∧ Sent t p (s.port p).nextId Ple.GET_STATUS [] ∧ (t.port p).statAsked = true ∧
        (t.port p).st = .contract) ∧
    (∀ x, (s.port p).stat = some x → (s.port p).st = .contract → ofPack (s.port p) = true → 90000 ≤ x.age →
      ∃ t, exec (.packStatusLost p) s = .next t ∧ (t.port p).st = .softReset ∧ (t.port p).cause = 7 ∧
        Sent t p (s.port p).nextId Ple.SOFT_RESET []) ∧
    ((s.port p).st = .swapping → (s.port p).swapOld = true → (s.port p).prov = true → 100 ≤ (s.port p).lowRun → WireFree s p →
      ∃ t, exec (.swapPortDischarged p) s = .next t ∧ (t.port p).prov = false ∧ Sent t p (s.port p).nextId Ple.SWAP_OFF [] ∧
        (t.port p).st = .swapping ∧ t.host = s.host) ∧
    ((s.port p).noSwapOff = true → 80000 ≤ (s.port p).inState →
      ∃ t, exec (.swapTimeout p) s = .next t ∧ (t.port p).st = .hardReset ∧ (t.port p).cause = 4 ∧
        (t.port p).hardN = incSat 32 (s.port p).hardN ∧ (t.port p).ver = 0) ∧
    (∀ k, (s.port p).swapRetry = some k → 10000 ≤ k → (s.port p).st = .contract → portOpIs (s.port p) [2] = true → WireFree s p →
      ∃ t, exec (.swapWaitRetry p) s = .next t ∧ (t.port p).swapRetry = none ∧ Sent t p (s.port p).nextId Ple.ROLE_SWAP []) ∧
    ((s.port p).st = .hardReset → (s.port p).marked = false → (s.port p).markDue = true → (s.port p).sending marker = false →
      exec (.hardResetSpacing p) s = .next (s.modPort p fun x => { x with out := x.out ++ [marker], quiet := 0 })) ∧
    (∀ idle, (s.port p).busyFor = 1 → (s.port p).lastTx = some marker →
      ((s.port p).line idle).marked = true ∧ ((s.port p).line idle).markFor = some 0) ∧
    ((s.port p).st = .hardReset → s.clocked = true →
      exec (.hardResetMarker p) s = .next (s.modPort p fun x => { x with marked := true, out := x.out.filter (· ≠ marker) })) ∧
    ((s.port p).st ∈ [PtSt.detached, .attachWait] → exec (.hardResetMarker p) s = .next s) ∧
    ((s.port p).st ∉ [PtSt.detached, .attachWait, .hardReset] → s.clocked = true →
      ∃ t, exec (.hardResetMarker p) s = .next t ∧ (t.port p).st = .hardReset ∧ (t.port p).cause = 2 ∧ (t.port p).con = .none ∧
        (t.port p).marked = true) ∧
    ((s.port p).st = .safe0 → 100 ≤ (s.port p).lowRun → partnerSeen (defaultProv s p) (s.port p).cfgA (s.port p).cfgB = none →
      ∃ t, exec (.safe0End p) s = .next t ∧ (t.port p).st = .detached ∧ (t.port p).prov = defaultProv s p ∧
        Told s t Ev.PORT_STATE (p * 2 ^ 8 + 2 * 2 ^ 4 + PtSt.detached.code) ∧ ∀ q, q ≠ p → t.port q = s.port q) ∧
    (∀ w, (s.port p).st = .safe0 → 80000 ≤ (s.port p).inState → (s.port p).lowRun < 100 →
      partnerSeen (defaultProv s p) (s.port p).cfgA (s.port p).cfgB = some w →
      ∃ t arg, exec (.safe0End p) s = .next t ∧ (t.port p).st = .attachWait ∧ (t.port p).seen = some w ∧ Tells s t Ev.SAFE0_LATE arg) ∧
    (∀ a, (s.port p).auth = some a → 200000 ≤ a.age → (s.port p).st = .contract →
      ∃ t, exec (.partnerAuthTimeout p) s = .next t ∧ (t.port p).auth = none ∧ (t.port p).authRes = some 3 ∧ (t.port p).st = .contract ∧
        Told s t Ev.PARTNER_AUTH (p * 2 ^ 8 + 3)) ∧
    (∀ o n act st, s.opRun 0x60 n = some o → o.res = p → (s.port p).op = some (n, act) → (s.port p).opDone = some st →
      ∃ t, exec (.portCmdComplete n) s = .next t ∧ Ends s t 0x60 n st ∧ (t.port p).op = none ∧ (t.port p).opDone = none ∧
        (t.port p).st = (s.port p).st ∧ ∀ q, q ≠ p → t.port q = s.port q)

/-- 100 good frames bring a link up: HELLO goes out, and from LINKDOWN the unit joins. Three silent frames or 16 violations bring it down;
with the last link the unit is in LINKDOWN. A marker or tick ends the silence and its ACK releases the frames up to the one it names;
the parent's marker gives a member the offset. A discarded frame is counted. Two frames without acknowledgement resend all that is
unacknowledged, counted. (R366, R368, R370, R375, R383) -/
def Obligations.FleetLinkRows : Prop :=
  ∀ (s : State) (q : Nat), HasFl s q →
    ((s.fl q).up = false → 100 ≤ (s.fl q).upRun →
      ∃ t, exec (.fleetLinkUp q) s = .next t ∧ (t.fl q).up = true ∧ Gave t q Eli.HELLO 0 0xFFFF (helloPay s) ∧
        (s.fleet.st = .linkdown → t.fleet.st = .joining ∧ Told s t Ev.FLEET_STATE (256 + FlSt.joining.code)) ∧
        (s.fleet.st ≠ .linkdown → t.fleet.st = s.fleet.st ∧ t.host = s.host ∧ ∀ k, k ≠ q → t.fl k = s.fl k)) ∧
    ((s.fl q).up = true → 3 ≤ (s.fl q).silent ∨ 16 ≤ (s.fl q).viol → (∀ k, k ≠ q → k < 3 → (s.fl k).up = false) →
      ∃ t, exec (.fleetLinkDown q) s = .next t ∧ (t.fl q).up = false ∧ (t.fl q).unacked = [] ∧ t.fleet.st = .linkdown ∧ t.fleet.parent = none ∧
        (∀ r ∈ t.fleet.routes, r ∈ s.fleet.routes ∧ r.2 ≠ q) ∧ Tells s t Ev.FLEET_STATE (256 + FlSt.linkdown.code) ∧
        ∀ x ∈ t.host.tide, bit x.flags 0 = false) ∧
    ((s.fl q).up = true → 3 ≤ (s.fl q).silent → s.fleet.st = .member → isParent s q = false →
      (∃ k, k < 3 ∧ k ≠ q ∧ (s.fl k).up = true) →
      ∃ t, exec (.fleetLinkDown q) s = .next t ∧ (t.fl q).up = false ∧ t.fleet.st = .member ∧
        t.fleet.routes = s.fleet.routes.filter (fun r => r.2 ≠ q)) ∧
    (∀ m g rest, s.clocked = true → (s.fl q).unacked = g :: rest → g.lseq = m.ack → (s.fl q).wait = [] →
      ∃ t, exec (.fleetMarker q m) s = .next t ∧ (t.fl q).unacked = rest ∧ (t.fl q).got = true ∧ (t.fl q).gotMark = true ∧ (t.fl q).silent = 0 ∧
        (t.fl q).cut = bit m.flags 0 ∧ (t.fl q).rooted = bit m.flags 1) ∧
    (∀ m, s.clocked = true → isParent s q = true → s.fleet.st = .member → bit m.flags 0 = false →
      ∃ t, exec (.fleetMarker q m) s = .next t ∧ t.fleet.offNew = true ∧ t.fleet.cut = false ∧ t.host = s.host ∧
        t.fleet.offset = ((m.frame : Int) - s.frame) * 256000 + (m.tArr - m.offset - (s.fl q).hop)) ∧
    (∀ m, isParent s q = false → ∃ t, exec (.fleetMarker q m) s = .next t ∧ t.fleet.offset = s.fleet.offset ∧ t.host = s.host) ∧
    (∀ a fl, s.clocked = true → fle s FLE.AUTH_MODE ≠ 1 →
      ∃ t, exec (.fleetTick q a fl) s = .next t ∧ (t.fl q).got = true ∧ (t.fl q).silent = 0 ∧ (t.fl q).joined = bit fl 0 ∧
        (t.fl q).gotMark = (s.fl q).gotMark ∧ t.host = s.host ∧ ∀ k, k ≠ q → t.fl k = s.fl k) ∧
    ((s.fl q).up = true → exec (.fleetFrameDiscarded q) s = .next (s.modFl q fun p => { p with crcErr := incSat 32 p.crcErr })) ∧
    (∀ g rest, (s.fl q).up = true → (s.fl q).unacked = g :: rest → 2 ≤ (s.fl q).ackAge →
      ∃ t, exec (.lseqResend q) s = .next t ∧ (t.fl q).sent = (s.fl q).sent ++ (g :: rest).map FFrame.wire ∧ (t.fl q).unacked = g :: rest ∧ (t.fl q).ackAge = 0 ∧
        (t.fl q).resends = satN 0xFFFFFFFF ((s.fl q).resends + (g :: rest).length) ∧ t.host = s.host ∧ ∀ k, k ≠ q → t.fl k = s.fl k)

/-- HELLO gives the link the highest common version, none where the ranges do not meet. The own certificate is given in parts and the own
signature over a nonce and SERIAL. The neighbour's certificate is gathered in order, then challenged; a part out of order fails with 1.
A signature ends the check with 0, 1 or 2, 2 s without one with 3. In a frame that cuts the fleet job's S4 off a hop frame is not taken.
A failed check is made again after one second; a link at version 1 fails with 4. (R357, R376, R377) -/
def Obligations.FleetHelloAndCheckRows : Prop :=
  ∀ (s : State) (q : Nat) (f : FHdr) (pl : List Byte),
    (TookHop s q f → fle s FLE.AUTH_MODE ≠ 2 → 2 ≤ fle s FLE.VER_MAX →
      ∃ t, exec (.elivoHello q f pl) s = .next t ∧ (t.fl q).rxSeq = f.lseq ∧ t.host = s.host ∧
        (t.fl q).ver = (if fld pl 0 1 ≤ 2 ∧ 2 ≤ fld pl 1 1 then 2 else if fld pl 0 1 ≤ 1 ∧ 1 ≤ fld pl 1 1 then 1 else 0) ∧
        ((t.fl q).noVer = true ↔ (t.fl q).ver = 0) ∧ ∀ k, k ≠ q → t.fl k = s.fl k) ∧
    (TookHop s q f → 2 ≤ (s.fl q).ver → 1 ≤ fld pl 2 1 → fld pl 2 1 ≤ 64 →
      ∃ t, exec (.fleetAuthCertGet q f pl) s = .next t ∧ (t.fl q).rxSeq = f.lseq ∧ t.host = s.host ∧
        Gave t q Eli.AUTH_CERT 0 0xFFFF
          (leBytes 2 (fld pl 0 2) ++ leBytes 2 s.cert.length ++ (s.cert.drop (fld pl 0 2)).take (fld pl 2 1))) ∧
    (∀ a, TookHop s q f → (s.fl q).auth = some a → a.step = 1 →
      ∃ t, exec (.fleetAuthCert q f pl) s = .next t ∧ (t.fl q).rxSeq = f.lseq ∧
        (fld pl 2 2 ≤ 1024 → fld pl 0 2 = a.bytes.length → 4 < pl.length → a.bytes.length + (pl.length - 4) < fld pl 2 2 →
          (t.fl q).auth.map (·.bytes) = some (a.bytes ++ pl.drop 4) ∧ t.host = s.host ∧
          Gave t q Eli.AUTH_CERT_GET 0 0xFFFF (leBytes 2 (a.bytes ++ pl.drop 4).length ++ [64, 0])) ∧
        (fld pl 2 2 ≤ 1024 → fld pl 0 2 = a.bytes.length → 4 < pl.length → fld pl 2 2 ≤ a.bytes.length + (pl.length - 4) →
          (t.fl q).auth.map (·.step) = some 2 ∧
          Gave t q Eli.AUTH_CHALLENGE 0 0xFFFF ((List.range 32).map fun k => Config.randomByte (s.freeCtr + k))) ∧
        (fld pl 0 2 ≠ a.bytes.length → (t.fl q).auth = none ∧ (t.fl q).authRes = some 1)) ∧
    (TookHop s q f → 2 ≤ (s.fl q).ver → 32 ≤ pl.length →
      ∃ t, exec (.fleetAuthChallenge q f pl) s = .next t ∧ t.host = s.host ∧
        Gave t q Eli.AUTH_SIGN 0 0xFFFF (ecdsaSign s.ident.priv (Config.sigNonce s.freeCtr) (sha256 (pl.take 32 ++ leBytes 8 s.ident.serial)))) ∧
    (∀ a, TookHop s q f → (s.fl q).auth = some a → a.step = 2 →
      ∃ t, exec (.fleetAuthSign q f pl) s = .next t ∧ (t.fl q).auth = none ∧
        (t.fl q).authRes = some (match certCheck (keyAt s (fle s FLE.AUTH_KEY)) a.bytes with
          | none => 1
          | some c => if ecdsaVerify c.key (sha256 (a.nonce ++ leBytes 8 c.serial)) (pl.take 64) then 0 else 2)) ∧
    (∀ k, (s.slot (slotFor s 10 0)).cutNow = some k → k ≤ 4 → exec (.elivoHello q f pl) s = .next s) ∧
    (∀ r, HasFl s q → (s.fl q).up = true → (s.fl q).auth = none → (s.fl q).authRes = some r → r ≠ 0 → fle s FLE.AUTH_MODE = 2 →
      100000 ≤ (s.fl q).authAge →
      ∃ t, exec (.fleetAuthRecheck q) s = .next t ∧
        (2 ≤ (s.fl q).ver → (t.fl q).auth.map (·.step) = some 1 ∧ Gave t q Eli.AUTH_CERT_GET 0 0xFFFF [0, 0, 64, 0] ∧ t.host = s.host) ∧
        ((s.fl q).ver < 2 → (t.fl q).authRes = some 4 ∧ Told s t Ev.FLEET_STATE (8 * 256 + s.fleet.st.code))) ∧
    (∀ a, HasFl s q → (s.fl q).auth = some a → 200000 ≤ a.age →
      ∃ t, exec (.fleetAuthTimeout q) s = .next t ∧ (t.fl q).auth = none ∧ (t.fl q).authRes = some 3 ∧ t.fleet.st = s.fleet.st ∧
        ∀ k, k ≠ q → t.fl k = s.fl k)

/-- ANNOUNCE of a better root makes a joining unit follow it with JOIN_REQ, and a member join anew. The root gives a joining unit its free
preference and answers JOIN_ACK; another unit passes JOIN_REQ up. JOIN_ACK with STATUS 0 makes the unit a MEMBER under its address. 30
ms without a better root make a ROOT that announces itself; JOIN_REQ is repeated after 1 s. Three missed markers make ISLANDED and
cancel the critical launches; 16 rooted markers bring MEMBER back; after ELECT_WAIT the unit joins anew. (R371, R373, R374, R375, R378,
R380, R381, R387) -/
def Obligations.FleetElectionRows : Prop :=
  ∀ (s : State) (q : Nat) (f : FHdr) (pl : List Byte),
    (TookHop s q f → fle s FLE.AUTH_MODE ≠ 2 → s.fleet.st = .joining → s.fleet.best = none →
      (∀ k, k ≠ q → annRoot s k = none) → better (fld pl 0 1, fld pl 2 8) (ownPair s) = true →
      ∃ t, exec (.announce q f pl) s = .next t ∧ t.fleet.st = .joining ∧ t.fleet.parent = some q ∧ t.fleet.best = some (fld pl 0 1, fld pl 2 8) ∧
        t.fleet.depth = fld pl 10 1 + 1 ∧ t.fleet.annAge = 0 ∧ (∃ pay, Gave t q Eli.JOIN_REQ 1 0xFFFF pay) ∧ t.host = s.host) ∧
    (TookHop s q f → fle s FLE.AUTH_MODE ≠ 2 → s.fleet.st = .member → better (fld pl 0 1, fld pl 2 8) (bestRoot s) = true →
      ∃ t, exec (.announce q f pl) s = .next t ∧ t.fleet.st = .joining ∧ t.fleet.addr = 0xFFFF ∧ Tells s t Ev.FLEET_STATE (3 * 256 + FlSt.joining.code) ∧
        ∀ x ∈ t.host.tide, bit x.flags 0 = false) ∧
    (Took s q f → f.route = 1 → isParent s q = false → s.fleet.st = .root → fld pl 10 1 ≤ 63 → s.fleet.members.length < 1024 →
      fld pl 8 2 < 1024 → (∀ m ∈ s.fleet.members, m.1 ≠ fld pl 8 2) →
      ∃ t, exec (.joinReq q f pl) s = .next t ∧ (fld pl 8 2, fld pl 0 8, fld pl 11 1, fld pl 10 1) ∈ t.fleet.members ∧
        assocGet t.fleet.routes (fld pl 8 2) = some q ∧ t.fleet.units = t.fleet.members.length ∧ t.host = s.host ∧
        Gave t q Eli.JOIN_ACK 3 0xFFFE (leBytes 8 (fld pl 0 8) ++ leBytes 2 (fld pl 8 2) ++ [0, 0])) ∧
    (∀ k, Took s q f → f.route = 1 → isParent s q = false → s.fleet.st = .member → s.fleet.parent = some k → k < 3 → openPort s k = true →
      ∃ t, exec (.joinReq q f pl) s = .next t ∧ Gave t k Eli.JOIN_REQ 1 f.dst pl ∧ assocGet t.fleet.joinFrom (fld pl 0 8) = some q ∧
        t.fleet.members = s.fleet.members ∧ t.host = s.host) ∧
    (Took s q f → f.route = 3 → isParent s q = true → s.fleet.st = .joining → fld pl 0 8 = s.ident.serial → fld pl 10 1 = 0 →
      ∃ t, exec (.joinAck q f pl) s = .next t ∧ t.fleet.st = .member ∧ t.fleet.addr = fld pl 8 2 ∧ t.fleet.joinAge = none ∧
        Tells s t Ev.FLEET_STATE (2 * 256 + FlSt.member.code) ∧
        (addrPref s ≠ 0xFFFF → addrPref s ≠ fld pl 8 2 → Tells s t Ev.ADDR_CONFLICT (addrPref s * 2 ^ 16 + fld pl 8 2))) ∧
    (s.fleet.st = .joining → 3000 ≤ s.fleet.annAge → s.jobs.fleet.ports.length = 3 →
      ∃ t, exec .rootElectionTimeout s = .next t ∧ t.fleet.st = .root ∧ t.fleet.parent = none ∧ t.fleet.depth = 0 ∧
        t.fleet.addr = (if fle s FLE.ADDR_PREF = 0xFFFF then 0 else fle s FLE.ADDR_PREF) ∧ t.fleet.rootSer = s.ident.serial ∧ t.fleet.units = 1 ∧
        t.jobs.frm.rate = 0 ∧ Told s t Ev.FLEET_STATE (3 * 256 + FlSt.root.code) ∧
        ∀ k, k < 3 → (s.fl k).up = true → ∃ pay, Gave t k Eli.ANNOUNCE 0 0xFFFF pay) ∧
    (∀ k a, s.fleet.st = .joining → s.fleet.joinAge = some a → 100000 ≤ a → s.fleet.parent = some k → HasFl s k → (s.fl k).up = true →
      ∃ t, exec .joinReqRetry s = .next t ∧ t.fleet.st = .joining ∧ t.fleet.joinAge = some 0 ∧ t.host = s.host ∧
        Gave t k Eli.JOIN_REQ 1 0xFFFF (leBytes 8 s.ident.serial ++ leBytes 2 (addrPref s) ++ [byte s.fleet.depth, byte (s.fl k).ver])) ∧
    (s.fleet.st = .member → 3 ≤ s.fleet.missed →
      ∃ t, exec .markersLost s = .next t ∧ t.fleet.st = .islanded ∧ t.fleet.aligned = false ∧ t.fleet.addr = s.fleet.addr ∧
        Tells s t Ev.FLEET_STATE (4 * 256 + FlSt.islanded.code) ∧ ∀ x ∈ t.host.tide, bit x.flags 0 = false) ∧
    (∀ k, s.fleet.parent = some k → s.fleet.st = .islanded → 16 ≤ (s.fl k).rootedRun →
      ∃ t, exec .islandRejoin s = .next t ∧ t.fleet.st = .member ∧ Tells s t Ev.FLEET_STATE (6 * 256 + FlSt.member.code) ∧
        t.fleet.addr = s.fleet.addr ∧ (absN s.fleet.offset < 256000 → t.host.tide = s.host.tide)) ∧
    (s.fleet.st = .islanded → fle s FLE.ELECT_WAIT ≤ s.fleet.islFor →
      ∃ t, exec .electWaitExpiry s = .next t ∧ t.fleet.st = .joining ∧ t.fleet.addr = 0xFFFF ∧ t.fleet.parent = none ∧
        (s.fleet.addr ≠ 0xFFFF → t.fleet.prevAddr = some s.fleet.addr) ∧ Told s t Ev.FLEET_STATE (3 * 256 + FlSt.joining.code)) ∧
    (s.fleet.st ≠ .linkdown → 1000 ≤ s.fleet.annSent → s.jobs.fleet.ports.length = 3 →
      ∃ t, exec .announcePeriod s = .next t ∧ t.fleet.annSent = 0 ∧ t.fleet.st = s.fleet.st ∧ t.host = s.host ∧
        ∀ k, k < 3 → (s.fl k).up = true → isParent s k = false → ∃ pay, Gave t k Eli.ANNOUNCE 0 0xFFFF pay)

/-- DELAY_REQ goes to the parent and its instant is kept; a request is answered with T2 and T3; a response gives the first hop delay. 1,000
frames below 10 ns set ALIGNED. A version-2 member sends NEED at each period; the root keeps a NEED, another unit passes it up. The own
entry of SHARES is kept and takes effect with its frame. (R382, R384, R400, R401) -/
def Obligations.FleetTimeAndBudgetRows : Prop :=
  ∀ (s : State) (q : Nat) (f : FHdr) (pl : List Byte),
    (∀ k a, s.fleet.parent = some k → HasFl s k → (s.fl k).up = true → s.fleet.st = .member → fle s FLE.DELAY_PERIOD ≤ s.fleet.delayAge →
      ∃ t, exec (.delayPeriod a) s = .next t ∧ (t.fl k).t1 = some a ∧ t.fleet.delayAge = 0 ∧ Gave t k Eli.DELAY_REQ 0 0xFFFF (leBytes 8 a) ∧
        t.host = s.host) ∧
    (∀ t2 t3, TookHop s q f →
      ∃ t, exec (.delayReq q f pl t2 t3) s = .next t ∧ Gave t q Eli.DELAY_RESP 0 0xFFFF (leBytes 8 t2 ++ leBytes 8 t3) ∧
        (t.fl q).rxSeq = (s.fl q).rxSeq ∧ t.host = s.host) ∧
    (∀ t1 t4, TookHop s q f → (s.fl q).t1 = some t1 → (s.fl q).hops = [] →
      ∃ t, exec (.delayResp q f pl t4) s = .next t ∧ (t.fl q).t1 = none ∧ t.host = s.host ∧
        (t.fl q).hops = [divR (((t4 : Int) - t1) - ((fld pl 8 8 : Nat) - (fld pl 0 8 : Nat))) 2] ∧
        (t.fl q).hop = (meanHop (t.fl q).hops).toNat) ∧
    (s.fleet.st = .member → s.fleet.aligned = false → 1000 ≤ s.fleet.alignRun →
      exec .alignedSet s = .next (s.modFleet fun x => { x with aligned := true })) ∧
    (∀ k, s.fleet.parent = some k → HasFl s k → openPort s k = true → s.fleet.st = .member → 2 ≤ unitVer s → fle s FLE.BUDGET_PERIOD ≤ s.fleet.needAge →
      ∃ t, exec .budgetPeriod s = .next t ∧ t.fleet.needAge = 0 ∧ t.host = s.host ∧
        Gave t k Eli.NEED 1 0xFFFF (leBytes 4 (ownNeed s).1 ++ leBytes 4 (ownNeed s).2 ++ [byte (par s gSCH 48 SCH.SITE_PRIO), 0, 0, 0])) ∧
    (Took s q f → f.route = 1 → isParent s q = false → s.fleet.st = .root → 2 ≤ unitVer s →
      ∃ t, exec (.need q f pl) s = .next t ∧ assocGet t.fleet.needs f.src = some (fld pl 0 4, fld pl 4 4, fld pl 8 1) ∧ t.host = s.host ∧
        t.fleet.members = s.fleet.members) ∧
    (∀ k, Took s q f → f.route = 1 → isParent s q = false → s.fleet.st = .member → s.fleet.parent = some k → k < 3 → openPort s k = true →
      ∃ t, exec (.need q f pl) s = .next t ∧ Gave t k Eli.NEED 1 f.dst pl ∧ t.fleet.needs = s.fleet.needs ∧ t.host = s.host) ∧
    (TookBcast s q f → 2 ≤ unitVer s → fld pl 8 2 = 1 → fld pl 10 2 = s.fleet.addr →
      ∃ t, exec (.shares q f pl) s = .next t ∧ t.fleet.shares = some (fld pl 0 8, fld pl 12 4, fld pl 16 4) ∧ t.fleet.bseq = f.dst ∧
        t.jobs.sched = s.jobs.sched ∧ t.host = s.host) ∧
    (∀ e c d, s.fleet.shares = some (e, c, d) → e ≤ s.frame →
      ∃ t, exec .sharesEffect s = .next t ∧ t.jobs.sched = { s.jobs.sched with siteChg := c, siteDis := d } ∧ t.fleet.shares = none ∧
        t.host = s.host ∧ t.jobs.lanes = s.jobs.lanes)

/-- A member takes the next broadcast once, keeps it and passes it to its children. A LAUNCH enters the tide table, or is refused when too
late; a cancel removes a launch whose frame is not near; RESET asks for a reset with cause 4. The root broadcasts what comes up to it
and acts on it. A child's barrier state is noted; the root and a member keep the combination, and a member tells its parent a changed
one; a release ends the barriers up to its number with OK, a timeout with INTERNAL. REPAIR resends a kept broadcast. An unknown hop
frame is dropped, an addressed one goes on. (R370, R371, R391, R392, R394, R395) -/
def Obligations.FleetBroadcastRows : Prop :=
  ∀ (s : State) (q : Nat) (f : FHdr) (pl : List Byte),
    (TookBcast s q f → s.frame + 2 ≤ fld pl 8 8 → s.host.tide.length < 16 → fld pl 2 1 ≠ 0 →
      ∃ t, exec (.fleetLaunch q f pl) s = .next t ∧ t.fleet.bseq = f.dst ∧ t.fleet.kept.head? = some (frameOf f Eli.LAUNCH pl) ∧
        t.host = { s.host with tide := s.host.tide ++ [⟨fld pl 0 2, fld pl 2 1, 1, fld pl 3 1, fld pl 4 1, fld pl 8 8, false⟩] } ∧
        ∀ k, k < 3 → openPort s k = true → k ≠ q → Gave t k Eli.LAUNCH 2 f.dst pl) ∧
    (TookBcast s q f → fld pl 8 8 < s.frame + 2 →
      ∃ t, exec (.fleetLaunch q f pl) s = .next t ∧ t.host.tide = s.host.tide ∧ Told s t Ev.LAUNCH_REFUSED (fld pl 0 2 * 2 ^ 16 + 1)) ∧
    (Took s q f → f.route = 1 → isParent s q = false → s.fleet.st = .root → s.frame + 2 ≤ fld pl 8 8 → s.host.tide.length < 16 → fld pl 2 1 ≠ 0 →
      ∃ t, exec (.fleetLaunch q f pl) s = .next t ∧ t.fleet.bseq = (s.fleet.bseq + 1) % 65536 ∧ t.host.tide.length = s.host.tide.length + 1 ∧
        ∀ k, k < 3 → openPort s k = true → isParent s k = false → Gave t k Eli.LAUNCH 2 ((s.fleet.bseq + 1) % 65536) pl) ∧
    (∀ x, TookBcast s q f → s.host.tide = [x] → x.lid = fld pl 0 2 →
      ∃ t, exec (.fleetLaunchCancel q f pl) s = .next t ∧
        (s.frame + 2 ≤ x.frame → t.host.tide = [] ∧ Tells s t Ev.LAUNCH_CANCELLED (fld pl 0 2 * 2 ^ 16 + 1)) ∧
        (x.frame < s.frame + 2 → t.host = s.host)) ∧
    (TookBcast s q f →
      ∃ t, exec (.fleetReset q f) s = .next t ∧ t.ctl = { s.ctl with resetReq := some 4 } ∧ t.host = s.host ∧ t.jobs.lanes = s.jobs.lanes) ∧
    (∀ h l, Took s q f → f.route = 1 → isParent s q = false → h = bit (fld pl 0 1) 0 → l = (if bit (fld pl 0 1) 1 then none else some (fld pl 2 2)) →
      ∃ t, exec (.barrierUp q f pl) s = .next t ∧ (t.fl q).barHeld = h ∧ (t.fl q).barLvl = l ∧
        (s.fleet.st = .root ∨ s.fleet.st = .member → t.fleet.barSent = barrierSum t) ∧
        (∀ k, s.fleet.st = .member → s.fleet.parent = some k → HasFl s k → openPort s k = true → barrierSum t ≠ s.fleet.barSent →
          Gave t k Eli.BARRIER_UP 1 0xFFFF (barrierPay (barrierSum t)))) ∧
    (∀ b n a w, TookBcast s q f → s.fleet.bars = [(b, n, a, w)] → (s.opRun 0x72 n).isSome = true →
      ∃ t, exec (.barrierRelease q f pl) s = .next t ∧
        (notAfter b (fld pl 0 2) = true → t.fleet.bars = [] ∧ t.opRun 0x72 n = none ∧ Tells s t Ev.OP_COMPLETE (opArg St.OK 0x72 n)) ∧
        (notAfter b (fld pl 0 2) = false → t.fleet.bars = [(b, n, a, w)] ∧ t.host = s.host)) ∧
    (∀ b n a w, s.fleet.bars = [(b, n, a, w)] → w ≤ a → (s.opRun 0x72 n).isSome = true →
      ∃ t, exec (.fleetBarrierTimeout n) s = .next t ∧ t.fleet.bars = [] ∧ t.opRun 0x72 n = none ∧
        Tells s t Ev.OP_COMPLETE (opArg St.INTERNAL 0x72 n)) ∧
    (∀ k, TookHop s q f → s.fleet.kept.find? (fun k => k.dst = fld pl 0 2) = some k →
      ∃ t, exec (.repair q f pl) s = .next t ∧ Gave t q k.typ k.route k.dst k.pay ∧ t.host = s.host) ∧
    (∀ typ, Took s q f → f.route = 0 → typ ≠ Eli.DELAY_REQ → typ ≠ Eli.DELAY_RESP →
      exec (.fleetUnknownFrame q typ f pl) s = .next (s.modFl q fun p => { p with rxSeq := f.lseq })) ∧
    (∀ typ k, Took s q f → f.route = 3 → f.dst ≠ s.fleet.addr → routePort s f.dst = some k → k < 3 →
      ∃ t, exec (.fleetUnknownFrame q typ f pl) s = .next t ∧ Gave t k typ 3 f.dst pl ∧ t.host = s.host)

/-- A CMD for this unit runs its inner packet and its reply goes to the origin; one for another unit goes on. CMD_REPLY becomes the result
of its FLEET_CMD, CMD_STATUS one entry of it; a silent member is listed with INTERNAL; the complete result is kept and OP_COMPLETE tells
it. SNAP_REQ waits for its frame; a record joins the gathering, or is given as MISSING; a complete gathering ends. The root queues a
gathered event behind its origin, or counts the pair as lost; at another unit it waits for its port's turn to go upstream. (R393, R395,
R396, R398, R399) -/
def Obligations.FleetCommandRows : Prop :=
  ∀ (s : State) (q : Nat) (f : FHdr) (pl : List Byte),
    (∀ k tag c1 c2, Took s q f → f.route = 3 → f.dst = s.fleet.addr → accepts s = true → s.ctl.loader = false → (s.link .fleet).ver = 3 →
      s.host.flights = [] → s.fleet.inner = [] → s.host.inner.replies = [] → pl.drop 6 = [2, tag, 0, 0, c1, c2] → tag.toNat ≤ 47 →
      crc16 [2, tag, 0, 0] = c1.toNat + 256 * c2.toNat → fld pl 0 2 ≠ s.fleet.addr → routePort s (fld pl 0 2) = some k → HasFl s k →
      ∃ t pay, exec (.fleetCmdFrame q f pl) s = .next t ∧
        Gave t k Eli.CMD_REPLY 3 (fld pl 0 2) (leBytes 2 (fld pl 2 2) ++
          Reply.bytes { tag := some tag.toNat, status := St.OK, pay := pay, ready := 0, owns := true, can := none, since := s.age })) ∧
    (∀ k, Took s q f → f.route = 3 → f.dst ≠ s.fleet.addr → routePort s f.dst = some k → k < 3 →
      ∃ t, exec (.fleetCmdFrame q f pl) s = .next t ∧ Gave t k Eli.CMD 3 f.dst pl ∧ t.host = s.host) ∧
    (∀ o target, Took s q f → f.route = 3 → f.dst = s.fleet.addr → cmdOp s (fld pl 0 2) = some o → o.args = [fld pl 0 2, target] → target ≠ 0xFFFF →
      (∀ x ∈ s.host.ops, x.num = o.num → x = o) →
      ∃ t, exec (.cmdReply q f pl) s = .next t ∧ (cmdOp t (fld pl 0 2)).map (·.data) = some (pl.drop 2) ∧ t.host.events = s.host.events) ∧
    (∀ o, Took s q f → f.route = 3 → f.dst = s.fleet.addr → cmdOp s (fld pl 0 2) = some o → o.args = [fld pl 0 2, 0xFFFF] →
      (listedUnits o.data).contains f.src = false →
      ∃ t, exec (.cmdStatus q f pl) s = .next t ∧
        (cmdOp t (fld pl 0 2)).map (·.data) = some (o.data ++ leBytes 2 f.src ++ [byte (fld pl 2 1), 0])) ∧
    (∀ n u o opid, s.opRun 0x70 n = some o → cmdOp s opid = some o → o.args = [opid, 0xFFFF] → o.since + 100000 ≤ s.age → u < 1024 →
      s.fleet.st ≠ .root → (listedUnits o.data).contains u = false → (listedUnits o.data).length < s.fleet.units →
      ∃ t, exec (.fleetCmdMemberTimeout n u) s = .next t ∧
        (cmdOp t opid).map (·.data) = some (o.data ++ leBytes 2 u ++ [byte St.INTERNAL, 0])) ∧
    (∀ n o opid, s.opRun 0x70 n = some o → o.args = [opid, 0xFFFF] → s.fleet.units ≤ (listedUnits o.data).length →
      ∃ t, exec (.fleetCmdComplete n) s = .next t ∧ t.opRun 0x70 n = none ∧ Tells s t Ev.OP_COMPLETE (opArg St.OK 0x70 n) ∧
        t.host.results = s.host.results ++ [⟨n, 0x70, leBytes 2 (listedUnits o.data).length ++ o.data, false, s.age + 1000000⟩]) ∧
    (TookBcast s q f →
      ∃ t, exec (.snapReq q f pl) s = .next t ∧ t.fleet.snapReqs = s.fleet.snapReqs ++ [(fld pl 0 8, f.src)] ∧ t.host = s.host) ∧
    (∀ g, Took s q f → f.route = 3 → f.dst = s.fleet.addr → s.fleet.snap = some g → g.frame = fld pl 4 8 → g.recs.length < snapRoom s.fleet →
      g.gone.contains (fld pl 2 2) = false → (∀ x ∈ g.recs, x.1 ≠ fld pl 2 2) →
      ∃ t, exec (.snapRecord q f pl) s = .next t ∧ t.fleet.snap = some { g with recs := g.recs ++ [(fld pl 2 2, pl)] } ∧ t.host = s.host) ∧
    (∀ g n u, s.fleet.snap = some g → g.num = n → fle s FLE.SNAP_TIMEOUT ≤ g.age → u < 1024 → s.fleet.st ≠ .root →
      g.recs.length + g.gone.length < s.fleet.units → g.recs.length < snapRoom s.fleet → g.gone.contains u = false → (∀ x ∈ g.recs, x.1 ≠ u) →
      ∃ t, exec (.snapTimeout n u) s = .next t ∧ t.fleet.snap = some { g with recs := g.recs ++ [(u, missingRecord s u g.frame)] } ∧
        t.host = s.host) ∧
    (∀ g n o, s.opRun 0x71 n = some o → s.fleet.snap = some g → g.num = n → s.fleet.units ≤ g.recs.length → 1 ≤ g.recs.length →
      ∃ t, exec (.fleetSnapshotComplete n) s = .next t ∧ t.opRun 0x71 n = none ∧ t.fleet.snap = some g ∧
        t.host.results = s.host.results ++ [⟨n, 0x71, [], false, s.age + 1000000⟩] ∧ Tells s t Ev.OP_COMPLETE (opArg St.OK 0x71 n)) ∧
    (Took s q f → f.route = 1 → isParent s q = false → s.fleet.st = .root →
      ∃ t, exec (.fleetEvent q f pl) s = .next t ∧
        (255 < ordinary s.host.events + 2 → t.host = { s.host with lost := s.host.lost + 2 }) ∧
        (ordinary s.host.events + 2 ≤ 255 → Tells s t Ev.FLEET_ORIGIN f.src ∧ Tells s t (fld pl 0 2) (fld pl 12 4))) ∧
    (Took s q f → f.route = 1 → isParent s q = false → s.fleet.st = .member →
      ∃ t, exec (.fleetEvent q f pl) s = .next t ∧ t.fleet.evIn = s.fleet.evIn ++ [(q + 1, f.src, pl)] ∧ t.fleet.evUp = s.fleet.evUp ∧ t.host = s.host) ∧
    (Took s q f → f.route = 1 → isParent s q = false → s.fleet.st = .root →
      ∃ t, exec (.fleetEventsLost q f pl) s = .next t ∧ Tells s t Ev.FLEET_EVENTS_LOST (satN 65535 (fld pl 0 4) * 2 ^ 16 + f.src))

/-- A rail in RAMP whose debounced signal has been good for STABLE frames becomes RUNNING and RISE_FRAMES takes its time; one that reaches
RAMP_TIMEOUT first becomes FAILED_UP and tells it with its chatter; a FALLING rail at FALL_TIMEOUT is OFF and RAIL_SLOW_DOWN tells it; a
raw level held for DEBOUNCE frames becomes the debounced one where no running rail of an active sequencer loses it. Every other rail
stands. (R411, R412, R413, R414) -/
def Obligations.RailSupervisorRows : Prop :=
  ∀ (s : State) (n : Nat), n < 8 →
    ((s.rail n).st = .ramp → (s.rail n).good = true → par s gSEQ n SEQ.STABLE ≤ (s.rail n).stable →
      ∃ t, exec (.railRunning n) s = .next t ∧ (t.rail n).st = .running ∧ (t.rail n).rise = min 65535 (s.rail n).swFor ∧
        ∀ m, m ≠ n → t.rail m = s.rail m) ∧
    ((s.rail n).st = .ramp → (s.rail n).good = false → par s gSEQ n SEQ.RAMP_TIMEOUT ≤ (s.rail n).swFor →
      ∃ t, exec (.railFailedUp n) s = .next t ∧ (t.rail n).st = .failedUp ∧
        Tells s t Ev.RAIL_FAILED_UP ((s.rail n).chatter % 65536 * 2 ^ 16 + n) ∧ ∀ m, m ≠ n → t.rail m = s.rail m) ∧
    ((s.rail n).st = .falling → par s gSEQ n SEQ.FALL_TIMEOUT ≤ (s.rail n).swFor →
      ∃ t, exec (.railSlowDown n) s = .next t ∧ (t.rail n).st = .off ∧ Told s t Ev.RAIL_SLOW_DOWN n ∧
        ∀ m, m ≠ n → t.rail m = s.rail m) ∧
    ((s.rail n).raw ≠ (s.rail n).good → par s gSEQ n SEQ.DEBOUNCE ≤ (s.rail n).rawRun →
      ((s.rail n).raw = true ∨ (s.rail n).st ≠ .running) → n < s.jobs.rails.rails.length →
      ∃ t, exec (.railDebouncedChange n) s = .next t ∧ (t.rail n).good = (s.rail n).raw ∧ (t.rail n).st = (s.rail n).st ∧
        t.host = s.host ∧ ∀ m, m ≠ n → t.rail m = s.rail m)

/-- While the sequencer is in POWER_UP or RUNNING, the debounced change of a RUNNING rail to not good makes the sequencer TRIPPED; no rail
is left started (each is OFF or FALLING), every SEQENn, SWINn, SWPPx and SWLINK output is low, the consecutive count k and TRIPS each go
up by one, and the fall time starts from 0. With TRIP_HALT 1 it decides HALT with cause 2, unless a cause stands already. (R417, R419,
R454) -/
def Obligations.RunningRailTrip : Prop :=
  ∀ (s : State) (n : Nat), n < 8 → s.jobs.rails.rails.length = 8 → (s.rail n).st = .running → (s.rail n).raw = false →
    (s.rail n).good = true → par s gSEQ n SEQ.DEBOUNCE ≤ (s.rail n).rawRun →
    (s.jobs.rails.st = .powerUp ∨ s.jobs.rails.st = .running) →
    ∃ t, exec (.railDebouncedChange n) s = .next t ∧ t.jobs.rails.st = .tripped ∧
      (∀ m, (t.rail m).st = .off ∨ (t.rail m).st = .falling) ∧
      t.outs.seqen = rep 8 false ∧ t.outs.swin = rep 4 false ∧ t.outs.swpp = rep 4 false ∧ t.outs.swlink = false ∧
      t.jobs.rails.k = s.jobs.rails.k + 1 ∧ t.jobs.rails.trips = incSat 32 s.jobs.rails.trips ∧ t.jobs.rails.tripFor = 0 ∧
      t.jobs.rails.tripOpen = true ∧
      t.ctl.wantHalt = (if par s gSEQ 8 SEQ.TRIP_HALT = 1 ∧ s.ctl.state ≠ .halt then some (s.ctl.wantHalt.getD 2) else s.ctl.wantHalt)

/-- In POWER_UP with the delay of its group over, the next group that has a rail starts: each of its OFF rails is in RAMP. In POWER_DOWN,
once the rails of the present group are OFF, the highest started group stops, each started rail of it FALLING, or the sequencer is IDLE
with its minimum off time begun. TRIPPED with its wait over and every rail OFF goes to POWER_UP while enabled; TRIPPED and disabled, and
not kept there by HALT, goes to IDLE after the minimum off time. IDLE with the minimum off time over notes it, and starts POWER_UP where
enabled. RUNNING for 6,000,000 frames sets k to 0 and changes nothing else. (R415, R416, R419, R421) -/
def Obligations.SequencerRows : Prop :=
  ∀ (s : State), s.jobs.rails.rails.length = 8 →
    (∀ g k d, s.jobs.rails.st = .powerUp → s.jobs.rails.next = some d → s.jobs.rails.group = some g → groupDelay s g ≤ d →
      groupFrom s (g + 1) = some k →
      ∃ t, exec .railGroupStart s = .next t ∧ t.jobs.rails.group = some k ∧ t.jobs.rails.next = none ∧
        (∀ n, n ∈ railsOf s k → (s.rail n).st = .off → (t.rail n).st = .ramp) ∧
        (∀ n, n ∉ railsOf s k → t.rail n = s.rail n) ∧ t.host = s.host) ∧
    (∀ g k, s.jobs.rails.st = .powerDown → s.jobs.rails.group = some g → (∀ n ∈ railsOf s g, (s.rail n).st = .off) → groupTop s = some k →
      ∃ t, exec .railGroupStop s = .next t ∧ t.jobs.rails.group = some k ∧ t.jobs.rails.st = .powerDown ∧
        (∀ n, n ∈ railsOf s k → (s.rail n).st ≠ .off → (t.rail n).st = .falling) ∧
        (∀ n, n ∉ railsOf s k → t.rail n = s.rail n) ∧ t.host = s.host) ∧
    (s.jobs.rails.st = .powerDown → groupTop s = none → s.jobs.rails.group = none →
      ∃ t, exec .railGroupStop s = .next t ∧ t.jobs.rails.st = .idle ∧ t.jobs.rails.offFor = 0 ∧ t.jobs.rails.minOff = false ∧
        Told s t Ev.SEQ_STATE (b2n (anyFailedUp s.jobs) * 2 ^ 8 + SqSt.idle.code)) ∧
    (s.jobs.rails.st = .tripped → seqEnabled s = true → tripWait s s.jobs.rails.k ≤ s.jobs.rails.tripFor → railsOff s = true →
      ∃ t, exec .seqTripRestart s = .next t ∧ t.jobs.rails.st = .powerUp ∧ t.jobs.rails.minOff = false ∧ t.jobs.rails.k = s.jobs.rails.k ∧
        Told s t Ev.SEQ_STATE SqSt.powerUp.code) ∧
    (s.jobs.rails.st = .tripped → tripKept s = false → par s gSEQ 8 SEQ.ENABLE = 0 → par s gSEQ 8 SEQ.MIN_OFF ≤ s.jobs.rails.tripFor →
      ∃ t, exec .seqTripIdle s = .next t ∧ t.jobs.rails.st = .idle ∧ t.jobs.rails.minOff = true ∧ t.jobs.rails.rails = s.jobs.rails.rails ∧
        Told s t Ev.SEQ_STATE (b2n (anyFailedUp s.jobs) * 2 ^ 8 + SqSt.idle.code)) ∧
    (s.jobs.rails.st = .idle → s.jobs.rails.minOff = false → par s gSEQ 8 SEQ.MIN_OFF ≤ s.jobs.rails.offFor →
      ∃ t, exec .minOffElapsed s = .next t ∧ t.jobs.rails.minOff = !seqEnabled s ∧
        t.jobs.rails.st = (if seqEnabled s then .powerUp else .idle)) ∧
    (s.jobs.rails.st = .running → 6000000 ≤ s.jobs.rails.runFor →
      exec .tripCountReset s = .next { s with jobs := { s.jobs with rails := { s.jobs.rails with k := 0 } } })

/-- While the pipeline runs, RSTOUTk whose stretch has run is released and the other three stand; a pulse on RSTOUT3 with no frame left
ends. Nothing else of the state changes. (R424, R425) -/
def Obligations.ResetOutputRows : Prop :=
  (∀ (s : State) (k x : Nat), k < 4 → s.live = true → s.jobs.rails.rst.length = 4 → s.jobs.rails.rst.getD k true = true →
    s.jobs.rails.rstFor.getD k none = some x → par s gSEQ (9 + k) SEQ.STRETCH ≤ x →
    ∃ t, exec (.rstoutRelease k) s = .next t ∧ t.jobs.rails.rst.getD k true = false ∧
      (∀ m, m ≠ k → t.jobs.rails.rst.getD m true = s.jobs.rails.rst.getD m true) ∧
      t = { s with jobs := { s.jobs with rails := { s.jobs.rails with rst := t.jobs.rails.rst } } }) ∧
  (∀ s : State, s.jobs.rails.pulse = 1 →
    exec .safePulseEnd s = .next { s with jobs := { s.jobs with rails := { s.jobs.rails with pulse := 0 } } })

/-- While the pipeline runs and no hold is in force, a low SAFEn begins the hold: every lane in use is OFF, SWINn, SWPPx and SWLINK are low.
While the pipeline does not run the level alone is noted, and in MOORED SAFEn changes nothing. With SAFEn high for SAFEN_RELEASE frames
the hold ends and SAFEN 0 tells it; lanes and outputs stand. (R12, R434) -/
def Obligations.SafenRows : Prop :=
  ∀ s : State,
    (s.live = true → s.jobs.safe.hold = false →
      ∃ t, exec .safenLow s = .next t ∧ t.jobs.safe.hold = true ∧ t.jobs.safe.safenLow = true ∧ t.outs.swin = rep 4 false ∧
        t.outs.swpp = rep 4 false ∧ t.outs.swlink = false ∧
        ∀ n, n < nLn s → lnUsed s n = true → (t.lane n).st = .off) ∧
    (s.live = false → s.ctl.state ≠ .moored →
      exec .safenLow s = .next { s with jobs := { s.jobs with safe := { s.jobs.safe with safenLow := true } } }) ∧
    (s.ctl.state = .moored → exec .safenLow s = .next s) ∧
    (s.jobs.safe.hold = true → s.jobs.safe.safenLow = false → par s gSAF 0 SAF.SAFEN_RELEASE ≤ s.jobs.safe.highRun →
      ∃ t, exec .safenRelease s = .next t ∧ t.jobs.safe.hold = false ∧ Told s t Ev.SAFEN 0 ∧ t.jobs.lanes = s.jobs.lanes ∧ t.outs = s.outs)

/-- Two precision conversions above the limit: on VINn the port's running lane is OFF and a READY port is ABSENT with cause 3; a direct
input's SWINn opens at once; on VPPx the port's running lane is OFF and a pack session is ABSENT with its hold-off begun. On VLINK the
hold of kind 2 begins and every direct input's SWINn is open; a pin above its limit begins the hold of kind 3 of that pin alone; a die
above 135 degC that of kind 4. A hold whose end condition has lasted 1,000 (kind 2) or 100,000 frames ends and PROTECT_HOLD tells it.
(R437) -/
def Obligations.ProtectionRows : Prop :=
  ∀ (s : State),
    (∀ k n, selvOk s = true → s.live = true → k ≤ 3 → chanPresent s k = true → twoAbove s k (100 * selvField s .inVmax k) = true →
      laneOfInput s k = some n → (s.lane n).st = .run → (s.src k).st = .ready →
      ∃ t, exec (.protPortOvervoltage k) s = .next t ∧ (t.lane n).st = .off ∧ (t.lane n).stopped = true ∧ (t.src k).st = .absent ∧
        (t.src k).cause = 3 ∧ (t.src k).sw = false) ∧
    (∀ k, selvOk s = true → s.live = true → k ≤ 3 → chanPresent s k = true → twoAbove s k (100 * selvField s .inVmax k) = true →
      laneOfInput s k = none →
      ∃ t, exec (.protPortOvervoltage k) s = .next t ∧ t.outs.swin = s.outs.swin.set k false ∧ t.jobs.lanes = s.jobs.lanes) ∧
    (∀ p n, selvOk s = true → s.live = true → p ≤ 3 → chanPresent s (8 + p) = true → twoAbove s (8 + p) (100 * selvField s .ppVmax p) = true →
      laneOfPort s p = some n → (s.lane n).st = .run →
      ∃ t, exec (.protPortOvervoltage (8 + p)) s = .next t ∧ (t.lane n).st = .off ∧
        (lnKind s n ≠ 3 → (t.lane n).stopped = true) ∧
        (lnKind s n = 3 → (s.pack p).ph ≠ .absent → (t.pack p).ph = .absent ∧ (t.pack p).holdoff = some 0)) ∧
    (selvOk s = true → s.live = true → s.jobs.safe.link.on = false → twoAbove s 16 (105 * selvField s .linkVmax 0) = true →
      ∃ t, exec .protLinkOvervoltage s = .next t ∧ t.jobs.safe.link.on = true ∧ t.jobs.lanes = s.jobs.lanes ∧
        ∀ n, n < nIn s → isDirect s n = true → n < s.outs.swin.length → t.outs.swin.getD n true = false) ∧
    (∀ k T, selvOk s = true → s.live = true → k < nTs s → s.jobs.safe.stage.length = 8 → (s.jobs.safe.stage.getD k {}).on = false →
      (s.pin k).temp = some T → 10 * (selvField s .tstage 0 : Int) < T →
      ∃ t, exec (.protStageOvertemp k) s = .next t ∧ (t.jobs.safe.stage.getD k {}).on = true ∧ t.jobs.lanes = s.jobs.lanes ∧ t.outs = s.outs ∧
        ∀ j, j ≠ k → t.jobs.safe.stage.getD j {} = s.jobs.safe.stage.getD j {}) ∧
    (s.live = true → s.jobs.safe.die.on = false → 13500 < s.jobs.sense.die →
      ∃ t, exec .protDieOvertemp s = .next t ∧ t.jobs.safe.die.on = true ∧ t.jobs.safe.stage = s.jobs.safe.stage ∧ t.outs = s.outs) ∧
    (∀ k, s.jobs.safe.link.on = true → 1000 ≤ s.jobs.safe.link.run →
      ∃ t, exec (.protectHoldEnd 2 k) s = .next t ∧ t.jobs.safe = { s.jobs.safe with link := {} } ∧ t.outs = s.outs) ∧
    (∀ k, k < 8 → (s.jobs.safe.stage.getD k {}).on = true → 100000 ≤ (s.jobs.safe.stage.getD k {}).run →
      ∃ t, exec (.protectHoldEnd 3 k) s = .next t ∧ t.jobs.safe = { s.jobs.safe with stage := s.jobs.safe.stage.set k {} } ∧ t.outs = s.outs) ∧
    (∀ k, s.jobs.safe.die.on = true → 100000 ≤ s.jobs.safe.die.run →
      ∃ t, exec (.protectHoldEnd 4 k) s = .next t ∧ t.jobs.safe = { s.jobs.safe with die := {} } ∧ t.outs = s.outs)

/-- The watchdog timeout, the watchdog enabled and counting and elapsed at WD_CLOSE, sets elapsed to 0, counts in WD_TIMEOUTS, notes FAULT
with cause 1, and decides SAFE for the commit; it touches no lane and no output. A live write of 0x4854 to HALT_REQ decides HALT with
cause 3, SAFEn low with SAFEN_HALT cause 1, the first cause standing. The start of a frame leaves the state. At the commit point HALT
stands above SAFE, SAFE above what OPMODE asks for. HALT: every lane is OFF, both outputs of its phases low, every switch open, the
rails as HALT_ACTION has them, a record and HALT_ENTERED. SAFE: privileges fall, the fallback profile begins, RSTOUT3's pulse starts,
lanes go on; a fault in SAFE starts the pulse again. STANDBY passes to RUN with the sequencer RUNNING, elapsed from 0; RUN and SAFE to
STANDBY where OPMODE is not RUN; SAFE to RUN after a service and a stitch behind it, the fallback ending. Else the state stands, as it
does in HALT and where the safety job's S4 has been cut off. (R7, R8, R10, R94, R98, R185, R313, R425, R439, R443, R454, R472) -/
def Obligations.ControllerStateRows : Prop :=
  ∀ s : State,
    (s.live = true → safetyRuns s = true → wdCounts s = true → par s gSAF 0 SAF.WD_EN = 1 → wdClose s ≤ s.jobs.safe.elapsed → s.jobs.safe.fired = false →
      ∃ t, exec .wdTimeout s = .next t ∧ t.jobs.safe.elapsed = 0 ∧ t.jobs.safe.timeouts = incSat 32 s.jobs.safe.timeouts ∧
        t.jobs.safe.fault = true ∧ t.jobs.safe.wdCause = 1 ∧ t.jobs.safe.fired = true ∧ t.jobs.lanes = s.jobs.lanes ∧ t.outs = s.outs ∧
        t.ctl.wantSafe = true ∧ t.ctl.state = s.ctl.state) ∧
    (∀ w, s.jobs.frm.running = true → s.host.lives = [w] → w.id = pid gSAF 0 SAF.HALT_REQ → w.ws = [0x4854] → w.eff ≤ s.swapFrame →
      s.host.stitched = [] → s.ctl.state ≠ .halt →
      ∃ t, exec .liveWriteEffect s = .next t ∧ t.ctl.wantHalt = some (s.ctl.wantHalt.getD 3) ∧ t.host.lives = [] ∧ t.ctl.state = s.ctl.state) ∧
    (∀ inp, s.live = true → s.jobs.frm.committed = true → s.ctl.resetReq = none →
      ∃ t, exec (.frameStart inp) s = .next t ∧ t.ctl.state = s.ctl.state ∧
        (inp.safen = false → inp.work = [] → par s gSAF 0 SAF.SAFEN_HALT = 1 → s.ctl.state ≠ .halt →
          t.ctl.wantHalt = some (s.ctl.wantHalt.getD 1) ∧ t.jobs.safe.hold = true)) ∧
    (s.live = true → s.jobs.frm.committed = false → s.jobs.frm.fresh = false → safetyRuns s = false →
      ∃ t, exec .commitPoint s = .next t ∧ t.ctl.state = s.ctl.state ∧ t.ctl.wantHalt = s.ctl.wantHalt ∧ t.ctl.wantSafe = s.ctl.wantSafe ∧
        t.ctl.haltCause = s.ctl.haltCause) ∧
    (s.live = true → s.jobs.frm.committed = false → s.jobs.frm.fresh = false → safetyRuns s = true →
      (∀ k, s.ctl.wantHalt = some k → s.ctl.state ≠ .halt → s.mods.length = 16 → s.jobs.rails.rails.length = 8 →
        ∃ t, exec .commitPoint s = .next t ∧ t.ctl.state = .halt ∧ t.ctl.haltCause = k ∧ t.ctl.wantHalt = none ∧ t.ctl.wantSafe = false ∧
          Tells s t Ev.STATE_CHANGED Ctl.halt.code ∧ Tells s t Ev.HALT_ENTERED k ∧
          (∀ n, n < nLn s → lnUsed s n = true → (t.lane n).st = .off ∧ ∀ x ∈ lanePhases s n, (t.mod x).forcedLow = true) ∧
          t.outs.swin = rep 4 false ∧ t.outs.swpp = rep 4 false ∧ t.outs.swlink = false ∧
          t.jobs.rails.goDown = decide (par s gSEQ 8 SEQ.HALT_ACTION = 1) ∧
          (s.records.wait = [] → (∀ j, (s.slot j).cutNow = none ∧ (s.slot j).consec < 3) →
            ∃ r ∈ t.records.wait, r.cause = Ev.HALT_ENTERED ∧ r.arg = k)) ∧
      (s.ctl.wantHalt = none → s.ctl.wantSafe = true → s.ctl.state = .run →
        ∃ t, exec .commitPoint s = .next t ∧ t.ctl.state = .safe ∧ t.ctl.wantSafe = false ∧ Tells s t Ev.STATE_CHANGED Ctl.safe.code ∧
          Tells s t Ev.PROFILE_FALLBACK 1 ∧ t.jobs.unit.fallback = true ∧
          (∀ tr : Transport, tr ≠ .fleet → (t.link tr).priv = min (s.link tr).priv (par s gSEC 0 SEC.PRIV_DEFAULT)) ∧
          (par s gSEQ 12 SEQ.SAFE_PULSE ≠ 0 → t.jobs.rails.pulse = par s gSEQ 12 SEQ.SAFE_PULSE + 1) ∧
          ∀ n, (∀ j, (s.slot j).cutNow = none ∧ (s.slot j).consec < 3) → (s.lane n).stopped = false → (t.lane n).st = (s.lane n).st) ∧
      (s.ctl.wantHalt = none → s.ctl.wantSafe = true → s.ctl.state = .safe →
        ∃ t, exec .commitPoint s = .next t ∧ t.ctl.state = .safe ∧ t.ctl.wantSafe = false ∧
          (par s gSEQ 12 SEQ.SAFE_PULSE ≠ 0 → t.jobs.rails.pulse = par s gSEQ 12 SEQ.SAFE_PULSE + 1)) ∧
      (s.ctl.wantHalt = none → s.ctl.wantSafe = false → s.ctl.state = .standby →
        ∃ t, exec .commitPoint s = .next t ∧
          (par s gGLB 0 GLB.OPMODE = 1 → s.jobs.rails.st = .running →
            t.ctl.state = .run ∧ t.jobs.safe.elapsed = 0 ∧ Tells s t Ev.STATE_CHANGED Ctl.run.code) ∧
          (par s gGLB 0 GLB.OPMODE ≠ 1 ∨ s.jobs.rails.st ≠ .running → t.ctl.state = .standby)) ∧
      (s.ctl.wantHalt = none → s.ctl.wantSafe = false → s.ctl.state = .run →
        ∃ t, exec .commitPoint s = .next t ∧
          (par s gGLB 0 GLB.OPMODE ≠ 1 → t.ctl.state = .standby ∧ Tells s t Ev.STATE_CHANGED Ctl.standby.code) ∧
          (par s gGLB 0 GLB.OPMODE = 1 → t.ctl.state = .run ∧ t.jobs.safe.elapsed = s.jobs.safe.elapsed)) ∧
      (s.ctl.wantHalt = none → s.ctl.wantSafe = false → s.ctl.state = .safe →
        ∃ t, exec .commitPoint s = .next t ∧
          (par s gGLB 0 GLB.OPMODE ≠ 1 → t.ctl.state = .standby ∧ t.jobs.unit.fallback = false ∧ Tells s t Ev.STATE_CHANGED Ctl.standby.code) ∧
          (par s gGLB 0 GLB.OPMODE = 1 → s.ctl.service = true → s.ctl.stitchAfter = true →
            t.ctl.state = .run ∧ t.jobs.unit.fallback = false ∧ t.ctl.service = false ∧ t.ctl.stitchAfter = false ∧
            t.jobs.safe.elapsed = s.jobs.safe.elapsed ∧ Tells s t Ev.STATE_CHANGED Ctl.run.code) ∧
          (par s gGLB 0 GLB.OPMODE = 1 → s.ctl.service = false ∨ s.ctl.stitchAfter = false → t.ctl.state = .safe)) ∧
      (s.ctl.wantHalt = none → s.ctl.wantSafe = false → s.ctl.state = .halt →
        ∃ t, exec .commitPoint s = .next t ∧ t.ctl.state = .halt ∧ t.ctl.haltCause = s.ctl.haltCause))

/-- A waiting record whose image is taken goes into the ring with the next number while the flash writer is free; nothing else of flash
changes. The allowance rises by 1 up to 16 after 18,000,000 frames. A trace armed with TRIG 2 is triggered on the frame after
acceptance; a trace whose rows are complete is full and TRACE_FULL tells it. (R461, R462, R469) -/
def Obligations.RecordRows : Prop :=
  ∀ s : State,
    (∀ r b rest, s.clocked = true → s.records.wait = r :: rest → r.bytes = some b → s.writer.busy = none →
      ∃ t, exec .faultRecordWrite s = .next t ∧ t.flash.recNo = (s.flash.recNo + 1) % 2 ^ 32 ∧
        t.flash.ring.head? = some ⟨(s.flash.recNo + 1) % 2 ^ 32, recordBytes ((s.flash.recNo + 1) % 2 ^ 32) b⟩ ∧
        t.flash = { s.flash with recNo := t.flash.recNo, ring := t.flash.ring } ∧ t.records.wait = rest ∧
        t.records.allow = s.records.allow ∧ t.writer.busy = some 3 ∧ t.writer.before = some s.flash ∧ t.jobs = s.jobs ∧ t.host = s.host) ∧
    (18000000 ≤ s.records.refill →
      exec .recordAllowanceRefill s = .next { s with records := { s.records with refill := 0, allow := satN 16 (s.records.allow + 1) } }) ∧
    (s.trace.st = 1 → s.trace.trig = 2 → s.trace.hit = false → s.trace.armedAt < s.frame →
      exec .traceNowTrigger s = .next { s with trace := { s.trace with hit := true } }) ∧
    (s.trace.st = 2 → traceRows s.trace.mask ≤ s.trace.rows.length →
      ∃ t, exec .traceFull s = .next t ∧ t.trace = { s.trace with st := 3 } ∧ Told s t Ev.TRACE_FULL (traceRows s.trace.mask))

/-- On its last frame, window w of a TSN-1648 that is not discarded gives each of its channels the mean over the contributions as AVG,
widens the held MIN and MAX to it, and starts empty; a channel without contributions has AVG -32,768 and keeps MIN and MAX. Another
window stands. (R464, R465) -/
def Obligations.TelemetryWindowRow : Prop :=
  ∀ (s : State) (w : Nat), w < 4 → s.ident.big = true → s.live = true → s.frame % telLen w = telLen w - 1 →
    s.telAt.getD w 0 ≠ s.frame / telLen w + 1 → s.telBad.getD w false = false →
    ∃ t, exec (.telWindowClose w) s = .next t ∧
      (∀ c, c ∈ telChans s → telWin t.jobs c w = (telWin s.jobs c w).close (telDiv s c)) ∧
      (∀ c v, v < 4 → v ≠ w → telWin t.jobs c v = telWin s.jobs c v) ∧ t.jobs = { s.jobs with tel := t.jobs.tel } ∧
      t.telAt = s.telAt.set w (s.frame / telLen w + 1) ∧ t.image = s.image ∧ t.host = s.host

/-- Power-on is cause 1 and clears the boundary-scan state too; RESETn low is cause 2 and holds the ROM until it rises; MOORED is left with
cause 8; a reset asked for takes the place of the next frame. Flash stands where no write of it is in progress. In MOORED, RESETn does
nothing; in the power-fail shut-down it waits for the record; while the clock is lost it resets and the logic is held still, with what
stands in SRAM, and no HALT is kept. (R5, R77, R394, R553, R555, R560) -/
def Obligations.ResetRows : Prop :=
  ∀ s : State,
    (∃ t, exec .powerOnReset s = .next t ∧ AfterReset s t 1 ∧ t.outs = State.reset.outs ∧
      (s.writer.before = none → t.flash = s.flash)) ∧
    (s.ctl.state ≠ .moored → s.ctl.powerFail = false ∨ s.ctl.pfDone = true → s.ctl.clockLost = false →
      ∃ t, exec .resetnLow s = .next t ∧ AfterReset s t 2 ∧ t.ctl.resetLow = true ∧ (s.writer.before = none → t.flash = s.flash) ∧
        t.outs.cells = s.outs.cells ∧ t.outs.jtag = s.outs.jtag) ∧
    (s.ctl.state = .moored → exec .resetnLow s = .next s) ∧
    (s.ctl.state ≠ .moored → s.ctl.powerFail = true → s.ctl.pfDone = false →
      exec .resetnLow s = .next { s with ctl := { s.ctl with resetLow := true, resetDue := true } }) ∧
    (s.ctl.state ≠ .moored → s.ctl.powerFail = false → s.ctl.clockLost = true →
      ∃ t, exec .resetnLow s = .next t ∧ t.ctl.state = .boot ∧ t.ctl.resetLow = true ∧ t.ctl.clockLost = true ∧ t.ctl.resetCause = 2 ∧
        t.ctl.haltCause = 0 ∧ t.ctl.coreUp = false ∧ t.frame = s.frame ∧ t.params = s.params ∧
        t.outs = { State.reset.outs with jtag := s.outs.jtag, cells := s.outs.cells, captured := s.outs.captured }) ∧
    exec .resetnRise s = .next { s with ctl := { s.ctl with resetLow := false } } ∧
    (s.ctl.state = .moored → ∃ t, exec .wakeFromMoored s = .next t ∧ AfterReset s t 8 ∧ (s.writer.before = none → t.flash = s.flash)) ∧
    (∀ c inp, s.live = true → s.jobs.frm.committed = true → s.ctl.resetReq = some c → c ≠ 1 →
      ∃ t, exec (.frameStart inp) s = .next t ∧ AfterReset s t c ∧ (s.writer.before = none → t.flash = s.flash))

/-- With slot A valid the ROM runs it and burns the fuses up to its ROLLBACK; with neither slot valid the recovery loader runs. At the end
of BOOT the core is up, the pipeline runs its first frame, the record and the stored energies are loaded, RESET_CAUSE and BOOT_SLOT are
told, and the controller is in STANDBY, or in HALT again where it was. (R7, R9, R48, R87, R486, R488, R495) -/
def Obligations.BootRows : Prop :=
  ∀ s : State, s.ctl.resetLow = false → s.ctl.clockLost = false → s.ctl.powerFail = false → s.ctl.state = .boot →
    (s.ctl.romDone = false → s.ctl.loader = false → s.ctl.resetReq = none → s.flash.copyReq = false → fwOk s 0 = true →
      ∃ t, exec .bootRom s = .next t ∧ t.ctl.romDone = true ∧ t.ctl.slot = 0 ∧ t.ctl.loader = false ∧ t.ident = { s.ident with strap := Config.strapLevel } ∧
        t.otp = { s.otp with fuses := max s.otp.fuses (satN 64 (fwRollback (s.flash.fw.getD 0 {}))) } ∧ t.ctl.state = .boot ∧ t.host = s.host) ∧
    (s.ctl.romDone = false → s.ctl.loader = false → s.ctl.resetReq = none → s.flash.copyReq = false → fwOk s 0 = false → fwOk s 1 = false →
      ∃ t, exec .bootRom s = .next t ∧ t.ctl.loader = true ∧ t.ctl.coreUp = true ∧ t.ctl.romDone = false ∧ t.otp = s.otp) ∧
    (s.ctl.romDone = true → s.jobs.rails.st ≠ .running →
      ∃ t, exec .bootComplete s = .next t ∧ t.ctl.coreUp = true ∧ t.ctl.romDone = false ∧ t.jobs.frm.running = true ∧ t.jobs.frm.fresh = true ∧
        t.params.selv = s.otp.selv ∧ t.params.alts = journalAlts s.flash.journal ∧ t.jobs.energy = s.flash.energy ∧ t.flash = s.flash ∧
        (s.ctl.haltCause = 0 → t.ctl.state = .standby) ∧ (s.ctl.haltCause ≠ 0 → t.ctl.state = .halt) ∧
        Tells s t Ev.RESET_CAUSE s.ctl.resetCause ∧ Tells s t Ev.BOOT_SLOT (s.otp.fuses * 2 ^ 8 + b2n s.ctl.copied * 2 + s.ctl.slot))

/-- MOORED follows, but not from HALT, when every lane and rail is OFF and every switch open, and the polarity of each RSTOUTk stands. The
supervision watchdog takes the core down: tags, long operations that do not survive, and sets that no launch holds are gone, while lanes
and outputs stand; the eighth within 1,000,000 frames resets the device with cause 5. It needs 500 frames of the core without progress.
The core comes back with CORE_RESTARTED and an OP_COMPLETE of each ended operation. (R11, R45, R48, R49, R445, R446) -/
def Obligations.MooringAndRestartRows : Prop :=
  ∀ s : State,
    (s.ctl.mooring = true → s.ctl.state ≠ .halt → (∀ n, n < nLn s → (s.lane n).st = .off) → railsOff s = true → s.outs.swin = rep 4 false → s.outs.swpp = rep 4 false →
      s.outs.swlink = false → s.jobs.rails.st = .idle ∨ s.jobs.rails.st = .tripped →
      ∃ t, exec .moorEnter s = .next t ∧ t.ctl.state = .moored ∧ t.ctl.coreUp = false ∧ t.flash = s.flash ∧ t.otp = s.otp ∧ t.ident = s.ident ∧
        (∀ id, id ≠ pid gSEC 0 SEC.PRIV_DEFAULT → (∀ k, k < 4 → id ≠ pid gSEQ (9 + k) SEQ.POLARITY) → assocGet t.params.vals id = none) ∧
        (∀ k, k < 4 → assocGet t.params.vals (pid gSEQ (9 + k) SEQ.POLARITY) = assocGet s.params.vals (pid gSEQ (9 + k) SEQ.POLARITY)) ∧ t.pending = s.pending ∧ t.jobs.sched.ledger = s.jobs.sched.ledger) ∧
    (s.live = true → s.coreRuns = true → s.ctl.state ≠ .boot → s.ctl.supFrom + 500 ≤ s.age → s.ctl.restarts = [] →
      ∃ t, exec .supervisionWatchdogExpiry s = .next t ∧ t.ctl.coreUp = false ∧ t.ctl.restarts = [s.age] ∧ t.coreRst = incSat 32 s.coreRst ∧
        t.host.flights = [] ∧ t.host.ops = s.host.ops.filter (opSurvives s) ∧ t.host.fresh = [] ∧ t.host.tide = s.host.tide ∧
        (∀ k, k < s.host.sets.length → (s.host.sets.getD k {}).heldBy = none → t.host.sets.getD k {} = {}) ∧
        t.jobs.lanes = s.jobs.lanes ∧ t.outs = s.outs ∧ t.params = s.params ∧ t.frame = s.frame) ∧
    (s.live = true → s.coreRuns = true → s.ctl.state ≠ .boot → s.ctl.supFrom + 500 ≤ s.age → 7 ≤ s.ctl.restarts.length →
      (∀ a ∈ s.ctl.restarts, s.age < a + 1000000) →
      ∃ t, exec .supervisionWatchdogExpiry s = .next t ∧ AfterReset s t 5) ∧
    (s.live = true → s.ctl.coreUp = false → s.ctl.state ≠ .boot → s.ctl.state ≠ .moored →
      ∃ t, exec .coreRestarted s = .next t ∧ t.ctl.coreUp = true ∧ Tells s t Ev.CORE_RESTARTED s.host.discTags ∧
        (∀ o ∈ s.host.ended, Tells s t Ev.OP_COMPLETE (opArg o.2.2 o.2.1 o.1)) ∧ t.host.ended = [] ∧ t.jobs.lanes = s.jobs.lanes ∧
        t.outs = s.outs ∧ t.params = s.params)

/-- A lost clock, like a power failure, drives every output to its reset state, each modulator low, and stops the pipeline. The clock's
return resets with cause 6 and CLOCK_LOSS tells the frame. A power failure abandons the flash writer and puts its record first; the
record written, a RESETn that has come meanwhile acts, else VSYS's return resets with cause 7, counted. In MOORED a fall of VSYS is only
remembered. Flash is named where no write of it is in progress. (R9, R449, R450, R451, R452) -/
def Obligations.ClockAndPowerRows : Prop :=
  ∀ s : State,
    (s.ctl.state ≠ .moored → s.ctl.clockLost = false → s.ctl.powerFail = false →
      ∃ t, exec .clockLoss s = .next t ∧ t.ctl.clockLost = true ∧ t.ctl.coreUp = false ∧ t.jobs.frm.running = false ∧
        t.outs = { State.reset.outs with jtag := s.outs.jtag, cells := s.outs.cells, captured := s.outs.captured } ∧ t.mods = s.mods.map Modulator.low ∧
        t.frame = s.frame ∧ t.host = s.host ∧ t.params = s.params) ∧
    (s.ctl.clockLost = true →
      ∃ t, exec .clockRecovered s = .next t ∧ AfterReset s t 6 ∧ t.ctl.clockLost = false ∧ t.records.wait.length = 1 ∧ (s.writer.before = none → t.flash = s.flash) ∧
        Tells State.reset t Ev.CLOCK_LOSS (s.frame % 2 ^ 32) ∧
        t.ctl.haltCause = (if s.ctl.state = .halt then s.ctl.haltCause else 0)) ∧
    (s.ctl.state = .moored → exec .powerFailTrip s = .next { s with ctl := { s.ctl with vsysFell := true } }) ∧
    (s.ctl.state ≠ .moored → s.ctl.powerFail = false →
      ∃ t r, exec .powerFailTrip s = .next t ∧ t.ctl.powerFail = true ∧ t.ctl.coreUp = false ∧ t.jobs.frm.running = false ∧ t.writer = {} ∧
        t.outs = { State.reset.outs with jtag := s.outs.jtag, cells := s.outs.cells, captured := s.outs.captured } ∧ t.mods = s.mods.map Modulator.low ∧
        t.records.wait = [r] ∧ r.bytes.isSome = true ∧ (s.writer.before = none → t.flash = s.flash) ∧ t.host = s.host) ∧
    (∀ r b rest, s.ctl.powerFail = true → s.ctl.pfDone = false → s.records.wait = r :: rest → r.bytes = some b → s.ctl.resetDue = true → s.ctl.clockLost = false → s.writer = {} →
      ∃ t, exec .powerFailRecordDone s = .next t ∧ AfterReset s t 2 ∧ t.ctl.resetLow = s.ctl.resetLow ∧
        t.flash.ring.head?.map (·.bytes) = some (recordBytes ((s.flash.recNo + 1) % 2 ^ 32) b)) ∧
    (∀ r b rest, s.ctl.powerFail = true → s.ctl.pfDone = false → s.records.wait = r :: rest → r.bytes = some b → s.ctl.resetDue = false →
      ∃ t, exec .powerFailRecordDone s = .next t ∧ t.ctl.pfDone = true ∧ t.flash.recNo = (s.flash.recNo + 1) % 2 ^ 32 ∧
        t.flash.ring.head?.map (·.bytes) = some (recordBytes ((s.flash.recNo + 1) % 2 ^ 32) b) ∧ t.records.wait = [] ∧ t.outs = s.outs) ∧
    (s.ctl.powerFail = true → s.ctl.pfDone = true →
      ∃ t, exec .powerReturn s = .next t ∧ AfterReset s t 7 ∧ t.ctl.powerFail = false ∧
        (s.writer.before = none → t.flash = { s.flash with pfails := incSat 32 s.flash.pfails }) ∧ Tells State.reset t Ev.POWER_FAIL s.flash.recNo)

/-- Source events add 65,536 each to the accumulator; short of PRESC nothing else changes. At PRESC 0x00010000 one event is one tick: mode 1
counts up to PERIOD and then to 0 with the shadow adopted, mode 2 down to 0 and then to PERIOD, mode 3 up and down, mode 4 stops at
PERIOD; a counter that comes to CMP_A up to PERIOD is a match, a wrap, peak or valley a turn. A stopped, held or frozen timer takes
none. Of SOURCE 2 the edge of another pin, or one that the selection leaves out, only moves the level of its pin; one that it takes
counts. A named start runs each timer of its mask that has a mode, from its OFFSET outside mode 3, and is cleared. (R499, R500, R501,
R502, R503, R504, R505, R506) -/
def Obligations.TimerCountRows : Prop :=
  ∀ (s : State) (k : Nat), k < 16 → s.timers.t.length = 16 →
    (timersRun s = false → ∀ i, exec (.timerTick k i) s = .next s) ∧
    (∀ i, timersRun s = true → par s gTMR k TMR.SOURCE = 0 →
      ((s.timer k).run = false ∨ (s.timer k).frozen = true ∨ par s gTMR k TMR.MODE = 0) →
      exec (.timerTick k i) s = .next (pinsIn i.levels s)) ∧
    (∀ i l, timersRun s = true → par s gTMR k TMR.SOURCE = 2 → l = (if i.rising then setBit i.levels i.pin else clrBit i.levels i.pin) →
      (bits (par s gTMR k TMR.SRC_ARG) 2 0 ≠ i.pin ∨ edgeTaken (bits (par s gTMR k TMR.SRC_ARG) 9 8) i.rising = false →
        exec (.timerTick k i) s = .next (pinsIn l s)) ∧
      (bits (par s gTMR k TMR.SRC_ARG) 2 0 = i.pin → edgeTaken (bits (par s gTMR k TMR.SRC_ARG) 9 8) i.rising = true → i.events = 1 →
        (s.timer k).run = true → (s.timer k).frozen = false → par s gTMR k TMR.IO_MODE ≠ 5 → par s gTMR k TMR.PRESC = 65536 → (s.timer k).acc = 0 →
        par s gTMR k TMR.MODE = 1 → (s.timer k).count < (s.timer k).period →
        ∃ t, exec (.timerTick k i) s = .next t ∧ (t.timer k).count = (s.timer k).count + 1 ∧ t.timers.io = l ∧
          ∀ j, j ≠ k → t.timer j = s.timer j)) ∧
    (timersRun s = true → par s gTMR k TMR.SOURCE = 0 → (s.timer k).run = true → (s.timer k).frozen = false → par s gTMR k TMR.IO_MODE ≠ 5 →
      (∀ i, par s gTMR k TMR.MODE ≠ 0 → (s.timer k).acc + 65536 * i.events < par s gTMR k TMR.PRESC →
        exec (.timerTick k i) s = .next ((pinsIn i.levels s).modTimer k fun x => { x with acc := x.acc + 65536 * i.events })) ∧
      (∀ i, i.events = 1 → par s gTMR k TMR.PRESC = 65536 → (s.timer k).acc = 0 →
        (par s gTMR k TMR.MODE = 1 → (s.timer k).count < (s.timer k).period →
          ∃ t, exec (.timerTick k i) s = .next t ∧ (t.timer k).count = (s.timer k).count + 1 ∧
            (t.timer k).hits.any (·.kind == 2) = false ∧
            (t.timer k).hits.any (·.kind == 0) = decide ((s.timer k).count + 1 = (s.timer k).cmpA) ∧ (t.timer k).period = (s.timer k).period ∧
            (t.timer k).acc = 0 ∧ (t.timer k).shPer = (s.timer k).shPer ∧ (t.timer k).run = true ∧ t.host = s.host ∧ t.jobs = s.jobs ∧
            t.timers.io = i.levels ∧ ∀ j, j ≠ k → t.timer j = s.timer j) ∧
        (par s gTMR k TMR.MODE = 1 → (s.timer k).period ≤ (s.timer k).count →
          ∃ t, exec (.timerTick k i) s = .next t ∧ (t.timer k).count = 0 ∧ (t.timer k).hits.any (·.kind == 2) = true ∧
            (t.timer k).period = (s.timer k).shPer.getD (s.timer k).period ∧ (t.timer k).cmpA = (s.timer k).shA.getD (s.timer k).cmpA ∧
            (t.timer k).cmpB = (s.timer k).shB.getD (s.timer k).cmpB ∧ (t.timer k).shPer = none ∧ t.host = s.host ∧ t.jobs = s.jobs ∧
            ∀ j, j ≠ k → t.timer j = s.timer j) ∧
        (par s gTMR k TMR.MODE = 2 → (s.timer k).count ≠ 0 →
          ∃ t, exec (.timerTick k i) s = .next t ∧ (t.timer k).count = (s.timer k).count - 1 ∧ (t.timer k).hits.any (·.kind == 2) = false ∧
            ((t.timer k).hits.any (·.kind == 1) = true ↔
              (s.timer k).count - 1 = (s.timer k).cmpB ∧ (s.timer k).cmpB ≤ (s.timer k).period) ∧
            (t.timer k).period = (s.timer k).period ∧ ∀ j, j ≠ k → t.timer j = s.timer j) ∧
        (par s gTMR k TMR.MODE = 2 → (s.timer k).count = 0 →
          ∃ t, exec (.timerTick k i) s = .next t ∧ (t.timer k).period = (s.timer k).shPer.getD (s.timer k).period ∧
            (t.timer k).count = (t.timer k).period ∧ (t.timer k).hits.any (·.kind == 2) = true ∧ ∀ j, j ≠ k → t.timer j = s.timer j) ∧
        (par s gTMR k TMR.MODE = 3 → (s.timer k).down = true → 1 < (s.timer k).count →
          ∃ t, exec (.timerTick k i) s = .next t ∧ (t.timer k).count = (s.timer k).count - 1 ∧ (t.timer k).down = true ∧
            (t.timer k).hits.any (·.kind == 2) = false ∧ ∀ j, j ≠ k → t.timer j = s.timer j) ∧
        (par s gTMR k TMR.MODE = 3 → (s.timer k).down = false → (s.timer k).count < (s.timer k).period →
          ∃ t, exec (.timerTick k i) s = .next t ∧ (t.timer k).count = (s.timer k).count + 1 ∧
            (t.timer k).hits.any (·.kind == 2) = (t.timer k).down ∧ ∀ j, j ≠ k → t.timer j = s.timer j) ∧
        (par s gTMR k TMR.MODE = 4 → (s.timer k).count + 1 = (s.timer k).period →
          ∃ t, exec (.timerTick k i) s = .next t ∧ (t.timer k).run = false ∧ (t.timer k).count = (s.timer k).period ∧
            (t.timer k).hits.any (·.kind == 2) = true ∧ (t.timer k).shPer = none ∧ ∀ j, j ≠ k → t.timer j = s.timer j))) ∧
    (∀ f m, timersRun s = true → s.timers.named = some (f, m) → f ≤ s.swapFrame →
      ∃ t, exec .tmrNamedStart s = .next t ∧ t.timers.named = none ∧ t.host = s.host ∧ t.jobs = s.jobs ∧ t.outs = s.outs ∧
        (bit m k = false → t.timer k = s.timer k) ∧
        (bit m k = true → par s gTMR k TMR.MODE ≠ 0 → (s.timer k).frozen = false → (s.timer k).stopAt ≠ some (s.swapFrame * 4096) →
          (t.timer k).run = true ∧ (t.timer k).acc = 0 ∧ (par s gTMR k TMR.MODE ≠ 3 → (t.timer k).count = par s gTMR k TMR.OFFSET)))

/-- Match A with EVENT raises TMR_ACTION once in 100 frames and counts the others; match B with DMA pushes frame, data and counter into a
FIFO with room; a turn starts or stops the timer of its TARGET. An edge that IO_MODE takes captures the counter, another moves the level
of the pin alone. A conversion result goes into the FIFO with its code and the cycle of its slot, and into a full FIFO is dropped with
an event; a request after 4 plans is withdrawn and counted. With no timer that counts another's actions, no other timer, job (the fleet
job's outgoing events apart) or output changes. (R508, R509, R510, R511, R512, R513, R514, R517) -/
def Obligations.TimerActionRows : Prop :=
  ∀ (s : State) (k at_ : Nat), k < 16 → s.timers.t.length = 16 → timersRun s = true → (∀ u, u < 16 → par s gTMR u TMR.SOURCE ≠ 3) →
    (∀ h, hitOf s k 0 = some h → par s gTMR k TMR.ACT_A = 1 → (∀ a, (s.timer k).evAt = some a → a + 100 ≤ s.age) →
      ∃ t, exec (.tmrMatchA k at_) s = .next t ∧ (t.timer k).hits = (s.timer k).hits.erase h ∧ (t.timer k).evN = 0 ∧
        (t.timer k).count = (s.timer k).count ∧ Told s t Ev.TMR_ACTION (satN 65535 ((s.timer k).evN + 1) * 2 ^ 16 + k) ∧
        t.jobs = { s.jobs with fleet := t.jobs.fleet } ∧ t.outs = s.outs ∧ ∀ j, j ≠ k → t.timer j = s.timer j) ∧
    (∀ h a, hitOf s k 0 = some h → par s gTMR k TMR.ACT_A = 1 → (s.timer k).evAt = some a → s.age < a + 100 →
      ∃ t, exec (.tmrMatchA k at_) s = .next t ∧ (t.timer k).hits = (s.timer k).hits.erase h ∧
        (t.timer k).evN = satN 65535 ((s.timer k).evN + 1) ∧ t.host = s.host ∧ t.jobs = s.jobs ∧ ∀ j, j ≠ k → t.timer j = s.timer j) ∧
    (∀ h, hitOf s k 1 = some h → par s gTMR k TMR.ACT_B = 4 → par s gTMR k TMR.DMA_DATA = 0 → (s.timer k).fifo.length < 32 →
      exec (.tmrMatchB k at_) s =
        .next (s.modTimer k fun x => { x with hits := x.hits.erase h, fifo := x.fifo ++ [s.frame % 65536 * 2 ^ 48 + h.count] })) ∧
    (∀ h u, hitOf s k 2 = some h → par s gTMR k TMR.ACT_TURN = 8 → par s gTMR k TMR.TARGET = 2 ^ u → u < 16 → u ≠ k →
      par s gTMR u TMR.MODE = 1 → (s.timer u).frozen = false → (s.timer u).stopAt ≠ some (nextCycle s at_) →
      ∃ t, exec (.tmrTurn k at_) s = .next t ∧ (t.timer k).hits = (s.timer k).hits.erase h ∧ (t.timer u).run = true ∧ (t.timer u).acc = 0 ∧
        (t.timer u).count = par s gTMR u TMR.OFFSET ∧ t.host = s.host ∧ t.jobs = s.jobs ∧ t.outs = s.outs ∧
        ∀ j, j ≠ k → j ≠ u → t.timer j = s.timer j) ∧
    (∀ h u, hitOf s k 2 = some h → par s gTMR k TMR.ACT_TURN = 16 → par s gTMR k TMR.TARGET = 2 ^ u → u < 16 → u ≠ k →
      (s.timer u).startAt = none → (s.timer u).frozen = false →
      ∃ t, exec (.tmrTurn k at_) s = .next t ∧ (t.timer k).hits = (s.timer k).hits.erase h ∧ (t.timer u).run = false ∧
        (t.timer u).count = (s.timer u).count ∧ t.host = s.host ∧ t.jobs = s.jobs ∧ t.outs = s.outs ∧
        ∀ j, j ≠ k → j ≠ u → t.timer j = s.timer j) ∧
    (∀ e m l, 2 ≤ m → m ≤ 4 → par s gTMR k TMR.IO_MODE = m → par s gTMR k TMR.IO_PIN < 8 →
      l = (if e.rising then setBit s.timers.io (par s gTMR k TMR.IO_PIN) else clrBit s.timers.io (par s gTMR k TMR.IO_PIN)) →
      ((m = 2 ∧ e.rising = false) ∨ (m = 3 ∧ e.rising = true) ∨ (s.timer k).frozen = true → exec (.tmrCapture k e) s = .next (pinsIn l s)) ∧
      ((m = 2 ∧ e.rising = true) ∨ (m = 3 ∧ e.rising = false) ∨ m = 4 → (s.timer k).frozen = false → par s gTMR k TMR.ACT_CAP = 0 →
        exec (.tmrCapture k e) s = .next ((pinsIn l s).modTimer k fun x => { x with capture := x.count }))) ∧
    (∀ code c, (s.timer k).conv.isSome = true → (s.timer k).slot = some c → convWaits s k = false → (s.timer k).fifo.length < 32 →
      exec (.tmrConvResult k code (slotCycle c)) s =
        .next (s.modTimer k fun x => { x with
          conv := none, slot := none, fifo := x.fifo ++ [s.frame % 65536 * 2 ^ 48 + code % 65536 * 2 ^ 32 + slotCycle c] })) ∧
    (∀ code c, (s.timer k).conv.isSome = true → (s.timer k).slot = some c → convWaits s k = false → 32 ≤ (s.timer k).fifo.length →
      (s.timer k).ovf = false →
      ∃ t, exec (.tmrConvResult k code (slotCycle c)) s = .next t ∧ (t.timer k).fifo = (s.timer k).fifo ∧ (t.timer k).ovf = true ∧
        Told s t Ev.TMR_FIFO_FULL k ∧ t.jobs = { s.jobs with fleet := t.jobs.fleet } ∧ ∀ j, j ≠ k → t.timer j = s.timer j) ∧
    (∀ n, (s.timer k).conv = some n → convWaits s k = true → 4 ≤ n →
      ∃ t, exec (.tmrConvWithdrawn k) s = .next t ∧ (t.timer k).conv = none ∧ (t.timer k).missed = incSat 32 (s.timer k).missed ∧
        convWaits t k = false ∧ (t.timer k).fifo = (s.timer k).fifo ∧ t.host = s.host ∧ ∀ j, j ≠ k → t.timer j = s.timer j)

/-- With DEBUG_EN at 1 a halt of the running core stops the taking of packets and freezes exactly the timers with DBG_FREEZE 1; counters,
jobs, outputs and the host side stand. Without DEBUG_EN nothing happens. The release thaws every timer, and the supervision count starts
again. A boundary-scan instruction comes into force; SAMPLE/PRELOAD and EXTEST capture the level of every ball of the chain and keep the
cells shifted in. In MOORED it does nothing. Under EXTEST with SAFEn low a PWM ball has the level of its cell, under HIGHZ with SAFEn
high its functional one. (R447, R517, R553, R556) -/
def Obligations.DebuggerAndScanRows : Prop :=
  ∀ s : State, s.timers.t.length = 16 →
    (par s gSEC 0 SEC.DEBUG_EN = 1 → s.coreRuns = true → s.live = true →
      ∃ t, exec .debuggerHalt s = .next t ∧ accepts t = false ∧ t.ctl = { s.ctl with dbgHalt := true } ∧ t.host = s.host ∧ t.jobs = s.jobs ∧
        t.outs = s.outs ∧ ∀ k, k < 16 →
          t.timer k = if par s gTMR k TMR.DBG_FREEZE = 1 then { s.timer k with frozen := true } else s.timer k) ∧
    (par s gSEC 0 SEC.DEBUG_EN ≠ 1 → exec .debuggerHalt s = .next s) ∧
    (s.ctl.dbgHalt = true →
      ∃ t, exec .debuggerRelease s = .next t ∧ t.ctl = { s.ctl with dbgHalt := false, supFrom := s.age } ∧ t.host = s.host ∧ t.jobs = s.jobs ∧
        t.outs = s.outs ∧ ∀ k, k < 16 → (s.timer k).held = [] → t.timer k = { s.timer k with frozen := false }) ∧
    (∀ (ir : Jtag) cells, s.ctl.state = .moored → exec (.boundaryScanInstruction ir cells) s = .next s) ∧
    (∀ (ir : Jtag) cells, s.ctl.state ≠ .moored → ir ≠ .sample → ir ≠ .extest →
      exec (.boundaryScanInstruction ir cells) s = .next { s with outs := { s.outs with jtag := ir } }) ∧
    (∀ (ir : Jtag) cells, s.ctl.state ≠ .moored → ir = .sample ∨ ir = .extest →
      ∃ t, exec (.boundaryScanInstruction ir cells) s = .next t ∧ t.outs.jtag = ir ∧ t.outs.cells = cells ∧
        t.outs.captured = scanChain.map (ballLevel { s with outs := { s.outs with jtag := ir } }) ∧ t.jobs = s.jobs ∧ t.host = s.host ∧
        t.mods = s.mods ∧ ∀ x, x < 16 → ir = .extest → s.jobs.safe.safenLow = true → ballOut t (.pwmh x) = some (cells.getD x false)) ∧
    (∀ cells x, s.ctl.state ≠ .moored → x < 16 → s.jobs.safe.safenLow = false →
      ∃ t, exec (.boundaryScanInstruction .highz cells) s = .next t ∧ ballOut t (.pwmh x) = ballDrive s (.pwmh x) ∧
        ballOut t (.rstout 0) = none)

/-- A sound packet of GET_INFO, TIDE_READ, WD_SERVE, LAUNCH_CANCEL, EVENT_ACK, PARAM_BASTE, PARAM_STITCH with MODE 1 or, in version-1
framing, of GET_INFO, PARAM_READ, PARAM_WRITE_LIVE, EVENT_READ or WD_SERVE does on each transport what its row does; SPI drives 0xFF
meanwhile, and nothing in MOORED, in reset and in BOOT. A wrong CRC is answered BAD_CRC with the CRC received, a LEN that does not fit
BAD_LEN with the length, and nothing else happens. While no packet is taken SPI counts and drops it, I2C drops it. CAN segments in order
make one packet; one out of order discards it, counted, as does a gap above 10 ms. Another direction byte is ignored, a classic frame
counted. (R34, R36, R37, R38, R39, R40, R41, R42, R48, R55, R58) -/
def Obligations.TransportWriteRows : Prop :=
  ∀ (s : State) (h : Hdr),
    (∀ p c, h.tr ≠ .fleet → h.tag < 256 →
      (untagged s h.tr = false ∧ Packs h p c) ∨ (untagged s h.tr = true ∧ Packs1 h p c) →
      (h.tr = .spi → ∃ u, exec c s = .next u ∧ exec (.spiWriteTransaction p h.cyc) s = .next (u.modLink .spi fun l => { l with lastOut := misoIdle p.length s })) ∧
      (h.tr = .i2c → ∃ t, exec (.i2cWriteTransfer p h.cyc) s = .next t ∧ exec c s = .next t) ∧
      (h.tr = .can → accepts s = true → s.host.partial_ = none → ∃ t, exec (.canFdSegment (0 :: p) h.cyc) s = .next t ∧ exec c s = .next t)) ∧
    (∀ o tg pay crc b tag, accepts s = true → pay.length ≤ 1024 → crc < 65536 → crc16 b ≠ crc →
      (untagged s h.tr = false ∧ b = [o, tg] ++ leBytes 2 pay.length ++ pay ∧ tag = some tg.toNat) ∨
      (untagged s h.tr = true ∧ b = [o] ++ leBytes 2 pay.length ++ pay ∧ tag = none) →
      (h.tr = .spi → ∃ t, exec (.spiWriteTransaction (b ++ leBytes 2 crc) h.cyc) s = .next t ∧ OnlyReplies s t ∧ t.host.flights = s.host.flights ∧
        RepliedTo t .spi tag St.BAD_CRC (leBytes 2 crc)) ∧
      (h.tr = .i2c → ∃ t, exec (.i2cWriteTransfer (b ++ leBytes 2 crc) h.cyc) s = .next t ∧ OnlyReplies s t ∧
        t.host.flights = s.host.flights ∧ RepliedTo t .i2c tag St.BAD_CRC (leBytes 2 crc))) ∧
    (∀ o tg rest, accepts s = true → untagged s .spi = false → (o :: tg :: rest).length ≠ fld rest 0 2 + 6 ∨ 1024 < fld rest 0 2 →
      ∃ t, exec (.spiWriteTransaction (o :: tg :: rest) h.cyc) s = .next t ∧ OnlyReplies s t ∧ t.host.flights = s.host.flights ∧
        RepliedTo t .spi (some tg.toNat) St.BAD_LEN (leBytes 2 ((o :: tg :: rest).length % 65536))) ∧
    (∀ p, accepts s = false → exec (.spiWriteTransaction p h.cyc) s = .next { s with host := { s.host with
      drops := if powered s then incSat 32 s.host.drops else s.host.drops
      spi := { s.host.spi with lastOut := if powered s = true ∧ (s.ctl.state ≠ .boot ∨ s.ctl.loader = true) then rep p.length 0xFF else [] } } }) ∧
    (∀ p, accepts s = false → exec (.i2cWriteTransfer p h.cyc) s = .next s) ∧
    (∀ dir bs, exec (.spiOtherDirectionByte dir bs) s = .next s) ∧
    (∀ d, accepts s = true → s.host.partial_ = none →
      exec (.canFdSegment (64 :: d) h.cyc) s = .next { s with host := { s.host with partial_ := some (0, d, s.age) } }) ∧
    (∀ q bs a d, accepts s = true → s.host.partial_ = some (q, bs, a) → s.age ≤ a + 1000 → q < 63 →
      exec (.canFdSegment (byte (128 + q + 1) :: d) h.cyc) s = .next { s with host := { s.host with partial_ := some (q + 1, bs ++ d, s.age) } } ∧
      ∃ t, exec (.canFdSegment (byte (192 + q + 1) :: d) h.cyc) s = .next t ∧
        exec (.canFdSegment (0 :: (bs ++ d)) h.cyc) { s with host := { s.host with partial_ := none } } = .next t) ∧
    (∀ q bs a k d, accepts s = true → s.host.partial_ = some (q, bs, a) → k < 64 → k ≠ (q + 1) % 64 →
      exec (.canFdSegment (byte (128 + k) :: d) h.cyc) s =
        .next { s with host := { s.host with partial_ := none, drops := incSat 32 s.host.drops } }) ∧
    (∀ q bs a, s.host.partial_ = some (q, bs, a) → a + 1000 < s.age →
      exec .canSegmentGapTimeout s = .next { s with host := { s.host with partial_ := none, drops := incSat 32 s.host.drops } }) ∧
    (s.host.partial_ = none → exec .canSegmentGapTimeout s = .next s) ∧
    (powered s = true → s.ctl.state ≠ .boot ∨ s.ctl.loader = true →
      exec .canClassicFrame s = .next { s with host := { s.host with classic := incSat 32 s.host.classic } })

/-- A read clocks out the oldest ready reply and 0xFF beyond it; read to its CRC the reply leaves and its tag is free, short of that it
stays. Bus-off recovery sends what waits. A result leaves after 10 s. A simple operation without a reply after 1 s is answered INTERNAL
with detail 1. A reply not read for 10 s is discarded. A transport idle for PRIV_IDLE seconds falls to PRIV_DEFAULT, told by
PRIV_DROPPED. (R34, R35, R37, R39, R43, R45, R46, R47, R48, R53) -/
def Obligations.TransportReadAndExpiryRows : Prop :=
  ∀ s : State,
    (∀ r l n, accepts s = true → s.host.spi.replies = r :: l → r.ready ≤ s.frame →
      ∃ t, exec (.spiReadTransaction n) s = .next t ∧ t.host.spi.lastOut = r.bytes.take n ++ rep (n - r.bytes.length) 0xFF ∧
        (n < r.bytes.length → t.host.spi.replies = r :: l ∧ t.host.flights = s.host.flights) ∧
        (r.bytes.length ≤ n → t.host.spi.replies = l ∧ t.host.flights = freeTag s.host.flights .spi r) ∧ t.host.i2c = s.host.i2c ∧
        t.host.events = s.host.events ∧ t.params = s.params) ∧
    (∀ r l n, accepts s = true → s.host.i2c.replies = r :: l → r.ready ≤ s.frame →
      ∃ t, exec (.i2cReadTransfer n) s = .next t ∧ t.host.i2c.lastOut = r.bytes.take n ++ rep (n - r.bytes.length) 0xFF ∧
        (n < r.bytes.length → t.host.i2c.replies = r :: l ∧ t.host.flights = s.host.flights) ∧
        (r.bytes.length ≤ n → t.host.i2c.replies = l ∧ t.host.flights = freeTag s.host.flights .i2c r) ∧ t.host.spi = s.host.spi) ∧
    (∀ n, accepts s = false →
      exec (.spiReadTransaction n) s = .next { s with host := { s.host with spi := { s.host.spi with
        lastOut := if powered s = true ∧ (s.ctl.state ≠ .boot ∨ s.ctl.loader = true) then rep n 0xFF else [] } } }) ∧
    (∀ n, accepts s = true → s.host.spi.replies = [] →
      exec (.spiReadTransaction n) s = .next { s with host := { s.host with spi := { s.host.spi with lastOut := rep n 0xFF } } }) ∧
    (s.coreRuns = true →
      ∃ t, exec .canBusOffRecovery s = .next t ∧ OnlyReplies s t ∧ (∀ r ∈ t.host.can.replies, r ∈ s.host.can.replies ∧ s.frame < r.ready) ∧
        ∀ r ∈ s.host.can.replies, r.ready ≤ s.frame → ∃ c : Nat × Nat × Nat, ∀ d ∈ segments 20 0 true r.bytes,
          (⟨c.1, c.2.1, c.2.2, d⟩ : CanOut) ∈ t.host.canOut) ∧
    (∀ num r, s.host.results.find? (fun r => r.num == num && decide (r.until_ ≤ s.age)) = some r → r.opc ≠ 0x71 →
      exec (.resultExpiry num) s = .next { s with host := { s.host with results := s.host.results.filter fun x => x != r } }) ∧
    (∀ num r, s.host.results.find? (fun r => r.num == num && decide (r.until_ ≤ s.age)) = some r → r.opc = 0x71 →
      ∃ t, exec (.resultExpiry num) s = .next t ∧ r ∉ t.host.results ∧ (∀ g, t.fleet.snap = some g → g.num ≠ num) ∧ t.fleet.st = s.fleet.st) ∧
    (∀ num, (∀ r ∈ s.host.results, r.num = num → s.age < r.until_) → exec (.resultExpiry num) s = .next s) ∧
    (∀ f tag, s.host.flights = [f] → f.done = false → f.tr ≠ .fleet → f.tag = some tag → f.since + 100000 ≤ s.age → s.coreRuns = true → s.live = true →
      s.host.fresh = [] → (∀ x ∈ s.host.stitches, x.owes ≠ some (f.tr, f.tag)) → s.host.inner.replies = [] → s.fleet.inner = [] →
      ∃ t, exec (.simpleOpAbandon tag) s = .next t ∧ RepliedTo t f.tr f.tag St.INTERNAL [1, 0] ∧ t.host.events = s.host.events ∧
        t.params = s.params ∧ t.outs = s.outs) ∧
    (∀ r tag, s.host.spi.replies = [r] → r.tag = some tag → r.since + 1000000 ≤ s.age → s.host.i2c.replies = [] → s.host.can.replies = [] →
      ∃ t, exec (.replyDiscard tag) s = .next t ∧ t.host.spi = { s.host.spi with replies := [] } ∧ t.host.i2c = s.host.i2c ∧
        t.host.flights = freeTag s.host.flights .spi r ∧ t.host.events = s.host.events ∧ t.params = s.params) ∧
    (∀ tr : Transport, tr ≠ .fleet → (s.link tr).lastCmd + 100000 * par s gSEC 0 SEC.PRIV_IDLE ≤ s.age →
      ∃ t, exec (.privIdleTimeout tr) s = .next t ∧
        (t.link tr).priv = min (s.link tr).priv (par s gSEC 0 SEC.PRIV_DEFAULT) ∧ (∀ k, k ≠ tr → t.link k = s.link k) ∧
        (par s gSEC 0 SEC.PRIV_DEFAULT < (s.link tr).priv → Tells s t Ev.PRIV_DROPPED (trNum tr * 256 + par s gSEC 0 SEC.PRIV_DEFAULT)) ∧
        ((s.link tr).priv ≤ par s gSEC 0 SEC.PRIV_DEFAULT → t = s))

/-- ATTEST starts an operation whose result is the signed statement over its nonce and kind. AUTH_CHALLENGE gives 32 random bytes (free
values, log 2) and keeps them; any AUTH_RESPONSE takes them and starts the check; one that passes gives the level and clears the
failures, one that fails is AUTH_FAIL with the key slot as its detail and counts, and the fifth locks challenges for 60 s, told by
AUTH_LOCKOUT. While locked a challenge is LOCKED with detail 1. The oldest key that waits goes into its slot and no other, one for flash
by a free flash writer; 64 bytes of 0xFF erase a flash slot, an OTP slot that is programmed fails, and KEY_INSTALLED tells it. (R46,
R77, R478, R480, R481, R482, R483, R485) -/
def Obligations.SecurityRows : Prop :=
  ∀ (s : State) (h : Hdr),
    (∀ nonce kind, HostReady s h 0x48 3 0 → kind ≤ 2 → s.resultsHeld < 8 →
      ∃ t, exec (.attest h nonce kind) s = .next t ∧ Accepts s t h 0x48 0 [kind] nonce ∧ t.jobs = s.jobs ∧ t.params = s.params ∧
        t.host.events = s.host.events) ∧
    (∀ lvl, HostReady s h 0x49 2 0 → 1 ≤ lvl → lvl ≤ 4 → (s.link h.tr).lockUntil = none →
      ∃ t ch, exec (.authChallenge h lvl) s = .next t ∧ ch = ((List.range 32).map fun k => Config.randomByte (s.freeCtr + k)) ∧
        Replied t h St.OK ch ∧ (t.link h.tr).challenge = some (lvl, ch, s.age) ∧ (t.link h.tr).priv = (s.link h.tr).priv ∧ t.params = s.params ∧
        t.host.ops = s.host.ops) ∧
    (∀ lvl a, HostReady s h 0x49 2 0 → 1 ≤ lvl → lvl ≤ 4 → (s.link h.tr).lockUntil = some a → s.age < a →
      Answers s (.authChallenge h lvl) h St.LOCKED [1, 0]) ∧
    (∀ lvl slot sig, HostReady s h 0x4A 2 0 →
      ∃ t, exec (.authResponse h lvl slot sig) s = .next t ∧ (t.link h.tr).challenge = none ∧ (t.link h.tr).priv = (s.link h.tr).priv ∧
        ((s.link h.tr).challenge = none → Accepts s t h 0x4A 0 [lvl, slot, 0] (sig.take 64)) ∧
        (∀ l ch a, (s.link h.tr).challenge = some (l, ch, a) → l ≠ lvl ∨ challengeStands s a = false →
          Accepts s t h 0x4A 0 [lvl, slot, 0] (sig.take 64)) ∧
        (∀ ch a, (s.link h.tr).challenge = some (lvl, ch, a) → ch ≠ [] → challengeStands s a = true →
          Accepts s t h 0x4A 0 [lvl, slot, 1] (sig.take 64 ++ ch))) ∧
    (∀ a, s.ctl.loader = false → challengeStands s a = decide (s.age ≤ a + 1000000)) ∧
    (∀ o num, s.opRun 0x48 num = some o → s.coreRuns = true →
      ∃ t r, exec (.attestComplete num) s = .next t ∧ t.host.results = s.host.results ++ [r] ∧ r.num = num ∧ r.opc = 0x48 ∧ r.lost = false ∧
        r.bytes = attestResult s o.data (o.args.getD 0 0) s.freeCtr ∧ t.host.ops = s.host.ops.filter (fun o => !(o.num == num && o.opc == 0x48)) ∧
        Tells s t Ev.OP_COMPLETE (opArg St.OK 0x48 num)) ∧
    (∀ o num lvl slot c, s.opRun 0x4A num = some o → s.coreRuns = true → o.args = [lvl, slot, c] →
      (authPasses s o = true →
        ∃ t, exec (.authResponseComplete num) s = .next t ∧ (t.link o.tr).priv = lvl ∧ (t.link o.tr).fails = 0 ∧
          (∀ k, k ≠ o.tr → t.link k = s.link k) ∧ Tells s t Ev.OP_COMPLETE (opArg St.OK 0x4A num)) ∧
      (authPasses s o = false → (s.link o.tr).fails < 4 →
        ∃ t, exec (.authResponseComplete num) s = .next t ∧ (t.link o.tr).priv = (s.link o.tr).priv ∧
          (t.link o.tr).fails = (s.link o.tr).fails + 1 ∧ (t.link o.tr).lockUntil = (s.link o.tr).lockUntil ∧
          t.host.endDetail = some (num, slot) ∧ Tells s t Ev.OP_COMPLETE (opArg St.AUTH_FAIL 0x4A num)) ∧
      (authPasses s o = false → (s.link o.tr).fails = 4 →
        ∃ t, exec (.authResponseComplete num) s = .next t ∧ (t.link o.tr).priv = (s.link o.tr).priv ∧
          (t.link o.tr).lockUntil = some (s.age + 6000000) ∧ Tells s t Ev.AUTH_LOCKOUT (trNum o.tr))) ∧
    (∀ o lvl slot, o.args = [lvl, slot, 1] → slot ≠ 3 → (lvl ≤ keyGrant slot → (∀ key, keyAt s slot = some key →
      authPasses s o = ecdsaVerify key (sha256 (o.data.drop 64 ++ leBytes 8 s.ident.serial ++ [byte lvl, byte (trNum o.tr)])) (o.data.take 64))) ∧
      (keyGrant slot < lvl ∨ keyAt s slot = none → authPasses s o = false)) ∧
    (∀ (tr : Transport) a, (s.link tr).lockUntil = some a → a ≤ s.age →
      ∃ t, exec (.authLockoutEnd tr) s = .next t ∧ t.link tr = { s.link tr with lockUntil := none } ∧ (∀ k, k ≠ tr → t.link k = s.link k) ∧
        t.host.events = s.host.events ∧ t.params = s.params) ∧
    (∀ k b ok rest fail, s.host.keyJobs = (k, b) :: rest → s.live = true → s.coreRuns = true → (4 ≤ k → s.writer.busy = none) →
      fail = (!ok || (decide (k < 4) && (keyAt s k).isSome)) →
      ∃ t, exec (.keyInstallWrite ok) s = .next t ∧ t.host.keyJobs = rest ∧ par t gSEC 0 SEC.KEY_SLOT = 0xFFFF ∧
        Tells s t Ev.KEY_INSTALLED (b2n fail * 256 + k) ∧
        (fail = true → t.otp = s.otp ∧ t.flash = s.flash) ∧
        (fail = false → (k = 1 ∨ k = 3) → keyAt t k = some b ∧ t.flash = s.flash ∧ ∀ j, j ≠ k → keyAt t j = keyAt s j) ∧
        (fail = false → 4 ≤ k → keyAt t k = (if b = rep 64 0xFF then none else some b) ∧ t.otp = s.otp ∧ t.writer.busy = some 7 ∧
          ∀ j, j ≠ k → keyAt t j = keyAt s j))

/-- FW_BEGIN opens a session for the slot that does not run and starts its operation; a flash writer that is free empties that slot and no
other, one that writes a record does so first; the completion finds the slot empty and lets chunks in. The next chunk is taken and
written; one at another offset is OUT_OF_RANGE. FW_COMMIT of a whole image starts the check: on OK the image is the slot's and FW_STAGED
tells its version, else no slot changes and the status has its detail. Without a session FW_CHUNK and FW_COMMIT are LOCKED with detail
2. Ten minutes without a chunk end the session. (R82, R85, R490, R491, R492, R493) -/
def Obligations.FirmwareRows : Prop :=
  ∀ (s : State) (h : Hdr),
    (∀ size ver, HostReady s h 0x50 2 3 → 257 ≤ size → size ≤ 524288 → s.opHeld 0x50 (fwTarget s) = false → (∀ o ∈ s.host.ops, o.opc ≠ 0x52) →
      ∃ t f, exec (.fwBegin h size ver) s = .next t ∧ Accepts s t h 0x50 (fwTarget s) [] [] ∧ t.fw = some f ∧ f.tr = h.tr ∧ f.target = fwTarget s ∧
        f.size = size ∧ f.version = ver ∧ f.bytes = [] ∧ f.erased = false ∧
        (s.writer.busy = none → t.flash.fw.getD (fwTarget s) {} = {} ∧ t.writer.busy = some 8) ∧
        (s.writer.busy = some 3 → t.flash = s.flash ∧ t.writer.busy = some 3) ∧
        (∀ k, k ≠ fwTarget s → t.flash.fw.getD k {} = s.flash.fw.getD k {}) ∧ t.ctl = s.ctl ∧ t.jobs = s.jobs) ∧
    (HostReady s h 0x50 2 3 → Answers s (.fwBegin h 256 0) h St.OUT_OF_RANGE [0, 0]) ∧
    (∀ f off d, HostReady s h 0x51 2 3 → s.fw = some f → f.tr = h.tr → off = f.bytes.length → off + d.length ≤ f.size → 1 ≤ d.length → d.length ≤ 1020 →
      f.erased = true → f.writing = false → s.writer.busy = none →
      ∃ t, exec (.fwChunk h off d) s = .next t ∧ Replied t h St.OK [] ∧ t.writer = { s.writer with busy := some 4 } ∧ t.flash = s.flash ∧
        t.fw = some { f with bytes := f.bytes ++ d, lastOff := off, last := d, at_ := s.age, writing := true } ∧ t.host.events = s.host.events) ∧
    (∀ f off d, HostReady s h 0x51 2 3 → s.fw = some f → f.tr = h.tr → off ≠ f.bytes.length → off ≠ f.lastOff → 1 ≤ d.length → d.length ≤ 1020 →
      Answers s (.fwChunk h off d) h St.OUT_OF_RANGE [0, 0]) ∧
    (∀ off d, HostReady s h 0x51 2 3 → s.fw = none → 1 ≤ d.length → d.length ≤ 1020 → Answers s (.fwChunk h off d) h St.LOCKED [2, 0]) ∧
    (∀ f, HostReady s h 0x52 2 3 → s.fw = some f → f.tr = h.tr → f.bytes.length = f.size → f.writing = false → s.opHeld 0x52 f.target = false →
      ∃ t, exec (.fwCommit h) s = .next t ∧ Accepts s t h 0x52 f.target [f.target, f.version] f.bytes ∧ t.fw = some f ∧ t.flash = s.flash) ∧
    (HostReady s h 0x52 2 3 → s.fw = none → Answers s (.fwCommit h) h St.LOCKED [2, 0]) ∧
    (∀ o num f, s.opRun 0x50 num = some o → s.coreRuns = true → s.fw = some f → s.writer.busy = none ∨ s.writer.busy = some 8 →
      ∃ t, exec (.fwBeginComplete num) s = .next t ∧ t.fw = some { f with erased := true } ∧ Ends s t 0x50 num St.OK ∧
        t.flash = { s.flash with fw := s.flash.fw.set o.res {} } ∧ t.writer.busy = none) ∧
    (∀ f, s.writer.busy = some 4 → s.fw = some f →
      exec .fwChunkWritten s = .next { s with fw := some { f with writing := false }, writer := { s.writer with busy := none } }) ∧
    (∀ o num tg ver, s.opRun 0x52 num = some o → s.coreRuns = true → o.args = [tg, ver] →
      (fwVerdict s o.data ver = (St.OK, none) → s.ctl.loader = false → tg < s.flash.fw.length →
        ∃ t, exec (.fwCommitComplete num true) s = .next t ∧ t.fw = none ∧ t.flash.fw.getD tg {} = { bytes := o.data, valid := true } ∧
          (∀ k, k ≠ tg → t.flash.fw.getD k {} = s.flash.fw.getD k {}) ∧ (tg = 1 → t.flash.copyReq = true) ∧
          Tells s t Ev.FW_STAGED ver ∧ t.ctl = s.ctl) ∧
      ((fwVerdict s o.data ver).1 ≠ St.OK →
        ∃ t, exec (.fwCommitComplete num true) s = .next t ∧ t.fw = none ∧ t.flash = s.flash ∧ EndsWith s t 0x52 num (fwVerdict s o.data ver) ∧
          t.ctl = s.ctl) ∧
      (∃ t, exec (.fwCommitComplete num false) s = .next t ∧ t.fw = none ∧ t.flash = s.flash ∧ EndsWith s t 0x52 num (St.INTERNAL, some 2) ∧ t.ctl = s.ctl)) ∧
    (∀ f, s.fw = some f → f.at_ + 60000000 ≤ s.age → s.opHeld 0x52 f.target = false →
      ∃ t, exec .fwSessionTimeout s = .next t ∧ t.fw = none ∧ t.flash = s.flash ∧ t.host = s.host ∧ t.jobs = s.jobs) ∧
    (∀ f, s.fw = some f → s.ctl.loader = false → s.age < f.at_ + 60000000 → exec .fwSessionTimeout s = .next s)

/-- CAL_ALTER in a state that allows it starts its operation; its completion writes the record to the journal and hands the coefficients
over for frame F + 2; a failed write ends it INTERNAL. A selvedge record goes into OTP; where OTP is locked it is READ_ONLY. CAL_MEASURE
asks for its conversions and its result holds mean, lowest, highest and number, a phase current's codes in offset binary.
RESTORE_FACTORY in STANDBY empties the sets, and its completion empties the journal and hands the default configuration over. (R78, R85,
R142, R143, R144, R145, R146, R147, R149, R154, R155) -/
def Obligations.CalibrationRows : Prop :=
  ∀ (s : State) (h : Hdr),
    (∀ c b, HostReady s h 0x31 2 2 → c < 56 → chanPresent s c = true → b.length = 12 → s.opHeld 0x31 c = false → alterLocked s c = false →
      (bit (fld b 0 1) 0 = true ∨ -13107 ≤ altGain b ∧ altGain b ≤ 13107 ∧ selvOk s = false) →
      ∃ t, exec (.calAlter h c b) s = .next t ∧ Accepts s t h 0x31 c [] b ∧ t.flash = s.flash ∧ t.params = s.params ∧ t.otp = s.otp) ∧
    (∀ c b, HostReady s h 0x31 2 2 → c < 56 → chanPresent s c = true → b.length = 12 → bit (fld b 0 1) 0 = false → 13107 < altGain b →
      Answers s (.calAlter h c b) h St.OUT_OF_RANGE [6, 0]) ∧
    (∀ c b, HostReady s h 0x31 2 2 → c < 56 → chanPresent s c = true → b.length = 12 → bit (fld b 0 1) 0 = true → s.opHeld 0x31 c = false →
      alterLocked s c = true → Answers s (.calAlter h c b) h St.LOCKED [2, 0]) ∧
    (∀ r, HostReady s h 0x31 2 3 → r.length = 784 → fld r 0 2 = 0x5E1D → fld r 2 1 = 1 → crc32 (r.take 780) = fld r 780 4 →
      (fld s.otp.selv 3 1 = 1 → Answers s (.calAlterSelvedge h r) h St.READ_ONLY [0, 0]) ∧
      (fld s.otp.selv 3 1 ≠ 1 → s.opHeld 0x31 0xFE = false → s.ctl.state = .standby →
        ∃ t, exec (.calAlterSelvedge h r) s = .next t ∧ Accepts s t h 0x31 0xFE [] r ∧ t.otp = s.otp ∧ t.params = s.params)) ∧
    (∀ c k, HostReady s h 0x32 2 2 → c < 56 → chanPresent s c = true → k ≤ 12 → s.opHeld 0x32 c = false → s.resultsHeld < 8 →
      ∃ t, exec (.calMeasure h c k) s = .next t ∧ Accepts s t h 0x32 c [k] [] ∧ t.params = s.params ∧
        (40 ≤ c → t.jobs = s.jobs) ∧
        (c < 40 → t.jobs.sense.reqs = s.jobs.sense.reqs ++
          [⟨5, c, 2 ^ k, nextOp s.host.opNum, false, planAge ⟨h.tr, some h.tag, h.cyc, 0x32⟩ s⟩])) ∧
    (HostReady s h 0x38 2 3 → s.ctl.state = .standby → s.host.tide = [] →
      ∃ t, exec (.restoreFactory h 0x7E57) s = .next t ∧ Accepts s t h 0x38 0 [] [] ∧
        t.host.sets = s.host.sets.map (fun k => { k with entries := [] }) ∧ t.flash = s.flash ∧ t.params = s.params) ∧
    (HostReady s h 0x38 2 3 → s.ctl.state ≠ .standby → Answers s (.restoreFactory h 0x7E57) h St.LOCKED [2, 0]) ∧
    (∀ o num, s.opRun 0x31 num = some o → s.live = true → s.coreRuns = true → (∀ a ∈ s.host.altJobs, a.2.2.2 ≠ num) →
      (∃ t, exec (.calAlterComplete num false) s = .next t ∧ Ends s t 0x31 num St.INTERNAL ∧ t.flash = s.flash ∧ t.otp = s.otp) ∧
      (o.res = 0xFE → ∃ t, exec (.calAlterComplete num true) s = .next t ∧ t.otp = { s.otp with selv := o.data } ∧ Ends s t 0x31 num St.OK ∧
        t.flash = s.flash ∧ t.params = s.params) ∧
      (o.res ≠ 0xFE → ∃ t, exec (.calAlterComplete num true) s = .next t ∧ t.params = s.params ∧ t.otp = s.otp ∧
        (t.flash.journal.getLast?.map fun r => (r.chan, r.block, r.crcOk)) = some (o.res, o.data, true) ∧
        (s.flash.journal.length < 1024 → t.flash.journal.length = s.flash.journal.length + 1) ∧
        t.host = { s.host with altJobs := s.host.altJobs ++ [(o.res, (if bit (fld o.data 0 1) 0 then none else some o.data), s.swapFrame + 2, num)] })) ∧
    (∀ o num codes k cs, s.opRun 0x32 num = some o → o.args = [k] → s.live = true → s.coreRuns = true → codes.length = 2 ^ k →
      cs = codes.map (fun c => (if 40 ≤ o.res then clampI 0 4095 (c + 2048) else clampI 0 65535 c).toNat) →
      (∀ r ∈ s.jobs.sense.reqs, r.cls = 5 → r.who ≠ num) →
      ∃ t r, exec (.calMeasureComplete num codes) s = .next t ∧ t.host.results = s.host.results ++ [r] ∧ r.num = num ∧ r.opc = 0x32 ∧
        r.lost = false ∧ r.bytes = leBytes 4 (cs.foldl (· + ·) 0 * 65536 / 2 ^ k) ++ leBytes 2 (cs.foldl min 65535) ++
          leBytes 2 (cs.foldl max 0) ++ leBytes 2 (2 ^ k) ∧ Tells s t Ev.OP_COMPLETE (opArg St.OK 0x32 num)) ∧
    (∀ o num, s.opRun 0x38 num = some o → s.live = true → s.coreRuns = true → s.host.restoreJob = none →
      ∃ t, exec (.restoreFactoryComplete num) s = .next t ∧ t.flash.journal = [] ∧ t.flash.cfg = stagedWords (factoryConfig s) ∧
        t.host.dirty = false ∧ t.host.restoreJob = some (s.swapFrame + 2, num, s.flash.journal.length) ∧ t.params = s.params ∧
        t.host.ops = s.host.ops ∧ t.otp = s.otp)

/-- An action that the port's state accepts starts its operation. A soft reset enters SOFT_RESET and sends it, a hard reset HARD_RESET
without contract; a role swap sends ROLE_SWAP, or below version 2.0 ends with VERSION; a renegotiation of a taker asks for CAPS, of a
provider offers CAPS, and in ATTACHED begins the HELLO exchange again, a version selected already standing; a cable query of a taker on
a cable measures, any other ends at once; a check of the partner asks for its certificate, or below 2.2 ends with VERSION. A second
operation on the port is BUSY with detail 5, an action its state does not accept LOCKED with detail 2. (R85, R324, R346, R353, R354,
R356, R360) -/
def Obligations.PortCommandRows : Prop :=
  ∀ (s : State) (h : Hdr) (p n : Nat), HostReady s h 0x60 2 1 → HasPort s p → n = nextOp s.host.opNum →
    (s.opHeld 0x60 p = true → Answers s (.portCmdHardReset h p 0) h St.BUSY [5, 0]) ∧
    (s.opHeld 0x60 p = false → portCmdOk s p 2 = false → Answers s (.portCmdRoleSwap h p 0) h St.LOCKED [2, 0]) ∧
    (s.opHeld 0x60 p = false → portCmdOk s p 0 = true →
      ∃ t, exec (.portCmdSoftReset h p 0) s = .next t ∧ Accepts s t h 0x60 p [0] [] ∧ (t.port p).st = .softReset ∧ (t.port p).op = some (n, 0) ∧
        (t.port p).opDone = none ∧ Sent t p (s.port p).nextId Ple.SOFT_RESET [] ∧ Tells s t Ev.PORT_SOFT_RESET (p * 2 ^ 8 + 3) ∧
        t.jobs.lanes = s.jobs.lanes ∧ ∀ q, q ≠ p → t.port q = s.port q) ∧
    (s.opHeld 0x60 p = false → par s gPRT p PRT.MODE ≠ 0 → (s.port p).st ∉ [PtSt.detached, .attachWait] →
      ∃ t, exec (.portCmdHardReset h p 0) s = .next t ∧ Accepts s t h 0x60 p [1] [] ∧ (t.port p).st = .hardReset ∧ (t.port p).op = some (n, 1) ∧
        (t.port p).opDone = none ∧
        ((s.port p).st ≠ .hardReset → (t.port p).con = .none ∧ (t.port p).hardN = incSat 32 (s.port p).hardN) ∧
        ((s.port p).st = .hardReset → (t.port p).hardN = (s.port p).hardN)) ∧
    (s.opHeld 0x60 p = false → portCmdOk s p 2 = true → WireFree s p →
      ∃ t, exec (.portCmdRoleSwap h p 0) s = .next t ∧ Accepts s t h 0x60 p [2] [] ∧ (t.port p).st = .contract ∧ (t.port p).op = some (n, 2) ∧
        t.host.events = s.host.events ∧ (∀ q, q ≠ p → t.port q = s.port q) ∧
        ((s.port p).ver < 0x20 → (t.port p).opDone = some St.VERSION ∧ (t.port p).out = (s.port p).out) ∧
        (0x20 ≤ (s.port p).ver → (t.port p).opDone = none ∧ Sent t p (s.port p).nextId Ple.ROLE_SWAP [])) ∧
    (s.opHeld 0x60 p = false → par s gPRT p PRT.MODE ≠ 0 → (s.port p).st = .contract → (s.port p).prov = false → WireFree s p →
      ∃ t, exec (.portCmdRenegotiate h p 0) s = .next t ∧ Accepts s t h 0x60 p [3] [] ∧ (t.port p).st = .negotiating ∧
        Sent t p (s.port p).nextId Ple.GET_CAPS [] ∧ ∀ q, q ≠ p → t.port q = s.port q) ∧
    (s.opHeld 0x60 p = false → par s gPRT p PRT.MODE ≠ 0 → (s.port p).st = .contract → (s.port p).prov = true → WireFree s p →
      ∃ t, exec (.portCmdRenegotiate h p 0) s = .next t ∧ Accepts s t h 0x60 p [3] [] ∧ (t.port p).st = .negotiating ∧
        Sent t p (s.port p).nextId Ple.CAPS (capsPay (advertised s p)) ∧ ∀ q, q ≠ p → t.port q = s.port q) ∧
    (s.opHeld 0x60 p = false → par s gPRT p PRT.MODE ≠ 0 → (s.port p).st = .attached →
      ∃ t, exec (.portCmdRenegotiate h p 0) s = .next t ∧ Accepts s t h 0x60 p [3] [] ∧ (t.port p).st = .attached ∧ (t.port p).ver = (s.port p).ver ∧
        ((s.port p).ver = 0 → (t.port p).helloRx = false) ∧ ∀ q, q ≠ p → t.port q = s.port q) ∧
    (s.opHeld 0x60 p = false → par s gPRT p PRT.MODE ≠ 0 → (s.port p).st.isAttached = true → (s.port p).st ≠ .contract →
      (s.port p).prov = true ∨ (s.port p).code = 0 →
      ∃ t, exec (.portCmdCableQuery h p 0) s = .next t ∧ Accepts s t h 0x60 p [4] [] ∧ (t.port p).opDone = some St.OK ∧
        (t.port p).st = (s.port p).st ∧ ∀ q, q ≠ p → t.port q = s.port q) ∧
    (s.opHeld 0x60 p = false → par s gPRT p PRT.MODE ≠ 0 → (s.port p).st.isAttached = true → (s.port p).prov = false → (s.port p).code ≠ 0 →
      ∃ t, exec (.portCmdCableQuery h p 0) s = .next t ∧ Accepts s t h 0x60 p [4] [] ∧ (t.port p).plug = some 0 ∧ (t.port p).st = (s.port p).st ∧
        t.host.events = s.host.events ∧ ∀ q, q ≠ p → t.port q = s.port q) ∧
    (s.opHeld 0x60 p = false → par s gPRT p PRT.MODE ≠ 0 → (s.port p).st.isAttached = true → WireFree s p →
      ∃ t, exec (.portCmdAuthenticate h p 0) s = .next t ∧ Accepts s t h 0x60 p [5] [] ∧ t.host.events = s.host.events ∧
        (∀ q, q ≠ p → t.port q = s.port q) ∧
        ((s.port p).ver < 0x22 → (t.port p).opDone = some St.VERSION ∧ (t.port p).out = (s.port p).out) ∧
        (0x22 ≤ (s.port p).ver → (t.port p).auth.map (fun a => (a.step, a.op)) = some (1, some n) ∧
          Sent t p (s.port p).nextId Ple.AUTH_CERT_GET [0, 0, 64, 0]))

/-- FLEET_CMD starts its operation under the next operation identifier and sends CMD towards its target, to all by way of the root; the
reset packet makes the root reset too. FLEET_SNAPSHOT of this unit begins its gathering and puts an entry for its frame into the tide
table; too late it is LAUNCH_TOO_LATE. FLEET_BARRIER of a member arrives at its number. A cut off unit is answered ISLANDED, an absurd
target or timeout OUT_OF_RANGE. (R46, R80, R85, R387, R393, R394, R395, R396) -/
def Obligations.FleetHostRows : Prop :=
  ∀ (s : State) (h : Hdr),
    (∀ tgt inner k, HostReady s h 0x70 3 2 → tgt < 1024 → tgt ≠ s.fleet.addr → cutOff s = false → s.resultsHeld < 8 → 6 ≤ inner.length →
      inner.length ≤ 1018 → routePort s tgt = some k → HasFl s k →
      ∃ t, exec (.fleetCmd h tgt inner) s = .next t ∧ Accepts s t h 0x70 0 [(s.fleet.opid + 1) % 65536, tgt] [] ∧
        t.fleet.opid = (s.fleet.opid + 1) % 65536 ∧ t.host.events = s.host.events ∧ t.ctl = s.ctl ∧ (∀ q, q ≠ k → t.fl q = s.fl q) ∧
        Gave t k Eli.CMD 3 tgt (leBytes 2 s.fleet.addr ++ leBytes 2 ((s.fleet.opid + 1) % 65536) ++ [byte (s.link h.tr).priv, 0] ++ inner)) ∧
    (∀ inner k, HostReady s h 0x70 3 2 → s.fleet.st = .member → s.fleet.cut = false → s.resultsHeld < 8 → 6 ≤ inner.length → inner.length ≤ 1018 →
      isReset inner = false → s.fleet.parent = some k → HasFl s k → openPort s k = true →
      ∃ t, exec (.fleetCmd h 0xFFFF inner) s = .next t ∧ Accepts s t h 0x70 0 [(s.fleet.opid + 1) % 65536, 0xFFFF] [] ∧ t.ctl = s.ctl ∧
        Gave t k Eli.CMD 1 0xFFFF
          (leBytes 2 s.fleet.addr ++ leBytes 2 ((s.fleet.opid + 1) % 65536) ++ [byte (s.link h.tr).priv, 0] ++ inner)) ∧
    (∀ tgt inner, HostReady s h 0x70 3 2 → 1024 ≤ tgt → tgt ≠ 0xFFFF → 6 ≤ inner.length → inner.length ≤ 1018 →
      Answers s (.fleetCmd h tgt inner) h St.OUT_OF_RANGE [0, 0]) ∧
    (∀ inner, HostReady s h 0x70 3 2 → cutOff s = true → 6 ≤ inner.length → inner.length ≤ 1018 →
      Answers s (.fleetCmd h 0xFFFF inner) h St.ISLANDED [0, 0]) ∧
    (∀ inner, HostReady s h 0x70 3 2 → s.fleet.st = .root → s.fleet.cut = false → s.resultsHeld < 8 → isReset inner = true →
      s.jobs.fleet.ports.length = 3 →
      ∃ t, exec (.fleetCmdReset h inner) s = .next t ∧ Accepts s t h 0x70 0 [(s.fleet.opid + 1) % 65536, 0xFFFF] [] ∧
        t.ctl = { s.ctl with resetReq := some 4 } ∧ t.fleet.bseq = (s.fleet.bseq + 1) % 65536 ∧ t.outs = s.outs ∧
        ∀ k ∈ childPorts s, Gave t k Eli.RESET 2 ((s.fleet.bseq + 1) % 65536) []) ∧
    (∀ fr, HostReady s h 0x71 3 1 → fr = s.frame + 2 → s.opHeld 0x71 0 = false → s.resultsHeld < 8 →
      assocGet s.fleet.snaps fr = none → s.fleet.snap = none → s.host.tide.length < 16 →
      ∃ t lid, exec (.fleetSnapshot h 0 0) s = .next t ∧ Accepts s t h 0x71 0 [0] [] ∧ lid = freeLid 17 s.host.tide s.host.nextLid ∧
        t.fleet.snap = some ⟨nextOp s.host.opNum, fr, [], [], 0⟩ ∧ t.host.tide = s.host.tide ++ [⟨lid, 1, 0, 0, 0, fr, false⟩] ∧
        t.host.sets = s.host.sets ∧ t.params = s.params) ∧
    (∀ fr, HostReady s h 0x71 3 1 → 1 ≤ fr → fr < s.frame + 2 → fr ≤ lastFrame → s.opHeld 0x71 0 = false →
      s.resultsHeld < 8 → assocGet s.fleet.snaps fr = none → s.fleet.snap = none →
      Answers s (.fleetSnapshot h fr 0) h St.LAUNCH_TOO_LATE [2, 0]) ∧
    (∀ b tmo, HostReady s h 0x72 3 1 → tmo ≠ 0 → cutOff s = false → s.opHeld 0x72 0 = false → s.fleet.st = .member →
      ∃ t, exec (.fleetBarrier h b tmo) s = .next t ∧ Accepts s t h 0x72 0 [b] [] ∧
        t.fleet.bars = s.fleet.bars.filter (fun x => x.1 ≠ b) ++ [(b, nextOp s.host.opNum, 0, tmo)] ∧ t.host.events = s.host.events ∧
        t.fleet.members = s.fleet.members ∧ t.params = s.params) ∧
    (∀ b, HostReady s h 0x72 3 1 → Answers s (.fleetBarrier h b 0) h St.OUT_OF_RANGE [2, 0])

/-- For every state, command and rest of the queue, one step answers what the command's effect answers on the state whose queue is the rest.
Every command answers a next state in every state: no row of the table stops the block on any path. With an empty queue a step leaves
the state as it is: the model's own choice (log 1), since no rule gives the block a queue of commands. (00_scope, 02_host_commands) -/
def Obligations.StepTakesFront : Prop :=
  (∀ (s : State) (c : Instr) (l : List Instr), s.pending = c :: l → step s = exec c { s with pending := l }) ∧
  (∀ s : State, s.pending = [] → step s = .next s) ∧ (∀ (c : Instr) (s : State), ∃ t, exec c s = .next t) ∧ core.step = step ∧ core.reset = State.reset

/-- After reset the controller is in BOOT with cause 1 and the pipeline stopped; every LNEN, SWIN, SWPP, SWLINK and SEQEN ball is low and
LINKLOWn released; every lane is OFF, every rail off, every phase as after reset; every parameter reads its default; no command, reply,
event, launch or operation waits; no timer runs; and the bounds of the tide table and the event queue hold. (R6, R87, R458, R527, R553) -/
def Obligations.ResetState : Prop :=
  State.reset.pending = [] ∧ State.reset.ctl.state = .boot ∧ State.reset.ctl.resetCause = 1 ∧ State.reset.jobs.frm.running = false ∧
  State.reset.outs.lnen = rep 6 false ∧ State.reset.outs.swin = rep 4 false ∧ State.reset.outs.swpp = rep 4 false ∧
  State.reset.outs.swlink = false ∧ State.reset.outs.seqen = rep 8 false ∧ State.reset.outs.lown = false ∧ State.reset.params.vals = [] ∧
  (∀ n, n < 6 → (State.reset.lane n).st = .off) ∧ (∀ t, t < 16 → (State.reset.timer t).run = false ∧ (State.reset.timer t).fifo = []) ∧
  (∀ id d, valBits State.reset d id = dfltBits State.reset d (idInst id)) ∧
  State.reset.host.events = [] ∧ State.reset.host.ops = [] ∧ State.reset.host.flights = [] ∧ QueuesBounded State.reset ∧
  (∀ tr : Transport, (State.reset.link tr).replies = [])

/-- From every state in which the tide table holds at most 16 entries and the event queue at most 255 ordinary ones, whatever command is at
the front of the queue, a step answers a state in which both bounds hold: no launch, local or from the fleet, no event, of this unit or
gathered from another, and no reset gets past them. (R67, R73, R74, R80, R391, R399) -/
def Obligations.QueuesStayBounded : Prop := ∀ s t : State, QueuesBounded s → step s = .next t → QueuesBounded t

end
end

