-- ==== Sys2Proof/Laws/State.lean ====
section
/-! SUPPORT. One lemma per update of the state, tagged simp: the field it changes and every field it leaves alone, so that no proof unfolds
a record update; and what reading one item gives after changing one item. -/

namespace Sys2Proof.Machine

/-- Changing an item keeps the length of its list. -/
@[simp] theorem modAt_length {α : Type} (l : List α) (n : Nat) (f : α → α) : (modAt l n f).length = l.length := by simp [modAt]

/-- Another item of the list stands. -/
theorem modAt_getD_ne {α : Type} {m n : Nat} (h : m ≠ n) (l : List α) (f : α → α) (d : α) : (modAt l n f).getD m d = l.getD m d := by
  simp only [modAt, List.getD_eq_getElem?_getD, List.getElem?_modify]
  cases l[m]? <;> simp [Ne.symm h]

/-- The item itself has f applied, where the list has it. -/
theorem modAt_getD_self {α : Type} {n : Nat} {l : List α} (h : n < l.length) (f : α → α) (d : α) :
    (modAt l n f).getD n d = f (l.getD n d) := by
  simp [modAt, List.getD_eq_getElem?_getD, List.getElem?_eq_getElem h]

/-- An item that differs from the default is in the list. -/
theorem getD_ne_default {α : Type} {n : Nat} {l : List α} {d : α} (h : l.getD n d ≠ d) : n < l.length := by
  by_contra hn
  exact h (by simp [List.getD_eq_getElem?_getD, List.getElem?_eq_none (Nat.le_of_not_lt hn)])

/-- What modJobs changes, and that it changes nothing else. -/
@[simp] theorem State.modJobs_fields (s : State) (f : Jobs → Jobs) :
    (s.modJobs f).pending = s.pending ∧ (s.modJobs f).ident = s.ident ∧ (s.modJobs f).ctl = s.ctl ∧ (s.modJobs f).host = s.host ∧
    (s.modJobs f).params = s.params ∧ (s.modJobs f).otp = s.otp ∧ (s.modJobs f).flash = s.flash ∧ (s.modJobs f).jobs = f s.jobs ∧
    (s.modJobs f).image = s.image ∧ (s.modJobs f).imgNext = s.imgNext ∧ (s.modJobs f).mods = s.mods ∧
    (s.modJobs f).shadow = s.shadow ∧ (s.modJobs f).outs = s.outs ∧ (s.modJobs f).writer = s.writer ∧
    (s.modJobs f).records = s.records ∧ (s.modJobs f).telAt = s.telAt ∧ (s.modJobs f).telBad = s.telBad ∧
    (s.modJobs f).trace = s.trace ∧ (s.modJobs f).fw = s.fw ∧ (s.modJobs f).timers = s.timers ∧
    (s.modJobs f).coreRst = s.coreRst ∧ (s.modJobs f).freeCtr = s.freeCtr := by
  refine ⟨?_, ?_, ?_, ?_, ?_, ?_, ?_, ?_, ?_, ?_, ?_, ?_, ?_, ?_, ?_, ?_, ?_, ?_, ?_, ?_, ?_, ?_⟩ <;> rfl

/-- What modMod changes, and that it changes nothing else. -/
@[simp] theorem State.modMod_fields (s : State) (x : Nat) (f : Modulator → Modulator) :
    (s.modMod x f).pending = s.pending ∧ (s.modMod x f).ident = s.ident ∧ (s.modMod x f).ctl = s.ctl ∧
    (s.modMod x f).host = s.host ∧ (s.modMod x f).params = s.params ∧ (s.modMod x f).otp = s.otp ∧
    (s.modMod x f).flash = s.flash ∧ (s.modMod x f).jobs = s.jobs ∧ (s.modMod x f).image = s.image ∧
    (s.modMod x f).imgNext = s.imgNext ∧ (s.modMod x f).mods = modAt s.mods x f ∧ (s.modMod x f).shadow = s.shadow ∧
    (s.modMod x f).outs = s.outs ∧ (s.modMod x f).writer = s.writer ∧ (s.modMod x f).records = s.records ∧
    (s.modMod x f).telAt = s.telAt ∧ (s.modMod x f).telBad = s.telBad ∧ (s.modMod x f).trace = s.trace ∧
    (s.modMod x f).fw = s.fw ∧ (s.modMod x f).timers = s.timers ∧ (s.modMod x f).coreRst = s.coreRst ∧
    (s.modMod x f).freeCtr = s.freeCtr := by
  refine ⟨?_, ?_, ?_, ?_, ?_, ?_, ?_, ?_, ?_, ?_, ?_, ?_, ?_, ?_, ?_, ?_, ?_, ?_, ?_, ?_, ?_, ?_⟩ <;> rfl

/-- What modCtl changes, and that it changes nothing else. -/
@[simp] theorem State.modCtl_fields (s : State) (f : Control → Control) :
    (s.modCtl f).pending = s.pending ∧ (s.modCtl f).ident = s.ident ∧ (s.modCtl f).ctl = f s.ctl ∧ (s.modCtl f).host = s.host ∧
    (s.modCtl f).params = s.params ∧ (s.modCtl f).otp = s.otp ∧ (s.modCtl f).flash = s.flash ∧ (s.modCtl f).jobs = s.jobs ∧
    (s.modCtl f).image = s.image ∧ (s.modCtl f).imgNext = s.imgNext ∧ (s.modCtl f).mods = s.mods ∧
    (s.modCtl f).shadow = s.shadow ∧ (s.modCtl f).outs = s.outs ∧ (s.modCtl f).writer = s.writer ∧
    (s.modCtl f).records = s.records ∧ (s.modCtl f).telAt = s.telAt ∧ (s.modCtl f).telBad = s.telBad ∧
    (s.modCtl f).trace = s.trace ∧ (s.modCtl f).fw = s.fw ∧ (s.modCtl f).timers = s.timers ∧ (s.modCtl f).coreRst = s.coreRst ∧
    (s.modCtl f).freeCtr = s.freeCtr := by
  refine ⟨?_, ?_, ?_, ?_, ?_, ?_, ?_, ?_, ?_, ?_, ?_, ?_, ?_, ?_, ?_, ?_, ?_, ?_, ?_, ?_, ?_, ?_⟩ <;> rfl

/-- What modHost changes, and that it changes nothing else. -/
@[simp] theorem State.modHost_fields (s : State) (f : HostState → HostState) :
    (s.modHost f).pending = s.pending ∧ (s.modHost f).ident = s.ident ∧ (s.modHost f).ctl = s.ctl ∧
    (s.modHost f).host = f s.host ∧ (s.modHost f).params = s.params ∧ (s.modHost f).otp = s.otp ∧ (s.modHost f).flash = s.flash ∧
    (s.modHost f).jobs = s.jobs ∧ (s.modHost f).image = s.image ∧ (s.modHost f).imgNext = s.imgNext ∧
    (s.modHost f).mods = s.mods ∧ (s.modHost f).shadow = s.shadow ∧ (s.modHost f).outs = s.outs ∧
    (s.modHost f).writer = s.writer ∧ (s.modHost f).records = s.records ∧ (s.modHost f).telAt = s.telAt ∧
    (s.modHost f).telBad = s.telBad ∧ (s.modHost f).trace = s.trace ∧ (s.modHost f).fw = s.fw ∧ (s.modHost f).timers = s.timers ∧
    (s.modHost f).coreRst = s.coreRst ∧ (s.modHost f).freeCtr = s.freeCtr := by
  refine ⟨?_, ?_, ?_, ?_, ?_, ?_, ?_, ?_, ?_, ?_, ?_, ?_, ?_, ?_, ?_, ?_, ?_, ?_, ?_, ?_, ?_, ?_⟩ <;> rfl

/-- What modTimer changes, and that it changes nothing else. -/
@[simp] theorem State.modTimer_fields (s : State) (t : Nat) (f : Timer → Timer) :
    (s.modTimer t f).pending = s.pending ∧ (s.modTimer t f).ident = s.ident ∧ (s.modTimer t f).ctl = s.ctl ∧
    (s.modTimer t f).host = s.host ∧ (s.modTimer t f).params = s.params ∧ (s.modTimer t f).otp = s.otp ∧
    (s.modTimer t f).flash = s.flash ∧ (s.modTimer t f).jobs = s.jobs ∧ (s.modTimer t f).image = s.image ∧
    (s.modTimer t f).imgNext = s.imgNext ∧ (s.modTimer t f).mods = s.mods ∧ (s.modTimer t f).shadow = s.shadow ∧
    (s.modTimer t f).outs = s.outs ∧ (s.modTimer t f).writer = s.writer ∧ (s.modTimer t f).records = s.records ∧
    (s.modTimer t f).telAt = s.telAt ∧ (s.modTimer t f).telBad = s.telBad ∧ (s.modTimer t f).trace = s.trace ∧
    (s.modTimer t f).fw = s.fw ∧ (s.modTimer t f).timers = { s.timers with t := modAt s.timers.t t f } ∧
    (s.modTimer t f).coreRst = s.coreRst ∧ (s.modTimer t f).freeCtr = s.freeCtr := by
  refine ⟨?_, ?_, ?_, ?_, ?_, ?_, ?_, ?_, ?_, ?_, ?_, ?_, ?_, ?_, ?_, ?_, ?_, ?_, ?_, ?_, ?_, ?_⟩ <;> rfl

/-- What modOuts changes, and that it changes nothing else. -/
@[simp] theorem State.modOuts_fields (s : State) (f : Outs → Outs) :
    (s.modOuts f).pending = s.pending ∧ (s.modOuts f).ident = s.ident ∧ (s.modOuts f).ctl = s.ctl ∧ (s.modOuts f).host = s.host ∧
    (s.modOuts f).params = s.params ∧ (s.modOuts f).otp = s.otp ∧ (s.modOuts f).flash = s.flash ∧ (s.modOuts f).jobs = s.jobs ∧
    (s.modOuts f).image = s.image ∧ (s.modOuts f).imgNext = s.imgNext ∧ (s.modOuts f).mods = s.mods ∧
    (s.modOuts f).shadow = s.shadow ∧ (s.modOuts f).outs = f s.outs ∧ (s.modOuts f).writer = s.writer ∧
    (s.modOuts f).records = s.records ∧ (s.modOuts f).telAt = s.telAt ∧ (s.modOuts f).telBad = s.telBad ∧
    (s.modOuts f).trace = s.trace ∧ (s.modOuts f).fw = s.fw ∧ (s.modOuts f).timers = s.timers ∧
    (s.modOuts f).coreRst = s.coreRst ∧ (s.modOuts f).freeCtr = s.freeCtr := by
  refine ⟨?_, ?_, ?_, ?_, ?_, ?_, ?_, ?_, ?_, ?_, ?_, ?_, ?_, ?_, ?_, ?_, ?_, ?_, ?_, ?_, ?_, ?_⟩ <;> rfl

/-- What modFlash changes, and that it changes nothing else. -/
@[simp] theorem State.modFlash_fields (s : State) (f : Flash → Flash) :
    (s.modFlash f).pending = s.pending ∧ (s.modFlash f).ident = s.ident ∧ (s.modFlash f).ctl = s.ctl ∧
    (s.modFlash f).host = s.host ∧ (s.modFlash f).params = s.params ∧ (s.modFlash f).otp = s.otp ∧
    (s.modFlash f).flash = f s.flash ∧ (s.modFlash f).jobs = s.jobs ∧ (s.modFlash f).image = s.image ∧
    (s.modFlash f).imgNext = s.imgNext ∧ (s.modFlash f).mods = s.mods ∧ (s.modFlash f).shadow = s.shadow ∧
    (s.modFlash f).outs = s.outs ∧ (s.modFlash f).writer = s.writer ∧ (s.modFlash f).records = s.records ∧
    (s.modFlash f).telAt = s.telAt ∧ (s.modFlash f).telBad = s.telBad ∧ (s.modFlash f).trace = s.trace ∧
    (s.modFlash f).fw = s.fw ∧ (s.modFlash f).timers = s.timers ∧ (s.modFlash f).coreRst = s.coreRst ∧
    (s.modFlash f).freeCtr = s.freeCtr := by
  refine ⟨?_, ?_, ?_, ?_, ?_, ?_, ?_, ?_, ?_, ?_, ?_, ?_, ?_, ?_, ?_, ?_, ?_, ?_, ?_, ?_, ?_, ?_⟩ <;> rfl

/-- What modWriter changes, and that it changes nothing else. -/
@[simp] theorem State.modWriter_fields (s : State) (f : Writer → Writer) :
    (s.modWriter f).pending = s.pending ∧ (s.modWriter f).ident = s.ident ∧ (s.modWriter f).ctl = s.ctl ∧
    (s.modWriter f).host = s.host ∧ (s.modWriter f).params = s.params ∧ (s.modWriter f).otp = s.otp ∧
    (s.modWriter f).flash = s.flash ∧ (s.modWriter f).jobs = s.jobs ∧ (s.modWriter f).image = s.image ∧
    (s.modWriter f).imgNext = s.imgNext ∧ (s.modWriter f).mods = s.mods ∧ (s.modWriter f).shadow = s.shadow ∧
    (s.modWriter f).outs = s.outs ∧ (s.modWriter f).writer = f s.writer ∧ (s.modWriter f).records = s.records ∧
    (s.modWriter f).telAt = s.telAt ∧ (s.modWriter f).telBad = s.telBad ∧ (s.modWriter f).trace = s.trace ∧
    (s.modWriter f).fw = s.fw ∧ (s.modWriter f).timers = s.timers ∧ (s.modWriter f).coreRst = s.coreRst ∧
    (s.modWriter f).freeCtr = s.freeCtr := by
  refine ⟨?_, ?_, ?_, ?_, ?_, ?_, ?_, ?_, ?_, ?_, ?_, ?_, ?_, ?_, ?_, ?_, ?_, ?_, ?_, ?_, ?_, ?_⟩ <;> rfl

/-- What drawn changes, and that it changes nothing else. -/
@[simp] theorem State.drawn_fields (s : State) (k : Nat) :
    (s.drawn k).pending = s.pending ∧ (s.drawn k).ident = s.ident ∧ (s.drawn k).ctl = s.ctl ∧ (s.drawn k).host = s.host ∧
    (s.drawn k).params = s.params ∧ (s.drawn k).otp = s.otp ∧ (s.drawn k).flash = s.flash ∧ (s.drawn k).jobs = s.jobs ∧
    (s.drawn k).image = s.image ∧ (s.drawn k).imgNext = s.imgNext ∧ (s.drawn k).mods = s.mods ∧ (s.drawn k).shadow = s.shadow ∧
    (s.drawn k).outs = s.outs ∧ (s.drawn k).writer = s.writer ∧ (s.drawn k).records = s.records ∧ (s.drawn k).telAt = s.telAt ∧
    (s.drawn k).telBad = s.telBad ∧ (s.drawn k).trace = s.trace ∧ (s.drawn k).fw = s.fw ∧ (s.drawn k).timers = s.timers ∧
    (s.drawn k).coreRst = s.coreRst ∧ (s.drawn k).freeCtr = s.freeCtr + k := by
  refine ⟨?_, ?_, ?_, ?_, ?_, ?_, ?_, ?_, ?_, ?_, ?_, ?_, ?_, ?_, ?_, ?_, ?_, ?_, ?_, ?_, ?_, ?_⟩ <;> rfl

/-- What modLane changes among the jobs. -/
@[simp] theorem State.modLane_jobs (s : State) (n : Nat) (f : Lane → Lane) :
    (s.modLane n f).jobs.frm = s.jobs.frm ∧ (s.modLane n f).jobs.sense = s.jobs.sense ∧
    (s.modLane n f).jobs.phases = s.jobs.phases ∧ (s.modLane n f).jobs.lanes = modAt s.jobs.lanes n f ∧
    (s.modLane n f).jobs.sched = s.jobs.sched ∧ (s.modLane n f).jobs.srcs = s.jobs.srcs ∧
    (s.modLane n f).jobs.link = s.jobs.link ∧ (s.modLane n f).jobs.packs = s.jobs.packs ∧
    (s.modLane n f).jobs.unit = s.jobs.unit ∧ (s.modLane n f).jobs.ports = s.jobs.ports ∧
    (s.modLane n f).jobs.fleet = s.jobs.fleet ∧ (s.modLane n f).jobs.rails = s.jobs.rails ∧
    (s.modLane n f).jobs.safe = s.jobs.safe ∧ (s.modLane n f).jobs.tel = s.jobs.tel ∧
    (s.modLane n f).jobs.energy = s.jobs.energy ∧ (s.modLane n f).jobs.outs = s.jobs.outs := by
  refine ⟨?_, ?_, ?_, ?_, ?_, ?_, ?_, ?_, ?_, ?_, ?_, ?_, ?_, ?_, ?_, ?_⟩ <;> rfl

/-- What modLane leaves alone. -/
@[simp] theorem State.modLane_fields (s : State) (n : Nat) (f : Lane → Lane) :
    (s.modLane n f).pending = s.pending ∧ (s.modLane n f).ident = s.ident ∧ (s.modLane n f).ctl = s.ctl ∧
    (s.modLane n f).host = s.host ∧ (s.modLane n f).params = s.params ∧ (s.modLane n f).otp = s.otp ∧
    (s.modLane n f).flash = s.flash ∧ (s.modLane n f).image = s.image ∧ (s.modLane n f).imgNext = s.imgNext ∧
    (s.modLane n f).mods = s.mods ∧ (s.modLane n f).shadow = s.shadow ∧ (s.modLane n f).outs = s.outs ∧
    (s.modLane n f).writer = s.writer ∧ (s.modLane n f).records = s.records ∧ (s.modLane n f).telAt = s.telAt ∧
    (s.modLane n f).telBad = s.telBad ∧ (s.modLane n f).trace = s.trace ∧ (s.modLane n f).fw = s.fw ∧
    (s.modLane n f).timers = s.timers ∧ (s.modLane n f).coreRst = s.coreRst ∧ (s.modLane n f).freeCtr = s.freeCtr := by
  refine ⟨?_, ?_, ?_, ?_, ?_, ?_, ?_, ?_, ?_, ?_, ?_, ?_, ?_, ?_, ?_, ?_, ?_, ?_, ?_, ?_, ?_⟩ <;> rfl

/-- What modPhase changes among the jobs. -/
@[simp] theorem State.modPhase_jobs (s : State) (x : Nat) (f : Phase → Phase) :
    (s.modPhase x f).jobs.frm = s.jobs.frm ∧ (s.modPhase x f).jobs.sense = s.jobs.sense ∧
    (s.modPhase x f).jobs.phases = modAt s.jobs.phases x f ∧ (s.modPhase x f).jobs.lanes = s.jobs.lanes ∧
    (s.modPhase x f).jobs.sched = s.jobs.sched ∧ (s.modPhase x f).jobs.srcs = s.jobs.srcs ∧
    (s.modPhase x f).jobs.link = s.jobs.link ∧ (s.modPhase x f).jobs.packs = s.jobs.packs ∧
    (s.modPhase x f).jobs.unit = s.jobs.unit ∧ (s.modPhase x f).jobs.ports = s.jobs.ports ∧
    (s.modPhase x f).jobs.fleet = s.jobs.fleet ∧ (s.modPhase x f).jobs.rails = s.jobs.rails ∧
    (s.modPhase x f).jobs.safe = s.jobs.safe ∧ (s.modPhase x f).jobs.tel = s.jobs.tel ∧
    (s.modPhase x f).jobs.energy = s.jobs.energy ∧ (s.modPhase x f).jobs.outs = s.jobs.outs := by
  refine ⟨?_, ?_, ?_, ?_, ?_, ?_, ?_, ?_, ?_, ?_, ?_, ?_, ?_, ?_, ?_, ?_⟩ <;> rfl

/-- What modPhase leaves alone. -/
@[simp] theorem State.modPhase_fields (s : State) (x : Nat) (f : Phase → Phase) :
    (s.modPhase x f).pending = s.pending ∧ (s.modPhase x f).ident = s.ident ∧ (s.modPhase x f).ctl = s.ctl ∧
    (s.modPhase x f).host = s.host ∧ (s.modPhase x f).params = s.params ∧ (s.modPhase x f).otp = s.otp ∧
    (s.modPhase x f).flash = s.flash ∧ (s.modPhase x f).image = s.image ∧ (s.modPhase x f).imgNext = s.imgNext ∧
    (s.modPhase x f).mods = s.mods ∧ (s.modPhase x f).shadow = s.shadow ∧ (s.modPhase x f).outs = s.outs ∧
    (s.modPhase x f).writer = s.writer ∧ (s.modPhase x f).records = s.records ∧ (s.modPhase x f).telAt = s.telAt ∧
    (s.modPhase x f).telBad = s.telBad ∧ (s.modPhase x f).trace = s.trace ∧ (s.modPhase x f).fw = s.fw ∧
    (s.modPhase x f).timers = s.timers ∧ (s.modPhase x f).coreRst = s.coreRst ∧ (s.modPhase x f).freeCtr = s.freeCtr := by
  refine ⟨?_, ?_, ?_, ?_, ?_, ?_, ?_, ?_, ?_, ?_, ?_, ?_, ?_, ?_, ?_, ?_, ?_, ?_, ?_, ?_, ?_⟩ <;> rfl

/-- What modSrc changes among the jobs. -/
@[simp] theorem State.modSrc_jobs (s : State) (n : Nat) (f : SrcPort → SrcPort) :
    (s.modSrc n f).jobs.frm = s.jobs.frm ∧ (s.modSrc n f).jobs.sense = s.jobs.sense ∧
    (s.modSrc n f).jobs.phases = s.jobs.phases ∧ (s.modSrc n f).jobs.lanes = s.jobs.lanes ∧
    (s.modSrc n f).jobs.sched = s.jobs.sched ∧ (s.modSrc n f).jobs.srcs = modAt s.jobs.srcs n f ∧
    (s.modSrc n f).jobs.link = s.jobs.link ∧ (s.modSrc n f).jobs.packs = s.jobs.packs ∧ (s.modSrc n f).jobs.unit = s.jobs.unit ∧
    (s.modSrc n f).jobs.ports = s.jobs.ports ∧ (s.modSrc n f).jobs.fleet = s.jobs.fleet ∧
    (s.modSrc n f).jobs.rails = s.jobs.rails ∧ (s.modSrc n f).jobs.safe = s.jobs.safe ∧ (s.modSrc n f).jobs.tel = s.jobs.tel ∧
    (s.modSrc n f).jobs.energy = s.jobs.energy ∧ (s.modSrc n f).jobs.outs = s.jobs.outs := by
  refine ⟨?_, ?_, ?_, ?_, ?_, ?_, ?_, ?_, ?_, ?_, ?_, ?_, ?_, ?_, ?_, ?_⟩ <;> rfl

/-- What modSrc leaves alone. -/
@[simp] theorem State.modSrc_fields (s : State) (n : Nat) (f : SrcPort → SrcPort) :
    (s.modSrc n f).pending = s.pending ∧ (s.modSrc n f).ident = s.ident ∧ (s.modSrc n f).ctl = s.ctl ∧
    (s.modSrc n f).host = s.host ∧ (s.modSrc n f).params = s.params ∧ (s.modSrc n f).otp = s.otp ∧
    (s.modSrc n f).flash = s.flash ∧ (s.modSrc n f).image = s.image ∧ (s.modSrc n f).imgNext = s.imgNext ∧
    (s.modSrc n f).mods = s.mods ∧ (s.modSrc n f).shadow = s.shadow ∧ (s.modSrc n f).outs = s.outs ∧
    (s.modSrc n f).writer = s.writer ∧ (s.modSrc n f).records = s.records ∧ (s.modSrc n f).telAt = s.telAt ∧
    (s.modSrc n f).telBad = s.telBad ∧ (s.modSrc n f).trace = s.trace ∧ (s.modSrc n f).fw = s.fw ∧
    (s.modSrc n f).timers = s.timers ∧ (s.modSrc n f).coreRst = s.coreRst ∧ (s.modSrc n f).freeCtr = s.freeCtr := by
  refine ⟨?_, ?_, ?_, ?_, ?_, ?_, ?_, ?_, ?_, ?_, ?_, ?_, ?_, ?_, ?_, ?_, ?_, ?_, ?_, ?_, ?_⟩ <;> rfl

/-- What modPack changes among the jobs. -/
@[simp] theorem State.modPack_jobs (s : State) (p : Nat) (f : Pack → Pack) :
    (s.modPack p f).jobs.frm = s.jobs.frm ∧ (s.modPack p f).jobs.sense = s.jobs.sense ∧
    (s.modPack p f).jobs.phases = s.jobs.phases ∧ (s.modPack p f).jobs.lanes = s.jobs.lanes ∧
    (s.modPack p f).jobs.sched = s.jobs.sched ∧ (s.modPack p f).jobs.srcs = s.jobs.srcs ∧
    (s.modPack p f).jobs.link = s.jobs.link ∧ (s.modPack p f).jobs.packs = modAt s.jobs.packs p f ∧
    (s.modPack p f).jobs.unit = s.jobs.unit ∧ (s.modPack p f).jobs.ports = s.jobs.ports ∧
    (s.modPack p f).jobs.fleet = s.jobs.fleet ∧ (s.modPack p f).jobs.rails = s.jobs.rails ∧
    (s.modPack p f).jobs.safe = s.jobs.safe ∧ (s.modPack p f).jobs.tel = s.jobs.tel ∧
    (s.modPack p f).jobs.energy = s.jobs.energy ∧ (s.modPack p f).jobs.outs = s.jobs.outs := by
  refine ⟨?_, ?_, ?_, ?_, ?_, ?_, ?_, ?_, ?_, ?_, ?_, ?_, ?_, ?_, ?_, ?_⟩ <;> rfl

/-- What modPack leaves alone. -/
@[simp] theorem State.modPack_fields (s : State) (p : Nat) (f : Pack → Pack) :
    (s.modPack p f).pending = s.pending ∧ (s.modPack p f).ident = s.ident ∧ (s.modPack p f).ctl = s.ctl ∧
    (s.modPack p f).host = s.host ∧ (s.modPack p f).params = s.params ∧ (s.modPack p f).otp = s.otp ∧
    (s.modPack p f).flash = s.flash ∧ (s.modPack p f).image = s.image ∧ (s.modPack p f).imgNext = s.imgNext ∧
    (s.modPack p f).mods = s.mods ∧ (s.modPack p f).shadow = s.shadow ∧ (s.modPack p f).outs = s.outs ∧
    (s.modPack p f).writer = s.writer ∧ (s.modPack p f).records = s.records ∧ (s.modPack p f).telAt = s.telAt ∧
    (s.modPack p f).telBad = s.telBad ∧ (s.modPack p f).trace = s.trace ∧ (s.modPack p f).fw = s.fw ∧
    (s.modPack p f).timers = s.timers ∧ (s.modPack p f).coreRst = s.coreRst ∧ (s.modPack p f).freeCtr = s.freeCtr := by
  refine ⟨?_, ?_, ?_, ?_, ?_, ?_, ?_, ?_, ?_, ?_, ?_, ?_, ?_, ?_, ?_, ?_, ?_, ?_, ?_, ?_, ?_⟩ <;> rfl

/-- What modPort changes among the jobs. -/
@[simp] theorem State.modPort_jobs (s : State) (p : Nat) (f : PtPort → PtPort) :
    (s.modPort p f).jobs.frm = s.jobs.frm ∧ (s.modPort p f).jobs.sense = s.jobs.sense ∧
    (s.modPort p f).jobs.phases = s.jobs.phases ∧ (s.modPort p f).jobs.lanes = s.jobs.lanes ∧
    (s.modPort p f).jobs.sched = s.jobs.sched ∧ (s.modPort p f).jobs.srcs = s.jobs.srcs ∧
    (s.modPort p f).jobs.link = s.jobs.link ∧ (s.modPort p f).jobs.packs = s.jobs.packs ∧
    (s.modPort p f).jobs.unit = s.jobs.unit ∧ (s.modPort p f).jobs.ports = modAt s.jobs.ports p f ∧
    (s.modPort p f).jobs.fleet = s.jobs.fleet ∧ (s.modPort p f).jobs.rails = s.jobs.rails ∧
    (s.modPort p f).jobs.safe = s.jobs.safe ∧ (s.modPort p f).jobs.tel = s.jobs.tel ∧
    (s.modPort p f).jobs.energy = s.jobs.energy ∧ (s.modPort p f).jobs.outs = s.jobs.outs := by
  refine ⟨?_, ?_, ?_, ?_, ?_, ?_, ?_, ?_, ?_, ?_, ?_, ?_, ?_, ?_, ?_, ?_⟩ <;> rfl

/-- What modPort leaves alone. -/
@[simp] theorem State.modPort_fields (s : State) (p : Nat) (f : PtPort → PtPort) :
    (s.modPort p f).pending = s.pending ∧ (s.modPort p f).ident = s.ident ∧ (s.modPort p f).ctl = s.ctl ∧
    (s.modPort p f).host = s.host ∧ (s.modPort p f).params = s.params ∧ (s.modPort p f).otp = s.otp ∧
    (s.modPort p f).flash = s.flash ∧ (s.modPort p f).image = s.image ∧ (s.modPort p f).imgNext = s.imgNext ∧
    (s.modPort p f).mods = s.mods ∧ (s.modPort p f).shadow = s.shadow ∧ (s.modPort p f).outs = s.outs ∧
    (s.modPort p f).writer = s.writer ∧ (s.modPort p f).records = s.records ∧ (s.modPort p f).telAt = s.telAt ∧
    (s.modPort p f).telBad = s.telBad ∧ (s.modPort p f).trace = s.trace ∧ (s.modPort p f).fw = s.fw ∧
    (s.modPort p f).timers = s.timers ∧ (s.modPort p f).coreRst = s.coreRst ∧ (s.modPort p f).freeCtr = s.freeCtr := by
  refine ⟨?_, ?_, ?_, ?_, ?_, ?_, ?_, ?_, ?_, ?_, ?_, ?_, ?_, ?_, ?_, ?_, ?_, ?_, ?_, ?_, ?_⟩ <;> rfl

/-- What modFleet changes among the jobs. -/
@[simp] theorem State.modFleet_jobs (s : State) (f : Fleet → Fleet) :
    (s.modFleet f).jobs.frm = s.jobs.frm ∧ (s.modFleet f).jobs.sense = s.jobs.sense ∧
    (s.modFleet f).jobs.phases = s.jobs.phases ∧ (s.modFleet f).jobs.lanes = s.jobs.lanes ∧
    (s.modFleet f).jobs.sched = s.jobs.sched ∧ (s.modFleet f).jobs.srcs = s.jobs.srcs ∧ (s.modFleet f).jobs.link = s.jobs.link ∧
    (s.modFleet f).jobs.packs = s.jobs.packs ∧ (s.modFleet f).jobs.unit = s.jobs.unit ∧
    (s.modFleet f).jobs.ports = s.jobs.ports ∧ (s.modFleet f).jobs.fleet = f s.jobs.fleet ∧
    (s.modFleet f).jobs.rails = s.jobs.rails ∧ (s.modFleet f).jobs.safe = s.jobs.safe ∧ (s.modFleet f).jobs.tel = s.jobs.tel ∧
    (s.modFleet f).jobs.energy = s.jobs.energy ∧ (s.modFleet f).jobs.outs = s.jobs.outs := by
  refine ⟨?_, ?_, ?_, ?_, ?_, ?_, ?_, ?_, ?_, ?_, ?_, ?_, ?_, ?_, ?_, ?_⟩ <;> rfl

/-- What modFleet leaves alone. -/
@[simp] theorem State.modFleet_fields (s : State) (f : Fleet → Fleet) :
    (s.modFleet f).pending = s.pending ∧ (s.modFleet f).ident = s.ident ∧ (s.modFleet f).ctl = s.ctl ∧
    (s.modFleet f).host = s.host ∧ (s.modFleet f).params = s.params ∧ (s.modFleet f).otp = s.otp ∧
    (s.modFleet f).flash = s.flash ∧ (s.modFleet f).image = s.image ∧ (s.modFleet f).imgNext = s.imgNext ∧
    (s.modFleet f).mods = s.mods ∧ (s.modFleet f).shadow = s.shadow ∧ (s.modFleet f).outs = s.outs ∧
    (s.modFleet f).writer = s.writer ∧ (s.modFleet f).records = s.records ∧ (s.modFleet f).telAt = s.telAt ∧
    (s.modFleet f).telBad = s.telBad ∧ (s.modFleet f).trace = s.trace ∧ (s.modFleet f).fw = s.fw ∧
    (s.modFleet f).timers = s.timers ∧ (s.modFleet f).coreRst = s.coreRst ∧ (s.modFleet f).freeCtr = s.freeCtr := by
  refine ⟨?_, ?_, ?_, ?_, ?_, ?_, ?_, ?_, ?_, ?_, ?_, ?_, ?_, ?_, ?_, ?_, ?_, ?_, ?_, ?_, ?_⟩ <;> rfl

/-- What modSeq changes among the jobs. -/
@[simp] theorem State.modSeq_jobs (s : State) (f : Rails → Rails) :
    (s.modSeq f).jobs.frm = s.jobs.frm ∧ (s.modSeq f).jobs.sense = s.jobs.sense ∧ (s.modSeq f).jobs.phases = s.jobs.phases ∧
    (s.modSeq f).jobs.lanes = s.jobs.lanes ∧ (s.modSeq f).jobs.sched = s.jobs.sched ∧ (s.modSeq f).jobs.srcs = s.jobs.srcs ∧
    (s.modSeq f).jobs.link = s.jobs.link ∧ (s.modSeq f).jobs.packs = s.jobs.packs ∧ (s.modSeq f).jobs.unit = s.jobs.unit ∧
    (s.modSeq f).jobs.ports = s.jobs.ports ∧ (s.modSeq f).jobs.fleet = s.jobs.fleet ∧ (s.modSeq f).jobs.rails = f s.jobs.rails ∧
    (s.modSeq f).jobs.safe = s.jobs.safe ∧ (s.modSeq f).jobs.tel = s.jobs.tel ∧ (s.modSeq f).jobs.energy = s.jobs.energy ∧
    (s.modSeq f).jobs.outs = s.jobs.outs := by
  refine ⟨?_, ?_, ?_, ?_, ?_, ?_, ?_, ?_, ?_, ?_, ?_, ?_, ?_, ?_, ?_, ?_⟩ <;> rfl

/-- What modSeq leaves alone. -/
@[simp] theorem State.modSeq_fields (s : State) (f : Rails → Rails) :
    (s.modSeq f).pending = s.pending ∧ (s.modSeq f).ident = s.ident ∧ (s.modSeq f).ctl = s.ctl ∧ (s.modSeq f).host = s.host ∧
    (s.modSeq f).params = s.params ∧ (s.modSeq f).otp = s.otp ∧ (s.modSeq f).flash = s.flash ∧ (s.modSeq f).image = s.image ∧
    (s.modSeq f).imgNext = s.imgNext ∧ (s.modSeq f).mods = s.mods ∧ (s.modSeq f).shadow = s.shadow ∧ (s.modSeq f).outs = s.outs ∧
    (s.modSeq f).writer = s.writer ∧ (s.modSeq f).records = s.records ∧ (s.modSeq f).telAt = s.telAt ∧
    (s.modSeq f).telBad = s.telBad ∧ (s.modSeq f).trace = s.trace ∧ (s.modSeq f).fw = s.fw ∧ (s.modSeq f).timers = s.timers ∧
    (s.modSeq f).coreRst = s.coreRst ∧ (s.modSeq f).freeCtr = s.freeCtr := by
  refine ⟨?_, ?_, ?_, ?_, ?_, ?_, ?_, ?_, ?_, ?_, ?_, ?_, ?_, ?_, ?_, ?_, ?_, ?_, ?_, ?_, ?_⟩ <;> rfl

/-- What modLinkJob changes among the jobs. -/
@[simp] theorem State.modLinkJob_jobs (s : State) (f : LinkJob → LinkJob) :
    (s.modLinkJob f).jobs.frm = s.jobs.frm ∧ (s.modLinkJob f).jobs.sense = s.jobs.sense ∧
    (s.modLinkJob f).jobs.phases = s.jobs.phases ∧ (s.modLinkJob f).jobs.lanes = s.jobs.lanes ∧
    (s.modLinkJob f).jobs.sched = s.jobs.sched ∧ (s.modLinkJob f).jobs.srcs = s.jobs.srcs ∧
    (s.modLinkJob f).jobs.link = f s.jobs.link ∧ (s.modLinkJob f).jobs.packs = s.jobs.packs ∧
    (s.modLinkJob f).jobs.unit = s.jobs.unit ∧ (s.modLinkJob f).jobs.ports = s.jobs.ports ∧
    (s.modLinkJob f).jobs.fleet = s.jobs.fleet ∧ (s.modLinkJob f).jobs.rails = s.jobs.rails ∧
    (s.modLinkJob f).jobs.safe = s.jobs.safe ∧ (s.modLinkJob f).jobs.tel = s.jobs.tel ∧
    (s.modLinkJob f).jobs.energy = s.jobs.energy ∧ (s.modLinkJob f).jobs.outs = s.jobs.outs := by
  refine ⟨?_, ?_, ?_, ?_, ?_, ?_, ?_, ?_, ?_, ?_, ?_, ?_, ?_, ?_, ?_, ?_⟩ <;> rfl

/-- What modLinkJob leaves alone. -/
@[simp] theorem State.modLinkJob_fields (s : State) (f : LinkJob → LinkJob) :
    (s.modLinkJob f).pending = s.pending ∧ (s.modLinkJob f).ident = s.ident ∧ (s.modLinkJob f).ctl = s.ctl ∧
    (s.modLinkJob f).host = s.host ∧ (s.modLinkJob f).params = s.params ∧ (s.modLinkJob f).otp = s.otp ∧
    (s.modLinkJob f).flash = s.flash ∧ (s.modLinkJob f).image = s.image ∧ (s.modLinkJob f).imgNext = s.imgNext ∧
    (s.modLinkJob f).mods = s.mods ∧ (s.modLinkJob f).shadow = s.shadow ∧ (s.modLinkJob f).outs = s.outs ∧
    (s.modLinkJob f).writer = s.writer ∧ (s.modLinkJob f).records = s.records ∧ (s.modLinkJob f).telAt = s.telAt ∧
    (s.modLinkJob f).telBad = s.telBad ∧ (s.modLinkJob f).trace = s.trace ∧ (s.modLinkJob f).fw = s.fw ∧
    (s.modLinkJob f).timers = s.timers ∧ (s.modLinkJob f).coreRst = s.coreRst ∧ (s.modLinkJob f).freeCtr = s.freeCtr := by
  refine ⟨?_, ?_, ?_, ?_, ?_, ?_, ?_, ?_, ?_, ?_, ?_, ?_, ?_, ?_, ?_, ?_, ?_, ?_, ?_, ?_, ?_⟩ <;> rfl

/-- What modFrm changes among the jobs. -/
@[simp] theorem State.modFrm_jobs (s : State) (f : Frame → Frame) :
    (s.modFrm f).jobs.frm = f s.jobs.frm ∧ (s.modFrm f).jobs.sense = s.jobs.sense ∧ (s.modFrm f).jobs.phases = s.jobs.phases ∧
    (s.modFrm f).jobs.lanes = s.jobs.lanes ∧ (s.modFrm f).jobs.sched = s.jobs.sched ∧ (s.modFrm f).jobs.srcs = s.jobs.srcs ∧
    (s.modFrm f).jobs.link = s.jobs.link ∧ (s.modFrm f).jobs.packs = s.jobs.packs ∧ (s.modFrm f).jobs.unit = s.jobs.unit ∧
    (s.modFrm f).jobs.ports = s.jobs.ports ∧ (s.modFrm f).jobs.fleet = s.jobs.fleet ∧ (s.modFrm f).jobs.rails = s.jobs.rails ∧
    (s.modFrm f).jobs.safe = s.jobs.safe ∧ (s.modFrm f).jobs.tel = s.jobs.tel ∧ (s.modFrm f).jobs.energy = s.jobs.energy ∧
    (s.modFrm f).jobs.outs = s.jobs.outs := by
  refine ⟨?_, ?_, ?_, ?_, ?_, ?_, ?_, ?_, ?_, ?_, ?_, ?_, ?_, ?_, ?_, ?_⟩ <;> rfl

/-- What modFrm leaves alone. -/
@[simp] theorem State.modFrm_fields (s : State) (f : Frame → Frame) :
    (s.modFrm f).pending = s.pending ∧ (s.modFrm f).ident = s.ident ∧ (s.modFrm f).ctl = s.ctl ∧ (s.modFrm f).host = s.host ∧
    (s.modFrm f).params = s.params ∧ (s.modFrm f).otp = s.otp ∧ (s.modFrm f).flash = s.flash ∧ (s.modFrm f).image = s.image ∧
    (s.modFrm f).imgNext = s.imgNext ∧ (s.modFrm f).mods = s.mods ∧ (s.modFrm f).shadow = s.shadow ∧ (s.modFrm f).outs = s.outs ∧
    (s.modFrm f).writer = s.writer ∧ (s.modFrm f).records = s.records ∧ (s.modFrm f).telAt = s.telAt ∧
    (s.modFrm f).telBad = s.telBad ∧ (s.modFrm f).trace = s.trace ∧ (s.modFrm f).fw = s.fw ∧ (s.modFrm f).timers = s.timers ∧
    (s.modFrm f).coreRst = s.coreRst ∧ (s.modFrm f).freeCtr = s.freeCtr := by
  refine ⟨?_, ?_, ?_, ?_, ?_, ?_, ?_, ?_, ?_, ?_, ?_, ?_, ?_, ?_, ?_, ?_, ?_, ?_, ?_, ?_, ?_⟩ <;> rfl

/-- What modSense changes among the jobs. -/
@[simp] theorem State.modSense_jobs (s : State) (f : Sense → Sense) :
    (s.modSense f).jobs.frm = s.jobs.frm ∧ (s.modSense f).jobs.sense = f s.jobs.sense ∧
    (s.modSense f).jobs.phases = s.jobs.phases ∧ (s.modSense f).jobs.lanes = s.jobs.lanes ∧
    (s.modSense f).jobs.sched = s.jobs.sched ∧ (s.modSense f).jobs.srcs = s.jobs.srcs ∧ (s.modSense f).jobs.link = s.jobs.link ∧
    (s.modSense f).jobs.packs = s.jobs.packs ∧ (s.modSense f).jobs.unit = s.jobs.unit ∧
    (s.modSense f).jobs.ports = s.jobs.ports ∧ (s.modSense f).jobs.fleet = s.jobs.fleet ∧
    (s.modSense f).jobs.rails = s.jobs.rails ∧ (s.modSense f).jobs.safe = s.jobs.safe ∧ (s.modSense f).jobs.tel = s.jobs.tel ∧
    (s.modSense f).jobs.energy = s.jobs.energy ∧ (s.modSense f).jobs.outs = s.jobs.outs := by
  refine ⟨?_, ?_, ?_, ?_, ?_, ?_, ?_, ?_, ?_, ?_, ?_, ?_, ?_, ?_, ?_, ?_⟩ <;> rfl

/-- What modSense leaves alone. -/
@[simp] theorem State.modSense_fields (s : State) (f : Sense → Sense) :
    (s.modSense f).pending = s.pending ∧ (s.modSense f).ident = s.ident ∧ (s.modSense f).ctl = s.ctl ∧
    (s.modSense f).host = s.host ∧ (s.modSense f).params = s.params ∧ (s.modSense f).otp = s.otp ∧
    (s.modSense f).flash = s.flash ∧ (s.modSense f).image = s.image ∧ (s.modSense f).imgNext = s.imgNext ∧
    (s.modSense f).mods = s.mods ∧ (s.modSense f).shadow = s.shadow ∧ (s.modSense f).outs = s.outs ∧
    (s.modSense f).writer = s.writer ∧ (s.modSense f).records = s.records ∧ (s.modSense f).telAt = s.telAt ∧
    (s.modSense f).telBad = s.telBad ∧ (s.modSense f).trace = s.trace ∧ (s.modSense f).fw = s.fw ∧
    (s.modSense f).timers = s.timers ∧ (s.modSense f).coreRst = s.coreRst ∧ (s.modSense f).freeCtr = s.freeCtr := by
  refine ⟨?_, ?_, ?_, ?_, ?_, ?_, ?_, ?_, ?_, ?_, ?_, ?_, ?_, ?_, ?_, ?_, ?_, ?_, ?_, ?_, ?_⟩ <;> rfl

/-- What modSched changes among the jobs. -/
@[simp] theorem State.modSched_jobs (s : State) (f : Sched → Sched) :
    (s.modSched f).jobs.frm = s.jobs.frm ∧ (s.modSched f).jobs.sense = s.jobs.sense ∧
    (s.modSched f).jobs.phases = s.jobs.phases ∧ (s.modSched f).jobs.lanes = s.jobs.lanes ∧
    (s.modSched f).jobs.sched = f s.jobs.sched ∧ (s.modSched f).jobs.srcs = s.jobs.srcs ∧
    (s.modSched f).jobs.link = s.jobs.link ∧ (s.modSched f).jobs.packs = s.jobs.packs ∧ (s.modSched f).jobs.unit = s.jobs.unit ∧
    (s.modSched f).jobs.ports = s.jobs.ports ∧ (s.modSched f).jobs.fleet = s.jobs.fleet ∧
    (s.modSched f).jobs.rails = s.jobs.rails ∧ (s.modSched f).jobs.safe = s.jobs.safe ∧ (s.modSched f).jobs.tel = s.jobs.tel ∧
    (s.modSched f).jobs.energy = s.jobs.energy ∧ (s.modSched f).jobs.outs = s.jobs.outs := by
  refine ⟨?_, ?_, ?_, ?_, ?_, ?_, ?_, ?_, ?_, ?_, ?_, ?_, ?_, ?_, ?_, ?_⟩ <;> rfl

/-- What modSched leaves alone. -/
@[simp] theorem State.modSched_fields (s : State) (f : Sched → Sched) :
    (s.modSched f).pending = s.pending ∧ (s.modSched f).ident = s.ident ∧ (s.modSched f).ctl = s.ctl ∧
    (s.modSched f).host = s.host ∧ (s.modSched f).params = s.params ∧ (s.modSched f).otp = s.otp ∧
    (s.modSched f).flash = s.flash ∧ (s.modSched f).image = s.image ∧ (s.modSched f).imgNext = s.imgNext ∧
    (s.modSched f).mods = s.mods ∧ (s.modSched f).shadow = s.shadow ∧ (s.modSched f).outs = s.outs ∧
    (s.modSched f).writer = s.writer ∧ (s.modSched f).records = s.records ∧ (s.modSched f).telAt = s.telAt ∧
    (s.modSched f).telBad = s.telBad ∧ (s.modSched f).trace = s.trace ∧ (s.modSched f).fw = s.fw ∧
    (s.modSched f).timers = s.timers ∧ (s.modSched f).coreRst = s.coreRst ∧ (s.modSched f).freeCtr = s.freeCtr := by
  refine ⟨?_, ?_, ?_, ?_, ?_, ?_, ?_, ?_, ?_, ?_, ?_, ?_, ?_, ?_, ?_, ?_, ?_, ?_, ?_, ?_, ?_⟩ <;> rfl

/-- What modSafe changes among the jobs. -/
@[simp] theorem State.modSafe_jobs (s : State) (f : Safety → Safety) :
    (s.modSafe f).jobs.frm = s.jobs.frm ∧ (s.modSafe f).jobs.sense = s.jobs.sense ∧ (s.modSafe f).jobs.phases = s.jobs.phases ∧
    (s.modSafe f).jobs.lanes = s.jobs.lanes ∧ (s.modSafe f).jobs.sched = s.jobs.sched ∧ (s.modSafe f).jobs.srcs = s.jobs.srcs ∧
    (s.modSafe f).jobs.link = s.jobs.link ∧ (s.modSafe f).jobs.packs = s.jobs.packs ∧ (s.modSafe f).jobs.unit = s.jobs.unit ∧
    (s.modSafe f).jobs.ports = s.jobs.ports ∧ (s.modSafe f).jobs.fleet = s.jobs.fleet ∧ (s.modSafe f).jobs.rails = s.jobs.rails ∧
    (s.modSafe f).jobs.safe = f s.jobs.safe ∧ (s.modSafe f).jobs.tel = s.jobs.tel ∧ (s.modSafe f).jobs.energy = s.jobs.energy ∧
    (s.modSafe f).jobs.outs = s.jobs.outs := by
  refine ⟨?_, ?_, ?_, ?_, ?_, ?_, ?_, ?_, ?_, ?_, ?_, ?_, ?_, ?_, ?_, ?_⟩ <;> rfl

/-- What modSafe leaves alone. -/
@[simp] theorem State.modSafe_fields (s : State) (f : Safety → Safety) :
    (s.modSafe f).pending = s.pending ∧ (s.modSafe f).ident = s.ident ∧ (s.modSafe f).ctl = s.ctl ∧ (s.modSafe f).host = s.host ∧
    (s.modSafe f).params = s.params ∧ (s.modSafe f).otp = s.otp ∧ (s.modSafe f).flash = s.flash ∧ (s.modSafe f).image = s.image ∧
    (s.modSafe f).imgNext = s.imgNext ∧ (s.modSafe f).mods = s.mods ∧ (s.modSafe f).shadow = s.shadow ∧
    (s.modSafe f).outs = s.outs ∧ (s.modSafe f).writer = s.writer ∧ (s.modSafe f).records = s.records ∧
    (s.modSafe f).telAt = s.telAt ∧ (s.modSafe f).telBad = s.telBad ∧ (s.modSafe f).trace = s.trace ∧ (s.modSafe f).fw = s.fw ∧
    (s.modSafe f).timers = s.timers ∧ (s.modSafe f).coreRst = s.coreRst ∧ (s.modSafe f).freeCtr = s.freeCtr := by
  refine ⟨?_, ?_, ?_, ?_, ?_, ?_, ?_, ?_, ?_, ?_, ?_, ?_, ?_, ?_, ?_, ?_, ?_, ?_, ?_, ?_, ?_⟩ <;> rfl

/-- What modFl changes among the jobs. -/
@[simp] theorem State.modFl_jobs (s : State) (q : Nat) (f : FlPort → FlPort) :
    (s.modFl q f).jobs.frm = s.jobs.frm ∧ (s.modFl q f).jobs.sense = s.jobs.sense ∧ (s.modFl q f).jobs.phases = s.jobs.phases ∧
    (s.modFl q f).jobs.lanes = s.jobs.lanes ∧ (s.modFl q f).jobs.sched = s.jobs.sched ∧ (s.modFl q f).jobs.srcs = s.jobs.srcs ∧
    (s.modFl q f).jobs.link = s.jobs.link ∧ (s.modFl q f).jobs.packs = s.jobs.packs ∧ (s.modFl q f).jobs.unit = s.jobs.unit ∧
    (s.modFl q f).jobs.ports = s.jobs.ports ∧
    (s.modFl q f).jobs.fleet = { s.jobs.fleet with ports := modAt s.jobs.fleet.ports q f } ∧
    (s.modFl q f).jobs.rails = s.jobs.rails ∧ (s.modFl q f).jobs.safe = s.jobs.safe ∧ (s.modFl q f).jobs.tel = s.jobs.tel ∧
    (s.modFl q f).jobs.energy = s.jobs.energy ∧ (s.modFl q f).jobs.outs = s.jobs.outs := by
  refine ⟨?_, ?_, ?_, ?_, ?_, ?_, ?_, ?_, ?_, ?_, ?_, ?_, ?_, ?_, ?_, ?_⟩ <;> rfl

/-- What modFl leaves alone. -/
@[simp] theorem State.modFl_fields (s : State) (q : Nat) (f : FlPort → FlPort) :
    (s.modFl q f).pending = s.pending ∧ (s.modFl q f).ident = s.ident ∧ (s.modFl q f).ctl = s.ctl ∧ (s.modFl q f).host = s.host ∧
    (s.modFl q f).params = s.params ∧ (s.modFl q f).otp = s.otp ∧ (s.modFl q f).flash = s.flash ∧ (s.modFl q f).image = s.image ∧
    (s.modFl q f).imgNext = s.imgNext ∧ (s.modFl q f).mods = s.mods ∧ (s.modFl q f).shadow = s.shadow ∧
    (s.modFl q f).outs = s.outs ∧ (s.modFl q f).writer = s.writer ∧ (s.modFl q f).records = s.records ∧
    (s.modFl q f).telAt = s.telAt ∧ (s.modFl q f).telBad = s.telBad ∧ (s.modFl q f).trace = s.trace ∧ (s.modFl q f).fw = s.fw ∧
    (s.modFl q f).timers = s.timers ∧ (s.modFl q f).coreRst = s.coreRst ∧ (s.modFl q f).freeCtr = s.freeCtr := by
  refine ⟨?_, ?_, ?_, ?_, ?_, ?_, ?_, ?_, ?_, ?_, ?_, ?_, ?_, ?_, ?_, ?_, ?_, ?_, ?_, ?_, ?_⟩ <;> rfl

/-- What modRail changes among the jobs. -/
@[simp] theorem State.modRail_jobs (s : State) (n : Nat) (f : Rail → Rail) :
    (s.modRail n f).jobs.frm = s.jobs.frm ∧ (s.modRail n f).jobs.sense = s.jobs.sense ∧
    (s.modRail n f).jobs.phases = s.jobs.phases ∧ (s.modRail n f).jobs.lanes = s.jobs.lanes ∧
    (s.modRail n f).jobs.sched = s.jobs.sched ∧ (s.modRail n f).jobs.srcs = s.jobs.srcs ∧
    (s.modRail n f).jobs.link = s.jobs.link ∧ (s.modRail n f).jobs.packs = s.jobs.packs ∧
    (s.modRail n f).jobs.unit = s.jobs.unit ∧ (s.modRail n f).jobs.ports = s.jobs.ports ∧
    (s.modRail n f).jobs.fleet = s.jobs.fleet ∧
    (s.modRail n f).jobs.rails = { s.jobs.rails with rails := modAt s.jobs.rails.rails n f } ∧
    (s.modRail n f).jobs.safe = s.jobs.safe ∧ (s.modRail n f).jobs.tel = s.jobs.tel ∧
    (s.modRail n f).jobs.energy = s.jobs.energy ∧ (s.modRail n f).jobs.outs = s.jobs.outs := by
  refine ⟨?_, ?_, ?_, ?_, ?_, ?_, ?_, ?_, ?_, ?_, ?_, ?_, ?_, ?_, ?_, ?_⟩ <;> rfl

/-- What modRail leaves alone. -/
@[simp] theorem State.modRail_fields (s : State) (n : Nat) (f : Rail → Rail) :
    (s.modRail n f).pending = s.pending ∧ (s.modRail n f).ident = s.ident ∧ (s.modRail n f).ctl = s.ctl ∧
    (s.modRail n f).host = s.host ∧ (s.modRail n f).params = s.params ∧ (s.modRail n f).otp = s.otp ∧
    (s.modRail n f).flash = s.flash ∧ (s.modRail n f).image = s.image ∧ (s.modRail n f).imgNext = s.imgNext ∧
    (s.modRail n f).mods = s.mods ∧ (s.modRail n f).shadow = s.shadow ∧ (s.modRail n f).outs = s.outs ∧
    (s.modRail n f).writer = s.writer ∧ (s.modRail n f).records = s.records ∧ (s.modRail n f).telAt = s.telAt ∧
    (s.modRail n f).telBad = s.telBad ∧ (s.modRail n f).trace = s.trace ∧ (s.modRail n f).fw = s.fw ∧
    (s.modRail n f).timers = s.timers ∧ (s.modRail n f).coreRst = s.coreRst ∧ (s.modRail n f).freeCtr = s.freeCtr := by
  refine ⟨?_, ?_, ?_, ?_, ?_, ?_, ?_, ?_, ?_, ?_, ?_, ?_, ?_, ?_, ?_, ?_, ?_, ?_, ?_, ?_, ?_⟩ <;> rfl

/-- What modSlot changes among the jobs. -/
@[simp] theorem State.modSlot_jobs (s : State) (n : Nat) (f : Slot → Slot) :
    (s.modSlot n f).jobs.frm = { s.jobs.frm with slots := modAt s.jobs.frm.slots n f } ∧
    (s.modSlot n f).jobs.sense = s.jobs.sense ∧ (s.modSlot n f).jobs.phases = s.jobs.phases ∧
    (s.modSlot n f).jobs.lanes = s.jobs.lanes ∧ (s.modSlot n f).jobs.sched = s.jobs.sched ∧
    (s.modSlot n f).jobs.srcs = s.jobs.srcs ∧ (s.modSlot n f).jobs.link = s.jobs.link ∧
    (s.modSlot n f).jobs.packs = s.jobs.packs ∧ (s.modSlot n f).jobs.unit = s.jobs.unit ∧
    (s.modSlot n f).jobs.ports = s.jobs.ports ∧ (s.modSlot n f).jobs.fleet = s.jobs.fleet ∧
    (s.modSlot n f).jobs.rails = s.jobs.rails ∧ (s.modSlot n f).jobs.safe = s.jobs.safe ∧ (s.modSlot n f).jobs.tel = s.jobs.tel ∧
    (s.modSlot n f).jobs.energy = s.jobs.energy ∧ (s.modSlot n f).jobs.outs = s.jobs.outs := by
  refine ⟨?_, ?_, ?_, ?_, ?_, ?_, ?_, ?_, ?_, ?_, ?_, ?_, ?_, ?_, ?_, ?_⟩ <;> rfl

/-- What modSlot leaves alone. -/
@[simp] theorem State.modSlot_fields (s : State) (n : Nat) (f : Slot → Slot) :
    (s.modSlot n f).pending = s.pending ∧ (s.modSlot n f).ident = s.ident ∧ (s.modSlot n f).ctl = s.ctl ∧
    (s.modSlot n f).host = s.host ∧ (s.modSlot n f).params = s.params ∧ (s.modSlot n f).otp = s.otp ∧
    (s.modSlot n f).flash = s.flash ∧ (s.modSlot n f).image = s.image ∧ (s.modSlot n f).imgNext = s.imgNext ∧
    (s.modSlot n f).mods = s.mods ∧ (s.modSlot n f).shadow = s.shadow ∧ (s.modSlot n f).outs = s.outs ∧
    (s.modSlot n f).writer = s.writer ∧ (s.modSlot n f).records = s.records ∧ (s.modSlot n f).telAt = s.telAt ∧
    (s.modSlot n f).telBad = s.telBad ∧ (s.modSlot n f).trace = s.trace ∧ (s.modSlot n f).fw = s.fw ∧
    (s.modSlot n f).timers = s.timers ∧ (s.modSlot n f).coreRst = s.coreRst ∧ (s.modSlot n f).freeCtr = s.freeCtr := by
  refine ⟨?_, ?_, ?_, ?_, ?_, ?_, ?_, ?_, ?_, ?_, ?_, ?_, ?_, ?_, ?_, ?_, ?_, ?_, ?_, ?_, ?_⟩ <;> rfl

/-- What modPin changes among the jobs. -/
@[simp] theorem State.modPin_jobs (s : State) (k : Nat) (f : TsPin → TsPin) :
    (s.modPin k f).jobs.frm = s.jobs.frm ∧
    (s.modPin k f).jobs.sense = { s.jobs.sense with pins := modAt s.jobs.sense.pins k f } ∧
    (s.modPin k f).jobs.phases = s.jobs.phases ∧ (s.modPin k f).jobs.lanes = s.jobs.lanes ∧
    (s.modPin k f).jobs.sched = s.jobs.sched ∧ (s.modPin k f).jobs.srcs = s.jobs.srcs ∧ (s.modPin k f).jobs.link = s.jobs.link ∧
    (s.modPin k f).jobs.packs = s.jobs.packs ∧ (s.modPin k f).jobs.unit = s.jobs.unit ∧
    (s.modPin k f).jobs.ports = s.jobs.ports ∧ (s.modPin k f).jobs.fleet = s.jobs.fleet ∧
    (s.modPin k f).jobs.rails = s.jobs.rails ∧ (s.modPin k f).jobs.safe = s.jobs.safe ∧ (s.modPin k f).jobs.tel = s.jobs.tel ∧
    (s.modPin k f).jobs.energy = s.jobs.energy ∧ (s.modPin k f).jobs.outs = s.jobs.outs := by
  refine ⟨?_, ?_, ?_, ?_, ?_, ?_, ?_, ?_, ?_, ?_, ?_, ?_, ?_, ?_, ?_, ?_⟩ <;> rfl

/-- What modPin leaves alone. -/
@[simp] theorem State.modPin_fields (s : State) (k : Nat) (f : TsPin → TsPin) :
    (s.modPin k f).pending = s.pending ∧ (s.modPin k f).ident = s.ident ∧ (s.modPin k f).ctl = s.ctl ∧
    (s.modPin k f).host = s.host ∧ (s.modPin k f).params = s.params ∧ (s.modPin k f).otp = s.otp ∧
    (s.modPin k f).flash = s.flash ∧ (s.modPin k f).image = s.image ∧ (s.modPin k f).imgNext = s.imgNext ∧
    (s.modPin k f).mods = s.mods ∧ (s.modPin k f).shadow = s.shadow ∧ (s.modPin k f).outs = s.outs ∧
    (s.modPin k f).writer = s.writer ∧ (s.modPin k f).records = s.records ∧ (s.modPin k f).telAt = s.telAt ∧
    (s.modPin k f).telBad = s.telBad ∧ (s.modPin k f).trace = s.trace ∧ (s.modPin k f).fw = s.fw ∧
    (s.modPin k f).timers = s.timers ∧ (s.modPin k f).coreRst = s.coreRst ∧ (s.modPin k f).freeCtr = s.freeCtr := by
  refine ⟨?_, ?_, ?_, ?_, ?_, ?_, ?_, ?_, ?_, ?_, ?_, ?_, ?_, ?_, ?_, ?_, ?_, ?_, ?_, ?_, ?_⟩ <;> rfl

/-- What modLed changes among the jobs. -/
@[simp] theorem State.modLed_jobs (s : State) (x : Nat) (f : Ledger → Ledger) :
    (s.modLed x f).jobs.frm = s.jobs.frm ∧ (s.modLed x f).jobs.sense = s.jobs.sense ∧
    (s.modLed x f).jobs.phases = s.jobs.phases ∧ (s.modLed x f).jobs.lanes = s.jobs.lanes ∧
    (s.modLed x f).jobs.sched = { s.jobs.sched with ledger := modAt s.jobs.sched.ledger x f } ∧
    (s.modLed x f).jobs.srcs = s.jobs.srcs ∧ (s.modLed x f).jobs.link = s.jobs.link ∧ (s.modLed x f).jobs.packs = s.jobs.packs ∧
    (s.modLed x f).jobs.unit = s.jobs.unit ∧ (s.modLed x f).jobs.ports = s.jobs.ports ∧
    (s.modLed x f).jobs.fleet = s.jobs.fleet ∧ (s.modLed x f).jobs.rails = s.jobs.rails ∧
    (s.modLed x f).jobs.safe = s.jobs.safe ∧ (s.modLed x f).jobs.tel = s.jobs.tel ∧ (s.modLed x f).jobs.energy = s.jobs.energy ∧
    (s.modLed x f).jobs.outs = s.jobs.outs := by
  refine ⟨?_, ?_, ?_, ?_, ?_, ?_, ?_, ?_, ?_, ?_, ?_, ?_, ?_, ?_, ?_, ?_⟩ <;> rfl

/-- What modLed leaves alone. -/
@[simp] theorem State.modLed_fields (s : State) (x : Nat) (f : Ledger → Ledger) :
    (s.modLed x f).pending = s.pending ∧ (s.modLed x f).ident = s.ident ∧ (s.modLed x f).ctl = s.ctl ∧
    (s.modLed x f).host = s.host ∧ (s.modLed x f).params = s.params ∧ (s.modLed x f).otp = s.otp ∧
    (s.modLed x f).flash = s.flash ∧ (s.modLed x f).image = s.image ∧ (s.modLed x f).imgNext = s.imgNext ∧
    (s.modLed x f).mods = s.mods ∧ (s.modLed x f).shadow = s.shadow ∧ (s.modLed x f).outs = s.outs ∧
    (s.modLed x f).writer = s.writer ∧ (s.modLed x f).records = s.records ∧ (s.modLed x f).telAt = s.telAt ∧
    (s.modLed x f).telBad = s.telBad ∧ (s.modLed x f).trace = s.trace ∧ (s.modLed x f).fw = s.fw ∧
    (s.modLed x f).timers = s.timers ∧ (s.modLed x f).coreRst = s.coreRst ∧ (s.modLed x f).freeCtr = s.freeCtr := by
  refine ⟨?_, ?_, ?_, ?_, ?_, ?_, ?_, ?_, ?_, ?_, ?_, ?_, ?_, ?_, ?_, ?_, ?_, ?_, ?_, ?_, ?_⟩ <;> rfl

/-- Reading item n after changing it, where it exists. -/
theorem State.lane_modLane_self {s : State} {n : Nat} (h : n < s.jobs.lanes.length) (f : Lane → Lane) : (s.modLane n f).lane n = f (s.lane n) :=
  modAt_getD_self h f _

/-- Reading another item. -/
@[simp] theorem State.lane_modLane_ne {s : State} {m n : Nat} (h : m ≠ n) (f : Lane → Lane) : (s.modLane n f).lane m = s.lane m :=
  modAt_getD_ne h _ f _

/-- Reading item n after changing it, where it exists. -/
theorem State.phase_modPhase_self {s : State} {n : Nat} (h : n < s.jobs.phases.length) (f : Phase → Phase) : (s.modPhase n f).phase n = f (s.phase n) :=
  modAt_getD_self h f _

/-- Reading another item. -/
@[simp] theorem State.phase_modPhase_ne {s : State} {m n : Nat} (h : m ≠ n) (f : Phase → Phase) : (s.modPhase n f).phase m = s.phase m :=
  modAt_getD_ne h _ f _

/-- Reading item n after changing it, where it exists. -/
theorem State.src_modSrc_self {s : State} {n : Nat} (h : n < s.jobs.srcs.length) (f : SrcPort → SrcPort) : (s.modSrc n f).src n = f (s.src n) :=
  modAt_getD_self h f _

/-- Reading another item. -/
@[simp] theorem State.src_modSrc_ne {s : State} {m n : Nat} (h : m ≠ n) (f : SrcPort → SrcPort) : (s.modSrc n f).src m = s.src m :=
  modAt_getD_ne h _ f _

/-- Reading item n after changing it, where it exists. -/
theorem State.pack_modPack_self {s : State} {n : Nat} (h : n < s.jobs.packs.length) (f : Pack → Pack) : (s.modPack n f).pack n = f (s.pack n) :=
  modAt_getD_self h f _

/-- Reading another item. -/
@[simp] theorem State.pack_modPack_ne {s : State} {m n : Nat} (h : m ≠ n) (f : Pack → Pack) : (s.modPack n f).pack m = s.pack m :=
  modAt_getD_ne h _ f _

/-- Reading item n after changing it, where it exists. -/
theorem State.port_modPort_self {s : State} {n : Nat} (h : n < s.jobs.ports.length) (f : PtPort → PtPort) : (s.modPort n f).port n = f (s.port n) :=
  modAt_getD_self h f _

/-- Reading another item. -/
@[simp] theorem State.port_modPort_ne {s : State} {m n : Nat} (h : m ≠ n) (f : PtPort → PtPort) : (s.modPort n f).port m = s.port m :=
  modAt_getD_ne h _ f _

/-- Reading item n after changing it, where it exists. -/
theorem State.rail_modRail_self {s : State} {n : Nat} (h : n < s.jobs.rails.rails.length) (f : Rail → Rail) : (s.modRail n f).rail n = f (s.rail n) :=
  modAt_getD_self h f _

/-- Reading another item. -/
@[simp] theorem State.rail_modRail_ne {s : State} {m n : Nat} (h : m ≠ n) (f : Rail → Rail) : (s.modRail n f).rail m = s.rail m :=
  modAt_getD_ne h _ f _

/-- Reading item n after changing it, where it exists. -/
theorem State.slot_modSlot_self {s : State} {n : Nat} (h : n < s.jobs.frm.slots.length) (f : Slot → Slot) : (s.modSlot n f).slot n = f (s.slot n) :=
  modAt_getD_self h f _

/-- Reading another item. -/
@[simp] theorem State.slot_modSlot_ne {s : State} {m n : Nat} (h : m ≠ n) (f : Slot → Slot) : (s.modSlot n f).slot m = s.slot m :=
  modAt_getD_ne h _ f _

/-- Reading item n after changing it, where it exists. -/
theorem State.fl_modFl_self {s : State} {n : Nat} (h : n < s.jobs.fleet.ports.length) (f : FlPort → FlPort) : (s.modFl n f).fl n = f (s.fl n) :=
  modAt_getD_self h f _

/-- Reading another item. -/
@[simp] theorem State.fl_modFl_ne {s : State} {m n : Nat} (h : m ≠ n) (f : FlPort → FlPort) : (s.modFl n f).fl m = s.fl m :=
  modAt_getD_ne h _ f _

/-- Reading item n after changing it, where it exists. -/
theorem State.timer_modTimer_self {s : State} {n : Nat} (h : n < s.timers.t.length) (f : Timer → Timer) : (s.modTimer n f).timer n = f (s.timer n) :=
  modAt_getD_self h f _

/-- Reading another item. -/
@[simp] theorem State.timer_modTimer_ne {s : State} {m n : Nat} (h : m ≠ n) (f : Timer → Timer) : (s.modTimer n f).timer m = s.timer m :=
  modAt_getD_ne h _ f _

/-- Reading item n after changing it, where it exists. -/
theorem State.mod_modMod_self {s : State} {n : Nat} (h : n < s.mods.length) (f : Modulator → Modulator) : (s.modMod n f).mod n = f (s.mod n) :=
  modAt_getD_self h f _

/-- Reading another item. -/
@[simp] theorem State.mod_modMod_ne {s : State} {m n : Nat} (h : m ≠ n) (f : Modulator → Modulator) : (s.modMod n f).mod m = s.mod m :=
  modAt_getD_ne h _ f _

/-- Reading item n after changing it, where it exists. -/
theorem State.pin_modPin_self {s : State} {n : Nat} (h : n < s.jobs.sense.pins.length) (f : TsPin → TsPin) : (s.modPin n f).pin n = f (s.pin n) :=
  modAt_getD_self h f _

/-- Reading another item. -/
@[simp] theorem State.pin_modPin_ne {s : State} {m n : Nat} (h : m ≠ n) (f : TsPin → TsPin) : (s.modPin n f).pin m = s.pin m :=
  modAt_getD_ne h _ f _

/-- Reading item n after changing it, where it exists. -/
theorem State.led_modLed_self {s : State} {n : Nat} (h : n < s.jobs.sched.ledger.length) (f : Ledger → Ledger) : (s.modLed n f).led n = f (s.led n) :=
  modAt_getD_self h f _

/-- Reading another item. -/
@[simp] theorem State.led_modLed_ne {s : State} {m n : Nat} (h : m ≠ n) (f : Ledger → Ledger) : (s.modLed n f).led m = s.led m :=
  modAt_getD_ne h _ f _

end Sys2Proof.Machine
end

