-- ==== Sys2Proof/Laws/Ops.lean ====
section
/-! SUPPORT. One lemma for each shared operation that says everything it can do: raising an event, asking for a record, replies, long
operations and their results, the changes of the controller state and of privilege. -/

namespace Sys2Proof.Machine

/-- An event queued: at most one entry more, or one more counted as lost. -/
theorem HostState.queueEvent_cases (h : HostState) (code time arg : Nat) :
    (255 ≤ ordinary h.events ∧ h.queueEvent code time arg = { h with lost := h.lost + 1 }) ∨
    (ordinary h.events < 255 ∧ h.queueEvent code time arg =
      { h with events := h.events ++ [⟨code, h.evSeq, time, arg % 2 ^ 32⟩], evSeq := (h.evSeq + 1) % 65536 }) := by
  unfold HostState.queueEvent
  split
  · exact .inl ⟨‹_›, rfl⟩
  · exact .inr ⟨by omega, rfl⟩

/-- Raising an event changes the queue, the fleet's upstream queue, the trace and the draw count, and nothing else. -/
@[simp] theorem State.raise_fields (s : State) (c a : Nat) :
    (s.raise c a).pending = s.pending ∧ (s.raise c a).ident = s.ident ∧ (s.raise c a).ctl = s.ctl ∧ (s.raise c a).params = s.params ∧
    (s.raise c a).otp = s.otp ∧ (s.raise c a).flash = s.flash ∧ (s.raise c a).image = s.image ∧ (s.raise c a).mods = s.mods ∧
    (s.raise c a).shadow = s.shadow ∧ (s.raise c a).outs = s.outs ∧ (s.raise c a).writer = s.writer ∧ (s.raise c a).records = s.records ∧
    (s.raise c a).imgNext = s.imgNext ∧ (s.raise c a).telAt = s.telAt ∧ (s.raise c a).telBad = s.telBad ∧
    (s.raise c a).fw = s.fw ∧ (s.raise c a).timers = s.timers ∧ (s.raise c a).coreRst = s.coreRst ∧
    (s.raise c a).freeCtr = s.freeCtr + 1 ∧ (s.raise c a).host = s.host.queueEvent c s.fleetTime a ∧
    (s.raise c a).trace = s.trace.onEvent c := by
  refine ⟨?_, ?_, ?_, ?_, ?_, ?_, ?_, ?_, ?_, ?_, ?_, ?_, ?_, ?_, ?_, ?_, ?_, ?_, ?_, ?_, ?_⟩ <;> rfl

/-- Among the jobs, raising an event touches the fleet job alone. -/
@[simp] theorem State.raise_jobs (s : State) (c a : Nat) :
    (s.raise c a).jobs.frm = s.jobs.frm ∧ (s.raise c a).jobs.sense = s.jobs.sense ∧ (s.raise c a).jobs.phases = s.jobs.phases ∧
    (s.raise c a).jobs.lanes = s.jobs.lanes ∧ (s.raise c a).jobs.sched = s.jobs.sched ∧ (s.raise c a).jobs.srcs = s.jobs.srcs ∧
    (s.raise c a).jobs.link = s.jobs.link ∧ (s.raise c a).jobs.packs = s.jobs.packs ∧ (s.raise c a).jobs.unit = s.jobs.unit ∧
    (s.raise c a).jobs.ports = s.jobs.ports ∧ (s.raise c a).jobs.rails = s.jobs.rails ∧ (s.raise c a).jobs.safe = s.jobs.safe ∧
    (s.raise c a).jobs.tel = s.jobs.tel ∧ (s.raise c a).jobs.energy = s.jobs.energy ∧ (s.raise c a).jobs.outs = s.jobs.outs := by
  refine ⟨?_, ?_, ?_, ?_, ?_, ?_, ?_, ?_, ?_, ?_, ?_, ?_, ?_, ?_, ?_⟩ <;> rfl

/-- Raising an event leaves every lane, phase, port, pack, rail and timer alone. -/
@[simp] theorem State.raise_items (s : State) (c a n : Nat) :
    (s.raise c a).lane n = s.lane n ∧ (s.raise c a).phase n = s.phase n ∧ (s.raise c a).src n = s.src n ∧
    (s.raise c a).pack n = s.pack n ∧ (s.raise c a).port n = s.port n ∧ (s.raise c a).rail n = s.rail n ∧
    (s.raise c a).timer n = s.timer n ∧ (s.raise c a).mod n = s.mod n ∧ (s.raise c a).slot n = s.slot n ∧
    (s.raise c a).pin n = s.pin n ∧ (s.raise c a).led n = s.led n := by
  refine ⟨?_, ?_, ?_, ?_, ?_, ?_, ?_, ?_, ?_, ?_, ?_⟩ <;> rfl

/-- A record is asked for: nothing but the records changes. -/
theorem State.askRecord_cases (s : State) (cause arg origin time prev : Nat) (free : Bool) :
    ∃ r, s.askRecord cause arg origin time prev free = { s with records := r } := by
  unfold State.askRecord
  dsimp only
  split <;> exact ⟨_, rfl⟩

/-- The end of an episode of skipped records changes nothing but the records, or raises REC_SKIPPED too. -/
theorem State.skipsOver_cases (s : State) :
    s.skipsOver = s ∨ ∃ r, s.skipsOver = ({ s with records := r } : State).raise Ev.REC_SKIPPED (min s.records.episode 0xFFFFFFFF) := by
  unfold State.skipsOver
  dsimp only
  split
  · exact .inr ⟨_, rfl⟩
  · exact .inl rfl

/-- Entering a controller state: the state stands, or it is taken and STATE_CHANGED tells it. -/
theorem State.enter_cases (s : State) (c : Ctl) :
    (s.ctl.state = c ∧ s.enter c = s) ∨
    (s.ctl.state ≠ c ∧ s.enter c = (s.modCtl fun k => { k with state := c }).raise Ev.STATE_CHANGED c.code) := by
  unfold State.enter
  split
  · exact .inl ⟨‹_›, rfl⟩
  · exact .inr ⟨‹_›, rfl⟩

/-- The controller is in the state it enters. -/
@[simp] theorem State.enter_state (s : State) (c : Ctl) : (s.enter c).ctl.state = c := by
  rcases s.enter_cases c with ⟨h, e⟩ | ⟨_, e⟩ <;> rw [e]
  · exact h
  · rfl

/-- A change of privilege: the level stands, or it falls to SEC.PRIV_DEFAULT and PRIV_DROPPED tells it. -/
theorem State.dropPriv_cases (s : State) (t : Transport) :
    ((s.link t).priv ≤ par s gSEC 0 SEC.PRIV_DEFAULT ∧ s.dropPriv t = s) ∨
    (par s gSEC 0 SEC.PRIV_DEFAULT < (s.link t).priv ∧
      s.dropPriv t = (s.modLink t fun l => { l with priv := par s gSEC 0 SEC.PRIV_DEFAULT }).raise Ev.PRIV_DROPPED
        (trNum t * 256 + par s gSEC 0 SEC.PRIV_DEFAULT)) := by
  unfold State.dropPriv
  dsimp only
  split
  · exact .inr ⟨‹_›, rfl⟩
  · exact .inl ⟨by omega, rfl⟩

/-- Changing a transport changes the host side alone. -/
theorem State.modLink_host (s : State) (t : Transport) (f : Link → Link) : ∃ h, s.modLink t f = { s with host := h } := by
  cases t <;> exact ⟨_, rfl⟩

/-- The CAN FD replies sent change the host side alone. -/
theorem State.flushCan_host (s : State) : ∃ h, s.flushCan = { s with host := h } := by
  unfold State.flushCan
  split
  · exact ⟨s.host, rfl⟩
  · exact ⟨_, rfl⟩

/-- A reply pushed changes the host side alone. -/
theorem State.pushReply_host (s : State) (tr : Transport) (r : Reply) : ∃ h, s.pushReply tr r = { s with host := h } := by
  cases tr <;> first | exact ⟨_, rfl⟩ | exact State.flushCan_host _

/-- An answer changes the host side alone. -/
theorem State.answer_host (s : State) (c : Ctx) (st : Nat) (pay : List Byte) : ∃ h, s.answer c st pay = { s with host := h } :=
  s.pushReply_host _ _

/-- The reply OK changes the host side alone. -/
theorem State.okReply_host (s : State) (c : Ctx) (pay : List Byte) : ∃ h, s.okReply c pay = { s with host := h } := s.answer_host _ _ _

/-- A refusal changes the host side alone. -/
theorem State.refuse_host (s : State) (c : Ctx) (st d : Nat) : ∃ h, s.refuse c st d = { s with host := h } := s.answer_host _ _ _

/-- A long operation started changes the host side alone. -/
theorem State.startOp_host (s : State) (c : Ctx) (res : Nat) (args : List Nat) (data : List Byte) :
    ∃ h, s.startOp c res args data = { s with host := h } := by
  obtain ⟨h, e⟩ := State.answer_host (s.modHost fun h => { h with
    opNum := nextOp s.host.opNum, ops := h.ops ++ [⟨nextOp s.host.opNum, c.opc, c.tr, res, args, data, s.age⟩] }) c St.ACCEPTED
    (leBytes 2 (nextOp s.host.opNum))
  exact ⟨h, e⟩

/-- A long operation ended: it leaves the list and OP_COMPLETE tells its status. -/
theorem State.endOp_eq (s : State) (opc num status : Nat) :
    s.endOp opc num status = ({ s with host := { s.host with
      ops := s.host.ops.filter fun o => !(o.num == num && o.opc == opc) } } : State).raise Ev.OP_COMPLETE (opArg status opc num) := rfl

end Sys2Proof.Machine
end

