-- ==== Sys2Proof/Safety.lean ====
section
/-! DEFINITION. What counts as a safe run: every step of it answers a next state. -/

namespace Sys2Proof

/-- The first k steps from s answer next states. -/
def Safe : Nat → Machine.State → Prop
  | 0, _ => True
  | k + 1, s => ∃ t, Machine.step s = .next t ∧ Safe k t

end Sys2Proof
end

