-- ==== Sys2Proof/WellFormed.lean ====
section
/-! DEFINITION. Well-formed commands: every operand fits the field that the spec gives it. An ill-formed command is none that the
hardware can receive; its meaning is still total. -/

namespace Sys2Proof

/-- The header of a host command: one of the three transports (R32), a TAG byte (R40) and a cycle of a frame (R14). -/
def Hdr.wf (h : Hdr) : Bool := h.tr != .fleet && h.tag < 256 && h.cyc ≤ 4000

/-- A 16-bit operand. -/
def w16 (n : Nat) : Bool := n < 65536
/-- A 32-bit operand. -/
def w32 (n : Nat) : Bool := n < 4294967296
/-- A byte operand. -/
def w8 (n : Nat) : Bool := n < 256
/-- A 64-bit operand. -/
def w64 (n : Nat) : Bool := n < 18446744073709551616

/-- What a frame takes from outside (R95, R113, R116): lists no longer than the part's channels, phases, ports and slots. -/
def FrameIn.wf (f : FrameIn) : Bool :=
  f.conv.length ≤ 40 && f.conv.all (fun l => l.all w16) && f.phSum.length ≤ 16 &&
  f.phSum.all (fun x => -409600 ≤ x && x ≤ 409400) && f.cfg.length ≤ 4 && f.fleet.length ≤ 3 && f.tmrio < 256 &&
  f.work.all (fun c => c.slot < 48 && 1 ≤ c.stage && c.stage ≤ 8 && w16 c.cycles && w16 c.ecc)

/-- What a carrier cycle takes from outside: 12-bit samples (R114), four at least on either side of the one at the peak (R169). -/
def CycleIn.wf (c : CycleIn) : Bool :=
  c.samples.all (fun x => -2048 ≤ x && x ≤ 2047) && 4 ≤ c.peak && c.peak + 4 < c.samples.length

/-- A fleet marker (R368): a 52-bit frame number and byte fields. -/
def Marker.wf (m : Marker) : Bool := m.frame < 4503599627370496 && w16 m.offset && w8 m.ack && w8 m.flags

/-- The header of a fleet frame (R369). -/
def FHdr.wf (f : FHdr) : Bool := w16 f.route && w8 f.lseq && w8 f.ver && w16 f.src && w16 f.dst

/-- A payload of a partner frame (R327). -/
def plehalPay (pl : List Byte) : Bool := pl.length ≤ 255
/-- A payload of a fleet frame (R369). -/
def fleetPay (pl : List Byte) : Bool := pl.length ≤ 1040

/-- Well-formed commands. -/
def Instr.wf : Instr → Bool
  | .spiWriteTransaction bs c => bs.length ≤ 4096 && c ≤ 4000
  | .i2cWriteTransfer bs c => bs.length ≤ 4096 && c ≤ 4000
  | .canFdSegment seg c => seg.length ≤ 64 && c ≤ 4000
  | .hello h a b => h.wf && w8 a && w8 b
  | .paramRead h f ids => h.wf && w8 f && ids.length < 256 && ids.all w16
  | .paramBaste h set es => h.wf && w8 set && es.length < 256 && es.all (fun e => w16 e.id)
  | .paramStitch h set f fr => h.wf && w8 set && w8 f && w64 fr
  | .paramStitchLaunch h set f fr => h.wf && w8 set && w8 f && w64 fr
  | .paramUnpick h set => h.wf && w8 set
  | .paramReadBlock h a n src => h.wf && w16 a && w16 n && w8 src
  | .paramWriteLive h es => h.wf && es.length < 256 && es.all (fun e => w16 e.id)
  | .launchAtStitch h sc f a fr => h.wf && w8 sc && w8 f && w8 a && w64 fr
  | .launchAtSnapshot h sc f a fr => h.wf && w8 sc && w8 f && w8 a && w64 fr
  | .launchCancel h i => h.wf && w16 i
  | .wdServeOtherKey h k => h.wf && w16 k
  | .wdCheckin h t => h.wf && w8 t
  | .eventRead h m => h.wf && w8 m
  | .eventAck h q => h.wf && w16 q
  | .resultFetch h o n off => h.wf && w8 o && w16 n && w32 off
  | .calRead h c l => h.wf && w8 c && w8 l
  | .calAlter h c b => h.wf && w8 c && b.length ≤ 1022
  | .calAlterSelvedge h r => h.wf && r.length ≤ 1022
  | .calMeasure h c n => h.wf && w8 c && w8 n
  | .restoreFactory h c => h.wf && w16 c
  | .recRead h i => h.wf && w8 i
  | .telRead h c w f => h.wf && w8 c && w8 w && w8 f
  | .traceArm h t p c m => h.wf && w8 t && w8 p && w16 c && w32 m
  | .traceRead h o n => h.wf && w32 o && w16 n
  | .attest h n k => h.wf && n.length = 16 && w8 k
  | .authChallenge h l => h.wf && w8 l
  | .authResponse h l k sg => h.wf && w8 l && w8 k && sg.length = 64
  | .fwBegin h a b => h.wf && w32 a && w32 b
  | .fwChunk h o d => h.wf && w32 o && d.length ≤ 1020
  | .phReinstate h p => h.wf && w8 p
  | .ledgerRead h p => h.wf && w8 p
  | .ledgerClearWorn h p => h.wf && w8 p
  | .portCmdSoftReset h p a => h.wf && w8 p && w16 a
  | .portCmdHardReset h p a => h.wf && w8 p && w16 a
  | .portCmdRoleSwap h p a => h.wf && w8 p && w16 a
  | .portCmdRenegotiate h p a => h.wf && w8 p && w16 a
  | .portCmdCableQuery h p a => h.wf && w8 p && w16 a
  | .portCmdAuthenticate h p a => h.wf && w8 p && w16 a
  | .fleetCmd h t i => h.wf && w16 t && i.length ≤ 1018
  | .fleetCmdReset h i => h.wf && i.length ≤ 1018
  | .fleetSnapshot h f sc => h.wf && w64 f && w8 sc
  | .fleetBarrier h b t => h.wf && w16 b && w16 t
  | .moor h c => h.wf && w16 c
  | .resetDevice h c => h.wf && w16 c
  | .getInfo h | .tideRead h | .wdServeKeyA h | .wdServeKeyB h | .fwCommit h | .hostFramingWrite h _ | .mapClearWrite h _ _
  | .mapSelWrite h _ | .haltReqWrite h _ | .faultForceWrite h _ | .swlinkReqWrite h _ | .holderReqWrite h _ | .lownForceWrite h _
  | .storageReqWrite h _ _ | .topoffReqWrite h _ _ | .captestReqWrite h _ _ | .extDemandWrite h _ | .rstoutForceWrite h _ _
  | .stepMaxClear h _ _ | .keySelWrite h _ | .debugEnWrite h _ | .tmrStartWrite h _ | .tmrStopWrite h _ | .tmrStartAtWrite h _ _
  | .tmrCountWrite h _ _ | .tmrShadowWrite h _ _ _ | .tmrFifoRead h _ | .tmrCountRead h _ _ => h.wf
  | .frameStart f => f.wf
  | .calMeasureComplete _ codes => codes.all (fun x => -2048 ≤ x && x ≤ 65535)
  | .carrierCycle x c => x < 16 && c.wf
  | .fleetMarker q m => q < 3 && m.wf
  | .plehalAck p pl => p < 4 && plehalPay pl
  | .plehalHello p i pl | .plehalAlert p i pl | .plehalCaps p i pl | .plehalRequest p i pl | .plehalReady p i pl
  | .plehalPackCaps p i pl | .plehalPackStatus p i pl | .plehalAuthCertGet p i pl | .plehalAuthCert p i pl
  | .plehalAuthChallenge p i pl | .plehalAuthSign p i pl => p < 4 && w8 i && plehalPay pl
  | .elivoHello q f pl | .announce q f pl | .joinReq q f pl | .joinAck q f pl | .repair q f pl | .fleetAuthCertGet q f pl
  | .fleetAuthCert q f pl | .fleetAuthChallenge q f pl | .fleetAuthSign q f pl | .fleetLaunch q f pl | .fleetLaunchCancel q f pl
  | .barrierUp q f pl | .barrierRelease q f pl | .fleetCmdFrame q f pl | .cmdReply q f pl | .cmdStatus q f pl | .snapReq q f pl
  | .snapRecord q f pl | .fleetEvent q f pl | .fleetEventsLost q f pl | .need q f pl | .shares q f pl => q < 3 && f.wf && fleetPay pl
  | .delayReq q f pl a b => q < 3 && f.wf && fleetPay pl && w64 a && w64 b
  | .delayResp q f pl a => q < 3 && f.wf && fleetPay pl && w64 a
  | .fleetReset q f => q < 3 && f.wf
  | .fleetUnknownFrame q t f pl => q < 3 && w8 t && f.wf && fleetPay pl
  | .fleetTick q a f => q < 3 && w8 a && w8 f
  | .delayPeriod a => w64 a
  | .fleetLinkUp q | .fleetLinkDown q | .lseqResend q | .fleetAuthRecheck q | .fleetAuthTimeout q | .fleetFrameDiscarded q => q < 3
  | .spiReadTransaction n | .i2cReadTransfer n => w16 n
  | .calAlterComplete n _ | .restoreFactoryComplete n | .attestComplete n | .authResponseComplete n | .fwBeginComplete n
  | .fwCommitComplete n _ | .portCmdComplete n | .fleetCmdComplete n | .fleetSnapshotComplete n | .fleetBarrierTimeout n
  | .resultExpiry n => w16 n
  | .fleetCmdMemberTimeout n u | .snapTimeout n u => w16 n && u < 1024
  | .simpleOpAbandon t | .replyDiscard t | .freshReadReply t | .freshReadDeferred t => t ≤ 51
  | .authLockoutEnd tr | .privIdleTimeout tr => tr != .fleet
  | .stepCutOff j st => j < 48 && 1 ≤ st && st ≤ 8
  | .jobRecovery j => j < 48
  | .stitchCheck k | .stitchApplied k | .telWindowClose k | .rstoutRelease k => k < 4
  | .launchCheck i | .launchStitch i | .launchSnapshot i => w16 i
  | .tsFault k | .tsRecovered k | .protStageOvertemp k => k < 8
  | .protectHoldEnd kd k => w8 kd && k < 8
  | .protPortOvervoltage c => c < 12
  | .phasePeakLimit x i => x < 16 && w32 i.count
  | .ledgerRetireWrite x => x < 16
  | .phaseShedStop x i => x < 16 && -2147483648 ≤ i && i ≤ 2147483647
  | .phaseRetired x c => x < 16 && w8 c
  | .bwStop n _ => n < 6
  | .surge n i => n < 6 && w8 i.cause
  | .linkOvervoltageLimit v => w32 v
  | .flashWriteLate k => w8 k
  | .laneQualified n | .softstartPhasesStart n | .softstartDone n | .softstartFailed n | .laneIdleOff n | .ratioFault n
  | .rampdownDone n | .retryElapsed n | .retryBackoffReset n | .learningWindowClose n | .shedStep n | .rotationBegin n
  | .shedBlockEnd n | .probeStart n | .probeAbandon n | .probeEnd n => n < 6
  | .sourceQualified n | .sourceConnectSettled n | .sourceLoss n | .dusk n | .mpptPeriodStep n | .sweepPoint n | .sweepRepeat n
  | .icsPeriodStep n => n < 4
  | .packAttached p | .packQualified p | .packSwitchSettled p | .prechargeDone p | .prechargeTimeout p | .ccDone p
  | .chargeTerminated p | .chargeTimeout p | .taperEnd p | .taperNoGrant p | .restEnd p | .maintainRecharge p | .supplyEnter p
  | .supplyExit p | .packRemovalCollapse p | .packHoldoffEnd p | .socAnchorOcv p | .socAnchorFloor p | .captestFloorReached p
  | .captestTimeout p => p < 4
  | .plugMeasurementDone p v => p < 4 && w16 v
  | .plehalSoftReset p i | .plehalPing p i | .plehalGetCaps p i | .plehalRoleSwap p i | .plehalSwapOff p i => p < 4 && w8 i
  | .plehalUnknownMessage p t m => p < 4 && w8 t && w8 m.id && w8 m.len
  | .portAttach p | .portDetach p | .dualRoleToggle p | .hardResetMarker p | .plehalResponseTimeout p | .plehalTxRetry p
  | .helloWaitTimeout p | .providerVoltageSettled p | .takerPortSettled p | .portVoltageLost p | .negotiationTimeout p
  | .keepalivePing p | .packStatusLate p | .packStatusLost p | .swapPortDischarged p | .swapTimeout p | .swapWaitRetry p
  | .hardResetSpacing p | .safe0End p | .partnerAuthTimeout p | .partnerFrameDiscarded p => p < 4
  | .railDebouncedChange n | .railRunning n | .railFailedUp n | .railSlowDown n => n < 8
  | .tmrMatchA t c | .tmrMatchB t c | .tmrTurn t c => t < 16 && c ≤ 4000
  | .tmrCapture t e => t < 16 && e.at_ ≤ 4000
  | .tmrConvResult t v c => t < 16 && w16 v && c ≤ 4000
  | .tmrConvWithdrawn t => t < 16
  | .timerTick t e => t < 16 && w32 e.events && e.pin < 8 && w8 e.levels
  | .spiOtherDirectionByte _ _ | .canClassicFrame | .canSegmentGapTimeout | .canBusOffRecovery | .fwChunkWritten | .fwSessionTimeout
  | .configFlashWrite | .keyInstallWrite _ | .commitPoint | .liveWriteEffect | .disciplineLimit | .slotPressure | .lossmapPersist
  | .ledgerFlush | .ledgerSample | .policyEvaluation | .electiveSeamBegin | .holdFail | .seamSwitchSettled | .seamRampEnd
  | .seamTimeout | .swlinkClose | .linklownAssert | .linklownRelease | .rootElectionTimeout | .joinReqRetry | .markersLost
  | .islandRejoin | .electWaitExpiry | .announcePeriod | .budgetPeriod | .sharesEffect | .alignedSet | .railGroupStart
  | .railGroupStop | .seqTripRestart | .seqTripIdle | .minOffElapsed | .tripCountReset | .moorEnter | .safePulseEnd | .safenLow
  | .safenRelease | .protLinkOvervoltage | .protDieOvertemp | .wdTimeout | .supervisionWatchdogExpiry | .coreRestarted | .clockLoss
  | .clockRecovered | .powerFailTrip | .powerFailRecordDone | .powerReturn | .faultRecordWrite | .recordAllowanceRefill
  | .traceNowTrigger | .traceFull | .wakeFromMoored | .powerOnReset | .resetnLow | .resetnRise | .bootRom | .bootComplete
  | .tmrNamedStart | .debuggerHalt | .debuggerRelease | .boundaryScanInstruction _ _ | .flashWriterDone => true

end Sys2Proof
end

