-- ==== Sys2Proof/Tests/Slice0.lean ====
section
/-! SUPPORT. Own tests: an ill-formed term for each check of WellFormed, values the spec states, and for each statement of
Obligations.lean a state and operands that meet the hypotheses of each of its clauses. -/

namespace Sys2Proof.Machine

/-- Channel c measures v. -/
def State.withVal (s : State) (c : Nat) (v : Int) : State := s.modSense fun z => { z with chans := z.chans.set c { z.chans.getD c {} with value := v } }

/-- Fleet port k is up and open. -/
def State.flUp (s : State) (k : Nat) : State := s.modFl k fun z => { z with up := true, loop := false, noVer := false }

/-! Single parts of the state with f applied. -/
def State.modOtp (s : State) (f : Otp → Otp) : State := { s with otp := f s.otp }
def State.modParams (s : State) (f : Params → Params) : State := { s with params := f s.params }
def State.modTrace (s : State) (f : Trace → Trace) : State := { s with trace := f s.trace }
def State.modIdent (s : State) (f : Ident → Ident) : State := { s with ident := f s.ident }
def State.modRecords (s : State) (f : Records → Records) : State := { s with records := f s.records }
def State.modTimers (s : State) (f : Timers → Timers) : State := { s with timers := f s.timers }

end Sys2Proof.Machine

namespace Sys2Proof.Tests
open Sys2Proof Sys2Proof.Machine

set_option maxRecDepth 20000
set_option Elab.async false

/-! The states of the witnesses: a running part of four lanes (PV, DC, pack, partner) whose links are at version 3 and level 4. -/

/-- A part that runs, with a host at level 4. -/
def up : State :=
  { State.reset with
      ctl := { state := .run, coreUp := true }
      jobs := { State.reset.jobs with frm := { running := true, frame := 5000, age := 5000 } }
      host := { State.reset.host with spi := { ver := 3, priv := 4 }, i2c := { ver := 3, priv := 4 }, can := { ver := 3, priv := 4 } } }
    |>.setPar gLN 0 LN.KIND 1 |>.setPar gLN 0 LN.PORT 0 |>.setPar gLN 0 LN.PHASES 0x3
    |>.setPar gLN 1 LN.KIND 2 |>.setPar gLN 1 LN.PORT 1 |>.setPar gLN 1 LN.PHASES 0xC
    |>.setPar gLN 2 LN.KIND 3 |>.setPar gLN 2 LN.PORT 1 |>.setPar gLN 2 LN.PHASES 0x30
    |>.setPar gLN 3 LN.KIND 4 |>.setPar gLN 3 LN.PORT 0 |>.setPar gLN 3 LN.PHASES 0xC0
    |>.setPar gSRC 0 SRC.KIND 1 |>.setPar gSRC 1 SRC.KIND 2 |>.setPar gPRT 0 PRT.MODE 1 |>.setPar gPRT 1 PRT.MODE 1

/-- The SPI header of the witnesses. -/
def hd : Hdr := ⟨.spi, 5, 0⟩

/-- A record request with these bytes. -/
def rq (b : Option (List Byte)) : RecReq := ⟨1, 2, 3, 4, 5, 6, b⟩

/-- A selvedge record with 50.0 V in every voltage field. -/
def selvBody : List Byte := [0x1D, 0x5E, 0, 1] ++ rep 4 0 ++ (List.range 26).flatMap (fun _ => leBytes 2 500) ++ rep 720 0
def selvOf (b : List Byte) : List Byte := b ++ leBytes 4 (crc32 b)
def selvRec : List Byte := selvOf selvBody

/-- A frame's input without conversions. -/
def fin0 : FrameIn := ⟨[], [], 2500, 12000, [], [], true, 0, []⟩

/-- Nine samples of a carrier cycle, the peak at the fifth. -/
def cyc0 : CycleIn := ⟨[34, 35, 36, 37, 38, 39, 40, 41, 42], 4, []⟩

/-- A firmware image of four bytes, its header signed for fwKey. -/
def fwKey : List Byte :=
  beBytes 64 0x737676e487e2c7bafb36dcf7cbdd9235ad7e3d487468b1f3b46907d15073b016cd5b7f0c1512841c3d669476fa8c7c86400b5ff50e1bee8e6b76f0147bc09812
def fwSig : List Byte := let r := beBytes 32 0x7cf27b188d034f7e8a52380304b51ac3c08969e277f21b35a60b48fc47669978; r ++ r
def fwHdr : List Byte := leBytes 4 0x31574654 ++ [1, 5, 3, 176, 9, 0, 0, 0, 0, 0, 0, 0, 4, 0, 0, 0, 0, 0, 0, 0] ++ sha256 [1, 2, 3, 4] ++ rep 72 0
def fwImg : List Byte := fwHdr ++ fwSig ++ rep 64 0 ++ [1, 2, 3, 4]

/-- The definition of a parameter. -/
def pdef (id : Nat) : ParamDef := (paramAt true id).getD ⟨0, 0, 0, 1, .staged, false, [], .const 0, .free, ""⟩

/-! Well-formedness: each check refuses a term that breaks it alone. -/

/-- A broken header (transport, tag, cycle) is refused. -/
theorem test_wf_header : [(⟨.fleet, 5, 0⟩ : Hdr), ⟨.spi, 256, 0⟩, ⟨.spi, 5, 4001⟩].all (fun h => !(Instr.getInfo h).wf) = true := by decide

/-- Operands of host commands that their fields do not hold are refused. -/
theorem test_wf_host :
    [Instr.hello hd 256 0, .paramRead hd 0 (rep 256 1), .paramRead hd 0 [65536], .paramBaste hd 256 [], .paramBaste hd 0 [⟨65536, 0⟩],
     .paramStitch hd 0 256 0, .paramStitchLaunch hd 0 0 (2 ^ 64), .paramUnpick hd 256, .paramReadBlock hd 65536 0 0,
     .paramWriteLive hd [⟨65536, 0⟩], .launchAtStitch hd 256 0 0 0, .launchAtSnapshot hd 0 0 0 (2 ^ 64), .launchCancel hd 65536,
     .wdServeOtherKey hd 65536, .wdCheckin hd 256, .eventRead hd 256, .eventAck hd 65536, .resultFetch hd 0 0 (2 ^ 32)].all
      (fun i => !i.wf) = true := by decide +kernel

/-- The same for the commands of services, security, ports and fleet. -/
theorem test_wf_services :
    [Instr.calRead hd 256 0, .calAlter hd 0 (rep 1023 0), .calAlterSelvedge hd (rep 1023 0), .calMeasure hd 0 256, .restoreFactory hd 65536,
     .recRead hd 256, .telRead hd 0 256 0, .traceArm hd 0 0 0 (2 ^ 32), .traceRead hd (2 ^ 32) 0, .attest hd (rep 15 0) 0,
     .authChallenge hd 256, .authResponse hd 1 1 (rep 63 0), .fwBegin hd (2 ^ 32) 0, .fwChunk hd 0 (rep 1021 0), .phReinstate hd 256,
     .ledgerRead hd 256, .ledgerClearWorn hd 256, .portCmdSoftReset hd 256 0, .portCmdHardReset hd 0 65536, .portCmdRoleSwap hd 256 0,
     .portCmdRenegotiate hd 256 0, .portCmdCableQuery hd 256 0, .portCmdAuthenticate hd 256 0, .fleetCmd hd 0 (rep 1019 0),
     .fleetCmdReset hd (rep 1019 0), .fleetSnapshot hd (2 ^ 64) 0, .fleetBarrier hd 65536 0, .moor hd 65536, .resetDevice hd 65536].all
      (fun i => !i.wf) = true := by decide +kernel

/-- Inputs of a frame and of a carrier cycle outside their ranges are refused. -/
theorem test_wf_frame :
    [Instr.frameStart { fin0 with conv := rep 41 [] }, .frameStart { fin0 with conv := [[65536]] }, .frameStart { fin0 with phSum := rep 17 0 },
     .frameStart { fin0 with phSum := [409401] }, .frameStart { fin0 with phSum := [-409601] }, .frameStart { fin0 with tmrio := 256 },
     .frameStart { fin0 with work := [⟨48, 1, 60, 0, false⟩] }, .frameStart { fin0 with work := [⟨0, 9, 60, 0, false⟩] },
     .frameStart { fin0 with work := [⟨0, 1, 65536, 0, false⟩] },
     .carrierCycle 16 cyc0, .carrierCycle 0 { cyc0 with samples := 2048 :: cyc0.samples }, .carrierCycle 0 { cyc0 with peak := 3 },
     .carrierCycle 0 { cyc0 with peak := 5 },
     .calMeasureComplete 1 [65536], .calMeasureComplete 1 [-2049]].all (fun i => !i.wf) = true := by decide +kernel

/-- Frames of the partner and of the fleet lines that are too long or misnumbered are refused. -/
theorem test_wf_lines :
    [Instr.plehalAck 4 [], .plehalAck 0 (rep 256 0), .plehalHello 0 256 [], .plehalPing 4 0, .plehalUnknownMessage 0 256 ⟨0, 0⟩, .plehalUnknownMessage 0 0 ⟨0, 256⟩,
     .fleetMarker 3 ⟨0, 0, 0, 0, 0⟩, .fleetMarker 0 ⟨2 ^ 52, 0, 0, 0, 0⟩, .fleetMarker 0 ⟨0, 65536, 0, 0, 0⟩, .fleetTick 0 256 0,
     .elivoHello 0 ⟨65536, 0, 0, 0, 0⟩ [], .announce 0 ⟨0, 256, 0, 0, 0⟩ [], .joinReq 0 ⟨0, 0, 0, 0, 0⟩ (rep 1089 0),
     .delayReq 0 ⟨0, 0, 0, 0, 0⟩ [] (2 ^ 64) 0, .fleetUnknownFrame 0 256 ⟨0, 0, 0, 0, 0⟩ [],
     .canFdSegment (rep 65 0) 0, .spiWriteTransaction [] 4001, .i2cWriteTransfer (rep 4097 0) 0].all (fun i => !i.wf) = true := by decide +kernel

/-- Numbers of lanes, phases, ports, rails, timers and the like beyond the part's are refused. -/
theorem test_wf_numbers :
    [Instr.stepCutOff 48 1, .jobRecovery 48, .stitchCheck 4, .tsFault 8, .protectHoldEnd 3 8, .protPortOvervoltage 12, .phasePeakLimit 16 ⟨0, 0⟩,
     .phaseShedStop 16 0, .phaseRetired 16 0, .bwStop 6 0, .surge 6 ⟨0, 0⟩, .surge 0 ⟨256, 0⟩, .linkOvervoltageLimit (2 ^ 32), .laneQualified 6, .sourceQualified 4,
     .packAttached 4, .plugMeasurementDone 4 0, .portAttach 4, .railRunning 8, .tmrMatchA 16 0, .tmrMatchB 0 4001, .tmrConvResult 0 65536 0,
     .tmrConvWithdrawn 16, .timerTick 16 ⟨0, 0, true, 0⟩, .fleetLinkUp 3, .delayPeriod (2 ^ 64), .simpleOpAbandon 52, .privIdleTimeout .fleet,
     .calAlterComplete 65536 true, .snapTimeout 0 1024, .spiReadTransaction 65536, .launchCheck 65536, .flashWriteLate 256].all
      (fun i => !i.wf) = true := by decide +kernel

/-- Well-formed commands are taken. -/
theorem test_wf_good :
    [Instr.getInfo hd, .bootRom, .frameStart fin0, .carrierCycle 15 cyc0, .authResponse hd 1 4 (rep 64 0), .fleetMarker 2 ⟨1, 2, 3, 0, -5⟩,
     .railRunning 7, .plehalUnknownMessage 3 255 ⟨255, 255⟩].all Instr.wf = true := by decide

/-! Values that the spec states. -/

/-- R41: the check value of the CRC over "123456789". -/
theorem test_crc16_check : crc16 [0x31, 0x32, 0x33, 0x34, 0x35, 0x36, 0x37, 0x38, 0x39] = 0x29B1 := by decide +kernel

/-- R369: the check value of the CRC-32 of fleet frames. -/
theorem test_crc32_check : crc32 [0x31, 0x32, 0x33, 0x34, 0x35, 0x36, 0x37, 0x38, 0x39] = 0xCBF43926 := by decide +kernel

/-- Example of Host Commands: GET_INFO with tag 0 and LEN 0 ends in the CRC 0x69A8. -/
theorem test_getInfo_packet : packet 0x02 0 [] = [0x02, 0x00, 0x00, 0x00, 0xA8, 0x69] := by decide +kernel

/-- The same example: the reply begins with OK, tag 0, LEN 26, part 0x1648, die step B0 and slot A. -/
theorem test_getInfo_reply :
    (match step { up with ident := { up.ident with big := true }, pending := [.spiWriteTransaction [0x02, 0x00, 0x00, 0x00, 0xA8, 0x69] 0] } with
     | .next t => (t.host.spi.replies.head?.map fun r => r.bytes.take 8)
     | _ => none) = some [0x00, 0x00, 0x1A, 0x00, 0x48, 0x16, 0xB0, 0x00] := by decide +kernel

/-- Example of the Parameter Map: LN3 lies at 0x50C0. -/
theorem test_pid_ln3 : pid gLN 3 0 = 0x50C0 := by decide

/-- Example of the records: CHMASK 0x00030000 gives 8,188 rows. -/
theorem test_traceRows : traceRows 0x00030000 = 8188 := by decide +kernel

/-- Example of the watchdog: KEY_B while task 1 of mask 0x0003 has not checked in answers 0x0002 and leaves the service armed. -/
theorem test_wd_tasks_incomplete :
    (match step { (((up.setPar gSAF 0 SAF.WD_EN 1).setPar gSAF 0 SAF.WD_TASKMASK 3).modSafe fun z => { z with elapsed := 99995, seen := 1, armed := true })
       with pending := [.wdServeKeyB hd] } with
     | .next t => some (t.host.spi.replies.map (fun r => (r.status, r.pay)), t.jobs.safe.armed)
     | _ => none) = some ([(St.WD_TASKS_INCOMPLETE, [2, 0])], true) := by decide +kernel

/-- Example of the loss map: LOSS 392 with CONF 144 and a window mean of 416 becomes 402 with CONF 160. -/
theorem test_learn_agrees :
    (let t := learn 1 1600 416 {} (setEntry 1600 ⟨392, 0, 0, 0, 144, 5⟩ (up.setPar gSCH 1 SCH.CONF_STEP 16))
     ((mapEntry t 1600).loss, (mapEntry t 1600).conf)) = (402, 160) := by decide +kernel

/-- The sequencer's first group starts from the reset of the rails: RSTOUT and SEQEN stand as reset leaves them. -/
theorem test_reset_outputs : State.reset.outs.seqen = rep 8 false ∧ State.reset.jobs.rails.rst = rep 4 true := by decide +kernel

/-- The first step of a part: with the ROM's command in front, slot A boots. -/
theorem test_boot_rom :
    (match step { State.reset with pending := [.bootRom] } with | .next t => some (t.ctl.romDone, t.ctl.slot, t.pending) | _ => none) =
      some (true, 0, []) := by decide +kernel

/-- The table gives no command any bits. -/
theorem test_decodeTableWord : decodeTableWord 0 0 = none := rfl

/-- A safe run of one step from reset. -/
theorem test_safe : Safe 1 State.reset := ⟨_, rfl, trivial⟩

/-- Channel 0 of a part without a record, pattern or alteration reads what the empty state holds. -/
theorem test_val_reset : State.reset.val 0 = 0 := by decide +kernel

/-! The statements' hypotheses. -/

/-- The hypotheses of HostGateRow can be met. -/
theorem test_HostGateRow_hyps :
    (∃ (s : State) (h : Hdr), h.tr ≠ .fleet ∧ accepts s = false ∧ h.tr = .i2c) ∧
    (∃ (s : State) (h : Hdr), h.tr ≠ .fleet ∧ accepts s = true ∧ untagged s h.tr = false ∧ 47 < h.tag) ∧
    (∃ (s : State) (h : Hdr) (f : Flight), h.tr ≠ .fleet ∧ accepts s = true ∧ untagged s h.tr = false ∧ h.tag ≤ 47 ∧ s.host.flights = [f] ∧ f.tr ≠
      .fleet ∧ f.tag = some h.tag) ∧
    (∃ (s : State) (h : Hdr), h.tr ≠ .fleet ∧ HostReady s h 0x20 1 0 ∧ (s.link h.tr).priv = 0) ∧
    (∃ (s : State) (h : Hdr), h.tr ≠ .fleet ∧ HostReady s h 0x19 1 1 ∧ (s.link h.tr).ver < 3) ∧
    (∃ (s : State) (h : Hdr), h.tr ≠ .fleet ∧ accepts s = true ∧ s.ctl.loader = true ∧ tagCheck s h.tr (some h.tag) = none) ∧
    (∃ (s : State) (h : Hdr) (num : _) (id : _) (mul : _) (k : _) (d : _), h.tr ≠ .fleet ∧ accepts s = true ∧ untagged s h.tr = true ∧
      s.host.flights = [] ∧ num < 256 ∧ v1Map num = some (id, mul, k) ∧ paramAt s.ident.big id = some d ∧ d.attr ≠ .ro) ∧
    (∃ (s : State) (h : Hdr), h.tr ≠ .fleet ∧ accepts s = true ∧ untagged s h.tr = true ∧ s.host.flights = []) :=
   ⟨⟨up.modCtl (fun z => { z with coreUp := false }), (⟨.i2c, 5, 0⟩ : Hdr), by decide +kernel⟩,
    ⟨up, (⟨.spi, 48, 0⟩ : Hdr), by decide +kernel⟩,
    ⟨up.modHost (fun z => { z with flights := [(⟨.i2c, some 5, 2, 0, false⟩ : Flight)] }), hd, (⟨.i2c, some 5, 2, 0, false⟩ : Flight),
      by decide +kernel⟩,
    ⟨up.modHost (fun z => { z with spi := { z.spi with priv := 0 } }), hd, by unfold HostReady; decide +kernel⟩,
    ⟨up.modHost (fun z => { z with spi := { z.spi with ver := 2 } }), hd, by unfold HostReady; decide +kernel⟩,
    ⟨up.modCtl (fun z => { z with loader := true }), hd, by decide +kernel⟩,
    ⟨up.modHost (fun z => { z with flights := [], spi := { z.spi with ver := 1 } }), hd, 0x28, ((v1Map 0x28).getD (0,0,1)).1, ((v1Map 0x28).getD
      (0,0,1)).2.1, ((v1Map 0x28).getD (0,0,1)).2.2, pdef ((v1Map 0x28).getD (0,0,1)).1, by decide +kernel⟩,
    ⟨up.modHost (fun z => { z with flights := [], spi := { z.spi with ver := 1 } }), hd, by decide +kernel⟩⟩

/-- The hypotheses of HostReadRows can be met. -/
theorem test_HostReadRows_hyps :
    (∃ (s : State) (h : Hdr) (lo : _) (hi : _), HostReady s h 0x01 1 0 ∧ lo ≤ topVer s ∧ 2 ≤ hi ∧ lo ≤ hi ∧ (∀ f ∈ s.host.flights, f.tr ≠ h.tr)) ∧
    (∃ (s : State) (h : Hdr), HostReady s h 0x02 1 0) ∧
    (∃ (s : State) (h : Hdr) (id : _) (d : _), HostReady s h 0x10 1 0 ∧ paramAt s.ident.big id = some d ∧ d.words = 1 ∧ d.attr ≠ .ro) ∧
    (∃ (s : State) (h : Hdr) (id : _), HostReady s h 0x10 1 0 ∧ paramAt s.ident.big id = none) ∧
    (∃ (s : State) (h : Hdr) (id : _) (k : _) (w : Word), HostReady s h 0x14 2 0 ∧ id < 65536 ∧ k < 4 ∧ assocGet (s.host.sets.getD k {}).entries id
      = some w) ∧
    (∃ (s : State) (h : Hdr), HostReady s h 0x1A 3 0) ∧
    (∃ (s : State) (h : Hdr) (n : _), HostReady s h 0x28 1 0 ∧ 1 ≤ n ∧ n ≤ 63) ∧
    (∃ (s : State) (h : Hdr) (c : _) (l : _), HostReady s h 0x30 2 0 ∧ c ≠ 0xFE ∧ chanPresent s c = true ∧ l ≤ 2) ∧
    (∃ (s : State) (h : Hdr) (k : _) (b : _), HostReady s h 0x40 2 0 ∧ recordAt s k = some b) ∧
    (∃ (s : State) (h : Hdr) (c : _), HostReady s h 0x41 2 0 ∧ (telChans s).contains c = true) ∧
    (∃ (s : State) (h : Hdr) (c : _) (w : _), HostReady s h 0x41 2 0 ∧ (telChans s).contains c = true ∧ s.ident.big = true ∧ w < 4) ∧
    (∃ (s : State) (h : Hdr) (off : _) (n : _), HostReady s h 0x43 2 0 ∧ 1 ≤ n ∧ off + n ≤ (traceBytes s.trace).length ∧ n ≤ 1022 ∧ off + n ≤ 65536) ∧
    (∃ (s : State) (h : Hdr) (x : _), HostReady s h 0x59 2 0 ∧ x < nPh s) ∧
    (∃ (s : State) (h : Hdr) (n : _) (off : _) (r : Result), HostReady s h 0x48 3 0 ∧ n < 65536 ∧ off < 2 ^ 32 ∧ s.host.results.find? (fun r =>
      r.num == n && r.opc == 0x48) = some r ∧ r.lost = false ∧ off ≤ r.bytes.length) ∧
    (∃ (s : State) (h : Hdr) (k : _), HostReady s h 0x10 1 0 ∧ k < 16 ∧ k < s.timers.t.length) ∧
    (∃ (s : State) (h : Hdr) (k : _), HostReady s h 0x10 1 0 ∧ k < 16 ∧ (s.timer k).count < 2 ^ 32 ∧ (s.timer k).capture < 2 ^ 32) :=
   ⟨⟨up.modHost (fun z => { z with flights := [] }), hd, 1, 2, by unfold HostReady; decide +kernel⟩,
    ⟨up, hd, by unfold HostReady; decide +kernel⟩,
    ⟨up, hd, pid gLN 1 LN.I_LIMIT, pdef (pid gLN 1 LN.I_LIMIT), by unfold HostReady; decide +kernel⟩,
    ⟨up, hd, 65535, by unfold HostReady; decide +kernel⟩,
    ⟨up.modHost (fun z => { z with sets := [{}, {}, {}, { entries := [(9, 7)] }] }), hd, 9, 3, (7 : Word), by unfold HostReady; decide +kernel⟩,
    ⟨up, hd, by unfold HostReady; decide +kernel⟩,
    ⟨up, hd, 63, by unfold HostReady; decide +kernel⟩,
    ⟨up, hd, 0, 2, by unfold HostReady; decide +kernel⟩,
    ⟨up.modFlash (fun z => { z with ring := [⟨6, recordBytes 6 (List.replicate 252 7)⟩], recNo := 6 }), hd, 0, recordBytes 6 (List.replicate 252 (7
      : Byte)), by unfold HostReady; decide +kernel⟩,
    ⟨up, hd, 0, by unfold HostReady; decide +kernel⟩,
    ⟨up.modIdent (fun z => { z with big := true }), hd, 0, 3, by unfold HostReady; decide +kernel⟩,
    ⟨up, hd, 5, 9, by unfold HostReady; decide +kernel⟩,
    ⟨up, hd, 1, by unfold HostReady; decide +kernel⟩,
    ⟨up.modHost (fun z => { z with results := [⟨65535, 0x48, [1,2], false, 9000000⟩] }), hd, 65535, 0, (⟨65535, 0x48, [1,2], false, 9000000⟩ :
      Result), by unfold HostReady; decide +kernel⟩,
    ⟨up.modTimer 15 (fun z => { z with fifo := [70000, 2, 3] }), hd, 15, by unfold HostReady; decide +kernel⟩,
    ⟨up.modTimer 15 (fun z => { z with capture := 70000 }), hd, 15, by unfold HostReady; decide +kernel⟩⟩

/-- The hypotheses of HostConfigRows can be met. -/
theorem test_HostConfigRows_hyps :
    (∃ (s : State) (h : Hdr) (set : _) (es : List Entry) (l : _), HostReady s h 0x11 2 1 ∧ set ≤ 3 ∧ set < s.host.sets.length ∧ es ≠ [] ∧ es.length
      ≤ 128 ∧ checkEntries s (s.link h.tr).priv false es = none ∧ setLock s set = none ∧ l = entryWords es (s.host.sets.getD set {}).entries ∧
      l.length ≤ 512) ∧
    (∃ (s : State) (h : Hdr) (set : _) (es : List Entry) (st : _) (d : _), HostReady s h 0x11 2 1 ∧ set ≤ 3 ∧ es ≠ [] ∧ es.length ≤ 128 ∧
      checkEntries s (s.link h.tr).priv false es = some (st, d)) ∧
    (∃ (s : State) (h : Hdr) (set : _) (es : _), HostReady s h 0x12 2 1 ∧ set ≤ 3 ∧ set < s.host.sets.length ∧ setLock s set = none ∧ es =
      (s.host.sets.getD set {}).entries ∧ checkSet s es (some (s.link h.tr).priv) = none) ∧
    (∃ (s : State) (h : Hdr) (set : _) (fr : _) (lid : _), HostReady s h 0x12 3 1 ∧ set ≤ 3 ∧ set < s.host.sets.length ∧ fr ≤ lastFrame ∧ setLock s
      set = none ∧ checkSet s (s.host.sets.getD set {}).entries (some (s.link h.tr).priv) = none ∧ s.frame + 2 ≤ fr ∧ s.host.tide.length < 16 ∧ lid
      = freeLid 17 s.host.tide s.host.nextLid) ∧
    (∃ (s : State) (h : Hdr) (set : _), HostReady s h 0x13 2 1 ∧ set ≤ 3 ∧ set < s.host.sets.length ∧ setLock s set = none) ∧
    (∃ (s : State) (h : Hdr) (id : _) (v : Word) (d : _), paramAt s.ident.big id = some d ∧ d.words = 1 ∧ HostReady s h 0x15 1 1 ∧ checkEntries s
      (s.link h.tr).priv true [⟨id, v⟩] = none ∧ liveCond ⟨h.tr, some h.tag, h.cyc, 0x15⟩ [⟨id, v⟩] s = none) ∧
    (∃ (s : State) (h : Hdr) (set : _) (fr : _) (lid : _), HostReady s h 0x18 3 1 ∧ set ≤ 3 ∧ set < s.host.sets.length ∧ fr ≤ lastFrame ∧ setLock s
      set = none ∧ checkSet s (s.host.sets.getD set {}).entries (some (s.link h.tr).priv) = none ∧ s.frame + 2 ≤ fr ∧ s.host.tide.length < 16 ∧ lid
      = freeLid 17 s.host.tide s.host.nextLid) ∧
    (∃ (s : State) (h : Hdr) (fr : _) (lid : _), HostReady s h 0x18 3 1 ∧ fr ≤ lastFrame ∧ s.frame + 2 ≤ fr ∧ s.host.tide.length < 16 ∧ lid =
      freeLid 17 s.host.tide s.host.nextLid) ∧
    (∃ (s : State) (h : Hdr) (fr : _), HostReady s h 0x18 3 1 ∧ fr ≤ lastFrame ∧ fr < s.frame + 2) ∧
    (∃ (s : State) (h : Hdr) (fr : _), HostReady s h 0x18 3 2 ∧ fr ≤ lastFrame ∧ cutOff s = false ∧ s.frame + leadMin s ≤ fr ∧ s.host.tide.length <
      16 ∧ s.fleet.st = .root) ∧
    (∃ (s : State) (h : Hdr) (x : Tide), HostReady s h 0x19 3 1 ∧ tideAt s x.lid = some x ∧ x.scope ≠ 1 ∧ s.frame + 2 ≤ x.frame) ∧
    (∃ (s : State) (h : Hdr) (i : Nat) (e : Event), HostReady s h 0x29 1 1 ∧ s.host.lost = 0 ∧ s.host.events[i]? = some e ∧ (∀ j, j < i →
      (s.host.events[j]?).map (·.seq) ≠ some e.seq)) :=
   ⟨⟨up, hd, 3, ([⟨pid gLN 1 LN.I_LIMIT, 100⟩, ⟨pid gLN 0 LN.I_LIMIT, 101⟩] : List Entry), entryWords (([⟨pid gLN 1 LN.I_LIMIT, 100⟩, ⟨pid gLN 0
     LN.I_LIMIT, 101⟩] : List Entry)) ((up).host.sets.getD 3 {}).entries, by unfold HostReady; decide +kernel⟩,
    ⟨up, hd, 0, ([⟨pid gLN 1 LN.I_LIMIT, 100⟩, ⟨65535, 1⟩] : List Entry), ((checkEntries (up) ((up).link hd.tr).priv false (([⟨pid gLN 1 LN.I_LIMIT,
      100⟩, ⟨65535, 1⟩] : List Entry))).getD (0,0)).1, ((checkEntries (up) ((up).link hd.tr).priv false (([⟨pid gLN 1 LN.I_LIMIT, 100⟩, ⟨65535, 1⟩]
      : List Entry))).getD (0,0)).2, by unfold HostReady; decide +kernel⟩,
    ⟨({ (up.modHost (fun z => { z with sets := [{ entries := [(pid gGLB 0 GLB.CAN_DBR, 2)] }, {}, {}, {}] })) with params := State.reset.params }),
      hd, 0,
      ((({ (up.modHost (fun z => { z with sets := [{ entries := [(pid gGLB 0 GLB.CAN_DBR, 2)] }, {}, {}, {}] })) with params := State.reset.params })).host.sets.getD
      0 {}).entries, by unfold HostReady; decide +kernel⟩,
    ⟨({ (up.modHost (fun z => { z with sets := [{ entries := [(pid gGLB 0 GLB.CAN_DBR, 2)] }, {}, {}, {}], tide := [⟨16, 1, 0, 0, 0, 9000, false⟩], nextLid := 16 })) with params := State.reset.params }),
      hd, 0, up.frame + 3, freeLid 17
      (({ (up.modHost (fun z => { z with sets := [{ entries := [(pid gGLB 0 GLB.CAN_DBR, 2)] }, {}, {}, {}], tide := [⟨16, 1, 0, 0, 0, 9000, false⟩], nextLid := 16 })) with params := State.reset.params })).host.tide
      (({ (up.modHost (fun z => { z with sets := [{ entries := [(pid gGLB 0 GLB.CAN_DBR, 2)] }, {}, {}, {}], tide := [⟨16, 1, 0, 0, 0, 9000, false⟩], nextLid := 16 })) with params := State.reset.params })).host.nextLid,
      by unfold HostReady; decide +kernel⟩,
    ⟨({ (up.modHost (fun z => { z with sets := [{ entries := [(pid gGLB 0 GLB.CAN_DBR, 2)] }, {}, {}, {}] })) with params := State.reset.params }),
      hd, 0, by unfold HostReady; decide +kernel⟩,
    ⟨up, hd, pid gSAF 0 SAF.HALT_REQ, (18516 : Word), pdef (pid gSAF 0 SAF.HALT_REQ), by unfold HostReady; decide +kernel⟩,
    ⟨({ (up.modHost (fun z => { z with sets := [{ entries := [(pid gGLB 0 GLB.CAN_DBR, 2)] }, {}, {}, {}], tide := [⟨16, 1, 0, 0, 0, 9000, false⟩], nextLid := 16 })) with params := State.reset.params }),
      hd, 0, up.frame + 3, freeLid 17
      (({ (up.modHost (fun z => { z with sets := [{ entries := [(pid gGLB 0 GLB.CAN_DBR, 2)] }, {}, {}, {}], tide := [⟨16, 1, 0, 0, 0, 9000, false⟩], nextLid := 16 })) with params := State.reset.params })).host.tide
      (({ (up.modHost (fun z => { z with sets := [{ entries := [(pid gGLB 0 GLB.CAN_DBR, 2)] }, {}, {}, {}], tide := [⟨16, 1, 0, 0, 0, 9000, false⟩], nextLid := 16 })) with params := State.reset.params })).host.nextLid,
      by unfold HostReady; decide +kernel⟩,
    ⟨up, hd, 2^52-1, freeLid 17 (up).host.tide (up).host.nextLid, by unfold HostReady; decide +kernel⟩,
    ⟨up, hd, up.frame + 1, by unfold HostReady; decide +kernel⟩,
    ⟨up.modFleet (fun z => { z with st := .root, parent := none }), hd, up.frame + 90, by unfold HostReady; decide +kernel⟩,
    ⟨up.modHost (fun z => { z with tide := [⟨16, 1, 0, 0, 0, up.frame + 3, false⟩, ⟨17, 1, 0, 0, 0, up.frame + 3, false⟩] }), hd, (⟨16, 1, 0, 0, 0,
      up.frame + 3, false⟩ : Tide), by unfold HostReady; decide +kernel⟩,
    ⟨up.modHost (fun z => { z with events := [⟨0x301, 5, 9, 9⟩, ⟨2, 6, 9, 9⟩, ⟨0x301, 7, 9, 9⟩], lost := 0 }), hd, 1, (⟨2, 6, 9, 9⟩ : Event),
      by unfold HostReady; decide +kernel⟩⟩

/-- The hypotheses of LiveWriteRows can be met. -/
theorem test_LiveWriteRows_hyps :
    (∃ (s : State) (h : Hdr) (v : Word), HostReady s h 0x15 1 1 ∧ checkEntries s (s.link h.tr).priv true [⟨pid gGLB 0 GLB.HOST_FRAMING, v⟩] = none ∧
      liveCond ⟨h.tr, some h.tag, h.cyc, 0x15⟩ [⟨pid gGLB 0 GLB.HOST_FRAMING, v⟩] s = none) ∧
    (∃ (s : State) (h : Hdr) (v : Word) (n : _), n < 6 ∧ HostReady s h 0x15 1 1 ∧ checkEntries s (s.link h.tr).priv true [⟨pid gSCH n SCH.MAP_CLEAR,
      v⟩] = none ∧ liveCond ⟨h.tr, some h.tag, h.cyc, 0x15⟩ [⟨pid gSCH n SCH.MAP_CLEAR, v⟩] s = none) ∧
    (∃ (s : State) (h : Hdr) (v : Word), HostReady s h 0x15 1 1 ∧ checkEntries s (s.link h.tr).priv true [⟨pid gSCH 48 SCH.MAP_SEL, v⟩] = none ∧
      liveCond ⟨h.tr, some h.tag, h.cyc, 0x15⟩ [⟨pid gSCH 48 SCH.MAP_SEL, v⟩] s = none) ∧
    (∃ (s : State) (h : Hdr) (v : Word), HostReady s h 0x15 1 1 ∧ checkEntries s (s.link h.tr).priv true [⟨pid gSAF 0 SAF.HALT_REQ, v⟩] = none ∧
      liveCond ⟨h.tr, some h.tag, h.cyc, 0x15⟩ [⟨pid gSAF 0 SAF.HALT_REQ, v⟩] s = none) ∧
    (∃ (s : State) (h : Hdr) (v : Word), HostReady s h 0x15 1 1 ∧ checkEntries s (s.link h.tr).priv true [⟨pid gSAF 0 SAF.FAULT_FORCE, v⟩] = none ∧
      liveCond ⟨h.tr, some h.tag, h.cyc, 0x15⟩ [⟨pid gSAF 0 SAF.FAULT_FORCE, v⟩] s = none) ∧
    (∃ (s : State) (h : Hdr) (v : Word), HostReady s h 0x15 1 1 ∧ checkEntries s (s.link h.tr).priv true [⟨pid gSRC 4 SRC.SWLINK_REQ, v⟩] = none ∧
      liveCond ⟨h.tr, some h.tag, h.cyc, 0x15⟩ [⟨pid gSRC 4 SRC.SWLINK_REQ, v⟩] s = none) ∧
    (∃ (s : State) (h : Hdr) (v : Word), HostReady s h 0x15 1 1 ∧ checkEntries s (s.link h.tr).priv true [⟨pid gSRC 4 SRC.HOLDER_REQ, v⟩] = none ∧
      liveCond ⟨h.tr, some h.tag, h.cyc, 0x15⟩ [⟨pid gSRC 4 SRC.HOLDER_REQ, v⟩] s = none) ∧
    (∃ (s : State) (h : Hdr) (v : Word), HostReady s h 0x15 1 1 ∧ checkEntries s (s.link h.tr).priv true [⟨pid gSRC 4 SRC.LOWN_FORCE, v⟩] = none ∧
      liveCond ⟨h.tr, some h.tag, h.cyc, 0x15⟩ [⟨pid gSRC 4 SRC.LOWN_FORCE, v⟩] s = none) ∧
    (∃ (s : State) (h : Hdr) (v : Word) (p : _), p < 4 ∧ HostReady s h 0x15 1 1 ∧ checkEntries s (s.link h.tr).priv true [⟨pid gCHG p
      CHG.STORAGE_REQ, v⟩] = none ∧ liveCond ⟨h.tr, some h.tag, h.cyc, 0x15⟩ [⟨pid gCHG p CHG.STORAGE_REQ, v⟩] s = none) ∧
    (∃ (s : State) (h : Hdr) (v : Word) (p : _), p < 4 ∧ HostReady s h 0x15 1 1 ∧ checkEntries s (s.link h.tr).priv true [⟨pid gCHG p
      CHG.TOPOFF_REQ, v⟩] = none ∧ liveCond ⟨h.tr, some h.tag, h.cyc, 0x15⟩ [⟨pid gCHG p CHG.TOPOFF_REQ, v⟩] s = none) ∧
    (∃ (s : State) (h : Hdr) (v : Word) (p : _), p < 4 ∧ HostReady s h 0x15 1 1 ∧ checkEntries s (s.link h.tr).priv true [⟨pid gCHG p
      CHG.CAPTEST_REQ, v⟩] = none ∧ liveCond ⟨h.tr, some h.tag, h.cyc, 0x15⟩ [⟨pid gCHG p CHG.CAPTEST_REQ, v⟩] s = none) ∧
    (∃ (s : State) (h : Hdr) (d : BitVec 32), HostReady s h 0x15 1 1 ∧ checkEntries s (s.link h.tr).priv true [⟨pid gCHG 16 CHG.EXT_DEMAND,
      d.extractLsb' 0 16⟩, ⟨pid gCHG 16 CHG.EXT_DEMAND + 1, d.extractLsb' 16 16⟩] = none ∧ liveCond ⟨h.tr, some h.tag, h.cyc, 0x15⟩ [⟨pid gCHG 16
      CHG.EXT_DEMAND, d.extractLsb' 0 16⟩, ⟨pid gCHG 16 CHG.EXT_DEMAND + 1, d.extractLsb' 16 16⟩] s = none) ∧
    (∃ (s : State) (h : Hdr) (v : Word) (k : _), k < 4 ∧ HostReady s h 0x15 1 1 ∧ checkEntries s (s.link h.tr).priv true [⟨pid gSEQ (9 + k)
      SEQ.FORCE, v⟩] = none ∧ liveCond ⟨h.tr, some h.tag, h.cyc, 0x15⟩ [⟨pid gSEQ (9 + k) SEQ.FORCE, v⟩] s = none) ∧
    (∃ (s : State) (h : Hdr) (v : Word) (j : _), j < 48 ∧ HostReady s h 0x15 1 1 ∧ checkEntries s (s.link h.tr).priv true [⟨pid gFRM j FRM.STEP_MAX,
      v⟩] = none ∧ liveCond ⟨h.tr, some h.tag, h.cyc, 0x15⟩ [⟨pid gFRM j FRM.STEP_MAX, v⟩] s = none) ∧
    (∃ (s : State) (h : Hdr) (v : Word), HostReady s h 0x15 1 1 ∧ checkEntries s (s.link h.tr).priv true [⟨pid gSEC 0 SEC.KEY_SEL, v⟩] = none ∧
      liveCond ⟨h.tr, some h.tag, h.cyc, 0x15⟩ [⟨pid gSEC 0 SEC.KEY_SEL, v⟩] s = none) ∧
    (∃ (s : State) (h : Hdr) (v : Word), HostReady s h 0x15 1 1 ∧ checkEntries s (s.link h.tr).priv true [⟨pid gSEC 0 SEC.DEBUG_EN, v⟩] = none ∧
      liveCond ⟨h.tr, some h.tag, h.cyc, 0x15⟩ [⟨pid gSEC 0 SEC.DEBUG_EN, v⟩] s = none) ∧
    (∃ (s : State) (h : Hdr) (v : Word), HostReady s h 0x15 1 1 ∧ checkEntries s (s.link h.tr).priv true [⟨pid gTMR 16 TMR.START, v⟩] = none ∧
      liveCond ⟨h.tr, some h.tag, h.cyc, 0x15⟩ [⟨pid gTMR 16 TMR.START, v⟩] s = none) ∧
    (∃ (s : State) (h : Hdr) (v : Word), HostReady s h 0x15 1 1 ∧ checkEntries s (s.link h.tr).priv true [⟨pid gTMR 16 TMR.STOP, v⟩] = none ∧
      liveCond ⟨h.tr, some h.tag, h.cyc, 0x15⟩ [⟨pid gTMR 16 TMR.STOP, v⟩] s = none) ∧
    (∃ (s : State) (h : Hdr) (v : Word) (fr : BitVec 64), HostReady s h 0x15 1 1 ∧ checkEntries s (s.link h.tr).priv true (liveEntries gTMR 16
      TMR.START_AT 1 v.toNat ++ liveEntries gTMR 16 TMR.START_FRAME 4 fr.toNat) = none ∧ liveCond ⟨h.tr, some h.tag, h.cyc, 0x15⟩ (liveEntries gTMR
      16 TMR.START_AT 1 v.toNat ++ liveEntries gTMR 16 TMR.START_FRAME 4 fr.toNat) s = none) ∧
    (∃ (s : State) (h : Hdr) (k : Nat) (d : BitVec 32), k < 16 ∧ HostReady s h 0x15 1 1 ∧ checkEntries s (s.link h.tr).priv true [⟨pid gTMR k
      TMR.COUNT, d.extractLsb' 0 16⟩, ⟨pid gTMR k TMR.COUNT + 1, d.extractLsb' 16 16⟩] = none ∧ liveCond ⟨h.tr, some h.tag, h.cyc, 0x15⟩ [⟨pid gTMR
      k TMR.COUNT, d.extractLsb' 0 16⟩, ⟨pid gTMR k TMR.COUNT + 1, d.extractLsb' 16 16⟩] s = none) ∧
    (∃ (s : State) (h : Hdr) (k : Nat) (d : BitVec 32) (which : _), k < 16 ∧ HostReady s h 0x15 1 1 ∧ checkEntries s (s.link h.tr).priv true [⟨pid
      gTMR k (shadowIdx which), d.extractLsb' 0 16⟩, ⟨pid gTMR k (shadowIdx which) + 1, d.extractLsb' 16 16⟩] = none ∧ liveCond ⟨h.tr, some h.tag,
      h.cyc, 0x15⟩ [⟨pid gTMR k (shadowIdx which), d.extractLsb' 0 16⟩, ⟨pid gTMR k (shadowIdx which) + 1, d.extractLsb' 16 16⟩] s = none) :=
   ⟨⟨up, hd, (1 : Word), by unfold HostReady; decide +kernel⟩,
    ⟨up, hd, (19523 : Word), 5, by unfold HostReady; decide +kernel⟩,
    ⟨up, hd, (1 : Word), by unfold HostReady; decide +kernel⟩,
    ⟨up, hd, (18516 : Word), by unfold HostReady; decide +kernel⟩,
    ⟨up, hd, (1 : Word), by unfold HostReady; decide +kernel⟩,
    ⟨up, hd, (1 : Word), by unfold HostReady; decide +kernel⟩,
    ⟨up, hd, (1 : Word), by unfold HostReady; decide +kernel⟩,
    ⟨up, hd, (1 : Word), by unfold HostReady; decide +kernel⟩,
    ⟨up, hd, (1 : Word), 1, by unfold HostReady; decide +kernel⟩,
    ⟨up, hd, (1 : Word), 1, by unfold HostReady; decide +kernel⟩,
    ⟨up, hd, (1 : Word), 1, by unfold HostReady; decide +kernel⟩,
    ⟨up, hd, (5 : BitVec 32), by unfold HostReady; decide +kernel⟩,
    ⟨up, hd, (1 : Word), 2, by unfold HostReady; decide +kernel⟩,
    ⟨up, hd, (0 : Word), 47, by unfold HostReady; decide +kernel⟩,
    ⟨up, hd, (1 : Word), by unfold HostReady; decide +kernel⟩,
    ⟨up, hd, (1 : Word), by unfold HostReady; decide +kernel⟩,
    ⟨up, hd, (1 : Word), by unfold HostReady; decide +kernel⟩,
    ⟨up, hd, (1 : Word), by unfold HostReady; decide +kernel⟩,
    ⟨up, hd, (1 : Word), (9000 : BitVec 64), by unfold HostReady; decide +kernel⟩,
    ⟨up, hd, 15, (5 : BitVec 32), by unfold HostReady; decide +kernel⟩,
    ⟨up, hd, 15, (5 : BitVec 32), TmrShadow.cmpB, by unfold HostReady; decide +kernel⟩⟩

/-- The hypotheses of HostControlRows can be met. -/
theorem test_HostControlRows_hyps :
    (∃ (s : State) (h : Hdr), HostReady s h 0x20 1 1 ∧ h.cyc < wdCycle s ∧ safetyRuns s = true) ∧
    (∃ (s : State) (h : Hdr), HostReady s h 0x20 1 1 ∧ (wdCycle s ≤ h.cyc ∨ safetyRuns s = false)) ∧
    (∃ (s : State) (h : Hdr), HostReady s h 0x20 1 1 ∧ s.jobs.safe.armed = true ∧ wdMissing s = 0 ∧ h.cyc < wdCycle s ∧ safetyRuns s = true ∧
      s.jobs.safe.fired = false ∧ wdCounts s = true ∧ 100 * par s gSAF 0 SAF.WD_OPEN ≤ s.jobs.safe.elapsed ∧ s.jobs.safe.elapsed < wdClose s) ∧
    (∃ (s : State) (h : Hdr), HostReady s h 0x20 1 1 ∧ s.jobs.safe.armed = true ∧ wdMissing s = 0 ∧ h.cyc < wdCycle s ∧ safetyRuns s = true ∧
      s.jobs.safe.fired = false ∧ wdCounts s = true ∧ par s gSAF 0 SAF.WD_EN = 1 ∧ s.jobs.safe.notEarly = false ∧ s.jobs.safe.elapsed < 100 * par s
      gSAF 0 SAF.WD_OPEN) ∧
    (∃ (s : State) (h : Hdr), HostReady s h 0x20 1 1 ∧ h.cyc < wdCycle s ∧ safetyRuns s = true ∧ s.jobs.safe.armed = false) ∧
    (∃ (s : State) (h : Hdr) (key : _), HostReady s h 0x20 1 1 ∧ h.cyc < wdCycle s ∧ safetyRuns s = true ∧ key ≠ 0x51A7 ∧ key ≠ 0xE48C) ∧
    (∃ (s : State) (h : Hdr) (k : _), HostReady s h 0x21 2 1 ∧ h.cyc < wdCycle s ∧ safetyRuns s = true ∧ k ≤ 15 ∧ bit (par s gSAF 0 SAF.WD_TASKMASK)
      k = true ∧ bit s.jobs.safe.seen k = false) ∧
    (∃ (s : State) (h : Hdr), HostReady s h 0x7E 1 1 ∧ s.ctl.state ≠ .halt) ∧
    (∃ (s : State) (h : Hdr), HostReady s h 0x7F 1 1) ∧
    (∃ (s : State) (h : Hdr) (x : _), HostReady s h 0x58 2 2 ∧ x < nPh s ∧ x < s.jobs.phases.length ∧ (s.phase x).st = .retired) ∧
    (∃ (s : State) (h : Hdr) (trig : _) (pre : _) (code : _) (mask : _), HostReady s h 0x42 2 1 ∧ trig ≤ 2 ∧ pre ≤ 100 ∧ (trig = 1 → code < 16) ∧
      mask ≠ 0 ∧ mask < 2 ^ 28 ∧ (∀ k ∈ bitsOf 28 mask, traceAbsent s k = false)) :=
   ⟨⟨up, hd, by unfold HostReady; decide +kernel⟩,
    ⟨up, (⟨.spi, 5, 3900⟩ : Hdr), by unfold HostReady; decide +kernel⟩,
    ⟨((up.modSafe (fun z => { z with armed := true, fired := false, elapsed := 500, seen := 3, fault := true })).setPar gSAF 0 SAF.WD_EN 1).setPar
      gSAF 0 SAF.WD_OPEN 5, hd, by unfold HostReady; decide +kernel⟩,
    ⟨((up.modSafe (fun z => { z with armed := true, fired := false, notEarly := false, elapsed := 499, seen := 0 })).setPar gSAF 0 SAF.WD_EN
      1).setPar gSAF 0 SAF.WD_OPEN 5, hd, by unfold HostReady; decide +kernel⟩,
    ⟨up.modSafe (fun z => { z with armed := false }), hd, by unfold HostReady; decide +kernel⟩,
    ⟨up, hd, 8, by unfold HostReady; decide +kernel⟩,
    ⟨(up.setPar gSAF 0 SAF.WD_TASKMASK 0x8000).modSafe (fun z => { z with seen := 4 }), hd, 15, by unfold HostReady; decide +kernel⟩,
    ⟨up, hd, by unfold HostReady; decide +kernel⟩,
    ⟨up, hd, by unfold HostReady; decide +kernel⟩,
    ⟨up.modPhase 1 (fun z => { z with st := .retired }), hd, 1, by unfold HostReady; decide +kernel⟩,
    ⟨up, hd, 1, 100, 15, 2^27, by unfold HostReady; decide +kernel⟩⟩

/-- The hypotheses of WrongConfirmAndTelemetryRules can be met. -/
theorem test_WrongConfirmAndTelemetryRules_hyps :
    (∃ (s : State) (h : Hdr) (c : Nat), HostReady s h 0x38 2 3 ∧ c ≠ 0x7E57) ∧
    (∃ (s : State) (h : Hdr) (c : Nat), HostReady s h 0x7E 1 1 ∧ c ≠ 0x4D52) ∧
    (∃ (s : State) (h : Hdr) (c : Nat), HostReady s h 0x7F 1 1 ∧ c ≠ 0x5253) ∧
    (∃ (s : State) (h : Hdr) (w : _), HostReady s h 0x41 2 0 ∧ s.ident.big = false ∧ w ≠ 0xFF) :=
   ⟨⟨up, hd, 1, by unfold HostReady; decide +kernel⟩,
    ⟨up, hd, 1, by unfold HostReady; decide +kernel⟩,
    ⟨up, hd, 1, by unfold HostReady; decide +kernel⟩,
    ⟨up.modIdent (fun z => { z with big := false }), hd, 0, by unfold HostReady; decide +kernel⟩⟩

/-- The hypotheses of WornPhaseRules can be met. -/
theorem test_WornPhaseRules_hyps :
    (∃ (s : State) (h : Hdr) (x : Nat), HostReady s h 0x58 2 2 ∧ x < nPh s ∧ (s.phase x).st = .worn) ∧
    (∃ (s : State) (h : Hdr) (x : Nat), HostReady s h 0x58 2 2 ∧ (s.phase x).st ≠ .worn ∧ (s.phase x).st ≠ .retired) ∧
    (∃ (s : State) (h : Hdr) (x : Nat), HostReady s h 0x5A 2 3 ∧ x < nPh s ∧ x < s.jobs.phases.length ∧ x < s.jobs.sched.ledger.length ∧ (s.phase
      x).st = .worn) ∧
    (∃ (s : State) (h : Hdr) (x : Nat), HostReady s h 0x5A 2 3 ∧ (s.phase x).st ≠ .worn) :=
   ⟨⟨up.modPhase 1 (fun z => { z with st := .worn }), hd, 1, by unfold HostReady; decide +kernel⟩,
    ⟨up.modPhase 1 (fun z => { z with st := .shed }), hd, 1, by unfold HostReady; decide +kernel⟩,
    ⟨up.modPhase 1 (fun z => { z with st := .worn }), hd, 1, by unfold HostReady; decide +kernel⟩,
    ⟨up.modPhase 1 (fun z => { z with st := .retired }), hd, 1, by unfold HostReady; decide +kernel⟩⟩

/-- The hypotheses of FrameAndOverrunRows can be met. -/
theorem test_FrameAndOverrunRows_hyps :
    (∃ (s : State), s.live = true ∧ s.jobs.frm.committed = true ∧ s.jobs.frm.fresh = false ∧ s.ctl.resetReq = none ∧ s.fleet.renumber = none) ∧
    (∃ (s : State) (j : _) (st : _), s.live = true ∧ s.jobs.frm.committed = false ∧ (s.slot j).cutNow = some st ∧ (s.slot j).counted = false) ∧
    (∃ (s : State) (j : _), s.live = true ∧ s.jobs.frm.committed = false ∧ j < nSlots s ∧ 3 ≤ (s.slot j).consec) ∧
    (∃ (s : State), s.live = true ∧ s.jobs.frm.committed = false ∧ s.jobs.frm.fresh = false) ∧
    (∃ (s : State), s.live = true ∧ s.jobs.frm.satTold = false ∧ 1000 ≤ s.jobs.frm.satRun) :=
   ⟨⟨((up.modCtl (fun z => { z with clockLost := false, powerFail := false, resetLow := false, resetReq := none })).modFrm (fun z =>
     { z with committed := true, fresh := false })).modFleet (fun z => { z with renumber := none }), by decide +kernel⟩,
    ⟨((up.modCtl (fun z => { z with clockLost := false, powerFail := false, resetLow := false })).modFrm (fun z =>
      { z with committed := false })).modSlot 47 (fun z => { z with cutNow := some 4, counted := false }), 47, 4, by decide +kernel⟩,
    ⟨((up.modCtl (fun z => { z with clockLost := false, powerFail := false, resetLow := false })).modFrm (fun z =>
      { z with committed := false })).modSlot 0 (fun z => { z with consec := 3 }), 0, by decide +kernel⟩,
    ⟨(up.modCtl (fun z => { z with clockLost := false, powerFail := false, resetLow := false })).modFrm (fun z =>
      { z with committed := false, fresh := false }), by decide +kernel⟩,
    ⟨(up.modCtl (fun z => { z with clockLost := false, powerFail := false, resetLow := false })).modFrm (fun z =>
      { z with satTold := false, satRun := 1000 }), by decide +kernel⟩⟩

/-- The hypotheses of StitchAndLaunchRows can be met. -/
theorem test_StitchAndLaunchRows_hyps :
    (∃ (s : State) (n : _) (x : Stitch) (rest : _), s.jobs.frm.running = true ∧ takeStitch (fun y => y.set == n && !y.checked && decide (y.eff ≤
      s.frame + 1)) s.host.stitches = some (x, rest) ∧ recheck s x.eff n x.entries = none) ∧
    (∃ (s : State) (n : _) (x : Stitch) (rest : _) (st : _) (id : _), s.jobs.frm.running = true ∧ takeStitch (fun y => y.set == n && !y.checked &&
      decide (y.eff ≤ s.frame + 1)) s.host.stitches = some (x, rest) ∧ recheck s x.eff n x.entries = some (st, id)) ∧
    (∃ (s : State) (n : _) (x : Stitch) (rest : _), s.jobs.frm.running = true ∧ takeStitch (fun y => (y.set == n && decide (y.eff ≤ s.swapFrame)) &&
      !y.checked) s.host.stitches = none ∧ takeStitch (fun y => (y.set == n && decide (y.eff ≤ s.swapFrame)) && y.checked) s.host.stitches = some
      (x, rest)) ∧
    (∃ (s : State), s.jobs.frm.running = true) ∧
    (∃ (s : State) (n : _) (x : Tide), s.jobs.frm.running = true ∧ tideAt s n = some x ∧ x.action = 0 ∧ x.passed = false ∧ x.frame ≤ s.frame + 1 ∧
      recheck s x.frame x.arg (s.host.sets.getD x.arg {}).entries = none) ∧
    (∃ (s : State) (n : _) (x : Tide) (st : _) (id : _), s.jobs.frm.running = true ∧ tideAt s n = some x ∧ x.action = 0 ∧ x.passed = false ∧ x.frame
      ≤ s.frame + 1 ∧ recheck s x.frame x.arg (s.host.sets.getD x.arg {}).entries = some (st, id)) ∧
    (∃ (s : State) (n : _) (x : Tide), s.jobs.frm.running = true ∧ tideAt s n = some x ∧ x.action = 0 ∧ x.passed = true ∧ x.frame ≤ s.swapFrame) ∧
    (∃ (s : State) (n : _) (x : Tide), s.jobs.frm.running = true ∧ tideAt s n = some x ∧ x.action = 1 ∧ x.frame < s.frame) ∧
    (∃ (s : State), s.live = true ∧ s.coreRuns = true ∧ s.host.dirty = true ∧ s.writer.busy = none ∧ (∀ a, s.host.cfgAt = some a → a + 1000000 ≤
      s.age)) :=
   ⟨⟨(({ (up.modFrm (fun z => { z with running := true })) with params := {} })).modHost (fun z =>
     { z with stitches := [(⟨1, [], 9999999, none, none, false, false, []⟩ : Stitch), (⟨3, [(pid gGLB 0 GLB.OPMODE, 0)], (up.frame + 1), some (.spi, some 5), none, false, false, []⟩ : Stitch)] }),
     3, (⟨3, [(pid gGLB 0 GLB.OPMODE, 0)], (up.frame + 1), some (.spi, some 5), none, false, false, []⟩ : Stitch), [(⟨1, [], 9999999, none, none,
     false, false, []⟩ : Stitch)], by decide +kernel⟩,
    ⟨(up.modFrm (fun z => { z with running := true })).modHost (fun z =>
      { z with stitches := [(⟨1, [], 9999999, none, none, false, false, []⟩ : Stitch), (⟨3, [(pid gLN 0 LN.PHASES, 0x3C)], (up.frame + 1), some (.spi, some 5), none, false, false, []⟩ : Stitch)] }),
      3, (⟨3, [(pid gLN 0 LN.PHASES, 0x3C)], (up.frame + 1), some (.spi, some 5), none, false, false, []⟩ : Stitch), [(⟨1, [], 9999999, none, none,
      false, false, []⟩ : Stitch)], ((recheck ((up.modFrm (fun z => { z with running := true })).modHost (fun z =>
      { z with stitches := [(⟨1, [], 9999999, none, none, false, false, []⟩ : Stitch), (⟨3, [(pid gLN 0 LN.PHASES, 0x3C)], (up.frame + 1), some (.spi, some 5), none, false, false, []⟩ : Stitch)] }))
      ((⟨3, [(pid gLN 0 LN.PHASES, 0x3C)], (up.frame + 1), some (.spi, some 5), none, false, false, []⟩ : Stitch)).eff 3 ((⟨3, [(pid gLN 0
      LN.PHASES, 0x3C)], (up.frame + 1), some (.spi, some 5), none, false, false, []⟩ : Stitch)).entries).getD (0,0)).1, ((recheck ((up.modFrm (fun
      z => { z with running := true })).modHost (fun z =>
      { z with stitches := [(⟨1, [], 9999999, none, none, false, false, []⟩ : Stitch), (⟨3, [(pid gLN 0 LN.PHASES, 0x3C)], (up.frame + 1), some (.spi, some 5), none, false, false, []⟩ : Stitch)] }))
      ((⟨3, [(pid gLN 0 LN.PHASES, 0x3C)], (up.frame + 1), some (.spi, some 5), none, false, false, []⟩ : Stitch)).eff 3 ((⟨3, [(pid gLN 0
      LN.PHASES, 0x3C)], (up.frame + 1), some (.spi, some 5), none, false, false, []⟩ : Stitch)).entries).getD (0,0)).2, by decide +kernel⟩,
    ⟨(up.modFrm (fun z => { z with running := true })).modHost (fun z =>
      { z with stitches := [(⟨1, [], 9999999, none, none, false, false, []⟩ : Stitch), (⟨3, [(pid gPH 3 1, 5), (pid gPH 4 1, 6)], up.swapFrame, some (.spi, some 5), none, true, false, []⟩ : Stitch)] }),
      3, (⟨3, [(pid gPH 3 1, 5), (pid gPH 4 1, 6)], up.swapFrame, some (.spi, some 5), none, true, false, []⟩ : Stitch), [(⟨1, [], 9999999, none,
      none, false, false, []⟩ : Stitch)], by decide +kernel⟩,
    ⟨(up.modFrm (fun z => { z with running := true })).modHost (fun z => { z with lives := [] }), by decide +kernel⟩,
    ⟨(({ (up.modFrm (fun z => { z with running := true })) with params := {} })).modHost (fun z =>
      { z with sets := [{}, {}, { entries := [(pid gGLB 0 GLB.OPMODE, 0)], heldBy := some 7 }, { entries := [(1,1)] }], tide := [(⟨4, 1, 0, 0, 0, 9999999, false⟩ : Tide), (⟨7, 0, 0, 0, 2, (up.frame + 1), false⟩ : Tide)] }),
      7, (⟨7, 0, 0, 0, 2, (up.frame + 1), false⟩ : Tide), by decide +kernel⟩,
    ⟨(up.modFrm (fun z => { z with running := true })).modHost (fun z =>
      { z with sets := [{}, {}, { entries := [(pid gLN 0 LN.PHASES, 0x3C)], heldBy := some 7 }, { entries := [(1,1)] }], tide := [(⟨4, 1, 0, 0, 0, 9999999, false⟩ : Tide), (⟨7, 0, 0, 0, 2, (up.frame + 1), false⟩ : Tide)] }),
      7, (⟨7, 0, 0, 0, 2, (up.frame + 1), false⟩ : Tide), ((recheck ((up.modFrm (fun z => { z with running := true })).modHost (fun z =>
      { z with sets := [{}, {}, { entries := [(pid gLN 0 LN.PHASES, 0x3C)], heldBy := some 7 }, { entries := [(1,1)] }], tide := [(⟨4, 1, 0, 0, 0, 9999999, false⟩ : Tide), (⟨7, 0, 0, 0, 2, (up.frame + 1), false⟩ : Tide)] }))
      ((⟨7, 0, 0, 0, 2, (up.frame + 1), false⟩ : Tide)).frame ((⟨7, 0, 0, 0, 2, (up.frame + 1), false⟩ : Tide)).arg (((up.modFrm (fun z =>
      { z with running := true })).modHost (fun z =>
      { z with sets := [{}, {}, { entries := [(pid gLN 0 LN.PHASES, 0x3C)], heldBy := some 7 }, { entries := [(1,1)] }], tide := [(⟨4, 1, 0, 0, 0, 9999999, false⟩ : Tide), (⟨7, 0, 0, 0, 2, (up.frame + 1), false⟩ : Tide)] })).host.sets.getD
      ((⟨7, 0, 0, 0, 2, (up.frame + 1), false⟩ : Tide)).arg {}).entries).getD (0,0)).1, ((recheck ((up.modFrm (fun z =>
      { z with running := true })).modHost (fun z =>
      { z with sets := [{}, {}, { entries := [(pid gLN 0 LN.PHASES, 0x3C)], heldBy := some 7 }, { entries := [(1,1)] }], tide := [(⟨4, 1, 0, 0, 0, 9999999, false⟩ : Tide), (⟨7, 0, 0, 0, 2, (up.frame + 1), false⟩ : Tide)] }))
      ((⟨7, 0, 0, 0, 2, (up.frame + 1), false⟩ : Tide)).frame ((⟨7, 0, 0, 0, 2, (up.frame + 1), false⟩ : Tide)).arg (((up.modFrm (fun z =>
      { z with running := true })).modHost (fun z =>
      { z with sets := [{}, {}, { entries := [(pid gLN 0 LN.PHASES, 0x3C)], heldBy := some 7 }, { entries := [(1,1)] }], tide := [(⟨4, 1, 0, 0, 0, 9999999, false⟩ : Tide), (⟨7, 0, 0, 0, 2, (up.frame + 1), false⟩ : Tide)] })).host.sets.getD
      ((⟨7, 0, 0, 0, 2, (up.frame + 1), false⟩ : Tide)).arg {}).entries).getD (0,0)).2, by decide +kernel⟩,
    ⟨(up.modFrm (fun z => { z with running := true })).modHost (fun z =>
      { z with sets := [{}, {}, { entries := [(pid gPH 3 1, 5), (pid gPH 4 1, 6)], heldBy := some 7 }, { entries := [(1,1)] }], tide := [(⟨4, 1, 0, 0, 0, 9999999, false⟩ : Tide), (⟨7, 0, 0, 0, 2, up.swapFrame, true⟩ : Tide)] }),
      7, (⟨7, 0, 0, 0, 2, up.swapFrame, true⟩ : Tide), by decide +kernel⟩,
    ⟨(up.modFrm (fun z => { z with running := true })).modHost (fun z =>
      { z with tide := [(⟨4, 1, 0, 0, 0, 9999999, false⟩ : Tide), (⟨7, 1, 0, 0, 2, (up.frame - 1), true⟩ : Tide)] }), 7, (⟨7, 1, 0, 0, 2, (up.frame
      - 1), true⟩ : Tide), by decide +kernel⟩,
    ⟨((up.modCtl (fun z => { z with clockLost := false, powerFail := false, resetLow := false })).modHost (fun z =>
      { z with dirty := true })).modWriter (fun z => { z with busy := none }), by decide +kernel⟩⟩

/-- The hypotheses of SensingRows can be met. -/
theorem test_SensingRows_hyps :
    (∃ (s : State) (f : Fresh) (tag : _) (a : _), s.host.fresh = [f] ∧ f.tag = some tag ∧ f.tr = .spi ∧ f.ready = some a ∧ a < s.age ∧ s.coreRuns =
      true ∧ s.live = true ∧ s.host.inner.replies = [] ∧ s.fleet.inner = []) ∧
    (∃ (s : State) (f : Fresh) (tag : _), s.host.fresh = [f] ∧ f.tag = some tag ∧ f.tr = .spi ∧ f.ready = none ∧ 4 ≤ f.plans ∧ s.coreRuns = true ∧
      s.live = true ∧ s.host.inner.replies = [] ∧ s.fleet.inner = []) ∧
    (∃ (s : State), 1000 ≤ s.jobs.sense.pressRun ∧ s.jobs.sense.pressed = false) ∧
    (∃ (s : State) (k : _), k < nTs s ∧ k < s.jobs.sense.pins.length ∧ (4 ≤ (s.pin k).bad ∨ (s.pin k).badHit.isSome = true) ∧ (s.pin k).faulted =
      false) ∧
    (∃ (s : State) (k : _), k < nTs s ∧ (s.pin k).faulted = true ∧ (100 ≤ (s.pin k).good ∨ (s.pin k).goodHit = true)) :=
   ⟨⟨((up.modHost (fun z => { z with fresh := [(⟨.spi, some 5, [pid gSNS 3 1, pid gSNS 3 2], [], 0, 0, some 50⟩ : Fresh)] })).modCtl (fun z =>
     { z with clockLost := false, powerFail := false, resetLow := false })).modFleet (fun z => { z with inner := [] }), (⟨.spi, some 5, [pid gSNS 3
     1, pid gSNS 3 2], [], 0, 0, some 50⟩ : Fresh), 5, 50, by decide +kernel⟩,
    ⟨((up.modHost (fun z => { z with fresh := [((⟨.spi, some 5, [pid gSNS 3 1, pid gSNS 3 2], [(3, 1)], 4, 0, none⟩ : Fresh))] })).modCtl (fun z =>
      { z with clockLost := false, powerFail := false, resetLow := false })).modFleet (fun z => { z with inner := [] }), (⟨.spi, some 5, [pid gSNS 3
      1, pid gSNS 3 2], [(3, 1)], 4, 0, none⟩ : Fresh), 5, by decide +kernel⟩,
    ⟨up.modSense (fun z => { z with pressRun := 1000, pressed := false }), by decide +kernel⟩,
    ⟨up.modPin 2 (fun z => { z with faulted := false, bad := 4, badHit := none }), 2, by decide +kernel⟩,
    ⟨up.modPin 2 (fun z => { z with faulted := true, good := 100, goodHit := false }), 2, by decide +kernel⟩⟩

/-- The hypotheses of LaneStateRows can be met. -/
theorem test_LaneStateRows_hyps :
    (∃ (s : State) (n : Nat), lnUsed s n = true ∧ (s.lane n).st = .qualify ∧ 100 ≤ (s.lane n).okRun) ∧
    (∃ (s : State) (n : Nat), lnUsed s n = true ∧ (s.lane n).st = .softstart ∧ (s.lane n).started = false ∧ par s gLN n LN.EN_LEAD ≤ (s.lane
      n).enFor.getD 0) ∧
    (∃ (s : State) (n : Nat), lnUsed s n = true ∧ (s.lane n).st = .softstart ∧ 100 ≤ (s.lane n).okRun) ∧
    (∃ (s : State) (n : Nat), lnUsed s n = true ∧ (s.lane n).st = .softstart ∧ par s gLN n LN.SS_TIMEOUT ≤ (s.lane n).inState) ∧
    (∃ (s : State) (n : Nat), lnUsed s n = true ∧ (s.lane n).st = .run ∧ par s gLN n LN.SLACK_EN ≠ 1 ∧ (s.lane n).u = 0 ∧ par s gLN n LN.IDLE_OFF ≤
      (s.lane n).idleRun) ∧
    (∃ (s : State) (n : Nat), lnUsed s n = true ∧ ((s.lane n).st = .run ∨ (s.lane n).st = .slack) ∧ 100 ≤ (s.lane n).ratioRun) ∧
    (∃ (s : State) (n : Nat), lnUsed s n = true ∧ (s.lane n).st = .rampdown ∧ (10 * absN (s.lane n).iMeas ≤ par s gLN n LN.I_RATED ∨ par s gLN n
      LN.RD_TIMEOUT ≤ (s.lane n).inState)) ∧
    (∃ (s : State) (n : Nat), lnUsed s n = true ∧ (s.lane n).st = .retry ∧ (s.lane n).retryLeft = 0 ∧ laneHeld s s.jobs.safe n = false) ∧
    (∃ (s : State) (n : Nat), lnUsed s n = true ∧ ((s.lane n).st = .run ∨ (s.lane n).st = .slack) ∧ 6000000 ≤ (s.lane n).upRun) :=
   ⟨⟨up.modLane 0 (fun z => { z with st := .qualify, okRun := 100 }), 0, by decide +kernel⟩,
    ⟨up.modLane 0 (fun z => { z with st := .softstart, started := false, enFor := some (par up gLN 0 LN.EN_LEAD) }), 0, by decide +kernel⟩,
    ⟨up.modLane 0 (fun z => { z with st := .softstart, okRun := 100 }), 0, by decide +kernel⟩,
    ⟨up.modLane 0 (fun z => { z with st := .softstart, inState := par up gLN 0 LN.SS_TIMEOUT }), 0, by decide +kernel⟩,
    ⟨up.modLane 0 (fun z => { z with st := .run, u := 0, idleRun := par up gLN 0 LN.IDLE_OFF }), 0, by decide +kernel⟩,
    ⟨up.modLane 0 (fun z => { z with ratioRun := 100, st := .slack }), 0, by decide +kernel⟩,
    ⟨up.modLane 0 (fun z => { z with st := .rampdown, iMeas := 0 }), 0, by decide +kernel⟩,
    ⟨up.modLane 0 (fun z => { z with st := .retry, retryLeft := 0 }), 0, by decide +kernel⟩,
    ⟨up.modLane 0 (fun z => { z with upRun := 6000000, st := .slack }), 0, by decide +kernel⟩⟩

/-- The hypotheses of BreakwaterStopRows can be met. -/
theorem test_BreakwaterStopRows_hyps :
    (∃ (s : State) (n : Nat) (v : Int), lnUsed s n = true ∧ s.mods.length = 16 ∧ s.jobs.phases.length = 16 ∧ v ≤ bwVov s n ∧ absN (v - (s.lane
      n).bwMid) ≤ 100 * par s gLN n LN.BW_WIN) ∧
    (∃ (s : State) (n : Nat) (v : Int), lnUsed s n = true ∧ s.mods.length = 16 ∧ s.jobs.phases.length = 16 ∧ (bwVov s n < v ∨ 100 * par s gLN n
      LN.BW_WIN < absN (v - (s.lane n).bwMid)) ∧ ((s.lane n).st = .run ∨ (s.lane n).st = .slack ∨ (s.lane n).st = .rampdown)) ∧
    (∃ (s : State) (n : Nat) (cause : Nat) (v : Int), lnUsed s n = true ∧ s.mods.length = 16 ∧ s.jobs.phases.length = 16 ∧ ((s.lane n).st =
      .softstart ∨ (s.lane n).st = .run ∨ (s.lane n).st = .slack) ∧ ((cause = 1 ∧ ∃ r, (s.lane n).uvRef = some r ∧ v < r - 100 * parI s gLN n
      LN.SURGE_V) ∨ (cause = 2 ∧ par s gLN n LN.SURGE_DIDT < absN v))) ∧
    (∃ (s : State) (n : Nat) (v : Int), lnUsed s n = true ∧ s.mods.length = 16 ∧ s.jobs.phases.length = 16 ∧ absN v ≤ par s gLN n LN.SURGE_DIDT) :=
   ⟨⟨up.modLane 0 (fun z => { z with bwMid := 0 }), 0, (up.lane 0).bwMid, by decide +kernel⟩,
    ⟨up.modLane 0 (fun z => { z with st := .run }), 0, bwVov up 0 + 1, by decide +kernel⟩,
    ⟨up.modLane 0 (fun z => { z with st := .run, uvRef := some 20000 }), 0, 1, -(200000 : Int), by decide +kernel⟩,
    ⟨up, 0, (0 : Int), by decide +kernel⟩⟩

/-- The hypotheses of PhaseRows can be met. -/
theorem test_PhaseRows_hyps :
    (∃ (s : State) (x : Nat) (n : Nat) (c : Nat) (cur : Int) (neg : Bool), s.mods.length = 16 ∧ s.jobs.phases.length = 16 ∧
      s.jobs.sched.ledger.length = 16 ∧ x < 16 ∧ laneOfPhase s x = some n ∧ (s.mod x).switching = true ∧ c < (s.mod x).period ∧ (10 * parI s gPH x
      PH.BW_IPK_POS < cur ∨ cur < -(10 * parI s gPH x PH.BW_IPK_NEG)) ∧ neg = decide (cur < -(10 * parI s gPH x PH.BW_IPK_NEG))) ∧
    (∃ (s : State) (x : Nat) (cur : Int), s.mods.length = 16 ∧ s.jobs.phases.length = 16 ∧ s.jobs.sched.ledger.length = 16 ∧ -(10 * parI s gPH x
      PH.BW_IPK_NEG) ≤ cur ∧ cur ≤ 10 * parI s gPH x PH.BW_IPK_POS) ∧
    (∃ (s : State) (x : Nat) (v : Nat) (n : _), s.mods.length = 16 ∧ s.jobs.phases.length = 16 ∧ s.jobs.sched.ledger.length = 16 ∧ 100 * par s gSRC
      4 SRC.LBW_VOV < v ∧ x < 16 ∧ laneOfPhase s x = some n ∧ lanePositive s n = true ∧ (s.mod x).switching = true) ∧
    (∃ (s : State) (v : _), s.mods.length = 16 ∧ s.jobs.phases.length = 16 ∧ s.jobs.sched.ledger.length = 16 ∧ 100 * v < 99 * (100 * par s gSRC 4
      SRC.LBW_VOV)) ∧
    (∃ (s : State) (x : Nat) (k : _), s.mods.length = 16 ∧ s.jobs.phases.length = 16 ∧ s.jobs.sched.ledger.length = 16 ∧ x < nPh s ∧ (s.mod
      x).failed = some k ∧ (s.mod x).failedAt < s.age ∧ ((s.phase x).st = .retired ∨ (s.phase x).st = .worn)) ∧
    (∃ (s : State) (x : Nat) (k : Nat) (i : Int), s.mods.length = 16 ∧ s.jobs.phases.length = 16 ∧ s.jobs.sched.ledger.length = 16 ∧ x < 16 ∧
      (s.phase x).shedding = some k ∧ (k = 0 ∨ (k = 1 ∧ 50 * (10 * absN i) ≤ 100 * par s gPH x PH.I_LIMIT)) ∧ (s.phase x).st = .active) :=
   ⟨⟨up.modMod 0 (fun z => { z with switching := true, period := 200, hiWin := some (0, 90), loWin := some (2, 80) }), 0, 0, 5, (1000000 : Int),
     false, by decide +kernel⟩,
    ⟨up, 0, (0 : Int), by decide +kernel⟩,
    ⟨(up.modMod 0 (fun z => { z with switching := true, sample := 2048 })).modPhase 0 (fun z => { z with st := .active }), 0, (100 * par up gSRC 4
      SRC.LBW_VOV + 1 : Nat), 0, by decide +kernel⟩,
    ⟨up, 0, by decide +kernel⟩,
    ⟨(up.modMod 0 (fun z => { z with failed := some 2 })).modPhase 0 (fun z => { z with st := .retired }), 0, 2, by decide +kernel⟩,
    ⟨up.modPhase 0 (fun z => { z with shedding := some 0, st := .active }), 0, 0, (5 : Int), by decide +kernel⟩⟩

/-- The hypotheses of CarrierCycleRow can be met. -/
theorem test_CarrierCycleRow_hyps :
    (∃ (s : State) (x : Nat) (n : _), s.mods.length = 16 ∧ s.jobs.phases.length = 16 ∧ s.jobs.sched.ledger.length = 16 ∧ laneOfPhase s x = some n ∧
      x < nPh s ∧ (s.phase x).st = .shed ∧ (s.mod x).switching = false ∧ (s.mod x).failed = none ∧ (s.mod x).pend.on = true) ∧
    (∃ (s : State) (x : Nat) (c : CycleIn) (n : _) (k : _), s.mods.length = 16 ∧ s.jobs.phases.length = 16 ∧ s.jobs.sched.ledger.length = 16 ∧
      laneOfPhase s x = some n ∧ x < nPh s ∧ (s.phase x).st = .active ∧ (s.mod x).switching = true ∧ (s.mod x).failed = none ∧ 32 ≤ (s.mod
      x).sinceOn ∧ 32 ≤ (s.mod x).sinceStep ∧ (s.mod x).limited = false ∧ (s.mod x).counts = [0, 63, k, 0] ∧ satCode (cycSelected c (parS s gPH x
      PH.SAMPLE_SHIFT)) = true) ∧
    (∃ (s : State) (x : Nat), s.mods.length = 16 ∧ s.jobs.phases.length = 16 ∧ s.jobs.sched.ledger.length = 16 ∧ x < nPh s ∧ ((laneOfPhase s x =
      none ∧ (s.mod x).switching = false) ∨ (∃ n, laneOfPhase s x = some n) ∧ ((s.phase x).st = .retired ∨ (s.phase x).st = .worn))) ∧
    (∃ (s : State) (x : Nat), s.mods.length = 16 ∧ s.jobs.phases.length = 16 ∧ s.jobs.sched.ledger.length = 16 ∧ x < nPh s ∧ laneOfPhase s x = none
      ∧ (s.mod x).switching = true) ∧
    (∃ (s : State) (x : Nat), s.mods.length = 16 ∧ s.jobs.phases.length = 16 ∧ s.jobs.sched.ledger.length = 16 ∧ nPh s ≤ x) :=
   ⟨⟨((up.modPhase 0 (fun z => { z with st := .shed })).modMod 0 (fun z =>
     { z with switching := false, failed := none, pend := { on := true, dff := 77, mode := 0 } })).modLane 0 (fun z => { z with cotLast := none }),
     0, 0, by decide +kernel⟩,
    ⟨(up.modPhase 0 (fun z => { z with st := .active })).modMod 0 (fun z =>
      { z with switching := true, failed := none, sinceOn := 32, sinceStep := 32, limited := false, counts := [0, 63, 3, 0] }), 0, (⟨[2047, 2047,
      2047], 1, []⟩ : CycleIn), 0, 3, by decide +kernel⟩,
    ⟨up, 9, by decide +kernel, by decide +kernel, by decide +kernel, by decide +kernel, .inl (by decide +kernel)⟩,
    ⟨up.modMod 9 (fun z => { z with switching := true }), 9, by decide +kernel⟩,
    ⟨up, 16, by decide +kernel⟩⟩

/-- The hypotheses of SchedulerPlanRows can be met. -/
theorem test_SchedulerPlanRows_hyps :
    (∃ (s : State) (n : Nat) (z : _), n < s.jobs.lanes.length ∧ lnUsed s n = true ∧ laneDrives (s.lane n) = true ∧ ((s.lane n).rotZ = some z ∨
      (s.lane n).rotZ = none ∧ (s.lane n).wantShed = true ∧ (ranked s n (planSet s n)).getLast? = some z) ∧ shedAllowed s n = true ∧ 1 < (planSet s
      n).length) ∧
    (∃ (s : State) (n : Nat) (y : _) (z : _), n < s.jobs.lanes.length ∧ lnUsed s n = true ∧ (s.lane n).st = .run ∧ (s.lane n).rotZ = none ∧ (s.lane
      n).rotFor = none ∧ shedAllowed s n = true ∧ ((ranked s n (soundPhases s n)).filter fun x => !(planSet s n).contains x).head? = some y ∧
      (ranked s n (planSet s n)).getLast? = some z ∧ (decide232 s n).1 = (planSet s n).length ∧ (tjOf s y).isSome = true ∧ (tjOf s z).isSome = true
      ∧ rankKey s n (soundPhases s n) y < rankKey s n (soundPhases s n) z - 10 * parI s gSCH n SCH.ROT_HYST * rankScale s (soundPhases s n)) ∧
    (∃ (s : State) (n : Nat), n < s.jobs.lanes.length ∧ (s.lane n).shedBlock ≠ 0 ∧ 10000 ≤ (s.lane n).surgeFor.getD 0) ∧
    (∃ (s : State) (n : Nat) (k : _) (p : _), n < s.jobs.lanes.length ∧ lnUsed s n = true ∧ (s.lane n).probeGo = true ∧ (s.lane n).st = .run ∧
      (s.lane n).probe = none ∧ probeOk s n = true ∧ nextProbe s n 8 (s.lane n).probeKind = some (k, p)) ∧
    (∃ (s : State) (n : Nat), n < s.jobs.lanes.length ∧ (s.lane n).probeGo = true ∧ probeOk s n = false) ∧
    (∃ (s : State) (n : Nat) (p : Probe), n < s.jobs.lanes.length ∧ (s.lane n).probe = some p ∧ (s.lane n).winN = 0 ∧ p.n = 20 ∧ 20 * (((mapEntry s
      p.base.entry).loss : Int) * 15625 * 2 ^ 24 + powerIn (s.lane n) * 2 ^ 24 / 500) < p.sum) ∧
    (∃ (s : State) (n : Nat) (p : Probe), n < s.jobs.lanes.length ∧ (s.lane n).probe = some p ∧ par s gSCH n SCH.SETTLE + par s gSCH n
      SCH.LEARN_FRAMES ≤ p.age ∧ 0 < p.n) :=
   ⟨⟨((up.modLane 0 (fun z =>
     { z with plan := { mask := 0x3 }, surgeFor := none, shedFor := none, probe := none, st := .run, u := 3000, rotZ := some 1 })).modPhase 0 (fun z
     => { z with st := .active, shedding := none })).modPhase 1 (fun z => { z with st := .active, shedding := none }), 0, 1, by decide +kernel⟩,
    ⟨(((up.modLane 0 (fun z =>
      { z with plan := { mask := 0x1 }, surgeFor := none, shedFor := none, probe := none, st := .run, u := 100, rotZ := none, rotFor := none })).modPhase
      0 (fun z => { z with st := .active, shedding := none })).modPhase 1 (fun z => { z with st := .shed, shedding := none })).modSched (fun z =>
      { z with therm := (List.replicate 16 { tj := some 3000 }).set 0 { tj := some 9000 } }), 0, 1, 0, by decide +kernel⟩,
    ⟨up.modLane 0 (fun z => { z with shedBlock := 10000, surgeFor := some 10000 }), 0, by decide +kernel⟩,
    ⟨(((((up.modLane 0 (fun z =>
      { z with plan := { mask := 0x3 }, surgeFor := none, shedFor := none, probe := none, st := .run, u := 3000, probeGo := true, steady := 100000, probeFor := none })).modPhase
      0 (fun z => { z with st := .active, shedding := none })).modPhase 1 (fun z => { z with st := .active, shedding := none })).setPar gSCH 0
      SCH.PROBE_EN 1).modSched (fun z => { z with therm := List.replicate 16 { tj := some 3000 } })).modSense (fun z =>
      { z with pins := List.replicate 8 { temp := some 30 } }), 0, ((nextProbe ((((((up.modLane 0 (fun z =>
      { z with plan := { mask := 0x3 }, surgeFor := none, shedFor := none, probe := none, st := .run, u := 3000, probeGo := true, steady := 100000, probeFor := none })).modPhase
      0 (fun z => { z with st := .active, shedding := none })).modPhase 1 (fun z => { z with st := .active, shedding := none })).setPar gSCH 0
      SCH.PROBE_EN 1).modSched (fun z => { z with therm := List.replicate 16 { tj := some 3000 } })).modSense (fun z =>
      { z with pins := List.replicate 8 { temp := some 30 } })) 0 8 (((((((up.modLane 0 (fun z =>
      { z with plan := { mask := 0x3 }, surgeFor := none, shedFor := none, probe := none, st := .run, u := 3000, probeGo := true, steady := 100000, probeFor := none })).modPhase
      0 (fun z => { z with st := .active, shedding := none })).modPhase 1 (fun z => { z with st := .active, shedding := none })).setPar gSCH 0
      SCH.PROBE_EN 1).modSched (fun z => { z with therm := List.replicate 16 { tj := some 3000 } })).modSense (fun z =>
      { z with pins := List.replicate 8 { temp := some 30 } })).lane 0).probeKind).getD (0,{})).1, ((nextProbe ((((((up.modLane 0 (fun z =>
      { z with plan := { mask := 0x3 }, surgeFor := none, shedFor := none, probe := none, st := .run, u := 3000, probeGo := true, steady := 100000, probeFor := none })).modPhase
      0 (fun z => { z with st := .active, shedding := none })).modPhase 1 (fun z => { z with st := .active, shedding := none })).setPar gSCH 0
      SCH.PROBE_EN 1).modSched (fun z => { z with therm := List.replicate 16 { tj := some 3000 } })).modSense (fun z =>
      { z with pins := List.replicate 8 { temp := some 30 } })) 0 8 (((((((up.modLane 0 (fun z =>
      { z with plan := { mask := 0x3 }, surgeFor := none, shedFor := none, probe := none, st := .run, u := 3000, probeGo := true, steady := 100000, probeFor := none })).modPhase
      0 (fun z => { z with st := .active, shedding := none })).modPhase 1 (fun z => { z with st := .active, shedding := none })).setPar gSCH 0
      SCH.PROBE_EN 1).modSched (fun z => { z with therm := List.replicate 16 { tj := some 3000 } })).modSense (fun z =>
      { z with pins := List.replicate 8 { temp := some 30 } })).lane 0).probeKind).getD (0,{})).2, by decide +kernel⟩,
    ⟨up.modLane 0 (fun z => { z with probeGo := true }), 0, by decide +kernel⟩,
    ⟨up.modLane 0 (fun z => { z with probe := some (⟨3, { mask := 3 }, { mask := 1, freq := 50 }, 100000, 2^60, 20, false⟩ : Probe), winN := 0 }),
      0, (⟨3, { mask := 3 }, { mask := 1, freq := 50 }, 100000, 2^60, 20, false⟩ : Probe), by decide +kernel⟩,
    ⟨up.modLane 0 (fun z => { z with probe := some (⟨3, { mask := 3 }, { mask := 1, freq := 50 }, 100000, 2^60, 20, false⟩ : Probe) }), 0, (⟨3,
      { mask := 3 }, { mask := 1, freq := 50 }, 100000, 2^60, 20, false⟩ : Probe), by decide +kernel⟩⟩

/-- The hypotheses of LearningWindowRow can be met. -/
theorem test_LearningWindowRow_hyps :
    ∃ (s : State) (n : Nat) (i : Nat) (o : Nat) (L : Int) (M : Int) (p : Plan) (e : MapEnt), n < s.jobs.lanes.length ∧ lnUsed s n = true ∧ (s.lane
      n).winDone = some (i, L, p) ∧ e = mapEntry s i ∧ o = i - baseOf (laneSigs s) n ∧ M = lModel s n (o / 768 + 1) (o % 768 / 192) (o % 24) :=
   ⟨up.modLane 0 (fun z => { z with winDone := some (2, ((0 : Int)), (({ freq := 33, dtr := 4, dtf := 5 } : Plan))), pend := none }), 0, 2, 2, (0 :
     Int), (lModel up 0 1 0 2 : Int), ({ freq := 33, dtr := 4, dtf := 5 } : Plan), mapEntry up 2, by decide +kernel⟩

/-- The hypotheses of LedgerAndMapWriteRows can be met. -/
theorem test_LedgerAndMapWriteRows_hyps :
    (∃ (s : State) (d : _), s.flash.banks.length = 2 ∧ s.flash.bank < 2 ∧ s.clocked = true ∧ s.writer.busy = some 1 ∧ s.writer.flushDue = some d ∧
      s.flash.enSects.length = 2 ∧ s.flash.enSect < 2) ∧
    (∃ (s : State) (d : _) (g : _), s.flash.banks.length = 2 ∧ s.flash.bank < 2 ∧ s.clocked = true ∧ s.writer.busy = some 2 ∧ s.writer.persDue =
      some d ∧ g = (s.jobs.sched.gen + 1) % 2 ^ 32) ∧
    (∃ (s : State) (x : _) (k : _), s.flash.banks.length = 2 ∧ s.flash.bank < 2 ∧ s.clocked = true ∧ s.writer.busy = none ∧ (x, k) ∈
      s.writer.retJobs) ∧
    (∃ (s : State), s.flash.banks.length = 2 ∧ s.flash.bank < 2 ∧ s.writer.busy ≠ none) ∧
    (∃ (s : State) (d : _), s.flash.banks.length = 2 ∧ s.flash.bank < 2 ∧ s.writer.flushDue = some d ∧ 60000000 ≤ d ∧ s.writer.lateF = false) ∧
    (∃ (s : State) (d : _), s.flash.banks.length = 2 ∧ s.flash.bank < 2 ∧ s.writer.persDue = some d ∧ 60000000 ≤ d ∧ s.writer.lateP = false) ∧
    (∃ (s : State) (k : _), s.flash.banks.length = 2 ∧ s.flash.bank < 2 ∧ s.writer.busy = some k ∧ k ≠ 4 ∧ k ≠ 8 ∧ s.fw = none) ∧
    (∃ (s : State) (k : _) (f : FwSession) (j : _), s.flash.banks.length = 2 ∧ s.flash.bank < 2 ∧ s.writer.busy = some k ∧ k ≠ 4 ∧ k ≠ 8 ∧ s.fw =
      some f ∧ s.writer.redo = some j ∧ (j = 1 ∨ j = 2)) ∧
    (∃ (s : State) (x : _) (T : Int), s.flash.banks.length = 2 ∧ s.flash.bank < 2 ∧ s.live = true ∧ s.frame % 100 = 0 ∧ (s.slot (slotFor s 12
      0)).cutNow = none ∧ x < nPh s ∧ s.jobs.sched.therm.length = 16 ∧ s.jobs.sched.ledger.length = 16 ∧ tjOf s x = some T) :=
   ⟨⟨(up.modFlash (fun z => { z with banks := [[], []], bank := 1, enSects := [[], []], enSect := 1 })).modWriter (fun z =>
     { z with busy := some 1, flushDue := some 1 }), 1, by decide +kernel⟩,
    ⟨(up.modFlash (fun z => { z with banks := [[], []], bank := 1, enSects := [[], []], enSect := 1 })).modWriter (fun z =>
      { z with busy := some 2, persDue := some 1 }), 1, (((up.modFlash (fun z =>
      { z with banks := [[], []], bank := 1, enSects := [[], []], enSect := 1 })).modWriter (fun z =>
      { z with busy := some 2, persDue := some 1 })).jobs.sched.gen + 1) % 2 ^ 32, by decide +kernel⟩,
    ⟨(up.modFlash (fun z => { z with banks := [[], []], bank := 1, enSects := [[], []], enSect := 1 })).modWriter (fun z =>
      { z with busy := none, retJobs := [(2, 0), (1, 3), (2, 5)] }), 2, 5, by decide +kernel⟩,
    ⟨(up.modFlash (fun z => { z with banks := [[], []], bank := 1, enSects := [[], []], enSect := 1 })).modWriter (fun z =>
      { z with retJobs := [(1, 3)], busy := some 2 }), by decide +kernel⟩,
    ⟨(up.modFlash (fun z => { z with banks := [[], []], bank := 1, enSects := [[], []], enSect := 1 })).modWriter (fun z =>
      { z with flushDue := some 60000000, lateF := false }), 60000000, by decide +kernel⟩,
    ⟨(up.modFlash (fun z => { z with banks := [[], []], bank := 1, enSects := [[], []], enSect := 1 })).modWriter (fun z =>
      { z with persDue := some 60000000, lateP := false }), 60000000, by decide +kernel⟩,
    ⟨({ ((up.modFlash (fun z => { z with banks := [[], []], bank := 1, enSects := [[], []], enSect := 1 })).modWriter (fun z => { z with busy := some 3 })) with fw := none }),
      3, by decide +kernel⟩,
    ⟨({ ((up.modFlash (fun z => { z with banks := [[], []], bank := 1, enSects := [[], []], enSect := 1 })).modWriter (fun z => { z with busy := some 3, redo := some 1 })) with fw := some (⟨.spi, 1, 300, 9, [], 0, [], 50, false, true⟩ : FwSession) }),
      3, (⟨.spi, 1, 300, 9, [], 0, [], 50, false, true⟩ : FwSession), 1, by decide +kernel⟩,
    ⟨((((up.modFlash (fun z => { z with banks := [[], []], bank := 1, enSects := [[], []], enSect := 1 })).modFrm (fun z =>
      { z with frame := 700 })).modCtl (fun z => { z with clockLost := false, powerFail := false, resetLow := false })).modSlot (slotFor up 12 0)
      (fun z => { z with cutNow := none })).modSched (fun z => { z with therm := List.replicate 16 { tj := some 3000 }, ledger := rep 16 {} }), 7,
      (3000 : Int), by decide +kernel⟩⟩

/-- The hypotheses of SourcePortRows can be met. -/
theorem test_SourcePortRows_hyps :
    (∃ (s : State) (n : Nat), n < nIn s ∧ (s.src n).st = .qualify ∧ par s gSRC n SRC.QUAL_FRAMES ≤ (s.src n).qual ∧ (s.src n).vHist ≠ [] ∧ (srcKind
      s n = 1 → ocvCheck s n = true)) ∧
    (∃ (s : State) (n : Nat), n < nIn s ∧ (s.src n).st = .qualify ∧ par s gSRC n SRC.QUAL_FRAMES ≤ (s.src n).qual ∧ (s.src n).vHist ≠ [] ∧ srcKind s
      n = 1 ∧ ocvCheck s n = false) ∧
    (∃ (s : State) (n : Nat), n < nIn s ∧ (s.src n).st = .connect ∧ par s gSRC n SRC.SW_SETTLE ≤ (s.src n).conFor ∧ srcIn s n = true) ∧
    (∃ (s : State) (n : Nat), n < nIn s ∧ (s.src n).st = .ready ∧ 0 < (s.src n).lossRun ∧ par s gSRC n SRC.LOSS_FRAMES ≤ (s.src n).lossRun) ∧
    (∃ (s : State) (n : Nat), n < nIn s ∧ (s.src n).st = .ready ∧ srcKind s n = 1 ∧ 0 < (s.src n).duskRun ∧ par s gSRC n SRC.DUSK_FRAMES ≤ (s.src
      n).duskRun) :=
   ⟨⟨(up.modSrc 1 (fun z => { z with st := .qualify, qual := par up gSRC 1 SRC.QUAL_FRAMES, vHist := [30000, 30000] })).setPar gSRC 1 SRC.VOC_MIN
     100, 1, by decide +kernel⟩,
    ⟨((up.modSrc 0 (fun z => { z with st := .qualify, qual := par up gSRC 0 SRC.QUAL_FRAMES, vHist := [30000, 30000] })).setPar gSRC 0 SRC.KIND
      1).setPar gSRC 0 SRC.VOC_MIN 900, 0, by decide +kernel⟩,
    ⟨(((up.modSrc 1 (fun z => { z with st := .connect, conFor := par up gSRC 1 SRC.SW_SETTLE })).setPar gSRC 1 SRC.V_MIN 0).setPar gSRC 1 SRC.V_MAX
      600).withVal 1 30000, 1, by decide +kernel⟩,
    ⟨up.modSrc 1 (fun z => { z with st := .ready, lossRun := par up gSRC 1 SRC.LOSS_FRAMES }), 1, by decide +kernel⟩,
    ⟨(up.modSrc 0 (fun z => { z with st := .ready, duskRun := par up gSRC 0 SRC.DUSK_FRAMES })).setPar gSRC 0 SRC.KIND 1, 0, by decide +kernel⟩⟩

/-- The hypotheses of MpptAndSearchRows can be met. -/
theorem test_MpptAndSearchRows_hyps :
    (∃ (s : State) (n : Nat), n < nIn s ∧ n < s.jobs.srcs.length ∧ srcKind s n = 1 ∧ srcRuns s n = true ∧ (s.src n).track = true ∧ (s.src n).sweep =
      none ∧ par s gSRC n SRC.MPPT_PERIOD ≤ (s.src n).perAge ∧ 0 < (s.src n).nP ∧ (s.src n).pLast = none) ∧
    (∃ (s : State) (n : Nat) (q : _), n < nIn s ∧ n < s.jobs.srcs.length ∧ srcKind s n = 1 ∧ srcRuns s n = true ∧ (s.src n).track = true ∧ (s.src
      n).sweep = none ∧ par s gSRC n SRC.MPPT_PERIOD ≤ (s.src n).perAge ∧ 0 < (s.src n).nP ∧ (s.src n).pLast = some q ∧ srcHolds s n = false ∧
      (s.src n).curtail = true) ∧
    (∃ (s : State) (n : Nat) (q : _), n < nIn s ∧ n < s.jobs.srcs.length ∧ srcKind s n = 1 ∧ srcRuns s n = true ∧ (s.src n).track = true ∧ (s.src
      n).sweep = none ∧ par s gSRC n SRC.MPPT_PERIOD ≤ (s.src n).perAge ∧ 0 < (s.src n).nP ∧ (s.src n).pLast = some q ∧ srcHolds s n = false ∧
      (s.src n).curtail = false ∧ (s.src n).nClamp ≠ (s.src n).nV) ∧
    (∃ (s : State) (n : Nat) (w : Sweep), n < nIn s ∧ n < s.jobs.srcs.length ∧ (s.src n).sweep = some w ∧ w.left = 0 ∧ w.k + 1 < par s gSRC n
      SRC.SWEEP_POINTS) ∧
    (∃ (s : State) (n : Nat) (w : Sweep), n < nIn s ∧ n < s.jobs.srcs.length ∧ (s.src n).sweep = some w ∧ w.left = 0 ∧ par s gSRC n SRC.SWEEP_POINTS
      ≤ w.k + 1) ∧
    (∃ (s : State) (n : Nat), n < nIn s ∧ n < s.jobs.srcs.length ∧ srcKind s n = 1 ∧ par s gSRC n SRC.SWEEP_INTERVAL ≠ 0 ∧ (s.src n).sweep = none ∧
      par s gSRC n SRC.SWEEP_INTERVAL ≤ (s.src n).sweepFor.getD 0) ∧
    (∃ (s : State) (n : Nat), n < nIn s ∧ n < s.jobs.srcs.length ∧ srcKind s n = 2 ∧ (s.src n).icsOn = true ∧ par s gSRC n SRC.ICS_MODE ≠ 0 ∧ 0 <
      (s.src n).icsAge ∧ par s gSRC n SRC.ICS_PERIOD ≤ (s.src n).icsAge ∧ (s.src n).icsSumV < 100 * parI s gSRC n SRC.V_MIN * (s.src n).icsAge) :=
   ⟨⟨((up.setPar gSRC 0 SRC.KIND 1).modSrc 0 (fun z =>
     { z with track := true, sweep := none, perAge := par up gSRC 0 SRC.MPPT_PERIOD, nP := 1, pLast := none })).modLane 0 (fun z =>
     { z with st := .run }), 0, by decide +kernel⟩,
    ⟨((up.setPar gSRC 0 SRC.KIND 1).modSrc 0 (fun z =>
      { z with track := true, sweep := none, perAge := par up gSRC 0 SRC.MPPT_PERIOD, nP := 1, pLast := some ((5:Int)), curtail := true })).modLane
      0 (fun z => { z with st := .run }), 0, (5:Int), by decide +kernel⟩,
    ⟨((up.setPar gSRC 0 SRC.KIND 1).modSrc 0 (fun z =>
      { z with track := true, sweep := none, perAge := par up gSRC 0 SRC.MPPT_PERIOD, nP := 1, pLast := some ((5:Int)), curtail := false, nV := 10, sumP := 4000 })).modLane
      0 (fun z => { z with st := .run }), 0, (5:Int), by decide +kernel⟩,
    ⟨(up.modSrc 0 (fun z => { z with sweep := some (⟨3, 0, 30000, 9000, [5, 6], 20000, [7, 8]⟩ : Sweep) })).setPar gSRC 0 SRC.SWEEP_POINTS 9, 0,
      (⟨3, 0, 30000, 9000, [5, 6], 20000, [7, 8]⟩ : Sweep), by decide +kernel⟩,
    ⟨(up.modSrc 0 (fun z => { z with sweep := some (⟨3, 0, 30000, 9000, [5, 6], 20000, [7, 8]⟩ : Sweep) })).setPar gSRC 0 SRC.SWEEP_POINTS 4, 0,
      (⟨3, 0, 30000, 9000, [5, 6], 20000, [7, 8]⟩ : Sweep), by decide +kernel⟩,
    ⟨((up.setPar gSRC 0 SRC.KIND 1).setPar gSRC 0 SRC.SWEEP_INTERVAL 1).modSrc 0 (fun z =>
      { z with sweep := none, sweepFor := some (par up gSRC 0 SRC.SWEEP_INTERVAL) }), 0, by decide +kernel⟩,
    ⟨(((up.setPar gSRC 1 SRC.KIND 2).modSrc 1 (fun z =>
      { z with icsOn := true, icsAge := par up gSRC 1 SRC.ICS_PERIOD, iRef := 3000, icsSumV := 10 })).setPar gSRC 1 SRC.ICS_MODE 1).setPar gSRC 1
      SRC.V_MIN 100, 1, by decide +kernel⟩⟩

/-- The hypotheses of SeamRows can be met. -/
theorem test_SeamRows_hyps :
    (∃ (s : State), s.live = true ∧ s.coreRuns = true ∧ s.frame % 100 = 0 ∧ policyChoice s ≠ s.jobs.link.holder ∧ s.jobs.link.seam = none ∧
      s.jobs.link.seamFor = none ∧ ctlRuns s = true ∧ directCode s (policyChoice s) = false) ∧
    (∃ (s : State) (c : _) (f : _), s.jobs.link.elect = some (c, f) ∧ f ≤ s.frame ∧ s.jobs.link.seam = none ∧ c ≠ s.jobs.link.holder ∧ ctlRuns s =
      true ∧ directCode s c = false ∧ directCode s s.jobs.link.holder = false) ∧
    (∃ (s : State) (c : _) (f : _), s.jobs.link.elect = some (c, f) ∧ f ≤ s.frame ∧ s.jobs.link.seam = none ∧ c ≠ s.jobs.link.holder ∧ ctlRuns s =
      true ∧ directCode s c = true ∧ s.jobs.link.holder ≠ 0) ∧
    (∃ (s : State), s.jobs.link.holder ≠ 0 ∧ 0 < s.jobs.link.failRun ∧ par s gSRC 4 SRC.HOLD_FAIL ≤ s.jobs.link.failRun ∧ s.jobs.link.seam = none) ∧
    (∃ (s : State) (m : Seam), s.jobs.link.holder ≠ 0 ∧ 0 < s.jobs.link.failRun ∧ par s gSRC 4 SRC.HOLD_FAIL ≤ s.jobs.link.failRun ∧
      s.jobs.link.seam = some m) ∧
    (∃ (s : State) (m : Seam), s.jobs.link.seam = some m ∧ m.step = 1 ∧ par s gSRC (m.target - 4) SRC.SW_SETTLE ≤ m.age) ∧
    (∃ (s : State) (m : Seam), s.jobs.link.seam = some m ∧ m.step = 2 ∧ directCode s m.target = true ∧ 0 < m.age ∧ absN (s.jobs.link.ics.out -
      m.ramp) ≤ par s gSRC 4 SRC.SEAM_RATE) ∧
    (∃ (s : State) (m : Seam), s.jobs.link.seam = some m ∧ m.step = 2 ∧ directCode s m.target = false ∧ s.val m.old ≤ 10 * parI s gSRC 4
      SRC.SEAM_IEND ∧ directCode s m.old = true) ∧
    (∃ (s : State) (m : Seam), s.jobs.link.seam = some m ∧ m.step = 2 ∧ par s gSRC 4 SRC.SEAM_TIMEOUT ≤ m.age) :=
   ⟨⟨(up.modCtl (fun z => { z with clockLost := false, powerFail := false, resetLow := false })).modLinkJob (fun z =>
     { z with seam := none, seamFor := none, holder := 4 }), by decide +kernel⟩,
    ⟨up.modLinkJob (fun z => { z with elect := some (1, 10), seam := none, holder := 4 }), 1, 10, by decide +kernel⟩,
    ⟨(up.modLinkJob (fun z => { z with elect := some (5, 10), seam := none, holder := 1 })).setPar gLN 1 LN.KIND 0, 5, 10, by decide +kernel⟩,
    ⟨up.modLinkJob (fun z => { z with failRun := par up gSRC 4 SRC.HOLD_FAIL, seam := none, holder := 1 }), by decide +kernel⟩,
    ⟨up.modLinkJob (fun z => { z with failRun := par up gSRC 4 SRC.HOLD_FAIL, seam := some (⟨1, 5, false, 1, 5, 0, false⟩ : Seam), holder := 1 }),
      (⟨1, 5, false, 1, 5, 0, false⟩ : Seam), by decide +kernel⟩,
    ⟨(up.modLinkJob (fun z => { z with seam := some (⟨1, 5, false, 1, 5, 0, false⟩ : Seam) })).setPar gSRC ((⟨1, 5, false, 1, 5, 0, false⟩ :
      Seam).target - 4) SRC.SW_SETTLE 3, (⟨1, 5, false, 1, 5, 0, false⟩ : Seam), by decide +kernel⟩,
    ⟨(up.modLinkJob (fun z => { z with seam := some (⟨1, 5, false, 2, 5, 0, false⟩ : Seam) })).setPar gLN 1 LN.KIND 0, (⟨1, 5, false, 2, 5, 0,
      false⟩ : Seam), by decide +kernel⟩,
    ⟨(up.modLinkJob (fun z => { z with seam := some (⟨5, 1, false, 2, 5, 0, false⟩ : Seam) })).setPar gLN 1 LN.KIND 0, (⟨5, 1, false, 2, 5, 0,
      false⟩ : Seam), by decide +kernel⟩,
    ⟨up.modLinkJob (fun z => { z with seam := some (⟨5, 1, false, 2, 100000, 0, false⟩ : Seam) }), (⟨5, 1, false, 2, 100000, 0, false⟩ : Seam),
      by decide +kernel⟩⟩

/-- The hypotheses of LinkSwitchRows can be met. -/
theorem test_LinkSwitchRows_hyps :
    (∃ (s : State), s.jobs.link.holder ≠ 0 ∧ 2000 ≤ s.jobs.link.inWin ∧ s.jobs.link.swlink = false ∧ ctlRuns s = true ∧ switchesHeld s = false) ∧
    (∃ (s : State), s.jobs.link.lown = false ∧ 0 < s.jobs.link.lownOn ∧ par s gSRC 4 SRC.LOWN_ASSERT ≤ s.jobs.link.lownOn) ∧
    (∃ (s : State), s.jobs.link.lown = true ∧ 0 < s.jobs.link.lownOff ∧ par s gSRC 4 SRC.LOWN_RELEASE ≤ s.jobs.link.lownOff) :=
   ⟨⟨up.modLinkJob (fun z => { z with inWin := 2000, swlink := false, holder := 1 }), by decide +kernel⟩,
    ⟨up.modLinkJob (fun z => { z with lown := false, lownOn := par up gSRC 4 SRC.LOWN_ASSERT }), by decide +kernel⟩,
    ⟨up.modLinkJob (fun z => { z with lown := true, lownOff := par up gSRC 4 SRC.LOWN_RELEASE }), by decide +kernel⟩⟩

/-- The hypotheses of PackSessionRows can be met. -/
theorem test_PackSessionRows_hyps :
    (∃ (s : State) (p : Nat) (n : Nat), packLane s p = some n ∧ p < nPp s ∧ p < s.jobs.packs.length ∧ (s.pack p).ph = .absent ∧ (s.pack p).holdoff =
      none ∧ par s gCHG p CHG.PARTNER = 1 ∧ inPackContract (s.port p) = true) ∧
    (∃ (s : State) (p : Nat) (n : Nat), packLane s p = some n ∧ p < nPp s ∧ p < s.jobs.packs.length ∧ (s.pack p).ph = .qualify ∧ (s.pack p).connect
      = false ∧ par s gCHG 16 CHG.UQUAL_FRAMES ≤ (s.pack p).qual) ∧
    (∃ (s : State) (p : Nat) (n : Nat) (x : _), packLane s p = some n ∧ p < nPp s ∧ p < s.jobs.packs.length ∧ (s.pack p).ph = .qualify ∧ (s.pack
      p).connect = true ∧ (s.pack p).swFor = some x ∧ par s gCHG 16 CHG.USW_SETTLE ≤ x ∧ (∀ v, cellV s p CHG.PRE_V_CELL = some v → v ≤ packV s p)) ∧
    (∃ (s : State) (p : Nat) (n : Nat), packLane s p = some n ∧ p < nPp s ∧ p < s.jobs.packs.length ∧ (s.pack p).ph = .precharge ∧ 1000 ≤ (s.pack
      p).run1) ∧
    (∃ (s : State) (p : Nat) (n : Nat), packLane s p = some n ∧ p < nPp s ∧ p < s.jobs.packs.length ∧ (s.pack p).ph = .precharge ∧ profF s p
      CHG.PRE_TIMEOUT ≤ (s.pack p).preClk) ∧
    (∃ (s : State) (p : Nat) (n : Nat), packLane s p = some n ∧ p < nPp s ∧ p < s.jobs.packs.length ∧ (s.pack p).ph = .cc ∧ 1000 ≤ (s.pack p).run1) ∧
    (∃ (s : State) (p : Nat) (n : Nat), packLane s p = some n ∧ p < nPp s ∧ p < s.jobs.packs.length ∧ (s.pack p).ph = .cv ∧ profF s p
      CHG.TERM_FRAMES ≤ (s.pack p).termRun ∧ 0 < (s.pack p).termRun ∧ topOffWanted s p = false ∧ (s.pack p).unanch = true) ∧
    (∃ (s : State) (p : Nat) (n : Nat), packLane s p = some n ∧ p < nPp s ∧ p < s.jobs.packs.length ∧ (s.pack p).ph = .cv ∧ profF s p
      CHG.TERM_FRAMES ≤ (s.pack p).termRun ∧ 0 < (s.pack p).termRun ∧ (s.pack p).unanch = false ∧ regDV s p (s.pack p).region = 0 ∧
      s.jobs.unit.fallback = false) ∧
    (∃ (s : State) (p : Nat) (n : Nat), packLane s p = some n ∧ p < nPp s ∧ p < s.jobs.packs.length ∧ ((s.pack p).ph = .cc ∨ (s.pack p).ph = .cv) ∧
      profF s p CHG.CHG_TIMEOUT ≤ (s.pack p).chgClk) ∧
    (∃ (s : State) (p : Nat) (n : Nat) (x : _), packLane s p = some n ∧ p < nPp s ∧ p < s.jobs.packs.length ∧ (s.pack p).ph = .taper ∧ (s.pack
      p).topFor = some x ∧ profF s p CHG.TOPOFF_TIME ≤ x) ∧
    (∃ (s : State) (p : Nat) (n : Nat), packLane s p = some n ∧ p < nPp s ∧ p < s.jobs.packs.length ∧ (s.pack p).ph = .taper ∧ (s.pack p).topFor =
      none ∧ 360000000 ≤ (s.pack p).inPh) ∧
    (∃ (s : State) (p : Nat) (n : Nat), packLane s p = some n ∧ p < nPp s ∧ p < s.jobs.packs.length ∧ (s.pack p).ph = .rest ∧ profF s p (if (s.pack
      p).cause = 1 then CHG.PRE_REST else CHG.REST_TIME) ≤ (s.pack p).inPh ∧ (∀ v, cellV s p CHG.PRE_V_CELL = some v → v ≤ packV s p)) ∧
    (∃ (s : State) (p : Nat) (n : Nat), packLane s p = some n ∧ p < nPp s ∧ p < s.jobs.packs.length ∧ (s.pack p).ph = .maintain ∧ 1000 ≤ (s.pack
      p).mntRun) ∧
    (∃ (s : State) (p : Nat) (n : Nat), packLane s p = some n ∧ p < nPp s ∧ p < s.jobs.packs.length ∧ (s.pack p).ph ∈ [PkPh.cc, .cv, .taper, .rest,
      .maintain, .storage] ∧ 100 ≤ (s.pack p).supRun) ∧
    (∃ (s : State) (p : Nat) (n : Nat), packLane s p = some n ∧ p < nPp s ∧ p < s.jobs.packs.length ∧ (s.pack p).ph = .supply ∧ (s.pack p).test =
      none ∧ 100 ≤ (s.pack p).noSupRun ∧ par s gCHG p CHG.STORAGE_REQ ≠ 1) :=
   ⟨⟨((up.modPack 1 (fun z => { z with ph := .absent, holdoff := none })).setPar gCHG 1 CHG.PARTNER 1).modPort 1 (fun z =>
     { z with st := .contract, con := .pack }), 1, 2, by decide +kernel⟩,
    ⟨up.modPack 1 (fun z => { z with ph := .qualify, connect := false, qual := par up gCHG 16 CHG.UQUAL_FRAMES }), 1, 2, by decide +kernel⟩,
    ⟨((up.modPack 1 (fun z => { z with ph := .qualify, connect := true, swFor := some 100000 })).setPar gCHG 16 CHG.USW_SETTLE 3).setPar gCHG 1
      CHG.STORAGE_REQ 0, 1, 2, 100000, by decide +kernel, by decide +kernel, by decide +kernel, by decide +kernel, by decide +kernel,
      by decide +kernel, by decide +kernel, fun _ hv => nomatch hv.symm.trans (by decide +kernel : _ = none)⟩,
    ⟨up.modPack 1 (fun z => { z with ph := .precharge, run1 := 1000 }), 1, 2, by decide +kernel⟩,
    ⟨up.modPack 1 (fun z => { z with ph := .precharge, preClk := profF up 1 CHG.PRE_TIMEOUT }), 1, 2, by decide +kernel⟩,
    ⟨up.modPack 1 (fun z => { z with ph := .cc, run1 := 1000 }), 1, 2, by decide +kernel⟩,
    ⟨up.modPack 1 (fun z => { z with ph := .cv, termRun := 1, unanch := true }), 1, 2, by decide +kernel⟩,
    ⟨(((((up.modPack 1 (fun z => { z with ph := .cv, termRun := 1000000000, unanch := false })).setPar gCHG 1 CHG.PROFILE 0).setPar gCHG 8 CHG.CHEM
      1).setPar gCHG 8 CHG.TOPOFF_C 3).setPar gCHG 8 CHG.TOPOFF_TIME 3).setPar gCHG 1 CHG.TOPOFF_REQ 1, 1, 2, by decide +kernel⟩,
    ⟨up.modPack 1 (fun z => { z with chgClk := profF up 1 CHG.CHG_TIMEOUT, ph := .cc }), 1, 2, by decide +kernel⟩,
    ⟨up.modPack 1 (fun z => { z with ph := .taper, topFor := some 100000 }), 1, 2, 100000, by decide +kernel⟩,
    ⟨up.modPack 1 (fun z => { z with ph := .taper, topFor := none, inPh := 360000000 }), 1, 2, by decide +kernel⟩,
    ⟨up.modPack 1 (fun z => { z with ph := .rest, inPh := profF up 1 (if (up.pack 1).cause = 1 then CHG.PRE_REST else CHG.REST_TIME), cause := 1 }),
      1, 2, by decide +kernel, by decide +kernel, by decide +kernel, by decide +kernel, by decide +kernel, fun _ hv => nomatch hv.symm.trans
      (by decide +kernel : _ = none)⟩,
    ⟨up.modPack 1 (fun z => { z with ph := .maintain, mntRun := 1000 }), 1, 2, by decide +kernel⟩,
    ⟨up.modPack 1 (fun z => { z with supRun := 100, ph := .cc }), 1, 2, by decide +kernel⟩,
    ⟨up.modPack 1 (fun z => { z with ph := .supply, test := none, noSupRun := 100, resume := .cc }), 1, 2, by decide +kernel⟩⟩

/-- The hypotheses of PackAnchorAndRemovalRows can be met. -/
theorem test_PackAnchorAndRemovalRows_hyps :
    (∃ (s : State) (p : Nat) (n : Nat) (v : _), packLane s p = some n ∧ p < nPp s ∧ (s.pack p).ph ≠ .absent ∧ par s gCHG 16 CHG.ANCHOR_FRAMES ≤
      (s.pack p).ocvRun ∧ 0 < (s.pack p).ocvRun ∧ ocvSoc s p (packV s p) = some v) ∧
    (∃ (s : State) (p : Nat) (n : Nat), packLane s p = some n ∧ p < nPp s ∧ (s.pack p).ph ≠ .absent ∧ 1000 ≤ (s.pack p).flrRun) ∧
    (∃ (s : State) (p : Nat) (n : Nat) (x : _), packLane s p = some n ∧ p < nPp s ∧ (s.pack p).ph ≠ .absent ∧ (s.pack p).test = some x ∧ 1000 ≤
      (s.pack p).testRun) ∧
    (∃ (s : State) (p : Nat) (n : Nat) (x : _), packLane s p = some n ∧ p < nPp s ∧ (s.pack p).ph ≠ .absent ∧ (s.pack p).test = some x ∧ par s gCHG
      16 CHG.CAPTEST_MAX ≤ x) ∧
    (∃ (s : State) (p : Nat) (n : Nat), packLane s p = some n ∧ p < nPp s ∧ (s.pack p).ph ≠ .absent ∧ 2 ≤ (s.pack p).collapse ∧ (s.lane n).st =
      .run) ∧
    (∃ (s : State) (p : Nat) (x : Nat), (s.pack p).holdoff = some x ∧ par s gCHG 16 CHG.HOLDOFF ≤ x) :=
   ⟨⟨((((((((((((((((up.modPack 1 (fun z => { z with ph := .cc, ocvRun := 6 })).setPar gCHG 1 CHG.PROFILE 0).setPar gCHG 8 CHG.CHEM 1).setPar gCHG 8
     (CHG.OCV0 + 0) 3000).setPar gCHG 8 (CHG.OCV0 + 1) 3100).setPar gCHG 8 (CHG.OCV0 + 2) 3200).setPar gCHG 8 (CHG.OCV0 + 3) 3300).setPar gCHG 8
     (CHG.OCV0 + 4) 3400).setPar gCHG 8 (CHG.OCV0 + 5) 3500).setPar gCHG 8 (CHG.OCV0 + 6) 3600).setPar gCHG 8 (CHG.OCV0 + 7) 3700).setPar gCHG 8
     (CHG.OCV0 + 8) 3800).setPar gCHG 8 (CHG.OCV0 + 9) 3900).setPar gCHG 8 (CHG.OCV0 + 10) 4000).setPar gCHG 16 CHG.ANCHOR_FRAMES 5).withVal 9
     13000).setPar gCHG 1 CHG.CELLS 4, 1, 2, (ocvSoc (((((((((((((((((up.modPack 1 (fun z => { z with ph := .cc, ocvRun := 6 })).setPar gCHG 1
     CHG.PROFILE 0).setPar gCHG 8 CHG.CHEM 1).setPar gCHG 8 (CHG.OCV0 + 0) 3000).setPar gCHG 8 (CHG.OCV0 + 1) 3100).setPar gCHG 8 (CHG.OCV0 + 2)
     3200).setPar gCHG 8 (CHG.OCV0 + 3) 3300).setPar gCHG 8 (CHG.OCV0 + 4) 3400).setPar gCHG 8 (CHG.OCV0 + 5) 3500).setPar gCHG 8 (CHG.OCV0 + 6)
     3600).setPar gCHG 8 (CHG.OCV0 + 7) 3700).setPar gCHG 8 (CHG.OCV0 + 8) 3800).setPar gCHG 8 (CHG.OCV0 + 9) 3900).setPar gCHG 8 (CHG.OCV0 + 10)
     4000).setPar gCHG 16 CHG.ANCHOR_FRAMES 5).withVal 9 13000).setPar gCHG 1 CHG.CELLS 4) 1 (packV (((((((((((((((((up.modPack 1 (fun z =>
     { z with ph := .cc, ocvRun := 6 })).setPar gCHG 1 CHG.PROFILE 0).setPar gCHG 8 CHG.CHEM 1).setPar gCHG 8 (CHG.OCV0 + 0) 3000).setPar gCHG 8
     (CHG.OCV0 + 1) 3100).setPar gCHG 8 (CHG.OCV0 + 2) 3200).setPar gCHG 8 (CHG.OCV0 + 3) 3300).setPar gCHG 8 (CHG.OCV0 + 4) 3400).setPar gCHG 8
     (CHG.OCV0 + 5) 3500).setPar gCHG 8 (CHG.OCV0 + 6) 3600).setPar gCHG 8 (CHG.OCV0 + 7) 3700).setPar gCHG 8 (CHG.OCV0 + 8) 3800).setPar gCHG 8
     (CHG.OCV0 + 9) 3900).setPar gCHG 8 (CHG.OCV0 + 10) 4000).setPar gCHG 16 CHG.ANCHOR_FRAMES 5).withVal 9 13000).setPar gCHG 1 CHG.CELLS 4)
     1)).getD 0, by decide +kernel⟩,
    ⟨up.modPack 1 (fun z => { z with ph := .cc, flrRun := 1000 }), 1, 2, by decide +kernel⟩,
    ⟨up.modPack 1 (fun z => { z with ph := .cc, test := some 1, testRun := 1000 }), 1, 2, 1, by decide +kernel⟩,
    ⟨(up.modPack 1 (fun z => { z with ph := .cc, test := some 100000 })).setPar gCHG 16 CHG.CAPTEST_MAX 3, 1, 2, 100000, by decide +kernel⟩,
    ⟨(up.modPack 1 (fun z => { z with ph := .cc, collapse := 2 })).modLane 2 (fun z => { z with st := .run }), 1, 2, by decide +kernel⟩,
    ⟨(up.modPack 1 (fun z => { z with ph := .cc, holdoff := some 100000 })).setPar gCHG 16 CHG.HOLDOFF 3, 1, 100000, by decide +kernel⟩⟩

/-- The hypotheses of PortAttachRows can be met. -/
theorem test_PortAttachRows_hyps :
    (∃ (s : State) (p : Nat) (w : _) (c : _), HasPort s p ∧ (s.port p).st = .attachWait ∧ 15000 ≤ (s.port p).seenRun ∧ (s.port p).seen = some (w,
      c)) ∧
    (∃ (s : State) (p : Nat) (k : _), HasPort s p ∧ (s.port p).plug = some k ∧ 200 ≤ k ∧ (s.port p).st = .attached ∧ (s.port p).prov = false ∧
      (s.port p).helloRx = false ∧ portOpIs (s.port p) [4] = false) ∧
    (∃ (s : State) (p : Nat) (k : _), HasPort s p ∧ (s.port p).plug = some k ∧ 200 ≤ k ∧ (s.port p).st = .attached ∧ (s.port p).prov = false ∧
      (s.port p).helloRx = true ∧ (s.port p).helloOut = false ∧ (s.port p).helloTx = false ∧ WireFree s p ∧ portOpIs (s.port p) [4] = false) ∧
    (∃ (s : State) (p : Nat), HasPort s p ∧ (s.port p).st.isAttached = true ∧ (s.port p).st ≠ .swapping ∧ 1000 ≤ (s.port p).lostRun) ∧
    (∃ (s : State) (p : Nat), HasPort s p ∧ par s gPRT p PRT.MODE = 1 ∧ par s gPRT p PRT.PRESENT = 2 ∧ (s.port p).st = .detached ∧ (if (s.port
      p).prov then 4000 else 3500) ≤ (s.port p).dualAge) ∧
    (∃ (s : State) (p : Nat), HasPort s p ∧ s.clocked = true) :=
   ⟨⟨up.modPort 1 (fun z => { z with st := .attachWait, seenRun := 15000, seen := some (2, 0), prov := true }), 1, 2, 0,
     by unfold HasPort; decide +kernel⟩,
    ⟨up.modPort 1 (fun z => { z with plug := some 200, st := .attached, prov := false, helloRx := false }), 1, 200,
      by unfold HasPort; decide +kernel⟩,
    ⟨up.modPort 1 (fun z =>
      { z with plug := some 200, st := .attached, prov := false, helloRx := true, helloOut := false, helloTx := false, unacked := none, queue := [] }),
      1, 200, by unfold HasPort WireFree; decide +kernel⟩,
    ⟨up.modPort 1 (fun z => { z with lostRun := 1000, st := .attached }), 1, by unfold HasPort; decide +kernel⟩,
    ⟨((up.setPar gPRT 1 PRT.MODE 1).setPar gPRT 1 PRT.PRESENT 2).modPort 1 (fun z => { z with st := .detached, dualAge := 4000, prov := true }), 1,
      by unfold HasPort; decide +kernel⟩,
    ⟨up, 0, by unfold HasPort; decide +kernel⟩⟩

/-- The hypotheses of PortAckRows can be met. -/
theorem test_PortAckRows_hyps :
    (∃ (s : State) (p : Nat) (m : PMsg) (k : Nat) (a : Nat) (pl : List Byte), HasPort s p ∧ (s.port p).unacked = some (m, k, a) ∧ s.clocked = true ∧
      (s.port p).st.hears = true ∧ lenLimit (s.port p) < pl.length) ∧
    (∃ (s : State) (p : Nat) (m : PMsg) (k : Nat) (a : Nat) (pl : List Byte), HasPort s p ∧ (s.port p).unacked = some (m, k, a) ∧ s.clocked = true ∧
      (s.port p).st.hears = true ∧ pl.length ≤ lenLimit (s.port p) ∧ m.id ≠ fld pl 0 1) ∧
    (∃ (s : State) (p : Nat) (m : PMsg) (k : Nat) (a : Nat) (pl : List Byte), HasPort s p ∧ (s.port p).unacked = some (m, k, a) ∧ s.clocked = true ∧
      (s.port p).st.hears = true ∧ pl.length ≤ lenLimit (s.port p) ∧ m.id = fld pl 0 1 ∧ (s.port p).queue = [] ∧ m.typ = Ple.PING) ∧
    (∃ (s : State) (p : Nat) (m : PMsg) (k : Nat) (a : Nat) (pl : List Byte) (ty : _) (pay : List Byte) (rest : _), HasPort s p ∧ (s.port p).unacked
      = some (m, k, a) ∧ s.clocked = true ∧ (s.port p).st.hears = true ∧ pl.length ≤ lenLimit (s.port p) ∧ m.id = fld pl 0 1 ∧ (s.port p).queue =
      (ty, pay) :: rest ∧ m.typ = Ple.PING) ∧
    (∃ (s : State) (p : Nat) (m : PMsg) (k : Nat) (a : Nat) (pl : List Byte), HasPort s p ∧ (s.port p).unacked = some (m, k, a) ∧ s.clocked = true ∧
      (s.port p).st.hears = true ∧ pl.length ≤ lenLimit (s.port p) ∧ m.id = fld pl 0 1 ∧ fld pl 1 1 = 0 ∧ m.typ = Ple.HELLO ∧ (s.port p).st =
      .attached ∧ (s.port p).helloRx = false ∧ (s.port p).queue = []) ∧
    (∃ (s : State) (p : Nat) (m : PMsg) (k : Nat) (a : Nat) (pl : List Byte), HasPort s p ∧ (s.port p).unacked = some (m, k, a) ∧ s.clocked = true ∧
      (s.port p).st.hears = true ∧ pl.length ≤ lenLimit (s.port p) ∧ m.id = fld pl 0 1 ∧ fld pl 1 1 = 0 ∧ m.typ = Ple.REQUEST ∧ (s.port p).st =
      .negotiating ∧ (s.port p).next ≠ .null ∧ (s.port p).queue = []) ∧
    (∃ (s : State) (p : Nat) (m : PMsg) (k : Nat) (a : Nat) (pl : List Byte), HasPort s p ∧ (s.port p).unacked = some (m, k, a) ∧ s.clocked = true ∧
      (s.port p).st.hears = true ∧ pl.length ≤ lenLimit (s.port p) ∧ m.id = fld pl 0 1 ∧ fld pl 1 1 = 0 ∧ m.typ = Ple.READY ∧ (s.port p).st =
      .negotiating ∧ (s.port p).prov = true ∧ (s.port p).reqOk = true) ∧
    (∃ (s : State) (p : Nat) (m : PMsg) (k : Nat) (a : Nat), HasPort s p ∧ (s.port p).unacked = some (m, k, a) ∧ 3000 ≤ a ∧ k < 3) ∧
    (∃ (s : State) (p : Nat) (m : PMsg) (k : Nat) (a : Nat), HasPort s p ∧ (s.port p).unacked = some (m, k, a) ∧ 3000 ≤ a ∧ 3 ≤ k ∧ (s.port p).st ∈
      [PtSt.attached, .negotiating, .contract]) ∧
    (∃ (s : State) (p : Nat) (m : PMsg) (k : Nat) (a : Nat), HasPort s p ∧ (s.port p).unacked = some (m, k, a) ∧ 3000 ≤ a ∧ 3 ≤ k ∧ (s.port p).st =
      .softReset) ∧
    (∃ (s : State) (p : Nat) (m : PMsg) (k : Nat) (a : Nat) (f : PMsg), HasPort s p ∧ (s.port p).unacked = some (m, k, a) ∧ (s.port p).lastTx = some
      f ∧ 0 < (s.port p).busyFor) ∧
    (∃ (s : State) (p : Nat) (m : PMsg) (k : Nat) (a : Nat), HasPort s p ∧ (s.port p).unacked = some (m, k, a) ∧ (s.port p).busyFor = 0) :=
   ⟨⟨up.modPort 0 (fun z => { z with st := .contract, unacked := some ((⟨4, 7, []⟩ : PMsg), 1, 10) }), 0, (⟨4, 7, []⟩ : PMsg), 1, 10, (rep 97 0 :
     List Byte), by unfold HasPort; decide +kernel⟩,
    ⟨up.modPort 0 (fun z => { z with st := .contract, unacked := some ((⟨4, 7, []⟩ : PMsg), 1, 10) }), 0, (⟨4, 7, []⟩ : PMsg), 1, 10, ([byte 8, byte
      0] : List Byte), by unfold HasPort; decide +kernel⟩,
    ⟨up.modPort 0 (fun z => { z with st := .contract, unacked := some ((⟨Ple.PING, 7, []⟩ : PMsg), 1, 10), queue := [] }), 0, (⟨Ple.PING, 7, []⟩ :
      PMsg), 1, 10, ([byte 7, byte 0] : List Byte), by unfold HasPort; decide +kernel⟩,
    ⟨up.modPort 0 (fun z =>
      { z with st := .contract, unacked := some ((⟨Ple.PING, 7, []⟩ : PMsg), 1, 10), queue := (9, (([byte 3] : List Byte))) :: (([(8, [])] : List (Nat × List Byte))) }),
      0, (⟨Ple.PING, 7, []⟩ : PMsg), 1, 10, ([byte 7, byte 0] : List Byte), 9, ([byte 3] : List Byte), ([(8, [])] : List (Nat × List Byte)),
      by unfold HasPort; decide +kernel⟩,
    ⟨up.modPort 0 (fun z => { z with unacked := some ((⟨Ple.HELLO, 7, []⟩ : PMsg), 1, 10), st := .attached, helloRx := false, queue := [] }), 0,
      (⟨Ple.HELLO, 7, []⟩ : PMsg), 1, 10, ([byte 7, byte 0] : List Byte), by unfold HasPort; decide +kernel⟩,
    ⟨up.modPort 0 (fun z => { z with unacked := some ((⟨Ple.REQUEST, 7, []⟩ : PMsg), 1, 10), st := .negotiating, queue := [], next := .pack }), 0,
      (⟨Ple.REQUEST, 7, []⟩ : PMsg), 1, 10, ([byte 7, byte 0] : List Byte), by unfold HasPort; decide +kernel⟩,
    ⟨up.modPort 0 (fun z =>
      { z with unacked := some ((⟨Ple.READY, 7, []⟩ : PMsg), 1, 10), st := .negotiating, prov := true, reqOk := true, next := .pack }), 0,
      (⟨Ple.READY, 7, []⟩ : PMsg), 1, 10, ([byte 7, byte 0] : List Byte), by unfold HasPort; decide +kernel⟩,
    ⟨up.modPort 0 (fun z => { z with unacked := some ((⟨4, 7, []⟩ : PMsg), 0, 3000) }), 0, (⟨4, 7, []⟩ : PMsg), 0, 3000,
      by unfold HasPort; decide +kernel⟩,
    ⟨up.modPort 0 (fun z => { z with unacked := some ((⟨4, 7, []⟩ : PMsg), 3, 3000), st := .attached }), 0, (⟨4, 7, []⟩ : PMsg), 3, 3000,
      by unfold HasPort; decide +kernel⟩,
    ⟨up.modPort 0 (fun z => { z with unacked := some ((⟨4, 7, []⟩ : PMsg), 3, 3000), st := .softReset }), 0, (⟨4, 7, []⟩ : PMsg), 3, 3000,
      by unfold HasPort; decide +kernel⟩,
    ⟨up.modPort 0 (fun z => { z with unacked := some ((⟨4, 7, []⟩ : PMsg), 1, 10), lastTx := some (⟨9, 1, [3]⟩ : PMsg), busyFor := 3 }), 0, (⟨4, 7,
      []⟩ : PMsg), 1, 10, (⟨9, 1, [3]⟩ : PMsg), by unfold HasPort; decide +kernel⟩,
    ⟨up.modPort 0 (fun z => { z with unacked := some ((⟨4, 7, []⟩ : PMsg), 1, 10), busyFor := 0 }), 0, (⟨4, 7, []⟩ : PMsg), 1, 10,
      by unfold HasPort; decide +kernel⟩⟩

/-- The hypotheses of PortSupplyMessages can be met. -/
theorem test_PortSupplyMessages_hyps :
    (∃ (s : State) (p : Nat) (id : Nat), NewMsg s p Ple.PING id 0) ∧
    (∃ (s : State) (p : Nat) (id : Nat) (r : _) (pl : List Byte), HasPort s p ∧ s.clocked = true ∧ (s.port p).st.isAttached = true ∧ pl.length ≤
      lenLimit (s.port p) ∧ (s.port p).lastRx = some (Ple.REQUEST, id, r)) ∧
    (∃ (s : State) (p : Nat) (pl : List Byte), HasPort s p ∧ s.clocked = true ∧ (s.port p).st.isAttached = true ∧ lenLimit (s.port p) < pl.length) ∧
    (∃ (s : State) (p : Nat) (id : Nat), NewMsg s p Ple.SOFT_RESET id 0 ∧ (s.port p).st ∈ [PtSt.attached, .negotiating, .contract] ∧ (s.port p).ver
      ≠ 0) ∧
    (∃ (s : State) (p : Nat) (id : Nat) (pl : List Byte), NewMsg s p Ple.HELLO id pl.length ∧ (s.port p).st = .attached ∧ (s.port p).prov = true ∧
      (s.port p).helloTx = false) ∧
    (∃ (s : State) (p : Nat) (id : Nat) (pl : List Byte) (v : _), NewMsg s p Ple.HELLO id pl.length ∧ (s.port p).st = .attached ∧ (s.port p).prov =
      true ∧ (s.port p).helloTx = true ∧ (s.port p).verDone = false ∧ par s gPRT p PRT.AUTH_MODE ≠ 2 ∧ v = selectVersion (par s gPRT p PRT.VER_MAX)
      (fld pl 0 1) (fld pl 1 1) ∧ v ≠ 0) ∧
    (∃ (s : State) (p : Nat) (id : Nat) (pl : List Byte), NewMsg s p Ple.ALERT id pl.length ∧ 0x11 ≤ (s.port p).ver) ∧
    (∃ (s : State) (p : Nat) (id : Nat) (pl : List Byte) (k : _) (v : _) (i : Nat) (tol : _), NewMsg s p Ple.CAPS id pl.length ∧ WireFree s p ∧
      (s.port p).prov = false ∧ (s.port p).st = .negotiating ∧ chooseOffer s p (parseOffers pl) = some (k, v, i, tol)) ∧
    (∃ (s : State) (p : Nat) (id : Nat) (pl : List Byte), NewMsg s p Ple.CAPS id pl.length ∧ (s.port p).prov = true) ∧
    (∃ (s : State) (p : Nat) (id : Nat), NewMsg s p Ple.GET_CAPS id 0 ∧ WireFree s p ∧ (s.port p).prov = true ∧ (s.port p).st = .negotiating) ∧
    (∃ (s : State) (p : Nat) (id : Nat) (pl : List Byte) (k : _) (o : Offer), NewMsg s p Ple.REQUEST id pl.length ∧ (s.port p).prov = true ∧ (s.port
      p).st = .negotiating ∧ 6 ≤ pl.length ∧ fld pl 0 1 = k + 1 ∧ (s.port p).offers[k]? = some o) ∧
    (∃ (s : State) (p : Nat) (id : Nat) (pl : List Byte), NewMsg s p Ple.REQUEST id pl.length ∧ (s.port p).prov = true ∧ (s.port p).st =
      .negotiating ∧ 1 ≤ pl.length ∧ fld pl 0 1 = 0) ∧
    (∃ (s : State) (p : Nat) (id : Nat) (pl : List Byte), NewMsg s p Ple.READY id pl.length ∧ (s.port p).prov = false ∧ (s.port p).st = .negotiating
      ∧ (s.port p).reqOk = true ∧ 2 ≤ pl.length ∧ (s.port p).pkReq = none) :=
   ⟨⟨up.modPort 0 (fun z => { z with lastRx := none, st := if z.st.isAttached then z.st else .attached }), 0, 7, ⟨by unfold HasPort; decide +kernel,
     by decide +kernel, by decide +kernel, by decide +kernel, fun _ hr => nomatch hr.symm.trans (by decide +kernel : _ = none)⟩⟩,
    ⟨up.modPort 0 (fun z => { z with lastRx := some (Ple.REQUEST, 7, 1), st := if z.st.isAttached then z.st else .attached }), 0, 7, 1, ([] : List
      Byte), by unfold HasPort; decide +kernel⟩,
    ⟨up.modPort 0 (fun z => { z with st := if z.st.isAttached then z.st else .attached }), 0, (rep 97 0 : List Byte),
      by unfold HasPort; decide +kernel⟩,
    ⟨up.modPort 0 (fun z => { z with lastRx := none, ver := 0x11, st := .attached }), 0, 7, ⟨by unfold HasPort; decide +kernel, by decide +kernel,
      by decide +kernel, by decide +kernel, fun _ hr => nomatch hr.symm.trans (by decide +kernel : _ = none)⟩, by decide +kernel,
      by decide +kernel⟩,
    ⟨up.modPort 0 (fun z => { z with lastRx := none, st := .attached, prov := true, helloTx := false }), 0, 7, ([byte 0x10, byte 0x23, byte 2, byte
      3] : List Byte), ⟨by unfold HasPort; decide +kernel, by decide +kernel, by decide +kernel, by decide +kernel, fun _ hr => nomatch
      hr.symm.trans (by decide +kernel : _ = none)⟩, by decide +kernel, by decide +kernel, by decide +kernel⟩,
    ⟨(up.modPort 0 (fun z => { z with lastRx := none, st := .attached, prov := true, helloTx := true, verDone := false })).setPar gPRT 0 PRT.VER_MAX
      0x22, 0, 7, ([byte 0x10, byte 0x23, byte 2, byte 3] : List Byte), 0x22, ⟨by unfold HasPort; decide +kernel, by decide +kernel,
      by decide +kernel, by decide +kernel, fun _ hr => nomatch hr.symm.trans (by decide +kernel : _ = none)⟩, by decide +kernel, by decide +kernel,
      by decide +kernel, by decide +kernel, by decide +kernel, by decide +kernel, by decide +kernel⟩,
    ⟨up.modPort 0 (fun z => { z with lastRx := none, ver := 0x11, st := .contract }), 0, 7, ([byte 6, byte 0] : List Byte),
      ⟨by unfold HasPort; decide +kernel, by decide +kernel, by decide +kernel, by decide +kernel, fun _ hr => nomatch hr.symm.trans
      (by decide +kernel : _ = none)⟩, by decide +kernel⟩,
    ⟨(((up.modPort 0 (fun z => { z with lastRx := none, unacked := none, queue := [], prov := false, st := .negotiating, code := 3 })).setPar gPRT 0
      PRT.TAKE_I 80).setPar gPRT 0 PRT.TAKE_VMIN 40).setPar gPRT 0 PRT.TAKE_VMAX 200, 0, 7, ([byte 2, byte 0, byte 50, byte 0, byte 100, byte 0,
      byte 5, byte 0, byte 120, byte 0, byte 100, byte 0, byte 5, byte 0] : List Byte), ((chooseOffer ((((up.modPort 0 (fun z =>
      { z with lastRx := none, unacked := none, queue := [], prov := false, st := .negotiating, code := 3 })).setPar gPRT 0 PRT.TAKE_I 80).setPar
      gPRT 0 PRT.TAKE_VMIN 40).setPar gPRT 0 PRT.TAKE_VMAX 200) 0 (parseOffers (([byte 2, byte 0, byte 50, byte 0, byte 100, byte 0, byte 5, byte 0,
      byte 120, byte 0, byte 100, byte 0, byte 5, byte 0] : List Byte)))).getD (0,0,0,0)).1, ((chooseOffer ((((up.modPort 0 (fun z =>
      { z with lastRx := none, unacked := none, queue := [], prov := false, st := .negotiating, code := 3 })).setPar gPRT 0 PRT.TAKE_I 80).setPar
      gPRT 0 PRT.TAKE_VMIN 40).setPar gPRT 0 PRT.TAKE_VMAX 200) 0 (parseOffers (([byte 2, byte 0, byte 50, byte 0, byte 100, byte 0, byte 5, byte 0,
      byte 120, byte 0, byte 100, byte 0, byte 5, byte 0] : List Byte)))).getD (0,0,0,0)).2.1, ((chooseOffer ((((up.modPort 0 (fun z =>
      { z with lastRx := none, unacked := none, queue := [], prov := false, st := .negotiating, code := 3 })).setPar gPRT 0 PRT.TAKE_I 80).setPar
      gPRT 0 PRT.TAKE_VMIN 40).setPar gPRT 0 PRT.TAKE_VMAX 200) 0 (parseOffers (([byte 2, byte 0, byte 50, byte 0, byte 100, byte 0, byte 5, byte 0,
      byte 120, byte 0, byte 100, byte 0, byte 5, byte 0] : List Byte)))).getD (0,0,0,0)).2.2.1, ((chooseOffer ((((up.modPort 0 (fun z =>
      { z with lastRx := none, unacked := none, queue := [], prov := false, st := .negotiating, code := 3 })).setPar gPRT 0 PRT.TAKE_I 80).setPar
      gPRT 0 PRT.TAKE_VMIN 40).setPar gPRT 0 PRT.TAKE_VMAX 200) 0 (parseOffers (([byte 2, byte 0, byte 50, byte 0, byte 100, byte 0, byte 5, byte 0,
      byte 120, byte 0, byte 100, byte 0, byte 5, byte 0] : List Byte)))).getD (0,0,0,0)).2.2.2, ⟨by unfold HasPort; decide +kernel,
      by decide +kernel, by decide +kernel, by decide +kernel, fun _ hr => nomatch hr.symm.trans (by decide +kernel : _ = none)⟩,
      by unfold WireFree; decide +kernel, by decide +kernel, by decide +kernel, by decide +kernel⟩,
    ⟨up.modPort 0 (fun z => { z with lastRx := none, prov := true, st := if z.st.isAttached then z.st else .attached }), 0, 7, ([] : List Byte),
      ⟨by unfold HasPort; decide +kernel, by decide +kernel, by decide +kernel, by decide +kernel, fun _ hr => nomatch hr.symm.trans
      (by decide +kernel : _ = none)⟩, by decide +kernel⟩,
    ⟨up.modPort 0 (fun z => { z with lastRx := none, unacked := none, queue := [], prov := true, st := .negotiating }), 0, 7,
      ⟨by unfold HasPort; decide +kernel, by decide +kernel, by decide +kernel, by decide +kernel, fun _ hr => nomatch hr.symm.trans
      (by decide +kernel : _ = none)⟩, by unfold WireFree; decide +kernel, by decide +kernel, by decide +kernel⟩,
    ⟨up.modPort 0 (fun z => { z with lastRx := none, prov := true, st := .negotiating, offers := [⟨50, 60, 5⟩, ⟨120, 60, 5⟩] }), 0, 7, ([byte 2,
      byte 0, byte 60, byte 0, byte 60, byte 0] : List Byte), 1, (⟨120, 60, 5⟩ : Offer), ⟨by unfold HasPort; decide +kernel, by decide +kernel,
      by decide +kernel, by decide +kernel, fun _ hr => nomatch hr.symm.trans (by decide +kernel : _ = none)⟩, by decide +kernel, by decide +kernel,
      by decide +kernel, by decide +kernel, by decide +kernel⟩,
    ⟨up.modPort 0 (fun z => { z with lastRx := none, prov := true, st := .negotiating }), 0, 7, ([byte 0, byte 0, byte 0, byte 0, byte 0, byte 0] :
      List Byte), ⟨by unfold HasPort; decide +kernel, by decide +kernel, by decide +kernel, by decide +kernel, fun _ hr => nomatch hr.symm.trans
      (by decide +kernel : _ = none)⟩, by decide +kernel, by decide +kernel, by decide +kernel, by decide +kernel⟩,
    ⟨up.modPort 0 (fun z =>
      { z with lastRx := none, prov := false, st := .negotiating, reqOk := true, pkReq := none, next := .supply 120 50 60 5 }), 0, 7, ([byte 2, byte
      0, byte 0, byte 0] : List Byte), ⟨by unfold HasPort; decide +kernel, by decide +kernel, by decide +kernel, by decide +kernel, fun _ hr =>
      nomatch hr.symm.trans (by decide +kernel : _ = none)⟩, by decide +kernel, by decide +kernel, by decide +kernel, by decide +kernel,
      by decide +kernel⟩⟩

/-- The hypotheses of PortPackAndRoleMessages can be met. -/
theorem test_PortPackAndRoleMessages_hyps :
    (∃ (s : State) (p : Nat) (id : Nat) (pl : List Byte) (vm : _), NewMsg s p Ple.PACK_CAPS id pl.length ∧ WireFree s p ∧ (s.port p).prov = false ∧
      (s.port p).st = .negotiating ∧ vm = (if 6 ≤ pl.length then some (fld pl 4 2) else none)) ∧
    (∃ (s : State) (p : Nat) (id : Nat) (pl : List Byte), NewMsg s p Ple.PACK_STATUS id pl.length ∧ (s.port p).prov = false ∧ (s.port p).pk ≠ none ∧
      (s.port p).st = .contract) ∧
    (∃ (s : State) (p : Nat) (id : Nat) (pl : List Byte), NewMsg s p Ple.PACK_STATUS id pl.length ∧ (s.port p).prov = false ∧ (s.port p).pk ≠ none ∧
      (s.port p).st = .negotiating ∧ (s.port p).reqOk = true ∧ (s.port p).readyOk = true) ∧
    (∃ (s : State) (p : Nat) (id : Nat), NewMsg s p Ple.ROLE_SWAP id 0 ∧ (s.port p).ver < 0x20) ∧
    (∃ (s : State) (p : Nat) (id : Nat), NewMsg s p Ple.ROLE_SWAP id 0 ∧ 0x20 ≤ (s.port p).ver ∧ (s.port p).unacked = none ∧ swapAllowed s p = true) ∧
    (∃ (s : State) (p : Nat) (id : Nat), NewMsg s p Ple.ROLE_SWAP id 0 ∧ 0x20 ≤ (s.port p).ver ∧ (s.port p).unacked = none ∧ swapAllowed s p =
      false) ∧
    (∃ (s : State) (p : Nat) (id : Nat), NewMsg s p Ple.SWAP_OFF id 0 ∧ 0x20 ≤ (s.port p).ver ∧ (s.port p).st = .swapping ∧ (s.port p).swapOld =
      false) ∧
    (∃ (s : State) (p : Nat), HasPort s p ∧ (s.port p).takeOver = true ∧ (s.port p).busyFor = 0 ∧ (s.port p).out.any PMsg.isAck = false) ∧
    (∃ (s : State) (p : Nat) (q : _), HasPort s p ∧ (s.port p).takeOver = true ∧ (s.port p).busyFor = 0 ∧ (s.port p).out.any PMsg.isAck = false ∧ q
      ≠ p) ∧
    (∃ (s : State) (p : Nat) (id : Nat) (pl : List Byte), NewMsg s p Ple.AUTH_CERT_GET id pl.length ∧ 0x22 ≤ (s.port p).ver ∧ WireFree s p) ∧
    (∃ (s : State) (p : Nat) (id : Nat) (pl : List Byte) (a : AuthRun), NewMsg s p Ple.AUTH_CERT id pl.length ∧ 0x22 ≤ (s.port p).ver ∧ WireFree s p
      ∧ (s.port p).auth = some a ∧ a.step = 1) ∧
    (∃ (s : State) (p : Nat) (id : Nat) (pl : List Byte), NewMsg s p Ple.AUTH_CHALLENGE id pl.length ∧ 0x22 ≤ (s.port p).ver ∧ WireFree s p ∧ 32 ≤
      pl.length) ∧
    (∃ (s : State) (p : Nat) (id : Nat) (pl : List Byte) (a : AuthRun), NewMsg s p Ple.AUTH_SIGN id pl.length ∧ 0x22 ≤ (s.port p).ver ∧ (s.port
      p).auth = some a ∧ a.step = 2 ∧ (s.port p).st = .contract) ∧
    (∃ (s : State) (p : Nat) (id : Nat) (typ : _) (len : _), NewMsg s p typ id len) :=
   ⟨⟨up.modPort 0 (fun z => { z with lastRx := none, unacked := none, queue := [], prov := false, st := .negotiating }), 0, 7, ((List.range 16).map
     byte), (if 6 ≤ (((List.range 16).map byte)).length then some (fld (((List.range 16).map byte)) 4 2) else none),
     ⟨by unfold HasPort; decide +kernel, by decide +kernel, by decide +kernel, by decide +kernel, fun _ hr => nomatch hr.symm.trans
     (by decide +kernel : _ = none)⟩, by unfold WireFree; decide +kernel, by decide +kernel, by decide +kernel, by decide +kernel⟩,
    ⟨up.modPort 0 (fun z => { z with lastRx := none, prov := false, st := .contract, pk := some ⟨1,4,50,some 100,some 50,some 5,some 5,1000,7⟩ }),
      0, 7, ((List.range 18).map byte), ⟨by unfold HasPort; decide +kernel, by decide +kernel, by decide +kernel, by decide +kernel, fun _ hr =>
      nomatch hr.symm.trans (by decide +kernel : _ = none)⟩, by decide +kernel, by decide +kernel, by decide +kernel⟩,
    ⟨(up.modPort 0 (fun z =>
      { z with lastRx := none, prov := false, st := .negotiating, reqOk := true, readyOk := true, pk := some ⟨1,4,50,some 100,some 50,some 5,some 5,1000,7⟩ })).modPort
      0 (fun z => { z with st := if z.st.isAttached then z.st else .attached }), 0, 7, ((List.range 18).map byte),
      ⟨by unfold HasPort; decide +kernel, by decide +kernel, by decide +kernel, by decide +kernel, fun _ hr => nomatch hr.symm.trans
      (by decide +kernel : _ = none)⟩, by decide +kernel, by decide +kernel, by decide +kernel, by decide +kernel, by decide +kernel⟩,
    ⟨up.modPort 0 (fun z => { z with lastRx := none, st := if z.st.isAttached then z.st else .attached }), 0, 7, ⟨by unfold HasPort; decide +kernel,
      by decide +kernel, by decide +kernel, by decide +kernel, fun _ hr => nomatch hr.symm.trans (by decide +kernel : _ = none)⟩,
      by decide +kernel⟩,
    ⟨(up.modPort 0 (fun z =>
      { z with lastRx := none, ver := 0x20, unacked := none, st := .contract, con := .supply 200 100 200 5, prov := true })).setPar gPRT 0
      PRT.SWAP_ACCEPT 3, 0, 7, ⟨by unfold HasPort; decide +kernel, by decide +kernel, by decide +kernel, by decide +kernel, fun _ hr => nomatch
      hr.symm.trans (by decide +kernel : _ = none)⟩, by decide +kernel, by decide +kernel, by decide +kernel⟩,
    ⟨up.modPort 0 (fun z =>
      { z with lastRx := none, ver := 0x20, unacked := none, st := if z.st.isAttached then z.st else .attached, con := .pack }), 0, 7,
      ⟨by unfold HasPort; decide +kernel, by decide +kernel, by decide +kernel, by decide +kernel, fun _ hr => nomatch hr.symm.trans
      (by decide +kernel : _ = none)⟩, by decide +kernel, by decide +kernel, by decide +kernel⟩,
    ⟨up.modPort 0 (fun z => { z with lastRx := none, ver := 0x20, st := .swapping, swapOld := false }), 0, 7, ⟨by unfold HasPort; decide +kernel,
      by decide +kernel, by decide +kernel, by decide +kernel, fun _ hr => nomatch hr.symm.trans (by decide +kernel : _ = none)⟩, by decide +kernel,
      by decide +kernel, by decide +kernel⟩,
    ⟨up.modPort 0 (fun z => { z with takeOver := true, busyFor := 0, out := [⟨4, 3, []⟩] }), 0, by unfold HasPort; decide +kernel⟩,
    ⟨up.modPort 0 (fun z => { z with takeOver := true, busyFor := 0, out := [] }), 0, 2, by unfold HasPort; decide +kernel⟩,
    ⟨up.modPort 0 (fun z =>
      { z with lastRx := none, ver := 0x22, unacked := none, queue := [], st := if z.st.isAttached then z.st else .attached }), 0, 7, (([0,0,0]).map
      byte), ⟨by unfold HasPort; decide +kernel, by decide +kernel, by decide +kernel, by decide +kernel, fun _ hr => nomatch hr.symm.trans
      (by decide +kernel : _ = none)⟩, by decide +kernel, by unfold WireFree; decide +kernel⟩,
    ⟨up.modPort 0 (fun z =>
      { z with lastRx := none, ver := 0x22, unacked := none, queue := [], auth := some ((⟨1, ((List.range 0).map byte), 0, [], 50, none⟩ : AuthRun)), st := if z.st.isAttached then z.st else .attached }),
      0, 7, (([0,0,100,0]).map byte ++ ((List.range 0).map byte)), (⟨1, ((List.range 0).map byte), 0, [], 50, none⟩ : AuthRun),
      ⟨by unfold HasPort; decide +kernel, by decide +kernel, by decide +kernel, by decide +kernel, fun _ hr => nomatch hr.symm.trans
      (by decide +kernel : _ = none)⟩, by decide +kernel, by unfold WireFree; decide +kernel, by decide +kernel, by decide +kernel⟩,
    ⟨up.modPort 0 (fun z =>
      { z with lastRx := none, ver := 0x22, unacked := none, queue := [], st := if z.st.isAttached then z.st else .attached }), 0, 7, ((List.range
      32).map byte), ⟨by unfold HasPort; decide +kernel, by decide +kernel, by decide +kernel, by decide +kernel, fun _ hr => nomatch hr.symm.trans
      (by decide +kernel : _ = none)⟩, by decide +kernel, by unfold WireFree; decide +kernel, by decide +kernel⟩,
    ⟨(up.modPort 0 (fun z =>
      { z with lastRx := none, ver := 0x22, auth := some ((⟨2, ((List.range 5).map byte), 0, [], 50, none⟩ : AuthRun)), st := .contract })).modPort
      0 (fun z => { z with st := if z.st.isAttached then z.st else .attached }), 0, 7, ((List.range 64).map byte), (⟨2, ((List.range 5).map byte),
      0, [], 50, none⟩ : AuthRun), ⟨by unfold HasPort; decide +kernel, by decide +kernel, by decide +kernel, by decide +kernel, fun _ hr => nomatch
      hr.symm.trans (by decide +kernel : _ = none)⟩, by decide +kernel, by decide +kernel, by decide +kernel, by decide +kernel⟩,
    ⟨up.modPort 0 (fun z => { z with lastRx := none, st := if z.st.isAttached then z.st else .attached }), 0, 7, 0x7F, 1,
      ⟨by unfold HasPort; decide +kernel, by decide +kernel, by decide +kernel, by decide +kernel, fun _ hr => nomatch hr.symm.trans
      (by decide +kernel : _ = none)⟩⟩⟩

/-- The hypotheses of PortTimerRows can be met. -/
theorem test_PortTimerRows_hyps :
    (∃ (s : State) (p : Nat), HasPort s p ∧ (s.port p).st = .attached ∧ (s.port p).prov = false ∧ (s.port p).helloRx = false ∧ (s.port p).helloOut =
      false ∧ 50000 ≤ (s.port p).inState ∧ WireFree s p) ∧
    (∃ (s : State) (p : Nat), HasPort s p ∧ (s.port p).st = .negotiating ∧ (s.port p).prov = true ∧ (s.port p).reqOk = true ∧ (s.port p).readyOk =
      false ∧ 100 ≤ (s.port p).inTol ∧ WireFree s p) ∧
    (∃ (s : State) (p : Nat), HasPort s p ∧ (s.port p).st = .contract ∧ (takeCon (s.port p)).isSome = true ∧ 100 ≤ (s.port p).inTol) ∧
    (∃ (s : State) (p : Nat), HasPort s p ∧ (s.port p).st = .contract ∧ (takeCon (s.port p)).isSome = true ∧ 1000 ≤ (s.port p).outTol) ∧
    (∃ (s : State) (p : Nat), HasPort s p ∧ (s.port p).st = .negotiating ∧ 100000 ≤ (s.port p).inState) ∧
    (∃ (s : State) (p : Nat), HasPort s p ∧ (s.port p).st = .contract ∧ (s.port p).con.kind = 1 ∧ 50000 ≤ (s.port p).quiet ∧ WireFree s p) ∧
    (∃ (s : State) (p : Nat) (x : PkStat), HasPort s p ∧ (s.port p).stat = some x ∧ (s.port p).st = .contract ∧ ofPack (s.port p) = true ∧ 0x11 ≤
      (s.port p).ver ∧ (s.port p).statAsked = false ∧ 2 * statusPeriod (s.port p) ≤ x.age ∧ WireFree s p) ∧
    (∃ (s : State) (p : Nat) (x : PkStat), HasPort s p ∧ (s.port p).stat = some x ∧ (s.port p).st = .contract ∧ ofPack (s.port p) = true ∧ 90000 ≤
      x.age) ∧
    (∃ (s : State) (p : Nat), HasPort s p ∧ (s.port p).st = .swapping ∧ (s.port p).swapOld = true ∧ (s.port p).prov = true ∧ 100 ≤ (s.port p).lowRun
      ∧ WireFree s p) ∧
    (∃ (s : State) (p : Nat), HasPort s p ∧ (s.port p).noSwapOff = true ∧ 80000 ≤ (s.port p).inState) ∧
    (∃ (s : State) (p : Nat) (k : _), HasPort s p ∧ (s.port p).swapRetry = some k ∧ 10000 ≤ k ∧ (s.port p).st = .contract ∧ portOpIs (s.port p) [2]
      = true ∧ WireFree s p) ∧
    (∃ (s : State) (p : Nat), HasPort s p ∧ (s.port p).st = .hardReset ∧ (s.port p).marked = false ∧ (s.port p).markDue = true ∧ (s.port p).sending
      marker = false) ∧
    (∃ (s : State) (p : Nat), HasPort s p ∧ (s.port p).busyFor = 1 ∧ (s.port p).lastTx = some marker) ∧
    (∃ (s : State) (p : Nat), HasPort s p ∧ (s.port p).st = .hardReset ∧ s.clocked = true) ∧
    (∃ (s : State) (p : Nat), HasPort s p ∧ (s.port p).st ∈ [PtSt.detached, .attachWait]) ∧
    (∃ (s : State) (p : Nat), HasPort s p ∧ (s.port p).st ∉ [PtSt.detached, .attachWait, .hardReset] ∧ s.clocked = true) ∧
    (∃ (s : State) (p : Nat), HasPort s p ∧ (s.port p).st = .safe0 ∧ 100 ≤ (s.port p).lowRun ∧ partnerSeen (defaultProv s p) (s.port p).cfgA (s.port
      p).cfgB = none) ∧
    (∃ (s : State) (p : Nat) (w : _), HasPort s p ∧ (s.port p).st = .safe0 ∧ 80000 ≤ (s.port p).inState ∧ (s.port p).lowRun < 100 ∧ partnerSeen
      (defaultProv s p) (s.port p).cfgA (s.port p).cfgB = some w) ∧
    (∃ (s : State) (p : Nat) (a : AuthRun), HasPort s p ∧ (s.port p).auth = some a ∧ 200000 ≤ a.age ∧ (s.port p).st = .contract) ∧
    (∃ (s : State) (p : Nat) (o : Op) (n : _) (act : _) (st : _), HasPort s p ∧ s.opRun 0x60 n = some o ∧ o.res = p ∧ (s.port p).op = some (n, act)
      ∧ (s.port p).opDone = some st) :=
   ⟨⟨up.modPort 0 (fun z =>
     { z with st := .attached, prov := false, helloRx := false, helloOut := false, inState := 50000, unacked := none, queue := [] }), 0,
     by unfold HasPort WireFree; decide +kernel⟩,
    ⟨up.modPort 0 (fun z =>
      { z with st := .negotiating, prov := true, reqOk := true, readyOk := false, inTol := 100, unacked := none, queue := [] }), 0,
      by unfold HasPort WireFree; decide +kernel⟩,
    ⟨up.modPort 0 (fun z => { z with st := .contract, inTol := 100, con := .supply 200 100 200 5, prov := false }), 0,
      by unfold HasPort; decide +kernel⟩,
    ⟨up.modPort 0 (fun z => { z with st := .contract, outTol := 1000, con := .supply 200 100 200 5, prov := false }), 0,
      by unfold HasPort; decide +kernel⟩,
    ⟨up.modPort 0 (fun z => { z with st := .negotiating, inState := 100000 }), 0, by unfold HasPort; decide +kernel⟩,
    ⟨up.modPort 0 (fun z => { z with st := .contract, quiet := 50000, unacked := none, queue := [], con := .supply 200 100 200 5, prov := false }),
      0, by unfold HasPort WireFree; decide +kernel⟩,
    ⟨up.modPort 0 (fun z =>
      { z with stat := some (⟨none, none, none, none, none, none, none, none, none, 0, 99999⟩ : PkStat), st := .contract, ver := 0x11, statAsked := false, unacked := none, queue := [], con := .pack }),
      0, (⟨none, none, none, none, none, none, none, none, none, 0, 99999⟩ : PkStat), by unfold HasPort WireFree; decide +kernel⟩,
    ⟨up.modPort 0 (fun z =>
      { z with stat := some (⟨none, none, none, none, none, none, none, none, none, 0, 90000⟩ : PkStat), st := .contract, con := .pack }), 0,
      (⟨none, none, none, none, none, none, none, none, none, 0, 90000⟩ : PkStat), by unfold HasPort; decide +kernel⟩,
    ⟨up.modPort 0 (fun z => { z with st := .swapping, swapOld := true, prov := true, lowRun := 100, unacked := none, queue := [] }), 0,
      by unfold HasPort WireFree; decide +kernel⟩,
    ⟨up.modPort 0 (fun z => { z with inState := 80000, st := .swapping, swapOld := z.prov, takeOver := false }), 0,
      by unfold HasPort; decide +kernel⟩,
    ⟨up.modPort 0 (fun z => { z with swapRetry := some 10000, st := .contract, unacked := none, queue := [], op := some (5, 2), opDone := none }),
      0, 10000, by unfold HasPort WireFree; decide +kernel⟩,
    ⟨up.modPort 0 (fun z => { z with st := .hardReset, marked := false, markFor := none }), 0, by unfold HasPort; decide +kernel⟩,
    ⟨up.modPort 0 (fun z => { z with busyFor := 1, lastTx := some marker }), 0, by unfold HasPort; decide +kernel⟩,
    ⟨up.modPort 0 (fun z => { z with st := .hardReset }), 0, by unfold HasPort; decide +kernel⟩,
    ⟨up.modPort 0 (fun z => { z with st := .detached }), 0, by unfold HasPort; decide +kernel⟩,
    ⟨up.modPort 0 (fun z => { z with st := .attached }), 0, by unfold HasPort; decide +kernel⟩,
    ⟨(up.modPort 0 (fun z => { z with st := .safe0, lowRun := 100, cfgA := 5, cfgB := 5 })).setPar gPRT 0 PRT.PRESENT 0, 0,
      by unfold HasPort; decide +kernel⟩,
    ⟨(up.modPort 0 (fun z => { z with st := .safe0, inState := 80000, cfgA := 500, cfgB := 5, lowRun := 0 })).setPar gPRT 0 PRT.PRESENT 0, 0, (0,
      0xFF), by unfold HasPort; decide +kernel⟩,
    ⟨up.modPort 0 (fun z => { z with auth := some (⟨1, [], 0, [], 200000, none⟩ : AuthRun), st := .contract }), 0, (⟨1, [], 0, [], 200000, none⟩ :
      AuthRun), by unfold HasPort; decide +kernel⟩,
    ⟨(up.modPort 0 (fun z => { z with op := some (5, 2), opDone := some 0x13 })).modHost (fun z =>
      { z with ops := [⟨5, 0x60, .spi, 0, [], [], 4⟩] }), 0, (⟨5, 0x60, .spi, 0, [], [], 4⟩ : Op), 5, 2, 0x13, by unfold HasPort; decide +kernel⟩⟩

/-- The hypotheses of FleetLinkRows can be met. -/
theorem test_FleetLinkRows_hyps :
    (∃ (s : State) (q : Nat), HasFl s q ∧ (s.fl q).up = false ∧ 100 ≤ (s.fl q).upRun) ∧
    (∃ (s : State) (q : Nat), HasFl s q ∧ (s.fl q).up = true ∧ (3 ≤ (s.fl q).silent ∨ 16 ≤ (s.fl q).viol) ∧ (∀ k, k ≠ q → k < 3 → (s.fl k).up =
      false)) ∧
    (∃ (s : State) (q : Nat), HasFl s q ∧ (s.fl q).up = true ∧ 3 ≤ (s.fl q).silent ∧ s.fleet.st = .member ∧ isParent s q = false ∧ (∃ k, k < 3 ∧ k ≠
      q ∧ (s.fl k).up = true)) ∧
    (∃ (s : State) (q : Nat) (m : Marker) (g : FFrame) (rest : List FFrame), HasFl s q ∧ s.clocked = true ∧ (s.fl q).unacked = g :: rest ∧ g.lseq =
      m.ack ∧ (s.fl q).wait = []) ∧
    (∃ (s : State) (q : Nat) (m : Marker), HasFl s q ∧ s.clocked = true ∧ isParent s q = true ∧ s.fleet.st = .member ∧ bit m.flags 0 = false) ∧
    (∃ (s : State) (q : Nat), HasFl s q ∧ isParent s q = false) ∧
    (∃ (s : State) (q : Nat), HasFl s q ∧ s.clocked = true ∧ fle s FLE.AUTH_MODE ≠ 1) ∧
    (∃ (s : State) (q : Nat), HasFl s q ∧ (s.fl q).up = true) ∧
    (∃ (s : State) (q : Nat) (g : FFrame) (rest : List FFrame), HasFl s q ∧ (s.fl q).up = true ∧ (s.fl q).unacked = g :: rest ∧ 2 ≤ (s.fl
      q).ackAge) :=
   ⟨⟨up.modFl 0 (fun z => { z with up := false, upRun := 100 }), 0, by unfold HasFl; decide +kernel⟩,
    ⟨((up.modFl 0 (fun z => { z with up := true, silent := 3 })).modFl 1 (fun z => { z with up := false })).modFl 2 (fun z =>
      { z with up := false }), 0, by unfold HasFl; decide +kernel, by decide +kernel, by decide +kernel, (fun k h1 h2 => (by decide +kernel : ∀ k, k
      < 3 → k ≠ 0 → ((((up.modFl 0 (fun z => { z with up := true, silent := 3 })).modFl 1 (fun z => { z with up := false })).modFl 2 (fun z =>
      { z with up := false })).fl k).up = false) k h2 h1)⟩,
    ⟨((up.modFl 0 (fun z => { z with up := true, silent := 3 })).modFleet (fun z => { z with st := .member, parent := none })).modFl ((0 + 1) % 3)
      (fun z => { z with up := true }), 0, by unfold HasFl; decide +kernel, by decide +kernel, by decide +kernel, by decide +kernel,
      by decide +kernel, ⟨1, by decide +kernel⟩⟩,
    ⟨up.modFl 0 (fun z => { z with unacked := (⟨7, 0, 9, 2, 3, 0xFFFF, [1]⟩ : FFrame) :: (([] : List FFrame)), wait := [] }), 0, (⟨1234, 77, 9, 0,
      500000⟩ : Marker), (⟨7, 0, 9, 2, 3, 0xFFFF, [1]⟩ : FFrame), ([] : List FFrame), by unfold HasFl; decide +kernel⟩,
    ⟨up.modFleet (fun z => { z with parent := some 0, st := .member }), 0, (⟨1234, 77, 9, 0, 500000⟩ : Marker), by unfold HasFl; decide +kernel⟩,
    ⟨up.modFleet (fun z => { z with parent := none }), 0, by unfold HasFl; decide +kernel⟩,
    ⟨up, 0, by unfold HasFl; decide +kernel⟩,
    ⟨up.modFl 0 (fun z => { z with up := true }), 0, by unfold HasFl; decide +kernel⟩,
    ⟨up.modFl 0 (fun z => { z with up := true, unacked := (⟨7, 0, 9, 2, 3, 0xFFFF, [1]⟩ : FFrame) :: (([] : List FFrame)), ackAge := 2 }), 0, (⟨7,
      0, 9, 2, 3, 0xFFFF, [1]⟩ : FFrame), ([] : List FFrame), by unfold HasFl; decide +kernel⟩⟩

/-- The hypotheses of FleetHelloAndCheckRows can be met. -/
theorem test_FleetHelloAndCheckRows_hyps :
    (∃ (s : State) (q : Nat) (f : FHdr), TookHop s q f ∧ fle s FLE.AUTH_MODE ≠ 2 ∧ 2 ≤ fle s FLE.VER_MAX) ∧
    (∃ (s : State) (q : Nat) (f : FHdr) (pl : List Byte), TookHop s q f ∧ 2 ≤ (s.fl q).ver ∧ 1 ≤ fld pl 2 1 ∧ fld pl 2 1 ≤ 64) ∧
    (∃ (s : State) (q : Nat) (f : FHdr) (a : AuthRun), TookHop s q f ∧ (s.fl q).auth = some a ∧ a.step = 1) ∧
    (∃ (s : State) (q : Nat) (f : FHdr) (pl : List Byte), TookHop s q f ∧ 2 ≤ (s.fl q).ver ∧ 32 ≤ pl.length) ∧
    (∃ (s : State) (q : Nat) (f : FHdr) (a : AuthRun), TookHop s q f ∧ (s.fl q).auth = some a ∧ a.step = 2) ∧
    (∃ (s : State) (k : _), (s.slot (slotFor s 10 0)).cutNow = some k ∧ k ≤ 4) ∧
    (∃ (s : State) (q : Nat) (r : _), HasFl s q ∧ (s.fl q).up = true ∧ (s.fl q).auth = none ∧ (s.fl q).authRes = some r ∧ r ≠ 0 ∧ fle s
      FLE.AUTH_MODE = 2 ∧ 100000 ≤ (s.fl q).authAge) ∧
    (∃ (s : State) (q : Nat) (a : AuthRun), HasFl s q ∧ (s.fl q).auth = some a ∧ 200000 ≤ a.age) :=
   ⟨⟨((up.modFl 0 (fun z => { z with ver := 2, up := true, rxSeq := 0, loop := false, noVer := false })).modSlot (slotFor up 10 0) (fun z =>
     { z with cutNow := none })).setPar gFLE 3 FLE.VER_MAX 2, 0, (⟨0, 1, 2, 7, 0xFFFF⟩ : FHdr), ⟨by unfold Took HasFl; decide +kernel,
     by decide +kernel, fun _ hk => nomatch hk.symm.trans (by decide +kernel : _ = none)⟩, by decide +kernel, by decide +kernel⟩,
    ⟨(up.modFl 0 (fun z => { z with ver := 2, up := true, rxSeq := 0, loop := false, noVer := false })).modSlot (slotFor up 10 0) (fun z =>
      { z with cutNow := none }), 0, (⟨0, 1, 2, 7, 0xFFFF⟩ : FHdr), (([0,0,1]).map byte), ⟨by unfold Took HasFl; decide +kernel,
      by decide +kernel, fun _ hk => nomatch hk.symm.trans (by decide +kernel : _ = none)⟩, by decide +kernel, by decide +kernel,
      by decide +kernel⟩,
    ⟨(up.modFl 0 (fun z =>
      { z with ver := 2, up := true, rxSeq := 0, loop := false, noVer := false, auth := some ((⟨1, ((List.range 0).map byte), 0, [], 50, none⟩ : AuthRun)) })).modSlot
      (slotFor up 10 0) (fun z => { z with cutNow := none }), 0, (⟨0, 1, 2, 7, 0xFFFF⟩ : FHdr), (⟨1, ((List.range 0).map byte), 0, [], 50, none⟩ :
      AuthRun), ⟨by unfold Took HasFl; decide +kernel, by decide +kernel, fun _ hk => nomatch hk.symm.trans (by decide +kernel : _ = none)⟩,
      by decide +kernel, by decide +kernel⟩,
    ⟨(up.modFl 0 (fun z => { z with ver := 2, up := true, rxSeq := 0, loop := false, noVer := false })).modSlot (slotFor up 10 0) (fun z =>
      { z with cutNow := none }), 0, (⟨0, 1, 2, 7, 0xFFFF⟩ : FHdr), (rep 40 1 : List Byte), ⟨by unfold Took HasFl; decide +kernel,
      by decide +kernel, fun _ hk => nomatch hk.symm.trans (by decide +kernel : _ = none)⟩, by decide +kernel, by decide +kernel⟩,
    ⟨(up.modFl 0 (fun z =>
      { z with ver := 2, up := true, rxSeq := 0, loop := false, noVer := false, auth := some ((⟨2, ((List.range 150).map byte), 0, [], 50, none⟩ : AuthRun)) })).modSlot
      (slotFor up 10 0) (fun z => { z with cutNow := none }), 0, (⟨0, 1, 2, 7, 0xFFFF⟩ : FHdr), (⟨2, ((List.range 150).map byte), 0, [], 50, none⟩ :
      AuthRun), ⟨by unfold Took HasFl; decide +kernel, by decide +kernel, fun _ hk => nomatch hk.symm.trans (by decide +kernel : _ = none)⟩,
      by decide +kernel, by decide +kernel⟩,
    ⟨(up.modFl 0 (fun z => { z with ver := 2 })).modSlot (slotFor up 10 0) (fun z => { z with cutNow := some 4 }), 4, by decide +kernel⟩,
    ⟨(up.modFl 0 (fun z => { z with ver := 1, up := true, auth := none, authRes := some 1, authAge := 100000 })).setPar gFLE 3 FLE.AUTH_MODE 2, 0,
      1, by unfold HasFl; decide +kernel⟩,
    ⟨up.modFl 0 (fun z => { z with ver := 2, auth := some (⟨1, [], 0, [], 200000, none⟩ : AuthRun) }), 0, (⟨1, [], 0, [], 200000, none⟩ : AuthRun),
      by unfold HasFl; decide +kernel⟩⟩

/-- The hypotheses of FleetElectionRows can be met. -/
theorem test_FleetElectionRows_hyps :
    (∃ (s : State) (q : Nat) (f : FHdr) (pl : List Byte), TookHop s q f ∧ fle s FLE.AUTH_MODE ≠ 2 ∧ s.fleet.st = .joining ∧ s.fleet.best = none ∧ (∀
      k, k ≠ q → annRoot s k = none) ∧ better (fld pl 0 1, fld pl 2 8) (ownPair s) = true) ∧
    (∃ (s : State) (q : Nat) (f : FHdr) (pl : List Byte), TookHop s q f ∧ fle s FLE.AUTH_MODE ≠ 2 ∧ s.fleet.st = .member ∧ better (fld pl 0 1, fld
      pl 2 8) (bestRoot s) = true) ∧
    (∃ (s : State) (q : Nat) (f : FHdr) (pl : List Byte), Took s q f ∧ f.route = 1 ∧ isParent s q = false ∧ s.fleet.st = .root ∧ fld pl 10 1 ≤ 63 ∧
      s.fleet.members.length < 1024 ∧ fld pl 8 2 < 1024 ∧ (∀ m ∈ s.fleet.members, m.1 ≠ fld pl 8 2)) ∧
    (∃ (s : State) (q : Nat) (f : FHdr) (k : _), Took s q f ∧ f.route = 1 ∧ isParent s q = false ∧ s.fleet.st = .member ∧ s.fleet.parent = some k ∧
      k < 3 ∧ openPort s k = true) ∧
    (∃ (s : State) (q : Nat) (f : FHdr) (pl : List Byte), Took s q f ∧ f.route = 3 ∧ isParent s q = true ∧ s.fleet.st = .joining ∧ fld pl 0 8 =
      s.ident.serial ∧ fld pl 10 1 = 0) ∧
    (∃ (s : State), s.fleet.st = .joining ∧ 3000 ≤ s.fleet.annAge ∧ s.jobs.fleet.ports.length = 3) ∧
    (∃ (s : State) (k : _) (a : _), s.fleet.st = .joining ∧ s.fleet.joinAge = some a ∧ 100000 ≤ a ∧ s.fleet.parent = some k ∧ HasFl s k ∧ (s.fl
      k).up = true) ∧
    (∃ (s : State), s.fleet.st = .member ∧ 3 ≤ s.fleet.missed) ∧
    (∃ (s : State) (k : _), s.fleet.parent = some k ∧ s.fleet.st = .islanded ∧ 16 ≤ (s.fl k).rootedRun) ∧
    (∃ (s : State), s.fleet.st = .islanded ∧ fle s FLE.ELECT_WAIT ≤ s.fleet.islFor) ∧
    (∃ (s : State), s.fleet.st ≠ .linkdown ∧ 1000 ≤ s.fleet.annSent ∧ s.jobs.fleet.ports.length = 3) :=
   ⟨⟨(((((up.modFl 0 (fun z => { z with up := true, rxSeq := 0, loop := false, noVer := false, ann := none })).modSlot (slotFor up 10 0) (fun z =>
     { z with cutNow := none })).modFleet (fun z => { z with st := .joining, best := none })).modFl 1 (fun z => { z with ann := none })).modFl 2
     (fun z => { z with ann := none })).modIdent (fun z => { z with serial := 1000 }), 0, (⟨0, 1, 2, 7, 0xFFFF⟩ : FHdr), (leBytes 2 0 ++ leBytes 8 5
     ++ leBytes 2 4 ++ leBytes 4 3), ⟨by unfold Took HasFl; decide +kernel, by decide +kernel, fun _ hk => nomatch hk.symm.trans (by decide +kernel
     : _ = none)⟩, by decide +kernel, by decide +kernel,
     by decide +kernel, fun k _ => match k with | 0 => by decide +kernel | 1 => by decide +kernel | 2 => by decide +kernel | _ + 3 => rfl,
     by decide +kernel⟩,
    ⟨((up.modFl 0 (fun z => { z with up := true, rxSeq := 0, loop := false, noVer := false })).modSlot (slotFor up 10 0) (fun z =>
      { z with cutNow := none })).modFleet (fun z => { z with st := .member, best := some (1, 3) }), 0, (⟨0, 1, 2, 7, 0xFFFF⟩ : FHdr), (leBytes 2 0
      ++ leBytes 8 5 ++ leBytes 2 4 ++ leBytes 4 3), ⟨by unfold Took HasFl; decide +kernel, by decide +kernel, fun _ hk => nomatch hk.symm.trans
      (by decide +kernel : _ = none)⟩, by decide +kernel, by decide +kernel, by decide +kernel⟩,
    ⟨(up.modFl 0 (fun z => { z with up := true, rxSeq := 0, loop := false, noVer := false })).modFleet (fun z =>
      { z with parent := none, st := .root }), 0, (⟨1, 1, 2, 7, 0xFFFF⟩ : FHdr), (leBytes 8 777 ++ leBytes 2 40 ++ [byte 3, byte 2]),
      by unfold Took HasFl; decide +kernel⟩,
    ⟨((up.modFl 0 (fun z => { z with up := true, rxSeq := 0, loop := false, noVer := false })).modFleet (fun z =>
      { z with parent := some (((0 + 1) % 3)), st := .member })).modFl (((0 + 1) % 3)) (fun z =>
      { z with up := true, loop := false, noVer := false }), 0, (⟨1, 1, 2, 7, 0xFFFF⟩ : FHdr), ((0 + 1) % 3), by unfold Took HasFl; decide +kernel⟩,
    ⟨(((up.modFl 0 (fun z => { z with up := true, rxSeq := 0, loop := false, noVer := false })).modFleet (fun z =>
      { z with parent := some 0, st := .joining })).setPar gFLE 3 FLE.ADDR_PREF 9).modIdent (fun z => { z with serial := 1000 }), 0, (⟨3, 1, 2, 7,
      0xFFFF⟩ : FHdr), (leBytes 8 1000 ++ leBytes 2 9 ++ [byte 0, byte 0]), by unfold Took HasFl; decide +kernel⟩,
    ⟨up.modFleet (fun z => { z with st := .joining, annAge := 3000 }), by decide +kernel⟩,
    ⟨(up.modFleet (fun z => { z with st := .joining, joinAge := some 100000, parent := some (0) })).modFl (0) (fun z => { z with up := true }), 0,
      100000, by unfold HasFl; decide +kernel⟩,
    ⟨up.modFleet (fun z => { z with st := .member, missed := 3 }), by decide +kernel⟩,
    ⟨(up.modFleet (fun z => { z with parent := some (0), st := .islanded })).modFl (0) (fun z => { z with rootedRun := 16 }), 0, by decide +kernel⟩,
    ⟨up.modFleet (fun z => { z with st := .islanded, islFor := fle up FLE.ELECT_WAIT, addr := 5 }), by decide +kernel⟩,
    ⟨up.modFleet (fun z => { z with annSent := 1000, st := .joining }), by decide +kernel⟩⟩

/-- The hypotheses of FleetTimeAndBudgetRows can be met. -/
theorem test_FleetTimeAndBudgetRows_hyps :
    (∃ (s : State) (k : _), s.fleet.parent = some k ∧ HasFl s k ∧ (s.fl k).up = true ∧ s.fleet.st = .member ∧ fle s FLE.DELAY_PERIOD ≤
      s.fleet.delayAge) ∧
    (∃ (s : State) (q : Nat) (f : FHdr), TookHop s q f) ∧
    (∃ (s : State) (q : Nat) (f : FHdr) (t1 : _), TookHop s q f ∧ (s.fl q).t1 = some t1 ∧ (s.fl q).hops = []) ∧
    (∃ (s : State), s.fleet.st = .member ∧ s.fleet.aligned = false ∧ 1000 ≤ s.fleet.alignRun) ∧
    (∃ (s : State) (k : _), s.fleet.parent = some k ∧ HasFl s k ∧ openPort s k = true ∧ s.fleet.st = .member ∧ 2 ≤ unitVer s ∧ fle s
      FLE.BUDGET_PERIOD ≤ s.fleet.needAge) ∧
    (∃ (s : State) (q : Nat) (f : FHdr), Took s q f ∧ f.route = 1 ∧ isParent s q = false ∧ s.fleet.st = .root ∧ 2 ≤ unitVer s) ∧
    (∃ (s : State) (q : Nat) (f : FHdr) (k : _), Took s q f ∧ f.route = 1 ∧ isParent s q = false ∧ s.fleet.st = .member ∧ s.fleet.parent = some k ∧
      k < 3 ∧ openPort s k = true) ∧
    (∃ (s : State) (q : Nat) (f : FHdr) (pl : List Byte), TookBcast s q f ∧ 2 ≤ unitVer s ∧ fld pl 8 2 = 1 ∧ fld pl 10 2 = s.fleet.addr) ∧
    (∃ (s : State) (e : _) (c : _) (d : _), s.fleet.shares = some (e, c, d) ∧ e ≤ s.frame) :=
   ⟨⟨(up.modFleet (fun z => { z with parent := some (0), st := .member, delayAge := fle up FLE.DELAY_PERIOD })).modFl (0) (fun z =>
     { z with up := true }), 0, by unfold HasFl; decide +kernel⟩,
    ⟨(up.modFl 0 (fun z => { z with up := true, rxSeq := 0, loop := false, noVer := false })).modSlot (slotFor up 10 0) (fun z =>
      { z with cutNow := none }), 0, (⟨0, 1, 2, 7, 0xFFFF⟩ : FHdr), ⟨by unfold Took HasFl; decide +kernel, by decide +kernel, fun _ hk => nomatch
      hk.symm.trans (by decide +kernel : _ = none)⟩⟩,
    ⟨(up.modFl 0 (fun z => { z with up := true, rxSeq := 0, loop := false, noVer := false, t1 := some 100, hops := [] })).modSlot (slotFor up 10 0)
      (fun z => { z with cutNow := none }), 0, (⟨0, 1, 2, 7, 0xFFFF⟩ : FHdr), 100, ⟨by unfold Took HasFl; decide +kernel, by decide +kernel, fun _
      hk => nomatch hk.symm.trans (by decide +kernel : _ = none)⟩, by decide +kernel, by decide +kernel⟩,
    ⟨up.modFleet (fun z => { z with st := .member, aligned := false, alignRun := 1000 }), by decide +kernel⟩,
    ⟨((((up.modFleet (fun z => { z with parent := some (0), st := .member, needAge := fle up FLE.BUDGET_PERIOD })).modFl (0) (fun z =>
      { z with up := true, loop := false, noVer := false })).modFl 0 (fun z => { z with ver := 2 })).modFl 1 (fun z => { z with ver := 2 })).modFl 2
      (fun z => { z with ver := 2 }), 0, by unfold HasFl; decide +kernel⟩,
    ⟨((((up.modFl 0 (fun z => { z with up := true, rxSeq := 0, loop := false, noVer := false, ver := 2 })).modFleet (fun z =>
      { z with parent := none, st := .root, needs := [] })).modFl 1 (fun z => { z with ver := 2 })).modFl 2 (fun z => { z with ver := 2 })).setPar
      gFLE 3 FLE.VER_MAX 2, 0, (⟨1, 1, 2, 7, 0xFFFF⟩ : FHdr), by unfold Took HasFl; decide +kernel⟩,
    ⟨((((up.modFl 0 (fun z => { z with up := true, rxSeq := 0, loop := false, noVer := false, ver := 2 })).modFleet (fun z =>
      { z with parent := some (((0 + 1) % 3)), st := .member })).modFl (((0 + 1) % 3)) (fun z =>
      { z with up := true, loop := false, noVer := false })).modFl 1 (fun z => { z with ver := 2 })).modFl 2 (fun z => { z with ver := 2 }), 0, (⟨1,
      1, 2, 7, 0xFFFF⟩ : FHdr), ((0 + 1) % 3), by unfold Took HasFl; decide +kernel⟩,
    ⟨(((up.modFl 0 (fun z => { z with up := true, rxSeq := 0, loop := false, noVer := false, ver := 2 })).modFleet (fun z =>
      { z with st := .member, parent := some 0, gaps := [], bseen := true, bseq := 32, addr := 12 })).modFl 1 (fun z => { z with ver := 2 })).modFl
      2 (fun z => { z with ver := 2 }), 0, (⟨2, 1, 2, 7, 33⟩ : FHdr), (leBytes 8 200000 ++ leBytes 2 1 ++ leBytes 2 12 ++ leBytes 4 50 ++ leBytes 4
      60), by unfold TookBcast Took HasFl; decide +kernel⟩,
    ⟨up.modFleet (fun z => { z with shares := some (50, 60, 70) }), 50, 60, 70, by decide +kernel⟩⟩

/-- The hypotheses of FleetBroadcastRows can be met. -/
theorem test_FleetBroadcastRows_hyps :
    (∃ (s : State) (q : Nat) (f : FHdr) (pl : List Byte), TookBcast s q f ∧ s.frame + 2 ≤ fld pl 8 8 ∧ s.host.tide.length < 16 ∧ fld pl 2 1 ≠ 0) ∧
    (∃ (s : State) (q : Nat) (f : FHdr) (pl : List Byte), TookBcast s q f ∧ fld pl 8 8 < s.frame + 2) ∧
    (∃ (s : State) (q : Nat) (f : FHdr) (pl : List Byte), Took s q f ∧ f.route = 1 ∧ isParent s q = false ∧ s.fleet.st = .root ∧ s.frame + 2 ≤ fld
      pl 8 8 ∧ s.host.tide.length < 16 ∧ fld pl 2 1 ≠ 0) ∧
    (∃ (s : State) (q : Nat) (f : FHdr) (pl : List Byte) (x : Tide), TookBcast s q f ∧ s.host.tide = [x] ∧ x.lid = fld pl 0 2) ∧
    (∃ (s : State) (q : Nat) (f : FHdr), TookBcast s q f) ∧
    (∃ (s : State) (q : Nat) (f : FHdr) (pl : List Byte) (h : _) (l : _), Took s q f ∧ f.route = 1 ∧ isParent s q = false ∧ h = bit (fld pl 0 1) 0 ∧
      l = (if bit (fld pl 0 1) 1 then none else some (fld pl 2 2))) ∧
    (∃ (s : State) (q : Nat) (f : FHdr) (b : _) (n : _) (a : _) (w : _), TookBcast s q f ∧ s.fleet.bars = [(b, n, a, w)] ∧ (s.opRun 0x72 n).isSome =
      true) ∧
    (∃ (s : State) (b : _) (n : _) (a : _) (w : _), s.fleet.bars = [(b, n, a, w)] ∧ w ≤ a ∧ (s.opRun 0x72 n).isSome = true) ∧
    (∃ (s : State) (q : Nat) (f : FHdr) (pl : List Byte) (k : FFrame), TookHop s q f ∧ s.fleet.kept.find? (fun k => k.dst = fld pl 0 2) = some k) ∧
    (∃ (s : State) (q : Nat) (f : FHdr) (typ : _), Took s q f ∧ f.route = 0 ∧ typ ≠ Eli.DELAY_REQ ∧ typ ≠ Eli.DELAY_RESP) ∧
    (∃ (s : State) (q : Nat) (f : FHdr) (k : _), Took s q f ∧ f.route = 3 ∧ f.dst ≠ s.fleet.addr ∧ routePort s f.dst = some k ∧ k < 3) :=
   ⟨⟨((up.modFl 0 (fun z => { z with up := true, rxSeq := 0, loop := false, noVer := false })).modFleet (fun z =>
     { z with st := .member, parent := some 0, gaps := [], bseen := true, bseq := 32 })).modHost (fun z => { z with tide := [] }), 0, (⟨2, 1, 2, 7,
     33⟩ : FHdr), (leBytes 2 77 ++ [byte 5, byte 1] ++ leBytes 4 9 ++ leBytes 8 ((((up.modFl 0 (fun z =>
     { z with up := true, rxSeq := 0, loop := false, noVer := false })).modFleet (fun z =>
     { z with st := .member, parent := some 0, gaps := [], bseen := true, bseq := 32 })).modHost (fun z => { z with tide := [] })).frame + 2)),
     by unfold TookBcast Took HasFl; decide +kernel⟩,
    ⟨(up.modFl 0 (fun z => { z with up := true, rxSeq := 0, loop := false, noVer := false })).modFleet (fun z =>
      { z with st := .member, parent := some 0, gaps := [], bseen := true, bseq := 32 }), 0, (⟨2, 1, 2, 7, 33⟩ : FHdr), (leBytes 2 77 ++ [byte 5,
      byte 1] ++ leBytes 4 9 ++ leBytes 8 (((up.modFl 0 (fun z => { z with up := true, rxSeq := 0, loop := false, noVer := false })).modFleet (fun z
      => { z with st := .member, parent := some 0, gaps := [], bseen := true, bseq := 32 })).frame + 1)),
      by unfold TookBcast Took HasFl; decide +kernel⟩,
    ⟨((up.modFl 0 (fun z => { z with up := true, rxSeq := 0, loop := false, noVer := false })).modFleet (fun z =>
      { z with parent := none, st := .root })).modHost (fun z => { z with tide := [] }), 0, (⟨1, 1, 2, 7, 0xFFFF⟩ : FHdr), (leBytes 2 77 ++ [byte 5,
      byte 1] ++ leBytes 4 9 ++ leBytes 8 ((((up.modFl 0 (fun z => { z with up := true, rxSeq := 0, loop := false, noVer := false })).modFleet (fun
      z => { z with parent := none, st := .root })).modHost (fun z => { z with tide := [] })).frame + 2)), by unfold Took HasFl; decide +kernel⟩,
    ⟨((up.modFl 0 (fun z => { z with up := true, rxSeq := 0, loop := false, noVer := false })).modFleet (fun z =>
      { z with st := .member, parent := some 0, gaps := [], bseen := true, bseq := 32 })).modHost (fun z =>
      { z with tide := [(⟨77, 3, 1, 0, 4, (up.frame + 0), false⟩ : Tide)] }), 0, (⟨2, 1, 2, 7, 33⟩ : FHdr), (leBytes 2 77 ++ [byte 5, byte 1] ++
      leBytes 4 9 ++ leBytes 8 0), (⟨77, 3, 1, 0, 4, (up.frame + 0), false⟩ : Tide), by unfold TookBcast Took HasFl; decide +kernel⟩,
    ⟨(up.modFl 0 (fun z => { z with up := true, rxSeq := 0, loop := false, noVer := false })).modFleet (fun z =>
      { z with st := .member, parent := some 0, gaps := [], bseen := true, bseq := 32 }), 0, (⟨2, 1, 2, 7, 33⟩ : FHdr),
      by unfold TookBcast Took HasFl; decide +kernel⟩,
    ⟨(((up.modFl 0 (fun z => { z with up := true, rxSeq := 0, loop := false, noVer := false })).modFleet (fun z => { z with parent := none })).flUp
      1).flUp 2, 0, (⟨1, 1, 2, 7, 0xFFFF⟩ : FHdr), (([0,0,5,0]).map byte), (bit (fld ((([0,0,5,0]).map byte)) 0 1) 0), (if bit (fld
      ((([0,0,5,0]).map byte)) 0 1) 1 then none else some (fld ((([0,0,5,0]).map byte)) 2 2)), by unfold Took HasFl; decide +kernel⟩,
    ⟨((up.modFl 0 (fun z => { z with up := true, rxSeq := 0, loop := false, noVer := false })).modFleet (fun z =>
      { z with st := .member, parent := some 0, gaps := [], bseen := true, bseq := 32, bars := [(50, 6, 5, 10)] })).modHost (fun z =>
      { z with ops := z.ops ++ [⟨6, 0x72, .spi, 0, [], [], 5⟩] }), 0, (⟨2, 1, 2, 7, 33⟩ : FHdr), 50, 6, 5, 10,
      by unfold TookBcast Took HasFl; decide +kernel⟩,
    ⟨(up.modFleet (fun z => { z with bars := [(50, 6, 10, 10)] })).modHost (fun z => { z with ops := z.ops ++ [⟨6, 0x72, .spi, 0, [], [], 5⟩] }),
      50, 6, 10, 10, by decide +kernel⟩,
    ⟨((up.modFl 0 (fun z => { z with up := true, rxSeq := 0, loop := false, noVer := false })).modSlot (slotFor up 10 0) (fun z =>
      { z with cutNow := none })).modFleet (fun z => { z with kept := [⟨7, 2, 5, 2, 9, 34, [5]⟩, ⟨7, 2, 5, 2, 9, 33, [4]⟩] }), 0, (⟨0, 1, 2, 7,
      0xFFFF⟩ : FHdr), (leBytes 2 33), (⟨7, 2, 5, 2, 9, 33, [4]⟩ : FFrame), ⟨by unfold Took HasFl; decide +kernel, by decide +kernel, fun _ hk =>
      nomatch hk.symm.trans (by decide +kernel : _ = none)⟩, by decide +kernel⟩,
    ⟨up.modFl 0 (fun z => { z with up := true, rxSeq := 0, loop := false, noVer := false }), 0, (⟨0, 1, 2, 7, 0xFFFF⟩ : FHdr), 99,
      by unfold Took HasFl; decide +kernel⟩,
    ⟨(((up.modFl 0 (fun z => { z with up := true, rxSeq := 0, loop := false, noVer := false })).flUp 1).flUp 2).modFleet (fun z =>
      { z with routes := [(55, (0+1)%3)] }), 0, (⟨3, 1, 2, 7, 55⟩ : FHdr), ((0+1)%3), by unfold Took HasFl; decide +kernel⟩⟩

/-- The hypotheses of FleetCommandRows can be met. -/
theorem test_FleetCommandRows_hyps :
    (∃ (s : State) (q : Nat) (f : FHdr) (pl : List Byte) (k : _) (tag : Byte) (c1 : _) (c2 : _), Took s q f ∧ f.route = 3 ∧ f.dst = s.fleet.addr ∧
      accepts s = true ∧ s.ctl.loader = false ∧ (s.link .fleet).ver = 3 ∧ s.host.flights = [] ∧ s.fleet.inner = [] ∧ s.host.inner.replies = [] ∧
      pl.drop 6 = [2, tag, 0, 0, c1, c2] ∧ tag.toNat ≤ 47 ∧ crc16 [2, tag, 0, 0] = c1.toNat + 256 * c2.toNat ∧ fld pl 0 2 ≠ s.fleet.addr ∧ routePort
      s (fld pl 0 2) = some k ∧ HasFl s k) ∧
    (∃ (s : State) (q : Nat) (f : FHdr) (k : _), Took s q f ∧ f.route = 3 ∧ f.dst ≠ s.fleet.addr ∧ routePort s f.dst = some k ∧ k < 3) ∧
    (∃ (s : State) (q : Nat) (f : FHdr) (pl : List Byte) (o : Op) (target : _), Took s q f ∧ f.route = 3 ∧ f.dst = s.fleet.addr ∧ cmdOp s (fld pl 0
      2) = some o ∧ o.args = [fld pl 0 2, target] ∧ target ≠ 0xFFFF ∧ (∀ x ∈ s.host.ops, x.num = o.num → x = o)) ∧
    (∃ (s : State) (q : Nat) (f : FHdr) (pl : List Byte) (o : Op), Took s q f ∧ f.route = 3 ∧ f.dst = s.fleet.addr ∧ cmdOp s (fld pl 0 2) = some o ∧
      o.args = [fld pl 0 2, 0xFFFF] ∧ (listedUnits o.data).contains f.src = false) ∧
    (∃ (s : State) (n : _) (u : _) (o : Op) (opid : _), s.opRun 0x70 n = some o ∧ cmdOp s opid = some o ∧ o.args = [opid, 0xFFFF] ∧ o.since + 100000
      ≤ s.age ∧ u < 1024 ∧ s.fleet.st ≠ .root ∧ (listedUnits o.data).contains u = false ∧ (listedUnits o.data).length < s.fleet.units) ∧
    (∃ (s : State) (n : _) (o : Op) (opid : _), s.opRun 0x70 n = some o ∧ o.args = [opid, 0xFFFF] ∧ s.fleet.units ≤ (listedUnits o.data).length) ∧
    (∃ (s : State) (q : Nat) (f : FHdr), TookBcast s q f) ∧
    (∃ (s : State) (q : Nat) (f : FHdr) (pl : List Byte) (g : SnapRun), Took s q f ∧ f.route = 3 ∧ f.dst = s.fleet.addr ∧ s.fleet.snap = some g ∧
      g.frame = fld pl 4 8 ∧ g.recs.length < snapRoom s.fleet ∧ g.gone.contains (fld pl 2 2) = false ∧ (∀ x ∈ g.recs, x.1 ≠ fld pl 2 2)) ∧
    (∃ (s : State) (g : SnapRun) (n : _) (u : _), s.fleet.snap = some g ∧ g.num = n ∧ fle s FLE.SNAP_TIMEOUT ≤ g.age ∧ u < 1024 ∧ s.fleet.st ≠ .root
      ∧ g.recs.length + g.gone.length < s.fleet.units ∧ g.recs.length < snapRoom s.fleet ∧ g.gone.contains u = false ∧ (∀ x ∈ g.recs, x.1 ≠ u)) ∧
    (∃ (s : State) (g : SnapRun) (n : _) (o : Op), s.opRun 0x71 n = some o ∧ s.fleet.snap = some g ∧ g.num = n ∧ s.fleet.units ≤ g.recs.length ∧ 1 ≤
      g.recs.length) ∧
    (∃ (s : State) (q : Nat) (f : FHdr), Took s q f ∧ f.route = 1 ∧ isParent s q = false ∧ s.fleet.st = .root) ∧
    (∃ (s : State) (q : Nat) (f : FHdr), Took s q f ∧ f.route = 1 ∧ isParent s q = false ∧ s.fleet.st = .member) :=
   ⟨⟨((((((up.modFl 0 (fun z => { z with up := true, rxSeq := 0, loop := false, noVer := false })).modCtl (fun z =>
     { z with loader := false })).modLink .fleet (fun z => { z with ver := 3 })).modHost (fun z =>
     { z with flights := [], inner := { z.inner with replies := [], ver := 3 } })).modFleet (fun z =>
     { z with inner := [], addr := 12, routes := [(9, 0)] })).flUp 1).flUp 2, 0, (⟨3, 1, 2, 7, 12⟩ : FHdr), (leBytes 2 9 ++ leBytes 2 6 ++ [0, 0] ++
     [2, ((0 : Byte)), 0, 0, (byte (crc16 [2, ((0 : Byte)), 0, 0])), (byte (crc16 [2, ((0 : Byte)), 0, 0] / 256))]), 0, (0 : Byte), byte (crc16 [2,
     ((0 : Byte)), 0, 0]), byte (crc16 [2, ((0 : Byte)), 0, 0] / 256), by unfold Took HasFl; decide +kernel⟩,
    ⟨(((up.modFl 0 (fun z => { z with up := true, rxSeq := 0, loop := false, noVer := false })).flUp 1).flUp 2).modFleet (fun z =>
      { z with addr := 12, routes := [(55, (0+1)%3)] }), 0, (⟨3, 1, 2, 7, 55⟩ : FHdr), ((0+1)%3), by unfold Took HasFl; decide +kernel⟩,
    ⟨((up.modFl 0 (fun z => { z with up := true, rxSeq := 0, loop := false, noVer := false })).modFleet (fun z => { z with addr := 12 })).modHost
      (fun z => { z with ops := [(⟨6, 0x70, .spi, 0, [5, 44], [], 5⟩ : Op)] }), 0, (⟨3, 1, 2, 7, 12⟩ : FHdr), (leBytes 2 5 ++ [1, 2, 3]), (⟨6, 0x70,
      .spi, 0, [5, 44], [], 5⟩ : Op), 44, by unfold Took HasFl; decide +kernel⟩,
    ⟨((up.modFl 0 (fun z => { z with up := true, rxSeq := 0, loop := false, noVer := false })).modFleet (fun z => { z with addr := 12 })).modHost
      (fun z => { z with ops := [(⟨6, 0x70, .spi, 0, [5, 0xFFFF], [], 5⟩ : Op)] }), 0, (⟨3, 1, 2, 7, 12⟩ : FHdr), (leBytes 2 5 ++ [1, 2, 3]), (⟨6,
      0x70, .spi, 0, [5, 0xFFFF], [], 5⟩ : Op), by unfold Took HasFl; decide +kernel⟩,
    ⟨((up.modFrm (fun z => { z with age := 500000 })).modFleet (fun z => { z with addr := 12, units := 9, st := .member })).modHost (fun z =>
      { z with ops := [(⟨6, 0x70, .spi, 0, [5, 0xFFFF], [], 5⟩ : Op)] }), 6, 13, (⟨6, 0x70, .spi, 0, [5, 0xFFFF], [], 5⟩ : Op), 5,
      by decide +kernel⟩,
    ⟨(up.modFleet (fun z => { z with addr := 12, units := 1 })).modHost (fun z =>
      { z with ops := [(⟨6, 0x70, .spi, 0, [5, 0xFFFF], (leBytes 2 9 ++ [0, 0] ++ leBytes 2 11 ++ [3, 0]), 5⟩ : Op)] }), 6, (⟨6, 0x70, .spi, 0, [5,
      0xFFFF], (leBytes 2 9 ++ [0, 0] ++ leBytes 2 11 ++ [3, 0]), 5⟩ : Op), 5, by decide +kernel⟩,
    ⟨(up.modFl 0 (fun z => { z with up := true, rxSeq := 0, loop := false, noVer := false })).modFleet (fun z =>
      { z with st := .member, parent := some 0, gaps := [], bseen := true, bseq := 32 }), 0, (⟨2, 1, 2, 7, 33⟩ : FHdr),
      by unfold TookBcast Took HasFl; decide +kernel⟩,
    ⟨(up.modFl 0 (fun z => { z with up := true, rxSeq := 0, loop := false, noVer := false })).modFleet (fun z =>
      { z with snap := some ((⟨6, 5000, [(9, [1])], [], 50⟩ : SnapRun)), addr := 12 }), 0, (⟨3, 1, 2, 7, 12⟩ : FHdr), (leBytes 2 0 ++ leBytes 2 13
      ++ leBytes 8 5000), (⟨6, 5000, [(9, [1])], [], 50⟩ : SnapRun), by unfold Took HasFl; decide +kernel⟩,
    ⟨up.modFleet (fun z => { z with snap := some ((⟨6, 5000, [(9, [1])], [], 500000⟩ : SnapRun)), st := .member, units := 9 }), (⟨6, 5000, [(9,
      [1])], [], 500000⟩ : SnapRun), 6, 13, by decide +kernel⟩,
    ⟨(up.modFleet (fun z => { z with snap := some ((⟨6, 5000, [(9, [1]), (10, [2])], [], 50⟩ : SnapRun)), units := 2 })).modHost (fun z =>
      { z with ops := [(⟨6, 0x71, .spi, 0, [], [], 5⟩ : Op)] }), (⟨6, 5000, [(9, [1]), (10, [2])], [], 50⟩ : SnapRun), 6, (⟨6, 0x71, .spi, 0, [],
      [], 5⟩ : Op), by decide +kernel⟩,
    ⟨(up.modFl 0 (fun z => { z with up := true, rxSeq := 0, loop := false, noVer := false })).modFleet (fun z =>
      { z with parent := none, st := .root }), 0, (⟨1, 1, 2, 7, 0xFFFF⟩ : FHdr), by unfold Took HasFl; decide +kernel⟩,
    ⟨(up.modFl 0 (fun z => { z with up := true, rxSeq := 0, loop := false, noVer := false })).modFleet (fun z =>
      { z with parent := none, st := .member }), 0, (⟨1, 1, 2, 7, 0xFFFF⟩ : FHdr), by unfold Took HasFl; decide +kernel⟩⟩

/-- The hypotheses of RailSupervisorRows can be met. -/
theorem test_RailSupervisorRows_hyps :
    (∃ (s : State) (n : Nat), n < 8 ∧ (s.rail n).st = .ramp ∧ (s.rail n).good = true ∧ par s gSEQ n SEQ.STABLE ≤ (s.rail n).stable) ∧
    (∃ (s : State) (n : Nat), n < 8 ∧ (s.rail n).st = .ramp ∧ (s.rail n).good = false ∧ par s gSEQ n SEQ.RAMP_TIMEOUT ≤ (s.rail n).swFor) ∧
    (∃ (s : State) (n : Nat), n < 8 ∧ (s.rail n).st = .falling ∧ par s gSEQ n SEQ.FALL_TIMEOUT ≤ (s.rail n).swFor) ∧
    (∃ (s : State) (n : Nat), n < 8 ∧ (s.rail n).raw ≠ (s.rail n).good ∧ par s gSEQ n SEQ.DEBOUNCE ≤ (s.rail n).rawRun ∧ ((s.rail n).raw = true ∨
      (s.rail n).st ≠ .running) ∧ n < s.jobs.rails.rails.length) :=
   ⟨⟨up.modRail 0 (fun z => { z with st := .ramp, good := true, stable := par up gSEQ 0 SEQ.STABLE, swFor := 6 }), 0, by decide +kernel⟩,
    ⟨up.modRail 0 (fun z => { z with st := .ramp, good := false, swFor := par up gSEQ 0 SEQ.RAMP_TIMEOUT }), 0, by decide +kernel⟩,
    ⟨up.modRail 0 (fun z => { z with st := .falling, swFor := par up gSEQ 0 SEQ.FALL_TIMEOUT }), 0, by decide +kernel⟩,
    ⟨up.modRail 0 (fun z => { z with rawRun := 100000, raw := true, good := false, st := .running }), 0, by decide +kernel⟩⟩

/-- The hypotheses of RunningRailTrip can be met. -/
theorem test_RunningRailTrip_hyps :
    ∃ (s : State) (n : Nat), n < 8 ∧ s.jobs.rails.rails.length = 8 ∧ (s.rail n).st = .running ∧ (s.rail n).raw = false ∧ (s.rail n).good = true ∧
      par s gSEQ n SEQ.DEBOUNCE ≤ (s.rail n).rawRun ∧ (s.jobs.rails.st = .powerUp ∨ s.jobs.rails.st = .running) :=
   ⟨(up.modRail 0 (fun z => { z with st := .running, raw := false, good := true, rawRun := par up gSEQ 0 SEQ.DEBOUNCE })).modSeq (fun z =>
     { z with st := .powerUp }), 0, by decide +kernel⟩

/-- The hypotheses of SequencerRows can be met. -/
theorem test_SequencerRows_hyps :
    (∃ (s : State) (g : _) (k : _) (d : _), s.jobs.rails.rails.length = 8 ∧ s.jobs.rails.st = .powerUp ∧ s.jobs.rails.next = some d ∧
      s.jobs.rails.group = some g ∧ groupDelay s g ≤ d ∧ groupFrom s (g + 1) = some k) ∧
    (∃ (s : State) (g : _) (k : _), s.jobs.rails.rails.length = 8 ∧ s.jobs.rails.st = .powerDown ∧ s.jobs.rails.group = some g ∧ (∀ n ∈ railsOf s g,
      (s.rail n).st = .off) ∧ groupTop s = some k) ∧
    (∃ (s : State), s.jobs.rails.rails.length = 8 ∧ s.jobs.rails.st = .powerDown ∧ groupTop s = none ∧ s.jobs.rails.group = none) ∧
    (∃ (s : State), s.jobs.rails.rails.length = 8 ∧ s.jobs.rails.st = .tripped ∧ seqEnabled s = true ∧ tripWait s s.jobs.rails.k ≤
      s.jobs.rails.tripFor ∧ railsOff s = true) ∧
    (∃ (s : State), s.jobs.rails.rails.length = 8 ∧ s.jobs.rails.st = .tripped ∧ tripKept s = false ∧ par s gSEQ 8 SEQ.ENABLE = 0 ∧ par s gSEQ 8
      SEQ.MIN_OFF ≤ s.jobs.rails.tripFor) ∧
    (∃ (s : State), s.jobs.rails.rails.length = 8 ∧ s.jobs.rails.st = .idle ∧ s.jobs.rails.minOff = false ∧ par s gSEQ 8 SEQ.MIN_OFF ≤
      s.jobs.rails.offFor) ∧
    (∃ (s : State), s.jobs.rails.rails.length = 8 ∧ s.jobs.rails.st = .running ∧ 6000000 ≤ s.jobs.rails.runFor) :=
   ⟨⟨((((((((((((((((up.modSeq (fun z => { z with st := .powerUp, next := some 1, group := some 0 })).setPar gSEQ 0 SEQ.ORDER 0).setPar gSEQ 1
     SEQ.ORDER 0).setPar gSEQ 2 SEQ.ORDER 1).setPar gSEQ 3 SEQ.ORDER 1).setPar gSEQ 4 SEQ.ORDER 3).setPar gSEQ 5 SEQ.ORDER 3).setPar gSEQ 6
     SEQ.ORDER 255).setPar gSEQ 7 SEQ.ORDER 255).modRail 0 (fun z => { z with st := .off })).modRail 1 (fun z => { z with st := .off })).modRail 2
     (fun z => { z with st := .off })).modRail 3 (fun z => { z with st := .off })).modRail 4 (fun z => { z with st := .off })).modRail 5 (fun z =>
     { z with st := .off })).modRail 6 (fun z => { z with st := .off })).modRail 7 (fun z => { z with st := .off }), 0, 1, 1, by decide +kernel⟩,
    ⟨(((((((((((((up.modSeq (fun z => { z with st := .powerDown, group := some 3 })).setPar gSEQ 0 SEQ.ORDER 0).setPar gSEQ 1 SEQ.ORDER 0).setPar
      gSEQ 2 SEQ.ORDER 1).setPar gSEQ 3 SEQ.ORDER 1).setPar gSEQ 4 SEQ.ORDER 3).setPar gSEQ 5 SEQ.ORDER 3).setPar gSEQ 6 SEQ.ORDER 255).setPar gSEQ
      7 SEQ.ORDER 255).modRail 0 (fun z => { z with st := .running })).modRail 2 (fun z => { z with st := .running })).modRail 3 (fun z =>
      { z with st := .off })).modRail 4 (fun z => { z with st := .off })).modRail 5 (fun z => { z with st := .off }), 3, 1, by decide +kernel⟩,
    ⟨((((((((((((((((up.modSeq (fun z => { z with st := .powerDown, group := none })).setPar gSEQ 0 SEQ.ORDER 0).setPar gSEQ 1 SEQ.ORDER 0).setPar
      gSEQ 2 SEQ.ORDER 1).setPar gSEQ 3 SEQ.ORDER 1).setPar gSEQ 4 SEQ.ORDER 3).setPar gSEQ 5 SEQ.ORDER 3).setPar gSEQ 6 SEQ.ORDER 255).setPar gSEQ
      7 SEQ.ORDER 255).modRail 0 (fun z => { z with st := .off })).modRail 1 (fun z => { z with st := .off })).modRail 2 (fun z =>
      { z with st := .off })).modRail 3 (fun z => { z with st := .off })).modRail 4 (fun z => { z with st := .off })).modRail 5 (fun z =>
      { z with st := .off })).modRail 6 (fun z => { z with st := .off })).modRail 7 (fun z => { z with st := .off }), by decide +kernel⟩,
    ⟨((((((((((((((((((up.modSeq (fun z => { z with st := .tripped, tripFor := tripWait up up.jobs.rails.k })).setPar gSEQ 0 SEQ.ORDER 0).setPar
      gSEQ 1 SEQ.ORDER 0).setPar gSEQ 2 SEQ.ORDER 1).setPar gSEQ 3 SEQ.ORDER 1).setPar gSEQ 4 SEQ.ORDER 3).setPar gSEQ 5 SEQ.ORDER 3).setPar gSEQ 6
      SEQ.ORDER 255).setPar gSEQ 7 SEQ.ORDER 255).modRail 0 (fun z => { z with st := .off })).modRail 1 (fun z => { z with st := .off })).modRail 2
      (fun z => { z with st := .off })).modRail 3 (fun z => { z with st := .off })).modRail 4 (fun z => { z with st := .off })).modRail 5 (fun z =>
      { z with st := .off })).modRail 6 (fun z => { z with st := .off })).modRail 7 (fun z => { z with st := .off })).setPar gSEQ 8 SEQ.ENABLE
      1).modCtl (fun z => { z with mooring := false, state := .run }), by decide +kernel⟩,
    ⟨(((((((((((((((((up.modSeq (fun z => { z with st := .tripped, tripFor := par up gSEQ 8 SEQ.MIN_OFF })).setPar gSEQ 8 SEQ.ENABLE 0).setPar gSEQ
      0 SEQ.ORDER 0).setPar gSEQ 1 SEQ.ORDER 0).setPar gSEQ 2 SEQ.ORDER 1).setPar gSEQ 3 SEQ.ORDER 1).setPar gSEQ 4 SEQ.ORDER 3).setPar gSEQ 5
      SEQ.ORDER 3).setPar gSEQ 6 SEQ.ORDER 255).setPar gSEQ 7 SEQ.ORDER 255).modRail 0 (fun z => { z with st := .off })).modRail 1 (fun z =>
      { z with st := .off })).modRail 2 (fun z => { z with st := .off })).modRail 3 (fun z => { z with st := .off })).modRail 4 (fun z =>
      { z with st := .off })).modRail 5 (fun z => { z with st := .off })).modRail 6 (fun z => { z with st := .off })).modRail 7 (fun z =>
      { z with st := .off }), by decide +kernel⟩,
    ⟨((((((((up.modSeq (fun z => { z with st := .idle, minOff := false, offFor := par up gSEQ 8 SEQ.MIN_OFF })).setPar gSEQ 0 SEQ.ORDER 0).setPar
      gSEQ 1 SEQ.ORDER 0).setPar gSEQ 2 SEQ.ORDER 1).setPar gSEQ 3 SEQ.ORDER 1).setPar gSEQ 4 SEQ.ORDER 3).setPar gSEQ 5 SEQ.ORDER 3).setPar gSEQ 6
      SEQ.ORDER 255).setPar gSEQ 7 SEQ.ORDER 255, by decide +kernel⟩,
    ⟨up.modSeq (fun z => { z with st := .running, runFor := 6000000 }), by decide +kernel⟩⟩

/-- The hypotheses of ResetOutputRows can be met. -/
theorem test_ResetOutputRows_hyps :
    (∃ (s : State) (k : Nat) (x : Nat), k < 4 ∧ s.live = true ∧ s.jobs.rails.rst.length = 4 ∧ s.jobs.rails.rst.getD k true = true ∧
      s.jobs.rails.rstFor.getD k none = some x ∧ par s gSEQ (9 + k) SEQ.STRETCH ≤ x) ∧
    (∃ (s : State), s.jobs.rails.pulse = 1) :=
   ⟨⟨(up.modCtl (fun z => { z with clockLost := false, powerFail := false, resetLow := false })).modSeq (fun z =>
     { z with rst := rep 4 true, rstFor := rep 4 (some 100000) }), 0, 100000, by decide +kernel⟩,
    ⟨up.modSeq (fun z => { z with pulse := 1 }), by decide +kernel⟩⟩

/-- The hypotheses of SafenRows can be met. -/
theorem test_SafenRows_hyps :
    (∃ (s : State), s.live = true ∧ s.jobs.safe.hold = false) ∧
    (∃ (s : State), s.live = false ∧ s.ctl.state ≠ .moored) ∧
    (∃ (s : State), s.ctl.state = .moored) ∧
    (∃ (s : State), s.jobs.safe.hold = true ∧ s.jobs.safe.safenLow = false ∧ par s gSAF 0 SAF.SAFEN_RELEASE ≤ s.jobs.safe.highRun) :=
   ⟨⟨(((up.modCtl (fun z => { z with clockLost := false, powerFail := false, resetLow := false })).modSafe (fun z =>
     { z with hold := false })).modLane 0 (fun z => { z with st := .run })).modLane 2 (fun z => { z with st := .run }), by decide +kernel⟩,
    ⟨up.modCtl (fun z => { z with clockLost := true }), by decide +kernel⟩,
    ⟨up.modCtl (fun z => { z with state := .moored }), by decide +kernel⟩,
    ⟨up.modSafe (fun z => { z with hold := true, safenLow := false, highRun := par up gSAF 0 SAF.SAFEN_RELEASE }), by decide +kernel⟩⟩

/-- The hypotheses of ProtectionRows can be met. -/
theorem test_ProtectionRows_hyps :
    (∃ (s : State) (k : _) (n : _), selvOk s = true ∧ s.live = true ∧ k ≤ 3 ∧ chanPresent s k = true ∧ twoAbove s k (100 * selvField s .inVmax k) =
      true ∧ laneOfInput s k = some n ∧ (s.lane n).st = .run ∧ (s.src k).st = .ready) ∧
    (∃ (s : State) (k : _), selvOk s = true ∧ s.live = true ∧ k ≤ 3 ∧ chanPresent s k = true ∧ twoAbove s k (100 * selvField s .inVmax k) = true ∧
      laneOfInput s k = none) ∧
    (∃ (s : State) (p : _) (n : _), selvOk s = true ∧ s.live = true ∧ p ≤ 3 ∧ chanPresent s (8 + p) = true ∧ twoAbove s (8 + p) (100 * selvField s
      .ppVmax p) = true ∧ laneOfPort s p = some n ∧ (s.lane n).st = .run) ∧
    (∃ (s : State), selvOk s = true ∧ s.live = true ∧ s.jobs.safe.link.on = false ∧ twoAbove s 16 (105 * selvField s .linkVmax 0) = true) ∧
    (∃ (s : State) (k : _) (T : _), selvOk s = true ∧ s.live = true ∧ k < nTs s ∧ s.jobs.safe.stage.length = 8 ∧ (s.jobs.safe.stage.getD k {}).on =
      false ∧ (s.pin k).temp = some T ∧ 10 * (selvField s .tstage 0 : Int) < T) ∧
    (∃ (s : State), s.live = true ∧ s.jobs.safe.die.on = false ∧ 13500 < s.jobs.sense.die) ∧
    (∃ (s : State), s.jobs.safe.link.on = true ∧ 1000 ≤ s.jobs.safe.link.run) ∧
    (∃ (s : State) (k : _), k < 8 ∧ (s.jobs.safe.stage.getD k {}).on = true ∧ 100000 ≤ (s.jobs.safe.stage.getD k {}).run) ∧
    (∃ (s : State), s.jobs.safe.die.on = true ∧ 100000 ≤ s.jobs.safe.die.run) :=
   ⟨⟨((((up.modCtl (fun z => { z with clockLost := false, powerFail := false, resetLow := false })).modLane 0 (fun z =>
     { z with st := .run })).modSrc 0 (fun z => { z with st := .ready })).modParams (fun z => { z with selv := selvRec })).modSense (fun z =>
     { z with chans := z.chans.set 0 { z.chans.getD 0 {} with convs := [7, 60000, 60000, 9] } }), 0, 0, by decide +kernel⟩,
    ⟨(((up.modCtl (fun z => { z with clockLost := false, powerFail := false, resetLow := false })).setPar gLN 1 LN.KIND 0).modParams (fun z =>
      { z with selv := selvRec })).modSense (fun z => { z with chans := z.chans.set 1 { z.chans.getD 1 {} with convs := [7, 60000, 60000, 9] } }),
      1, by decide +kernel⟩,
    ⟨(((up.modCtl (fun z => { z with clockLost := false, powerFail := false, resetLow := false })).modLane 3 (fun z =>
      { z with st := .run })).modParams (fun z => { z with selv := selvRec })).modSense (fun z =>
      { z with chans := z.chans.set 8 { z.chans.getD 8 {} with convs := [7, 60000, 60000, 9] } }), 0, 3, by decide +kernel⟩,
    ⟨((up.modCtl (fun z => { z with clockLost := false, powerFail := false, resetLow := false })).modParams (fun z =>
      { z with selv := selvRec })).modSense (fun z => { z with chans := z.chans.set 16 { z.chans.getD 16 {} with convs := [7, 60000, 60000, 9] } }),
      by decide +kernel⟩,
    ⟨((up.modCtl (fun z => { z with clockLost := false, powerFail := false, resetLow := false })).modPin 0 (fun z =>
      { z with temp := some 9000 })).modParams (fun z => { z with selv := selvRec }), 0, 9000, by decide +kernel⟩,
    ⟨(up.modCtl (fun z => { z with clockLost := false, powerFail := false, resetLow := false })).modSense (fun z => { z with die := 13501 }),
      by decide +kernel⟩,
    ⟨up.modSafe (fun z => { z with link := { z.link with on := true, run := 1000 } }), by decide +kernel⟩,
    ⟨up.modSafe (fun z => { z with stage := z.stage.set 0 { on := true, run := 100000 } }), 0, by decide +kernel⟩,
    ⟨up.modSafe (fun z => { z with die := { z.die with on := true, run := 100000 } }), by decide +kernel⟩⟩

/-- The hypotheses of ControllerStateRows can be met. -/
theorem test_ControllerStateRows_hyps :
    (∃ (s : State), s.live = true ∧ safetyRuns s = true ∧ wdCounts s = true ∧ par s gSAF 0 SAF.WD_EN = 1 ∧ wdClose s ≤ s.jobs.safe.elapsed ∧
      s.jobs.safe.fired = false) ∧
    (∃ (s : State) (w : LiveW), s.jobs.frm.running = true ∧ s.host.lives = [w] ∧ w.id = pid gSAF 0 SAF.HALT_REQ ∧ w.ws = [0x4854] ∧ w.eff ≤
      s.swapFrame ∧ s.host.stitched = [] ∧ s.ctl.state ≠ .halt) ∧
    (∃ (s : State), s.live = true ∧ s.jobs.frm.committed = true ∧ s.ctl.resetReq = none) ∧
    (∃ (s : State), s.live = true ∧ s.jobs.frm.committed = false ∧ s.jobs.frm.fresh = false ∧ safetyRuns s = false) ∧
    (∃ (s : State) (k : _), s.live = true ∧ s.jobs.frm.committed = false ∧ s.jobs.frm.fresh = false ∧ safetyRuns s = true ∧ s.ctl.wantHalt = some k
      ∧ s.ctl.state ≠ .halt ∧ s.mods.length = 16 ∧ s.jobs.rails.rails.length = 8) ∧
    (∃ (s : State), s.live = true ∧ s.jobs.frm.committed = false ∧ s.jobs.frm.fresh = false ∧ safetyRuns s = true ∧ s.ctl.wantHalt = none ∧
      s.ctl.wantSafe = true ∧ s.ctl.state = .run) ∧
    (∃ (s : State), s.live = true ∧ s.jobs.frm.committed = false ∧ s.jobs.frm.fresh = false ∧ safetyRuns s = true ∧ s.ctl.wantHalt = none ∧
      s.ctl.wantSafe = true ∧ s.ctl.state = .safe) ∧
    (∃ (s : State), s.live = true ∧ s.jobs.frm.committed = false ∧ s.jobs.frm.fresh = false ∧ safetyRuns s = true ∧ s.ctl.wantHalt = none ∧
      s.ctl.wantSafe = false ∧ s.ctl.state = .standby) ∧
    (∃ (s : State), s.live = true ∧ s.jobs.frm.committed = false ∧ s.jobs.frm.fresh = false ∧ safetyRuns s = true ∧ s.ctl.wantHalt = none ∧
      s.ctl.wantSafe = false ∧ s.ctl.state = .run) ∧
    (∃ (s : State), s.live = true ∧ s.jobs.frm.committed = false ∧ s.jobs.frm.fresh = false ∧ safetyRuns s = true ∧ s.ctl.wantHalt = none ∧
      s.ctl.wantSafe = false ∧ s.ctl.state = .safe) ∧
    (∃ (s : State), s.live = true ∧ s.jobs.frm.committed = false ∧ s.jobs.frm.fresh = false ∧ safetyRuns s = true ∧ s.ctl.wantHalt = none ∧
      s.ctl.wantSafe = false ∧ s.ctl.state = .halt) :=
   ⟨⟨((((up.modCtl (fun z => { z with clockLost := false, powerFail := false, resetLow := false, state := .run })).setPar gSAF 0 SAF.WD_EN
     1).modSafe (fun z => { z with elapsed := 100000000, fired := false })).modFrm (fun z =>
     { z with running := true, committed := false, fresh := false, slots := z.slots.map fun (x : Slot) => { x with cutNow := none } })).setPar gSAF
     0 SAF.WD_EN 1, by decide +kernel⟩,
    ⟨((up.modFrm (fun z =>
      { z with running := true, committed := false, fresh := false, slots := z.slots.map fun (x : Slot) => { x with cutNow := none } })).modHost
      (fun z => { z with lives := [((⟨pid gSAF 0 SAF.HALT_REQ, [0x4854], 0, (.spi, some 5)⟩ : LiveW))], stitched := [] })).modCtl (fun z =>
      { z with clockLost := false, powerFail := false, resetLow := false, state := .run, wantHalt := none }), (⟨pid gSAF 0 SAF.HALT_REQ, [0x4854],
      0, (.spi, some 5)⟩ : LiveW), by decide +kernel⟩,
    ⟨((up.modCtl (fun z =>
      { z with clockLost := false, powerFail := false, resetLow := false, resetReq := none, state := .run, wantHalt := none })).modFrm (fun z =>
      { z with committed := true, running := true, fresh := false, slots := z.slots.map fun (x : Slot) => { x with cutNow := none } })).setPar gSAF
      0 SAF.SAFEN_HALT 1, by decide +kernel⟩,
    ⟨((up.modCtl (fun z =>
      { z with clockLost := false, powerFail := false, resetLow := false, wantHalt := some 3, wantSafe := true, state := .run })).modFrm (fun z =>
      { z with committed := false, fresh := false, running := true, slots := z.slots.map fun (x : Slot) => { x with cutNow := none } })).modFrm (fun
      z => { z with slots := z.slots.map fun (x : Slot) => { x with cutNow := some 2 } }), by decide +kernel⟩,
    ⟨((((up.modCtl (fun z =>
      { z with clockLost := false, powerFail := false, resetLow := false, wantHalt := some 3, state := .run, wantSafe := true })).modFrm (fun z =>
      { z with committed := false, fresh := false, running := true, slots := z.slots.map fun (x : Slot) => { x with cutNow := none } })).modFrm (fun
      z => { z with slots := z.slots.map fun (x : Slot) => { x with consec := 0 } })).modRecords (fun z => { z with wait := [] })).setPar gSEQ 8
      SEQ.HALT_ACTION 0, 3, by decide +kernel⟩,
    ⟨((((up.modCtl (fun z =>
      { z with clockLost := false, powerFail := false, resetLow := false, wantHalt := none, wantSafe := true, state := .run })).modFrm (fun z =>
      { z with committed := false, fresh := false, running := true, slots := z.slots.map fun (x : Slot) => { x with cutNow := none } })).setPar gSEQ
      12 SEQ.SAFE_PULSE 0).modFrm (fun z => { z with slots := z.slots.map fun (x : Slot) => { x with consec := 0 } })).modSeq (fun z =>
      { z with st := .running }), by decide +kernel⟩,
    ⟨(((up.modCtl (fun z =>
      { z with clockLost := false, powerFail := false, resetLow := false, wantHalt := none, wantSafe := true, state := .safe })).modFrm (fun z =>
      { z with committed := false, fresh := false, running := true, slots := z.slots.map fun (x : Slot) => { x with cutNow := none } })).setPar gSEQ
      12 SEQ.SAFE_PULSE 0).setPar gGLB 0 GLB.OPMODE 0, by decide +kernel⟩,
    ⟨(((up.modCtl (fun z =>
      { z with clockLost := false, powerFail := false, resetLow := false, wantHalt := none, wantSafe := false, state := .standby })).modFrm (fun z
      => { z with committed := false, fresh := false, running := true, slots := z.slots.map fun (x : Slot) => { x with cutNow := none } })).setPar
      gGLB 0 GLB.OPMODE 0).modSeq (fun z => { z with st := .running }), by decide +kernel⟩,
    ⟨((up.modCtl (fun z =>
      { z with clockLost := false, powerFail := false, resetLow := false, wantHalt := none, wantSafe := false, state := .run })).modFrm (fun z =>
      { z with committed := false, fresh := false, running := true, slots := z.slots.map fun (x : Slot) => { x with cutNow := none } })).setPar gGLB
      0 GLB.OPMODE 0, by decide +kernel⟩,
    ⟨(((up.modCtl (fun z =>
      { z with clockLost := false, powerFail := false, resetLow := false, wantHalt := none, wantSafe := false, state := .safe, service := true, stitchAfter := true })).modFrm
      (fun z =>
      { z with committed := false, fresh := false, running := true, slots := z.slots.map fun (x : Slot) => { x with cutNow := none } })).setPar gGLB
      0 GLB.OPMODE 0).modJobs (fun z => { z with unit := { z.unit with fallback := true } }), by decide +kernel⟩,
    ⟨((up.modCtl (fun z =>
      { z with clockLost := false, powerFail := false, resetLow := false, wantHalt := none, wantSafe := false, state := .halt })).modFrm (fun z =>
      { z with committed := false, fresh := false, running := true, slots := z.slots.map fun (x : Slot) => { x with cutNow := none } })).setPar gGLB
      0 GLB.OPMODE 0, by decide +kernel⟩⟩

/-- The hypotheses of RecordRows can be met. -/
theorem test_RecordRows_hyps :
    (∃ (s : State) (r : _) (b : List Byte) (rest : List RecReq), s.clocked = true ∧ s.records.wait = r :: rest ∧ r.bytes = some b ∧ s.writer.busy =
      none) ∧
    (∃ (s : State), 18000000 ≤ s.records.refill) ∧
    (∃ (s : State), s.trace.st = 1 ∧ s.trace.trig = 2 ∧ s.trace.hit = false ∧ s.trace.armedAt < s.frame) ∧
    (∃ (s : State), s.trace.st = 2 ∧ traceRows s.trace.mask ≤ s.trace.rows.length) :=
   ⟨⟨(up.modRecords (fun z => { z with wait := (rq (some [1,2,3])) :: (([] : List RecReq)) })).modWriter (fun z => { z with busy := none }), rq
     (some [1,2,3]), ([1,2,3] : List Byte), ([] : List RecReq), by decide +kernel⟩,
    ⟨up.modRecords (fun z => { z with refill := 18000000 }), by decide +kernel⟩,
    ⟨up.modTrace (fun z => { z with st := 1, trig := 2, hit := false }), by decide +kernel⟩,
    ⟨up.modTrace (fun z => { z with st := 2, mask := 3, rows := rep 40000 ⟨1, [2, 3]⟩ }), by decide +kernel⟩⟩

/-- The hypotheses of TelemetryWindowRow can be met. -/
theorem test_TelemetryWindowRow_hyps :
    ∃ (s : State) (w : Nat), w < 4 ∧ s.ident.big = true ∧ s.live = true ∧ s.frame % telLen w = telLen w - 1 ∧ s.telAt.getD w 0 ≠ s.frame / telLen w
      + 1 ∧ s.telBad.getD w false = false :=
   ⟨((up.modIdent (fun z => { z with big := true })).modCtl (fun z => { z with clockLost := false, powerFail := false, resetLow := false })).modFrm
     (fun z => { z with frame := 6000000 * 5 - 1 }), 0, by decide +kernel⟩

/-- The hypotheses of ResetRows can be met. -/
theorem test_ResetRows_hyps :
    (∃ (s : State), s.ctl.state ≠ .moored ∧ (s.ctl.powerFail = false ∨ s.ctl.pfDone = true) ∧ s.ctl.clockLost = false) ∧
    (∃ (s : State), s.ctl.state = .moored) ∧
    (∃ (s : State), s.ctl.state ≠ .moored ∧ s.ctl.powerFail = true ∧ s.ctl.pfDone = false) ∧
    (∃ (s : State), s.ctl.state ≠ .moored ∧ s.ctl.powerFail = false ∧ s.ctl.clockLost = true) ∧
    (∃ (s : State) (c : _), s.live = true ∧ s.jobs.frm.committed = true ∧ s.ctl.resetReq = some c ∧ c ≠ 1) :=
   ⟨⟨up.modCtl (fun z => { z with clockLost := false }), by decide +kernel⟩,
    ⟨up.modCtl (fun z => { z with state := .moored }), by decide +kernel⟩,
    ⟨up.modCtl (fun z => { z with powerFail := true, pfDone := false }), by decide +kernel⟩,
    ⟨up.modCtl (fun z => { z with powerFail := false, clockLost := true }), by decide +kernel⟩,
    ⟨(up.modCtl (fun z => { z with clockLost := false, powerFail := false, resetLow := false, resetReq := some 3 })).modFrm (fun z =>
      { z with committed := true }), 3, by decide +kernel⟩⟩

/-- The hypotheses of BootRows can be met. -/
theorem test_BootRows_hyps :
    (∃ (s : State), s.ctl.resetLow = false ∧ s.ctl.clockLost = false ∧ s.ctl.powerFail = false ∧ s.ctl.state = .boot ∧ s.ctl.romDone = false ∧
      s.ctl.loader = false ∧ s.ctl.resetReq = none ∧ s.flash.copyReq = false ∧ fwOk s 0 = true) ∧
    (∃ (s : State), s.ctl.resetLow = false ∧ s.ctl.clockLost = false ∧ s.ctl.powerFail = false ∧ s.ctl.state = .boot ∧ s.ctl.romDone = false ∧
      s.ctl.loader = false ∧ s.ctl.resetReq = none ∧ s.flash.copyReq = false ∧ fwOk s 0 = false ∧ fwOk s 1 = false) ∧
    (∃ (s : State), s.ctl.resetLow = false ∧ s.ctl.clockLost = false ∧ s.ctl.powerFail = false ∧ s.ctl.state = .boot ∧ s.ctl.romDone = true ∧
      s.jobs.rails.st ≠ .running) :=
   ⟨⟨(up.modCtl (fun z =>
     { z with resetLow := false, clockLost := false, powerFail := false, state := .boot, romDone := false, loader := false, resetReq := none })).modFlash
     (fun z => { z with copyReq := false }), by decide +kernel⟩,
    ⟨(up.modCtl (fun z =>
      { z with resetLow := false, clockLost := false, powerFail := false, state := .boot, romDone := false, loader := false, resetReq := none })).modFlash
      (fun z => { z with copyReq := false, fw := [{}, {}] }), by decide +kernel⟩,
    ⟨up.modCtl (fun z => { z with resetLow := false, clockLost := false, powerFail := false, state := .boot, romDone := true, haltCause := 0 }),
      by decide +kernel⟩⟩

/-- The hypotheses of MooringAndRestartRows can be met. -/
theorem test_MooringAndRestartRows_hyps :
    (∃ (s : State), s.ctl.mooring = true ∧ s.ctl.state ≠ .halt ∧ (∀ n, n < nLn s → (s.lane n).st = .off) ∧ railsOff s = true ∧ s.outs.swin = rep 4
      false ∧ s.outs.swpp = rep 4 false ∧ s.outs.swlink = false ∧ (s.jobs.rails.st = .idle ∨ s.jobs.rails.st = .tripped)) ∧
    (∃ (s : State), s.live = true ∧ s.coreRuns = true ∧ s.ctl.state ≠ .boot ∧ s.ctl.supFrom + 500 ≤ s.age ∧ s.ctl.restarts = []) ∧
    (∃ (s : State), s.live = true ∧ s.coreRuns = true ∧ s.ctl.state ≠ .boot ∧ s.ctl.supFrom + 500 ≤ s.age ∧ 7 ≤ s.ctl.restarts.length ∧ (∀ a ∈
      s.ctl.restarts, s.age < a + 1000000)) ∧
    (∃ (s : State), s.live = true ∧ s.ctl.coreUp = false ∧ s.ctl.state ≠ .boot ∧ s.ctl.state ≠ .moored) :=
   ⟨⟨(((((((((((((((up.modCtl (fun z => { z with mooring := true })).modOuts (fun z =>
     { z with swin := rep 4 false, swpp := rep 4 false, swlink := false })).modLane 0 (fun z => { z with st := .off })).modLane 1 (fun z =>
     { z with st := .off })).modLane 2 (fun z => { z with st := .off })).modLane 3 (fun z => { z with st := .off })).modLane 4 (fun z =>
     { z with st := .off })).modLane 5 (fun z => { z with st := .off })).modRail 0 (fun z => { z with st := .off })).modRail 1 (fun z =>
     { z with st := .off })).modRail 2 (fun z => { z with st := .off })).modRail 3 (fun z => { z with st := .off })).modRail 4 (fun z =>
     { z with st := .off })).modRail 5 (fun z => { z with st := .off })).modRail 6 (fun z => { z with st := .off })).modRail 7 (fun z =>
     { z with st := .off }), by decide +kernel⟩,
    ⟨up.modCtl (fun z => { z with clockLost := false, powerFail := false, resetLow := false, restarts := [] }), by decide +kernel⟩,
    ⟨up.modCtl (fun z => { z with clockLost := false, powerFail := false, resetLow := false, restarts := rep 7 4500 }), by decide +kernel⟩,
    ⟨up.modCtl (fun z => { z with clockLost := false, powerFail := false, resetLow := false, coreUp := false }), by decide +kernel⟩⟩

/-- The hypotheses of ClockAndPowerRows can be met. -/
theorem test_ClockAndPowerRows_hyps :
    (∃ (s : State), s.ctl.state ≠ .moored ∧ s.ctl.clockLost = false ∧ s.ctl.powerFail = false) ∧
    (∃ (s : State), s.ctl.clockLost = true) ∧
    (∃ (s : State), s.ctl.state = .moored) ∧
    (∃ (s : State), s.ctl.state ≠ .moored ∧ s.ctl.powerFail = false) ∧
    (∃ (s : State) (r : _) (b : List Byte) (rest : List RecReq), s.ctl.powerFail = true ∧ s.ctl.pfDone = false ∧ s.records.wait = r :: rest ∧
      r.bytes = some b ∧ s.ctl.resetDue = true ∧ s.ctl.clockLost = false ∧ s.writer = {}) ∧
    (∃ (s : State) (r : _) (b : List Byte) (rest : List RecReq), s.ctl.powerFail = true ∧ s.ctl.pfDone = false ∧ s.records.wait = r :: rest ∧
      r.bytes = some b ∧ s.ctl.resetDue = false) ∧
    (∃ (s : State), s.ctl.powerFail = true ∧ s.ctl.pfDone = true) :=
   ⟨⟨up.modCtl (fun z => { z with clockLost := false, powerFail := false }), by decide +kernel⟩,
    ⟨up.modCtl (fun z => { z with clockLost := true }), by decide +kernel⟩,
    ⟨up.modCtl (fun z => { z with state := .moored }), by decide +kernel⟩,
    ⟨up.modCtl (fun z => { z with powerFail := false }), by decide +kernel⟩,
    ⟨({ ((up.modCtl (fun z => { z with powerFail := true, pfDone := false, resetDue := true, clockLost := false })).modRecords (fun z => { z with wait := (rq (some [1,2,3])) :: (([] : List RecReq)) })) with writer := {} }),
      rq (some [1,2,3]), ([1,2,3] : List Byte), ([] : List RecReq), by decide +kernel⟩,
    ⟨(up.modCtl (fun z => { z with powerFail := true, pfDone := false, resetDue := false })).modRecords (fun z =>
      { z with wait := (rq (some [1,2,3])) :: (([] : List RecReq)) }), rq (some [1,2,3]), ([1,2,3] : List Byte), ([] : List RecReq),
      by decide +kernel⟩,
    ⟨up.modCtl (fun z => { z with powerFail := true, pfDone := true }), by decide +kernel⟩⟩

/-- The hypotheses of TimerCountRows can be met. -/
theorem test_TimerCountRows_hyps :
    (∃ (s : State) (k : Nat), k < 16 ∧ s.timers.t.length = 16 ∧ timersRun s = false) ∧
    (∃ (s : State) (k : Nat), k < 16 ∧ s.timers.t.length = 16 ∧ timersRun s = true ∧ par s gTMR k TMR.SOURCE = 0 ∧ ((s.timer k).run = false ∨
      (s.timer k).frozen = true ∨ par s gTMR k TMR.MODE = 0)) ∧
    (∃ (s : State) (k : Nat) (i : TickIn) (l : _), k < 16 ∧ s.timers.t.length = 16 ∧ timersRun s = true ∧ par s gTMR k TMR.SOURCE = 2 ∧ l = (if
      i.rising then setBit i.levels i.pin else clrBit i.levels i.pin) ∧ (bits (par s gTMR k TMR.SRC_ARG) 2 0 ≠ i.pin ∨ edgeTaken (bits (par s gTMR k
      TMR.SRC_ARG) 9 8) i.rising = false)) ∧
    (∃ (s : State) (k : Nat) (i : TickIn) (l : _), k < 16 ∧ s.timers.t.length = 16 ∧ timersRun s = true ∧ par s gTMR k TMR.SOURCE = 2 ∧ l = (if
      i.rising then setBit i.levels i.pin else clrBit i.levels i.pin) ∧ bits (par s gTMR k TMR.SRC_ARG) 2 0 = i.pin ∧ edgeTaken (bits (par s gTMR k
      TMR.SRC_ARG) 9 8) i.rising = true ∧ i.events = 1 ∧ (s.timer k).run = true ∧ (s.timer k).frozen = false ∧ par s gTMR k TMR.IO_MODE ≠ 5 ∧ par s
      gTMR k TMR.PRESC = 65536 ∧ (s.timer k).acc = 0 ∧ par s gTMR k TMR.MODE = 1 ∧ (s.timer k).count < (s.timer k).period) ∧
    (∃ (s : State) (k : Nat) (i : TickIn), k < 16 ∧ s.timers.t.length = 16 ∧ timersRun s = true ∧ par s gTMR k TMR.SOURCE = 0 ∧ (s.timer k).run =
      true ∧ (s.timer k).frozen = false ∧ par s gTMR k TMR.IO_MODE ≠ 5 ∧ par s gTMR k TMR.MODE ≠ 0 ∧ (s.timer k).acc + 65536 * i.events < par s gTMR
      k TMR.PRESC) ∧
    (∃ (s : State) (k : Nat) (i : TickIn), k < 16 ∧ s.timers.t.length = 16 ∧ timersRun s = true ∧ par s gTMR k TMR.SOURCE = 0 ∧ (s.timer k).run =
      true ∧ (s.timer k).frozen = false ∧ par s gTMR k TMR.IO_MODE ≠ 5 ∧ i.events = 1 ∧ par s gTMR k TMR.PRESC = 65536 ∧ (s.timer k).acc = 0 ∧ par s
      gTMR k TMR.MODE = 1 ∧ (s.timer k).count < (s.timer k).period) ∧
    (∃ (s : State) (k : Nat) (i : TickIn), k < 16 ∧ s.timers.t.length = 16 ∧ timersRun s = true ∧ par s gTMR k TMR.SOURCE = 0 ∧ (s.timer k).run =
      true ∧ (s.timer k).frozen = false ∧ par s gTMR k TMR.IO_MODE ≠ 5 ∧ i.events = 1 ∧ par s gTMR k TMR.PRESC = 65536 ∧ (s.timer k).acc = 0 ∧ par s
      gTMR k TMR.MODE = 1 ∧ (s.timer k).period ≤ (s.timer k).count) ∧
    (∃ (s : State) (k : Nat) (i : TickIn), k < 16 ∧ s.timers.t.length = 16 ∧ timersRun s = true ∧ par s gTMR k TMR.SOURCE = 0 ∧ (s.timer k).run =
      true ∧ (s.timer k).frozen = false ∧ par s gTMR k TMR.IO_MODE ≠ 5 ∧ i.events = 1 ∧ par s gTMR k TMR.PRESC = 65536 ∧ (s.timer k).acc = 0 ∧ par s
      gTMR k TMR.MODE = 2 ∧ (s.timer k).count ≠ 0) ∧
    (∃ (s : State) (k : Nat) (i : TickIn), k < 16 ∧ s.timers.t.length = 16 ∧ timersRun s = true ∧ par s gTMR k TMR.SOURCE = 0 ∧ (s.timer k).run =
      true ∧ (s.timer k).frozen = false ∧ par s gTMR k TMR.IO_MODE ≠ 5 ∧ i.events = 1 ∧ par s gTMR k TMR.PRESC = 65536 ∧ (s.timer k).acc = 0 ∧ par s
      gTMR k TMR.MODE = 2 ∧ (s.timer k).count = 0) ∧
    (∃ (s : State) (k : Nat) (i : TickIn), k < 16 ∧ s.timers.t.length = 16 ∧ timersRun s = true ∧ par s gTMR k TMR.SOURCE = 0 ∧ (s.timer k).run =
      true ∧ (s.timer k).frozen = false ∧ par s gTMR k TMR.IO_MODE ≠ 5 ∧ i.events = 1 ∧ par s gTMR k TMR.PRESC = 65536 ∧ (s.timer k).acc = 0 ∧ par s
      gTMR k TMR.MODE = 3 ∧ (s.timer k).down = true ∧ 1 < (s.timer k).count) ∧
    (∃ (s : State) (k : Nat) (i : TickIn), k < 16 ∧ s.timers.t.length = 16 ∧ timersRun s = true ∧ par s gTMR k TMR.SOURCE = 0 ∧ (s.timer k).run =
      true ∧ (s.timer k).frozen = false ∧ par s gTMR k TMR.IO_MODE ≠ 5 ∧ i.events = 1 ∧ par s gTMR k TMR.PRESC = 65536 ∧ (s.timer k).acc = 0 ∧ par s
      gTMR k TMR.MODE = 3 ∧ (s.timer k).down = false ∧ (s.timer k).count < (s.timer k).period) ∧
    (∃ (s : State) (k : Nat) (i : TickIn), k < 16 ∧ s.timers.t.length = 16 ∧ timersRun s = true ∧ par s gTMR k TMR.SOURCE = 0 ∧ (s.timer k).run =
      true ∧ (s.timer k).frozen = false ∧ par s gTMR k TMR.IO_MODE ≠ 5 ∧ i.events = 1 ∧ par s gTMR k TMR.PRESC = 65536 ∧ (s.timer k).acc = 0 ∧ par s
      gTMR k TMR.MODE = 4 ∧ (s.timer k).count + 1 = (s.timer k).period) ∧
    (∃ (s : State) (k : Nat) (f : _) (m : _), k < 16 ∧ s.timers.t.length = 16 ∧ timersRun s = true ∧ s.timers.named = some (f, m) ∧ f ≤
      s.swapFrame) :=
   ⟨⟨up.modFrm (fun z => { z with running := false }), 2, by decide +kernel⟩,
    ⟨(up.setPar gTMR 2 TMR.SOURCE 0).modTimer 2 (fun z => { z with run := false }), 2, by decide +kernel⟩,
    ⟨(up.setPar gTMR 2 TMR.SOURCE 2).setPar gTMR 2 TMR.SRC_ARG 0x302, 2, (⟨1, 3, true, 0x81⟩ : TickIn), (if (⟨1, 3, true, 0x81⟩ : TickIn).rising
      then setBit (⟨1, 3, true, 0x81⟩ : TickIn).levels (⟨1, 3, true, 0x81⟩ : TickIn).pin else clrBit (⟨1, 3, true, 0x81⟩ : TickIn).levels (⟨1, 3,
      true, 0x81⟩ : TickIn).pin), by decide +kernel⟩,
    ⟨(((((up.setPar gTMR 2 TMR.SOURCE 2).modTimer 2 (fun z => { z with run := true, frozen := false, acc := 0, count := 5, period := 6 })).setPar
      gTMR 2 TMR.PRESC 0).setPar gTMR 2 (TMR.PRESC + 1) 1).setPar gTMR 2 TMR.MODE 1).setPar gTMR 2 TMR.SRC_ARG 0x003, 2, (⟨1, 3, true, 0x81⟩ :
      TickIn), (if (⟨1, 3, true, 0x81⟩ : TickIn).rising then setBit (⟨1, 3, true, 0x81⟩ : TickIn).levels (⟨1, 3, true, 0x81⟩ : TickIn).pin else
      clrBit (⟨1, 3, true, 0x81⟩ : TickIn).levels (⟨1, 3, true, 0x81⟩ : TickIn).pin), by decide +kernel⟩,
    ⟨((up.setPar gTMR 2 TMR.SOURCE 0).modTimer 2 (fun z => { z with run := true, frozen := false, acc := 7 })).setPar gTMR 2 TMR.MODE 1, 2, (⟨0, 3,
      true, 0x81⟩ : TickIn), by decide +kernel⟩,
    ⟨((((up.setPar gTMR 2 TMR.SOURCE 0).modTimer 2 (fun z =>
      { z with run := true, frozen := false, acc := 0, count := 5, period := 9, hits := [], cmpA := 6 })).setPar gTMR 2 TMR.PRESC 0).setPar gTMR 2
      (TMR.PRESC + 1) 1).setPar gTMR 2 TMR.MODE 1, 2, (⟨1, 3, true, 0x81⟩ : TickIn), by decide +kernel⟩,
    ⟨((((up.setPar gTMR 2 TMR.SOURCE 0).modTimer 2 (fun z => { z with run := true, frozen := false, acc := 0, count := 7, period := 7 })).setPar
      gTMR 2 TMR.PRESC 0).setPar gTMR 2 (TMR.PRESC + 1) 1).setPar gTMR 2 TMR.MODE 1, 2, (⟨1, 3, true, 0x81⟩ : TickIn), by decide +kernel⟩,
    ⟨((((up.setPar gTMR 2 TMR.SOURCE 0).modTimer 2 (fun z =>
      { z with run := true, frozen := false, acc := 0, count := 5, period := 9, cmpB := 4 })).setPar gTMR 2 TMR.PRESC 0).setPar gTMR 2 (TMR.PRESC +
      1) 1).setPar gTMR 2 TMR.MODE 2, 2, (⟨1, 3, true, 0x81⟩ : TickIn), by decide +kernel⟩,
    ⟨((((up.setPar gTMR 2 TMR.SOURCE 0).modTimer 2 (fun z => { z with run := true, frozen := false, acc := 0, count := 0 })).setPar gTMR 2 TMR.PRESC
      0).setPar gTMR 2 (TMR.PRESC + 1) 1).setPar gTMR 2 TMR.MODE 2, 2, (⟨1, 3, true, 0x81⟩ : TickIn), by decide +kernel⟩,
    ⟨((((up.setPar gTMR 2 TMR.SOURCE 0).modTimer 2 (fun z => { z with run := true, frozen := false, acc := 0, down := true, count := 2 })).setPar
      gTMR 2 TMR.PRESC 0).setPar gTMR 2 (TMR.PRESC + 1) 1).setPar gTMR 2 TMR.MODE 3, 2, (⟨1, 3, true, 0x81⟩ : TickIn), by decide +kernel⟩,
    ⟨((((up.setPar gTMR 2 TMR.SOURCE 0).modTimer 2 (fun z =>
      { z with run := true, frozen := false, acc := 0, down := false, count := 0, period := 6 })).setPar gTMR 2 TMR.PRESC 0).setPar gTMR 2
      (TMR.PRESC + 1) 1).setPar gTMR 2 TMR.MODE 3, 2, (⟨1, 3, true, 0x81⟩ : TickIn), by decide +kernel⟩,
    ⟨((((up.setPar gTMR 2 TMR.SOURCE 0).modTimer 2 (fun z => { z with run := true, frozen := false, acc := 0, period := 9, count := 8 })).setPar
      gTMR 2 TMR.PRESC 0).setPar gTMR 2 (TMR.PRESC + 1) 1).setPar gTMR 2 TMR.MODE 4, 2, (⟨1, 3, true, 0x81⟩ : TickIn), by decide +kernel⟩,
    ⟨up.modTimers (fun z => { z with named := some (90, 4) }), 2, 90, 4, by decide +kernel⟩⟩

/-- The hypotheses of TimerActionRows can be met. -/
theorem test_TimerActionRows_hyps :
    (∃ (s : State) (k : Nat) (h : TmrHit), k < 16 ∧ s.timers.t.length = 16 ∧ timersRun s = true ∧ (∀ u, u < 16 → par s gTMR u TMR.SOURCE ≠ 3) ∧
      hitOf s k 0 = some h ∧ par s gTMR k TMR.ACT_A = 1 ∧ (∀ a, (s.timer k).evAt = some a → a + 100 ≤ s.age)) ∧
    (∃ (s : State) (k : Nat) (h : TmrHit) (a : _), k < 16 ∧ s.timers.t.length = 16 ∧ timersRun s = true ∧ (∀ u, u < 16 → par s gTMR u TMR.SOURCE ≠
      3) ∧ hitOf s k 0 = some h ∧ par s gTMR k TMR.ACT_A = 1 ∧ (s.timer k).evAt = some a ∧ s.age < a + 100) ∧
    (∃ (s : State) (k : Nat) (h : TmrHit), k < 16 ∧ s.timers.t.length = 16 ∧ timersRun s = true ∧ (∀ u, u < 16 → par s gTMR u TMR.SOURCE ≠ 3) ∧
      hitOf s k 1 = some h ∧ par s gTMR k TMR.ACT_B = 4 ∧ par s gTMR k TMR.DMA_DATA = 0 ∧ (s.timer k).fifo.length < 32) ∧
    (∃ (s : State) (k : Nat) (at_ : Nat) (h : TmrHit) (u : _), k < 16 ∧ s.timers.t.length = 16 ∧ timersRun s = true ∧ (∀ u, u < 16 → par s gTMR u
      TMR.SOURCE ≠ 3) ∧ hitOf s k 2 = some h ∧ par s gTMR k TMR.ACT_TURN = 8 ∧ par s gTMR k TMR.TARGET = 2 ^ u ∧ u < 16 ∧ u ≠ k ∧ par s gTMR u
      TMR.MODE = 1 ∧ (s.timer u).frozen = false ∧ (s.timer u).stopAt ≠ some (nextCycle s at_)) ∧
    (∃ (s : State) (k : Nat) (h : TmrHit) (u : _), k < 16 ∧ s.timers.t.length = 16 ∧ timersRun s = true ∧ (∀ u, u < 16 → par s gTMR u TMR.SOURCE ≠
      3) ∧ hitOf s k 2 = some h ∧ par s gTMR k TMR.ACT_TURN = 16 ∧ par s gTMR k TMR.TARGET = 2 ^ u ∧ u < 16 ∧ u ≠ k ∧ (s.timer u).startAt = none ∧
      (s.timer u).frozen = false) ∧
    (∃ (s : State) (k : Nat) (e : EdgeIn) (m : _) (l : _), k < 16 ∧ s.timers.t.length = 16 ∧ timersRun s = true ∧ (∀ u, u < 16 → par s gTMR u
      TMR.SOURCE ≠ 3) ∧ 2 ≤ m ∧ m ≤ 4 ∧ par s gTMR k TMR.IO_MODE = m ∧ par s gTMR k TMR.IO_PIN < 8 ∧ l = (if e.rising then setBit s.timers.io (par s
      gTMR k TMR.IO_PIN) else clrBit s.timers.io (par s gTMR k TMR.IO_PIN)) ∧ ((m = 2 ∧ e.rising = false) ∨ (m = 3 ∧ e.rising = true) ∨ (s.timer
      k).frozen = true)) ∧
    (∃ (s : State) (k : Nat) (e : EdgeIn) (m : _) (l : _), k < 16 ∧ s.timers.t.length = 16 ∧ timersRun s = true ∧ (∀ u, u < 16 → par s gTMR u
      TMR.SOURCE ≠ 3) ∧ 2 ≤ m ∧ m ≤ 4 ∧ par s gTMR k TMR.IO_MODE = m ∧ par s gTMR k TMR.IO_PIN < 8 ∧ l = (if e.rising then setBit s.timers.io (par s
      gTMR k TMR.IO_PIN) else clrBit s.timers.io (par s gTMR k TMR.IO_PIN)) ∧ ((m = 2 ∧ e.rising = true) ∨ (m = 3 ∧ e.rising = false) ∨ m = 4) ∧
      (s.timer k).frozen = false ∧ par s gTMR k TMR.ACT_CAP = 0) ∧
    (∃ (s : State) (k : Nat) (c : _), k < 16 ∧ s.timers.t.length = 16 ∧ timersRun s = true ∧ (∀ u, u < 16 → par s gTMR u TMR.SOURCE ≠ 3) ∧ (s.timer
      k).conv.isSome = true ∧ (s.timer k).slot = some c ∧ convWaits s k = false ∧ (s.timer k).fifo.length < 32) ∧
    (∃ (s : State) (k : Nat) (c : _), k < 16 ∧ s.timers.t.length = 16 ∧ timersRun s = true ∧ (∀ u, u < 16 → par s gTMR u TMR.SOURCE ≠ 3) ∧ (s.timer
      k).conv.isSome = true ∧ (s.timer k).slot = some c ∧ convWaits s k = false ∧ 32 ≤ (s.timer k).fifo.length ∧ (s.timer k).ovf = false) ∧
    (∃ (s : State) (k : Nat) (n : _), k < 16 ∧ s.timers.t.length = 16 ∧ timersRun s = true ∧ (∀ u, u < 16 → par s gTMR u TMR.SOURCE ≠ 3) ∧ (s.timer
      k).conv = some n ∧ convWaits s k = true ∧ 4 ≤ n) :=
   ⟨⟨(up.setPar gTMR 2 TMR.ACT_A 1).modTimer 2 (fun z => { z with hits := [(⟨0, false, 51, 1⟩ : TmrHit)] }), 2, (⟨0, false, 51, 1⟩ : TmrHit),
     by decide +kernel, by decide +kernel, by decide +kernel, by decide +kernel, by decide +kernel, by decide +kernel, fun _ hv => nomatch
     hv.symm.trans (by decide +kernel : _ = none)⟩,
    ⟨((up.modFrm (fun z => { z with age := 5099 })).setPar gTMR 2 TMR.ACT_A 1).modTimer 2 (fun z =>
      { z with evAt := some 5000, hits := [(⟨0, false, 51, 1⟩ : TmrHit)] }), 2, (⟨0, false, 51, 1⟩ : TmrHit), 5000, by decide +kernel⟩,
    ⟨((up.setPar gTMR 2 TMR.ACT_B 4).setPar gTMR 2 TMR.DMA_DATA 0).modTimer 2 (fun z =>
      { z with fifo := [1], hits := [(⟨1, false, 51, 1⟩ : TmrHit)] }), 2, (⟨1, false, 51, 1⟩ : TmrHit), by decide +kernel⟩,
    ⟨((((up.setPar gTMR 2 TMR.ACT_TURN 8).setPar gTMR 2 TMR.TARGET (2 ^ 3)).setPar gTMR 3 TMR.MODE 1).modTimer 3 (fun z =>
      { z with frozen := false })).modTimer 2 (fun z => { z with hits := [(⟨2, false, 51, 1⟩ : TmrHit)] }), 2, 10, (⟨2, false, 51, 1⟩ : TmrHit), 3,
      by decide +kernel⟩,
    ⟨(((up.setPar gTMR 2 TMR.ACT_TURN 16).setPar gTMR 2 TMR.TARGET (2 ^ 3)).modTimer 3 (fun z =>
      { z with startAt := none, frozen := false })).modTimer 2 (fun z => { z with hits := [(⟨2, false, 51, 1⟩ : TmrHit)] }), 2, (⟨2, false, 51, 1⟩ :
      TmrHit), 3, by decide +kernel⟩,
    ⟨((up.setPar gTMR 2 TMR.IO_MODE (2)).setPar gTMR 2 TMR.IO_MODE 2).setPar gTMR 2 TMR.IO_PIN 7, 2, (⟨9, false⟩ : EdgeIn), 2, (if (⟨9, false⟩ :
      EdgeIn).rising then setBit (((up.setPar gTMR 2 TMR.IO_MODE (2)).setPar gTMR 2 TMR.IO_MODE 2).setPar gTMR 2 TMR.IO_PIN 7).timers.io (par
      (((up.setPar gTMR 2 TMR.IO_MODE (2)).setPar gTMR 2 TMR.IO_MODE 2).setPar gTMR 2 TMR.IO_PIN 7) gTMR 2 TMR.IO_PIN) else clrBit (((up.setPar gTMR
      2 TMR.IO_MODE (2)).setPar gTMR 2 TMR.IO_MODE 2).setPar gTMR 2 TMR.IO_PIN 7).timers.io (par (((up.setPar gTMR 2 TMR.IO_MODE (2)).setPar gTMR 2
      TMR.IO_MODE 2).setPar gTMR 2 TMR.IO_PIN 7) gTMR 2 TMR.IO_PIN)), by decide +kernel⟩,
    ⟨((((up.setPar gTMR 2 TMR.IO_MODE (2)).modTimer 2 (fun z => { z with frozen := false })).setPar gTMR 2 TMR.ACT_CAP 0).setPar gTMR 2 TMR.IO_MODE
      2).setPar gTMR 2 TMR.IO_PIN 7, 2, (⟨9, true⟩ : EdgeIn), 2, (if (⟨9, true⟩ : EdgeIn).rising then setBit (((((up.setPar gTMR 2 TMR.IO_MODE
      (2)).modTimer 2 (fun z => { z with frozen := false })).setPar gTMR 2 TMR.ACT_CAP 0).setPar gTMR 2 TMR.IO_MODE 2).setPar gTMR 2 TMR.IO_PIN
      7).timers.io (par (((((up.setPar gTMR 2 TMR.IO_MODE (2)).modTimer 2 (fun z => { z with frozen := false })).setPar gTMR 2 TMR.ACT_CAP 0).setPar
      gTMR 2 TMR.IO_MODE 2).setPar gTMR 2 TMR.IO_PIN 7) gTMR 2 TMR.IO_PIN) else clrBit (((((up.setPar gTMR 2 TMR.IO_MODE (2)).modTimer 2 (fun z =>
      { z with frozen := false })).setPar gTMR 2 TMR.ACT_CAP 0).setPar gTMR 2 TMR.IO_MODE 2).setPar gTMR 2 TMR.IO_PIN 7).timers.io (par
      (((((up.setPar gTMR 2 TMR.IO_MODE (2)).modTimer 2 (fun z => { z with frozen := false })).setPar gTMR 2 TMR.ACT_CAP 0).setPar gTMR 2
      TMR.IO_MODE 2).setPar gTMR 2 TMR.IO_PIN 7) gTMR 2 TMR.IO_PIN)), by decide +kernel⟩,
    ⟨up.modTimer 2 (fun z => { z with slot := some 7, conv := some 4, ovf := false, fifo := [1] }), 2, 7, by decide +kernel⟩,
    ⟨up.modTimer 2 (fun z => { z with slot := some 7, ovf := false, conv := some 4, fifo := List.replicate 32 1 }), 2, 7, by decide +kernel⟩,
    ⟨(up.modTimer 2 (fun z => { z with conv := some 4 })).modSense (fun z =>
      { z with reqs := [⟨4, 3, 1, tmrWho 2, false, 8⟩, ⟨4, 3, 1, 5, false, 8⟩] }), 2, 4, by decide +kernel⟩⟩

/-- The hypotheses of DebuggerAndScanRows can be met. -/
theorem test_DebuggerAndScanRows_hyps :
    (∃ (s : State), s.timers.t.length = 16 ∧ par s gSEC 0 SEC.DEBUG_EN = 1 ∧ s.coreRuns = true ∧ s.live = true) ∧
    (∃ (s : State), s.timers.t.length = 16 ∧ par s gSEC 0 SEC.DEBUG_EN ≠ 1) ∧
    (∃ (s : State), s.timers.t.length = 16 ∧ s.ctl.dbgHalt = true) ∧
    (∃ (s : State), s.timers.t.length = 16 ∧ s.ctl.state = .moored) ∧
    (∃ (s : State) (ir : Jtag), s.timers.t.length = 16 ∧ s.ctl.state ≠ .moored ∧ ir ≠ .sample ∧ ir ≠ .extest) ∧
    (∃ (s : State) (ir : Jtag), s.timers.t.length = 16 ∧ s.ctl.state ≠ .moored ∧ (ir = .sample ∨ ir = .extest)) ∧
    (∃ (s : State) (x : _), s.timers.t.length = 16 ∧ s.ctl.state ≠ .moored ∧ x < 16 ∧ s.jobs.safe.safenLow = false) :=
   ⟨⟨(((up.setPar gSEC 0 SEC.DEBUG_EN 1).modCtl (fun z => { z with clockLost := false, powerFail := false, resetLow := false })).setPar gTMR 1
     TMR.DBG_FREEZE 1).setPar gTMR 15 TMR.DBG_FREEZE 1, by decide +kernel⟩,
    ⟨up, by decide +kernel⟩,
    ⟨up.modCtl (fun z => { z with dbgHalt := true }), by decide +kernel⟩,
    ⟨up.modCtl (fun z => { z with state := .moored }), by decide +kernel⟩,
    ⟨up, Jtag.bypass, by decide +kernel⟩,
    ⟨up, Jtag.sample, by decide +kernel⟩,
    ⟨up.modSafe (fun z => { z with safenLow := false }), 0, by decide +kernel⟩⟩

/-- The hypotheses of TransportWriteRows can be met. -/
theorem test_TransportWriteRows_hyps :
    (∃ (s : State) (h : Hdr) (p : _) (c : _), h.tr ≠ .fleet ∧ h.tag < 256 ∧ ((untagged s h.tr = false ∧ Packs h p c) ∨ (untagged s h.tr = true ∧
      Packs1 h p c)) ∧ h.tr = .spi) ∧
    (∃ (s : State) (h : Hdr) (p : _) (c : _), h.tr ≠ .fleet ∧ h.tag < 256 ∧ ((untagged s h.tr = false ∧ Packs h p c) ∨ (untagged s h.tr = true ∧
      Packs1 h p c)) ∧ h.tr = .i2c) ∧
    (∃ (s : State) (h : Hdr) (p : _) (c : _), h.tr ≠ .fleet ∧ h.tag < 256 ∧ ((untagged s h.tr = false ∧ Packs h p c) ∨ (untagged s h.tr = true ∧
      Packs1 h p c)) ∧ h.tr = .can ∧ accepts s = true ∧ s.host.partial_ = none) ∧
    (∃ (s : State) (h : Hdr) (o : Byte) (tg : Byte) (pay : List Byte) (crc : _) (b : _) (tag : Option Nat), accepts s = true ∧ pay.length ≤ 1024 ∧
      crc < 65536 ∧ crc16 b ≠ crc ∧ ((untagged s h.tr = false ∧ b = [o, tg] ++ leBytes 2 pay.length ++ pay ∧ tag = some tg.toNat) ∨ (untagged s h.tr
      = true ∧ b = [o] ++ leBytes 2 pay.length ++ pay ∧ tag = none)) ∧ h.tr = .spi) ∧
    (∃ (s : State) (h : Hdr) (o : Byte) (tg : Byte) (pay : List Byte) (crc : _) (b : _) (tag : Option Nat), accepts s = true ∧ pay.length ≤ 1024 ∧
      crc < 65536 ∧ crc16 b ≠ crc ∧ ((untagged s h.tr = false ∧ b = [o, tg] ++ leBytes 2 pay.length ++ pay ∧ tag = some tg.toNat) ∨ (untagged s h.tr
      = true ∧ b = [o] ++ leBytes 2 pay.length ++ pay ∧ tag = none)) ∧ h.tr = .i2c) ∧
    (∃ (s : State) (o : Byte) (tg : Byte) (rest : List Byte), accepts s = true ∧ untagged s .spi = false ∧ ((o :: tg :: rest).length ≠ fld rest 0 2
      + 6 ∨ 1024 < fld rest 0 2)) ∧
    (∃ (s : State), accepts s = false) ∧
    (∃ (s : State), accepts s = true ∧ s.host.partial_ = none) ∧
    (∃ (s : State) (q : _) (bs : List Byte) (a : _), accepts s = true ∧ s.host.partial_ = some (q, bs, a) ∧ s.age ≤ a + 1000 ∧ q < 63) ∧
    (∃ (s : State) (q : _) (bs : List Byte) (a : _) (k : _), accepts s = true ∧ s.host.partial_ = some (q, bs, a) ∧ k < 64 ∧ k ≠ (q + 1) % 64) ∧
    (∃ (s : State) (q : _) (bs : List Byte) (a : _), s.host.partial_ = some (q, bs, a) ∧ a + 1000 < s.age) ∧
    (∃ (s : State), s.host.partial_ = none) ∧
    (∃ (s : State), powered s = true ∧ (s.ctl.state ≠ .boot ∨ s.ctl.loader = true)) :=
   ⟨⟨up, (⟨.spi, 9, 0⟩ : Hdr), packet 0x02 (⟨.spi, 9, 0⟩ : Hdr).tag [], Instr.getInfo (⟨.spi, 9, 0⟩ : Hdr), by decide +kernel, by decide +kernel,
     .inl ⟨by decide +kernel, .inl ⟨rfl, rfl⟩⟩, by decide +kernel⟩,
    ⟨up, (⟨.i2c, 9, 0⟩ : Hdr), packet 0x02 (⟨.i2c, 9, 0⟩ : Hdr).tag [], Instr.getInfo (⟨.i2c, 9, 0⟩ : Hdr), by decide +kernel, by decide +kernel,
      .inl ⟨by decide +kernel, .inl ⟨rfl, rfl⟩⟩, by decide +kernel⟩,
    ⟨up.modHost (fun z => { z with partial_ := none }), (⟨.can, 9, 0⟩ : Hdr), packet 0x02 (⟨.can, 9, 0⟩ : Hdr).tag [], Instr.getInfo (⟨.can, 9, 0⟩ :
      Hdr), by decide +kernel, by decide +kernel, .inl ⟨by decide +kernel, .inl ⟨rfl, rfl⟩⟩, by decide +kernel, by decide +kernel,
      by decide +kernel⟩,
    ⟨up, (⟨.spi, 0, 0⟩ : Hdr), (2 : Byte), (9 : Byte), ([] : List Byte), ((crc16 (([((2 : Byte)), ((9 : Byte))] ++ leBytes 2 (([] : List
      Byte)).length ++ (([] : List Byte)))) + 1) % 65536), ([((2 : Byte)), ((9 : Byte))] ++ leBytes 2 (([] : List Byte)).length ++ (([] : List
      Byte))), (some ((9 : Byte)).toNat : Option Nat), by decide +kernel⟩,
    ⟨up, (⟨.i2c, 0, 0⟩ : Hdr), (2 : Byte), (9 : Byte), ([] : List Byte), ((crc16 (([((2 : Byte)), ((9 : Byte))] ++ leBytes 2 (([] : List
      Byte)).length ++ (([] : List Byte)))) + 1) % 65536), ([((2 : Byte)), ((9 : Byte))] ++ leBytes 2 (([] : List Byte)).length ++ (([] : List
      Byte))), (some ((9 : Byte)).toNat : Option Nat), by decide +kernel⟩,
    ⟨up, (2 : Byte), (9 : Byte), ([] : List Byte), by decide +kernel⟩,
    ⟨up.modCtl (fun z => { z with coreUp := false }), by decide +kernel⟩,
    ⟨up.modHost (fun z => { z with partial_ := none }), by decide +kernel⟩,
    ⟨up.modHost (fun z => { z with partial_ := some (0, (([5] : List Byte)), (up.age)) }), 0, ([5] : List Byte), up.age, by decide +kernel⟩,
    ⟨up.modHost (fun z => { z with partial_ := some (0, ((packet 0x02 9 []).take 3), (up.age)) }), 0, (packet 0x02 9 []).take 3, up.age, 0,
      by decide +kernel⟩,
    ⟨up.modHost (fun z => { z with partial_ := some (3, ((packet 0x02 9 []).take 3), 5) }), 3, (packet 0x02 9 []).take 3, 5, by decide +kernel⟩,
    ⟨up.modHost (fun z => { z with partial_ := none }), by decide +kernel⟩,
    ⟨up, by decide +kernel⟩⟩

/-- The hypotheses of TransportReadAndExpiryRows can be met. -/
theorem test_TransportReadAndExpiryRows_hyps :
    (∃ (s : State) (r : Reply) (l : List Reply), accepts s = true ∧ s.host.spi.replies = r :: l ∧ r.ready ≤ s.frame) ∧
    (∃ (s : State) (r : Reply) (l : List Reply), accepts s = true ∧ s.host.i2c.replies = r :: l ∧ r.ready ≤ s.frame) ∧
    (∃ (s : State), accepts s = false) ∧
    (∃ (s : State), accepts s = true ∧ s.host.spi.replies = []) ∧
    (∃ (s : State), s.coreRuns = true) ∧
    (∃ (s : State) (num : _) (r : Result), s.host.results.find? (fun r => r.num == num && decide (r.until_ ≤ s.age)) = some r ∧ r.opc ≠ 0x71) ∧
    (∃ (s : State) (num : _) (r : Result), s.host.results.find? (fun r => r.num == num && decide (r.until_ ≤ s.age)) = some r ∧ r.opc = 0x71) ∧
    (∃ (s : State) (num : _), (∀ r ∈ s.host.results, r.num = num → s.age < r.until_)) ∧
    (∃ (s : State) (f : Flight) (tag : _), s.host.flights = [f] ∧ f.done = false ∧ f.tr ≠ .fleet ∧ f.tag = some tag ∧ f.since + 100000 ≤ s.age ∧
      s.coreRuns = true ∧ s.live = true ∧ s.host.fresh = [] ∧ (∀ x ∈ s.host.stitches, x.owes ≠ some (f.tr, f.tag)) ∧ s.host.inner.replies = [] ∧
      s.fleet.inner = []) ∧
    (∃ (s : State) (r : Reply) (tag : _), s.host.spi.replies = [r] ∧ r.tag = some tag ∧ r.since + 1000000 ≤ s.age ∧ s.host.i2c.replies = [] ∧
      s.host.can.replies = []) ∧
    (∃ (s : State) (tr : Transport), tr ≠ .fleet ∧ (s.link tr).lastCmd + 100000 * par s gSEC 0 SEC.PRIV_IDLE ≤ s.age) :=
   ⟨⟨up.modHost (fun z => { z with spi := { z.spi with replies := (⟨some 41, 0, [1, 2], 0, true, none, 4⟩ : Reply) :: (([] : List Reply)) } }),
     (⟨some 41, 0, [1, 2], 0, true, none, 4⟩ : Reply), ([] : List Reply), by decide +kernel⟩,
    ⟨up.modHost (fun z => { z with i2c := { z.i2c with replies := (⟨some 41, 0, [1, 2], 0, true, none, 4⟩ : Reply) :: (([] : List Reply)) } }),
      (⟨some 41, 0, [1, 2], 0, true, none, 4⟩ : Reply), ([] : List Reply), by decide +kernel⟩,
    ⟨up.modCtl (fun z => { z with resetLow := true }), by decide +kernel⟩,
    ⟨up, by decide +kernel⟩,
    ⟨up, by decide +kernel⟩,
    ⟨up.modHost (fun z => { z with results := [(⟨800, 0x32, [1], false, 100⟩ : Result), ⟨801, 0x32, [1], false, 100⟩] }), 800, (⟨800, 0x32, [1],
      false, 100⟩ : Result), by decide +kernel⟩,
    ⟨(up.modHost (fun z => { z with results := [(⟨800, 0x71, [1], false, 100⟩ : Result)] })).modFleet (fun z =>
      { z with snap := some ⟨800, 5, [], [], 4⟩ }), 800, (⟨800, 0x71, [1], false, 100⟩ : Result), by decide +kernel⟩,
    ⟨up, 1, by decide +kernel⟩,
    ⟨(((up.modFrm (fun z => { z with age := 500000 })).modHost (fun z =>
      { z with flights := [(⟨.spi, some 9, 2, 4, false⟩ : Flight)], fresh := [], stitches := [], inner := { z.inner with replies := [] } })).modCtl
      (fun z => { z with clockLost := false, powerFail := false, resetLow := false })).modFleet (fun z => { z with inner := [] }), (⟨.spi, some 9,
      2, 4, false⟩ : Flight), 9, by decide +kernel⟩,
    ⟨(up.modFrm (fun z => { z with age := 5000000 })).modHost (fun z =>
      { z with spi := { z.spi with replies := [(⟨some 41, 0, [1, 2], 0, true, none, 4⟩ : Reply)] }, i2c := { z.i2c with replies := [] }, can := { z.can with replies := [] } }),
      (⟨some 41, 0, [1, 2], 0, true, none, 4⟩ : Reply), 41, by decide +kernel⟩,
    ⟨(up.modFrm (fun z => { z with age := 500000000000 })).setPar gSEC 0 SEC.PRIV_DEFAULT 0, Transport.spi, by decide +kernel⟩⟩

/-- The hypotheses of SecurityRows can be met. -/
theorem test_SecurityRows_hyps :
    (∃ (s : State) (h : Hdr) (kind : _), HostReady s h 0x48 3 0 ∧ kind ≤ 2 ∧ s.resultsHeld < 8) ∧
    (∃ (s : State) (h : Hdr) (lvl : _), HostReady s h 0x49 2 0 ∧ 1 ≤ lvl ∧ lvl ≤ 4 ∧ (s.link h.tr).lockUntil = none) ∧
    (∃ (s : State) (h : Hdr) (lvl : _) (a : _), HostReady s h 0x49 2 0 ∧ 1 ≤ lvl ∧ lvl ≤ 4 ∧ (s.link h.tr).lockUntil = some a ∧ s.age < a) ∧
    (∃ (s : State) (h : Hdr), HostReady s h 0x4A 2 0) ∧
    (∃ (s : State), s.ctl.loader = false) ∧
    (∃ (s : State) (o : Op) (num : _), s.opRun 0x48 num = some o ∧ s.coreRuns = true) ∧
    (∃ (s : State) (o : Op) (num : _) (lvl : _) (slot : _) (c : _), s.opRun 0x4A num = some o ∧ s.coreRuns = true ∧ o.args = [lvl, slot, c] ∧
      authPasses s o = true) ∧
    (∃ (s : State) (o : Op) (num : _) (lvl : _) (slot : _) (c : _), s.opRun 0x4A num = some o ∧ s.coreRuns = true ∧ o.args = [lvl, slot, c] ∧
      authPasses s o = false ∧ (s.link o.tr).fails < 4) ∧
    (∃ (s : State) (o : Op) (num : _) (lvl : _) (slot : _) (c : _), s.opRun 0x4A num = some o ∧ s.coreRuns = true ∧ o.args = [lvl, slot, c] ∧
      authPasses s o = false ∧ (s.link o.tr).fails = 4) ∧
    (∃ (s : State) (o : Op) (lvl : _) (slot : _) (key : List Byte), o.args = [lvl, slot, 1] ∧ slot ≠ 3 ∧ lvl ≤ keyGrant slot ∧ keyAt s slot = some
      key) ∧
    (∃ (s : State) (o : Op) (lvl : _) (slot : _), o.args = [lvl, slot, 1] ∧ slot ≠ 3 ∧ (keyGrant slot < lvl ∨ keyAt s slot = none)) ∧
    (∃ (s : State) (tr : Transport) (a : _), (s.link tr).lockUntil = some a ∧ a ≤ s.age) ∧
    (∃ (s : State) (k : _) (b : List Byte) (ok : _) (rest : _) (fail : _), s.host.keyJobs = (k, b) :: rest ∧ s.live = true ∧ s.coreRuns = true ∧ (4
      ≤ k → s.writer.busy = none) ∧ fail = (!ok || (decide (k < 4) && (keyAt s k).isSome))) :=
   ⟨⟨up.modHost (fun z => { z with results := [], ops := [] }), hd, 0, by unfold HostReady; decide +kernel⟩,
    ⟨up.modLink hd.tr (fun z => { z with lockUntil := none }), hd, 1, by unfold HostReady; decide +kernel⟩,
    ⟨up.modLink hd.tr (fun z => { z with lockUntil := some 100000 }), hd, 1, 100000, by unfold HostReady; decide +kernel⟩,
    ⟨up.modLink hd.tr (fun z => { z with challenge := none }), hd, by unfold HostReady; decide +kernel⟩,
    ⟨up.modCtl (fun z => { z with loader := false }), by decide +kernel⟩,
    ⟨up.modHost (fun z => { z with ops := [((⟨900, 0x48, .spi, 0, [1], ((List.range 32).map byte), 40⟩ : Op))] }), (⟨900, 0x48, .spi, 0, [1],
      ((List.range 32).map byte), 40⟩ : Op), 900, by decide +kernel⟩,
    ⟨(up.modHost (fun z => { z with ops := [((⟨900, 0x4A, .spi, 0, [3, 3, 1], ((List.range 32).map byte), 40⟩ : Op))] })).modOtp (fun z =>
      { z with key3 := none }), (⟨900, 0x4A, .spi, 0, [3, 3, 1], ((List.range 32).map byte), 40⟩ : Op), 900, 3, 3, 1, by decide +kernel⟩,
    ⟨((up.modHost (fun z => { z with ops := [((⟨900, 0x4A, .spi, 0, [2, 4, 1], ((List.range 32).map byte), 40⟩ : Op))] })).modOtp (fun z =>
      { z with key3 := none })).modLink ((⟨900, 0x4A, .spi, 0, [2, 4, 1], ((List.range 32).map byte), 40⟩ : Op)).tr (fun z =>
      { z with fails := 0 }), (⟨900, 0x4A, .spi, 0, [2, 4, 1], ((List.range 32).map byte), 40⟩ : Op), 900, 2, 4, 1, by decide +kernel⟩,
    ⟨((up.modLink ((⟨900, 0x4A, .spi, 0, [2, 4, 1], ((List.range 32).map byte), 40⟩ : Op)).tr (fun z => { z with fails := 4 })).modHost (fun z =>
      { z with ops := [((⟨900, 0x4A, .spi, 0, [2, 4, 1], ((List.range 32).map byte), 40⟩ : Op))] })).modOtp (fun z => { z with key3 := none }),
      (⟨900, 0x4A, .spi, 0, [2, 4, 1], ((List.range 32).map byte), 40⟩ : Op), 900, 2, 4, 1, by decide +kernel⟩,
    ⟨up.modFlash (fun z => { z with keys := [(4, rep 64 1)] }), (⟨900, 0x4A, .spi, 0, [2, 4, 1], (rep 96 1), 40⟩ : Op), 2, 4, (rep 64 1 : List
      Byte), by decide +kernel⟩,
    ⟨up, (⟨900, 0x4A, .spi, 0, [3, 4, 1], [], 40⟩ : Op), 3, 4, by decide +kernel⟩,
    ⟨up.modLink (Transport.i2c) (fun z => { z with lockUntil := some 100 }), Transport.i2c, 100, by decide +kernel⟩,
    ⟨(((up.modHost (fun z => { z with keyJobs := (0, ((rep 64 1 : List Byte))) :: ([(5, [1])]) })).modCtl (fun z =>
      { z with clockLost := false, powerFail := false, resetLow := false })).modWriter (fun z => { z with busy := none })).modOtp (fun z =>
      { z with key1 := none, key3 := none }), 0, (rep 64 1 : List Byte), true, [(5, [1])], (!(true) || (decide (0 < 4) && (keyAt ((((up.modHost (fun
      z => { z with keyJobs := (0, ((rep 64 1 : List Byte))) :: ([(5, [1])]) })).modCtl (fun z =>
      { z with clockLost := false, powerFail := false, resetLow := false })).modWriter (fun z => { z with busy := none })).modOtp (fun z =>
      { z with key1 := none, key3 := none })) 0).isSome)), by decide +kernel⟩⟩

/-- The hypotheses of FirmwareRows can be met. -/
theorem test_FirmwareRows_hyps :
    (∃ (s : State) (h : Hdr) (size : _), HostReady s h 0x50 2 3 ∧ 257 ≤ size ∧ size ≤ 524288 ∧ s.opHeld 0x50 (fwTarget s) = false ∧ (∀ o ∈
      s.host.ops, o.opc ≠ 0x52)) ∧
    (∃ (s : State) (h : Hdr), HostReady s h 0x50 2 3) ∧
    (∃ (s : State) (h : Hdr) (f : FwSession) (off : _) (d : List Byte), HostReady s h 0x51 2 3 ∧ s.fw = some f ∧ f.tr = h.tr ∧ off = f.bytes.length
      ∧ off + d.length ≤ f.size ∧ 1 ≤ d.length ∧ d.length ≤ 1020 ∧ f.erased = true ∧ f.writing = false ∧ s.writer.busy = none) ∧
    (∃ (s : State) (h : Hdr) (f : FwSession) (off : _) (d : List Byte), HostReady s h 0x51 2 3 ∧ s.fw = some f ∧ f.tr = h.tr ∧ off ≠ f.bytes.length
      ∧ off ≠ f.lastOff ∧ 1 ≤ d.length ∧ d.length ≤ 1020) ∧
    (∃ (s : State) (h : Hdr) (d : List Byte), HostReady s h 0x51 2 3 ∧ s.fw = none ∧ 1 ≤ d.length ∧ d.length ≤ 1020) ∧
    (∃ (s : State) (h : Hdr) (f : FwSession), HostReady s h 0x52 2 3 ∧ s.fw = some f ∧ f.tr = h.tr ∧ f.bytes.length = f.size ∧ f.writing = false ∧
      s.opHeld 0x52 f.target = false) ∧
    (∃ (s : State) (h : Hdr), HostReady s h 0x52 2 3 ∧ s.fw = none) ∧
    (∃ (s : State) (o : Op) (num : _) (f : FwSession), s.opRun 0x50 num = some o ∧ s.coreRuns = true ∧ s.fw = some f ∧ (s.writer.busy = none ∨
      s.writer.busy = some 8)) ∧
    (∃ (s : State) (f : FwSession), s.writer.busy = some 4 ∧ s.fw = some f) ∧
    (∃ (s : State) (o : Op) (num : _) (tg : _) (ver : _), s.opRun 0x52 num = some o ∧ s.coreRuns = true ∧ o.args = [tg, ver] ∧ fwVerdict s o.data
      ver = (St.OK, none) ∧ s.ctl.loader = false ∧ tg < s.flash.fw.length) ∧
    (∃ (s : State) (o : Op) (num : _) (tg : _) (ver : _), s.opRun 0x52 num = some o ∧ s.coreRuns = true ∧ o.args = [tg, ver] ∧ (fwVerdict s o.data
      ver).1 ≠ St.OK) ∧
    (∃ (s : State) (o : Op) (num : _) (tg : _) (ver : _), s.opRun 0x52 num = some o ∧ s.coreRuns = true ∧ o.args = [tg, ver]) ∧
    (∃ (s : State) (f : FwSession), s.fw = some f ∧ f.at_ + 60000000 ≤ s.age ∧ s.opHeld 0x52 f.target = false) ∧
    (∃ (s : State) (f : FwSession), s.fw = some f ∧ s.ctl.loader = false ∧ s.age < f.at_ + 60000000) :=
   ⟨⟨up.modHost (fun z => { z with results := [], ops := [] }), hd, 257, by unfold HostReady; decide +kernel⟩,
    ⟨up, hd, by unfold HostReady; decide +kernel⟩,
    ⟨((({ (up) with fw := some (⟨.spi, 1, 300, 9, [1,2,3], 2, [1], 50, false, true⟩ : FwSession) })).modWriter (fun z =>
      { z with busy := none })).modHost (fun z => { z with ops := [] }), hd, (⟨.spi, 1, 300, 9, [1,2,3], 2, [1], 50, false, true⟩ : FwSession), 3,
      (rep 1 1 : List Byte), by unfold HostReady; decide +kernel⟩,
    ⟨({ (up) with fw := some (⟨.spi, 1, 300, 9, [1,2,3], 2, [1], 50, false, true⟩ : FwSession) }), hd, (⟨.spi, 1, 300, 9, [1,2,3], 2, [1], 50,
      false, true⟩ : FwSession), 4, ([1,2] : List Byte), by unfold HostReady; decide +kernel⟩,
    ⟨({ (up) with fw := none }), hd, (rep 1 1 : List Byte), by unfold HostReady; decide +kernel⟩,
    ⟨(({ (up) with fw := some (⟨.spi, 1, 3, 9, [1,2,3], 2, [1], 50, false, true⟩ : FwSession) })).modHost (fun z =>
      { z with results := [], ops := [] }), hd, (⟨.spi, 1, 3, 9, [1,2,3], 2, [1], 50, false, true⟩ : FwSession),
      by unfold HostReady; decide +kernel⟩,
    ⟨({ (up) with fw := none }), hd, by unfold HostReady; decide +kernel⟩,
    ⟨((({ (up) with fw := some (⟨.spi, 1, 300, 9, [1,2,3], 2, [1], 50, false, false⟩ : FwSession) })).modHost (fun z =>
      { z with ops := [(⟨900, 0x50, .spi, 0, [], [], 40⟩ : Op)] })).modWriter (fun z => { z with busy := some 8 }), (⟨900, 0x50, .spi, 0, [], [],
      40⟩ : Op), 900, (⟨.spi, 1, 300, 9, [1,2,3], 2, [1], 50, false, false⟩ : FwSession), by decide +kernel⟩,
    ⟨({ (up.modWriter (fun z => { z with busy := some 4 })) with fw := some (⟨.spi, 1, 300, 9, [1,2,3], 2, [1], 50, true, true⟩ : FwSession) }),
      (⟨.spi, 1, 300, 9, [1,2,3], 2, [1], 50, true, true⟩ : FwSession), by decide +kernel⟩,
    ⟨((((up.modCtl (fun z => { z with loader := false })).modHost (fun z =>
      { z with ops := [(⟨900, 0x52, .spi, 0, [0, 9], fwImg, 40⟩ : Op)] })).modOtp (fun z =>
      { z with key0 := fwKey, key1 := none, fuses := 5 })).modFlash (fun z => { z with fw := [{}, {}] })).modIdent (fun z =>
      { z with big := true }), (⟨900, 0x52, .spi, 0, [0, 9], fwImg, 40⟩ : Op), 900, 0, 9, by decide +kernel⟩,
    ⟨(up.modHost (fun z => { z with ops := [(⟨900, 0x52, .spi, 0, [1, 9], [], 40⟩ : Op)] })).modOtp (fun z =>
      { z with key0 := fwKey, key1 := none, fuses := 0 }), (⟨900, 0x52, .spi, 0, [1, 9], [], 40⟩ : Op), 900, 1, 9, by decide +kernel⟩,
    ⟨up.modHost (fun z => { z with ops := [(⟨900, 0x52, .spi, 0, [1, 9], [1,2], 40⟩ : Op)] }), (⟨900, 0x52, .spi, 0, [1, 9], [1,2], 40⟩ : Op), 900,
      1, 9, by decide +kernel⟩,
    ⟨(({ (up) with fw := some (⟨.spi, 1, 300, 9, [1,2,3], 2, [1], 50, false, true⟩ : FwSession) })).modFrm (fun z => { z with age := 70000000 }),
      (⟨.spi, 1, 300, 9, [1,2,3], 2, [1], 50, false, true⟩ : FwSession), by decide +kernel⟩,
    ⟨(({ (up) with fw := some (⟨.spi, 1, 300, 9, [1,2,3], 2, [1], 50, false, true⟩ : FwSession) })).modCtl (fun z => { z with loader := false }),
      (⟨.spi, 1, 300, 9, [1,2,3], 2, [1], 50, false, true⟩ : FwSession), by decide +kernel⟩⟩

/-- The hypotheses of CalibrationRows can be met. -/
theorem test_CalibrationRows_hyps :
    (∃ (s : State) (h : Hdr) (c : _) (b : _), HostReady s h 0x31 2 2 ∧ c < 56 ∧ chanPresent s c = true ∧ b.length = 12 ∧ s.opHeld 0x31 c = false ∧
      alterLocked s c = false ∧ (bit (fld b 0 1) 0 = true ∨ -13107 ≤ altGain b ∧ altGain b ≤ 13107 ∧ selvOk s = false)) ∧
    (∃ (s : State) (h : Hdr) (c : _) (b : _), HostReady s h 0x31 2 2 ∧ c < 56 ∧ chanPresent s c = true ∧ b.length = 12 ∧ bit (fld b 0 1) 0 = false ∧
      13107 < altGain b) ∧
    (∃ (s : State) (h : Hdr) (c : _) (b : _), HostReady s h 0x31 2 2 ∧ c < 56 ∧ chanPresent s c = true ∧ b.length = 12 ∧ bit (fld b 0 1) 0 = true ∧
      s.opHeld 0x31 c = false ∧ alterLocked s c = true) ∧
    (∃ (s : State) (h : Hdr) (r : _), HostReady s h 0x31 2 3 ∧ r.length = 784 ∧ fld r 0 2 = 0x5E1D ∧ fld r 2 1 = 1 ∧ crc32 (r.take 780) = fld r 780
      4 ∧ fld s.otp.selv 3 1 = 1) ∧
    (∃ (s : State) (h : Hdr) (r : _), HostReady s h 0x31 2 3 ∧ r.length = 784 ∧ fld r 0 2 = 0x5E1D ∧ fld r 2 1 = 1 ∧ crc32 (r.take 780) = fld r 780
      4 ∧ fld s.otp.selv 3 1 ≠ 1 ∧ s.opHeld 0x31 0xFE = false ∧ s.ctl.state = .standby) ∧
    (∃ (s : State) (h : Hdr) (c : _) (k : _), HostReady s h 0x32 2 2 ∧ c < 56 ∧ chanPresent s c = true ∧ k ≤ 12 ∧ s.opHeld 0x32 c = false ∧
      s.resultsHeld < 8) ∧
    (∃ (s : State) (h : Hdr), HostReady s h 0x38 2 3 ∧ s.ctl.state = .standby ∧ s.host.tide = []) ∧
    (∃ (s : State) (h : Hdr), HostReady s h 0x38 2 3 ∧ s.ctl.state ≠ .standby) ∧
    (∃ (s : State) (o : Op) (num : _), s.opRun 0x31 num = some o ∧ s.live = true ∧ s.coreRuns = true ∧ (∀ a ∈ s.host.altJobs, a.2.2.2 ≠ num)) ∧
    (∃ (s : State) (o : Op) (num : _), s.opRun 0x31 num = some o ∧ s.live = true ∧ s.coreRuns = true ∧ (∀ a ∈ s.host.altJobs, a.2.2.2 ≠ num) ∧ o.res
      = 0xFE) ∧
    (∃ (s : State) (o : Op) (num : _), s.opRun 0x31 num = some o ∧ s.live = true ∧ s.coreRuns = true ∧ (∀ a ∈ s.host.altJobs, a.2.2.2 ≠ num) ∧ o.res
      ≠ 0xFE) ∧
    (∃ (s : State) (o : Op) (num : _) (codes : List Nat) (k : _) (cs : _), s.opRun 0x32 num = some o ∧ o.args = [k] ∧ s.live = true ∧ s.coreRuns =
      true ∧ codes.length = 2 ^ k ∧ cs = codes.map (fun c => (if 40 ≤ o.res then clampI 0 4095 (c + 2048) else clampI 0 65535 c).toNat) ∧ (∀ r ∈
      s.jobs.sense.reqs, r.cls = 5 → r.who ≠ num)) ∧
    (∃ (s : State) (o : Op) (num : _), s.opRun 0x38 num = some o ∧ s.live = true ∧ s.coreRuns = true ∧ s.host.restoreJob = none) :=
   ⟨⟨((((((up.modHost (fun z => { z with results := [], ops := [], tide := [] })).modLane 0 (fun z => { z with st := .off })).modLane 1 (fun z =>
     { z with st := .off })).modLane 2 (fun z => { z with st := .off })).modLane 3 (fun z => { z with st := .off })).modLane 4 (fun z =>
     { z with st := .off })).modLane 5 (fun z => { z with st := .off }), hd, 0, ([byte 0, 0, 0, 0] ++ leBytes 2 (ofS 16 13107) ++ rep 6 0),
     by unfold HostReady; decide +kernel⟩,
    ⟨((((((up.modHost (fun z => { z with results := [], ops := [], tide := [] })).modLane 0 (fun z => { z with st := .off })).modLane 1 (fun z =>
      { z with st := .off })).modLane 2 (fun z => { z with st := .off })).modLane 3 (fun z => { z with st := .off })).modLane 4 (fun z =>
      { z with st := .off })).modLane 5 (fun z => { z with st := .off }), hd, 0, ([byte 0, 0, 0, 0] ++ leBytes 2 (ofS 16 13108) ++ rep 6 0),
      by unfold HostReady; decide +kernel⟩,
    ⟨(up.modHost (fun z => { z with results := [], ops := [], tide := [] })).modLane 1 (fun z => { z with st := .run }), hd, 0, ([byte 1, 0, 0, 0]
      ++ leBytes 2 (ofS 16 0) ++ rep 6 0), by unfold HostReady; decide +kernel⟩,
    ⟨(up.modHost (fun z => { z with results := [], ops := [], tide := [] })).modOtp (fun z =>
      { z with selv := (selvOf ([0x1D, 0x5E, 1, 1] ++ rep 776 0)) }), hd, (selvOf ([0x1D, 0x5E, 1, 1] ++ rep 776 0)),
      by unfold HostReady; decide +kernel⟩,
    ⟨((up.modCtl (fun z => { z with state := .standby })).modHost (fun z => { z with results := [], ops := [], tide := [] })).modOtp (fun z =>
      { z with selv := (rep 784 0xFF : List Byte) }), hd, (selvOf ([0x1D, 0x5E, 1, 1] ++ rep 776 0)), by unfold HostReady; decide +kernel⟩,
    ⟨up.modHost (fun z => { z with results := [], ops := [], tide := [] }), hd, 0, 0, by unfold HostReady; decide +kernel⟩,
    ⟨(up.modCtl (fun z => { z with state := .standby })).modHost (fun z => { z with tide := [], results := [], ops := [] }), hd,
      by unfold HostReady; decide +kernel⟩,
    ⟨up.modCtl (fun z => { z with state := .run }), hd, by unfold HostReady; decide +kernel⟩,
    ⟨(up.modCtl (fun z => { z with clockLost := false, powerFail := false, resetLow := false })).modHost (fun z =>
      { z with ops := [((⟨900, 0x31, .spi, 3, [], (rep 12 1), 40⟩ : Op))], altJobs := [] }), (⟨900, 0x31, .spi, 3, [], (rep 12 1), 40⟩ : Op), 900,
      by decide +kernel⟩,
    ⟨(up.modCtl (fun z => { z with clockLost := false, powerFail := false, resetLow := false })).modHost (fun z =>
      { z with ops := [((⟨900, 0x31, .spi, 0xFE, [], (selvOf ([0x1D, 0x5E, 1, 0] ++ rep 776 0)), 40⟩ : Op))], altJobs := [] }), (⟨900, 0x31, .spi,
      0xFE, [], (selvOf ([0x1D, 0x5E, 1, 0] ++ rep 776 0)), 40⟩ : Op), 900, by decide +kernel⟩,
    ⟨((up.modCtl (fun z => { z with clockLost := false, powerFail := false, resetLow := false })).modHost (fun z =>
      { z with ops := [((⟨900, 0x31, .spi, 3, [], ([byte 0, 0, 0, 0] ++ leBytes 2 (ofS 16 5) ++ rep 6 0), 40⟩ : Op))], altJobs := [] })).modFlash
      (fun z => { z with journal := [] }), (⟨900, 0x31, .spi, 3, [], ([byte 0, 0, 0, 0] ++ leBytes 2 (ofS 16 5) ++ rep 6 0), 40⟩ : Op), 900,
      by decide +kernel⟩,
    ⟨((up.modCtl (fun z => { z with clockLost := false, powerFail := false, resetLow := false })).modHost (fun z =>
      { z with ops := [(⟨900, 0x32, .spi, 3, [2], [], 40⟩ : Op)], altJobs := [] })).modSense (fun z => { z with reqs := [] }), (⟨900, 0x32, .spi, 3,
      [2], [], 40⟩ : Op), 900, ([5, 70, 9, 40] : List Nat), 2, (([5, 70, 9, 40] : List Nat)).map (fun c => (if 40 ≤ (⟨900, 0x32, .spi, 3, [2], [],
      40⟩ : Op).res then clampI 0 4095 (c + 2048) else clampI 0 65535 c).toNat), by decide +kernel⟩,
    ⟨(up.modCtl (fun z => { z with clockLost := false, powerFail := false, resetLow := false })).modHost (fun z =>
      { z with restoreJob := none, ops := [(⟨900, 0x38, .spi, 0, [], [], 40⟩ : Op)], altJobs := [] }), (⟨900, 0x38, .spi, 0, [], [], 40⟩ : Op), 900,
      by decide +kernel⟩⟩

/-- The hypotheses of PortCommandRows can be met. -/
theorem test_PortCommandRows_hyps :
    (∃ (s : State) (h : Hdr) (p : Nat) (n : Nat), HostReady s h 0x60 2 1 ∧ HasPort s p ∧ n = nextOp s.host.opNum ∧ s.opHeld 0x60 p = true) ∧
    (∃ (s : State) (h : Hdr) (p : Nat) (n : Nat), HostReady s h 0x60 2 1 ∧ HasPort s p ∧ n = nextOp s.host.opNum ∧ s.opHeld 0x60 p = false ∧
      portCmdOk s p 2 = false) ∧
    (∃ (s : State) (h : Hdr) (p : Nat) (n : Nat), HostReady s h 0x60 2 1 ∧ HasPort s p ∧ n = nextOp s.host.opNum ∧ s.opHeld 0x60 p = false ∧
      portCmdOk s p 0 = true) ∧
    (∃ (s : State) (h : Hdr) (p : Nat) (n : Nat), HostReady s h 0x60 2 1 ∧ HasPort s p ∧ n = nextOp s.host.opNum ∧ s.opHeld 0x60 p = false ∧ par s
      gPRT p PRT.MODE ≠ 0 ∧ (s.port p).st ∉ [PtSt.detached, .attachWait]) ∧
    (∃ (s : State) (h : Hdr) (p : Nat) (n : Nat), HostReady s h 0x60 2 1 ∧ HasPort s p ∧ n = nextOp s.host.opNum ∧ s.opHeld 0x60 p = false ∧
      portCmdOk s p 2 = true ∧ WireFree s p) ∧
    (∃ (s : State) (h : Hdr) (p : Nat) (n : Nat), HostReady s h 0x60 2 1 ∧ HasPort s p ∧ n = nextOp s.host.opNum ∧ s.opHeld 0x60 p = false ∧ par s
      gPRT p PRT.MODE ≠ 0 ∧ (s.port p).st = .contract ∧ (s.port p).prov = false ∧ WireFree s p) ∧
    (∃ (s : State) (h : Hdr) (p : Nat) (n : Nat), HostReady s h 0x60 2 1 ∧ HasPort s p ∧ n = nextOp s.host.opNum ∧ s.opHeld 0x60 p = false ∧ par s
      gPRT p PRT.MODE ≠ 0 ∧ (s.port p).st = .contract ∧ (s.port p).prov = true ∧ WireFree s p) ∧
    (∃ (s : State) (h : Hdr) (p : Nat) (n : Nat), HostReady s h 0x60 2 1 ∧ HasPort s p ∧ n = nextOp s.host.opNum ∧ s.opHeld 0x60 p = false ∧ par s
      gPRT p PRT.MODE ≠ 0 ∧ (s.port p).st = .attached) ∧
    (∃ (s : State) (h : Hdr) (p : Nat) (n : Nat), HostReady s h 0x60 2 1 ∧ HasPort s p ∧ n = nextOp s.host.opNum ∧ s.opHeld 0x60 p = false ∧ par s
      gPRT p PRT.MODE ≠ 0 ∧ (s.port p).st.isAttached = true ∧ (s.port p).st ≠ .contract ∧ ((s.port p).prov = true ∨ (s.port p).code = 0)) ∧
    (∃ (s : State) (h : Hdr) (p : Nat) (n : Nat), HostReady s h 0x60 2 1 ∧ HasPort s p ∧ n = nextOp s.host.opNum ∧ s.opHeld 0x60 p = false ∧ par s
      gPRT p PRT.MODE ≠ 0 ∧ (s.port p).st.isAttached = true ∧ (s.port p).prov = false ∧ (s.port p).code ≠ 0) ∧
    (∃ (s : State) (h : Hdr) (p : Nat) (n : Nat), HostReady s h 0x60 2 1 ∧ HasPort s p ∧ n = nextOp s.host.opNum ∧ s.opHeld 0x60 p = false ∧ par s
      gPRT p PRT.MODE ≠ 0 ∧ (s.port p).st.isAttached = true ∧ WireFree s p) :=
   ⟨⟨up.modHost (fun z => { z with ops := [⟨900, 0x60, .spi, 0, [], [], 40⟩] }), hd, 0, nextOp (up.modHost (fun z =>
     { z with ops := [⟨900, 0x60, .spi, 0, [], [], 40⟩] })).host.opNum, by unfold HostReady HasPort; decide +kernel⟩,
    ⟨((up.setPar gPRT 0 PRT.MODE 1).modHost (fun z => { z with results := [], ops := [] })).modPort 0 (fun z => { z with st := .negotiating }), hd,
      0, nextOp (((up.setPar gPRT 0 PRT.MODE 1).modHost (fun z => { z with results := [], ops := [] })).modPort 0 (fun z =>
      { z with st := .negotiating })).host.opNum, by unfold HostReady HasPort; decide +kernel⟩,
    ⟨((up.setPar gPRT 0 PRT.MODE 1).modHost (fun z => { z with results := [], ops := [] })).modPort 0 (fun z => { z with st := .attached }), hd, 0,
      nextOp (((up.setPar gPRT 0 PRT.MODE 1).modHost (fun z => { z with results := [], ops := [] })).modPort 0 (fun z =>
      { z with st := .attached })).host.opNum, by unfold HostReady HasPort; decide +kernel⟩,
    ⟨((up.setPar gPRT 0 PRT.MODE 1).modHost (fun z => { z with results := [], ops := [] })).modPort 0 (fun z => { z with st := .attached }), hd, 0,
      nextOp (((up.setPar gPRT 0 PRT.MODE 1).modHost (fun z => { z with results := [], ops := [] })).modPort 0 (fun z =>
      { z with st := .attached })).host.opNum, by unfold HostReady HasPort; decide +kernel⟩,
    ⟨((up.modPort 0 (fun z => { z with unacked := none, queue := [], st := .contract, ver := 17, con := .supply 200 100 200 5 })).setPar gPRT 0
      PRT.MODE 1).modHost (fun z => { z with results := [], ops := [] }), hd, 0, nextOp (((up.modPort 0 (fun z =>
      { z with unacked := none, queue := [], st := .contract, ver := 17, con := .supply 200 100 200 5 })).setPar gPRT 0 PRT.MODE 1).modHost (fun z
      => { z with results := [], ops := [] })).host.opNum, by unfold HostReady HasPort WireFree; decide +kernel⟩,
    ⟨((up.setPar gPRT 0 PRT.MODE 1).modPort 0 (fun z => { z with st := .contract, prov := false, unacked := none, queue := [] })).modHost (fun z =>
      { z with results := [], ops := [] }), hd, 0, nextOp (((up.setPar gPRT 0 PRT.MODE 1).modPort 0 (fun z =>
      { z with st := .contract, prov := false, unacked := none, queue := [] })).modHost (fun z => { z with results := [], ops := [] })).host.opNum,
      by unfold HostReady HasPort WireFree; decide +kernel⟩,
    ⟨((up.setPar gPRT 0 PRT.MODE 1).modPort 0 (fun z => { z with st := .contract, prov := true, unacked := none, queue := [] })).modHost (fun z =>
      { z with results := [], ops := [] }), hd, 0, nextOp (((up.setPar gPRT 0 PRT.MODE 1).modPort 0 (fun z =>
      { z with st := .contract, prov := true, unacked := none, queue := [] })).modHost (fun z => { z with results := [], ops := [] })).host.opNum,
      by unfold HostReady HasPort WireFree; decide +kernel⟩,
    ⟨((up.setPar gPRT 0 PRT.MODE 1).modPort 0 (fun z => { z with st := .attached })).modHost (fun z => { z with results := [], ops := [] }), hd, 0,
      nextOp (((up.setPar gPRT 0 PRT.MODE 1).modPort 0 (fun z => { z with st := .attached })).modHost (fun z =>
      { z with results := [], ops := [] })).host.opNum, by unfold HostReady HasPort; decide +kernel⟩,
    ⟨((up.setPar gPRT 0 PRT.MODE 1).modHost (fun z => { z with results := [], ops := [] })).modPort 0 (fun z =>
      { z with st := .attached, code := 0, prov := false }), hd, 0, nextOp (((up.setPar gPRT 0 PRT.MODE 1).modHost (fun z =>
      { z with results := [], ops := [] })).modPort 0 (fun z => { z with st := .attached, code := 0, prov := false })).host.opNum,
      by unfold HostReady HasPort; decide +kernel⟩,
    ⟨((up.setPar gPRT 0 PRT.MODE 1).modPort 0 (fun z => { z with prov := false, code := 3, st := .attached })).modHost (fun z =>
      { z with results := [], ops := [] }), hd, 0, nextOp (((up.setPar gPRT 0 PRT.MODE 1).modPort 0 (fun z =>
      { z with prov := false, code := 3, st := .attached })).modHost (fun z => { z with results := [], ops := [] })).host.opNum,
      by unfold HostReady HasPort; decide +kernel⟩,
    ⟨((up.setPar gPRT 0 PRT.MODE 1).modPort 0 (fun z => { z with unacked := none, queue := [], st := .contract, ver := 33 })).modHost (fun z =>
      { z with results := [], ops := [] }), hd, 0, nextOp (((up.setPar gPRT 0 PRT.MODE 1).modPort 0 (fun z =>
      { z with unacked := none, queue := [], st := .contract, ver := 33 })).modHost (fun z => { z with results := [], ops := [] })).host.opNum,
      by unfold HostReady HasPort WireFree; decide +kernel⟩⟩

/-- The hypotheses of FleetHostRows can be met. -/
theorem test_FleetHostRows_hyps :
    (∃ (s : State) (h : Hdr) (tgt : _) (inner : List Byte) (k : _), HostReady s h 0x70 3 2 ∧ tgt < 1024 ∧ tgt ≠ s.fleet.addr ∧ cutOff s = false ∧
      s.resultsHeld < 8 ∧ 6 ≤ inner.length ∧ inner.length ≤ 1018 ∧ routePort s tgt = some k ∧ HasFl s k) ∧
    (∃ (s : State) (h : Hdr) (inner : List Byte) (k : _), HostReady s h 0x70 3 2 ∧ s.fleet.st = .member ∧ s.fleet.cut = false ∧ s.resultsHeld < 8 ∧
      6 ≤ inner.length ∧ inner.length ≤ 1018 ∧ isReset inner = false ∧ s.fleet.parent = some k ∧ HasFl s k ∧ openPort s k = true) ∧
    (∃ (s : State) (h : Hdr) (tgt : _) (inner : List Byte), HostReady s h 0x70 3 2 ∧ 1024 ≤ tgt ∧ tgt ≠ 0xFFFF ∧ 6 ≤ inner.length ∧ inner.length ≤
      1018) ∧
    (∃ (s : State) (h : Hdr) (inner : List Byte), HostReady s h 0x70 3 2 ∧ cutOff s = true ∧ 6 ≤ inner.length ∧ inner.length ≤ 1018) ∧
    (∃ (s : State) (h : Hdr) (inner : List Byte), HostReady s h 0x70 3 2 ∧ s.fleet.st = .root ∧ s.fleet.cut = false ∧ s.resultsHeld < 8 ∧ isReset
      inner = true ∧ s.jobs.fleet.ports.length = 3) ∧
    (∃ (s : State) (h : Hdr) (fr : _), HostReady s h 0x71 3 1 ∧ fr = s.frame + 2 ∧ s.opHeld 0x71 0 = false ∧ s.resultsHeld < 8 ∧ assocGet
      s.fleet.snaps fr = none ∧ s.fleet.snap = none ∧ s.host.tide.length < 16) ∧
    (∃ (s : State) (h : Hdr) (fr : _), HostReady s h 0x71 3 1 ∧ 1 ≤ fr ∧ fr < s.frame + 2 ∧ fr ≤ lastFrame ∧ s.opHeld 0x71 0 = false ∧ s.resultsHeld
      < 8 ∧ assocGet s.fleet.snaps fr = none ∧ s.fleet.snap = none) ∧
    (∃ (s : State) (h : Hdr) (tmo : _), HostReady s h 0x72 3 1 ∧ tmo ≠ 0 ∧ cutOff s = false ∧ s.opHeld 0x72 0 = false ∧ s.fleet.st = .member) ∧
    (∃ (s : State) (h : Hdr), HostReady s h 0x72 3 1) :=
   ⟨⟨((((up.flUp 0).flUp 1).flUp 2).modHost (fun z => { z with results := [], ops := [] })).modFleet (fun z =>
     { z with cut := false, addr := 12, st := .member, parent := some 0, routes := [(55, 0)] }), hd, 55, (packet 0x02 9 []), 0,
     by unfold HostReady HasFl; decide +kernel⟩,
    ⟨((((up.modFleet (fun z => { z with st := .member, cut := false, parent := some 0, addr := 12 })).flUp 0).flUp 1).flUp 2).modHost (fun z =>
      { z with results := [], ops := [] }), hd, (packet 0x02 9 []), 0, by unfold HostReady HasFl; decide +kernel⟩,
    ⟨up.modHost (fun z => { z with results := [], ops := [] }), hd, 1024, (packet 0x02 9 []), by unfold HostReady; decide +kernel⟩,
    ⟨(up.modHost (fun z => { z with results := [], ops := [] })).modFleet (fun z => { z with st := .islanded }), hd, (packet 0x02 9 []),
      by unfold HostReady; decide +kernel⟩,
    ⟨((((up.modFleet (fun z => { z with st := .root, cut := false })).flUp 0).flUp 1).flUp 2).modHost (fun z =>
      { z with results := [], ops := [] }), hd, (packet 0x7F 9 (leBytes 2 0x5253)), by unfold HostReady; decide +kernel⟩,
    ⟨(up.modFleet (fun z => { z with snap := none, snaps := [] })).modHost (fun z => { z with results := [], ops := [], tide := [] }), hd,
      ((up.modFleet (fun z => { z with snap := none, snaps := [] })).modHost (fun z => { z with results := [], ops := [], tide := [] })).frame + 2,
      by unfold HostReady; decide +kernel⟩,
    ⟨(up.modFleet (fun z => { z with snap := none, snaps := [] })).modHost (fun z => { z with results := [], ops := [] }), hd, 1,
      by unfold HostReady; decide +kernel⟩,
    ⟨(up.modFleet (fun z => { z with st := .member, cut := false, bars := [] })).modHost (fun z => { z with results := [], ops := [] }), hd, 7,
      by unfold HostReady; decide +kernel⟩,
    ⟨up, hd, by unfold HostReady; decide +kernel⟩⟩

/-- The hypotheses of StepTakesFront can be met. -/
theorem test_StepTakesFront_hyps :
    (∃ (s : State) (c : Instr) (l : List Instr), s.pending = c :: l) ∧
    (∃ (s : State), s.pending = []) :=
   ⟨⟨{ up with pending := [.bootRom] }, .bootRom, [], rfl⟩,
    ⟨up, rfl⟩⟩

/-- The hypotheses of ResetState can be met. -/
theorem test_ResetState_hyps :
    (∃ (n : _), n < 6) ∧
    (∃ (t : _), t < 16) :=
   ⟨⟨0, by decide +kernel⟩,
    ⟨1, by decide +kernel⟩⟩

/-- The hypotheses of QueuesStayBounded can be met. -/
theorem test_QueuesStayBounded_hyps :
    ∃ (s : State) (t : State), QueuesBounded s ∧ step s = .next t :=
   ⟨{ up with pending := [.hardResetMarker 0] }, _, by unfold QueuesBounded; decide +kernel, rfl⟩

end Sys2Proof.Tests
end

section
/-! What raising events leaves alone, and that it forgets no event: the events of a state are never lost by raising more of them. -/

namespace Sys2Proof.Machine

/-- From s to t nothing changed but what events change: the event queue, the fleet job, the trace and the draw count. -/
def OnlyEvents (s t : State) : Prop :=
  t = { s with
    host := { s.host with events := t.host.events, evSeq := t.host.evSeq, lost := t.host.lost }
    jobs := { s.jobs with fleet := t.jobs.fleet }, trace := t.trace, freeCtr := t.freeCtr }

/-- No event of s is gone by t, and none counted as lost is forgotten. -/
def KeepsEvents (s t : State) : Prop := s.host.lost ≤ t.host.lost ∧ s.host.events ⊆ t.host.events

theorem OnlyEvents.refl (s : State) : OnlyEvents s s := rfl

theorem OnlyEvents.trans {s t u : State} (h : OnlyEvents s t) (g : OnlyEvents t u) : OnlyEvents s u := by
  unfold OnlyEvents at *
  rw [g, h]

theorem KeepsEvents.refl (s : State) : KeepsEvents s s := ⟨le_rfl, List.Subset.refl _⟩

theorem KeepsEvents.trans {s t u : State} (h : KeepsEvents s t) (g : KeepsEvents t u) : KeepsEvents s u :=
  ⟨h.1.trans g.1, List.Subset.trans h.2 g.2⟩

theorem KeepsEvents.of_host {s t : State} (h : t.host = s.host) : KeepsEvents s t := by
  rw [KeepsEvents, h]; exact KeepsEvents.refl s

theorem KeepsEvents.of_host_events {s t : State} (he : t.host.events = s.host.events) (hl : t.host.lost = s.host.lost) : KeepsEvents s t := by
  rw [KeepsEvents, he, hl]; exact KeepsEvents.refl s

/-- What t tells, every later state that keeps its events tells. -/
theorem Tells.mono {s t u : State} {c a : Nat} (h : Tells s t c a) (k : KeepsEvents t u) : Tells s u c a := by
  rcases h with h | ⟨e, he, hc⟩
  · exact .inl (h.trans_le k.1)
  · exact .inr ⟨e, k.2 he, hc⟩

/-- What was told after s was told after every state before it. -/
theorem Tells.of_keeps {s t u : State} {c a : Nat} (k : KeepsEvents s t) (h : Tells t u c a) : Tells s u c a :=
  h.imp_left k.1.trans_lt

theorem OnlyEvents.raise (s : State) (c a : Nat) : OnlyEvents s (s.raise c a) := by
  have h : s.host.queueEvent c s.fleetTime a = { s.host with
      events := (s.host.queueEvent c s.fleetTime a).events, evSeq := (s.host.queueEvent c s.fleetTime a).evSeq
      lost := (s.host.queueEvent c s.fleetTime a).lost } := by
    rcases s.host.queueEvent_cases c s.fleetTime a with ⟨_, e⟩ | ⟨_, e⟩ <;> rw [e]
  unfold OnlyEvents
  exact congrArg (fun h => ({ s with
    host := h, jobs := (s.raise c a).jobs, trace := (s.raise c a).trace, freeCtr := (s.raise c a).freeCtr } : State)) h

theorem KeepsEvents.raise (s : State) (c a : Nat) : KeepsEvents s (s.raise c a) := by
  unfold KeepsEvents
  rcases s.host.queueEvent_cases c s.fleetTime a with ⟨_, e⟩ | ⟨_, e⟩ <;> simp [e]

theorem Tells.raise (s : State) (c a : Nat) : Tells s (s.raise c a) c a := by
  unfold Tells
  rcases s.host.queueEvent_cases c s.fleetTime a with ⟨_, e⟩ | ⟨_, e⟩ <;> simp [e]

/-- A relation of states that is reflexive and transitive holds over a fold whose every step has it. -/
theorem foldl_rel {α β : Type} {R : β → β → Prop} (r : ∀ s, R s s) (tr : ∀ {s t u}, R s t → R t u → R s u) (f : β → α → β) (l : List α)
    (h : ∀ s a, R s (f s a)) (s : β) : R s (l.foldl f s) := by
  induction l generalizing s with
  | nil => exact r s
  | cons a l ih => exact tr (h s a) (ih (f s a))

/-- An event with its record: the records aside, the event alone. -/
theorem State.raiseRec_eq (s : State) (code arg : Nat) : ∃ r, s.raiseRec code arg = { s.raise code arg with records := r } :=
  State.askRecord_cases _ _ _ _ _ _ _

end Sys2Proof.Machine
end

section
/-! A reset (R5, R553): resetTo leaves the machine as after reset. -/

namespace Sys2Proof.Machine

/-- An abandoned write leaves everything but flash and the writer. -/
theorem State.abandonWrite_eq (s : State) : ∃ f, s.abandonWrite = { s with flash := f, writer := {} } := by
  unfold State.abandonWrite
  dsimp only
  split <;> exact ⟨_, rfl⟩

/-- Flash stands where no write of it is in progress. -/
theorem State.abandonWrite_idle {s : State} (h : s.writer.before = none) : s.abandonWrite = { s with writer := {} } := by
  unfold State.abandonWrite
  rw [h]

/-- After what events change, the machine stands as after the reset. -/
theorem AfterReset.onlyEvents {s z t : State} {cause : Nat} (h : AfterReset s z cause) (e : OnlyEvents z t) : AfterReset s t cause := by
  unfold AfterReset at h ⊢
  rw [e]
  exact h

/-- What a reset answers but for AfterReset: flash without the write in progress, no cause of a HALT, no record waiting, no clock or
power action, and the balls. -/
def ResetRest (s z : State) (cause : Nat) : Prop :=
  z.flash = s.abandonWrite.flash ∧ z.ctl.haltCause = 0 ∧ z.ctl.clockLost = false ∧ z.ctl.powerFail = false ∧
  z.outs = (if cause = 1 then State.reset.outs else s.outs.scanKept)

/-- A reset for any cause leaves the machine as after reset; only the events of fallen privileges come behind it (R53, R458). -/
theorem resetTo_spec (cause : Nat) (s : State) : AfterReset s (resetTo cause s) cause ∧ ResetRest s (resetTo cause s) cause := by
  suffices h : ∃ z, OnlyEvents z (resetTo cause s) ∧ AfterReset s z cause ∧ ResetRest s z cause by
    obtain ⟨z, e, a, r⟩ := h
    refine ⟨a.onlyEvents e, ?_⟩
    unfold ResetRest at r ⊢
    rw [e]
    exact r
  obtain ⟨f, hf⟩ := s.abandonWrite_eq
  unfold resetTo ResetRest
  rw [hf]
  by_cases h : cause = 1
  · refine ⟨_, .refl _, ?_⟩
    simp [AfterReset, h]
    decide
  · simp only [h, decide_false, if_false]
    exact ⟨_, foldl_rel .refl .trans _ _ (fun z t => by split; exacts [.raise _ _ _, .refl _]) _,
      ⟨rfl, rfl, rfl, rfl, rfl, rfl, (if_neg h).symm, rfl, rfl, rfl, rfl, rfl, rfl, rfl, rfl, rfl⟩, rfl, rfl, rfl, rfl, rfl⟩

/-- After a reset the control bits of the pins may change too. -/
theorem AfterReset.modCtl {s t : State} {cause : Nat} (h : AfterReset s t cause) {f : Control → Control}
    (hf : (f t.ctl).state = t.ctl.state ∧ (f t.ctl).resetCause = t.ctl.resetCause ∧ (f t.ctl).coreUp = t.ctl.coreUp) :
    AfterReset s (t.modCtl f) cause := by
  obtain ⟨h1, h2, h3⟩ := hf
  unfold AfterReset at h ⊢
  simpa only [State.modCtl_fields, h1, h2, h3] using h

/-- Flash stands through a reset where no write of it is in progress. -/
theorem resetTo_flash {s : State} (h : s.writer.before = none) (cause : Nat) : (resetTo cause s).flash = s.flash := by
  rw [(resetTo_spec cause s).2.1, State.abandonWrite_idle h]

/-- The balls after a reset but power-on: the boundary-scan port alone stands. -/
theorem resetTo_outs {cause : Nat} (h : cause ≠ 1) (s : State) : (resetTo cause s).outs = s.outs.scanKept := by
  rw [(resetTo_spec cause s).2.2.2.2.2, if_neg h]

/-- RESETn low where the reset takes effect at once. -/
theorem resetnLow_eq {s : State} (hm : s.ctl.state ≠ .moored) (hp : s.ctl.powerFail = false ∨ s.ctl.pfDone = true) :
    exec .resetnLow s = .next ((resetnAct s).modCtl fun c => { c with resetLow := true }) := by
  have h : (s.ctl.powerFail && !s.ctl.pfDone) = false := by rcases hp with h | h <;> simp [h]
  change execResetnLow s = _
  simp [execResetnLow, hm, h]

/-- A reset that was asked for takes the place of the next frame (R77, R394). -/
theorem frameStart_reset {s : State} {c : Nat} (inp : FrameIn) (hl : s.live = true) (hc : s.jobs.frm.committed = true)
    (hr : s.ctl.resetReq = some c) : exec (.frameStart inp) s = .next (resetTo c s) := by
  change execFrameStart inp s = _
  simp [execFrameStart, hl, hc, hr]

end Sys2Proof.Machine

open Sys2Proof Sys2Proof.Machine

/-- Settles O44: every reset is resetTo, and resetTo_spec says what it leaves. -/
theorem resetRows : Obligations.ResetRows := by
  intro s
  refine ⟨?power, ?resetn, ?moored, ?shutDown, ?clock, rfl, ?wake, ?asked⟩
  case power => exact ⟨_, rfl, (resetTo_spec 1 s).1, (resetTo_spec 1 s).2.2.2.2.2, (resetTo_flash · 1)⟩
  case resetn =>
    intro hm hp hc
    have h : resetnAct s = resetTo 2 s := by simp [resetnAct, hc]
    have ho := resetTo_outs (cause := 2) (by decide) s
    have hcells : (resetTo 2 s).outs.cells = s.outs.cells := by rw [ho]; rfl
    have hjtag : (resetTo 2 s).outs.jtag = s.outs.jtag := by rw [ho]; rfl
    rw [resetnLow_eq hm hp, h]
    exact ⟨_, rfl, (resetTo_spec 2 s).1.modCtl ⟨rfl, rfl, rfl⟩, rfl, (resetTo_flash · 2), hcells, hjtag⟩
  case moored =>
    intro hm
    change execResetnLow s = _
    simp [execResetnLow, hm]
  case shutDown =>
    intro hm hp hd
    change execResetnLow s = _
    simp [execResetnLow, hm, hp, hd, State.modCtl]
  case clock =>
    intro hm hp hc
    obtain ⟨hst, hca, hco, -⟩ := (resetTo_spec 2 s).1
    obtain ⟨-, hh, -, -, ho⟩ := (resetTo_spec 2 s).2
    rw [resetnLow_eq hm (.inl hp)]
    refine ⟨_, rfl, ?_⟩
    simp [resetnAct, hc, hst, hca, hco, hh, ho]
    exact ⟨rfl, rfl⟩
  case wake =>
    intro hm
    refine ⟨resetTo 8 s, ?_, (resetTo_spec 8 s).1, (resetTo_flash · 8)⟩
    change execWakeFromMoored s = _
    simp [execWakeFromMoored, hm]
  case asked =>
    intro c inp hl hc hr _
    exact ⟨_, frameStart_reset inp hl hc hr, (resetTo_spec c s).1, (resetTo_flash · c)⟩

/-- Settles O59: each field of the reset state is read off it; a parameter never written reads its default. -/
theorem resetState : Obligations.ResetState := by
  refine ⟨rfl, rfl, rfl, rfl, rfl, rfl, rfl, rfl, rfl, rfl, rfl, by decide, by decide, fun id d => rfl, rfl, rfl, rfl, by unfold QueuesBounded; decide, ?_⟩
  intro tr
  cases tr <;> rfl

/-- Refutes O47: the clock's return keeps the cause of a HALT whatever the state is. After a clock loss in HALT the controller starts
through BOOT with the cause kept; a second clock loss in that BOOT is the counterexample. -/
theorem not_clockAndPowerRows : ¬ Obligations.ClockAndPowerRows := by
  intro h
  obtain ⟨-, recovered, -⟩ := h { State.reset with ctl := { state := .boot, clockLost := true, haltCause := 3 } }
  obtain ⟨t, ht, -, -, -, -, -, hc⟩ := recovered rfl
  cases ht
  exact absurd hc (by decide)
end

section
/-! The counterexample to O41: a RESTORE_FACTORY that takes effect on the frame in which SAFEn is low (R154, R434). -/

namespace Sys2Proof.Machine

/-- A TSN-0824 in STANDBY whose SAFEN_HALT is 1, with a RESTORE_FACTORY handed over for the next frame. -/
def restoringState : State :=
  { State.reset.setPar gSAF 0 SAF.SAFEN_HALT 1 with
    ident := { State.reset.ident with big := false }
    ctl := { state := .standby, coreUp := true }
    jobs := { State.reset.jobs with frm := { running := true, committed := true } }
    host := { State.reset.host with restoreJob := some (1, 1, 0) } }

/-- A frame with SAFEn low and no overlong step. -/
def safenLowFrame : FrameIn := ⟨[], [], 2500, 12000, [], [], false, 0, []⟩

set_option maxRecDepth 20000 in
/-- The restored default of SAFEN_HALT is in force when S4 of the safety job runs, so the frame decides no HALT. -/
theorem restoringState_frameStart :
    (match exec (.frameStart safenLowFrame) restoringState with | .next t => t.ctl.wantHalt.isNone | _ => true) = true := by
  decide +kernel

end Sys2Proof.Machine

open Sys2Proof Sys2Proof.Machine

/-- Refutes O41: with SAFEN_HALT 1 before a frame in which SAFEn is low no HALT is decided where a RESTORE_FACTORY takes effect at the start
of that frame: it puts SAFEN_HALT back to 0 before the safety job reads it. -/
theorem not_controllerStateRows : ¬ Obligations.ControllerStateRows := by
  intro h
  obtain ⟨-, -, frameStart, -⟩ := h restoringState
  obtain ⟨t, ht, -, low⟩ := frameStart safenLowFrame (by decide) rfl rfl
  have hn := restoringState_frameStart
  rw [ht] at hn
  obtain ⟨hw, -⟩ := low rfl rfl (by decide) (by decide)
  simp [hw] at hn
end

section
/-! Host commands (R38 to R43, R64): a command that passes the gate runs its body behind the gate, and an answer puts its reply on the
transport of the command and touches nothing but the transports. -/

namespace Sys2Proof.Machine

theorem OnlyReplies.refl (s : State) : OnlyReplies s s := rfl

theorem OnlyReplies.trans {s t u : State} (h : OnlyReplies s t) (g : OnlyReplies t u) : OnlyReplies s u := by
  unfold OnlyReplies at *
  rw [g, h]

/-- The state s with other transports and tags in flight. -/
def State.relinked (s : State) (spi i2c can : Link) (fs : List Flight) : State :=
  { s with host := { s.host with spi := spi, i2c := i2c, can := can, flights := fs } }

theorem OnlyReplies.relinked (s : State) (spi i2c can : Link) (fs : List Flight) : OnlyReplies s (s.relinked spi i2c can fs) := rfl

/-- Changing a host transport changes the transports alone. -/
theorem OnlyReplies.modLink (s : State) {tr : Transport} (h : tr ≠ .fleet) (f : Link → Link) : OnlyReplies s (s.modLink tr f) := by
  cases tr
  case fleet => exact absurd rfl h
  all_goals rfl

theorem OnlyReplies.flushCan (s : State) : OnlyReplies s s.flushCan := by
  unfold State.flushCan
  split <;> rfl

/-- An answer on a host transport changes the transports and the tags alone. -/
theorem OnlyReplies.answer (s : State) {c : Ctx} (h : c.tr ≠ .fleet) (st : Nat) (pay : List Byte) : OnlyReplies s (s.answer c st pay) := by
  obtain ⟨tr, tag, cyc, opc⟩ := c
  cases tr
  case fleet => exact absurd rfl h
  case can => exact OnlyReplies.trans (t := s.relinked s.host.spi s.host.i2c _ _) rfl (OnlyReplies.flushCan _)
  all_goals rfl

/-- A reply that may be sent and waits on CAN FD is sent there, or waits on where the core stands still. -/
theorem flushCan_repliedTo {s : State} {r : Reply} (h : r ∈ s.host.can.replies) (hr : r.ready ≤ s.frame) :
    RepliedTo s.flushCan .can r.tag r.status r.pay := by
  refine ⟨r, rfl, rfl, rfl, ?_⟩
  unfold State.flushCan
  split
  · exact .inl h
  · refine .inr ⟨rfl, r.can.getD (canSettings s), fun d hd => ?_⟩
    simp only [State.modHost_fields, List.mem_append, List.mem_flatMap, List.mem_map, List.mem_filter, decide_eq_true_eq]
    exact .inr ⟨r, ⟨h, hr⟩, d, hd, rfl⟩

/-- An answer is a reply to its command. -/
theorem answer_repliedTo (s : State) (c : Ctx) (st : Nat) (pay : List Byte) : RepliedTo (s.answer c st pay) c.tr c.tag st pay := by
  obtain ⟨tr, tag, cyc, opc⟩ := c
  cases tr
  case can =>
    exact flushCan_repliedTo (r := ⟨tag, st, pay, 0, true, none, s.age⟩) (List.mem_append_right _ (List.mem_singleton_self _)) (Nat.zero_le _)
  all_goals exact ⟨_, rfl, rfl, rfl, .inl (List.mem_append_right _ (List.mem_singleton_self _))⟩

/-- An answer leaves the version and the level of every link. -/
theorem answer_link (s : State) (c : Ctx) (st : Nat) (pay : List Byte) (tr : Transport) :
    ((s.answer c st pay).link tr).ver = (s.link tr).ver ∧ ((s.answer c st pay).link tr).priv = (s.link tr).priv := by
  have hflush (u : State) : (u.flushCan.link tr).ver = (u.link tr).ver ∧ (u.flushCan.link tr).priv = (u.link tr).priv := by
    unfold State.flushCan
    split
    · exact ⟨rfl, rfl⟩
    · cases tr <;> exact ⟨rfl, rfl⟩
  obtain ⟨tr', tag, cyc, opc⟩ := c
  cases tr'
  case can => exact ⟨(hflush _).1.trans (by cases tr <;> rfl), (hflush _).2.trans (by cases tr <;> rfl)⟩
  all_goals cases tr <;> exact ⟨rfl, rfl⟩

/-- What an answer leaves. -/
@[simp] theorem State.answer_fields (s : State) (c : Ctx) (st : Nat) (pay : List Byte) :
    (s.answer c st pay).jobs = s.jobs ∧ (s.answer c st pay).ctl = s.ctl ∧ (s.answer c st pay).params = s.params ∧
    (s.answer c st pay).outs = s.outs ∧ (s.answer c st pay).trace = s.trace ∧ (s.answer c st pay).timers = s.timers ∧
    (s.answer c st pay).image = s.image ∧ (s.answer c st pay).flash = s.flash ∧ (s.answer c st pay).mods = s.mods := by
  obtain ⟨g, e⟩ := s.answer_host c st pay
  rw [e]
  exact ⟨rfl, rfl, rfl, rfl, rfl, rfl, rfl, rfl, rfl⟩

/-- An answer raises no event. -/
@[simp] theorem State.answer_events (s : State) (c : Ctx) (st : Nat) (pay : List Byte) :
    (s.answer c st pay).host.events = s.host.events ∧ (s.answer c st pay).host.lost = s.host.lost := by
  have hflush (u : State) : u.flushCan.host.events = u.host.events ∧ u.flushCan.host.lost = u.host.lost := by
    unfold State.flushCan
    split <;> exact ⟨rfl, rfl⟩
  obtain ⟨tr, tag, cyc, opc⟩ := c
  cases tr
  case can => exact hflush _
  all_goals exact ⟨rfl, rfl⟩

/-- A reply stands while its transport does. -/
theorem RepliedTo.congr {s t : State} {tr : Transport} {tag : Option Nat} {st : Nat} {pay : List Byte} (h : RepliedTo s tr tag st pay)
    (hh : t.host = s.host) : RepliedTo t tr tag st pay := by
  have hl : t.link tr = s.link tr := by unfold State.link; rw [hh]
  unfold RepliedTo at h ⊢
  rwa [hl, hh]

/-- What the body of a command whose header is h is run with. -/
def ctxOf (h : Hdr) (opc : Nat) : Ctx := ⟨h.tr, some h.tag, h.cyc, opc⟩

/-- The state in which the body of a command runs: the tag is in flight, the transport has its age. -/
def arrived (h : Hdr) (opc : Nat) (s : State) : State :=
  (s.modHost fun x => { x with flights := x.flights ++ [⟨h.tr, some h.tag, opc, s.age, false⟩] }).modLink h.tr fun l => { l with lastCmd := s.age }

/-- The state in which the body runs differs from s in its transports alone; the link of the command keeps its level and its version. -/
theorem arrived_relinked (s : State) {h : Hdr} (ht : h.tr ≠ .fleet) (opc : Nat) :
    ∃ spi i2c can, arrived h opc s = s.relinked spi i2c can (s.host.flights ++ [⟨h.tr, some h.tag, opc, s.age, false⟩]) ∧
      ((s.relinked spi i2c can []).link h.tr).priv = (s.link h.tr).priv ∧
      ((s.relinked spi i2c can []).link h.tr).ver = (s.link h.tr).ver := by
  obtain ⟨tr, tag, cyc⟩ := h
  cases tr
  case fleet => exact absurd rfl ht
  all_goals exact ⟨_, _, _, rfl, rfl, rfl⟩

/-- A command that passes the gate runs its body. -/
theorem hostCmd_eq {s : State} {h : Hdr} {k : Cmd} (r : HostReady s h k.opc k.ver k.priv) (hk : (k.fits false && decide (k.len ≤ 1024)) = true) :
    hostCmd h k s = .next (k.body (ctxOf h k.opc) (arrived h k.opc s)) := by
  obtain ⟨hacc, htr, hun, hop, hver, hpriv, htag⟩ := r
  obtain ⟨hf, hl⟩ : k.fits false = true ∧ k.len ≤ 1024 := by simpa using hk
  have gate : hostCmd h k s = .next (runCmd (ctxOf h k.opc) (some k) k.len (arrived h k.opc s)) := by
    simp [hostCmd, hacc, hun, arrive, htag, Nat.not_lt.mpr hl, ctxOf, arrived]
    rfl
  obtain ⟨spi, i2c, can, ha, hp, hv⟩ := arrived_relinked s htr k.opc
  have hlink : (arrived h k.opc s).link h.tr = (s.relinked spi i2c can []).link h.tr := by rw [ha]; rfl
  have hctl : (arrived h k.opc s).ctl = s.ctl := by rw [ha]; rfl
  rw [gate]
  have hknown : opcodeKnown (arrived h k.opc s) h.tr k.opc = true := by simpa only [opcodeKnown, untagged, hlink, hctl, hv] using hop
  simp [runCmd, ctxOf, hknown, hlink, hp, hv, Nat.not_lt.mpr hver, Nat.not_lt.mpr hpriv, hf]

/-- The same with the transports of the state named: all that has changed before the body runs. -/
theorem hostCmd_relinked {s : State} {h : Hdr} {k : Cmd} (r : HostReady s h k.opc k.ver k.priv) (hk : (k.fits false && decide (k.len ≤ 1024)) = true) :
    ∃ spi i2c can fs, hostCmd h k s = .next (k.body (ctxOf h k.opc) (s.relinked spi i2c can fs)) ∧
      ((s.relinked spi i2c can fs).link h.tr).priv = (s.link h.tr).priv ∧
      ((s.relinked spi i2c can fs).link h.tr).ver = (s.link h.tr).ver ∧ ∀ f ∈ fs, f ∈ s.host.flights ∨ f.tag = some h.tag := by
  obtain ⟨spi, i2c, can, ha, hp, hv⟩ := arrived_relinked s r.2.1 k.opc
  refine ⟨spi, i2c, can, s.host.flights ++ [⟨h.tr, some h.tag, k.opc, s.age, false⟩], by rw [hostCmd_eq r hk, ha], hp, hv,
    fun f hf => (List.mem_append.mp hf).imp_right fun hf => ?_⟩
  rw [List.mem_singleton.mp hf]

/-- A command whose body only answers, perhaps behind a change of the transports: from every state that differs from s in them alone. -/
theorem answers_of_body {s : State} {h : Hdr} {c : Instr} {k : Cmd} {st : Nat} {pay : List Byte} (r : HostReady s h k.opc k.ver k.priv)
    (hc : exec c s = hostCmd h k s) (hk : (k.fits false && decide (k.len ≤ 1024)) = true)
    (hb : ∀ spi i2c can fs, ((s.relinked spi i2c can fs).link h.tr).priv = (s.link h.tr).priv →
      ∃ u, OnlyReplies (s.relinked spi i2c can fs) u ∧
        k.body (ctxOf h k.opc) (s.relinked spi i2c can fs) = u.answer (ctxOf h k.opc) st pay) :
    Answers s c h st pay := by
  obtain ⟨spi, i2c, can, fs, e, hp, -⟩ := hostCmd_relinked r hk
  obtain ⟨u, hu, hbody⟩ := hb spi i2c can fs hp
  refine ⟨_, hc.trans (e.trans (congrArg _ hbody)), answer_repliedTo _ (ctxOf h k.opc) st pay, ?_⟩
  exact ((OnlyReplies.relinked s spi i2c can fs).trans hu).trans (OnlyReplies.answer _ r.2.1 st pay)

end Sys2Proof.Machine
end

section
/-! The reads (R76, R77): the answer of each. -/

namespace Sys2Proof.Machine

/-- What has been put under a key is found there. -/
theorem assocGet_assocSet_self {β : Type} (l : List (Nat × β)) (k : Nat) (b : β) : assocGet (assocSet l k b) k = some b := by
  induction l with
  | nil => simp [assocSet, assocGet]
  | cons e l ih =>
    obtain ⟨j, c⟩ := e
    unfold assocSet
    split
    · simp [assocGet]
    · split
      · simp [assocGet]
      · simp [assocGet, *]

/-- PARAM_READ of one word without a latch is that word. -/
theorem readReply_one {c : Ctx} {id : Nat} {s : State} {d : ParamDef} (hd : paramAt s.ident.big id = some d) (hw : d.words = 1) :
    readReply c [id] s = s.answer c St.OK (leBytes 2 (readWord s id).toNat) := by
  simp [readReply, readSeq, readOne, hd, hw, wordBytes, State.okReply]

/-- The word that a writable parameter shows depends on nothing of the host side. -/
theorem readWord_relinked {s : State} {id : Nat} {d : ParamDef} (hd : paramAt s.ident.big id = some d) (hr : d.attr ≠ .ro) (spi i2c can : Link)
    (fs : List Flight) : readWord (s.relinked spi i2c can fs) id = readWord s id := by
  have hb : readBits (s.relinked spi i2c can fs) d (firstId d id) = readBits s d (firstId d id) := by
    unfold readBits
    split
    · contradiction
    · rfl
  have hd' : paramAt (s.relinked spi i2c can fs).ident.big id = some d := hd
  simp only [readWord, hd, hd', hb]

/-- PARAM_READ of one present ID without a fresh conversion. -/
theorem doParamRead_one {s : State} {id : Nat} {d : ParamDef} (c : Ctx) (hd : paramAt s.ident.big id = some d) :
    doParamRead c 0 [id] s = readReply c [id] s := by
  simp [doParamRead, hd, bit]

theorem doParamRead_absent {s : State} {id : Nat} (c : Ctx) (hd : paramAt s.ident.big id = none) :
    doParamRead c 0 [id] s = s.answer c St.BAD_PARAM_ID [0, 0] := by
  simp [doParamRead, hd]
  rfl

theorem doParamReadBlock_set {s : State} {id k : Nat} {w : Word} (c : Ctx) (hid : id < 65536) (hk : k < 4)
    (hw : assocGet (s.host.sets.getD k {}).entries id = some w) :
    doParamReadBlock c id 1 (k + 1) s = s.answer c St.OK (leBytes 2 w.toNat) := by
  have h1 : ¬ 65536 < id + 1 := by omega
  have h2 : ¬ 5 < k + 1 := by omega
  have h3 : k + 1 ≤ 4 := by omega
  have hw' : assocGet (s.host.sets[k]?.getD {}).entries id = some w := by rwa [← List.getD_eq_getElem?_getD]
  simp [doParamReadBlock, blockWord, wordBytes, State.okReply, h1, h2, h3, hw']

theorem doEventRead_some {s : State} {n : Nat} (c : Ctx) (h1 : 1 ≤ n) (h2 : n ≤ 63) :
    doEventRead c n s = s.answer c St.OK ([byte (s.host.events.take n).length, 0] ++ leBytes 2 s.host.events.length ++
      (s.host.events.take n).flatMap Event.bytes) := by
  simp [doEventRead, State.okReply, Nat.ne_of_gt h1, Nat.not_lt.mpr h2]

theorem doCalRead_channel {s : State} {chan l : Nat} (c : Ctx) (hc : chan ≠ 0xFE) (hp : chanPresent s chan = true) (hl : l ≤ 2) :
    doCalRead c chan l s = s.answer c St.OK (calBlock s chan l) := by
  simp [doCalRead, State.okReply, hc, hp, Nat.not_lt.mpr hl]

theorem doRecRead_some {s : State} {k : Nat} {b : List Byte} (c : Ctx) (h : recordAt s k = some b) :
    doRecRead c k s = s.answer c St.OK b := by
  simp [doRecRead, State.okReply, h]

theorem doTelRead_now {s : State} {chan : Nat} (c : Ctx) (fl : Nat) (h : (telChans s).contains chan = true) :
    doTelRead c chan 0xFF fl s = s.answer c St.OK (leBytes 2 (ofS 16 (telNow s chan)) ++ leBytes 2 (ofS 16 (telNow s chan)) ++
      leBytes 2 (ofS 16 (telNow s chan)) ++ [0, 0]) := by
  simp only [doTelRead, h]
  rfl

theorem doLedgerRead_some {s : State} {x : Nat} (c : Ctx) (h : x < nPh s) :
    doLedgerRead c x s = s.answer c St.OK ((s.led x).bins.flatMap (leBytes 4) ++ leBytes 4 (s.led x).onTime ++ leBytes 8 (s.led x).energy ++
        [byte (satN 255 (countOf (fun t => decide (s.jobs.sched.clock < t + day)) (s.led x).retired)), byte (b2n (s.led x).worn)]) := by
  simp [doLedgerRead, State.okReply, Nat.not_le.mpr h]

/-- Reading a list from an offset, a byte at a time. -/
theorem map_getD_range {α : Type} {l : List α} {off n : Nat} (h : off + n ≤ l.length) (f : Nat → α) :
    ((List.range n).map fun k => l.getD (off + k) (f k)) = (l.drop off).take n := by
  apply List.ext_getElem
  · simp; omega
  · intro i h1 h2
    have : i < n := by simpa using h1
    simp [List.getElem?_eq_getElem (show off + i < l.length by omega)]

theorem doTraceRead_some {s : State} {off n : Nat} (c : Ctx) (h1 : 1 ≤ n) (hb : off + n ≤ (traceBytes s.trace).length) (h2 : n ≤ 1022)
    (h3 : off + n ≤ 65536) :
    doTraceRead c off n s = s.answer c St.OK ([byte s.trace.st, 0] ++ ((traceBytes s.trace).drop off).take n) := by
  simp only [doTraceRead, State.okReply, map_getD_range hb]
  simp [Nat.ne_of_gt h1, Nat.not_lt.mpr h2, Nat.not_lt.mpr h3]

@[simp] theorem length_leBytes (k n : Nat) : (leBytes k n).length = k := by
  induction k generalizing n with
  | zero => rfl
  | succ k ih => simp [leBytes, ih]

theorem leNat_leBytes (k n : Nat) : leNat (leBytes k n) = n % 256 ^ k := by
  induction k generalizing n with
  | zero => simp [leBytes, leNat, Nat.mod_one]
  | succ k ih => rw [leBytes, leNat, ih, Nat.pow_succ', Nat.mod_mul, byte, BitVec.toNat_ofNat]

/-- The packet of a fetch spells its number and offset (R45). -/
theorem fetchCmd_attest {n off : Nat} (hn : n < 65536) (ho : off < 2 ^ 32) : fetchCmd 0x48 n off = cmdFetch 0x48 3 0 n off := by
  have h1 : fld (leBytes 2 n ++ leBytes 4 off) 0 2 = n := by
    rw [fld, List.drop_zero, List.take_left' (length_leBytes 2 n), leNat_leBytes]
    exact Nat.mod_eq_of_lt hn
  have h2 : fld (leBytes 2 n ++ leBytes 4 off) 2 4 = off := by
    rw [fld, List.drop_left' (length_leBytes 2 n), List.take_of_length_le (length_leBytes 4 off).le, leNat_leBytes]
    exact Nat.mod_eq_of_lt ho
  simp [fetchCmd, parseCmd, parseCore, h1, h2]

theorem doFetch_some {s : State} {num off : Nat} {r : Result} (c : Ctx) (hc : c.opc = 0x48)
    (hr : s.host.results.find? (fun r => r.num == num && r.opc == 0x48) = some r) (hl : r.lost = false) (ho : off ≤ r.bytes.length) :
    doFetch c num off s = s.answer c St.OK ((r.bytes.drop off).take 1024) := by
  simp [doFetch, State.okReply, hc, hr, hl, Nat.not_lt.mpr ho]

/-- The registers of a timer that reads name, and where they stand (R515). -/
theorem paramAt_timer {k : Nat} (hk : k < 16) (big : Bool) :
    paramAt big (pid gTMR k TMR.COUNT) = some ⟨0, 15, 24, 2, .live, false, [], .const 0, .free, "COUNT"⟩ ∧
    paramAt big (pid gTMR k TMR.CAPTURE) = some ⟨0, 15, 26, 2, .ro, false, [], .const 0, .free, "CAPTURE"⟩ ∧
    paramAt big (pid gTMR k TMR.FIFO) = some ⟨0, 15, 28, 4, .ro, false, [], .const 0, .free, "FIFO"⟩ := by
  revert k big
  decide +kernel

/-- The parts of an ID of a timer register. -/
theorem id_timer {k : Nat} (hk : k < 16) {i : Nat} (hi : i < 64) :
    idGroup (pid gTMR k i) = gTMR ∧ idInst (pid gTMR k i) = k ∧ ∀ d : ParamDef, d.idx = i → firstId d (pid gTMR k i) = pid gTMR k i := by
  have h1 : idGroup (pid gTMR k i) = gTMR := by unfold idGroup bits pid gTMR; omega
  have h2 : idInst (pid gTMR k i) = k := by unfold idInst bits pid gTMR; omega
  exact ⟨h1, h2, fun d hd => by rw [firstId, h1, h2, hd]⟩

/-- The state behind a read of a low word: the upper words are latched, and a FIFO has lost its oldest entry (R16, R511). -/
def latched (tr : Transport) (d : ParamDef) (id : Nat) (s : State) : State :=
  s.modLink tr fun l => { l with latch := (((toWords d.words (readBits s d id)).drop 1).zipIdx (id + 1)).foldl (fun m e => assocSet m e.2 e.1) l.latch }

/-- PARAM_READ of the low word of a longer parameter (R16, R511). -/
theorem doParamRead_low {s : State} {id : Nat} {d : ParamDef} (c : Ctx) (hd : paramAt s.ident.big id = some d) (hw : d.words ≠ 1)
    (hf : firstId d id = id) :
    doParamRead c 0 [id] s = (if idGroup id = gTMR ∧ d.idx = TMR.FIFO then fifoPop (idInst id) (latched c.tr d id s) else latched c.tr d id s).answer c
      St.OK (leBytes 2 ((toWords d.words (readBits s d id)).headD 0).toNat) := by
  rw [doParamRead_one c hd]
  simp [readReply, readSeq, readOne, hd, hw, hf, wordBytes, State.okReply, latched]

/-- The latch belongs to the transport. -/
theorem OnlyReplies.latchUpper (s : State) {tr : Transport} (h : tr ≠ .fleet) (d : ParamDef) (id : Nat) : OnlyReplies s (latched tr d id s) :=
  .modLink s h _

theorem latched_timers (s : State) (tr : Transport) (d : ParamDef) (id : Nat) : (latched tr d id s).timers = s.timers := by
  cases tr <;> rfl

theorem toWords_headD {k : Nat} (hk : k ≠ 0) (n : Nat) : ((toWords k n).headD 0).toNat = n % 65536 := by
  obtain ⟨k, rfl⟩ := Nat.exists_eq_succ_of_ne_zero hk
  simp [toWords]

/-- The read of a low word but a FIFO's changes the transport's latch alone. -/
theorem doParamRead_lowWord {s : State} {id : Nat} {d : ParamDef} {c : Ctx} (ht : c.tr ≠ .fleet) (hd : paramAt s.ident.big id = some d)
    (hw : d.words ≠ 1 ∧ d.words ≠ 0) (hf : firstId d id = id) (hidx : d.idx ≠ TMR.FIFO) :
    ∃ u, OnlyReplies s u ∧ doParamRead c 0 [id] s = u.answer c St.OK (leBytes 2 (readBits s d id % 65536)) := by
  refine ⟨latched c.tr d id s, .latchUpper s ht d id, ?_⟩
  rw [doParamRead_low c hd hw.1 hf, toWords_headD hw.2, if_neg fun h => hidx h.2]

/-- COUNT and CAPTURE of a timer as a read shows them (R515). -/
theorem readBits_timer {s : State} {k : Nat} (hk : k < 16) (hp : (s.timer k).capture < 2 ^ 32) :
    readBits s ⟨0, 15, 24, 2, .live, false, [], .const 0, .free, "COUNT"⟩ (pid gTMR k TMR.COUNT) = (s.timer k).count ∧
    readBits s ⟨0, 15, 26, 2, .ro, false, [], .const 0, .free, "CAPTURE"⟩ (pid gTMR k TMR.CAPTURE) = (s.timer k).capture := by
  obtain ⟨g1, i1, -⟩ := id_timer hk (i := TMR.COUNT) (by decide)
  obtain ⟨g2, i2, -⟩ := id_timer hk (i := TMR.CAPTURE) (by decide)
  constructor
  · simp [readBits, g1, i1, liveVal, hk]
  · simp only [readBits, g2, i2, roVal, roTMR, Nat.not_le.mpr hk, ParamDef.width, ofS]
    simp
    omega

/-- The link of a transport after a change of it. -/
theorem link_modLink (s : State) (tr : Transport) (f : Link → Link) : (s.modLink tr f).link tr = f (s.link tr) := by cases tr <;> rfl

/-- HELLO that both ends can agree on, with no other command of the transport in flight: the version of a link in tagged framing is taken
(R56). -/
theorem doHello_agreed {s : State} {c : Ctx} {lo hi : Nat} (ht : c.tr ≠ .fleet) (h1 : lo ≤ topVer s) (h2 : 2 ≤ hi) (h3 : lo ≤ hi)
    (hf : ∀ f ∈ s.host.flights, f.tr = c.tr → f.tag = c.tag) :
    ∃ u, OnlyReplies s u ∧ ((s.link c.tr).ver ≠ 1 → (u.link c.tr).ver = min hi (topVer s)) ∧
      doHello c lo hi s =
        u.answer c St.OK ([byte (min hi (topVer s)), byte (topVer s)] ++ leBytes 2 (partCode s) ++ leBytes 4 (fwBuild s)) := by
  have hall : (s.host.flights.any fun f => f.tr == c.tr && f.tag != c.tag) = false := by simpa using hf
  by_cases hv : (s.link c.tr).ver = 1
  · refine ⟨s, .refl s, fun hn => absurd hv hn, ?_⟩
    simp [doHello, hall, Nat.not_lt.mpr h1, Nat.not_lt.mpr h2, Nat.not_lt.mpr h3, State.okReply, hv]
  · refine ⟨_, .modLink s ht fun l => { l with ver := min hi (topVer s) }, fun _ => congrArg Link.ver (link_modLink s c.tr _), ?_⟩
    obtain ⟨g, e⟩ := s.modLink_host c.tr fun l => { l with ver := min hi (topVer s) }
    have hparts : partCode ({ s with host := g } : State) = partCode s ∧ fwBuild ({ s with host := g } : State) = fwBuild s := ⟨rfl, rfl⟩
    simp [doHello, hall, Nat.not_lt.mpr h1, Nat.not_lt.mpr h2, Nat.not_lt.mpr h3, State.okReply, hv, ht, e, hparts]

/-- A window cleared has no held minimum or maximum. -/
theorem telWin_telClear (c w : Nat) (j : Jobs) : telWin (telClear c w j) c w = { telWin j c w with mn := none, mx := none } := by
  simp only [telClear, setTel]
  rw [telWin, assocGet_assocSet_self, Option.getD_some]

/-- TEL_READ of a window with bit 0 of FLAGS: the window is cleared in the read image and where it is kept. -/
theorem doTelRead_window {s : State} {chan w : Nat} (c : Ctx) (h : (telChans s).contains chan = true) (hb : s.ident.big = true) (hw : w < 4) :
    ∃ u : State, u.image = telClear chan w s.image ∧ u.jobs = telClear chan w s.jobs ∧ u.params = s.params ∧
      doTelRead c chan w 1 s = u.answer c St.OK
        (leBytes 2 (ofS 16 (telWin s.image chan w).avg) ++ leBytes 2 (ofS 16 ((telWin s.image chan w).mn.getD (-32768))) ++
          leBytes 2 (ofS 16 ((telWin s.image chan w).mx.getD (-32768))) ++ [0, 0]) := by
  have hne : w ≠ 0xFF := by omega
  refine ⟨{ s.modJobs (telClear chan w) with image := telClear chan w s.image, imgNext := s.imgNext.map (telClear chan w) }, rfl, rfl, rfl, ?_⟩
  simp only [doTelRead, h, hne, hb, Nat.not_le.mpr hw, State.okReply]
  rfl

/-- The read of a timer's FIFO removes its oldest entry (R511). -/
theorem doParamRead_fifo {s : State} {k : Nat} (c : Ctx) (hk : k < 16) :
    ∃ (u : State) (w : Nat), u.timers = (fifoPop k s).timers ∧ doParamRead c 0 [pid gTMR k TMR.FIFO] s = u.answer c St.OK (leBytes 2 w) := by
  obtain ⟨hg, hi, hf⟩ := id_timer hk (i := TMR.FIFO) (by decide)
  obtain ⟨-, -, hd⟩ := paramAt_timer hk s.ident.big
  refine ⟨_, _, ?_, doParamRead_low c hd (by decide) (hf _ rfl)⟩
  rw [if_pos ⟨hg, rfl⟩, hi]
  simp only [fifoPop, State.modTimer_fields, latched_timers]

/-- The read of COUNT or CAPTURE of a timer changes the transport's latch alone (R515). -/
theorem doParamRead_count {s : State} {k : Nat} (c : Ctx) (ht : c.tr ≠ .fleet) (hk : k < 16) (hc : (s.timer k).capture < 2 ^ 32) (cap : Bool) :
    ∃ u, OnlyReplies s u ∧ doParamRead c 0 [pid gTMR k (if cap then TMR.CAPTURE else TMR.COUNT)] s =
      u.answer c St.OK (leBytes 2 ((if cap then (s.timer k).capture else (s.timer k).count) % 65536)) := by
  obtain ⟨hcount, hcapture, -⟩ := paramAt_timer hk s.ident.big
  obtain ⟨rcount, rcapture⟩ := readBits_timer hk hc
  cases cap
  case false =>
    obtain ⟨-, -, hf⟩ := id_timer hk (i := TMR.COUNT) (by decide)
    simpa [rcount] using doParamRead_lowWord ht hcount (by decide) (hf _ rfl) (by decide)
  case true =>
    obtain ⟨-, -, hf⟩ := id_timer hk (i := TMR.CAPTURE) (by decide)
    simpa [rcapture] using doParamRead_lowWord ht hcapture (by decide) (hf _ rfl) (by decide)

end Sys2Proof.Machine

open Sys2Proof Sys2Proof.Machine

/-- Settles O2: each command passes the gate (hostCmd_relinked), and its body answers with what it reads. -/
theorem hostReadRows : Obligations.HostReadRows := by
  intro s h
  refine ⟨?hello, ?info, ?param, ?absent, ?block, ?tide, ?event, ?cal, ?rec, ?now, ?window, ?trace, ?ledger, ?result, ?fifo, ?count⟩
  case hello =>
    intro lo hi r h1 h2 h3 hf
    obtain ⟨spi, i2c, can, fs, e, -, hv, hfs⟩ := hostCmd_relinked (k := cmdHello lo hi) r rfl
    have hflights : ∀ f ∈ fs, f.tr = h.tr → f.tag = some h.tag := fun f hm he => (hfs f hm).resolve_left fun hm => hf f hm he
    obtain ⟨u, hu, huv, hdo⟩ := doHello_agreed (s := s.relinked spi i2c can fs) (c := ctxOf h 0x01) r.2.1 h1 h2 h3 hflights
    refine ⟨_, e.trans (congrArg _ hdo), ?_, fun hne => ?_, answer_repliedTo _ (ctxOf h 0x01) _ _⟩
    · exact ((OnlyReplies.relinked s spi i2c can fs).trans hu).trans (OnlyReplies.answer u r.2.1 _ _)
    · exact (answer_link u _ _ _ _).1.trans (huv (by rwa [← hv] at hne))
  case window =>
    intro c w r hc hb hw
    obtain ⟨spi, i2c, can, fs, e, -, -⟩ := hostCmd_relinked (k := cmdTelRead c w 1) r rfl
    obtain ⟨u, hi, hj, hp, hdo⟩ := doTelRead_window (s := s.relinked spi i2c can fs) (ctxOf h 0x41) hc hb hw
    refine ⟨_, e.trans (congrArg _ hdo), ?_, ?_, ?_, ?_, answer_repliedTo _ (ctxOf h 0x41) _ _⟩
    · rw [(State.answer_fields _ _ _ _).2.2.2.2.2.2.1, hi]; exact telWin_telClear c w _
    · rw [(State.answer_fields _ _ _ _).1, hj]; exact telWin_telClear c w _
    · rw [(State.answer_fields _ _ _ _).1, hj]; rfl
    · rw [(State.answer_fields _ _ _ _).2.2.1, hp]; rfl
  case fifo =>
    intro k r hk hlen
    obtain ⟨spi, i2c, can, fs, e, -⟩ := hostCmd_relinked (k := cmdRead [pid gTMR k TMR.FIFO]) r rfl
    obtain ⟨u, w, ht, hdo⟩ := doParamRead_fifo (s := s.relinked spi i2c can fs) (ctxOf h 0x10) hk
    refine ⟨_, _, e.trans (congrArg _ hdo), answer_repliedTo _ (ctxOf h 0x10) _ _, length_leBytes _ _, ?_⟩
    have hu : ∀ j, (u.answer (ctxOf h 0x10) St.OK (leBytes 2 w)).timer j = (fifoPop k s).timer j := by
      intro j
      unfold State.timer
      rw [(State.answer_fields _ _ _ _).2.2.2.2.2.1, ht]
      rfl
    have hself : (fifoPop k s).timer k = _ := State.timer_modTimer_self hlen _
    exact ⟨by rw [hu, hself], by rw [hu, hself], fun j hj => (hu j).trans (State.timer_modTimer_ne hj _)⟩
  case info =>
    intro r
    refine answers_of_body (k := cmdGetInfo) r rfl rfl fun spi i2c can fs hp => ⟨_, .refl _, ?_⟩
    rw [← hp]
    rfl
  case param =>
    intro id d r hd hw ha
    refine answers_of_body (k := cmdParamRead 0 [id]) r rfl rfl fun spi i2c can fs _ => ⟨_, .refl _, ?_⟩
    rw [← readWord_relinked hd ha spi i2c can fs]
    exact (doParamRead_one (s := s.relinked spi i2c can fs) _ hd).trans (readReply_one hd hw)
  case absent =>
    intro id r hd
    exact answers_of_body (k := cmdParamRead 0 [id]) r rfl rfl fun _ _ _ _ _ => ⟨_, .refl _, doParamRead_absent _ hd⟩
  case block =>
    intro id k w r hid hk hw
    exact answers_of_body (k := cmdReadBlock id 1 (k + 1)) r rfl rfl fun _ _ _ _ _ => ⟨_, .refl _, doParamReadBlock_set _ hid hk hw⟩
  case tide =>
    intro r
    exact answers_of_body (k := cmdTideRead) r rfl rfl fun _ _ _ _ _ => ⟨_, .refl _, rfl⟩
  case event =>
    intro n r h1 h2
    exact answers_of_body (k := cmdEventRead n) r rfl rfl fun _ _ _ _ _ => ⟨_, .refl _, doEventRead_some _ h1 h2⟩
  case cal =>
    intro c l r hc hp hl
    exact answers_of_body (k := cmdCalRead c l) r rfl rfl fun _ _ _ _ _ => ⟨_, .refl _, doCalRead_channel _ hc hp hl⟩
  case rec =>
    intro k b r hb
    exact answers_of_body (k := cmdRecRead k) r rfl rfl fun _ _ _ _ _ => ⟨_, .refl _, doRecRead_some _ hb⟩
  case now =>
    intro c fl r hc
    exact answers_of_body (k := cmdTelRead c 0xFF fl) r rfl rfl fun _ _ _ _ _ => ⟨_, .refl _, doTelRead_now _ fl hc⟩
  case trace =>
    intro off n r h1 hb h2 h3
    exact answers_of_body (k := cmdTraceRead off n) r rfl rfl fun _ _ _ _ _ => ⟨_, .refl _, doTraceRead_some _ h1 hb h2 h3⟩
  case ledger =>
    intro x r hx
    exact answers_of_body (k := cmdLedgerRead x) r rfl rfl fun _ _ _ _ _ => ⟨_, .refl _, doLedgerRead_some _ hx⟩
  case result =>
    intro n off x r hn ho hx hl hb
    refine answers_of_body (k := cmdFetch 0x48 3 0 n off) r ?_ rfl fun _ _ _ _ _ => ⟨_, .refl _, doFetch_some _ rfl hx hl hb⟩
    rw [← fetchCmd_attest hn ho]
    rfl
  case count =>
    intro k c r hk _ hp
    exact answers_of_body (k := cmdRead [pid gTMR k (if c then TMR.CAPTURE else TMR.COUNT)]) r rfl rfl fun spi i2c can fs _ =>
      doParamRead_count (s := s.relinked spi i2c can fs) (ctxOf h 0x10) r.2.1 hk hp c
end

section
/-! The host watchdog (R438 to R443): what a key and a check-in do. -/

namespace Sys2Proof.Machine

/-- A watchdog fault: the safety job takes its cause, WD_FAULT tells it, and no lane is touched (R443). -/
theorem wdFault_spec (cause el : Nat) (s : State) :
    (wdFault cause el s).jobs.safe =
      { s.jobs.safe with elapsed := 0, fault := true, notEarly := true, wdCause := cause, timeouts := incSat 32 s.jobs.safe.timeouts } ∧
    (wdFault cause el s).jobs.lanes = s.jobs.lanes ∧ Tells s (wdFault cause el s) Ev.WD_FAULT (satN 0xFFFFFFF el * 2 ^ 4 + cause) := by
  let z := s.modSafe fun f => { f with elapsed := 0, fault := true, notEarly := true, wdCause := cause, timeouts := incSat 32 f.timeouts }
  have htell : Tells s (z.raise Ev.WD_FAULT (satN 0xFFFFFFF el * 2 ^ 4 + cause)) Ev.WD_FAULT (satN 0xFFFFFFF el * 2 ^ 4 + cause) :=
    .of_keeps (.of_host rfl) (.raise z _ _)
  obtain ⟨r, hr⟩ := State.raiseRec_eq z Ev.WD_FAULT (satN 0xFFFFFFF el * 2 ^ 4 + cause)
  have hw : wdFault cause el s = (if wdCounts (z.raiseRec Ev.WD_FAULT (satN 0xFFFFFFF el * 2 ^ 4 + cause)) then
    (z.raiseRec Ev.WD_FAULT (satN 0xFFFFFFF el * 2 ^ 4 + cause)).modCtl fun c => { c with wantSafe := true, service := false, stitchAfter := false }
    else z.raiseRec Ev.WD_FAULT (satN 0xFFFFFFF el * 2 ^ 4 + cause)) := rfl
  rw [hw, hr]
  split <;> exact ⟨rfl, rfl, htell⟩

/-- A KEY_B behind a KEY_A with every task seen completes a service. -/
theorem wdKey_b {s : State} (ha : s.jobs.safe.armed = true) (hm : wdMissing s = 0) : wdKey 0xE48C s = wdService s := by
  simp [wdKey, ha, hm]

/-- A key that is no KEY_A, and no KEY_B behind one, breaks the sequence. -/
theorem wdKey_broken {s : State} {key : Nat} (hA : key ≠ 0x51A7) (hB : key ≠ 0xE48C ∨ s.jobs.safe.armed = false) :
    wdKey key s = wdBroken key s := by
  have h : (decide (key ≠ 0xE48C) || !s.jobs.safe.armed) = true := by rcases hB with h | h <;> simp [h]
  simp only [wdKey, hA, if_false, h, if_true]

/-- A broken sequence is no longer armed, and a fault of cause 3 where the watchdog counts (R440; log 29). -/
theorem wdBroken_spec (key : Nat) (s : State) :
    (wdBroken key s).2 = (St.WD_SEQUENCE, leBytes 2 key) ∧ (wdBroken key s).1.jobs.safe.armed = false ∧
    (wdCounts s = false → (wdBroken key s).1 = s.modSafe fun f => { f with armed := false }) ∧
    (wdCounts s = true → (wdBroken key s).1.jobs.safe.fault = true ∧ (wdBroken key s).1.jobs.safe.wdCause = 3 ∧
      Tells s (wdBroken key s).1 Ev.WD_FAULT (satN 0xFFFFFFF s.jobs.safe.elapsed * 2 ^ 4 + 3)) := by
  let z := s.modSafe fun f => { f with armed := false }
  obtain ⟨hsafe, -, htell⟩ := wdFault_spec 3 s.jobs.safe.elapsed z
  by_cases hc : wdCounts s = true
  · have hb : (wdBroken key s).1 = wdFault 3 s.jobs.safe.elapsed z := if_pos hc
    rw [hb]
    exact ⟨rfl, by rw [hsafe]; rfl, fun h => absurd (hc.symm.trans h) (by decide),
      fun _ => ⟨by rw [hsafe], by rw [hsafe], .of_keeps (.of_host rfl) htell⟩⟩
  · have hb : (wdBroken key s).1 = z := if_neg hc
    rw [hb]
    exact ⟨rfl, rfl, fun _ => rfl, fun h => absurd h hc⟩

/-- A KEY_B within the window (R442). -/
theorem wdService_window {s : State} (hf : s.jobs.safe.fired = false) (ho : 100 * par s gSAF 0 SAF.WD_OPEN ≤ s.jobs.safe.elapsed)
    (hc : s.jobs.safe.elapsed < wdClose s) :
    wdService s = ((wdComplete s).modSafe fun f => { f with fired := false }, St.OK, leBytes 4 s.jobs.safe.elapsed) := by
  simp [wdService, hf, Nat.not_lt.mpr ho, Nat.not_le.mpr hc]

/-- A KEY_B before the window where the watchdog counts and is enabled (R442). -/
theorem wdService_early {s : State} (hf : s.jobs.safe.fired = false) (hc : wdCounts s = true) (he : par s gSAF 0 SAF.WD_EN = 1)
    (hn : s.jobs.safe.notEarly = false) (ho : s.jobs.safe.elapsed < 100 * par s gSAF 0 SAF.WD_OPEN) :
    wdService s = (wdFault 2 s.jobs.safe.elapsed (s.modSafe fun f => { f with armed := false, seen := 0, dup := false }), St.WD_EARLY,
      leBytes 2 (s.jobs.safe.elapsed % 65536)) := by
  simp [wdService, hf, hc, he, hn, ho]

/-- A completed service (R8, R442). -/
theorem wdComplete_spec (s : State) :
    (wdComplete s).jobs = { s.jobs with safe := { s.jobs.safe with elapsed := 0, armed := false, seen := 0, dup := false, fault := false, notEarly := false } } ∧
    (wdComplete s).host = s.host ∧ (s.ctl.state = .safe → (wdComplete s).ctl.service = true) := by
  unfold wdComplete
  dsimp only
  split
  case isTrue => exact ⟨rfl, rfl, fun _ => rfl⟩
  case isFalse h =>
    refine ⟨rfl, rfl, fun hs => absurd ?_ h⟩
    simp [hs]

/-- The check-in of a named task not yet seen marks it (R441). -/
theorem wdCheckin_first {s : State} {k : Nat} (hn : bit (par s gSAF 0 SAF.WD_TASKMASK) k = true) (hs : bit s.jobs.safe.seen k = false) :
    wdCheckin k s = (s.modSafe fun f => { f with seen := setBit f.seen k }, St.OK, leBytes 2 (setBit s.jobs.safe.seen k)) := by
  simp [wdCheckin, hn, hs]

/-- A key or check-in handed over before S4 of the safety job counts at once (R438). -/
theorem wdHand_now {s : State} {w : WdWait} (hc : w.cmd.cyc < wdCycle s) (hs : safetyRuns s = true) (ho : w.owed = true) :
    wdHand w s = (if w.checkin then wdCheckin w.arg s else wdKey w.arg s).1.answer w.cmd
      (if w.checkin then wdCheckin w.arg s else wdKey w.arg s).2.1 (if w.checkin then wdCheckin w.arg s else wdKey w.arg s).2.2 := by
  simp [wdHand, wdCount, Nat.not_le.mpr hc, hs, ho]

/-- One handed over later waits for the next frame (R438). -/
theorem wdHand_later {s : State} {w : WdWait} (h : wdCycle s ≤ w.cmd.cyc ∨ safetyRuns s = false) :
    wdHand w s = s.modSafe fun f => { f with later := f.later ++ [w] } := by
  have hb : (decide (wdCycle s ≤ w.cmd.cyc) || !safetyRuns s) = true := by rcases h with h | h <;> simp [h]
  simp only [wdHand, hb, if_true]

/-- WD_SERVE with a key that counts at once. -/
theorem wdServe_now {s : State} {h : Hdr} (key : Nat) (r : HostReady s h 0x20 1 1) (hc : h.cyc < wdCycle s) (hs : safetyRuns s = true) :
    ∃ spi i2c can fs, hostCmd h (cmdWdServe key) s = .next ((wdKey key (s.relinked spi i2c can fs)).1.answer (ctxOf h 0x20)
      (wdKey key (s.relinked spi i2c can fs)).2.1 (wdKey key (s.relinked spi i2c can fs)).2.2) := by
  obtain ⟨spi, i2c, can, fs, e, -⟩ := hostCmd_relinked (k := cmdWdServe key) r rfl
  exact ⟨spi, i2c, can, fs, e.trans (congrArg _ (wdHand_now (s := s.relinked spi i2c can fs) (w := ⟨ctxOf h 0x20, false, key, true⟩) hc hs rfl))⟩

/-- An answer forgets no event. -/
theorem KeepsEvents.answer (s : State) (c : Ctx) (st : Nat) (pay : List Byte) : KeepsEvents s (s.answer c st pay) := by
  obtain ⟨he, hl⟩ := s.answer_events c st pay
  unfold KeepsEvents
  rw [he, hl]
  exact ⟨le_rfl, List.Subset.refl _⟩

/-- The answer to a key that breaks the sequence, from the state s in which it came. -/
theorem wdServe_broken {s : State} {h : Hdr} {key : Nat} (r : HostReady s h 0x20 1 1) (hc : h.cyc < wdCycle s) (hs : safetyRuns s = true)
    (hA : key ≠ 0x51A7) (hB : key ≠ 0xE48C ∨ s.jobs.safe.armed = false) :
    ∃ t, hostCmd h (cmdWdServe key) s = .next t ∧ Replied t h St.WD_SEQUENCE (leBytes 2 key) ∧ t.jobs.safe.armed = false ∧
      (wdCounts s = false → t.jobs = { s.jobs with safe := { s.jobs.safe with armed := false } } ∧ t.host.events = s.host.events) ∧
      (wdCounts s = true → t.jobs.safe.fault = true ∧ t.jobs.safe.wdCause = 3 ∧
        Tells s t Ev.WD_FAULT (satN 0xFFFFFFF s.jobs.safe.elapsed * 2 ^ 4 + 3)) := by
  obtain ⟨spi, i2c, can, fs, e⟩ := wdServe_now key r hc hs
  obtain ⟨hans, harm, hno, hyes⟩ := wdBroken_spec key (s.relinked spi i2c can fs)
  rw [wdKey_broken (s := s.relinked spi i2c can fs) hA hB, hans] at e
  refine ⟨_, e, answer_repliedTo _ (ctxOf h 0x20) _ _, ?_, fun hn => ?_, fun hy => ?_⟩
  · rw [(State.answer_fields _ _ _ _).1, harm]
  · rw [(State.answer_fields _ _ _ _).1, (State.answer_events _ _ _ _).1, hno hn]
    exact ⟨rfl, rfl⟩
  · obtain ⟨hfault, hcause, htell⟩ := hyes hy
    rw [(State.answer_fields _ _ _ _).1]
    exact ⟨hfault, hcause, .mono (.of_keeps (.of_host rfl) htell) (.answer _ _ _ _)⟩

/-! MOOR, RESET_DEVICE, PH_REINSTATE and TRACE_ARM (R9, R11, R197, R469). -/

theorem doMoor_confirmed {s : State} (c : Ctx) (h : s.ctl.state ≠ .halt) :
    doMoor c 0x4D52 s = (s.answer c St.OK []).modCtl fun k => { k with mooring := true } := by
  simp [doMoor, h, State.okReply]

theorem doPhReinstate_retired {s : State} {x : Nat} (c : Ctx) (hx : x < nPh s) (hs : (s.phase x).st = .retired) :
    doPhReinstate c x s = (s.modPhase x fun p => { p with nextSt := some .shed }).answer c St.OK [] := by
  simp [doPhReinstate, hs, Nat.not_le.mpr hx, State.okReply]

theorem doTraceArm_valid {s : State} {trig pre code mask : Nat} (c : Ctx) (ht : trig ≤ 2) (hp : pre ≤ 100) (hc : trig = 1 → code < 16)
    (hm : mask ≠ 0) (hm' : mask < 2 ^ 28) (ha : ∀ k ∈ bitsOf 28 mask, traceAbsent s k = false) :
    doTraceArm c trig pre code mask s =
      ({ s with trace := { st := 1, trig := trig, pre := pre, code := code, mask := mask, armedAt := s.frame } } : State).answer c St.OK [] := by
  have h3 : ¬ (trig = 1 ∧ 16 ≤ code) := fun h => absurd (hc h.1) (Nat.not_lt.mpr h.2)
  have h4 : ¬ ((mask = 0 ∨ 2 ^ 28 ≤ mask) ∨ (bitsOf 28 mask).any (traceAbsent s) = true) := by
    simp only [List.any_eq_true, not_or, not_exists, not_and]
    exact ⟨⟨hm, Nat.not_le.mpr hm'⟩, fun k hk => by simp [ha k hk]⟩
  simp only [doTraceArm, Nat.not_lt.mpr ht, Nat.not_lt.mpr hp, State.okReply, Bool.or_eq_true, Bool.and_eq_true, decide_eq_true_eq, h3, h4, if_false]

/-- The retirement that is told leaves the phases but for newRet, and flash (R194). -/
theorem retireTell_spec (x k : Nat) (s : State) :
    KeepsEvents s (retireTell x k s) ∧ (retireTell x k s).flash = s.flash ∧
      (retireTell x k s).jobs.phases = modAt s.jobs.phases x fun p => { p with newRet := true } := by
  let z := (s.modMod x fun m => { m with failed := none }).modPhase x fun p => { p with newRet := true }
  obtain ⟨r, hr⟩ := State.raiseRec_eq z Ev.PHASE_RETIRED (retiredIn24h z x * 2 ^ 16 + x * 2 ^ 8 + k)
  let y : State := { z.raise Ev.PHASE_RETIRED (retiredIn24h z x * 2 ^ 16 + x * 2 ^ 8 + k) with records := r }
  have hk : KeepsEvents s y := (KeepsEvents.of_host rfl).trans ((KeepsEvents.raise z _ _).trans (.of_host rfl))
  have hy : retireTell x k s = if (y.phase x).st = .worn then y.raise Ev.PHASE_WORN x else y := by
    unfold retireTell
    dsimp only
    rw [hr]
  rw [hy]
  split
  · exact ⟨hk.trans (.raise y _ _), rfl, rfl⟩
  · exact ⟨hk, rfl, rfl⟩

/-- At the start of the next frame a phase to be reinstated is SHED, which PHASE_REINSTATED tells (R187, R197). -/
theorem phaseDue_reinstate {s : State} {x : Nat} (hl : x < s.jobs.phases.length) (h : (s.phase x).nextSt = some .shed) :
    ((phaseDue s x).phase x).st = .shed ∧ ((phaseDue s x).phase x).cause = (s.phase x).cause ∧ Tells s (phaseDue s x) Ev.PHASE_REINSTATED x ∧
      (phaseDue s x).flash = s.flash := by
  have reinstated : ∃ z, KeepsEvents s z ∧ z.flash = s.flash ∧ x < z.jobs.phases.length ∧ (z.phase x).nextSt = some .shed ∧
      (z.phase x).cause = (s.phase x).cause ∧ phaseDue s x =
        (((z.modPhase x fun p => { p with nextSt := none }).modPhase x fun p => { p with st := .shed, newRet := false }).modLed x
          fun l => { l with isRet := false }).raise Ev.PHASE_REINSTATED x := by
    cases hf : (s.mod x).failed with
    | none => exact ⟨s, .refl s, rfl, hl, h, rfl, by simp [phaseDue, hf, h]⟩
    | some k =>
      obtain ⟨hk, hflash, hph⟩ := retireTell_spec x k s
      have hx : (retireTell x k s).phase x = { s.phase x with newRet := true } := by
        rw [State.phase, hph, modAt_getD_self hl]; rfl
      refine ⟨retireTell x k s, hk, hflash, by simpa [hph] using hl, by rw [hx, h], by rw [hx], ?_⟩
      simp [phaseDue, hf, h, hx]
  obtain ⟨z, hk, hflash, hlz, hnext, hcause, e⟩ := reinstated
  have hself : ((z.modPhase x fun p => { p with nextSt := none }).modPhase x fun p => { p with st := .shed, newRet := false }).phase x =
      { z.phase x with nextSt := none, st := .shed, newRet := false } := by
    rw [State.phase_modPhase_self (by simpa using hlz), State.phase_modPhase_self hlz]
  rw [e]
  have hphase : ∀ y : State, ((y.modLed x fun l => { l with isRet := false }).raise Ev.PHASE_REINSTATED x).phase x = y.phase x := fun _ => rfl
  rw [hphase, hself]
  exact ⟨rfl, hcause, .of_keeps (hk.trans (.of_host rfl)) (.raise _ _ _), hflash⟩

end Sys2Proof.Machine

open Sys2Proof Sys2Proof.Machine

/-- Settles O5: the command passes the gate (hostCmd_relinked), and its body is followed case by case. -/
theorem hostControlRows : Obligations.HostControlRows := by
  intro s h
  refine ⟨?keyA, ?later, ?window, ?early, ?unarmed, ?other, ?checkin, ?moor, ?reset, ?reinstate, ?arm⟩
  case keyA =>
    intro r hc hs
    obtain ⟨spi, i2c, can, fs, e⟩ := wdServe_now 0x51A7 r hc hs
    refine ⟨_, e, answer_repliedTo _ (ctxOf h 0x20) _ _, ?_, ?_, ?_⟩
    · rw [(State.answer_fields _ _ _ _).1]; rfl
    · rw [(State.answer_fields _ _ _ _).2.1]; rfl
    · rw [(State.answer_events _ _ _ _).1]; rfl
  case later =>
    intro r hl
    obtain ⟨spi, i2c, can, fs, e, -⟩ := hostCmd_relinked (k := cmdWdServe 0x51A7) r rfl
    exact ⟨_, e.trans (congrArg _ (wdHand_later (s := s.relinked spi i2c can fs) hl)), rfl, rfl, rfl⟩
  case window =>
    intro r ha hm hc hs hf _ ho hcl
    obtain ⟨spi, i2c, can, fs, e⟩ := wdServe_now 0xE48C r hc hs
    rw [wdKey_b (s := s.relinked spi i2c can fs) ha hm, wdService_window (s := s.relinked spi i2c can fs) hf ho hcl] at e
    obtain ⟨hj, hh, hsv⟩ := wdComplete_spec (s.relinked spi i2c can fs)
    refine ⟨_, e, answer_repliedTo _ (ctxOf h 0x20) _ _, ?_⟩
    simp [hj, hh]
    exact ⟨rfl, hsv, rfl, rfl⟩
  case early =>
    intro r ha hm hc hs hf hcnt he hn ho
    obtain ⟨spi, i2c, can, fs, e⟩ := wdServe_now 0xE48C r hc hs
    rw [wdKey_b (s := s.relinked spi i2c can fs) ha hm, wdService_early (s := s.relinked spi i2c can fs) hf hcnt he hn ho] at e
    obtain ⟨hsafe, hlanes, htell⟩ := wdFault_spec 2 s.jobs.safe.elapsed
      ((s.relinked spi i2c can fs).modSafe fun f => { f with armed := false, seen := 0, dup := false })
    refine ⟨_, e, answer_repliedTo _ (ctxOf h 0x20) _ _, ?_, ?_, ?_, ?_, .mono (.of_keeps (.of_host rfl) htell) (.answer _ _ _ _), ?_⟩
    all_goals rw [(State.answer_fields _ _ _ _).1]
    · exact congrArg Safety.elapsed hsafe
    · exact congrArg Safety.fault hsafe
    · exact congrArg Safety.wdCause hsafe
    · exact congrArg Safety.timeouts hsafe
    · exact hlanes
  case unarmed =>
    intro r hc hs harm
    obtain ⟨t, e, hr, ha, hno, hyes⟩ := wdServe_broken r hc hs (key := 0xE48C) (by decide) (.inr harm)
    refine ⟨t, e, hr, ha, fun hn => ?_, hyes⟩
    obtain ⟨hj, hev⟩ := hno hn
    exact ⟨by rw [hj, ← harm], hev⟩
  case other =>
    intro key r hc hs hA hB
    obtain ⟨t, e, hr, ha, hno, hyes⟩ := wdServe_broken r hc hs hA (.inl hB)
    refine ⟨t, e, hr, ha, fun hn => ?_, hyes⟩
    obtain ⟨hj, hev⟩ := hno hn
    exact ⟨by rw [hj], hev⟩
  case checkin =>
    intro k r hc hs hk hn hseen
    obtain ⟨spi, i2c, can, fs, e, -⟩ := hostCmd_relinked (k := cmdWdCheckin k) r rfl
    have hdo : doWdCheckin (ctxOf h 0x21) k (s.relinked spi i2c can fs) =
        ((s.relinked spi i2c can fs).modSafe fun f => { f with seen := setBit f.seen k }).answer (ctxOf h 0x21) St.OK
          (leBytes 2 (setBit s.jobs.safe.seen k)) := by
      rw [doWdCheckin, if_neg (Nat.not_lt.mpr hk), wdHand_now (s := s.relinked spi i2c can fs) (w := ⟨ctxOf h 0x21, true, k, true⟩) hc hs rfl]
      simp only [if_true, wdCheckin_first (s := s.relinked spi i2c can fs) hn hseen]
      rfl
    refine ⟨_, e.trans (congrArg _ hdo), ?_, answer_repliedTo _ (ctxOf h 0x21) _ _, ?_⟩
    · rw [(State.answer_fields _ _ _ _).1]; rfl
    · rw [(State.answer_events _ _ _ _).1]; rfl
  case moor =>
    intro r hst
    obtain ⟨spi, i2c, can, fs, e, -⟩ := hostCmd_relinked (k := cmdMoor 0x4D52) r rfl
    have hdo := doMoor_confirmed (s := s.relinked spi i2c can fs) (ctxOf h 0x7E) hst
    refine ⟨_, e.trans (congrArg _ hdo), (answer_repliedTo _ (ctxOf h 0x7E) _ _).congr rfl, ?_⟩
    simp [State.relinked]
  case reset =>
    intro r
    obtain ⟨spi, i2c, can, fs, e, -⟩ := hostCmd_relinked (k := cmdResetDevice 0x5253) r rfl
    refine ⟨_, e, (answer_repliedTo _ (ctxOf h 0x7F) _ _).congr rfl, ?_⟩
    simp [cmdResetDevice, fixed, doResetDevice, State.okReply, State.relinked]
  case reinstate =>
    intro x r hx hl hs
    obtain ⟨spi, i2c, can, fs, e, -⟩ := hostCmd_relinked (k := cmdPhReinstate x) r rfl
    have hdo := doPhReinstate_retired (s := s.relinked spi i2c can fs) (ctxOf h 0x58) hx hs
    generalize ht : ((s.relinked spi i2c can fs).modPhase x fun p => { p with nextSt := some .shed }).answer (ctxOf h 0x58) St.OK [] = t at hdo
    have hj : t.jobs = (s.modPhase x fun p => { p with nextSt := some .shed }).jobs := by
      rw [← ht, (State.answer_fields _ _ _ _).1]; rfl
    have hflash : t.flash = s.flash := by rw [← ht, (State.answer_fields _ _ _ _).2.2.2.2.2.2.2.1]; rfl
    have hev : t.host.events = s.host.events := by rw [← ht, (State.answer_events _ _ _ _).1]; rfl
    have hphase (y : Nat) : t.phase y = (s.modPhase x fun p => { p with nextSt := some .shed }).phase y := by
      unfold State.phase; rw [hj]
    have hself : t.phase x = { s.phase x with nextSt := some .shed } := by rw [hphase, State.phase_modPhase_self hl]
    obtain ⟨hst, hcause, htell, hfl⟩ := phaseDue_reinstate (s := t) (x := x) (by rw [hj]; simpa using hl) (by rw [hself])
    refine ⟨t, e.trans (congrArg _ hdo), ?_, hself, fun y hy => ?_, ?_, hflash, hev, hst, ?_, htell, hfl.trans hflash⟩
    · rw [← ht]; exact answer_repliedTo _ (ctxOf h 0x58) _ _
    · rw [hphase, State.phase_modPhase_ne hy]
    · rw [hj]; rfl
    · rw [hcause, hself]
  case arm =>
    intro trig pre code mask r ht hp hc hm hm' ha
    obtain ⟨spi, i2c, can, fs, e, -⟩ := hostCmd_relinked (k := cmdTraceArm trig pre code mask) r rfl
    have hdo := doTraceArm_valid (s := s.relinked spi i2c can fs) (ctxOf h 0x42) ht hp hc hm hm' ha
    refine ⟨_, e.trans (congrArg _ hdo), answer_repliedTo _ (ctxOf h 0x42) _ _, ?_, ?_⟩
    · rw [(State.answer_fields _ _ _ _).2.2.2.2.1]; rfl
    · rw [(State.answer_fields _ _ _ _).1]; rfl
end

section
open Sys2Proof Sys2Proof.Machine

/-- Refutes O39: its first clause asks for the hold wherever the pipeline runs, its third for no effect in MOORED. The state in MOORED with
the pipeline marked as running meets the hypotheses of both. -/
theorem not_safenRows : ¬ Obligations.SafenRows := by
  intro h
  let s : State := { State.reset with
    ctl := { state := .moored }
    jobs := { State.reset.jobs with frm := { running := true } } }
  obtain ⟨low, -, moored, -⟩ := h s
  obtain ⟨t, ht, hold, -⟩ := low (by decide) (by decide)
  rw [moored rfl] at ht
  cases ht
  exact absurd hold (by decide)
end

section
/-! What the cancelling of launches leaves alone (R154, R391, R392): the tide table and the sets aside, the fleet job and its lines. -/

namespace Sys2Proof.Machine

/-- From s to t launches may have been cancelled and sets emptied or released, the fleet job has moved, and events been raised; nothing else
has changed. -/
structure FleetStep (s t : State) : Prop where
  eq : t = { s with
    host := { s.host with events := t.host.events, evSeq := t.host.evSeq, lost := t.host.lost, tide := t.host.tide, sets := t.host.sets }
    jobs := { s.jobs with fleet := t.jobs.fleet }, trace := t.trace, freeCtr := t.freeCtr }
  events : KeepsEvents s t

theorem FleetStep.refl (s : State) : FleetStep s s := ⟨rfl, .refl s⟩

theorem FleetStep.trans {s t u : State} (h : FleetStep s t) (g : FleetStep t u) : FleetStep s u :=
  ⟨by rw [g.eq, h.eq], h.events.trans g.events⟩

theorem FleetStep.raise (s : State) (c a : Nat) : FleetStep s (s.raise c a) := by
  have e : OnlyEvents s (s.raise c a) := .raise s c a
  unfold OnlyEvents at e
  exact ⟨by rw [e], .raise s c a⟩

theorem FleetStep.modFl (s : State) (q : Nat) (f : FlPort → FlPort) : FleetStep s (s.modFl q f) := ⟨rfl, .of_host rfl⟩

theorem FleetStep.flSend (q pr typ route dst : Nat) (pay : List Byte) (s : State) : FleetStep s (flSend q pr typ route dst pay s) :=
  ⟨rfl, .of_host rfl⟩

theorem FleetStep.fwdDown (f : FFrame) (s : State) : FleetStep s (fwdDown f s) := foldl_rel .refl .trans _ _ (fun s q => .modFl s q _) s

theorem FleetStep.broadcast (typ src : Nat) (pay : List Byte) (s : State) : FleetStep s (broadcast typ src pay s) :=
  .trans (t := (s.modFleet _).drawn 1) ⟨rfl, .of_host rfl⟩ (.fwdDown _ _)

theorem FleetStep.sendUp (typ : Nat) (pay : List Byte) (s : State) : FleetStep s (sendUp typ pay s) := by
  unfold Machine.sendUp
  split
  · split
    · exact .flSend _ _ _ _ _ _ s
    · exact .refl s
  · exact .refl s

theorem FleetStep.originate (typ : Nat) (pay : List Byte) {act : State → State} (ha : ∀ z, FleetStep z (act z)) (s : State) :
    FleetStep s (originate typ pay act s) := by
  unfold Machine.originate
  split
  · exact (FleetStep.broadcast typ _ pay s).trans (ha _)
  · exact .sendUp typ pay s

theorem FleetStep.dropLaunch (lid : Nat) (s : State) : FleetStep s (dropLaunch lid s) :=
  ⟨rfl, le_rfl, List.Subset.refl _⟩

theorem FleetStep.cancelLaunches (p : Tide → Bool) (cause : Nat) (s : State) : FleetStep s (cancelLaunches p cause s) :=
  foldl_rel .refl .trans _ (s.host.tide.filter p) (fun z (t : Tide) => (FleetStep.dropLaunch t.lid z).trans (.raise _ _ _)) s

theorem FleetStep.sendCancel (lid : Nat) (s : State) : FleetStep s (sendCancel lid s) := by
  have take (z : State) : FleetStep z (takeCancel (leBytes 2 lid) z) := .cancelLaunches _ 1 z
  unfold Machine.sendCancel
  split
  · exact take s
  · exact .originate _ _ take s

theorem FleetStep.cancelAll (s : State) : FleetStep s (cancelAll s) := by
  refine foldl_rel .refl .trans _ _ (fun z t => ?_) s
  split
  · exact .sendCancel t.lid z
  · split
    · exact .cancelLaunches _ 1 z
    · exact .dropLaunch t.lid z

/-- The first two steps of a RESTORE_FACTORY (R154). -/
theorem FleetStep.restoreClear (s : State) : FleetStep s (restoreClear s) :=
  .trans (t := s.modHost _) ⟨rfl, le_rfl, List.Subset.refl _⟩ (.cancelAll _)

end Sys2Proof.Machine
end

section
/-! MOORED and the command core's restart (R11, R45 to R49, R445, R446). -/

namespace Sys2Proof.Machine

/-- Of a list filtered by its keys a kept key finds what it found, another one nothing. -/
theorem assocGet_filter {β : Type} (p : Nat → Bool) (l : List (Nat × β)) (k : Nat) :
    assocGet (l.filter fun e => p e.1) k = if p k then assocGet l k else none := by
  induction l with
  | nil => simp [assocGet]
  | cons e l ih =>
    obtain ⟨j, b⟩ := e
    by_cases hj : p j = true
    · by_cases he : j = k
      · subst he; simp [hj, assocGet]
      · simp [hj, assocGet, he, ih]
    · by_cases he : j = k
      · subst he; simp [hj, ih]
      · simp [hj, assocGet, he, ih]

/-- The IDs whose words MOORED keeps. -/
def mooredIds : List Nat := pid gSEC 0 SEC.PRIV_DEFAULT :: (List.range 4).map fun k => pid gSEQ (9 + k) SEQ.POLARITY

/-- The events raised in order: the rest stands, and each is told. -/
theorem raiseAll_spec (l : List (Nat × Nat)) (s : State) :
    OnlyEvents s (s.raiseAll l) ∧ KeepsEvents s (s.raiseAll l) ∧ ∀ e ∈ l, Tells s (s.raiseAll l) e.1 e.2 := by
  induction l generalizing s with
  | nil => exact ⟨.refl s, .refl s, fun e he => absurd he (List.not_mem_nil)⟩
  | cons e l ih =>
    obtain ⟨ho, hk, ht⟩ := ih (s.raise e.1 e.2)
    refine ⟨(OnlyEvents.raise s e.1 e.2).trans ho, (KeepsEvents.raise s e.1 e.2).trans hk, fun x hx => ?_⟩
    rcases List.mem_cons.mp hx with rfl | hx
    · exact (Tells.raise s x.1 x.2).mono hk
    · exact .of_keeps (.raise s e.1 e.2) (ht x hx)

/-- MOOR_ENTER where every output is off (R11). -/
theorem moorEnter_off {s : State} (hm : s.ctl.mooring = true) (hh : s.ctl.state ≠ .halt) (hl : ∀ n, n < nLn s → (s.lane n).st = .off)
    (hr : railsOff s = true) (hi : s.outs.swin = rep 4 false) (hp : s.outs.swpp = rep 4 false) (hk : s.outs.swlink = false)
    (hs : s.jobs.rails.st = .idle ∨ s.jobs.rails.st = .tripped) :
    ∃ t, exec .moorEnter s = .next t ∧ t.ctl.state = .moored ∧ t.ctl.coreUp = false ∧ t.flash = s.flash ∧ t.otp = s.otp ∧ t.ident = s.ident ∧
      t.params.vals = s.params.vals.filter (fun e => mooredIds.contains e.1) ∧ t.pending = s.pending ∧
      t.jobs.sched.ledger = s.jobs.sched.ledger := by
  have hlanes : ((List.range (nLn s)).all fun n => (s.lane n).st == .off) = true := by simpa using hl
  have hopen : (!s.outs.swin.any id && !s.outs.swpp.any id && !s.outs.swlink) = true := by rw [hi, hp, hk]; decide
  have hidle : (decide (s.jobs.rails.st = .idle) || decide (s.jobs.rails.st = .tripped)) = true := by rcases hs with h | h <;> simp [h]
  change ∃ t, execMoorEnter s = _ ∧ _
  unfold execMoorEnter
  dsimp only
  rw [if_pos (by simp [hm, hh, hlanes, hopen, hr, hidle])]
  exact ⟨_, rfl, rfl, rfl, rfl, rfl, rfl, rfl, rfl, rfl⟩

/-- SUPERVISION_WATCHDOG_EXPIRY in its frame (R445, R446). -/
theorem supervision_eq {s : State} (hl : s.live = true) (hc : s.coreRuns = true) (hb : s.ctl.state ≠ .boot) (hf : s.ctl.supFrom + 500 ≤ s.age) :
    exec .supervisionWatchdogExpiry s = .next (
      if 8 ≤ (s.age :: s.ctl.restarts.filter fun a => decide (s.age < a + 1000000)).length then resetTo 5 s
      else
        let z := (coreRestart { s with coreRst := incSat 32 s.coreRst }).modCtl fun c => { c with
          coreUp := false, restarts := s.age :: s.ctl.restarts.filter fun a => decide (s.age < a + 1000000), supFrom := s.age }
        z.askRecord Ev.CORE_RESTARTED z.host.discTags 3 z.fleetTime z.ctl.state.code false) := by
  change execSupervisionWatchdogExpiry s = _
  simp only [execSupervisionWatchdogExpiry, hl, hc, hb, hf, ne_eq, not_false_eq_true, decide_true, Bool.and_self, if_true]
  rfl

end Sys2Proof.Machine

open Sys2Proof Sys2Proof.Machine

/-- Settles O46: MOORED keeps the words it names (assocGet_filter), a restart is coreRestart, the eighth of them resetTo, and what follows the
return of the core cancels launches at most (FleetStep.restoreClear). -/
theorem mooringAndRestartRows : Obligations.MooringAndRestartRows := by
  intro s
  refine ⟨?moor, ?restart, ?reset, ?back⟩
  case moor =>
    intro hm hh hl hr hi hp hk hs
    obtain ⟨t, e, hst, hup, hfl, hotp, hid, hv, hpend, hled⟩ := moorEnter_off hm hh hl hr hi hp hk hs
    refine ⟨t, e, hst, hup, hfl, hotp, hid, fun id h0 hpol => ?_, fun k hk4 => ?_, hpend, hled⟩
    · have hout : mooredIds.contains id = false := by simpa [mooredIds, h0] using fun k hk he => hpol k hk he.symm
      rw [hv, assocGet_filter, hout]
      rfl
    · have hin : mooredIds.contains (pid gSEQ (9 + k) SEQ.POLARITY) = true := by
        simpa [mooredIds] using .inr ⟨k, hk4, rfl⟩
      rw [hv, assocGet_filter, if_pos hin]
  case restart =>
    intro hl hc hb hf hr
    rw [supervision_eq hl hc hb hf, hr, if_neg (by simp)]
    obtain ⟨r, e⟩ := State.askRecord_cases _ _ _ _ _ _ _
    refine ⟨_, congrArg _ e, rfl, rfl, rfl, rfl, rfl, rfl, rfl, fun k hk hfree => ?_, rfl, rfl, rfl, rfl⟩
    change (s.host.sets.map fun x => if x.heldBy.isSome then x else {}).getD k {} = {}
    simp only [List.getD_eq_getElem?_getD, List.getElem?_eq_getElem hk, Option.getD_some] at hfree
    simp [List.getD_eq_getElem?_getD, hk, hfree]
  case reset =>
    intro hl hc hb hf hlen hall
    refine ⟨resetTo 5 s, ?_, (resetTo_spec 5 s).1⟩
    have hnear : (s.ctl.restarts.filter fun a => decide (s.age < a + 1000000)) = s.ctl.restarts := by simpa using hall
    rw [supervision_eq hl hc hb hf, hnear, if_pos (by simpa using hlen)]
  case back =>
    intro hl hu hb hm
    let u := (s.modCtl fun c => { c with coreUp := true }).raise Ev.CORE_RESTARTED s.host.discTags
    let v := u.raiseAll (s.host.ended.map fun o => (Ev.OP_COMPLETE, opArg o.2.2 o.2.1 o.1))
    let w := v.modHost fun h => { h with
      ended := [], discTags := 0
      results := h.results ++ (s.host.ended.filter fun o => hasResult o.2.1).map fun o => ⟨o.1, o.2.1, [], true, v.age + 1000000⟩ }
    obtain ⟨hov, hkv, htold⟩ := raiseAll_spec (s.host.ended.map fun o => (Ev.OP_COMPLETE, opArg o.2.2 o.2.1 o.1)) u
    have hexec : exec .coreRestarted s = .next (if w.host.ops.any fun o => o.opc == 0x38 then restoreClear w else w) := by
      change execCoreRestarted s = _
      simp only [execCoreRestarted, hl, hu, hb, hm, ne_eq, not_false_eq_true, decide_true, Bool.and_self, Bool.not_false, if_true]
      rfl
    have hstep : FleetStep w (if w.host.ops.any fun o => o.opc == 0x38 then restoreClear w else w) := by
      split
      · exact .restoreClear w
      · exact .refl w
    generalize (if w.host.ops.any fun o => o.opc == 0x38 then restoreClear w else w) = t at hexec hstep
    have hkeep : KeepsEvents v t := (KeepsEvents.of_host_events rfl rfl).trans hstep.events
    have hfirst : KeepsEvents s u := (KeepsEvents.of_host rfl).trans (.raise _ _ _)
    have hmain : t.ctl = u.ctl ∧ t.host.ended = [] ∧ t.jobs.lanes = u.jobs.lanes ∧ t.outs = u.outs ∧ t.params = u.params := by
      have hv : v.ctl = u.ctl ∧ v.jobs.lanes = u.jobs.lanes ∧ v.outs = u.outs ∧ v.params = u.params := by
        unfold OnlyEvents at hov
        refine ⟨?_, ?_, ?_, ?_⟩ <;> rw [show v = _ from hov]
      obtain ⟨hctl, hlanes, houts, hpar⟩ := hv
      rw [hstep.eq]
      exact ⟨hctl, rfl, hlanes, houts, hpar⟩
    obtain ⟨hctl, hended, hlanes, houts, hpar⟩ := hmain
    refine ⟨t, hexec, congrArg Control.coreUp hctl, ?_, fun o ho => ?_, hended, hlanes, houts, hpar⟩
    · exact .mono (.of_keeps (.of_host rfl) (.raise _ _ _)) (hkv.trans hkeep)
    · exact .mono (.of_keeps hfirst (htold _ (List.mem_map_of_mem ho))) hkeep
end

section
/-! What lanes, input ports and packs leave alone when they stop (R183, R250, R295): one relation for lanes, one for ports and packs. -/

namespace Sys2Proof.Machine

/-- From s to t lanes, phases and modulators may have moved, records been asked for and events raised; nothing else has changed. -/
structure LaneStep (s t : State) : Prop where
  eq : t = { s with
    host := { s.host with events := t.host.events, evSeq := t.host.evSeq, lost := t.host.lost }
    jobs := { s.jobs with lanes := t.jobs.lanes, phases := t.jobs.phases, fleet := t.jobs.fleet }
    mods := t.mods, shadow := t.shadow, records := t.records, trace := t.trace, freeCtr := t.freeCtr }
  events : KeepsEvents s t

/-- From s to t input ports and packs may have moved with their requests, and events been raised; nothing else has changed. -/
structure PortStep (s t : State) : Prop where
  eq : t = { s with
    host := { s.host with events := t.host.events, evSeq := t.host.evSeq, lost := t.host.lost }
    params := { s.params with vals := t.params.vals }
    jobs := { s.jobs with srcs := t.jobs.srcs, packs := t.jobs.packs, fleet := t.jobs.fleet }
    shadow := t.shadow, trace := t.trace, freeCtr := t.freeCtr }
  events : KeepsEvents s t

theorem LaneStep.refl (s : State) : LaneStep s s := ⟨rfl, .refl s⟩
theorem PortStep.refl (s : State) : PortStep s s := ⟨rfl, .refl s⟩

theorem LaneStep.trans {s t u : State} (h : LaneStep s t) (g : LaneStep t u) : LaneStep s u :=
  ⟨by rw [g.eq, h.eq], h.events.trans g.events⟩

theorem PortStep.trans {s t u : State} (h : PortStep s t) (g : PortStep t u) : PortStep s u :=
  ⟨by rw [g.eq, h.eq], h.events.trans g.events⟩

theorem LaneStep.raise (s : State) (c a : Nat) : LaneStep s (s.raise c a) :=
  ⟨(OnlyEvents.raise s c a).trans rfl, .raise s c a⟩

theorem PortStep.raise (s : State) (c a : Nat) : PortStep s (s.raise c a) :=
  ⟨(OnlyEvents.raise s c a).trans rfl, .raise s c a⟩

/-! Lanes. -/

theorem LaneStep.modLane (s : State) (n : Nat) (f : Lane → Lane) : LaneStep s (s.modLane n f) := ⟨rfl, .of_host rfl⟩

theorem LaneStep.setLnen (s : State) (n : Nat) (b : Bool) : LaneStep s (setLnen n b s) := ⟨rfl, .of_host rfl⟩

theorem LaneStep.phaseLow (s : State) (x : Nat) : LaneStep s (phaseLow s x) := ⟨rfl, .of_host rfl⟩

theorem LaneStep.lanePhasesLow (s : State) (n : Nat) : LaneStep s (lanePhasesLow s n) := foldl_rel .refl .trans _ _ .phaseLow s

theorem LaneStep.laneEnter (n : Nat) (st : LnSt) (c : Option Nat) (s : State) : LaneStep s (laneEnter n st c s) := by
  unfold Machine.laneEnter
  dsimp only
  split
  · exact .modLane s n _
  · split
    · exact .modLane s n _
    · exact (LaneStep.modLane s n _).trans (.raise _ _ _)

theorem LaneStep.laneOffNow (n : Nat) (c : Option Nat) (s : State) : LaneStep s (laneOffNow n c s) :=
  ((LaneStep.lanePhasesLow s n).trans (.setLnen _ n false)).trans (.laneEnter n .off c _)

/-! Input ports and packs. -/

theorem PortStep.modSrc (s : State) (n : Nat) (f : SrcPort → SrcPort) : PortStep s (s.modSrc n f) := ⟨rfl, .of_host rfl⟩

theorem PortStep.modPack (s : State) (p : Nat) (f : Pack → Pack) : PortStep s (s.modPack p f) := ⟨rfl, .of_host rfl⟩

theorem PortStep.setPar (s : State) (g i k v : Nat) : PortStep s (s.setPar g i k v) := ⟨rfl, .of_host rfl⟩

theorem PortStep.srcEnter (n : Nat) (st : SrcSt) (c : Option Nat) (s : State) : PortStep s (srcEnter n st c s) := by
  unfold Machine.srcEnter
  dsimp only
  split
  · exact .modSrc s n _
  · exact (PortStep.modSrc s n _).trans (.raise _ _ _)

theorem PortStep.testEnd (p code : Nat) (s : State) : PortStep s (testEnd p code s) := by
  unfold Machine.testEnd
  split
  · exact .refl s
  · exact ((PortStep.modPack s p _).trans (.setPar _ _ _ _ _)).trans (.raise _ _ _)

/-- A step where a condition holds, and none where it does not. -/
theorem PortStep.ite {s t : State} (c : Prop) [Decidable c] (h : PortStep s t) : PortStep s (if c then t else s) := by
  split
  · exact h
  · exact .refl s

theorem PortStep.packEnter (p : Nat) (ph : PkPh) (c : Option Nat) (s : State) : PortStep s (packEnter p ph c s) := by
  unfold Machine.packEnter
  dsimp only
  have h1 (z : State) (k : Pack) : PortStep z (if k.ph = .taper && ph ≠ .taper then z.setPar gCHG p CHG.TOPOFF_REQ 0 else z) :=
    .ite _ (.setPar z _ _ _ _)
  have h2 (z : State) (k : Pack) : PortStep z (if k.ph = .supply && ph ≠ .supply then Machine.testEnd p 2 z else z) := .ite _ (.testEnd p 2 z)
  split
  · exact ((PortStep.modPack s p _).trans (h1 _ _)).trans (h2 _ _)
  · exact (((PortStep.modPack s p _).trans (h1 _ _)).trans (h2 _ _)).trans (.raise _ _ _)

theorem PortStep.packDrop (p c : Nat) (s : State) : PortStep s (packDrop p c s) := by
  unfold Machine.packDrop
  dsimp only
  split
  · exact .refl s
  · exact (PortStep.packEnter p .qualify (some c) s).trans (.modPack _ p _)

end Sys2Proof.Machine
end


section
/-! The ROM (R486 to R488). -/

namespace Sys2Proof.Machine

/-- Marks, strap and boot bits change nothing of what makes an image valid. -/
theorem fwCheck_congr {s t : State} (ho : t.otp = s.otp) (hb : t.ident.big = s.ident.big) (f : FwSlot) (v : Bool) :
    fwCheck t { f with valid := v } = fwCheck s f := by
  unfold fwCheck
  rw [ho, hb]

/-- Slot k with its mark. -/
theorem fwMarks_slot (s : State) {k : Nat} (hk : k < 2) :
    (fwMarks s).flash.fw.getD k {} = { s.flash.fw.getD k {} with valid := fwOk s k } := by
  simp [fwMarks, List.getD_eq_getElem?_getD, hk]

/-- The ROM's state before it chooses an image, where no copy is asked for. -/
def romReady (s : State) : State :=
  fwMarks (({ s with ident := { s.ident with strap := Config.strapLevel } }.modFlash fun f => { f with fw := f.fw, copyReq := false }).modCtl
    fun c => { c with copied := false })

theorem fwOk_romReady (s : State) {k : Nat} (hk : k < 2) : fwOk (romReady s) k = fwOk s k := by
  have h := fwMarks_slot (({ s with ident := { s.ident with strap := Config.strapLevel } }.modFlash fun f => { f with fw := f.fw, copyReq := false }).modCtl
    fun c => { c with copied := false }) hk
  unfold fwOk
  rw [romReady, h]
  exact congrArg (· == 0) (fwCheck_congr (s := s) rfl rfl _ _)

/-- The fuses burnt up to the ROLLBACK of slot k (R488). -/
def burnt (k : Nat) (s : State) : State :=
  { s with otp := { s.otp with fuses := max s.otp.fuses (satN 64 (fwRollback (s.flash.fw.getD k {}))) } }

/-- BOOT_ROM where no reset and no copy is asked for (R488, R495). -/
theorem bootRom_eq {s : State} (hl : s.ctl.resetLow = false) (hc : s.ctl.clockLost = false) (hp : s.ctl.powerFail = false)
    (hb : s.ctl.state = .boot) (hr : s.ctl.romDone = false) (hd : s.ctl.loader = false) (hq : s.ctl.resetReq = none)
    (hcopy : s.flash.copyReq = false) :
    exec .bootRom s = .next (match (if fwOk s 0 then some 0 else if fwOk s 1 then some 1 else none) with
      | some k => fwMarks ((burnt k (romReady s)).modCtl fun c => { c with slot := k, romDone := true })
      | none => (romReady s).modCtl fun c => { c with loader := true, coreUp := true }) := by
  change execBootRom s = _
  rw [← fwOk_romReady s (k := 0) (by decide), ← fwOk_romReady s (k := 1) (by decide)]
  simp only [execBootRom, hq, hb, hr, hd, hl, hc, hp, hcopy, decide_true, Bool.not_false, Bool.and_self, Bool.false_and, if_true]
  rfl

end Sys2Proof.Machine
end

section
/-! The end of BOOT (R7, R9, R87): what each of its steps leaves alone. -/

namespace Sys2Proof.Machine

/-- From s to t the records in force, flash and OTP, the controller, the frame and the stored energies stand, and no event is forgotten. -/
structure Loads (s t : State) : Prop where
  selv : t.params.selv = s.params.selv
  alts : t.params.alts = s.params.alts
  flash : t.flash = s.flash
  otp : t.otp = s.otp
  ctl : t.ctl = s.ctl
  frm : t.jobs.frm = s.jobs.frm
  energy : t.jobs.energy = s.jobs.energy
  events : KeepsEvents s t

theorem Loads.refl (s : State) : Loads s s := ⟨rfl, rfl, rfl, rfl, rfl, rfl, rfl, .refl s⟩

theorem Loads.trans {s t u : State} (h : Loads s t) (g : Loads t u) : Loads s u :=
  ⟨g.selv.trans h.selv, g.alts.trans h.alts, g.flash.trans h.flash, g.otp.trans h.otp, g.ctl.trans h.ctl, g.frm.trans h.frm,
    g.energy.trans h.energy, h.events.trans g.events⟩

theorem Loads.raise (s : State) (c a : Nat) : Loads s (s.raise c a) := ⟨rfl, rfl, rfl, rfl, rfl, rfl, rfl, .raise s c a⟩

theorem LaneStep.loads {s t : State} (h : LaneStep s t) : Loads s t := by
  obtain ⟨e, k⟩ := h
  refine ⟨?_, ?_, ?_, ?_, ?_, ?_, ?_, k⟩ <;> rw [e]

theorem PortStep.loads {s t : State} (h : PortStep s t) : Loads s t := by
  obtain ⟨e, k⟩ := h
  refine ⟨?_, ?_, ?_, ?_, ?_, ?_, ?_, k⟩ <;> rw [e]

theorem Loads.vals (s : State) (v : List (Nat × Word)) : Loads s { s with params := { s.params with vals := v } } :=
  ⟨rfl, rfl, rfl, rfl, rfl, rfl, rfl, .of_host rfl⟩

theorem Loads.modSched (s : State) (f : Sched → Sched) : Loads s (s.modSched f) := ⟨rfl, rfl, rfl, rfl, rfl, rfl, rfl, .of_host rfl⟩

theorem Loads.selvedgeLoad (s : State) (e : Nat × ParamDef) : Loads s (selvedgeLoad s e) := by
  unfold Machine.selvedgeLoad
  dsimp only
  split
  · exact .refl s
  · split
    · exact .vals s _
    · exact ((Loads.vals s _).trans (.vals _ _)).trans (.raise _ _ _)

theorem Loads.loadConfig (stored : List (Nat × Word)) (s : State) : Loads s (loadConfig stored s) := by
  unfold Machine.loadConfig
  dsimp only
  split
  · exact .vals s stored
  · exact (Loads.vals s stored).trans (foldl_rel .refl .trans _ _ .selvedgeLoad _)

theorem Loads.remap (s : State) : Loads s (remap s) :=
  (Loads.modSched s _).trans (foldl_rel .refl .trans _ _ (fun z n => (LaneStep.modLane z n _).loads.trans (.raise _ _ _)) _)

theorem Loads.bootLedger (s : State) : Loads s (bootLedger s) := ⟨rfl, rfl, rfl, rfl, rfl, rfl, rfl, .of_host rfl⟩

theorem Loads.bootMap (s : State) : Loads s (bootMap s) := by
  unfold Machine.bootMap
  split
  · exact (Loads.modSched s _).trans (.remap _)
  · exact (Loads.modSched s _).trans (.raise _ _ _)

/-- Entering a controller state changes the state alone, but for the event. -/
theorem Loads.enter (s : State) (c : Ctl) : Loads (s.modCtl fun k => { k with state := c }) (s.enter c) := by
  rcases s.enter_cases c with ⟨h, e⟩ | ⟨_, e⟩ <;> rw [e]
  · subst h; exact .refl s
  · exact .raise _ _ _

/-- Loads goes on under a change of the controller's bits. -/
theorem Loads.modCtl {s t : State} (h : Loads s t) (f : Control → Control) : Loads (s.modCtl f) (t.modCtl f) :=
  ⟨h.selv, h.alts, h.flash, h.otp, congrArg f h.ctl, h.frm, h.energy, h.events⟩

theorem Loads.switchesOpen (s : State) : Loads s (switchesOpen s) := ⟨rfl, rfl, rfl, rfl, rfl, rfl, rfl, .of_host rfl⟩

theorem Loads.modSeq (s : State) (f : Rails → Rails) : Loads s (s.modSeq f) := ⟨rfl, rfl, rfl, rfl, rfl, rfl, rfl, .of_host rfl⟩

theorem Loads.askRecord (s : State) (cause arg origin time prev : Nat) (free : Bool) : Loads s (s.askRecord cause arg origin time prev free) := by
  obtain ⟨r, e⟩ := s.askRecord_cases cause arg origin time prev free
  rw [e]
  exact ⟨rfl, rfl, rfl, rfl, rfl, rfl, rfl, .of_host rfl⟩

/-- The controller's bits in HALT. -/
def Control.halted (cause : Nat) (c : Control) : Control :=
  { c with state := .halt, haltCause := cause, wantHalt := none, wantSafe := false, service := false, stitchAfter := false, mooring := false }

/-- HALT entered: the controller's bits change, and nothing of what BOOT has loaded (R454). -/
theorem Loads.enterHalt (cause : Nat) (s : State) : Loads (s.modCtl (Control.halted cause)) (enterHalt cause s) := by
  have lane (z : State) (n : Nat) : LaneStep z (if !lnUsed z n then z
      else (if (z.lane n).st = .off then lanePhasesLow z n else laneOffNow n (some 6) z).modLane n
        fun l => { l with stopped := false, restart := none }) := by
    split
    · exact .refl z
    · refine LaneStep.trans ?_ (.modLane _ n _)
      split
      · exact .lanePhasesLow z n
      · exact .laneOffNow n (some 6) z
  have src (z : State) (n : Nat) : PortStep z (if (z.src n).st = .off then z else srcEnter n .off (some 6) z) := by
    split
    · exact .refl z
    · exact .srcEnter n .off (some 6) z
  have lanes (l : List Nat) (z : State) := (foldl_rel .refl .trans _ l lane z).loads
  have srcs (l : List Nat) (z : State) := (foldl_rel .refl .trans _ l src z).loads
  have packs (l : List Nat) (z : State) := (foldl_rel .refl .trans _ l (fun z p => PortStep.packDrop p 9 z) z).loads
  unfold Machine.enterHalt
  dsimp only
  refine .trans ?_ (.askRecord _ _ _ _ _ _ _)
  refine .trans ?_ (.raise _ _ _)
  refine .trans ?_ (.modSeq _ _)
  refine .trans ?_ (packs _ _)
  refine .trans ?_ (srcs _ _)
  refine .trans ?_ (.switchesOpen _)
  refine .trans ?_ (lanes _ _)
  exact (Loads.enter s .halt).modCtl fun c => { c with
    haltCause := cause, wantHalt := none, wantSafe := false, service := false, stitchAfter := false, mooring := false }

/-! The end of BOOT in its parts. -/

/-- The records and the configuration come into force, with the events of the reset (R7, R141, R152, R527). -/
def bootLoaded (s : State) : State :=
  let bad := those 57 fun c => chanPresent s c && !(s.otp.pattern.getD c {}).crcOk
  let s := { s with params := { s.params with
    selv := s.otp.selv, alts := journalAlts s.flash.journal
    pattern := s.otp.pattern.map fun (p : Pattern) => if p.crcOk then p else { p with off := 0, gain := 0, tc := 0 } } }
  let s := s.raise Ev.BOOT_SLOT (s.otp.fuses * 2 ^ 8 + b2n s.ctl.copied * 2 + s.ctl.slot)
  let s := s.raise Ev.RESET_CAUSE s.ctl.resetCause
  let s := bad.foldl (fun s c => s.raise Ev.PATTERN_FAULT c) s
  let s := loadConfig s.flash.cfg s
  if par s gGLB 0 GLB.OPMODE = 1 && (patternFailed s || !selvOk s) then s.setPar gGLB 0 GLB.OPMODE 0 else s

/-- The stored energies, ledgers and loss map come back, and the levels of the transports (R53, R196, R223, R244, R467). -/
def bootStored (s : State) : State :=
  let s := bootLedger (s.modJobs fun j => { j with energy := s.flash.energy })
  let s := s.modSched fun c => { c with clock := s.flash.clock, sincePers := 180000000 }
  let s := bootMap s
  let d := par s gSEC 0 SEC.PRIV_DEFAULT
  s.modHost fun h => { h with spi := { h.spi with priv := d }, i2c := { h.i2c with priv := d }, can := { h.can with priv := d } }

/-- The pipeline and the command core start (R7, R87). -/
def bootStarted (s : State) : State :=
  let s := s.modFrm fun f => { f with running := true, fresh := true, committed := false }
  let s := s.modSeq fun q => { q with offFor := q.offFor + 3999, lowFor := q.lowFor + 3999 }
  s.modCtl fun c => { c with coreUp := true, romDone := false, vsysFell := false }

/-- STANDBY, or HALT again (R9). -/
def bootEntered (halt : Nat) (s : State) : State :=
  let s := s.enter .standby
  let s := { s with image := imageOf s, imgNext := none }
  let s := if halt ≠ 0 then enterHalt halt s else s
  { s with image := imageOf s }

/-- BOOT_COMPLETE in its parts. -/
theorem bootComplete_eq {s : State} (hl : s.ctl.resetLow = false) (hc : s.ctl.clockLost = false) (hp : s.ctl.powerFail = false)
    (hb : s.ctl.state = .boot) (hr : s.ctl.romDone = true) :
    exec .bootComplete s = .next (bootEntered (bootStored (bootLoaded s)).ctl.haltCause (bootStarted (bootStored (bootLoaded s)))) := by
  change execBootComplete s = _
  simp only [execBootComplete, hl, hc, hp, hb, hr, decide_true, Bool.not_false, Bool.and_self, if_true]
  rfl

theorem KeepsEvents.modEnergy (s : State) (e : List Energy) : KeepsEvents s (s.modJobs fun j => { j with energy := e }) := .of_host rfl

theorem KeepsEvents.modCtl (s : State) (f : Control → Control) : KeepsEvents s (s.modCtl f) := .of_host rfl

theorem KeepsEvents.bootStarted (s : State) : KeepsEvents s (bootStarted s) := .of_host rfl

/-- The records in force, with the two events of the reset told (R7, R9). -/
def recordsLoaded (s : State) : State :=
  (({ s with params := { s.params with
    selv := s.otp.selv, alts := journalAlts s.flash.journal
    pattern := s.otp.pattern.map fun (p : Pattern) => if p.crcOk then p else { p with off := 0, gain := 0, tc := 0 } } } : State).raise
      Ev.BOOT_SLOT (s.otp.fuses * 2 ^ 8 + b2n s.ctl.copied * 2 + s.ctl.slot)).raise Ev.RESET_CAUSE s.ctl.resetCause

theorem recordsLoaded_tells (s : State) :
    Tells s (recordsLoaded s) Ev.RESET_CAUSE s.ctl.resetCause ∧
    Tells s (recordsLoaded s) Ev.BOOT_SLOT (s.otp.fuses * 2 ^ 8 + b2n s.ctl.copied * 2 + s.ctl.slot) :=
  ⟨.of_keeps (.trans (.of_host rfl) (.raise _ _ _)) (.raise _ _ _), .mono (.of_keeps (.of_host rfl) (.raise _ _ _)) (.raise _ _ _)⟩

theorem Loads.bootLoaded (s : State) : Loads (recordsLoaded s) (bootLoaded s) := by
  have hbad : Loads (recordsLoaded s) ((those 57 fun c => chanPresent s c && !(s.otp.pattern.getD c {}).crcOk).foldl
      (fun s c => s.raise Ev.PATTERN_FAULT c) (recordsLoaded s)) := foldl_rel .refl .trans _ _ (fun z c => .raise z _ c) _
  unfold Machine.bootLoaded
  dsimp only
  split
  · exact (hbad.trans (.loadConfig _ _)).trans (.vals _ _)
  · exact hbad.trans (.loadConfig _ _)

theorem Loads.bootStored (s : State) : Loads (s.modJobs fun j => { j with energy := s.flash.energy }) (bootStored s) := by
  refine .trans ?_ (t := Machine.bootMap _) ⟨rfl, rfl, rfl, rfl, rfl, rfl, rfl, le_rfl, List.Subset.refl _⟩
  exact ((Loads.bootLedger _).trans (.modSched _ _)).trans (.bootMap _)

/-- The controller at the end of BOOT: in STANDBY, or in HALT again (R9). -/
theorem Loads.bootEntered (halt : Nat) (s : State) :
    Loads (s.modCtl fun c => if halt = 0 then { c with state := .standby } else ({ c with state := .standby }).halted halt) (bootEntered halt s) := by
  unfold Machine.bootEntered
  dsimp only
  have image (z : State) (j : Jobs) (n : Option Jobs) : Loads z { z with image := j, imgNext := n } := ⟨rfl, rfl, rfl, rfl, rfl, rfl, rfl, .of_host rfl⟩
  refine .trans ?_ (image _ _ _)
  by_cases h : halt = 0
  · simp only [h, if_true, ne_eq, not_true_eq_false, if_false]
    exact (Loads.enter s .standby).trans (image _ _ _)
  · simp only [h, if_false, ne_eq, not_false_eq_true, if_true]
    exact (((Loads.enter s .standby).trans (image _ _ _)).modCtl (Control.halted halt)).trans (.enterHalt halt _)

end Sys2Proof.Machine

open Sys2Proof Sys2Proof.Machine

/-- Settles O45. The ROM is `bootRom_eq`. The end of BOOT goes in the parts of `bootComplete_eq`, each of which leaves what the one before
it has loaded (`Loads`); what is told at the first stands told at the last. -/
theorem bootRows : Obligations.BootRows := by
  intro s hl hc hp hb
  refine ⟨?slotA, ?loader, ?complete⟩
  case slotA =>
    intro hr hd hq hcopy h0
    rw [bootRom_eq hl hc hp hb hr hd hq hcopy, if_pos h0]
    have hfuses : (burnt 0 (romReady s)).otp = { s.otp with fuses := max s.otp.fuses (satN 64 (fwRollback (s.flash.fw.getD 0 {}))) } := by
      unfold burnt
      rw [romReady, fwMarks_slot _ (by decide)]
      rfl
    exact ⟨_, rfl, rfl, rfl, hd, rfl, hfuses, hb, rfl⟩
  case loader =>
    intro hr hd hq hcopy h0 h1
    rw [bootRom_eq hl hc hp hb hr hd hq hcopy, h0, h1]
    exact ⟨_, rfl, rfl, rfl, hr, rfl⟩
  case complete =>
    intro hr _
    obtain ⟨hcause, hslot⟩ := recordsLoaded_tells s
    have hload := Loads.bootLoaded s
    have hstore := Loads.bootStored (bootLoaded s)
    refine ⟨_, bootComplete_eq hl hc hp hb hr, ?_⟩
    generalize bootLoaded s = y at hload hstore ⊢
    generalize bootStored y = z at hstore ⊢
    have hctl : z.ctl = s.ctl := hstore.ctl.trans hload.ctl
    have hkeep := (hload.events.trans (.modEnergy y _)).trans (hstore.events.trans (.bootStarted z))
    rw [hctl]
    have henter := Loads.bootEntered s.ctl.haltCause (bootStarted z)
    generalize bootEntered s.ctl.haltCause (bootStarted z) = t at henter ⊢
    replace hkeep := hkeep.trans (KeepsEvents.trans (.modCtl _ _) henter.events)
    have hfrm : t.jobs.frm = { z.jobs.frm with running := true, fresh := true, committed := false } := henter.frm
    have henergy : t.jobs.energy = y.flash.energy := henter.energy.trans hstore.energy
    have hflash : t.flash = s.flash := (henter.flash.trans hstore.flash).trans hload.flash
    have hstate := henter.ctl
    refine ⟨?core, ?rom, ?_, ?_, (henter.selv.trans hstore.selv).trans hload.selv, (henter.alts.trans hstore.alts).trans hload.alts,
      henergy.trans (congrArg Flash.energy hload.flash), hflash, ?standby, ?halt, hcause.mono hkeep, hslot.mono hkeep⟩
    case core => rw [hstate]; simp only [State.modCtl_fields]; split <;> rfl
    case rom => rw [hstate]; simp only [State.modCtl_fields]; split <;> rfl
    case standby => intro h; rw [hstate]; simp only [State.modCtl_fields, h, if_true]
    case halt => intro h; rw [hstate]; simp only [State.modCtl_fields, h, if_false]; rfl
    all_goals rw [hfrm]
end

section
/-! The two bounds of O60 as an invariant of every function of the model: what writes neither queue keeps them, and the few that do stay
within them (R67, R74, R391, R399). First what the bounds are of. -/

namespace Sys2Proof.Machine

/-- Writing any field but the host side leaves both bounds as they are. -/
@[simp] theorem queuesBounded_sameHost (s : State) (p i c pa o f j im imn m sh ou lo w r ta tb tr fw ti cr fc) :
    QueuesBounded ⟨p, i, c, s.host, pa, o, f, j, im, imn, m, sh, ou, lo, w, r, ta, tb, tr, fw, ti, cr, fc⟩ ↔ QueuesBounded s :=
  ⟨id, id⟩

/-- The bounds of a state whose host side has f applied. -/
@[simp] theorem queuesBounded_modHost (s : State) (f : HostState → HostState) :
    QueuesBounded (s.modHost f) ↔ (f s.host).tide.length ≤ 16 ∧ ordinary (f s.host).events ≤ 255 := ⟨id, id⟩

/-- The two bounds, where they are spelled out. -/
@[simp] theorem queuesBounded_fold (s : State) : s.host.tide.length ≤ 16 ∧ ordinary s.host.events ≤ 255 ↔ QueuesBounded s := ⟨id, id⟩

@[simp] theorem queuesBounded_ite (c : Prop) [Decidable c] (s t : State) :
    QueuesBounded (if c then s else t) ↔ if c then QueuesBounded s else QueuesBounded t := by split <;> rfl

/-- A fold whose every step keeps the bounds keeps them. -/
@[simp] theorem queuesBounded_foldl {α : Type} {f : State → α → State} (h : ∀ s a, QueuesBounded (f s a) ↔ QueuesBounded s) (l : List α) (s : State) :
    QueuesBounded (l.foldl f s) ↔ QueuesBounded s := by
  induction l generalizing s with
  | nil => rfl
  | cons a l ih => exact (ih _).trans (h s a)

theorem QueuesBounded.foldl {α : Type} {f : State → α → State} (h : ∀ s a, QueuesBounded s → QueuesBounded (f s a)) (l : List α) {s : State}
    (hs : QueuesBounded s) : QueuesBounded (l.foldl f s) := by
  induction l generalizing s with
  | nil => exact hs
  | cons a l ih => exact ih (h s a hs)

/-- What a command answers keeps the bounds of s. -/
structure Keeps (s : State) (o : Out) : Prop where
  bounded : ∀ t, o = .next t → QueuesBounded s → QueuesBounded t

@[simp] theorem keeps_next (s t : State) : Keeps s (.next t) ↔ (QueuesBounded s → QueuesBounded t) :=
  ⟨fun h => h.bounded t rfl, fun h => ⟨fun _ e => by cases e; exact h⟩⟩

theorem ordinary_append (l m : List Event) : ordinary (l ++ m) = ordinary l + ordinary m := by
  simp [ordinary, countOf]

theorem ordinary_drop_le (n : Nat) (l : List Event) : ordinary (l.drop n) ≤ ordinary l := by
  conv_rhs => rw [← List.take_append_drop n l, ordinary_append]
  omega

end Sys2Proof.Machine
end

section
/-! The bounds of the two queues through Machine/Ops: the operations that all of the block shares. -/

namespace Sys2Proof.Machine

@[simp] theorem queuesBounded_setPar (s : State) (g i k v : Nat) : QueuesBounded (s.setPar g i k v) ↔ QueuesBounded s := Iff.rfl

@[simp] theorem queuesBounded_modJobs (s : State) (f : Jobs → Jobs) : QueuesBounded (State.modJobs s f) ↔ QueuesBounded s := by
  simp [State.modJobs]

@[simp] theorem queuesBounded_modLane (s : State) (n : Nat) (f : Lane → Lane) : QueuesBounded (State.modLane s n f) ↔ QueuesBounded s := by
  simp [State.modLane]

@[simp] theorem queuesBounded_modPhase (s : State) (x : Nat) (f : Phase → Phase) : QueuesBounded (State.modPhase s x f) ↔ QueuesBounded s := by
  simp [State.modPhase]

@[simp] theorem queuesBounded_modMod (s : State) (x : Nat) (f : Modulator → Modulator) : QueuesBounded (State.modMod s x f) ↔ QueuesBounded s := by
  simp [State.modMod]

@[simp] theorem queuesBounded_modSrc (s : State) (n : Nat) (f : SrcPort → SrcPort) : QueuesBounded (State.modSrc s n f) ↔ QueuesBounded s := by
  simp [State.modSrc]

@[simp] theorem queuesBounded_modPack (s : State) (p : Nat) (f : Pack → Pack) : QueuesBounded (State.modPack s p f) ↔ QueuesBounded s := by
  simp [State.modPack]

@[simp] theorem queuesBounded_modPort (s : State) (p : Nat) (f : PtPort → PtPort) : QueuesBounded (State.modPort s p f) ↔ QueuesBounded s := by
  simp [State.modPort]

@[simp] theorem queuesBounded_modFleet (s : State) (f : Fleet → Fleet) : QueuesBounded (State.modFleet s f) ↔ QueuesBounded s := by
  simp [State.modFleet]

@[simp] theorem queuesBounded_modFl (s : State) (q : Nat) (f : FlPort → FlPort) : QueuesBounded (State.modFl s q f) ↔ QueuesBounded s := by
  simp [State.modFl]

@[simp] theorem queuesBounded_modSeq (s : State) (f : Rails → Rails) : QueuesBounded (State.modSeq s f) ↔ QueuesBounded s := by
  simp [State.modSeq]

@[simp] theorem queuesBounded_modRail (s : State) (n : Nat) (f : Rail → Rail) : QueuesBounded (State.modRail s n f) ↔ QueuesBounded s := by
  simp [State.modRail]

@[simp] theorem queuesBounded_modLinkJob (s : State) (f : LinkJob → LinkJob) : QueuesBounded (State.modLinkJob s f) ↔ QueuesBounded s := by
  simp [State.modLinkJob]

@[simp] theorem queuesBounded_modFrm (s : State) (f : Frame → Frame) : QueuesBounded (State.modFrm s f) ↔ QueuesBounded s := by
  simp [State.modFrm]

@[simp] theorem queuesBounded_modSlot (s : State) (n : Nat) (f : Slot → Slot) : QueuesBounded (State.modSlot s n f) ↔ QueuesBounded s := by
  simp [State.modSlot]

@[simp] theorem queuesBounded_modSense (s : State) (f : Sense → Sense) : QueuesBounded (State.modSense s f) ↔ QueuesBounded s := by
  simp [State.modSense]

@[simp] theorem queuesBounded_modPin (s : State) (k : Nat) (f : TsPin → TsPin) : QueuesBounded (State.modPin s k f) ↔ QueuesBounded s := by
  simp [State.modPin]

@[simp] theorem queuesBounded_modSched (s : State) (f : Sched → Sched) : QueuesBounded (State.modSched s f) ↔ QueuesBounded s := by
  simp [State.modSched]

@[simp] theorem queuesBounded_modLed (s : State) (x : Nat) (f : Ledger → Ledger) : QueuesBounded (State.modLed s x f) ↔ QueuesBounded s := by
  simp [State.modLed]

@[simp] theorem queuesBounded_modSafe (s : State) (f : Safety → Safety) : QueuesBounded (State.modSafe s f) ↔ QueuesBounded s := by
  simp [State.modSafe]

@[simp] theorem queuesBounded_modCtl (s : State) (f : Control → Control) : QueuesBounded (State.modCtl s f) ↔ QueuesBounded s := by
  simp [State.modCtl]

@[simp] theorem queuesBounded_modTimer (s : State) (t : Nat) (f : Timer → Timer) : QueuesBounded (State.modTimer s t f) ↔ QueuesBounded s := by
  simp [State.modTimer]

@[simp] theorem queuesBounded_modOuts (s : State) (f : Outs → Outs) : QueuesBounded (State.modOuts s f) ↔ QueuesBounded s := by
  simp [State.modOuts]

@[simp] theorem queuesBounded_modFlash (s : State) (f : Flash → Flash) : QueuesBounded (State.modFlash s f) ↔ QueuesBounded s := by
  simp [State.modFlash]

@[simp] theorem queuesBounded_withNewImage {f : State → State} (hf : ∀ s, QueuesBounded (f s) ↔ QueuesBounded s) (s : State) :
    QueuesBounded (withNewImage f s) ↔ QueuesBounded s := hf { s with image := s.imgNext.getD s.image }

@[simp] theorem queuesBounded_modWriter (s : State) (f : Writer → Writer) : QueuesBounded (State.modWriter s f) ↔ QueuesBounded s := by
  simp [State.modWriter]

@[simp] theorem queuesBounded_modLink (s : State) (t : Transport) (f : Link → Link) : QueuesBounded (s.modLink t f) ↔ QueuesBounded s := by
  cases t <;> rfl

@[simp] theorem queuesBounded_drawn (s : State) (k : Nat) : QueuesBounded (State.drawn s k) ↔ QueuesBounded s := by
  simp [State.drawn]

/-- Queueing an event takes room only while there is some (R74). -/
@[simp] theorem queuesBounded_queueEvent (s : State) (code time arg : Nat) :
    QueuesBounded (s.modHost fun h => h.queueEvent code time arg) ↔ QueuesBounded s := by
  have one (e : Event) : ordinary [e] ≤ 1 := List.length_filter_le _ _
  unfold QueuesBounded State.modHost
  rcases s.host.queueEvent_cases code time arg with ⟨_, e⟩ | ⟨hroom, e⟩ <;> simp only [e, ordinary_append]
  have := one ⟨code, s.host.evSeq, time, arg % 2 ^ 32⟩
  exact and_congr_right fun _ => by omega

@[simp] theorem queuesBounded_raise (s : State) (c a : Nat) : QueuesBounded (s.raise c a) ↔ QueuesBounded s :=
  queuesBounded_queueEvent s c s.fleetTime a

@[simp] theorem queuesBounded_raiseAll (s : State) (l : List (Nat × Nat)) : QueuesBounded (State.raiseAll s l) ↔ QueuesBounded s := by
  simp [State.raiseAll]

@[simp] theorem queuesBounded_flushCan (s : State) : QueuesBounded (State.flushCan s) ↔ QueuesBounded s := by
  simp [State.flushCan]

@[simp] theorem queuesBounded_pushReply (s : State) (tr : Transport) (r : Reply) : QueuesBounded (s.pushReply tr r) ↔ QueuesBounded s := by
  cases tr <;> simp [State.pushReply]

@[simp] theorem queuesBounded_answer (s : State) (c : Ctx) (status : Nat) (pay : List Byte) :
    QueuesBounded (State.answer s c status pay) ↔ QueuesBounded s := by
  simp [State.answer]

@[simp] theorem queuesBounded_okReply (s : State) (c : Ctx) (pay : List Byte) : QueuesBounded (State.okReply s c pay) ↔ QueuesBounded s := by
  simp [State.okReply]

@[simp] theorem queuesBounded_refuse (s : State) (c : Ctx) (status : Nat) (detail : Nat) :
    QueuesBounded (State.refuse s c status detail) ↔ QueuesBounded s := by
  simp [State.refuse]

theorem flushCan_tide (s : State) : s.flushCan.host.tide = s.host.tide := by
  rw [OnlyReplies.flushCan s]

theorem pushReply_tide (s : State) (tr : Transport) (r : Reply) : (s.pushReply tr r).host.tide = s.host.tide := by
  cases tr
  case can => exact flushCan_tide _
  all_goals rfl

@[simp] theorem startOp_tide (s : State) (c : Ctx) (res : Nat) (args : List Nat) (data : List Byte) :
    (s.startOp c res args data).host.tide = s.host.tide := pushReply_tide _ _ _

@[simp] theorem queuesBounded_startOp (s : State) (c : Ctx) (res : Nat) (args : List Nat) (data : List Byte) :
    QueuesBounded (s.startOp c res args data) ↔ QueuesBounded s := by
  simp [State.startOp]

@[simp] theorem queuesBounded_endOp (s : State) (opc : Nat) (num : Nat) (status : Nat) :
    QueuesBounded (State.endOp s opc num status) ↔ QueuesBounded s := by
  simp [State.endOp]

@[simp] theorem queuesBounded_endOpDetail (s : State) (opc : Nat) (num : Nat) (status : Nat) (detail : Nat) :
    QueuesBounded (State.endOpDetail s opc num status detail) ↔ QueuesBounded s := by
  simp [State.endOpDetail]

@[simp] theorem queuesBounded_beginWrite (k : Nat) (f : Flash → Flash) (s : State) : QueuesBounded (State.beginWrite k f s) ↔ QueuesBounded s := by
  simp [State.beginWrite]

@[simp] theorem queuesBounded_abandonWrite (s : State) : QueuesBounded s.abandonWrite ↔ QueuesBounded s := by
  obtain ⟨f, e⟩ := s.abandonWrite_eq
  rw [e, queuesBounded_sameHost]

@[simp] theorem queuesBounded_keepResult (s : State) (opc : Nat) (num : Nat) (bytes : List Byte) :
    QueuesBounded (State.keepResult s opc num bytes) ↔ QueuesBounded s := by
  simp [State.keepResult]

@[simp] theorem queuesBounded_askRecord (s : State) (cause : Nat) (arg : Nat) (origin : Nat) (time : Nat) (prev : Nat) (free : Bool) :
    QueuesBounded (State.askRecord s cause arg origin time prev free) ↔ QueuesBounded s := by
  simp [State.askRecord]

@[simp] theorem queuesBounded_skipsOver (s : State) : QueuesBounded (State.skipsOver s) ↔ QueuesBounded s := by
  simp [State.skipsOver]

@[simp] theorem queuesBounded_raiseRec (s : State) (code : Nat) (arg : Nat) : QueuesBounded (State.raiseRec s code arg) ↔ QueuesBounded s := by
  simp [State.raiseRec]

@[simp] theorem queuesBounded_enter (s : State) (c : Ctl) : QueuesBounded (State.enter s c) ↔ QueuesBounded s := by
  simp [State.enter]

@[simp] theorem queuesBounded_dropPriv (s : State) (t : Transport) : QueuesBounded (State.dropPriv s t) ↔ QueuesBounded s := by
  simp [State.dropPriv]

@[simp] theorem queuesBounded_dropAllPriv (s : State) : QueuesBounded (State.dropAllPriv s) ↔ QueuesBounded s := by
  simp [State.dropAllPriv]

end Sys2Proof.Machine
end

section
/-! The bounds of the two queues through Machine/Sense: the conversions (05). -/

namespace Sys2Proof.Machine

@[simp] theorem queuesBounded_captureBank (s : State) (inp : FrameIn) : QueuesBounded (captureBank s inp) ↔ QueuesBounded s := by
  simp [captureBank]

@[simp] theorem queuesBounded_thermalS3 (inp : FrameIn) (k : Nat) (s : State) : QueuesBounded (thermalS3 inp k s) ↔ QueuesBounded s := by
  simp [thermalS3]

@[simp] theorem queuesBounded_planSlots (s : State) : QueuesBounded (planSlots s) ↔ QueuesBounded s := by
  simp [planSlots]

@[simp] theorem queuesBounded_freshPlanned (s : State) : QueuesBounded (freshPlanned s) ↔ QueuesBounded s := by
  simp [freshPlanned]

theorem keeps_execTsFault (k : Nat) (s : State) : Keeps s (execTsFault k s) := by
  simp [execTsFault]

theorem keeps_execTsRecovered (k : Nat) (s : State) : Keeps s (execTsRecovered k s) := by
  simp [execTsRecovered]

theorem keeps_execSlotPressure (s : State) : Keeps s (execSlotPressure s) := by
  simp [execSlotPressure]

end Sys2Proof.Machine
end

section
/-! The bounds of the two queues through Machine/FleetOps: what the fleet job sends and keeps (10). -/

namespace Sys2Proof.Machine

@[simp] theorem queuesBounded_withEntries (s : State) (es : List (Nat × Word)) : QueuesBounded (withEntries s es) ↔ QueuesBounded s := by
  simp [withEntries]

@[simp] theorem queuesBounded_flSend (q : Nat) (pr : Nat) (typ : Nat) (route : Nat) (dst : Nat) (pay : List Byte) (s : State) :
    QueuesBounded (flSend q pr typ route dst pay s) ↔ QueuesBounded s := by
  simp [flSend]

@[simp] theorem queuesBounded_hopSend (q : Nat) (typ : Nat) (pay : List Byte) (s : State) :
    QueuesBounded (hopSend q typ pay s) ↔ QueuesBounded s := by
  simp [hopSend]

@[simp] theorem queuesBounded_fwdUp (f : FFrame) (s : State) : QueuesBounded (fwdUp f s) ↔ QueuesBounded s := by
  unfold fwdUp; split <;> simp

@[simp] theorem queuesBounded_fwdDown (f : FFrame) (s : State) : QueuesBounded (fwdDown f s) ↔ QueuesBounded s := by
  simp [fwdDown]

@[simp] theorem queuesBounded_fwdTo (q : Nat) (f : FFrame) (s : State) : QueuesBounded (fwdTo q f s) ↔ QueuesBounded s := by
  unfold fwdTo; split <;> simp

@[simp] theorem queuesBounded_sendTo (dst : Nat) (typ : Nat) (pay : List Byte) (s : State) :
    QueuesBounded (sendTo dst typ pay s) ↔ QueuesBounded s := by
  unfold sendTo; split <;> simp

@[simp] theorem queuesBounded_sendUp (typ : Nat) (pay : List Byte) (s : State) : QueuesBounded (sendUp typ pay s) ↔ QueuesBounded s := by
  unfold sendUp; split <;> simp

@[simp] theorem queuesBounded_broadcast (typ : Nat) (src : Nat) (pay : List Byte) (s : State) :
    QueuesBounded (broadcast typ src pay s) ↔ QueuesBounded s := by
  simp [broadcast]

@[simp] theorem queuesBounded_flTake (q : Nat) (typ : Nat) (f : FHdr) (s : State) : QueuesBounded (flTake q typ f s).2 ↔ QueuesBounded s := by
  unfold flTake; dsimp only; (repeat' split) <;> simp

@[simp] theorem keeps_hopIn {s : State} {act : State → State} (ha : ∀ t, QueuesBounded t → QueuesBounded (act t)) (h : QueuesBounded s)
    (q typ : Nat) (f : FHdr) : QueuesBounded (hopIn q typ f act s) := by
  have taken (r : Bool × State) (hr : QueuesBounded r.2) : QueuesBounded (if r.1 && f.route = 0 then act r.2 else r.2) := by
    split
    · exact ha _ hr
    · exact hr
  have cut (lost : Bool) : QueuesBounded (if lost = true then (false, s) else flTake q typ f s).2 := by cases lost <;> simp [h]
  exact taken _ (cut _)

@[simp] theorem keeps_wayIn {s : State} {act : State → State} (ha : ∀ t, QueuesBounded t → QueuesBounded (act t)) (h : QueuesBounded s)
    (q typ : Nat) (f : FHdr) : QueuesBounded (wayIn q typ f act s) := by
  have hr : QueuesBounded (flTake q typ f s).2 := by simp [h]
  unfold wayIn
  dsimp only
  split
  · exact ha _ hr
  · exact hr

@[simp] theorem queuesBounded_fleetTell (cause : Nat) (s : State) : QueuesBounded (fleetTell cause s) ↔ QueuesBounded s := by
  simp [fleetTell]

@[simp] theorem queuesBounded_fleetEnter (st : FlSt) (cause : Nat) (s : State) : QueuesBounded (fleetEnter st cause s) ↔ QueuesBounded s := by
  simp [fleetEnter]

@[simp] theorem keeps_dropLaunch {s : State} (h : QueuesBounded s) (lid : Nat) : QueuesBounded (dropLaunch lid s) :=
  ⟨(List.length_filter_le _ _).trans h.1, h.2⟩

@[simp] theorem keeps_cancelLaunches {s : State} (h : QueuesBounded s) (p : Tide → Bool) (cause : Nat) :
    QueuesBounded (cancelLaunches p cause s) := QueuesBounded.foldl (fun _ _ ht => by simp [ht]) _ h

@[simp] theorem keeps_cancelCritical {s : State} (h : QueuesBounded s) : QueuesBounded (cancelCritical s) := by
  simp [cancelCritical, h]

@[simp] theorem keeps_fleetIsland (cause : Nat) {s : State} (h : QueuesBounded s) : QueuesBounded (fleetIsland cause s) := by
  simp [fleetIsland, h]

@[simp] theorem queuesBounded_fleetJoining (cause : Nat) (s : State) : QueuesBounded (fleetJoining cause s) ↔ QueuesBounded s := by
  simp [fleetJoining]

@[simp] theorem queuesBounded_announceOn (q : Nat) (s : State) : QueuesBounded (announceOn q s) ↔ QueuesBounded s := by
  simp [announceOn]

@[simp] theorem queuesBounded_announceAll (s : State) : QueuesBounded (announceAll s) ↔ QueuesBounded s := by
  simp [announceAll]

@[simp] theorem queuesBounded_sendJoin (s : State) : QueuesBounded (sendJoin s) ↔ QueuesBounded s := by
  unfold sendJoin; split <;> simp

@[simp] theorem queuesBounded_takeParent (r : Nat × Nat) (s : State) : QueuesBounded (takeParent r s) ↔ QueuesBounded s := by
  unfold takeParent; dsimp only; split <;> simp

@[simp] theorem queuesBounded_followRoot (s : State) : QueuesBounded (followRoot s) ↔ QueuesBounded s := by
  unfold followRoot; split <;> simp

@[simp] theorem keeps_alignStart {s : State} (h : QueuesBounded s) : QueuesBounded (alignStart s) := by
  simp [alignStart, h]

@[simp] theorem keeps_alignStep {s : State} (h : QueuesBounded s) : QueuesBounded (alignStep s) := by
  simp [alignStep, h]

@[simp] theorem queuesBounded_takeLaunch (pay : List Byte) (s : State) : QueuesBounded (takeLaunch pay s) ↔ QueuesBounded s := by
  unfold takeLaunch
  dsimp only
  split
  · exact queuesBounded_raise _ _ _
  split
  · exact queuesBounded_raise _ _ _
  split
  · exact queuesBounded_raise _ _ _
  · simp only [queuesBounded_modHost, List.length_append, List.length_singleton]
    exact and_congr_left fun _ => by omega

@[simp] theorem keeps_takeCancel (pay : List Byte) {s : State} (h : QueuesBounded s) : QueuesBounded (takeCancel pay s) := by
  simp [takeCancel, h]

@[simp] theorem queuesBounded_releaseBars (b : Nat) (s : State) : QueuesBounded (releaseBars b s) ↔ QueuesBounded s := by
  simp [releaseBars]

@[simp] theorem queuesBounded_barrierTell (s : State) : QueuesBounded (barrierTell s) ↔ QueuesBounded s := by
  unfold barrierTell; dsimp only; (repeat' split) <;> simp

@[simp] theorem queuesBounded_barrierStep (s : State) : QueuesBounded (barrierStep s) ↔ QueuesBounded s := by
  simp [barrierStep]

@[simp] theorem keeps_fleetMember (cause : Nat) {s : State} (h : QueuesBounded s) : QueuesBounded (fleetMember cause s) := by
  simp [fleetMember, h]

@[simp] theorem queuesBounded_modOp (num : Nat) (f : Op → Op) (s : State) : QueuesBounded (modOp num f s) ↔ QueuesBounded s := by
  simp [modOp]

@[simp] theorem queuesBounded_cmdReplied (opid : Nat) (pkt : List Byte) (s : State) : QueuesBounded (cmdReplied opid pkt s) ↔ QueuesBounded s := by
  unfold cmdReplied; split <;> simp

@[simp] theorem queuesBounded_cmdStatused (opid : Nat) (unit : Nat) (status : Nat) (s : State) :
    QueuesBounded (cmdStatused opid unit status s) ↔ QueuesBounded s := by
  unfold cmdStatused; split <;> simp

@[simp] theorem queuesBounded_answerOrigin (origin : Nat) (opid : Nat) (bcast : Bool) (pkt : List Byte) (s : State) :
    QueuesBounded (answerOrigin origin opid bcast pkt s) ↔ QueuesBounded s := by
  simp [answerOrigin]

@[simp] theorem queuesBounded_flushInner (s : State) : QueuesBounded (flushInner s) ↔ QueuesBounded s := by
  unfold flushInner
  dsimp only
  rw [queuesBounded_modFleet, queuesBounded_foldl]
  · simp
  · intro t r
    split <;> simp

theorem snapAdd_fleet (unit : Nat) (r : List Byte) (s : State) : ∃ f, snapAdd unit r s = s.modFleet f := by
  unfold snapAdd
  split
  · split
    · exact ⟨_, rfl⟩
    · exact ⟨id, rfl⟩
  · exact ⟨id, rfl⟩

@[simp] theorem queuesBounded_snapAdd (unit : Nat) (r : List Byte) (s : State) : QueuesBounded (snapAdd unit r s) ↔ QueuesBounded s := by
  obtain ⟨f, e⟩ := snapAdd_fleet unit r s
  rw [e, queuesBounded_modFleet]

@[simp] theorem queuesBounded_snapGive (fr : Nat) (who : Nat) (r : List Byte) (s : State) :
    QueuesBounded (snapGive fr who r s) ↔ QueuesBounded s := by
  unfold snapGive; (repeat' split) <;> simp

end Sys2Proof.Machine
end

section
/-! The bounds of the two queues through Machine/Fleet: the frames of the fleet bus (10). -/

namespace Sys2Proof.Machine

@[simp] theorem queuesBounded_fleetPorts (ins : List FleetIn) (s : State) : QueuesBounded (fleetPorts ins s) ↔ QueuesBounded s := by
  simp [fleetPorts]

@[simp] theorem queuesBounded_discipline (s : State) : QueuesBounded (discipline s) ↔ QueuesBounded s := by
  simp [discipline]

@[simp] theorem queuesBounded_drainEvents (k : Nat) (s : State) : QueuesBounded (drainEvents k s) ↔ QueuesBounded s := by
  induction k generalizing s with
  | zero => rfl
  | succ k ih =>
    unfold drainEvents
    dsimp only
    split
    · split <;> simp [ih]
    · rfl

@[simp] theorem queuesBounded_drainLost (s : State) : QueuesBounded (drainLost s) ↔ QueuesBounded s := by
  unfold drainLost; split <;> simp

@[simp] theorem queuesBounded_answerSnaps (s : State) : QueuesBounded (answerSnaps s) ↔ QueuesBounded s := by
  unfold answerSnaps
  dsimp only
  rw [queuesBounded_foldl]
  · simp
  · intro t r
    split <;> simp

@[simp] theorem queuesBounded_joinShares (s : State) : QueuesBounded (joinShares s) ↔ QueuesBounded s := by
  simp [joinShares]

@[simp] theorem queuesBounded_fleetAuthEnd (q : Nat) (res : Nat) (s : State) : QueuesBounded (fleetAuthEnd q res s) ↔ QueuesBounded s := by
  simp [fleetAuthEnd]

@[simp] theorem queuesBounded_fleetCertAsk (q : Nat) (off : Nat) (s : State) : QueuesBounded (fleetCertAsk q off s) ↔ QueuesBounded s := by
  simp [fleetCertAsk]

@[simp] theorem queuesBounded_fleetAuthStart (q : Nat) (s : State) : QueuesBounded (fleetAuthStart q s) ↔ QueuesBounded s := by
  simp [fleetAuthStart]

@[simp] theorem queuesBounded_authStep (s : State) : QueuesBounded (authStep s) ↔ QueuesBounded s := by
  simp [authStep]

@[simp] theorem queuesBounded_fillEvents (s : State) : QueuesBounded (fillEvents s) ↔ QueuesBounded s := by
  simp [fillEvents]

@[simp] theorem queuesBounded_fleetS4 (s : State) : QueuesBounded (fleetS4 s) ↔ QueuesBounded s := by
  simp [fleetS4]

theorem keeps_execFleetLinkUp (q : Nat) (s : State) : Keeps s (execFleetLinkUp q s) := by
  simp [execFleetLinkUp]

@[simp] theorem queuesBounded_rootCount (s : State) : QueuesBounded (rootCount s) ↔ QueuesBounded s := by
  simp [rootCount]

theorem keeps_execFleetLinkDown (q : Nat) (s : State) : Keeps s (execFleetLinkDown q s) := by
  simp only [execFleetLinkDown, keeps_next]; intro h; split <;> simp [h]

theorem keeps_execFleetMarker (q : Nat) (m : Marker) (s : State) : Keeps s (execFleetMarker q m s) := by
  simp only [execFleetMarker, keeps_next]; intro h; split <;> simp [h]

theorem keeps_execFleetTick (q : Nat) (ack : Nat) (flags : Nat) (s : State) : Keeps s (execFleetTick q ack flags s) := by
  simp [execFleetTick]

theorem keeps_execFleetFrameDiscarded (q : Nat) (s : State) : Keeps s (execFleetFrameDiscarded q s) := by
  simp [execFleetFrameDiscarded]

theorem keeps_execLseqResend (q : Nat) (s : State) : Keeps s (execLseqResend q s) := by
  simp [execLseqResend]

theorem keeps_execElivoHello (q : Nat) (f : FHdr) (pl : List Byte) (s : State) : Keeps s (execElivoHello q f pl s) := by
  simp only [execElivoHello, keeps_next]; intro h; split <;> simp [h]

theorem keeps_execFleetAuthCertGet (q : Nat) (f : FHdr) (pl : List Byte) (s : State) : Keeps s (execFleetAuthCertGet q f pl s) := by
  simp only [execFleetAuthCertGet, keeps_next]; intro h; simp [h]

theorem keeps_execFleetAuthCert (q : Nat) (f : FHdr) (pl : List Byte) (s : State) : Keeps s (execFleetAuthCert q f pl s) := by
  simp only [execFleetAuthCert, keeps_next]
  refine fun h => keeps_hopIn (fun t ht => ?_) h ..
  (repeat' split) <;> simp [ht]

theorem keeps_execFleetAuthChallenge (q : Nat) (f : FHdr) (pl : List Byte) (s : State) : Keeps s (execFleetAuthChallenge q f pl s) := by
  simp only [execFleetAuthChallenge, keeps_next]; intro h; simp [h]

theorem keeps_execFleetAuthSign (q : Nat) (f : FHdr) (pl : List Byte) (s : State) : Keeps s (execFleetAuthSign q f pl s) := by
  simp only [execFleetAuthSign, keeps_next]
  refine fun h => keeps_hopIn (fun t ht => ?_) h ..
  (repeat' split) <;> simp [ht]

theorem keeps_execFleetAuthRecheck (q : Nat) (s : State) : Keeps s (execFleetAuthRecheck q s) := by
  simp [execFleetAuthRecheck]

theorem keeps_execFleetAuthTimeout (q : Nat) (s : State) : Keeps s (execFleetAuthTimeout q s) := by
  unfold execFleetAuthTimeout; split <;> simp

theorem keeps_execAnnounce (q : Nat) (f : FHdr) (pl : List Byte) (s : State) : Keeps s (execAnnounce q f pl s) := by
  simp only [execAnnounce, keeps_next]
  refine fun h => keeps_hopIn (fun t ht => ?_) h ..
  (repeat' split) <;> simp [ht]

@[simp] theorem queuesBounded_sendJoinAck (q : Nat) (serial : Nat) (addr : Nat) (status : Nat) (s : State) :
    QueuesBounded (sendJoinAck q serial addr status s) ↔ QueuesBounded s := by
  simp [sendJoinAck]

@[simp] theorem queuesBounded_assign (q : Nat) (pl : List Byte) (s : State) : QueuesBounded (assign q pl s) ↔ QueuesBounded s := by
  unfold assign; dsimp only; (repeat' split) <;> simp

@[simp] theorem keeps_upIn {s : State} {act : State → State} (ha : ∀ t, QueuesBounded t → QueuesBounded (act t)) (h : QueuesBounded s)
    (q typ : Nat) (f : FHdr) (pl : List Byte) : QueuesBounded (upIn q typ f pl act s) :=
  keeps_wayIn (fun t ht => by split_ifs <;> simp [ht, ha t]) h q typ f

@[simp] theorem keeps_toIn {s : State} {act : State → State} (ha : ∀ t, QueuesBounded t → QueuesBounded (act t)) (h : QueuesBounded s)
    (q typ : Nat) (f : FHdr) (pl : List Byte) : QueuesBounded (toIn q typ f pl act s) :=
  keeps_wayIn (fun t ht => by split_ifs <;> simp [ht, ha t]) h q typ f

theorem keeps_execJoinReq (q : Nat) (f : FHdr) (pl : List Byte) (s : State) : Keeps s (execJoinReq q f pl s) := by
  simp only [execJoinReq, keeps_next]; intro h; simp [h]

@[simp] theorem keeps_joined (pl : List Byte) {s : State} (h : QueuesBounded s) : QueuesBounded (joined pl s) := by
  unfold joined; dsimp only; (repeat' split) <;> simp [h]

theorem keeps_execJoinAck (q : Nat) (f : FHdr) (pl : List Byte) (s : State) : Keeps s (execJoinAck q f pl s) := by
  simp only [execJoinAck, keeps_next]
  refine fun h => keeps_wayIn (fun t ht => ?_) h ..
  (repeat' split) <;> simp [ht]

theorem keeps_execRootElectionTimeout (s : State) : Keeps s (execRootElectionTimeout s) := by
  simp [execRootElectionTimeout]

theorem keeps_execJoinReqRetry (s : State) : Keeps s (execJoinReqRetry s) := by
  simp [execJoinReqRetry]

theorem keeps_execMarkersLost (s : State) : Keeps s (execMarkersLost s) := by
  simp only [execMarkersLost, keeps_next]; intro h; split <;> simp [h]

theorem keeps_execIslandRejoin (s : State) : Keeps s (execIslandRejoin s) := by
  simp only [execIslandRejoin, keeps_next]; intro h; split <;> simp [h]

theorem keeps_execElectWaitExpiry (s : State) : Keeps s (execElectWaitExpiry s) := by
  simp [execElectWaitExpiry]

theorem keeps_execAnnouncePeriod (s : State) : Keeps s (execAnnouncePeriod s) := by
  simp [execAnnouncePeriod]

theorem keeps_execDelayPeriod (t1 : Nat) (s : State) : Keeps s (execDelayPeriod t1 s) := by
  unfold execDelayPeriod; split <;> simp

theorem keeps_execDelayReq (q : Nat) (f : FHdr) (pl : List Byte) (t2 : Nat) (t3 : Nat) (s : State) : Keeps s (execDelayReq q f pl t2 t3 s) := by
  simp only [execDelayReq, keeps_next]; intro h; simp [h]

theorem keeps_execDelayResp (q : Nat) (f : FHdr) (pl : List Byte) (t4 : Nat) (s : State) : Keeps s (execDelayResp q f pl t4 s) := by
  simp only [execDelayResp, keeps_next]
  refine fun h => keeps_hopIn (fun t ht => ?_) h ..
  (repeat' split) <;> simp [ht]

theorem keeps_execAlignedSet (s : State) : Keeps s (execAlignedSet s) := by
  simp [execAlignedSet]

@[simp] theorem keeps_bcastIn {s : State} {act : State → State} (ha : ∀ t, QueuesBounded t → QueuesBounded (act t)) (h : QueuesBounded s)
    (q : Nat) (f : FFrame) : QueuesBounded (bcastIn q f act s) := by
  have take {t : State} (ht : QueuesBounded t) : QueuesBounded (act (fwdDown f (t.modFleet fun t => { t with kept := (f :: t.kept).take 32 }))) :=
    ha _ (by simp [ht])
  unfold bcastIn
  dsimp only
  split
  · exact h
  split
  · simp [h]
  split
  · exact h
  split
  · exact take (by simp [h])
  split
  · exact take (by simp [h])
  split
  · exact h
  split
  · exact (queuesBounded_fleetJoining _ _).2 (keeps_cancelCritical (take (by simp [h])))
  · exact take (by simp [h])

@[simp] theorem keeps_roundIn {s : State} {act : State → State} (ha : ∀ t, QueuesBounded t → QueuesBounded (act t)) (h : QueuesBounded s)
    (q typ : Nat) (f : FHdr) (pl : List Byte) : QueuesBounded (roundIn q typ f pl act s) := by
  have hr : QueuesBounded (flTake q typ f s).2 := by simp [h]
  unfold roundIn
  dsimp only
  split_ifs
  case pos => exact hr
  case pos => exact keeps_bcastIn ha hr _ _
  case pos => exact ha _ (by simp [hr])
  all_goals simp [hr]

@[simp] theorem keeps_originate {s : State} {act : State → State} (ha : ∀ t, QueuesBounded t → QueuesBounded (act t)) (h : QueuesBounded s)
    (typ : Nat) (pay : List Byte) : QueuesBounded (originate typ pay act s) := by
  unfold originate
  split
  · exact ha _ (by simp [h])
  · simp [h]

theorem keeps_execRepair (q : Nat) (f : FHdr) (pl : List Byte) (s : State) : Keeps s (execRepair q f pl s) := by
  simp only [execRepair, keeps_next]
  refine fun h => keeps_hopIn (fun t ht => ?_) h ..
  (repeat' split) <;> simp [ht]

theorem keeps_execFleetLaunch (q : Nat) (f : FHdr) (pl : List Byte) (s : State) : Keeps s (execFleetLaunch q f pl s) := by
  simp only [execFleetLaunch, keeps_next]; intro h; simp [h]

theorem keeps_execFleetLaunchCancel (q : Nat) (f : FHdr) (pl : List Byte) (s : State) : Keeps s (execFleetLaunchCancel q f pl s) := by
  simp only [execFleetLaunchCancel, keeps_next]
  refine fun h => keeps_roundIn (fun t ht => ?_) h ..
  simp [ht]

theorem keeps_execFleetReset (q : Nat) (f : FHdr) (s : State) : Keeps s (execFleetReset q f s) := by
  simp only [execFleetReset, keeps_next]; intro h; simp [h]

theorem keeps_execFleetUnknownFrame (q : Nat) (typ : Nat) (f : FHdr) (pl : List Byte) (s : State) : Keeps s (execFleetUnknownFrame q typ f pl s) := by
  simp only [execFleetUnknownFrame, keeps_next]; intro h; (repeat' split) <;> simp [h]

theorem keeps_execBarrierUp (q : Nat) (f : FHdr) (pl : List Byte) (s : State) : Keeps s (execBarrierUp q f pl s) := by
  simp only [execBarrierUp, keeps_next]; intro h; split <;> simp [h]

theorem keeps_execBarrierRelease (q : Nat) (f : FHdr) (pl : List Byte) (s : State) : Keeps s (execBarrierRelease q f pl s) := by
  simp only [execBarrierRelease, keeps_next]; intro h; split <;> simp [h]

theorem keeps_execFleetBarrierTimeout (opnum : Nat) (s : State) : Keeps s (execFleetBarrierTimeout opnum s) := by
  simp [execFleetBarrierTimeout]

@[simp] theorem queuesBounded_cmdOnward (way : Option Nat) (f : FFrame) (s : State) : QueuesBounded (cmdOnward way f s) ↔ QueuesBounded s := by
  unfold cmdOnward; split <;> simp

@[simp] theorem keeps_cmdIn {s : State} {run : State → State} (ha : ∀ t, QueuesBounded t → QueuesBounded (run t)) (h : QueuesBounded s)
    (q : Nat) (f : FHdr) (pl : List Byte) : QueuesBounded (cmdIn q f pl run s) := by
  have hr : QueuesBounded (flTake q Eli.CMD f s).2 := by simp [h]
  unfold cmdIn
  dsimp only
  split
  · exact hr
  split
  · split_ifs <;> simp [hr, ha]
  · exact keeps_bcastIn ha hr _ _
  · split <;> simp [hr, ha]
  · exact hr

theorem keeps_execCmdReply (q : Nat) (f : FHdr) (pl : List Byte) (s : State) : Keeps s (execCmdReply q f pl s) := by
  simp only [execCmdReply, keeps_next]; intro h; simp [h]

theorem keeps_execCmdStatus (q : Nat) (f : FHdr) (pl : List Byte) (s : State) : Keeps s (execCmdStatus q f pl s) := by
  simp only [execCmdStatus, keeps_next]; intro h; simp [h]

theorem keeps_execFleetCmdMemberTimeout (opnum : Nat) (unit : Nat) (s : State) : Keeps s (execFleetCmdMemberTimeout opnum unit s) := by
  unfold execFleetCmdMemberTimeout; split <;> simp

theorem keeps_execFleetCmdComplete (opnum : Nat) (s : State) : Keeps s (execFleetCmdComplete opnum s) := by
  unfold execFleetCmdComplete; split <;> simp

theorem keeps_execSnapReq (q : Nat) (f : FHdr) (pl : List Byte) (s : State) : Keeps s (execSnapReq q f pl s) := by
  simp only [execSnapReq, keeps_next]; intro h; simp [h]

theorem keeps_execSnapRecord (q : Nat) (f : FHdr) (pl : List Byte) (s : State) : Keeps s (execSnapRecord q f pl s) := by
  have taken (full : Bool) (h : QueuesBounded s) : QueuesBounded (if f.route = 3 && f.dst = s.fleet.addr && full then s
      else toIn q Eli.SNAP_RECORD f pl (fun s =>
        match s.fleet.snap with
        | some g => if g.frame = fld pl 4 8 then snapAdd (fld pl 2 2) pl s else s
        | none => s) s) := by
    split
    · exact h
    · refine keeps_toIn (fun t ht => ?_) h ..
      (repeat' split) <;> simp [ht]
  exact (keeps_next _ _).2 (taken _)

theorem keeps_execSnapTimeout (opnum : Nat) (unit : Nat) (s : State) : Keeps s (execSnapTimeout opnum unit s) := by
  unfold execSnapTimeout; split <;> simp

theorem keeps_execFleetSnapshotComplete (opnum : Nat) (s : State) : Keeps s (execFleetSnapshotComplete opnum s) := by
  unfold execFleetSnapshotComplete; split <;> simp

@[simp] theorem queuesBounded_originPair (unit : Nat) (e : List Byte) (s : State) : QueuesBounded (originPair unit e s) ↔ QueuesBounded s := by
  unfold originPair
  split
  · rfl
  · exact (queuesBounded_queueEvent _ _ _ _).trans (queuesBounded_raise _ _ _)

theorem keeps_execFleetEvent (q : Nat) (f : FHdr) (pl : List Byte) (s : State) : Keeps s (execFleetEvent q f pl s) := by
  simp only [execFleetEvent, keeps_next]; intro h; simp [h]

theorem keeps_execFleetEventsLost (q : Nat) (f : FHdr) (pl : List Byte) (s : State) : Keeps s (execFleetEventsLost q f pl s) := by
  simp only [execFleetEventsLost, keeps_next]; intro h; simp [h]

@[simp] theorem queuesBounded_takeShares (pl : List Byte) (s : State) : QueuesBounded (takeShares pl s) ↔ QueuesBounded s := by
  unfold takeShares; dsimp only; split <;> simp

@[simp] theorem queuesBounded_sendShares (s : State) : QueuesBounded (sendShares s) ↔ QueuesBounded s := by
  simp [sendShares]

@[simp] theorem queuesBounded_noteNeed (unit : Nat) (chg : Nat) (dis : Nat) (prio : Nat) (s : State) :
    QueuesBounded (noteNeed unit chg dis prio s) ↔ QueuesBounded s := by
  simp [noteNeed]

theorem keeps_execBudgetPeriod (s : State) : Keeps s (execBudgetPeriod s) := by
  simp only [execBudgetPeriod, keeps_next]; (repeat' split) <;> simp

theorem keeps_execNeed (q : Nat) (f : FHdr) (pl : List Byte) (s : State) : Keeps s (execNeed q f pl s) := by
  simp only [execNeed, keeps_next]; intro h; simp [h]

theorem keeps_execShares (q : Nat) (f : FHdr) (pl : List Byte) (s : State) : Keeps s (execShares q f pl s) := by
  simp only [execShares, keeps_next]; intro h; split <;> simp [h]

theorem keeps_execSharesEffect (s : State) : Keeps s (execSharesEffect s) := by
  unfold execSharesEffect; split <;> simp

end Sys2Proof.Machine
end

section
/-! The bounds of the two queues through Machine/Lanes: the lanes (06). -/

namespace Sys2Proof.Machine

@[simp] theorem queuesBounded_modShadow (s : State) (x : Nat) (f : ModSet → ModSet) : QueuesBounded (State.modShadow s x f) ↔ QueuesBounded s := by
  simp [State.modShadow]

@[simp] theorem queuesBounded_phaseLow (s : State) (x : Nat) : QueuesBounded (phaseLow s x) ↔ QueuesBounded s := by
  simp [phaseLow]

@[simp] theorem queuesBounded_lanePhasesLow (s : State) (n : Nat) : QueuesBounded (lanePhasesLow s n) ↔ QueuesBounded s := by
  simp [lanePhasesLow]

@[simp] theorem queuesBounded_lanePhasesEnd (s : State) (n : Nat) : QueuesBounded (lanePhasesEnd s n) ↔ QueuesBounded s := by
  simp [lanePhasesEnd]

@[simp] theorem queuesBounded_setLnen (n : Nat) (b : Bool) (s : State) : QueuesBounded (setLnen n b s) ↔ QueuesBounded s := by
  simp [setLnen]

@[simp] theorem queuesBounded_laneEnter (n : Nat) (st : LnSt) (cause : Option Nat) (s : State) :
    QueuesBounded (laneEnter n st cause s) ↔ QueuesBounded s := by
  simp [laneEnter]

@[simp] theorem queuesBounded_laneRetry (n : Nat) (cause : Nat) (s : State) : QueuesBounded (laneRetry n cause s) ↔ QueuesBounded s := by
  simp [laneRetry]

@[simp] theorem queuesBounded_softFail (n : Nat) (cause : Nat) (atOnce : Bool) (s : State) :
    QueuesBounded (softFail n cause atOnce s) ↔ QueuesBounded s := by
  simp [softFail]

@[simp] theorem queuesBounded_laneOffNow (n : Nat) (cause : Option Nat) (s : State) : QueuesBounded (laneOffNow n cause s) ↔ QueuesBounded s := by
  simp [laneOffNow]

@[simp] theorem queuesBounded_laneRamp (n : Nat) (cause : Nat) (s : State) : QueuesBounded (laneRamp n cause s) ↔ QueuesBounded s := by
  simp [laneRamp]

@[simp] theorem queuesBounded_stopLane (n : Nat) (cause : Nat) (s : State) : QueuesBounded (stopLane n cause s) ↔ QueuesBounded s := by
  unfold stopLane; split <;> simp

@[simp] theorem queuesBounded_laneRestart (j : Nat) (n : Nat) (s : State) : QueuesBounded (laneRestart j n s) ↔ QueuesBounded s := by
  unfold laneRestart; dsimp only; split <;> simp

@[simp] theorem queuesBounded_laneNoPhases (n : Nat) (s : State) : QueuesBounded (laneNoPhases n s) ↔ QueuesBounded s := by
  simp [laneNoPhases]

@[simp] theorem queuesBounded_phaseS2 (x : Nat) (s : State) : QueuesBounded (phaseS2 x s) ↔ QueuesBounded s := by
  simp [phaseS2]

@[simp] theorem queuesBounded_laneS3 (n : Nat) (s : State) : QueuesBounded (laneS3 n s) ↔ QueuesBounded s := by
  simp [laneS3]

@[simp] theorem queuesBounded_laneStart (n : Nat) (s : State) : QueuesBounded (laneStart n s) ↔ QueuesBounded s := by
  simp [laneStart]

@[simp] theorem queuesBounded_laneS4 (n : Nat) (s : State) : QueuesBounded (laneS4 n s) ↔ QueuesBounded s := by
  unfold laneS4; dsimp only; (repeat' split) <;> simp

@[simp] theorem queuesBounded_clampEvent (n : Nat) (bound : Nat) (acted : Bool) (s : State) :
    QueuesBounded (clampEvent n bound acted s) ↔ QueuesBounded s := by
  simp [clampEvent]

@[simp] theorem queuesBounded_laneS5 (n : Nat) (s : State) : QueuesBounded (laneS5 n s) ↔ QueuesBounded s := by
  simp [laneS5]

@[simp] theorem queuesBounded_laneS6 (n : Nat) (s : State) : QueuesBounded (laneS6 n s) ↔ QueuesBounded s := by
  simp [laneS6]

@[simp] theorem queuesBounded_laneS7 (n : Nat) (s : State) : QueuesBounded (laneS7 n s) ↔ QueuesBounded s := by
  simp [laneS7]

@[simp] theorem queuesBounded_rampShares (s : State) (n : Nat) : QueuesBounded (rampShares s n) ↔ QueuesBounded s := by
  simp [rampShares]

@[simp] theorem queuesBounded_stopDecision (s : State) (n : Nat) : QueuesBounded (stopDecision s n) ↔ QueuesBounded s := by
  simp [stopDecision]

theorem keeps_execLaneQualified (n : Nat) (s : State) : Keeps s (execLaneQualified n s) := by
  simp [execLaneQualified]

theorem keeps_execSoftstartPhasesStart (n : Nat) (s : State) : Keeps s (execSoftstartPhasesStart n s) := by
  simp [execSoftstartPhasesStart]

theorem keeps_execSoftstartDone (n : Nat) (s : State) : Keeps s (execSoftstartDone n s) := by
  simp [execSoftstartDone]

theorem keeps_execSoftstartFailed (n : Nat) (s : State) : Keeps s (execSoftstartFailed n s) := by
  simp [execSoftstartFailed]

theorem keeps_execLaneIdleOff (n : Nat) (s : State) : Keeps s (execLaneIdleOff n s) := by
  simp [execLaneIdleOff]

theorem keeps_execRatioFault (n : Nat) (s : State) : Keeps s (execRatioFault n s) := by
  simp [execRatioFault]

theorem keeps_execRampdownDone (n : Nat) (s : State) : Keeps s (execRampdownDone n s) := by
  simp [execRampdownDone]

theorem keeps_execRetryElapsed (n : Nat) (s : State) : Keeps s (execRetryElapsed n s) := by
  simp [execRetryElapsed]

theorem keeps_execRetryBackoffReset (n : Nat) (s : State) : Keeps s (execRetryBackoffReset n s) := by
  simp [execRetryBackoffReset]

end Sys2Proof.Machine
end

section
/-! The bounds of the two queues through Machine/Mods: the modulators (06). -/

namespace Sys2Proof.Machine

@[simp] theorem queuesBounded_limitSpoils (n : Nat) (y : Nat) (s : State) : QueuesBounded (limitSpoils n y s) ↔ QueuesBounded s := by
  simp [limitSpoils]

@[simp] theorem queuesBounded_cotFire (n : Nat) (off : Nat) (y : Nat) (s : State) : QueuesBounded (cotFire n off y s) ↔ QueuesBounded s := by
  simp [cotFire]

@[simp] theorem queuesBounded_phaseFail (x : Nat) (cause : Nat) (s : State) : QueuesBounded (phaseFail x cause s) ↔ QueuesBounded s := by
  unfold phaseFail; dsimp only; split <;> simp

@[simp] theorem queuesBounded_phaseFollows (x : Nat) (s : State) : QueuesBounded (phaseFollows x s) ↔ QueuesBounded s := by
  simp [phaseFollows]

@[simp] theorem queuesBounded_dutyTaken (x : Nat) (s : State) : QueuesBounded (dutyTaken x s) ↔ QueuesBounded s := by
  simp [dutyTaken]

@[simp] theorem queuesBounded_cotCycle (n : Nat) (x : Nat) (c : CycleIn) (m : Modulator) (s : State) :
    QueuesBounded (cotCycle n x c m s) ↔ QueuesBounded s := by
  unfold cotCycle; dsimp only; (repeat' split) <;> simp

theorem keeps_execCarrierCycle (x : Nat) (c : CycleIn) (s : State) : Keeps s (execCarrierCycle x c s) := by
  simp only [execCarrierCycle, keeps_next]; (repeat' split) <;> simp

theorem keeps_execPhasePeakLimit (x : Nat) (peak : PeakIn) (s : State) : Keeps s (execPhasePeakLimit x peak s) := by
  unfold execPhasePeakLimit; split <;> simp

@[simp] theorem queuesBounded_linkLowNow (s : State) (x : Nat) : QueuesBounded (linkLowNow s x) ↔ QueuesBounded s := by
  unfold linkLowNow; dsimp only; split <;> simp

theorem keeps_execLinkOvervoltageLimit (vlink : Nat) (s : State) : Keeps s (execLinkOvervoltageLimit vlink s) := by
  simp [execLinkOvervoltageLimit]

@[simp] theorem queuesBounded_retireTell (x : Nat) (cause : Nat) (s : State) : QueuesBounded (retireTell x cause s) ↔ QueuesBounded s := by
  simp [retireTell]

theorem keeps_execPhaseRetired (x : Nat) (cause : Nat) (s : State) : Keeps s (execPhaseRetired x cause s) := by
  simp [execPhaseRetired]

theorem keeps_execPhaseShedStop (x : Nat) (current : ℤ) (s : State) : Keeps s (execPhaseShedStop x current s) := by
  unfold execPhaseShedStop; split <;> simp

end Sys2Proof.Machine
end

section
/-! The bounds of the two queues through Machine/LossMap: the loss maps (06). -/

namespace Sys2Proof.Machine

@[simp] theorem queuesBounded_setEntry (i : Nat) (e : MapEnt) (s : State) : QueuesBounded (setEntry i e s) ↔ QueuesBounded s := by
  simp [setEntry]

@[simp] theorem queuesBounded_resetRegion (n : Nat) (cause : Nat) (s : State) : QueuesBounded (resetRegion n cause s) ↔ QueuesBounded s := by
  simp [resetRegion]

@[simp] theorem queuesBounded_remap (s : State) : QueuesBounded (remap s) ↔ QueuesBounded s := by
  simp [remap]

@[simp] theorem queuesBounded_keepMap (s : State) : QueuesBounded (keepMap s) ↔ QueuesBounded s := by
  simp [keepMap]

@[simp] theorem queuesBounded_redefault (n : Nat) (s : State) : QueuesBounded (redefault n s) ↔ QueuesBounded s := by
  simp [redefault]

@[simp] theorem queuesBounded_quarantine (n : Nat) (i : Nat) (s : State) : QueuesBounded (quarantine n i s) ↔ QueuesBounded s := by
  simp [quarantine]

@[simp] theorem queuesBounded_learn (n : Nat) (i : Nat) (L : ℤ) (p : Plan) (s : State) : QueuesBounded (learn n i L p s) ↔ QueuesBounded s := by
  unfold learn; split <;> simp

end Sys2Proof.Machine
end

section
/-! The bounds of the two queues through Machine/Sched: the scheduler (06). -/

namespace Sys2Proof.Machine

@[simp] theorem queuesBounded_heatStep (s : State) (n : Nat) : QueuesBounded (heatStep s n) ↔ QueuesBounded s := by
  simp [heatStep]

@[simp] theorem queuesBounded_siteStep (s : State) : QueuesBounded (siteStep s) ↔ QueuesBounded s := by
  simp [siteStep]

@[simp] theorem queuesBounded_setPlan (n : Nat) (p : Plan) (s : State) : QueuesBounded (setPlan n p s) ↔ QueuesBounded s := by
  simp [setPlan]

@[simp] theorem queuesBounded_dropProbe (n : Nat) (s : State) : QueuesBounded (dropProbe n s) ↔ QueuesBounded s := by
  unfold dropProbe; split <;> simp

@[simp] theorem queuesBounded_probeWithdraw (n : Nat) (s : State) : QueuesBounded (probeWithdraw n s) ↔ QueuesBounded s := by
  simp [probeWithdraw]

@[simp] theorem queuesBounded_planLane (s : State) (n : Nat) : QueuesBounded (planLane s n) ↔ QueuesBounded s := by
  unfold planLane; dsimp only; (repeat' split) <;> simp

@[simp] theorem queuesBounded_schedPlan (s : State) : QueuesBounded (schedPlan s) ↔ QueuesBounded s := by
  simp [schedPlan]

@[simp] theorem queuesBounded_shedPhase (n : Nat) (z : Nat) (s : State) : QueuesBounded (shedPhase n z s) ↔ QueuesBounded s := by
  simp [shedPhase]

theorem keeps_execShedStep (n : Nat) (s : State) : Keeps s (execShedStep n s) := by
  simp only [execShedStep, keeps_next]; (repeat' split) <;> simp

theorem keeps_execRotationBegin (n : Nat) (s : State) : Keeps s (execRotationBegin n s) := by
  unfold execRotationBegin; dsimp only; split <;> simp

theorem keeps_execShedBlockEnd (n : Nat) (s : State) : Keeps s (execShedBlockEnd n s) := by
  simp [execShedBlockEnd]

@[simp] theorem queuesBounded_laneS8 (n : Nat) (s : State) : QueuesBounded (laneS8 n s) ↔ QueuesBounded s := by
  unfold laneS8; dsimp only; (repeat' split) <;> simp

theorem keeps_execLearningWindowClose (n : Nat) (s : State) : Keeps s (execLearningWindowClose n s) := by
  unfold execLearningWindowClose; split <;> simp

theorem keeps_execProbeStart (n : Nat) (s : State) : Keeps s (execProbeStart n s) := by
  simp only [execProbeStart, keeps_next]; (repeat' split) <;> simp

theorem keeps_execProbeAbandon (n : Nat) (s : State) : Keeps s (execProbeAbandon n s) := by
  unfold execProbeAbandon; dsimp only; split <;> simp

theorem keeps_execProbeEnd (n : Nat) (s : State) : Keeps s (execProbeEnd n s) := by
  unfold execProbeEnd; dsimp only; split <;> simp

@[simp] theorem queuesBounded_flashCount (s : State) : QueuesBounded (flashCount s) ↔ QueuesBounded s := by
  simp [flashCount]

@[simp] theorem queuesBounded_ledgerCount (s : State) (x : Nat) : QueuesBounded (ledgerCount s x) ↔ QueuesBounded s := by
  unfold ledgerCount; (repeat' split) <;> simp

theorem keeps_execLedgerSample (s : State) : Keeps s (execLedgerSample s) := by
  refine (keeps_next _ _).2 fun h => ?_
  split
  · refine .foldl (fun t x ht => ?_) _ h
    split <;> simp [ht]
  · exact h

theorem keeps_execLedgerFlush (s : State) : Keeps s (execLedgerFlush s) := by
  simp [execLedgerFlush]

theorem keeps_execLossmapPersist (s : State) : Keeps s (execLossmapPersist s) := by
  simp [execLossmapPersist]

@[simp] theorem queuesBounded_preempted (s : State) : QueuesBounded (preempted s) ↔ QueuesBounded s := by
  unfold preempted
  dsimp only
  split
  · exact queuesBounded_sameHost ..
  split
  · exact ((queuesBounded_modWriter _ _).trans (queuesBounded_modSched _ _)).trans (queuesBounded_modFlash _ _)
  · rfl

theorem keeps_execLedgerRetireWrite (x : Nat) (s : State) : Keeps s (execLedgerRetireWrite x s) := by
  simp [execLedgerRetireWrite]

theorem keeps_execFlashWriteLate (which : Nat) (s : State) : Keeps s (execFlashWriteLate which s) := by
  simp [execFlashWriteLate]

theorem keeps_execFlashWriterDone (s : State) : Keeps s (execFlashWriterDone s) := by
  unfold execFlashWriterDone; split <;> simp

end Sys2Proof.Machine
end

section
/-! The bounds of the two queues through Machine/Sources: the sources (07). -/

namespace Sys2Proof.Machine

@[simp] theorem queuesBounded_srcEnter (n : Nat) (st : SrcSt) (cause : Option Nat) (s : State) :
    QueuesBounded (srcEnter n st cause s) ↔ QueuesBounded s := by
  simp [srcEnter]

@[simp] theorem queuesBounded_srcOpen (n : Nat) (s : State) : QueuesBounded (srcOpen n s) ↔ QueuesBounded s := by
  simp [srcOpen]

@[simp] theorem queuesBounded_srcClose (n : Nat) (s : State) : QueuesBounded (srcClose n s) ↔ QueuesBounded s := by
  simp [srcClose]

@[simp] theorem queuesBounded_srcCloseDirect (n : Nat) (s : State) : QueuesBounded (srcCloseDirect n s) ↔ QueuesBounded s := by
  simp [srcCloseDirect]

@[simp] theorem queuesBounded_srcOpenLater (n : Nat) (s : State) : QueuesBounded (srcOpenLater n s) ↔ QueuesBounded s := by
  simp [srcOpenLater]

@[simp] theorem queuesBounded_rampLaneOf (l : Option Nat) (s : State) : QueuesBounded (rampLaneOf l s) ↔ QueuesBounded s := by
  unfold rampLaneOf; split <;> simp

@[simp] theorem queuesBounded_srcLeave (n : Nat) (cause : Nat) (s : State) : QueuesBounded (srcLeave n cause s) ↔ QueuesBounded s := by
  simp [srcLeave]

@[simp] theorem queuesBounded_srcBreak (n : Nat) (s : State) : QueuesBounded (srcBreak n s) ↔ QueuesBounded s := by
  simp [srcBreak]

@[simp] theorem queuesBounded_srcRelease (n : Nat) (s : State) : QueuesBounded (srcRelease n s) ↔ QueuesBounded s := by
  simp [srcRelease]

@[simp] theorem queuesBounded_srcRecover (n : Nat) (s : State) : QueuesBounded (srcRecover n s) ↔ QueuesBounded s := by
  simp [srcRecover]

@[simp] theorem queuesBounded_srcTrip (n : Nat) (s : State) : QueuesBounded (srcTrip n s) ↔ QueuesBounded s := by
  simp [srcTrip]

@[simp] theorem queuesBounded_dropSweepReqs (n : Nat) (s : State) : QueuesBounded (dropSweepReqs n s) ↔ QueuesBounded s := by
  simp [dropSweepReqs]

@[simp] theorem queuesBounded_sweepAbandon (n : Nat) (s : State) : QueuesBounded (sweepAbandon n s) ↔ QueuesBounded s := by
  unfold sweepAbandon; split <;> simp

@[simp] theorem queuesBounded_sweepStart (n : Nat) (s : State) : QueuesBounded (sweepStart n s) ↔ QueuesBounded s := by
  simp [sweepStart]

@[simp] theorem queuesBounded_sweepFrame (n : Nat) (w : Sweep) (s : State) : QueuesBounded (sweepFrame n w s) ↔ QueuesBounded s := by
  simp [sweepFrame]

@[simp] theorem queuesBounded_pvS5 (n : Nat) (s : State) : QueuesBounded (pvS5 n s) ↔ QueuesBounded s := by
  delta pvS5
  extract_lets age s1 s2 p s3 P
  have h1 : QueuesBounded s1 ↔ QueuesBounded s := by simp [s1]
  clear_value s1
  have h2 : QueuesBounded s2 ↔ QueuesBounded s := by simp [s2, h1]
  clear_value s2
  have h3 : QueuesBounded s3 ↔ QueuesBounded s := by simp [s3, h2]
  clear_value s3
  (repeat' split) <;> simp [h2, h3]

theorem keeps_execMpptPeriodStep (n : Nat) (s : State) : Keeps s (execMpptPeriodStep n s) := by
  simp only [execMpptPeriodStep, keeps_next]; (repeat' split) <;> simp

theorem keeps_execSweepPoint (n : Nat) (s : State) : Keeps s (execSweepPoint n s) := by
  unfold execSweepPoint; split <;> simp

theorem keeps_execSweepRepeat (n : Nat) (s : State) : Keeps s (execSweepRepeat n s) := by
  simp [execSweepRepeat]

@[simp] theorem queuesBounded_icsStart (n : Nat) (s : State) : QueuesBounded (icsStart n s) ↔ QueuesBounded s := by
  simp [icsStart]

@[simp] theorem queuesBounded_icsStop (n : Nat) (s : State) : QueuesBounded (icsStop n s) ↔ QueuesBounded s := by
  simp [icsStop]

@[simp] theorem queuesBounded_dcS5 (n : Nat) (s : State) : QueuesBounded (dcS5 n s) ↔ QueuesBounded s := by
  delta dcS5
  extract_lets s1 p on s2 pw s3 s4 p' s5 s6
  have h1 : QueuesBounded s1 ↔ QueuesBounded s := by simp [s1]
  clear_value s1
  have h2 : QueuesBounded s2 ↔ QueuesBounded s := by simp [s2, h1]
  clear_value s2
  have h3 : QueuesBounded s3 ↔ QueuesBounded s := by unfold s3; split <;> simp [h2]
  clear_value s3
  have h4 : QueuesBounded s4 ↔ QueuesBounded s := by simp [s4, h3]
  clear_value s4
  have h5 : QueuesBounded s5 ↔ QueuesBounded s := by simp [s5, h4]
  clear_value s5
  have h6 : QueuesBounded s6 ↔ QueuesBounded s := by simp [s6, h5]
  clear_value s6
  simp [h1, h6]

@[simp] theorem queuesBounded_icsFoundAt (n : Nat) (i : Nat) (s : State) : QueuesBounded (icsFoundAt n i s) ↔ QueuesBounded s := by
  simp [icsFoundAt]

theorem keeps_execIcsPeriodStep (n : Nat) (s : State) : Keeps s (execIcsPeriodStep n s) := by
  simp [execIcsPeriodStep]

@[simp] theorem queuesBounded_srcS4 (n : Nat) (s : State) : QueuesBounded (srcS4 n s) ↔ QueuesBounded s := by
  unfold srcS4; dsimp only; (repeat' split) <;> simp

@[simp] theorem queuesBounded_srcS5 (n : Nat) (s : State) : QueuesBounded (srcS5 n s) ↔ QueuesBounded s := by
  unfold srcS5; (repeat' split) <;> simp

@[simp] theorem queuesBounded_srcS7 (n : Nat) (s : State) : QueuesBounded (srcS7 n s) ↔ QueuesBounded s := by
  simp [srcS7]

theorem keeps_execSourceQualified (n : Nat) (s : State) : Keeps s (execSourceQualified n s) := by
  simp [execSourceQualified]

theorem keeps_execSourceConnectSettled (n : Nat) (s : State) : Keeps s (execSourceConnectSettled n s) := by
  simp [execSourceConnectSettled]

theorem keeps_execSourceLoss (n : Nat) (s : State) : Keeps s (execSourceLoss n s) := by
  simp [execSourceLoss]

theorem keeps_execDusk (n : Nat) (s : State) : Keeps s (execDusk n s) := by
  simp [execDusk]

end Sys2Proof.Machine
end

section
/-! The bounds of the two queues through Machine/Link: the link (07). -/

namespace Sys2Proof.Machine

@[simp] theorem queuesBounded_keepLane (n : Nat) (s : State) : QueuesBounded (keepLane n s) ↔ QueuesBounded s := by
  unfold keepLane; split <;> simp

@[simp] theorem queuesBounded_roleSwap (old : Nat) (target : Nat) (forced : Bool) (s : State) :
    QueuesBounded (roleSwap old target forced s) ↔ QueuesBounded s := by
  delta roleSwap
  extract_lets l dem s1 s2 s3 s4 s5 s6 s7 s8
  have h1 : QueuesBounded s1 ↔ QueuesBounded s := by simp [s1]
  clear_value s1
  have h2 : QueuesBounded s2 ↔ QueuesBounded s := by simp [s2, h1]
  clear_value s2
  have h3 : QueuesBounded s3 ↔ QueuesBounded s := by simp [s3, h2]
  clear_value s3
  have h4 : QueuesBounded s4 ↔ QueuesBounded s := by simp [s4, h2, h3]
  clear_value s4
  have h5 : QueuesBounded s5 ↔ QueuesBounded s := by simp [s5, h4]
  clear_value s5
  have h6 : QueuesBounded s6 ↔ QueuesBounded s := by unfold s6; split <;> simp [h5]
  clear_value s6
  have h7 : QueuesBounded s7 ↔ QueuesBounded s := by unfold s7; split <;> simp [h6]
  clear_value s7
  have h8 : QueuesBounded s8 ↔ QueuesBounded s := by simp [s8, h7]
  clear_value s8
  simp [h8]

@[simp] theorem queuesBounded_seamBegin (target : Nat) (forced : Bool) (s : State) : QueuesBounded (seamBegin target forced s) ↔ QueuesBounded s := by
  simp [seamBegin]

@[simp] theorem queuesBounded_seamFrame (s : State) : QueuesBounded (seamFrame s) ↔ QueuesBounded s := by
  unfold seamFrame; split <;> simp

@[simp] theorem queuesBounded_linkS4 (s : State) : QueuesBounded (linkS4 s) ↔ QueuesBounded s := by
  delta linkS4
  extract_lets ve ok s1 s2 allOff
  have h1 : QueuesBounded s1 ↔ QueuesBounded s := by simp [s1]
  clear_value s1
  have h2 : QueuesBounded s2 ↔ QueuesBounded s := by unfold s2; (repeat' split) <;> simp [h1]
  clear_value s2
  simp [h2]

@[simp] theorem queuesBounded_linkS5 (s : State) : QueuesBounded (linkS5 s) ↔ QueuesBounded s := by
  simp [linkS5]

@[simp] theorem queuesBounded_linkS6 (s : State) : QueuesBounded (linkS6 s) ↔ QueuesBounded s := by
  simp [linkS6]

@[simp] theorem queuesBounded_linkS7 (s : State) : QueuesBounded (linkS7 s) ↔ QueuesBounded s := by
  simp [linkS7]

@[simp] theorem queuesBounded_linkLate (s : State) : QueuesBounded (linkLate s) ↔ QueuesBounded s := by
  unfold linkLate; (repeat' split) <;> simp

theorem keeps_execPolicyEvaluation (s : State) : Keeps s (execPolicyEvaluation s) := by
  simp [execPolicyEvaluation]

theorem keeps_execElectiveSeamBegin (s : State) : Keeps s (execElectiveSeamBegin s) := by
  unfold execElectiveSeamBegin; split <;> simp

theorem keeps_execHoldFail (s : State) : Keeps s (execHoldFail s) := by
  simp only [execHoldFail, keeps_next]; (repeat' split) <;> simp

theorem keeps_execSeamSwitchSettled (s : State) : Keeps s (execSeamSwitchSettled s) := by
  unfold execSeamSwitchSettled; split <;> simp

@[simp] theorem queuesBounded_rampEnd (m : Seam) (s : State) : QueuesBounded (rampEnd m s) ↔ QueuesBounded s := by
  simp [rampEnd]

theorem keeps_execSeamRampEnd (s : State) : Keeps s (execSeamRampEnd s) := by
  unfold execSeamRampEnd; split <;> simp

theorem keeps_execSeamTimeout (s : State) : Keeps s (execSeamTimeout s) := by
  unfold execSeamTimeout; split <;> simp

@[simp] theorem queuesBounded_swlinkClose (s : State) : QueuesBounded (swlinkClose s) ↔ QueuesBounded s := by
  delta swlinkClose
  extract_lets s1 x
  have h1 : QueuesBounded s1 ↔ QueuesBounded s := by simp [s1]
  clear_value s1
  simp [h1]

@[simp] theorem queuesBounded_swlinkAsk (s : State) : QueuesBounded (swlinkAsk s) ↔ QueuesBounded s := by
  simp [swlinkAsk]

theorem keeps_execSwlinkClose (s : State) : Keeps s (execSwlinkClose s) := by
  simp [execSwlinkClose]

theorem keeps_execLinklownAssert (s : State) : Keeps s (execLinklownAssert s) := by
  simp [execLinklownAssert]

theorem keeps_execLinklownRelease (s : State) : Keeps s (execLinklownRelease s) := by
  simp [execLinklownRelease]

@[simp] theorem queuesBounded_surgePhase (s : State) (n : Nat) (x : Nat) (q : Nat) (m : Nat) :
    QueuesBounded (surgePhase s n x q m) ↔ QueuesBounded s := by
  simp [surgePhase]

theorem keeps_execSurge (n : Nat) (sensed : SurgeIn) (s : State) : Keeps s (execSurge n sensed s) := by
  simp [execSurge]

end Sys2Proof.Machine
end

section
/-! The bounds of the two queues through Machine/PortOps: what a partner port does (09). -/

namespace Sys2Proof.Machine

@[simp] theorem queuesBounded_portEnter (p : Nat) (st : PtSt) (cause : Nat) (s : State) :
    QueuesBounded (portEnter p st cause s) ↔ QueuesBounded s := by
  simp [portEnter]

@[simp] theorem queuesBounded_portOpEnd (p : Nat) (acts : List Nat) (status : Nat) (s : State) :
    QueuesBounded (portOpEnd p acts status s) ↔ QueuesBounded s := by
  simp [portOpEnd]

@[simp] theorem queuesBounded_portPut (p : Nat) (m : PMsg) (s : State) : QueuesBounded (portPut p m s) ↔ QueuesBounded s := by
  simp [portPut]

@[simp] theorem queuesBounded_portHeard (p : Nat) (s : State) : QueuesBounded (portHeard p s) ↔ QueuesBounded s := by
  simp [portHeard]

@[simp] theorem queuesBounded_portAck (p : Nat) (id : Nat) (res : Nat) (s : State) : QueuesBounded (portAck p id res s) ↔ QueuesBounded s := by
  simp [portAck]

@[simp] theorem queuesBounded_portStart (p : Nat) (typ : Nat) (pay : List Byte) (s : State) :
    QueuesBounded (portStart p typ pay s) ↔ QueuesBounded s := by
  simp [portStart]

@[simp] theorem queuesBounded_portSend (p : Nat) (typ : Nat) (pay : List Byte) (s : State) :
    QueuesBounded (portSend p typ pay s) ↔ QueuesBounded s := by
  simp [portSend]

@[simp] theorem queuesBounded_portNext (p : Nat) (s : State) : QueuesBounded (portNext p s) ↔ QueuesBounded s := by
  unfold portNext; split <;> simp

@[simp] theorem queuesBounded_portRenumber (p : Nat) (s : State) : QueuesBounded (portRenumber p s) ↔ QueuesBounded s := by
  simp [portRenumber]

@[simp] theorem queuesBounded_portOpen (p : Nat) (s : State) : QueuesBounded (portOpen p s) ↔ QueuesBounded s := by
  simp [portOpen]

@[simp] theorem queuesBounded_portClose (p : Nat) (s : State) : QueuesBounded (portClose p s) ↔ QueuesBounded s := by
  simp [portClose]

@[simp] theorem queuesBounded_portStop (p : Nat) (s : State) : QueuesBounded (portStop p s) ↔ QueuesBounded s := by
  unfold portStop; split <;> simp

@[simp] theorem queuesBounded_sendCaps (p : Nat) (s : State) : QueuesBounded (sendCaps p s) ↔ QueuesBounded s := by
  simp [sendCaps]

@[simp] theorem queuesBounded_sendHello (p : Nat) (s : State) : QueuesBounded (sendHello p s) ↔ QueuesBounded s := by
  simp [sendHello]

@[simp] theorem queuesBounded_helloStart (p : Nat) (cause : Nat) (s : State) : QueuesBounded (helloStart p cause s) ↔ QueuesBounded s := by
  simp [helloStart]

@[simp] theorem queuesBounded_negStart (p : Nat) (cause : Nat) (s : State) : QueuesBounded (negStart p cause s) ↔ QueuesBounded s := by
  simp [negStart]

@[simp] theorem queuesBounded_authEnd (p : Nat) (res : Nat) (s : State) : QueuesBounded (authEnd p res s) ↔ QueuesBounded s := by
  simp [authEnd]

@[simp] theorem queuesBounded_certAsk (p : Nat) (off : Nat) (s : State) : QueuesBounded (certAsk p off s) ↔ QueuesBounded s := by
  simp [certAsk]

@[simp] theorem queuesBounded_authStart (p : Nat) (op : Option Nat) (s : State) : QueuesBounded (authStart p op s) ↔ QueuesBounded s := by
  simp [authStart]

@[simp] theorem queuesBounded_authAgain (p : Nat) (s : State) : QueuesBounded (authAgain p s) ↔ QueuesBounded s := by
  unfold authAgain; split <;> simp

@[simp] theorem queuesBounded_sendWithdrawn (p : Nat) (s : State) : QueuesBounded (sendWithdrawn p s) ↔ QueuesBounded s := by
  simp [sendWithdrawn]

@[simp] theorem queuesBounded_softDone (p : Nat) (cause : Nat) (s : State) : QueuesBounded (softDone p cause s) ↔ QueuesBounded s := by
  simp [softDone]

@[simp] theorem queuesBounded_softBegin (p : Nat) (cause : Nat) (s : State) : QueuesBounded (softBegin p cause s) ↔ QueuesBounded s := by
  simp [softBegin]

@[simp] theorem queuesBounded_softReset (p : Nat) (cause : Nat) (s : State) : QueuesBounded (softReset p cause s) ↔ QueuesBounded s := by
  unfold softReset; split <;> simp

end Sys2Proof.Machine
end

section
/-! The bounds of the two queues through Machine/Packs: the packs (08). -/

namespace Sys2Proof.Machine

@[simp] theorem queuesBounded_packRegion (p : Nat) (s : State) : QueuesBounded (packRegion p s) ↔ QueuesBounded s := by
  simp [packRegion]

@[simp] theorem queuesBounded_anchor (p : Nat) (src : Nat) (soc : Nat) (s : State) : QueuesBounded (anchor p src soc s) ↔ QueuesBounded s := by
  simp [anchor]

@[simp] theorem queuesBounded_setSoc (p : Nat) (s : State) : QueuesBounded (setSoc p s) ↔ QueuesBounded s := by
  unfold setSoc; (repeat' split) <;> simp

@[simp] theorem queuesBounded_packS3 (p : Nat) (s : State) : QueuesBounded (packS3 p s) ↔ QueuesBounded s := by
  unfold packS3; dsimp only; (repeat' split) <;> simp

@[simp] theorem queuesBounded_packLimits (p : Nat) (n : Nat) (s : State) : QueuesBounded (packLimits p n s) ↔ QueuesBounded s := by
  simp [packLimits]

@[simp] theorem queuesBounded_testEnd (p : Nat) (code : Nat) (s : State) : QueuesBounded (testEnd p code s) ↔ QueuesBounded s := by
  delta testEnd
  extract_lets s1
  have h1 : QueuesBounded s1 ↔ QueuesBounded s := by simp [s1]
  clear_value s1
  simp [h1]

@[simp] theorem queuesBounded_packEnter (p : Nat) (ph : PkPh) (cause : Option Nat) (s : State) :
    QueuesBounded (packEnter p ph cause s) ↔ QueuesBounded s := by
  delta packEnter
  extract_lets k c s1 s2 s3
  have h1 : QueuesBounded s1 ↔ QueuesBounded s := by simp [s1]
  clear_value s1
  have h2 : QueuesBounded s2 ↔ QueuesBounded s := by simp [s2, h1]
  clear_value s2
  have h3 : QueuesBounded s3 ↔ QueuesBounded s := by simp [s3, h2]
  clear_value s3
  simp [h3]

@[simp] theorem queuesBounded_packOpen (p : Nat) (s : State) : QueuesBounded (packOpen p s) ↔ QueuesBounded s := by
  simp [packOpen]

@[simp] theorem queuesBounded_packDrop (p : Nat) (cause : Nat) (s : State) : QueuesBounded (packDrop p cause s) ↔ QueuesBounded s := by
  simp [packDrop]

@[simp] theorem queuesBounded_packCheck (p : Nat) (s : State) : QueuesBounded (packCheck p s) ↔ QueuesBounded s := by
  unfold packCheck; dsimp only; split <;> simp

@[simp] theorem queuesBounded_packMoves (p : Nat) (n : Nat) (s : State) : QueuesBounded (packMoves p n s) ↔ QueuesBounded s := by
  delta packMoves
  extract_lets k s1 s2 store s3 x
  have h1 : QueuesBounded s1 ↔ QueuesBounded s := by simp [s1]
  clear_value s1
  have h2 : QueuesBounded s2 ↔ QueuesBounded s := by simp [s2, h1]
  clear_value s2
  have h3 : QueuesBounded s3 ↔ QueuesBounded s := by simp [s3, h2]
  clear_value s3
  split <;> simp [h2, h3]

@[simp] theorem queuesBounded_packEnd (p : Nat) (s : State) : QueuesBounded (packEnd p s) ↔ QueuesBounded s := by
  delta packEnd
  extract_lets s1
  have h1 : QueuesBounded s1 ↔ QueuesBounded s := by simp [s1]
  clear_value s1
  simp [h1]

@[simp] theorem queuesBounded_packGone (p : Nat) (s : State) : QueuesBounded (packGone p s) ↔ QueuesBounded s := by
  simp [packGone]

@[simp] theorem queuesBounded_packS4 (p : Nat) (s : State) : QueuesBounded (packS4 p s) ↔ QueuesBounded s := by
  delta packS4
  extract_lets s1
  have h1 : QueuesBounded s1 ↔ QueuesBounded s := by simp [s1]
  clear_value s1
  split <;> simp [h1]

@[simp] theorem queuesBounded_packsS4 (s : State) : QueuesBounded (packsS4 s) ↔ QueuesBounded s := by
  delta packsS4
  extract_lets s1 c d cf df
  have h1 : QueuesBounded s1 ↔ QueuesBounded s := by simp [s1]
  clear_value s1
  simp [h1]

@[simp] theorem queuesBounded_packsS3 (s : State) : QueuesBounded (packsS3 s) ↔ QueuesBounded s := by
  simp [packsS3]

@[simp] theorem queuesBounded_packRemove (p : Nat) (cause : Nat) (s : State) : QueuesBounded (packRemove p cause s) ↔ QueuesBounded s := by
  unfold packRemove; split <;> simp

@[simp] theorem queuesBounded_fallbackOn (s : State) : QueuesBounded (fallbackOn s) ↔ QueuesBounded s := by
  delta fallbackOn
  extract_lets s1
  have h1 : QueuesBounded s1 ↔ QueuesBounded s := by simp [s1]
  clear_value s1
  simp [h1]

@[simp] theorem queuesBounded_fallbackOff (s : State) : QueuesBounded (fallbackOff s) ↔ QueuesBounded s := by
  delta fallbackOff
  extract_lets s1
  have h1 : QueuesBounded s1 ↔ QueuesBounded s := by simp [s1]
  clear_value s1
  simp [h1]

@[simp] theorem keeps_onPack {s : State} {f : State → State} (hf : ∀ t, QueuesBounded t → QueuesBounded (f t)) (h : QueuesBounded s)
    (p : Nat) (cond : State → Pack → Nat → Bool) : QueuesBounded (onPack p cond f s) := by
  unfold onPack
  split
  · split
    · exact hf _ h
    · exact h
  · exact h

theorem keeps_execPackAttached (p : Nat) (s : State) : Keeps s (execPackAttached p s) := by
  simp only [execPackAttached, keeps_next]; intro h; simp [h]

theorem keeps_execPackQualified (p : Nat) (s : State) : Keeps s (execPackQualified p s) := by
  simp only [execPackQualified, keeps_next]; intro h; simp [h]

theorem keeps_execPackSwitchSettled (p : Nat) (s : State) : Keeps s (execPackSwitchSettled p s) := by
  simp only [execPackSwitchSettled, keeps_next]; intro h; simp [h]

theorem keeps_execPrechargeDone (p : Nat) (s : State) : Keeps s (execPrechargeDone p s) := by
  simp only [execPrechargeDone, keeps_next]; intro h; simp [h]

theorem keeps_execPrechargeTimeout (p : Nat) (s : State) : Keeps s (execPrechargeTimeout p s) := by
  simp only [execPrechargeTimeout, keeps_next]; intro h; simp [h]

theorem keeps_execCcDone (p : Nat) (s : State) : Keeps s (execCcDone p s) := by
  simp only [execCcDone, keeps_next]; intro h; simp [h]

theorem keeps_execChargeTerminated (p : Nat) (s : State) : Keeps s (execChargeTerminated p s) := by
  simp only [execChargeTerminated, keeps_next]; intro h; simp [h]

theorem keeps_execChargeTimeout (p : Nat) (s : State) : Keeps s (execChargeTimeout p s) := by
  simp only [execChargeTimeout, keeps_next]; intro h; simp [h]

theorem keeps_execTaperEnd (p : Nat) (s : State) : Keeps s (execTaperEnd p s) := by
  simp only [execTaperEnd, keeps_next]; intro h; simp [h]

theorem keeps_execTaperNoGrant (p : Nat) (s : State) : Keeps s (execTaperNoGrant p s) := by
  simp only [execTaperNoGrant, keeps_next]; intro h; simp [h]

theorem keeps_execRestEnd (p : Nat) (s : State) : Keeps s (execRestEnd p s) := by
  simp only [execRestEnd, keeps_next]; intro h; simp [h]

theorem keeps_execMaintainRecharge (p : Nat) (s : State) : Keeps s (execMaintainRecharge p s) := by
  simp only [execMaintainRecharge, keeps_next]; intro h; simp [h]

theorem keeps_execSupplyEnter (p : Nat) (s : State) : Keeps s (execSupplyEnter p s) := by
  simp only [execSupplyEnter, keeps_next]; intro h; simp [h]

theorem keeps_execSupplyExit (p : Nat) (s : State) : Keeps s (execSupplyExit p s) := by
  simp only [execSupplyExit, keeps_next]; intro h; simp [h]

theorem keeps_execPackRemovalCollapse (p : Nat) (s : State) : Keeps s (execPackRemovalCollapse p s) := by
  simp only [execPackRemovalCollapse, keeps_next]; intro h; simp [h]

theorem keeps_execPackHoldoffEnd (p : Nat) (s : State) : Keeps s (execPackHoldoffEnd p s) := by
  simp [execPackHoldoffEnd]

theorem keeps_execSocAnchorOcv (p : Nat) (s : State) : Keeps s (execSocAnchorOcv p s) := by
  simp only [execSocAnchorOcv, keeps_next]
  refine fun h => keeps_onPack (fun t ht => ?_) h ..
  (repeat' split) <;> simp [ht]

theorem keeps_execSocAnchorFloor (p : Nat) (s : State) : Keeps s (execSocAnchorFloor p s) := by
  simp only [execSocAnchorFloor, keeps_next]; intro h; simp [h]

theorem keeps_execCaptestFloorReached (p : Nat) (s : State) : Keeps s (execCaptestFloorReached p s) := by
  simp only [execCaptestFloorReached, keeps_next]; intro h; simp [h]

theorem keeps_execCaptestTimeout (p : Nat) (s : State) : Keeps s (execCaptestTimeout p s) := by
  simp only [execCaptestTimeout, keeps_next]; intro h; simp [h]

@[simp] theorem queuesBounded_bwStopped (n : Nat) (kind : Nat) (s : State) : QueuesBounded (bwStopped n kind s) ↔ QueuesBounded s := by
  simp [bwStopped]

theorem keeps_execBwStop (n : Nat) (volt : ℤ) (s : State) : Keeps s (execBwStop n volt s) := by
  simp only [execBwStop, keeps_next]; (repeat' split) <;> simp

end Sys2Proof.Machine
end

section
/-! The bounds of the two queues through Machine/Rails: the rails and the sequencer (11). -/

namespace Sys2Proof.Machine

@[simp] theorem queuesBounded_stopAll (kind : Nat) (s : State) : QueuesBounded (stopAll kind s) ↔ QueuesBounded s := by
  delta stopAll
  extract_lets s1
  have h1 : QueuesBounded s1 ↔ QueuesBounded s := by simp [s1]
  clear_value s1
  simp [h1]

@[simp] theorem queuesBounded_switchesOpen (s : State) : QueuesBounded (switchesOpen s) ↔ QueuesBounded s := by
  delta switchesOpen
  extract_lets s1 x s2
  have h1 : QueuesBounded s1 ↔ QueuesBounded s := by simp [s1]
  clear_value s1
  have h2 : QueuesBounded s2 ↔ QueuesBounded s := by simp [s2, h1]
  clear_value s2
  simp [h2]

@[simp] theorem queuesBounded_switchesTrip (s : State) : QueuesBounded (switchesTrip s) ↔ QueuesBounded s := by
  delta switchesTrip
  extract_lets s1 s2
  have h1 : QueuesBounded s1 ↔ QueuesBounded s := by simp [s1]
  clear_value s1
  have h2 : QueuesBounded s2 ↔ QueuesBounded s := by simp [s2, h1]
  clear_value s2
  simp [h2]

@[simp] theorem queuesBounded_enterRun (s : State) : QueuesBounded (enterRun s) ↔ QueuesBounded s := by
  delta enterRun
  extract_lets s1
  have h1 : QueuesBounded s1 ↔ QueuesBounded s := by simp [s1]
  clear_value s1
  simp [h1]

@[simp] theorem queuesBounded_leaveSafe (s : State) : QueuesBounded (leaveSafe s) ↔ QueuesBounded s := by
  simp [leaveSafe]

@[simp] theorem queuesBounded_followOpmode (s : State) : QueuesBounded (followOpmode s) ↔ QueuesBounded s := by
  unfold followOpmode; split <;> simp

@[simp] theorem queuesBounded_wantHalt (cause : Nat) (s : State) : QueuesBounded (wantHalt cause s) ↔ QueuesBounded s := by
  simp [wantHalt]

@[simp] theorem queuesBounded_setSeqen (n : Nat) (b : Bool) (s : State) : QueuesBounded (setSeqen n b s) ↔ QueuesBounded s := by
  delta setSeqen
  extract_lets s1 x
  have h1 : QueuesBounded s1 ↔ QueuesBounded s := by simp [s1]
  clear_value s1
  simp [h1]

@[simp] theorem queuesBounded_seqEnter (st : SqSt) (s : State) : QueuesBounded (seqEnter st s) ↔ QueuesBounded s := by
  delta seqEnter
  extract_lets s1
  have h1 : QueuesBounded s1 ↔ QueuesBounded s := by simp [s1]
  clear_value s1
  simp [h1]

@[simp] theorem queuesBounded_rstStep (s : State) : QueuesBounded (rstStep s) ↔ QueuesBounded s := by
  simp [rstStep]

@[simp] theorem queuesBounded_groupStart (g : Nat) (s : State) : QueuesBounded (groupStart g s) ↔ QueuesBounded s := by
  simp [groupStart]

@[simp] theorem queuesBounded_groupStop (g : Nat) (s : State) : QueuesBounded (groupStop g s) ↔ QueuesBounded s := by
  unfold groupStop
  rw [queuesBounded_rstStep, queuesBounded_foldl (fun t n => by split <;> simp), queuesBounded_modSeq]

@[simp] theorem queuesBounded_powerUp (s : State) : QueuesBounded (powerUp s) ↔ QueuesBounded s := by
  delta powerUp
  extract_lets s1
  have h1 : QueuesBounded s1 ↔ QueuesBounded s := by simp [s1]
  clear_value s1
  split <;> simp [h1]

@[simp] theorem queuesBounded_seqRunning (s : State) : QueuesBounded (seqRunning s) ↔ QueuesBounded s := by
  simp [seqRunning]

@[simp] theorem queuesBounded_seqIdle (s : State) : QueuesBounded (seqIdle s) ↔ QueuesBounded s := by
  simp [seqIdle]

@[simp] theorem queuesBounded_groupStep (s : State) : QueuesBounded (groupStep s) ↔ QueuesBounded s := by
  unfold groupStep; dsimp only; (repeat' split) <;> simp

@[simp] theorem queuesBounded_groupCatch (s : State) : QueuesBounded (groupCatch s) ↔ QueuesBounded s := by
  unfold groupCatch; split <;> simp

@[simp] theorem queuesBounded_railTrip (lost : List Nat) (cause : Nat) (s : State) : QueuesBounded (railTrip lost cause s) ↔ QueuesBounded s := by
  delta railTrip
  extract_lets s1 s2 s3 s4 s5 s6 s7 s8
  have h1 : QueuesBounded s1 ↔ QueuesBounded s := by simp [s1]
  clear_value s1
  have h2 : QueuesBounded s2 ↔ QueuesBounded s := by simp [s2, h1]
  clear_value s2
  have h3 : QueuesBounded s3 ↔ QueuesBounded s := by simp [s3, h2]
  clear_value s3
  have h4 : QueuesBounded s4 ↔ QueuesBounded s := by simp [s4, h3]
  clear_value s4
  have h5 : QueuesBounded s5 ↔ QueuesBounded s := by simp [s5, h4]
  clear_value s5
  have h6 : QueuesBounded s6 ↔ QueuesBounded s := by simp [s6, h5]
  clear_value s6
  have h7 : QueuesBounded s7 ↔ QueuesBounded s := by simp [s7, h6]
  clear_value s7
  have h8 : QueuesBounded s8 ↔ QueuesBounded s := by simp [s8, h7]
  clear_value s8
  simp [h8]

@[simp] theorem queuesBounded_railS4 (n : Nat) (s : State) : QueuesBounded (railS4 n s) ↔ QueuesBounded s := by
  simp [railS4]

@[simp] theorem queuesBounded_seqS4 (s : State) : QueuesBounded (seqS4 s) ↔ QueuesBounded s := by
  unfold seqS4
  extract_lets s1 s2 lanesOff s3
  have h2 : QueuesBounded s2 ↔ QueuesBounded s := (queuesBounded_rstStep s1).trans (queuesBounded_modSeq _ _)
  have h3 : QueuesBounded s3 ↔ QueuesBounded s := (queuesBounded_seqEnter _ _).trans h2
  clear_value s2 s3
  (repeat' split) <;> simp [h2, h3]

theorem keeps_execRailGroupStart (s : State) : Keeps s (execRailGroupStart s) := by
  simp only [execRailGroupStart, keeps_next]; (repeat' split) <;> simp

theorem keeps_execRailDebouncedChange (n : Nat) (s : State) : Keeps s (execRailDebouncedChange n s) := by
  simp [execRailDebouncedChange]

theorem keeps_execRailRunning (n : Nat) (s : State) : Keeps s (execRailRunning n s) := by
  simp [execRailRunning]

theorem keeps_execRailFailedUp (n : Nat) (s : State) : Keeps s (execRailFailedUp n s) := by
  simp [execRailFailedUp]

theorem keeps_execRailSlowDown (n : Nat) (s : State) : Keeps s (execRailSlowDown n s) := by
  simp [execRailSlowDown]

theorem keeps_execRailGroupStop (s : State) : Keeps s (execRailGroupStop s) := by
  rw [execRailGroupStop, keeps_next]
  (repeat' split) <;> simp

theorem keeps_execSeqTripRestart (s : State) : Keeps s (execSeqTripRestart s) := by
  simp [execSeqTripRestart]

theorem keeps_execSeqTripIdle (s : State) : Keeps s (execSeqTripIdle s) := by
  simp [execSeqTripIdle]

theorem keeps_execMinOffElapsed (s : State) : Keeps s (execMinOffElapsed s) := by
  simp [execMinOffElapsed]

theorem keeps_execTripCountReset (s : State) : Keeps s (execTripCountReset s) := by
  simp [execTripCountReset]

theorem keeps_execRstoutRelease (k : Nat) (s : State) : Keeps s (execRstoutRelease k s) := by
  simp [execRstoutRelease]

theorem keeps_execSafePulseEnd (s : State) : Keeps s (execSafePulseEnd s) := by
  simp [execSafePulseEnd]

end Sys2Proof.Machine
end

section
/-! The bounds of the two queues through Machine/Records: the records and the trace (13). -/

namespace Sys2Proof.Machine

@[simp] theorem queuesBounded_writeRecord (body : List Byte) (s : State) : QueuesBounded (writeRecord body s) ↔ QueuesBounded s := by
  delta writeRecord
  extract_lets no k gone ring s1 x
  have h1 : QueuesBounded s1 ↔ QueuesBounded s := by simp [s1]
  clear_value s1
  simp [h1]

@[simp] theorem queuesBounded_recordsGuard (s : State) : QueuesBounded (recordsGuard s) ↔ QueuesBounded s := by
  simp [recordsGuard]

theorem keeps_execFaultRecordWrite (s : State) : Keeps s (execFaultRecordWrite s) := by
  unfold execFaultRecordWrite; split <;> simp

theorem keeps_execRecordAllowanceRefill (s : State) : Keeps s (execRecordAllowanceRefill s) := by
  simp [execRecordAllowanceRefill]

@[simp] theorem queuesBounded_telStep (s : State) : QueuesBounded (telStep s) ↔ QueuesBounded s := by
  unfold telStep
  split
  · rfl
  · exact queuesBounded_foldl (fun t c => by split <;> simp) _ _

@[simp] theorem queuesBounded_telDiscard (s : State) : QueuesBounded (telDiscard s) ↔ QueuesBounded s := by
  simp [telDiscard]

theorem keeps_execTelWindowClose (w : Nat) (s : State) : Keeps s (execTelWindowClose w s) := by
  simp [execTelWindowClose]

@[simp] theorem queuesBounded_doTelRead (c : Ctx) (chan : Nat) (window : Nat) (flags : Nat) (s : State) :
    QueuesBounded (doTelRead c chan window flags s) ↔ QueuesBounded s := by
  delta doTelRead
  extract_lets v x pay f s1 s2
  have h1 : QueuesBounded s1 ↔ QueuesBounded s := by simp [s1]
  clear_value s1
  have h2 : QueuesBounded s2 ↔ QueuesBounded s := by simp [s2, h1]
  clear_value s2
  simp [h2]

@[simp] theorem queuesBounded_doRecRead (c : Ctx) (index : Nat) (s : State) : QueuesBounded (doRecRead c index s) ↔ QueuesBounded s := by
  unfold doRecRead; split <;> simp

@[simp] theorem queuesBounded_energyStep (s : State) : QueuesBounded (energyStep s) ↔ QueuesBounded s := by
  simp [energyStep]

@[simp] theorem queuesBounded_telemetryS8 (s : State) : QueuesBounded (telemetryS8 s) ↔ QueuesBounded s := by
  simp [telemetryS8]

@[simp] theorem queuesBounded_traceTrigger (l : List TrRow) (r : TrRow) (s : State) : QueuesBounded (traceTrigger l r s) ↔ QueuesBounded s := by
  simp [traceTrigger]

@[simp] theorem queuesBounded_traceGuard (s : State) : QueuesBounded (traceGuard s) ↔ QueuesBounded s := by
  simp [traceGuard]

theorem keeps_execTraceNowTrigger (s : State) : Keeps s (execTraceNowTrigger s) := by
  simp [execTraceNowTrigger]

theorem keeps_execTraceFull (s : State) : Keeps s (execTraceFull s) := by
  simp [execTraceFull]

@[simp] theorem queuesBounded_traceOnMatch (n : Nat) (s : State) : QueuesBounded (traceOnMatch n s) ↔ QueuesBounded s := by
  unfold traceOnMatch; (repeat' split) <;> simp

@[simp] theorem queuesBounded_doTraceArm (c : Ctx) (trig : Nat) (pre : Nat) (code : Nat) (mask : Nat) (s : State) :
    QueuesBounded (doTraceArm c trig pre code mask s) ↔ QueuesBounded s := by
  simp [doTraceArm]

@[simp] theorem queuesBounded_doTraceRead (c : Ctx) (offset : Nat) (n : Nat) (s : State) :
    QueuesBounded (doTraceRead c offset n s) ↔ QueuesBounded s := by
  simp [doTraceRead]

end Sys2Proof.Machine
end

section
/-! The bounds of the two queues through Machine/Protect: the protections and the watchdog (12). -/

namespace Sys2Proof.Machine

@[simp] theorem queuesBounded_retryOff (s : State) (n : Nat) : QueuesBounded (retryOff s n) ↔ QueuesBounded s := by
  simp [retryOff]

@[simp] theorem queuesBounded_safenHold (s : State) : QueuesBounded (safenHold s) ↔ QueuesBounded s := by
  delta safenHold
  extract_lets s1
  have h1 : QueuesBounded s1 ↔ QueuesBounded s := by simp [s1]
  clear_value s1
  simp [h1]

theorem keeps_execSafenLow (s : State) : Keeps s (execSafenLow s) := by
  delta execSafenLow
  refine (keeps_next _ _).2 fun h => ?_
  extract_lets s1
  have h1 : QueuesBounded s1 := by simp [s1, h]
  clear_value s1
  simp [h, h1]

theorem keeps_execSafenRelease (s : State) : Keeps s (execSafenRelease s) := by
  simp [execSafenRelease]

@[simp] theorem queuesBounded_swinOpen (n : Nat) (s : State) : QueuesBounded (swinOpen n s) ↔ QueuesBounded s := by
  delta swinOpen
  extract_lets s1 x
  have h1 : QueuesBounded s1 ↔ QueuesBounded s := by simp [s1]
  clear_value s1
  simp [h1]

theorem keeps_execProtPortOvervoltage (chan : Nat) (s : State) : Keeps s (execProtPortOvervoltage chan s) := by
  simp only [execProtPortOvervoltage, keeps_next]; (repeat' split) <;> simp

theorem keeps_execProtLinkOvervoltage (s : State) : Keeps s (execProtLinkOvervoltage s) := by
  delta execProtLinkOvervoltage
  refine (keeps_next _ _).2 fun h => ?_
  extract_lets s1 s2
  have h1 : QueuesBounded s1 := by simp [s1, h]
  clear_value s1
  have h2 : QueuesBounded s2 := by simp [s2, h1]
  clear_value s2
  simp [h, h2]

theorem keeps_execProtStageOvertemp (pin : Nat) (s : State) : Keeps s (execProtStageOvertemp pin s) := by
  simp [execProtStageOvertemp]

theorem keeps_execProtDieOvertemp (s : State) : Keeps s (execProtDieOvertemp s) := by
  simp [execProtDieOvertemp]

theorem keeps_execProtectHoldEnd (kind : Nat) (pin : Nat) (s : State) : Keeps s (execProtectHoldEnd kind pin s) := by
  simp [execProtectHoldEnd]

@[simp] theorem queuesBounded_pulseStart (s : State) : QueuesBounded (pulseStart s) ↔ QueuesBounded s := by
  simp [pulseStart]

@[simp] theorem queuesBounded_wdFault (cause : Nat) (el : Nat) (s : State) : QueuesBounded (wdFault cause el s) ↔ QueuesBounded s := by
  delta wdFault
  extract_lets s1 s2
  have h1 : QueuesBounded s1 ↔ QueuesBounded s := by simp [s1]
  clear_value s1
  have h2 : QueuesBounded s2 ↔ QueuesBounded s := by simp [s2, h1]
  clear_value s2
  simp [h2]

theorem keeps_execWdTimeout (s : State) : Keeps s (execWdTimeout s) := by
  simp [execWdTimeout]

@[simp] theorem queuesBounded_wdComplete (s : State) : QueuesBounded (wdComplete s) ↔ QueuesBounded s := by
  delta wdComplete
  extract_lets s1
  have h1 : QueuesBounded s1 ↔ QueuesBounded s := by simp [s1]
  clear_value s1
  simp [h1]

@[simp] theorem queuesBounded_wdBroken (key : Nat) (s : State) : QueuesBounded (wdBroken key s).1 ↔ QueuesBounded s := by
  simp [wdBroken]

@[simp] theorem queuesBounded_wdService (s : State) : QueuesBounded (wdService s).1 ↔ QueuesBounded s := by
  unfold wdService
  extract_lets f on el s1
  have h1 : QueuesBounded s1 ↔ QueuesBounded s := by unfold s1; split <;> simp
  clear_value s1 el
  split <;> simp [h1]

@[simp] theorem queuesBounded_wdKey (key : Nat) (s : State) : QueuesBounded (wdKey key s).1 ↔ QueuesBounded s := by
  unfold wdKey
  split
  · exact queuesBounded_modSafe _ _
  · split
    · exact queuesBounded_wdBroken _ _
    · split
      · exact Iff.rfl
      · exact queuesBounded_wdService s

@[simp] theorem queuesBounded_wdCheckin (task : Nat) (s : State) : QueuesBounded (wdCheckin task s).1 ↔ QueuesBounded s := by
  simp [wdCheckin]

@[simp] theorem queuesBounded_wdCount (s : State) (w : WdWait) : QueuesBounded (wdCount s w) ↔ QueuesBounded s := by
  unfold wdCount
  dsimp only
  cases w.checkin <;> cases w.owed <;> simp

@[simp] theorem queuesBounded_wdHand (w : WdWait) (s : State) : QueuesBounded (wdHand w s) ↔ QueuesBounded s := by
  simp [wdHand]

@[simp] theorem queuesBounded_doWdServe (c : Ctx) (key : Nat) (s : State) : QueuesBounded (doWdServe c key s) ↔ QueuesBounded s := by
  simp [doWdServe]

@[simp] theorem queuesBounded_doWdCheckin (c : Ctx) (task : Nat) (s : State) : QueuesBounded (doWdCheckin c task s) ↔ QueuesBounded s := by
  simp [doWdCheckin]

@[simp] theorem queuesBounded_wdLater (s : State) : QueuesBounded (wdLater s) ↔ QueuesBounded s := by
  simp [wdLater]

@[simp] theorem queuesBounded_wdFrame (s : State) : QueuesBounded (wdFrame s) ↔ QueuesBounded s := by
  simp [wdFrame]

@[simp] theorem queuesBounded_safetyS4 (safen : Bool) (s : State) : QueuesBounded (safetyS4 safen s) ↔ QueuesBounded s := by
  delta safetyS4
  extract_lets low lim s1 s2
  have h1 : QueuesBounded s1 ↔ QueuesBounded s := by simp [s1]
  clear_value s1
  have h2 : QueuesBounded s2 ↔ QueuesBounded s := by simp [s2, h1]
  clear_value s2
  simp [h2]

@[simp] theorem queuesBounded_enterSafe (s : State) : QueuesBounded (enterSafe s) ↔ QueuesBounded s := by
  simp [enterSafe]

@[simp] theorem queuesBounded_enterHalt (cause : Nat) (s : State) : QueuesBounded (enterHalt cause s) ↔ QueuesBounded s := by
  delta enterHalt
  extract_lets prev s1 s2 s3 s4 s5 s6
  have h1 : QueuesBounded s1 ↔ QueuesBounded s := by simp [s1]
  clear_value s1
  have h2 : QueuesBounded s2 ↔ QueuesBounded s := by simp [s2, h1]
  clear_value s2
  have h3 : QueuesBounded s3 ↔ QueuesBounded s := by simp [s3, h2]
  clear_value s3
  have h4 : QueuesBounded s4 ↔ QueuesBounded s := by simp [s4, h3]
  clear_value s4
  have h5 : QueuesBounded s5 ↔ QueuesBounded s := by simp [s5, h4]
  clear_value s5
  have h6 : QueuesBounded s6 ↔ QueuesBounded s := by simp [s6, h5]
  clear_value s6
  simp [h6]

@[simp] theorem queuesBounded_commitSafe (s : State) : QueuesBounded (commitSafe s) ↔ QueuesBounded s := by
  delta commitSafe
  extract_lets s1
  have h1 : QueuesBounded s1 ↔ QueuesBounded s := by simp [s1]
  clear_value s1
  simp [h1]

@[simp] theorem queuesBounded_commitState (s : State) : QueuesBounded (commitState s) ↔ QueuesBounded s := by
  unfold commitState; (repeat' split) <;> simp

end Sys2Proof.Machine
end

section
/-! The bounds of the two queues through Machine/Boot: resets, BOOT, MOORED and the clock (01, 12). -/

namespace Sys2Proof.Machine

@[simp] theorem queuesBounded_selvedgeLoad (s : State) (e : Nat × ParamDef) : QueuesBounded (selvedgeLoad s e) ↔ QueuesBounded s := by
  delta selvedgeLoad
  extract_lets d i ok x s1 v x'
  have h1 : QueuesBounded s1 ↔ QueuesBounded s := by simp [s1]
  clear_value s1
  simp [h1]

@[simp] theorem queuesBounded_loadConfig (stored : List (Nat × Word)) (s : State) : QueuesBounded (loadConfig stored s) ↔ QueuesBounded s := by
  delta loadConfig
  extract_lets x s1
  have h1 : QueuesBounded s1 ↔ QueuesBounded s := by simp [s1]
  clear_value s1
  simp [h1]

/-- A reset empties both queues; what it tells of a fallen level is bounded by the queue. -/
@[simp] theorem queuesBounded_resetTo (cause : Nat) (s : State) : QueuesBounded (resetTo cause s) := by
  unfold resetTo
  extract_lets s1 hard fell high d z
  have hz : QueuesBounded z := ⟨Nat.zero_le _, Nat.zero_le _⟩
  clear_value z
  split
  · exact hz
  · exact (queuesBounded_foldl (fun t a => by split <;> simp) _ _).2 hz

@[simp] theorem queuesBounded_allDown (s : State) : QueuesBounded (allDown s) ↔ QueuesBounded s := by
  simp [allDown]

@[simp] theorem queuesBounded_fwMarks (s : State) : QueuesBounded (fwMarks s) ↔ QueuesBounded s := by
  simp [fwMarks]

theorem keeps_execBootRom (s : State) : Keeps s (execBootRom s) := by
  unfold execBootRom
  extract_lets s1 i s2 copy s3 s4
  rw [keeps_next]
  intro h
  have h1 : QueuesBounded s1 := by
    unfold s1
    (repeat' split) <;> simp [h]
  have h4 : QueuesBounded s4 := by simp [s4, s3, s2, h1]
  clear_value s4
  split
  · split <;> simp [h4]
  · exact h1

@[simp] theorem queuesBounded_bootLedger (s : State) : QueuesBounded (bootLedger s) ↔ QueuesBounded s := by
  delta bootLedger
  extract_lets led s1
  have h1 : QueuesBounded s1 ↔ QueuesBounded s := by simp [s1]
  clear_value s1
  simp [h1]

@[simp] theorem queuesBounded_bootMap (s : State) : QueuesBounded (bootMap s) ↔ QueuesBounded s := by
  unfold bootMap; split <;> simp

theorem keeps_execBootComplete (s : State) : Keeps s (execBootComplete s) := by
  simp [execBootComplete]

theorem keeps_execPowerOnReset (s : State) : Keeps s (execPowerOnReset s) :=
  (keeps_next _ _).2 fun _ => queuesBounded_resetTo 1 s

@[simp] theorem queuesBounded_resetnAct (s : State) : QueuesBounded (resetnAct s) := by
  unfold resetnAct
  split <;> simp

theorem keeps_execResetnLow (s : State) : Keeps s (execResetnLow s) := by
  rw [execResetnLow, keeps_next]
  intro h
  (repeat' split) <;> simp [h]

theorem keeps_execResetnRise (s : State) : Keeps s (execResetnRise s) := by
  simp [execResetnRise]

theorem keeps_execMoorEnter (s : State) : Keeps s (execMoorEnter s) := by
  rw [execMoorEnter, keeps_next]
  intro h
  dsimp only
  split
  · exact ⟨Nat.zero_le _, Nat.zero_le _⟩
  · exact h

theorem keeps_execWakeFromMoored (s : State) : Keeps s (execWakeFromMoored s) := by
  rw [execWakeFromMoored, keeps_next]
  intro h
  split <;> simp [h]

@[simp] theorem queuesBounded_fwDrop (s : State) : QueuesBounded (fwDrop s) ↔ QueuesBounded s := by
  simp [fwDrop]

@[simp] theorem queuesBounded_coreRestart (s : State) : QueuesBounded (coreRestart s) ↔ QueuesBounded s := by
  delta coreRestart
  extract_lets run gone s1 s2 s3
  have h1 : QueuesBounded s1 ↔ QueuesBounded s := by simp [s1]
  clear_value s1
  have h2 : QueuesBounded s2 ↔ QueuesBounded s := by simp [s2, h1]
  clear_value s2
  have h3 : QueuesBounded s3 ↔ QueuesBounded s := by simp [s3, h2]
  clear_value s3
  simp [h3]

theorem keeps_execSupervisionWatchdogExpiry (s : State) : Keeps s (execSupervisionWatchdogExpiry s) := by
  rw [execSupervisionWatchdogExpiry, keeps_next]
  intro h
  dsimp only
  (repeat' split) <;> simp [h]

theorem keeps_execClockLoss (s : State) : Keeps s (execClockLoss s) := by
  simp [execClockLoss]

theorem keeps_execClockRecovered (s : State) : Keeps s (execClockRecovered s) := by
  rw [execClockRecovered, keeps_next]
  intro h
  split
  · exact h
  · extract_lets prev halt fr r body z z1 z2
    have hz : QueuesBounded z2 := by simp [z2, z1, z]
    exact (queuesBounded_raise _ _ _).2 hz

theorem keeps_execPowerFailTrip (s : State) : Keeps s (execPowerFailTrip s) := by
  delta execPowerFailTrip
  refine (keeps_next _ _).2 fun h => ?_
  extract_lets r body s1 s2 x
  have h1 : QueuesBounded s1 := by simp [s1, h]
  clear_value s1
  have h2 : QueuesBounded s2 := by simp [s2, h1]
  clear_value s2
  simp [h, h2]

theorem keeps_execPowerFailRecordDone (s : State) : Keeps s (execPowerFailRecordDone s) := by
  rw [execPowerFailRecordDone, keeps_next]
  intro h
  split
  · extract_lets low due s1 r s2
    have h2 : QueuesBounded s2 := by unfold s2; split <;> simp [s1, h]
    split <;> simp [h2]
  · exact h

theorem keeps_execPowerReturn (s : State) : Keeps s (execPowerReturn s) := by
  rw [execPowerReturn, keeps_next]
  intro h
  split
  · simp
  · exact h

end Sys2Proof.Machine
end

section
/-! The bounds of the two queues through Machine/Security: keys and firmware (14). -/

namespace Sys2Proof.Machine

@[simp] theorem queuesBounded_doAttest (c : Ctx) (nonce : List Byte) (kind : Nat) (s : State) :
    QueuesBounded (doAttest c nonce kind s) ↔ QueuesBounded s := by
  simp [doAttest]

theorem keeps_execAttestComplete (opnum : Nat) (s : State) : Keeps s (execAttestComplete opnum s) := by
  unfold execAttestComplete; split <;> simp

@[simp] theorem queuesBounded_doAuthChallenge (c : Ctx) (level : Nat) (s : State) : QueuesBounded (doAuthChallenge c level s) ↔ QueuesBounded s := by
  simp [doAuthChallenge]

@[simp] theorem queuesBounded_doAuthResponse (c : Ctx) (level : Nat) (keyslot : Nat) (sig : List Byte) (s : State) :
    QueuesBounded (doAuthResponse c level keyslot sig s) ↔ QueuesBounded s := by
  delta doAuthResponse
  extract_lets ch s1
  have h1 : QueuesBounded s1 ↔ QueuesBounded s := by simp [s1]
  clear_value s1
  simp [h1]

theorem keeps_execAuthResponseComplete (opnum : Nat) (s : State) : Keeps s (execAuthResponseComplete opnum s) := by
  unfold execAuthResponseComplete; split <;> simp

theorem keeps_execAuthLockoutEnd (tr : Transport) (s : State) : Keeps s (execAuthLockoutEnd tr s) := by
  unfold execAuthLockoutEnd; split <;> simp

@[simp] theorem queuesBounded_eraseSlot (t : Nat) (s : State) : QueuesBounded (eraseSlot t s) ↔ QueuesBounded s := by
  simp [eraseSlot]

@[simp] theorem queuesBounded_doFwBegin (c : Ctx) (size : Nat) (version : Nat) (s : State) :
    QueuesBounded (doFwBegin c size version s) ↔ QueuesBounded s := by
  delta doFwBegin
  extract_lets t s1 s2 s3 s4
  have h1 : QueuesBounded s1 ↔ QueuesBounded s := by simp [s1]
  clear_value s1
  have h2 : QueuesBounded s2 ↔ QueuesBounded s := by simp [s2, h1]
  clear_value s2
  have h3 : QueuesBounded s3 ↔ QueuesBounded s := by simp [s3, h2]
  clear_value s3
  have h4 : QueuesBounded s4 ↔ QueuesBounded s := by simp [s4, h3]
  clear_value s4
  simp [h4]

theorem keeps_execFwBeginComplete (opnum : Nat) (s : State) : Keeps s (execFwBeginComplete opnum s) := by
  unfold execFwBeginComplete; split <;> simp

@[simp] theorem queuesBounded_doFwChunk (c : Ctx) (off : Nat) (d : List Byte) (s : State) :
    QueuesBounded (doFwChunk c off d s) ↔ QueuesBounded s := by
  unfold doFwChunk; split <;> simp

theorem keeps_execFwChunkWritten (s : State) : Keeps s (execFwChunkWritten s) := by
  simp [execFwChunkWritten]

@[simp] theorem queuesBounded_doFwCommit (c : Ctx) (s : State) : QueuesBounded (doFwCommit c s) ↔ QueuesBounded s := by
  unfold doFwCommit; split <;> simp

theorem keeps_execFwCommitComplete (opnum : Nat) (flashOk : Bool) (s : State) : Keeps s (execFwCommitComplete opnum flashOk s) := by
  delta execFwCommitComplete
  refine (keeps_next _ _).2 fun h => ?_
  extract_lets s1
  have h1 : QueuesBounded s1 := by simp [s1, h]
  clear_value s1
  dsimp only; (repeat' split) <;> simp [h, h1]

theorem keeps_execFwSessionTimeout (s : State) : Keeps s (execFwSessionTimeout s) := by
  unfold execFwSessionTimeout; split <;> simp

theorem keeps_execKeyInstallWrite (ok : Bool) (s : State) : Keeps s (execKeyInstallWrite ok s) := by
  unfold execKeyInstallWrite; split <;> simp

end Sys2Proof.Machine
end

section
/-! The bounds of the two queues through Machine/Timers: the timer block (15). -/

namespace Sys2Proof.Machine

@[simp] theorem queuesBounded_sourceEvents (t : Nat) (n : Nat) (s : State) : QueuesBounded (sourceEvents t n s) ↔ QueuesBounded s := by
  simp [sourceEvents]

@[simp] theorem queuesBounded_pinsIn (levels : Nat) (s : State) : QueuesBounded (pinsIn levels s) ↔ QueuesBounded s := by
  simp [pinsIn]

theorem keeps_execTimerTick (t : Nat) (inp : TickIn) (s : State) : Keeps s (execTimerTick t inp s) := by
  simp [execTimerTick]

@[simp] theorem queuesBounded_frameTicks (s : State) : QueuesBounded (frameTicks s) ↔ QueuesBounded s := by
  simp [frameTicks]

@[simp] theorem queuesBounded_tmrAct (d : TmrDo) (k : Nat) (t : Nat) (s : State) : QueuesBounded (tmrAct d k t s) ↔ QueuesBounded s := by
  unfold tmrAct; split <;> simp

@[simp] theorem queuesBounded_tmrReach (d : TmrDo) (k : Nat) (t : Nat) (s : State) : QueuesBounded (tmrReach d k t s) ↔ QueuesBounded s := by
  simp [tmrReach]

@[simp] theorem queuesBounded_tmrStart (k : Nat) (t : Nat) (s : State) : QueuesBounded (tmrStart k t s) ↔ QueuesBounded s := by
  simp [tmrStart]

@[simp] theorem queuesBounded_tmrStop (k : Nat) (t : Nat) (s : State) : QueuesBounded (tmrStop k t s) ↔ QueuesBounded s := by
  simp [tmrStop]

@[simp] theorem queuesBounded_tmrReset (k : Nat) (t : Nat) (s : State) : QueuesBounded (tmrReset k t s) ↔ QueuesBounded s := by
  simp [tmrReset]

@[simp] theorem queuesBounded_tmrRelease (t : Nat) (s : State) : QueuesBounded (tmrRelease t s) ↔ QueuesBounded s := by
  simp [tmrRelease]

@[simp] theorem queuesBounded_tmrStartMask (mask : Nat) (s : State) : QueuesBounded (tmrStartMask mask s) ↔ QueuesBounded s := by
  simp [tmrStartMask]

@[simp] theorem queuesBounded_tmrStopMask (mask : Nat) (s : State) : QueuesBounded (tmrStopMask mask s) ↔ QueuesBounded s := by
  simp [tmrStopMask]

@[simp] theorem queuesBounded_tmrShadow (t : Nat) (k : Nat) (v : Nat) (s : State) : QueuesBounded (tmrShadow t k v s) ↔ QueuesBounded s := by
  simp [tmrShadow]

theorem keeps_execTmrNamedStart (s : State) : Keeps s (execTmrNamedStart s) := by
  unfold execTmrNamedStart; split <;> simp

@[simp] theorem queuesBounded_fifoPush (t : Nat) (e : Nat) (s : State) : QueuesBounded (fifoPush t e s) ↔ QueuesBounded s := by
  delta fifoPush
  extract_lets x s1
  have h1 : QueuesBounded s1 ↔ QueuesBounded s := by simp [s1]
  clear_value s1
  simp [h1]

@[simp] theorem queuesBounded_convAsk (t : Nat) (at_ : Nat) (s : State) : QueuesBounded (convAsk t at_ s) ↔ QueuesBounded s := by
  delta convAsk
  extract_lets s1 first
  have h1 : QueuesBounded s1 ↔ QueuesBounded s := by simp [s1]
  clear_value s1
  simp [h1]

@[simp] theorem queuesBounded_tmrEvent (t : Nat) (kind : Nat) (s : State) : QueuesBounded (tmrEvent t kind s) ↔ QueuesBounded s := by
  simp [tmrEvent]

@[simp] theorem queuesBounded_pinAct (t : Nat) (w : Nat) (tick : Nat) (s : State) : QueuesBounded (pinAct t w tick s) ↔ QueuesBounded s := by
  simp [pinAct]

@[simp] theorem queuesBounded_chainEvents (t : Nat) (k : Nat) (s : State) : QueuesBounded (chainEvents t k s) ↔ QueuesBounded s := by
  simp [chainEvents]

@[simp] theorem queuesBounded_runAction (t : Nat) (h : TmrHit) (w : Nat) (at_ : Nat) (s : State) :
    QueuesBounded (runAction t h w at_ s) ↔ QueuesBounded s := by
  delta runAction
  extract_lets kind k tg s1 s2 s3 s4 s5 s6
  have h1 : QueuesBounded s1 ↔ QueuesBounded s := by simp [s1]
  clear_value s1
  have h2 : QueuesBounded s2 ↔ QueuesBounded s := by simp [s2, h1]
  clear_value s2
  have h3 : QueuesBounded s3 ↔ QueuesBounded s := by simp [s3, h2]
  clear_value s3
  have h4 : QueuesBounded s4 ↔ QueuesBounded s := by simp [s4, h3]
  clear_value s4
  have h5 : QueuesBounded s5 ↔ QueuesBounded s := by simp [s5, h4]
  clear_value s5
  have h6 : QueuesBounded s6 ↔ QueuesBounded s := by simp [s6, h5]
  clear_value s6
  simp [h6]

@[simp] theorem queuesBounded_takeHit (t : Nat) (h : TmrHit) (w : Nat) (at_ : Nat) (s : State) :
    QueuesBounded (takeHit t h w at_ s) ↔ QueuesBounded s := by
  delta takeHit
  extract_lets s1
  have h1 : QueuesBounded s1 ↔ QueuesBounded s := by simp [s1]
  clear_value s1
  simp [h1]

theorem keeps_execTmrMatchA (t : Nat) (at_ : Nat) (s : State) : Keeps s (execTmrMatchA t at_ s) := by
  unfold execTmrMatchA; split <;> simp

theorem keeps_execTmrMatchB (t : Nat) (at_ : Nat) (s : State) : Keeps s (execTmrMatchB t at_ s) := by
  unfold execTmrMatchB; split <;> simp

theorem keeps_execTmrTurn (t : Nat) (at_ : Nat) (s : State) : Keeps s (execTmrTurn t at_ s) := by
  unfold execTmrTurn; split <;> simp

theorem keeps_execTmrCapture (t : Nat) (edge : EdgeIn) (s : State) : Keeps s (execTmrCapture t edge s) := by
  simp [execTmrCapture]

@[simp] theorem queuesBounded_convPlanned (s : State) : QueuesBounded (convPlanned s) ↔ QueuesBounded s := by
  simp [convPlanned]

theorem keeps_execTmrConvResult (t : Nat) (code : Nat) (cyc : Nat) (s : State) : Keeps s (execTmrConvResult t code cyc s) := by
  unfold execTmrConvResult; split <;> simp

theorem keeps_execTmrConvWithdrawn (t : Nat) (s : State) : Keeps s (execTmrConvWithdrawn t s) := by
  delta execTmrConvWithdrawn
  refine (keeps_next _ _).2 fun h => ?_
  extract_lets s1
  have h1 : QueuesBounded s1 := by simp [s1, h]
  clear_value s1
  simp [h, h1]

@[simp] theorem queuesBounded_fifoPop (t : Nat) (s : State) : QueuesBounded (fifoPop t s) ↔ QueuesBounded s := by
  simp [fifoPop]

theorem keeps_execDebuggerHalt (s : State) : Keeps s (execDebuggerHalt s) := by
  delta execDebuggerHalt
  refine (keeps_next _ _).2 fun h => ?_
  extract_lets s1
  have h1 : QueuesBounded s1 := by simp [s1, h]
  clear_value s1
  simp [h, h1]

theorem keeps_execDebuggerRelease (s : State) : Keeps s (execDebuggerRelease s) := by
  delta execDebuggerRelease
  refine (keeps_next _ _).2 fun h => ?_
  extract_lets s1
  have h1 : QueuesBounded s1 := by simp [s1, h]
  clear_value s1
  simp [h, h1]

end Sys2Proof.Machine
end

section
/-! The bounds of the two queues through Machine/Bank: stitches, live writes and launches at their frame (02, 03). -/

namespace Sys2Proof.Machine

@[simp] theorem queuesBounded_setFraming (old : Nat) (new : Nat) (keep : Option (Transport × Option Nat)) (s : State) :
    QueuesBounded (setFraming old new keep s) ↔ QueuesBounded s := by
  simp [setFraming]

@[simp] theorem queuesBounded_putInForce (old : State) (keep : Option (Transport × Option Nat)) (id : Nat) (v : Nat) (s : State) :
    QueuesBounded (putInForce old keep id v s) ↔ QueuesBounded s := by
  simp [putInForce]

@[simp] theorem queuesBounded_applyWords (keep : Option (Transport × Option Nat)) (es : List (Nat × Word)) (s : State) :
    QueuesBounded (applyWords keep es s) ↔ QueuesBounded s := by
  simp [applyWords]

@[simp] theorem queuesBounded_dropPhases (old : State) (s : State) : QueuesBounded (dropPhases old s) ↔ QueuesBounded s := by
  simp [dropPhases]

@[simp] theorem queuesBounded_afterConfig (old : State) (s : State) : QueuesBounded (afterConfig old s) ↔ QueuesBounded s := by
  delta afterConfig
  extract_lets s1
  have h1 : QueuesBounded s1 ↔ QueuesBounded s := by simp [s1]
  clear_value s1
  simp [h1]

@[simp] theorem queuesBounded_applyStitch (set : Nat) (eff : Nat) (launch : Bool) (es : List (Nat × Word)) (s : State) :
    QueuesBounded (applyStitch set eff launch es s) ↔ QueuesBounded s := by
  delta applyStitch
  extract_lets won s1 s2 s3 s4 s5
  clear_value s1
  have h2 : QueuesBounded s2 ↔ QueuesBounded s := by simp [s2]
  clear_value s2
  have h3 : QueuesBounded s3 ↔ QueuesBounded s := by simp [s3, h2]
  clear_value s3
  have h4 : QueuesBounded s4 ↔ QueuesBounded s := by simp [s4, h3]
  clear_value s4
  have h5 : QueuesBounded s5 ↔ QueuesBounded s := by simp [s5, h4]
  clear_value s5
  simp [h5]

@[simp] theorem queuesBounded_giveBack (x : Stitch) (s : State) : QueuesBounded (giveBack x s) ↔ QueuesBounded s := by
  simp [giveBack]

@[simp] theorem queuesBounded_atSwap {f : State → State} (hf : ∀ t, QueuesBounded (f t) ↔ QueuesBounded t) (s : State) :
    QueuesBounded (atSwap f s) ↔ QueuesBounded s := by
  simp [atSwap, hf]

theorem keeps_atSwap {f : State → State} (hf : ∀ t, QueuesBounded t → QueuesBounded (f t)) {s : State} (h : QueuesBounded s) :
    QueuesBounded (atSwap f s) := by
  rw [atSwap, queuesBounded_modFrm]
  exact hf _ ((queuesBounded_modFrm _ _).2 h)

@[simp] theorem queuesBounded_stitchReply (x : Stitch) (status : Nat) (ready : Nat) (pay : List Byte) (s : State) :
    QueuesBounded (stitchReply x status ready pay s) ↔ QueuesBounded s := by
  unfold stitchReply; split <;> simp

@[simp] theorem queuesBounded_checkStitch (x : Stitch) (rest : List Stitch) (s : State) : QueuesBounded (checkStitch x rest s) ↔ QueuesBounded s := by
  unfold checkStitch; split <;> simp

theorem keeps_execStitchCheck (set : Nat) (s : State) : Keeps s (execStitchCheck set s) := by
  unfold execStitchCheck; split <;> simp

theorem keeps_execStitchApplied (set : Nat) (s : State) : Keeps s (execStitchApplied set s) := by
  unfold execStitchApplied
  extract_lets due s1
  rw [keeps_next]
  intro h
  have h1 : QueuesBounded s1 := by unfold s1; split <;> simp [h]
  clear_value s1
  split
  · exact h
  · split
    · simp only [queuesBounded_stitchReply]
      exact (queuesBounded_atSwap (fun t => queuesBounded_applyStitch ..) _).2 h1
    · exact h1

theorem keeps_execLiveWriteEffect (s : State) : Keeps s (execLiveWriteEffect s) := by
  unfold execLiveWriteEffect
  extract_lets due
  rw [keeps_next]
  intro h
  split
  · exact h
  · refine (queuesBounded_foldl (fun t w => ?_) due _).2 h
    split
    · exact Iff.rfl
    · exact queuesBounded_atSwap (fun t => queuesBounded_applyWords ..) t

@[simp] theorem keeps_refuseLaunch (t : Tide) (id : Nat) {s : State} (h : QueuesBounded s) : QueuesBounded (refuseLaunch t id s) := by
  delta refuseLaunch
  extract_lets s1
  have h1 : QueuesBounded s1 := by simp [s1, h]
  clear_value s1
  simp [h1]

@[simp] theorem keeps_checkLaunch (t : Tide) {s : State} (h : QueuesBounded s) : QueuesBounded (checkLaunch t s) := by
  unfold checkLaunch; split <;> simp [h]

theorem keeps_execLaunchCheck (id : Nat) (s : State) : Keeps s (execLaunchCheck id s) := by
  simp only [execLaunchCheck, keeps_next]; intro h; split <;> simp [h]

theorem keeps_execLaunchStitch (id : Nat) (s : State) : Keeps s (execLaunchStitch id s) := by
  unfold execLaunchStitch
  rw [keeps_next]
  intro h
  split
  · next t _ =>
    split
    · exact h
    · extract_lets s1
      have h1 : QueuesBounded s1 := by
        unfold s1
        split
        · exact h
        · exact keeps_atSwap (fun t => keeps_checkLaunch _) h
      clear_value s1
      split
      · extract_lets es s2
        have h2 : QueuesBounded s2 := ⟨(List.length_filter_le _ _).trans h1.1, h1.2⟩
        exact (queuesBounded_atSwap (fun t => queuesBounded_applyStitch ..) _).2 h2
      · exact h1
  · exact h

@[simp] theorem queuesBounded_keepSnap (fr : Nat) (s : State) : QueuesBounded (keepSnap fr s) ↔ QueuesBounded s := by
  simp [keepSnap]

@[simp] theorem queuesBounded_ownSnap (s : State) : QueuesBounded (ownSnap s) ↔ QueuesBounded s := by
  unfold ownSnap; (repeat' split) <;> simp

theorem keeps_execLaunchSnapshot (id : Nat) (s : State) : Keeps s (execLaunchSnapshot id s) := by
  unfold execLaunchSnapshot
  rw [keeps_next]
  intro h
  split
  · split
    · extract_lets s1
      have h1 : QueuesBounded s1 := ⟨(List.length_filter_le _ _).trans h.1, h.2⟩
      clear_value s1
      rw [queuesBounded_ownSnap]
      split
      · exact (queuesBounded_withNewImage (fun t => queuesBounded_keepSnap ..) s1).2 h1
      · exact (queuesBounded_keepSnap _ _).2 h1
    · exact h
  · exact h

@[simp] theorem queuesBounded_alterationsDue (s : State) : QueuesBounded (alterationsDue s) ↔ QueuesBounded s := by
  simp [alterationsDue]

@[simp] theorem queuesBounded_factoryConfig (s : State) : QueuesBounded (factoryConfig s) ↔ QueuesBounded s := by
  simp [factoryConfig]

@[simp] theorem queuesBounded_restoreTaken (s : State) : QueuesBounded (restoreTaken s) ↔ QueuesBounded s := by
  delta restoreTaken
  extract_lets s1 s2 x s3 s4 s5 x' s6 s7 x'' s8
  clear_value s1
  have h2 : QueuesBounded s2 ↔ QueuesBounded s := by simp [s2]
  clear_value s2
  have h3 : QueuesBounded s3 ↔ QueuesBounded s := by simp [s3, h2]
  clear_value s3
  have h4 : QueuesBounded s4 ↔ QueuesBounded s := by simp [s4, h3]
  clear_value s4
  have h5 : QueuesBounded s5 ↔ QueuesBounded s := by simp [s5, h4]
  clear_value s5
  have h6 : QueuesBounded s6 ↔ QueuesBounded s := by simp [s6, h5]
  clear_value s6
  have h7 : QueuesBounded s7 ↔ QueuesBounded s := by simp [s7, h6]
  clear_value s7
  have h8 : QueuesBounded s8 ↔ QueuesBounded s := by simp [s8, h7]
  clear_value s8
  simp [h8]

@[simp] theorem queuesBounded_restoreDue (s : State) : QueuesBounded (restoreDue s) ↔ QueuesBounded s := by
  delta restoreDue
  extract_lets s1
  have h1 : QueuesBounded s1 ↔ QueuesBounded s := by unfold s1; split <;> simp
  clear_value s1
  split <;> simp [h1]

theorem keeps_execConfigFlashWrite (s : State) : Keeps s (execConfigFlashWrite s) := by
  simp [execConfigFlashWrite]

end Sys2Proof.Machine
end

section
/-! The bounds of the two queues through Machine/Partner: the messages of a partner port (09). -/

namespace Sys2Proof.Machine

@[simp] theorem queuesBounded_grantItem (g : Nat × Nat) (s : State) : QueuesBounded (grantItem g s) ↔ QueuesBounded s := by
  unfold grantItem; split <;> simp

@[simp] theorem queuesBounded_schedS4 (s : State) : QueuesBounded (schedS4 s) ↔ QueuesBounded s := by
  unfold schedS4; dsimp only; split <;> simp

@[simp] theorem queuesBounded_portPower (p : Nat) (cause : Nat) (s : State) : QueuesBounded (portPower p cause s) ↔ QueuesBounded s := by
  simp [portPower]

@[simp] theorem queuesBounded_portDetachAs (p : Nat) (cause : Nat) (s : State) : QueuesBounded (portDetachAs p cause s) ↔ QueuesBounded s := by
  delta portDetachAs
  extract_lets s1 s2
  have h1 : QueuesBounded s1 ↔ QueuesBounded s := by simp [s1]
  clear_value s1
  have h2 : QueuesBounded s2 ↔ QueuesBounded s := by simp [s2, h1]
  clear_value s2
  simp [h2]

@[simp] theorem queuesBounded_putMarker (p : Nat) (s : State) : QueuesBounded (putMarker p s) ↔ QueuesBounded s := by
  simp [putMarker]

@[simp] theorem queuesBounded_hardResetAs (p : Nat) (cause : Nat) (why : Nat) (s : State) :
    QueuesBounded (hardResetAs p cause why s) ↔ QueuesBounded s := by
  delta hardResetAs
  extract_lets v s1 s2 s3 s4 s5
  have h1 : QueuesBounded s1 ↔ QueuesBounded s := by simp [s1]
  clear_value s1
  have h2 : QueuesBounded s2 ↔ QueuesBounded s := by simp [s2, h1]
  clear_value s2
  have h3 : QueuesBounded s3 ↔ QueuesBounded s := by simp [s3, h2]
  clear_value s3
  have h4 : QueuesBounded s4 ↔ QueuesBounded s := by simp [s4, h3]
  clear_value s4
  have h5 : QueuesBounded s5 ↔ QueuesBounded s := by simp [s5, h4]
  clear_value s5
  split <;> simp [h5]

@[simp] theorem queuesBounded_hardReset (p : Nat) (cause : Nat) (s : State) : QueuesBounded (hardReset p cause s) ↔ QueuesBounded s := by
  simp [hardReset]

@[simp] theorem queuesBounded_softOrHard (p : Nat) (cause : Nat) (s : State) : QueuesBounded (softOrHard p cause s) ↔ QueuesBounded s := by
  simp [softOrHard]

@[simp] theorem queuesBounded_versionStep (p : Nat) (s : State) : QueuesBounded (versionStep p s) ↔ QueuesBounded s := by
  delta versionStep
  extract_lets t v s1
  have h1 : QueuesBounded s1 ↔ QueuesBounded s := by simp [s1]
  clear_value s1
  simp [h1]

@[simp] theorem queuesBounded_enterContract (p : Nat) (s : State) : QueuesBounded (enterContract p s) ↔ QueuesBounded s := by
  delta enterContract
  extract_lets t c first s1 s2 s3 s4
  have h1 : QueuesBounded s1 ↔ QueuesBounded s := by simp [s1]
  clear_value s1
  have h2 : QueuesBounded s2 ↔ QueuesBounded s := by simp [s2, h1]
  clear_value s2
  have h3 : QueuesBounded s3 ↔ QueuesBounded s := by simp [s3, h2]
  clear_value s3
  have h4 : QueuesBounded s4 ↔ QueuesBounded s := by simp [s4, h3]
  clear_value s4
  simp [h4]

@[simp] theorem queuesBounded_renegotiate (p : Nat) (cause : Nat) (s : State) : QueuesBounded (renegotiate p cause s) ↔ QueuesBounded s := by
  simp [renegotiate]

@[simp] theorem queuesBounded_sendRequest (p : Nat) (s : State) : QueuesBounded (sendRequest p s) ↔ QueuesBounded s := by
  unfold sendRequest; split <;> simp

@[simp] theorem queuesBounded_sendPackRequest (p : Nat) (c : PkCaps) (s : State) : QueuesBounded (sendPackRequest p c s) ↔ QueuesBounded s := by
  delta sendPackRequest
  extract_lets beyond null lim ic id_ vx vn per s1
  have h1 : QueuesBounded s1 ↔ QueuesBounded s := by simp [s1]
  clear_value s1
  simp [h1]

@[simp] theorem queuesBounded_frameDiscarded (p : Nat) (s : State) : QueuesBounded (frameDiscarded p s) ↔ QueuesBounded s := by
  simp [frameDiscarded]

@[simp] theorem queuesBounded_receive {act : State → State} (ha : ∀ t, QueuesBounded (act t) ↔ QueuesBounded t)
    (p typ id len minVer : Nat) (judge : State → Option Nat) (s : State) :
    QueuesBounded (receive p typ id len minVer judge act s) ↔ QueuesBounded s := by
  have hgo : ∀ t u, QueuesBounded (receive.go p typ id minVer judge act t u) ↔ QueuesBounded u := by
    intro t u
    unfold receive.go
    split
    · rfl
    · dsimp only
      split <;> simp [ha]
  unfold receive
  extract_lets t s1
  have h1 : QueuesBounded s1 ↔ QueuesBounded s := queuesBounded_modPort ..
  clear_value s1
  (repeat' split) <;> simp [hgo, h1]

@[simp] theorem queuesBounded_portWires (p : Nat) (s : State) : QueuesBounded (portWires p s) ↔ QueuesBounded s := by
  unfold portWires; dsimp only; (repeat' split) <;> simp

@[simp] theorem queuesBounded_tellCaps (p : Nat) (s : State) : QueuesBounded (tellCaps p s) ↔ QueuesBounded s := by
  unfold tellCaps; split <;> simp

@[simp] theorem queuesBounded_ctlMoved (p : Nat) (saw : Ctl) (s : State) : QueuesBounded (ctlMoved p saw s) ↔ QueuesBounded s := by
  unfold ctlMoved; split <;> simp

@[simp] theorem queuesBounded_swapTaken (p : Nat) (s : State) : QueuesBounded (swapTaken p s) ↔ QueuesBounded s := by
  delta swapTaken
  extract_lets t s1
  have h1 : QueuesBounded s1 ↔ QueuesBounded s := by simp [s1]
  clear_value s1
  simp [h1]

@[simp] theorem queuesBounded_portS4 (p : Nat) (c : CfgIn) (s : State) : QueuesBounded (portS4 p c s) ↔ QueuesBounded s := by
  delta portS4
  extract_lets w t old begins s1 s2 s3 s4 s5 s6 t' moved nChanged s7 t'' s8
  have h1 : QueuesBounded s1 ↔ QueuesBounded s := by simp [s1]
  clear_value s1
  have h2 : QueuesBounded s2 ↔ QueuesBounded s := by simp [s2, h1]
  clear_value s2
  have h3 : QueuesBounded s3 ↔ QueuesBounded s := by simp [s3, h2]
  clear_value s3
  have h4 : QueuesBounded s4 ↔ QueuesBounded s := by simp [s4, h3]
  clear_value s4
  have h5 : QueuesBounded s5 ↔ QueuesBounded s := by simp [s5, h4]
  clear_value s5
  have h6 : QueuesBounded s6 ↔ QueuesBounded s := by simp [s6, h5]
  clear_value s6
  have h7 : QueuesBounded s7 ↔ QueuesBounded s := by simp [s7, h6]
  clear_value s7
  have h8 : QueuesBounded s8 ↔ QueuesBounded s := by simp [s8, h7]
  clear_value s8
  (repeat' split) <;> simp [h2, h8]

theorem keeps_execPortAttach (p : Nat) (s : State) : Keeps s (execPortAttach p s) := by
  simp only [execPortAttach, keeps_next]; (repeat' split) <;> simp

@[simp] theorem queuesBounded_plugDone (p : Nat) (code : Nat) (s : State) : QueuesBounded (plugDone p code s) ↔ QueuesBounded s := by
  delta plugDone
  extract_lets s1 t s2 s3
  have h1 : QueuesBounded s1 ↔ QueuesBounded s := by simp [s1]
  clear_value s1
  have h2 : QueuesBounded s2 ↔ QueuesBounded s := by simp [s2, h1]
  clear_value s2
  have h3 : QueuesBounded s3 ↔ QueuesBounded s := by simp [s3, h2]
  clear_value s3
  simp [h2, h3]

theorem keeps_execPlugMeasurementDone (p : Nat) (level : Nat) (s : State) : Keeps s (execPlugMeasurementDone p level s) := by
  unfold execPlugMeasurementDone; split <;> simp

theorem keeps_execPortDetach (p : Nat) (s : State) : Keeps s (execPortDetach p s) := by
  simp [execPortDetach]

theorem keeps_execDualRoleToggle (p : Nat) (s : State) : Keeps s (execDualRoleToggle p s) := by
  simp [execDualRoleToggle]

theorem keeps_execHardResetMarker (p : Nat) (s : State) : Keeps s (execHardResetMarker p s) := by
  simp only [execHardResetMarker, keeps_next]; (repeat' split) <;> simp

theorem keeps_execPartnerFrameDiscarded (p : Nat) (s : State) : Keeps s (execPartnerFrameDiscarded p s) := by
  simp [execPartnerFrameDiscarded]

@[simp] theorem queuesBounded_startSwap (p : Nat) (s : State) : QueuesBounded (startSwap p s) ↔ QueuesBounded s := by
  delta startSwap
  extract_lets t s1 s2
  have h1 : QueuesBounded s1 ↔ QueuesBounded s := by simp [s1]
  clear_value s1
  have h2 : QueuesBounded s2 ↔ QueuesBounded s := by unfold s2; split <;> simp [h1]
  clear_value s2
  simp [h2]

@[simp] theorem queuesBounded_swapAnswer (p : Nat) (res : Nat) (s : State) : QueuesBounded (swapAnswer p res s) ↔ QueuesBounded s := by
  unfold swapAnswer; split <;> simp

@[simp] theorem queuesBounded_settled (p : Nat) (m : PMsg) (res : Nat) (s : State) : QueuesBounded (settled p m res s) ↔ QueuesBounded s := by
  delta settled
  extract_lets t s1
  have h1 : QueuesBounded s1 ↔ QueuesBounded s := by simp [s1]
  clear_value s1
  split <;> simp [h1]

theorem keeps_execPlehalAck (p : Nat) (pl : List Byte) (s : State) : Keeps s (execPlehalAck p pl s) := by
  simp only [execPlehalAck, keeps_next]; (repeat' split) <;> simp

theorem keeps_execPlehalResponseTimeout (p : Nat) (s : State) : Keeps s (execPlehalResponseTimeout p s) := by
  delta execPlehalResponseTimeout
  refine (keeps_next _ _).2 fun h => ?_
  extract_lets s1
  have h1 : QueuesBounded s1 := by simp [s1, h]
  clear_value s1
  split <;> simp [h, h1]

theorem keeps_execPlehalTxRetry (p : Nat) (s : State) : Keeps s (execPlehalTxRetry p s) := by
  unfold execPlehalTxRetry; split <;> simp

theorem keeps_execPlehalSoftReset (p id : Nat) (s : State) : Keeps s (execPlehalSoftReset p id s) := by
  simp only [execPlehalSoftReset, keeps_next]
  refine (queuesBounded_receive (fun t => ?_) ..).2
  split <;> simp

theorem keeps_execPlehalPing (p id : Nat) (s : State) : Keeps s (execPlehalPing p id s) := by
  simp only [execPlehalPing, keeps_next]
  refine (queuesBounded_receive (fun t => ?_) ..).2
  simp

theorem keeps_execPlehalHello (p id : Nat) (pl : List Byte) (s : State) : Keeps s (execPlehalHello p id pl s) := by
  simp only [execPlehalHello, keeps_next]
  refine (queuesBounded_receive (fun t => ?_) ..).2
  (repeat' split) <;> simp

theorem keeps_execPlehalAlert (p id : Nat) (pl : List Byte) (s : State) : Keeps s (execPlehalAlert p id pl s) := by
  simp only [execPlehalAlert, keeps_next]
  refine (queuesBounded_receive (fun t => ?_) ..).2
  (repeat' split) <;> simp

theorem keeps_execPlehalCaps (p id : Nat) (pl : List Byte) (s : State) : Keeps s (execPlehalCaps p id pl s) := by
  simp only [execPlehalCaps, keeps_next]
  refine (queuesBounded_receive (fun t => ?_) ..).2
  simp

theorem keeps_execPlehalGetCaps (p id : Nat) (s : State) : Keeps s (execPlehalGetCaps p id s) := by
  simp only [execPlehalGetCaps, keeps_next]
  refine (queuesBounded_receive (fun t => ?_) ..).2
  (repeat' split) <;> simp

theorem keeps_execPlehalRequest (p id : Nat) (pl : List Byte) (s : State) : Keeps s (execPlehalRequest p id pl s) := by
  simp only [execPlehalRequest, keeps_next]
  refine (queuesBounded_receive (fun t => ?_) ..).2
  (repeat' split) <;> simp

theorem keeps_execPlehalReady (p id : Nat) (pl : List Byte) (s : State) : Keeps s (execPlehalReady p id pl s) := by
  simp only [execPlehalReady, keeps_next]
  refine (queuesBounded_receive (fun t => ?_) ..).2
  (repeat' split) <;> simp

theorem keeps_execPlehalPackCaps (p id : Nat) (pl : List Byte) (s : State) : Keeps s (execPlehalPackCaps p id pl s) := by
  simp only [execPlehalPackCaps, keeps_next]
  refine (queuesBounded_receive (fun t => ?_) ..).2
  simp

theorem keeps_execPlehalPackStatus (p id : Nat) (pl : List Byte) (s : State) : Keeps s (execPlehalPackStatus p id pl s) := by
  simp only [execPlehalPackStatus, keeps_next]
  refine (queuesBounded_receive (fun t => ?_) ..).2
  (repeat' split) <;> simp

theorem keeps_execPlehalRoleSwap (p id : Nat) (s : State) : Keeps s (execPlehalRoleSwap p id s) := by
  rw [execPlehalRoleSwap, keeps_next]
  intro h
  dsimp only
  split
  · exact (queuesBounded_portNext _ _).2 ((queuesBounded_receive (fun t => queuesBounded_startSwap ..) ..).2 ((queuesBounded_modPort ..).2 h))
  · exact (queuesBounded_receive (fun t => queuesBounded_startSwap ..) ..).2 h

theorem keeps_execPlehalSwapOff (p id : Nat) (s : State) : Keeps s (execPlehalSwapOff p id s) := by
  simp only [execPlehalSwapOff, keeps_next]
  refine (queuesBounded_receive (fun t => ?_) ..).2
  simp

theorem keeps_execPlehalAuthCertGet (p id : Nat) (pl : List Byte) (s : State) : Keeps s (execPlehalAuthCertGet p id pl s) := by
  simp only [execPlehalAuthCertGet, keeps_next]
  refine (queuesBounded_receive (fun t => ?_) ..).2
  simp

theorem keeps_execPlehalAuthCert (p id : Nat) (pl : List Byte) (s : State) : Keeps s (execPlehalAuthCert p id pl s) := by
  simp only [execPlehalAuthCert, keeps_next]
  refine (queuesBounded_receive (fun t => ?_) ..).2
  (repeat' split) <;> simp

theorem keeps_execPlehalAuthChallenge (p id : Nat) (pl : List Byte) (s : State) : Keeps s (execPlehalAuthChallenge p id pl s) := by
  simp only [execPlehalAuthChallenge, keeps_next]
  refine (queuesBounded_receive (fun t => ?_) ..).2
  simp

theorem keeps_execPlehalAuthSign (p id : Nat) (pl : List Byte) (s : State) : Keeps s (execPlehalAuthSign p id pl s) := by
  simp only [execPlehalAuthSign, keeps_next]
  refine (queuesBounded_receive (fun t => ?_) ..).2
  (repeat' split) <;> simp

theorem keeps_execPlehalUnknownMessage (p typ : Nat) (msg : MsgIn) (s : State) : Keeps s (execPlehalUnknownMessage p typ msg s) := by
  simp only [execPlehalUnknownMessage, keeps_next]
  exact (queuesBounded_receive (fun t => Iff.rfl) ..).2

theorem keeps_execHelloWaitTimeout (p : Nat) (s : State) : Keeps s (execHelloWaitTimeout p s) := by
  simp [execHelloWaitTimeout]

theorem keeps_execProviderVoltageSettled (p : Nat) (s : State) : Keeps s (execProviderVoltageSettled p s) := by
  simp [execProviderVoltageSettled]

theorem keeps_execTakerPortSettled (p : Nat) (s : State) : Keeps s (execTakerPortSettled p s) := by
  simp [execTakerPortSettled]

theorem keeps_execPortVoltageLost (p : Nat) (s : State) : Keeps s (execPortVoltageLost p s) := by
  simp [execPortVoltageLost]

theorem keeps_execNegotiationTimeout (p : Nat) (s : State) : Keeps s (execNegotiationTimeout p s) := by
  simp [execNegotiationTimeout]

theorem keeps_execKeepalivePing (p : Nat) (s : State) : Keeps s (execKeepalivePing p s) := by
  simp [execKeepalivePing]

theorem keeps_execPackStatusLate (p : Nat) (s : State) : Keeps s (execPackStatusLate p s) := by
  unfold execPackStatusLate; dsimp only; split <;> simp

theorem keeps_execPackStatusLost (p : Nat) (s : State) : Keeps s (execPackStatusLost p s) := by
  unfold execPackStatusLost; dsimp only; split <;> simp

theorem keeps_execSwapPortDischarged (p : Nat) (s : State) : Keeps s (execSwapPortDischarged p s) := by
  simp [execSwapPortDischarged]

theorem keeps_execSwapTimeout (p : Nat) (s : State) : Keeps s (execSwapTimeout p s) := by
  simp [execSwapTimeout]

theorem keeps_execSwapWaitRetry (p : Nat) (s : State) : Keeps s (execSwapWaitRetry p s) := by
  unfold execSwapWaitRetry; dsimp only; split <;> simp

theorem keeps_execHardResetSpacing (p : Nat) (s : State) : Keeps s (execHardResetSpacing p s) := by
  simp [execHardResetSpacing]

theorem keeps_execSafe0End (p : Nat) (s : State) : Keeps s (execSafe0End p s) := by
  simp [execSafe0End]

theorem keeps_execPartnerAuthTimeout (p : Nat) (s : State) : Keeps s (execPartnerAuthTimeout p s) := by
  unfold execPartnerAuthTimeout; split <;> simp

@[simp] theorem queuesBounded_portCmdStart (p : Nat) (act : Nat) (op : Nat) (s : State) :
    QueuesBounded (portCmdStart p act op s) ↔ QueuesBounded s := by
  delta portCmdStart
  extract_lets s1 t s2
  have h1 : QueuesBounded s1 ↔ QueuesBounded s := by simp [s1]
  clear_value s1
  have h2 : QueuesBounded s2 ↔ QueuesBounded s := by simp [s2, h1]
  clear_value s2
  split <;> simp [h1, h2]

theorem keeps_execPortCmdComplete (opnum : Nat) (s : State) : Keeps s (execPortCmdComplete opnum s) := by
  simp only [execPortCmdComplete, keeps_next]; (repeat' split) <;> simp

end Sys2Proof.Machine
end

section
/-! The bounds of the two queues through Machine/Frame: the frame and its jobs (04). -/

namespace Sys2Proof.Machine

@[simp] theorem queuesBounded_linkBeat (was : State) (s : State) : QueuesBounded (linkBeat was s) ↔ QueuesBounded s := by
  simp [linkBeat]

@[simp] theorem queuesBounded_jobStep (inp : FrameIn) (was : State) (j : Nat) (k : Nat) (s : State) :
    QueuesBounded (jobStep inp was j k s) ↔ QueuesBounded s := by
  unfold jobStep; split <;> simp

@[simp] theorem queuesBounded_runBeats (inp : FrameIn) (s : State) : QueuesBounded (runBeats inp s) ↔ QueuesBounded s := by
  unfold runBeats
  refine queuesBounded_foldl (fun was b => queuesBounded_foldl (fun t i => ?_) _ _) _ _
  dsimp only
  (repeat' split) <;> simp

@[simp] theorem queuesBounded_seqStep (s : State) : QueuesBounded (seqStep s) ↔ QueuesBounded s := by
  simp [seqStep]

@[simp] theorem queuesBounded_nextFrame (s : State) : QueuesBounded (nextFrame s) ↔ QueuesBounded s := by
  delta nextFrame
  extract_lets d mv f n s1 link
  have h1 : QueuesBounded s1 ↔ QueuesBounded s := by simp [s1]
  clear_value s1
  simp [h1]

@[simp] theorem queuesBounded_slotsStart (inp : FrameIn) (s : State) : QueuesBounded (slotsStart inp s) ↔ QueuesBounded s := by
  simp [slotsStart]

@[simp] theorem queuesBounded_spoilWindows (s : State) : QueuesBounded (spoilWindows s) ↔ QueuesBounded s := by
  simp [spoilWindows]

@[simp] theorem queuesBounded_dutyMeans (s : State) : QueuesBounded (dutyMeans s) ↔ QueuesBounded s := by
  delta dutyMeans
  extract_lets s1
  have h1 : QueuesBounded s1 ↔ QueuesBounded s := by simp [s1]
  clear_value s1
  simp [h1]

@[simp] theorem queuesBounded_limitsWere (s : State) : QueuesBounded (limitsWere s) ↔ QueuesBounded s := by
  simp [limitsWere]

@[simp] theorem queuesBounded_publish (s : State) : QueuesBounded (publish s) ↔ QueuesBounded s := by
  simp [publish]

@[simp] theorem queuesBounded_phaseDue (s : State) (x : Nat) : QueuesBounded (phaseDue s x) ↔ QueuesBounded s := by
  delta phaseDue
  extract_lets s1 s2 s3
  have h1 : QueuesBounded s1 ↔ QueuesBounded s := by unfold s1; split <;> simp
  clear_value s1
  have h2 : QueuesBounded s2 ↔ QueuesBounded s := by simp [s2, h1]
  clear_value s2
  have h3 : QueuesBounded s3 ↔ QueuesBounded s := by simp [s3, h2]
  clear_value s3
  split <;> simp [h1, h2, h3]

@[simp] theorem queuesBounded_clearSent (s : State) : QueuesBounded (clearSent s) ↔ QueuesBounded s := by
  simp [clearSent]

theorem keeps_execFrameStart (inp : FrameIn) (s : State) : Keeps s (execFrameStart inp s) := by
  rw [execFrameStart, keeps_next]
  intro h
  split
  · exact h
  · split
    · exact queuesBounded_resetTo _ _
    · extract_lets s1 s2 s3 s4 s5 x s6 s7 x' s8
      have h2 : QueuesBounded s2 := by simp [s2, s1, h]
      clear_value s2
      have h4 : QueuesBounded s4 := by simp [s4, s3, h2]
      clear_value s4
      simp [s8, s7, s6, s5, h4]

@[simp] theorem queuesBounded_countCut (j : Nat) (s : State) : QueuesBounded (countCut j s) ↔ QueuesBounded s := by
  unfold countCut; dsimp only; split <;> simp

theorem keeps_execStepCutOff (j : Nat) (stage : Nat) (s : State) : Keeps s (execStepCutOff j stage s) := by
  simp [execStepCutOff]

@[simp] theorem keeps_recoverJob (j : Nat) {s : State} (h : QueuesBounded s) : QueuesBounded (recoverJob j s) := by
  simp [recoverJob, h]

theorem keeps_execJobRecovery (j : Nat) (s : State) : Keeps s (execJobRecovery j s) := by
  simp only [execJobRecovery, keeps_next]; intro h; split <;> simp [h]

@[simp] theorem keeps_sealFrame {s : State} (h : QueuesBounded s) : QueuesBounded (sealFrame s) := by
  unfold sealFrame
  dsimp only
  rw [queuesBounded_modFrm]
  refine QueuesBounded.foldl (fun t j ht => ?_) _ h
  split <;> simp [ht]

@[simp] theorem queuesBounded_failedLow (s : State) (n : Nat) : QueuesBounded (failedLow s n) ↔ QueuesBounded s := by
  simp [failedLow]

@[simp] theorem queuesBounded_transfer (s : State) : QueuesBounded (transfer s) ↔ QueuesBounded s := by
  delta transfer
  extract_lets i s1 s2 s3
  have h1 : QueuesBounded s1 ↔ QueuesBounded s := by simp [s1]
  clear_value s1
  have h2 : QueuesBounded s2 ↔ QueuesBounded s := by simp [s2, h1]
  clear_value s2
  have h3 : QueuesBounded s3 ↔ QueuesBounded s := by simp [s3, h2]
  clear_value s3
  simp [h3]

@[simp] theorem queuesBounded_latchLane (s : State) (n : Nat) : QueuesBounded (latchLane s n) ↔ QueuesBounded s := by
  simp [latchLane]

@[simp] theorem queuesBounded_guard_ (s : State) : QueuesBounded (guard_ s) ↔ QueuesBounded s := by
  delta guard_
  extract_lets s1
  have h1 : QueuesBounded s1 ↔ QueuesBounded s := by simp [s1]
  clear_value s1
  simp [h1]

theorem keeps_execCommitPoint (s : State) : Keeps s (execCommitPoint s) := by
  rw [execCommitPoint, keeps_next]
  intro h
  split
  · exact h
  · extract_lets s1 s2 s3 s4
    have h2 : QueuesBounded s2 := (queuesBounded_foldl (fun t n => queuesBounded_failedLow ..) _ _).2 (by simp [s1, keeps_sealFrame h])
    clear_value s2
    have h3 : QueuesBounded s3 := by unfold s3; split <;> simp [h2]
    clear_value s3
    simp [s4, h3]

theorem keeps_execDisciplineLimit (s : State) : Keeps s (execDisciplineLimit s) := by
  simp [execDisciplineLimit]

end Sys2Proof.Machine
end

section
/-! The bounds of the two queues through Machine/HostOps: what the host commands do (02). -/

namespace Sys2Proof.Machine

@[simp] theorem queuesBounded_doHello (c : Ctx) (lo : Nat) (hi : Nat) (s : State) : QueuesBounded (doHello c lo hi s) ↔ QueuesBounded s := by
  delta doHello
  extract_lets top v s1
  have h1 : QueuesBounded s1 ↔ QueuesBounded s := by simp [s1]
  clear_value s1
  simp [h1]

@[simp] theorem queuesBounded_doGetInfo (c : Ctx) (s : State) : QueuesBounded (doGetInfo c s) ↔ QueuesBounded s := by
  simp [doGetInfo]

@[simp] theorem queuesBounded_readOne (tr : Transport) (id : Nat) (s : State) : QueuesBounded (readOne tr id s).2 ↔ QueuesBounded s := by
  unfold readOne; dsimp only; (repeat' split) <;> simp

@[simp] theorem queuesBounded_readSeq (tr : Transport) (ids : List Nat) (s : State) : QueuesBounded (readSeq tr ids s).2 ↔ QueuesBounded s := by
  induction ids generalizing s with
  | nil => exact Iff.rfl
  | cons id l ih => exact (ih _).trans (queuesBounded_readOne tr id s)

@[simp] theorem queuesBounded_readReply (c : Ctx) (ids : List Nat) (s : State) : QueuesBounded (readReply c ids s) ↔ QueuesBounded s := by
  simp [readReply]

@[simp] theorem queuesBounded_freshStart (c : Ctx) (ids : List Nat) (chans : List Nat) (s : State) :
    QueuesBounded (freshStart c ids chans s) ↔ QueuesBounded s := by
  delta freshStart
  extract_lets prec first who s1
  have h1 : QueuesBounded s1 ↔ QueuesBounded s := by simp [s1]
  clear_value s1
  simp [h1]

@[simp] theorem queuesBounded_doParamRead (c : Ctx) (flags : Nat) (ids : List Nat) (s : State) :
    QueuesBounded (doParamRead c flags ids s) ↔ QueuesBounded s := by
  unfold doParamRead; (repeat' split) <;> simp

@[simp] theorem queuesBounded_freshGone (f : Fresh) (s : State) : QueuesBounded (freshGone f s) ↔ QueuesBounded s := by
  delta freshGone
  extract_lets s1
  have h1 : QueuesBounded s1 ↔ QueuesBounded s := by simp [s1]
  clear_value s1
  simp [h1]

theorem keeps_execFreshReadReply (tag : Nat) (s : State) : Keeps s (execFreshReadReply tag s) := by
  rw [execFreshReadReply, keeps_next]
  split
  · split
    · rw [queuesBounded_flushInner, queuesBounded_withNewImage (fun t => queuesBounded_readReply ..), queuesBounded_freshGone]
      exact id
    · exact id
  · exact id

theorem keeps_execFreshReadDeferred (tag : Nat) (s : State) : Keeps s (execFreshReadDeferred tag s) := by
  unfold execFreshReadDeferred; split <;> simp

@[simp] theorem queuesBounded_doParamReadBlock (c : Ctx) (first : Nat) (n : Nat) (source : Nat) (s : State) :
    QueuesBounded (doParamReadBlock c first n source s) ↔ QueuesBounded s := by
  simp [doParamReadBlock]

@[simp] theorem queuesBounded_modSet (s : State) (n : Nat) (f : StageSet → StageSet) : QueuesBounded (State.modSet s n f) ↔ QueuesBounded s := by
  simp [State.modSet]

@[simp] theorem queuesBounded_doBaste (c : Ctx) (set : Nat) (es : List Entry) (s : State) : QueuesBounded (doBaste c set es s) ↔ QueuesBounded s := by
  unfold doBaste; (repeat' split) <;> simp

@[simp] theorem queuesBounded_stitchNow (c : Ctx) (set : Nat) (es : List (Nat × Word)) (v1 : Bool) (s : State) :
    QueuesBounded (stitchNow c set es v1 s) ↔ QueuesBounded s := by
  simp [stitchNow]

@[simp] theorem queuesBounded_doStitch (c : Ctx) (set : Nat) (frame : Nat) (s : State) :
    QueuesBounded (doStitch c set frame s) ↔ QueuesBounded s := by
  unfold doStitch; dsimp only; (repeat' split) <;> simp

@[simp] theorem queuesBounded_doUnpick (c : Ctx) (set : Nat) (s : State) : QueuesBounded (doUnpick c set s) ↔ QueuesBounded s := by
  unfold doUnpick; (repeat' split) <;> simp

@[simp] theorem queuesBounded_addLocal (action flags arg frame : Nat) (s : State) (hroom : s.host.tide.length < 16) :
    QueuesBounded (addLocal action flags arg frame s).2 ↔ QueuesBounded s := by
  rw [addLocal, queuesBounded_modHost, List.length_append, List.length_singleton]
  exact and_congr_left fun _ => by omega

@[simp] theorem queuesBounded_launchLocal (c : Ctx) (action flags arg frame : Nat) (s : State) :
    QueuesBounded (launchLocal c action flags arg frame s) ↔ QueuesBounded s := by
  unfold launchLocal
  extract_lets go
  have hgo : QueuesBounded (go s) ↔ QueuesBounded s := by
    unfold go
    split
    · simp
    · split
      · simp
      · next hroom => exact (queuesBounded_okReply ..).trans (queuesBounded_addLocal _ _ _ _ s (by omega))
  clear_value go
  (repeat' split) <;> simp [hgo]

@[simp] theorem queuesBounded_fleetLid (s : State) : QueuesBounded (fleetLid s).2 ↔ QueuesBounded s := queuesBounded_modFleet s _

theorem keeps_sendLaunch (action flags arg frame : Nat) {s : State} (h : QueuesBounded s) :
    QueuesBounded (sendLaunch action flags arg frame s).2 := by
  unfold sendLaunch
  dsimp only
  exact keeps_originate (fun _ => (queuesBounded_takeLaunch _ _).2) ((queuesBounded_fleetLid s).2 h) ..

@[simp] theorem keeps_launchFleet (c : Ctx) (action flags arg frame : Nat) {s : State} (h : QueuesBounded s) :
    QueuesBounded (launchFleet c action flags arg frame s) := by
  unfold launchFleet
  (repeat' split) <;> simp [h, keeps_sendLaunch]

@[simp] theorem queuesBounded_doStitchLaunch (c : Ctx) (set flags frame : Nat) (s : State) :
    QueuesBounded (doStitchLaunch c set flags frame s) ↔ QueuesBounded s := by
  unfold doStitchLaunch
  (repeat' split) <;> simp

@[simp] theorem keeps_doLaunchAt (c : Ctx) (action scope flags arg frame : Nat) {s : State} (h : QueuesBounded s) :
    QueuesBounded (doLaunchAt c action scope flags arg frame s) := by
  unfold doLaunchAt
  split_ifs <;> simp [h]

@[simp] theorem keeps_sendCancel (lid : Nat) {s : State} (h : QueuesBounded s) : QueuesBounded (sendCancel lid s) := by
  unfold sendCancel
  split
  · simp [h]
  · exact keeps_originate (fun _ ht => by simp [ht]) h ..

@[simp] theorem keeps_doLaunchCancel (c : Ctx) (lid : Nat) {s : State} (h : QueuesBounded s) : QueuesBounded (doLaunchCancel c lid s) := by
  unfold doLaunchCancel
  dsimp only
  (repeat' split) <;> simp [h]

@[simp] theorem queuesBounded_doTideRead (c : Ctx) (s : State) : QueuesBounded (doTideRead c s) ↔ QueuesBounded s := by
  simp [doTideRead]

@[simp] theorem queuesBounded_liveNow (c : Ctx) (ws : List (Nat × Word)) (s : State) : QueuesBounded (liveNow c ws s) ↔ QueuesBounded s := by
  simp [liveNow]

@[simp] theorem queuesBounded_doWriteLive (c : Ctx) (es : List Entry) (s : State) : QueuesBounded (doWriteLive c es s) ↔ QueuesBounded s := by
  unfold doWriteLive; (repeat' split) <;> simp

@[simp] theorem queuesBounded_doV1Read (c : Ctx) (num : Nat) (s : State) : QueuesBounded (doV1Read c num s) ↔ QueuesBounded s := by
  unfold doV1Read; (repeat' split) <;> simp

@[simp] theorem queuesBounded_v1Staged (c : Ctx) (e : List Entry) (s : State) : QueuesBounded (v1Staged c e s) ↔ QueuesBounded s := by
  unfold v1Staged; dsimp only; (repeat' split) <;> simp

@[simp] theorem queuesBounded_doV1Write (c : Ctx) (num : Nat) (val : Nat) (s : State) : QueuesBounded (doV1Write c num val s) ↔ QueuesBounded s := by
  unfold doV1Write; (repeat' split) <;> simp

@[simp] theorem queuesBounded_doEventRead (c : Ctx) (max : Nat) (s : State) : QueuesBounded (doEventRead c max s) ↔ QueuesBounded s := by
  simp [doEventRead]

/-- EVENTS_LOST is not one of the ordinary entries (R74). -/
@[simp] theorem queuesBounded_tellLost (s : State) : QueuesBounded (tellLost s) ↔ QueuesBounded s := by
  unfold tellLost
  split
  · rfl
  · rw [queuesBounded_modHost, ordinary_append]
    exact Iff.rfl

@[simp] theorem keeps_doEventAck (c : Ctx) (seq : Nat) {s : State} (h : QueuesBounded s) : QueuesBounded (doEventAck c seq s) := by
  unfold doEventAck
  split
  · simp [h]
  · simp only [queuesBounded_okReply, queuesBounded_tellLost, queuesBounded_modHost]
    exact ⟨h.1, (ordinary_drop_le _ _).trans h.2⟩

@[simp] theorem queuesBounded_putSnap (g : SnapRun) (s : State) : QueuesBounded (putSnap g s) ↔ QueuesBounded s := by
  simp [putSnap]

@[simp] theorem queuesBounded_fetchSnap (c : Ctx) (g : SnapRun) (off : Nat) (s : State) : QueuesBounded (fetchSnap c g off s) ↔ QueuesBounded s := by
  simp [fetchSnap]

@[simp] theorem queuesBounded_doFetch (c : Ctx) (num : Nat) (off : Nat) (s : State) : QueuesBounded (doFetch c num off s) ↔ QueuesBounded s := by
  unfold doFetch; (repeat' split) <;> simp

theorem keeps_execResultExpiry (opnum : Nat) (s : State) : Keeps s (execResultExpiry opnum s) := by
  unfold execResultExpiry; split <;> simp

@[simp] theorem queuesBounded_doCalRead (c : Ctx) (chan : Nat) (layer : Nat) (s : State) :
    QueuesBounded (doCalRead c chan layer s) ↔ QueuesBounded s := by
  simp [doCalRead]

@[simp] theorem queuesBounded_doCalAlter (c : Ctx) (chan : Nat) (b : List Byte) (s : State) :
    QueuesBounded (doCalAlter c chan b s) ↔ QueuesBounded s := by
  simp [doCalAlter]

@[simp] theorem queuesBounded_doCalSelvedge (c : Ctx) (r : List Byte) (s : State) : QueuesBounded (doCalSelvedge c r s) ↔ QueuesBounded s := by
  simp [doCalSelvedge]

theorem keeps_execCalAlterComplete (opnum : Nat) (ok : Bool) (s : State) : Keeps s (execCalAlterComplete opnum ok s) := by
  unfold execCalAlterComplete; split <;> simp

@[simp] theorem queuesBounded_doCalMeasure (c : Ctx) (chan : Nat) (log2n : Nat) (s : State) :
    QueuesBounded (doCalMeasure c chan log2n s) ↔ QueuesBounded s := by
  delta doCalMeasure
  extract_lets num s1
  have h1 : QueuesBounded s1 ↔ QueuesBounded s := by simp [s1]
  clear_value s1
  simp [h1]

theorem keeps_execCalMeasureComplete (opnum : Nat) (codes : List ℤ) (s : State) : Keeps s (execCalMeasureComplete opnum codes s) := by
  unfold execCalMeasureComplete; split <;> simp

@[simp] theorem keeps_cancelAll {s : State} (h : QueuesBounded s) : QueuesBounded (cancelAll s) :=
  QueuesBounded.foldl (fun _ _ ht => by (repeat' split) <;> simp [ht]) _ h

@[simp] theorem keeps_restoreClear {s : State} (h : QueuesBounded s) : QueuesBounded (restoreClear s) := by
  simp [restoreClear, h]

@[simp] theorem keeps_doRestoreFactory (c : Ctx) (confirm : Nat) {s : State} (h : QueuesBounded s) :
    QueuesBounded (doRestoreFactory c confirm s) := by
  simp [doRestoreFactory, h]

theorem keeps_execCoreRestarted (s : State) : Keeps s (execCoreRestarted s) := by
  delta execCoreRestarted
  refine (keeps_next _ _).2 fun h => ?_
  extract_lets e s1 s2 s3
  have h1 : QueuesBounded s1 := by simp [s1, h]
  clear_value s1
  have h2 : QueuesBounded s2 := by simp [s2, h1]
  clear_value s2
  have h3 : QueuesBounded s3 := by simp [s3, h2]
  clear_value s3
  simp [h, h3]

theorem keeps_execRestoreFactoryComplete (opnum : Nat) (s : State) : Keeps s (execRestoreFactoryComplete opnum s) := by
  delta execRestoreFactoryComplete
  refine (keeps_next _ _).2 fun h => ?_
  extract_lets n s1
  have h1 : QueuesBounded s1 := by simp [s1, h]
  clear_value s1
  split <;> simp [h, h1]

@[simp] theorem queuesBounded_doPhReinstate (c : Ctx) (x : Nat) (s : State) : QueuesBounded (doPhReinstate c x s) ↔ QueuesBounded s := by
  simp [doPhReinstate]

@[simp] theorem queuesBounded_doLedgerRead (c : Ctx) (x : Nat) (s : State) : QueuesBounded (doLedgerRead c x s) ↔ QueuesBounded s := by
  simp [doLedgerRead]

@[simp] theorem queuesBounded_doLedgerClearWorn (c : Ctx) (x : Nat) (s : State) : QueuesBounded (doLedgerClearWorn c x s) ↔ QueuesBounded s := by
  delta doLedgerClearWorn
  extract_lets s1
  have h1 : QueuesBounded s1 ↔ QueuesBounded s := by simp [s1]
  clear_value s1
  simp [h1]

@[simp] theorem queuesBounded_doPortCmd (c : Ctx) (p : Nat) (act : Nat) (arg : Nat) (s : State) :
    QueuesBounded (doPortCmd c p act arg s) ↔ QueuesBounded s := by
  simp [doPortCmd]

@[simp] theorem queuesBounded_doMoor (c : Ctx) (confirm : Nat) (s : State) : QueuesBounded (doMoor c confirm s) ↔ QueuesBounded s := by
  simp [doMoor]

@[simp] theorem queuesBounded_doResetDevice (c : Ctx) (confirm : Nat) (s : State) : QueuesBounded (doResetDevice c confirm s) ↔ QueuesBounded s := by
  simp [doResetDevice]

@[simp] theorem queuesBounded_doFleetBarrier (c : Ctx) (b : Nat) (timeout : Nat) (s : State) :
    QueuesBounded (doFleetBarrier c b timeout s) ↔ QueuesBounded s := by
  delta doFleetBarrier
  extract_lets num s1
  have h1 : QueuesBounded s1 ↔ QueuesBounded s := by simp [s1]
  clear_value s1
  simp [h1]

/-- A gathering that begins moves the fleet job alone (R396). -/
theorem gather_fleet (num fr : Nat) (s : State) : ∃ f, gather num fr s = { s with jobs := { s.jobs with fleet := f } } := by
  have own (t : State) : ∃ f, ownSnap t = t.modFleet f := by
    unfold ownSnap
    split
    · split
      · exact snapAdd_fleet ..
      · exact ⟨id, rfl⟩
    · exact ⟨id, rfl⟩
  unfold gather
  dsimp only
  generalize hg : State.modFleet s _ = u
  obtain ⟨f, e⟩ := own u
  rw [e, ← hg]
  exact ⟨_, rfl⟩

@[simp] theorem queuesBounded_gather (num fr : Nat) (s : State) : QueuesBounded (gather num fr s) ↔ QueuesBounded s := by
  obtain ⟨f, e⟩ := gather_fleet num fr s
  rw [e, queuesBounded_sameHost]

@[simp] theorem keeps_doFleetSnapshot (c : Ctx) (frame scope : Nat) {s : State} (h : QueuesBounded s) :
    QueuesBounded (doFleetSnapshot c frame scope s) := by
  unfold doFleetSnapshot
  extract_lets fr lead have_ num s1
  have h1 : QueuesBounded s1 := by simp [s1, h]
  have htide : s1.host.tide = s.host.tide := by
    obtain ⟨f, e⟩ := gather_fleet num fr (s.startOp c 0 [scope] [])
    unfold s1
    rw [e]
    exact startOp_tide ..
  have hsend (t : State) (ht : QueuesBounded t) : QueuesBounded (originate Eli.SNAP_REQ (leBytes 8 fr) (fun t => t) t) :=
    keeps_originate (fun _ => id) ht ..
  have hlocal (hr : ¬ 16 ≤ s.host.tide.length) : QueuesBounded (addLocal 1 0 0 fr s1).2 :=
    (queuesBounded_addLocal _ _ _ _ s1 (by rw [htide]; omega)).2 h1
  clear_value s1
  split_ifs <;> simp [keeps_sendLaunch, *]

theorem keeps_execSimpleOpAbandon (tag : Nat) (s : State) : Keeps s (execSimpleOpAbandon tag s) := by
  simp only [execSimpleOpAbandon, keeps_next]; (repeat' split) <;> simp

theorem keeps_execReplyDiscard (tag : Nat) (s : State) : Keeps s (execReplyDiscard tag s) :=
  (keeps_next _ _).2 (QueuesBounded.foldl (fun _ _ ht => by split <;> simp [ht]) _)

theorem keeps_execPrivIdleTimeout (tr : Transport) (s : State) : Keeps s (execPrivIdleTimeout tr s) := by
  simp [execPrivIdleTimeout]

end Sys2Proof.Machine
end

section
/-! The bounds of the two queues through the command core, the transports and the dispatch (02). -/

namespace Sys2Proof.Machine

@[simp] theorem queuesBounded_refuseEarly (s : State) (tr : Transport) (tag : Option Nat) (status detail : Nat) :
    QueuesBounded (s.refuseEarly tr tag status detail) ↔ QueuesBounded s := queuesBounded_pushReply ..

@[simp] theorem queuesBounded_dropPacket (tr : Transport) (s : State) : QueuesBounded (dropPacket tr s) ↔ QueuesBounded s := by
  unfold dropPacket; split <;> simp

/-- The body of a command keeps the bounds. -/
def Cmd.KeepsBounds (k : Cmd) : Prop := ∀ c s, QueuesBounded s → QueuesBounded (k.body c s)

theorem Cmd.KeepsBounds.of_iff {k : Cmd} (h : ∀ c s, QueuesBounded (k.body c s) ↔ QueuesBounded s) : k.KeepsBounds := fun c s => (h c s).2

@[simp] theorem keepsBounds_at (k : Cmd) (n : Nat) (ok : Bool) : (k.at_ n ok).KeepsBounds ↔ k.KeepsBounds := Iff.rfl
@[simp] theorem keepsBounds_sized (k : Cmd) (n : Nat) : (k.sized n).KeepsBounds ↔ k.KeepsBounds := Iff.rfl

theorem keeps_runCmd {k : Option Cmd} (hk : ∀ x ∈ k, x.KeepsBounds) (c : Ctx) (len : Nat) {s : State} (h : QueuesBounded s) :
    QueuesBounded (runCmd c k len s) := by
  unfold runCmd
  dsimp only
  cases k with
  | none => simp [h]
  | some k =>
    have := hk k rfl c s h
    dsimp only
    split_ifs <;> simp [h, this]

theorem keeps_arrive {k : Option Cmd} (hk : ∀ x ∈ k, x.KeepsBounds) (tr : Transport) (tag : Option Nat) (cyc opc len : Nat) {s : State}
    (h : QueuesBounded s) : QueuesBounded (arrive tr tag cyc opc len k s) := by
  unfold arrive
  split
  · simp [h]
  · exact keeps_runCmd hk _ _ (by simp [h])

/-- A command of a host keeps the bounds where its body does. -/
theorem keeps_hostCmd {k : Cmd} (hk : k.KeepsBounds) (h : Hdr) (s : State) : Keeps s (hostCmd h k s) := by
  rw [hostCmd, keeps_next]
  intro hs
  dsimp only
  split
  · simp [hs]
  · split
    · simp [hs]
    · exact keeps_arrive (fun x hx => by cases hx; exact hk) _ _ _ _ _ hs

theorem keeps_packetIn {parse : Bool → Nat → List Byte → Option Cmd} (hp : ∀ v opc p, ∀ k ∈ parse v opc p, k.KeepsBounds) (tr : Transport)
    (bs : List Byte) (cyc : Nat) {s : State} (h : QueuesBounded s) : QueuesBounded (packetIn parse tr bs cyc s) := by
  unfold packetIn
  extract_lets v1 hd len tag crc
  clear_value v1 tag crc
  split_ifs <;> simp [h, keeps_arrive (hp _ _ _)]

/-! The commands of R77. -/

@[simp] theorem keepsBounds_hello {lo hi : Nat} : (cmdHello lo hi).KeepsBounds := .of_iff fun c s => queuesBounded_doHello c lo hi s
@[simp] theorem keepsBounds_getInfo : cmdGetInfo.KeepsBounds := .of_iff queuesBounded_doGetInfo
@[simp] theorem keepsBounds_paramRead {flags : Nat} {ids : List Nat} : (cmdParamRead flags ids).KeepsBounds := .of_iff fun c s => by
  unfold cmdParamRead; dsimp only; split <;> simp
@[simp] theorem keepsBounds_baste {set : Nat} {es : List Entry} : (cmdBaste set es).KeepsBounds := .of_iff fun c s => queuesBounded_doBaste c set es s
@[simp] theorem keepsBounds_stitch {set frame : Nat} : (cmdStitch set frame).KeepsBounds := .of_iff fun c s => queuesBounded_doStitch c set frame s
@[simp] theorem keepsBounds_stitchLaunch {set flags frame : Nat} : (cmdStitchLaunch set flags frame).KeepsBounds :=
  .of_iff fun c s => queuesBounded_doStitchLaunch c set flags frame s
@[simp] theorem keepsBounds_unpick {set : Nat} : (cmdUnpick set).KeepsBounds := .of_iff fun c s => queuesBounded_doUnpick c set s
@[simp] theorem keepsBounds_readBlock {first n source : Nat} : (cmdReadBlock first n source).KeepsBounds :=
  .of_iff fun c s => queuesBounded_doParamReadBlock c first n source s
@[simp] theorem keepsBounds_writeLive {es : List Entry} : (cmdWriteLive es).KeepsBounds := .of_iff fun c s => by
  unfold cmdWriteLive; dsimp only; (repeat' split) <;> simp
@[simp] theorem keepsBounds_live {es : List Entry} : (cmdLive es).KeepsBounds := .of_iff fun c s => queuesBounded_doWriteLive c es s
@[simp] theorem keepsBounds_read {ids : List Nat} : (cmdRead ids).KeepsBounds := .of_iff fun c s => queuesBounded_doParamRead c 0 ids s
@[simp] theorem keepsBounds_launchAt {action scope flags arg frame : Nat} : (cmdLaunchAt action scope flags arg frame).KeepsBounds :=
  fun c _ => keeps_doLaunchAt c action scope flags arg frame
@[simp] theorem keepsBounds_launchCancel {lid : Nat} : (cmdLaunchCancel lid).KeepsBounds := fun c _ => keeps_doLaunchCancel c lid
@[simp] theorem keepsBounds_tideRead : cmdTideRead.KeepsBounds := .of_iff queuesBounded_doTideRead
@[simp] theorem keepsBounds_wdServe {key : Nat} : (cmdWdServe key).KeepsBounds := .of_iff fun c s => queuesBounded_doWdServe c key s
@[simp] theorem keepsBounds_wdCheckin {task : Nat} : (cmdWdCheckin task).KeepsBounds := .of_iff fun c s => queuesBounded_doWdCheckin c task s
@[simp] theorem keepsBounds_eventRead {max : Nat} : (cmdEventRead max).KeepsBounds := .of_iff fun c s => queuesBounded_doEventRead c max s
@[simp] theorem keepsBounds_eventAck {seq : Nat} : (cmdEventAck seq).KeepsBounds := fun c _ => keeps_doEventAck c seq
@[simp] theorem keepsBounds_calRead {chan layer : Nat} :
    (cmdCalRead chan layer).KeepsBounds := .of_iff fun c s => queuesBounded_doCalRead c chan layer s
@[simp] theorem keepsBounds_calAlter {chan : Nat} {b : List Byte} : (cmdCalAlter chan b).KeepsBounds := by
  unfold cmdCalAlter
  split
  · exact .of_iff fun c s => queuesBounded_doCalSelvedge c b s
  · exact .of_iff fun c s => queuesBounded_doCalAlter c chan b s
@[simp] theorem keepsBounds_calMeasure {chan log2n : Nat} : (cmdCalMeasure chan log2n).KeepsBounds :=
  .of_iff fun c s => queuesBounded_doCalMeasure c chan log2n s
@[simp] theorem keepsBounds_restoreFactory {confirm : Nat} : (cmdRestoreFactory confirm).KeepsBounds := fun c _ => keeps_doRestoreFactory c confirm
@[simp] theorem keepsBounds_recRead {index : Nat} : (cmdRecRead index).KeepsBounds := .of_iff fun c s => queuesBounded_doRecRead c index s
@[simp] theorem keepsBounds_telRead {chan window flags : Nat} : (cmdTelRead chan window flags).KeepsBounds :=
  .of_iff fun c s => queuesBounded_doTelRead c chan window flags s
@[simp] theorem keepsBounds_traceArm {trig pre code mask : Nat} : (cmdTraceArm trig pre code mask).KeepsBounds :=
  .of_iff fun c s => queuesBounded_doTraceArm c trig pre code mask s
@[simp] theorem keepsBounds_traceRead {offset n : Nat} :
    (cmdTraceRead offset n).KeepsBounds := .of_iff fun c s => queuesBounded_doTraceRead c offset n s
@[simp] theorem keepsBounds_attest {nonce : List Byte} {kind : Nat} : (cmdAttest nonce kind).KeepsBounds :=
  .of_iff fun c s => queuesBounded_doAttest c nonce kind s
@[simp] theorem keepsBounds_authChallenge {level : Nat} : (cmdAuthChallenge level).KeepsBounds :=
  .of_iff fun c s => queuesBounded_doAuthChallenge c level s
@[simp] theorem keepsBounds_authResponse {level keyslot : Nat} {sig : List Byte} : (cmdAuthResponse level keyslot sig).KeepsBounds :=
  .of_iff fun c s => queuesBounded_doAuthResponse c level keyslot sig s
@[simp] theorem keepsBounds_fwBegin {size version : Nat} : (cmdFwBegin size version).KeepsBounds :=
  .of_iff fun c s => queuesBounded_doFwBegin c size version s
@[simp] theorem keepsBounds_fwChunk {offset : Nat} {d : List Byte} : (cmdFwChunk offset d).KeepsBounds :=
  .of_iff fun c s => queuesBounded_doFwChunk c offset d s
@[simp] theorem keepsBounds_fwCommit : cmdFwCommit.KeepsBounds := .of_iff queuesBounded_doFwCommit
@[simp] theorem keepsBounds_phReinstate {x : Nat} : (cmdPhReinstate x).KeepsBounds := .of_iff fun c s => queuesBounded_doPhReinstate c x s
@[simp] theorem keepsBounds_ledgerRead {x : Nat} : (cmdLedgerRead x).KeepsBounds := .of_iff fun c s => queuesBounded_doLedgerRead c x s
@[simp] theorem keepsBounds_ledgerClearWorn {x : Nat} : (cmdLedgerClearWorn x).KeepsBounds :=
  .of_iff fun c s => queuesBounded_doLedgerClearWorn c x s
@[simp] theorem keepsBounds_portCmd {p act arg : Nat} : (cmdPortCmd p act arg).KeepsBounds := .of_iff fun c s => queuesBounded_doPortCmd c p act arg s
@[simp] theorem keepsBounds_moor {confirm : Nat} : (cmdMoor confirm).KeepsBounds := .of_iff fun c s => queuesBounded_doMoor c confirm s
@[simp] theorem keepsBounds_resetDevice {confirm : Nat} : (cmdResetDevice confirm).KeepsBounds :=
  .of_iff fun c s => queuesBounded_doResetDevice c confirm s
@[simp] theorem keepsBounds_fetch {opc ver priv num offset : Nat} : (cmdFetch opc ver priv num offset).KeepsBounds :=
  .of_iff fun c s => queuesBounded_doFetch c num offset s
@[simp] theorem keepsBounds_fleetBarrier {b timeout : Nat} : (cmdFleetBarrier b timeout).KeepsBounds :=
  .of_iff fun c s => queuesBounded_doFleetBarrier c b timeout s
@[simp] theorem keepsBounds_fleetSnapshot {frame scope : Nat} : (cmdFleetSnapshot frame scope).KeepsBounds :=
  fun c _ => keeps_doFleetSnapshot c frame scope

theorem keepsBounds_parseV1 (opc : Nat) (p : List Byte) : ∀ k ∈ parseV1 opc p, k.KeepsBounds := by
  unfold parseV1
  split_ifs <;> simp

theorem keepsBounds_parseCore (v1 : Bool) (opc : Nat) (p : List Byte) : ∀ k ∈ parseCore v1 opc p, k.KeepsBounds := by
  have hrefuse (f : Ctx → State → State) (hf : ∀ c s, QueuesBounded (f c s) ↔ QueuesBounded s) (o v q n : Nat) :
    (fixed o v q n f).KeepsBounds := .of_iff hf
  unfold parseCore
  extract_lets n fetch
  split
  · next k hk =>
    intro x hx
    cases hx
    split at hk
    · exact keepsBounds_parseV1 opc p k hk
    · cases hk
  · (repeat' split) <;> simp [hrefuse]

/-! Packets of other units, and the transports. -/

theorem keeps_innerRun (origin opid priv : Nat) (bcast : Bool) (pkt : List Byte) (cyc : Nat) {s : State} (h : QueuesBounded s) :
    QueuesBounded (innerRun origin opid priv bcast pkt cyc s) := by
  unfold innerRun
  split
  · exact h
  · rw [queuesBounded_flushInner]
    exact keeps_packetIn keepsBounds_parseCore _ _ _ (by simp [h])

theorem keeps_cmdRun (pl : List Byte) (bcast : Bool) {s : State} (h : QueuesBounded s) : QueuesBounded (cmdRun pl bcast s) :=
  keeps_innerRun _ _ _ _ _ _ h

theorem keeps_doFleetCmd (c : Ctx) (target : Nat) (inner : List Byte) {s : State} (h : QueuesBounded s) :
    QueuesBounded (doFleetCmd c target inner s) := by
  unfold doFleetCmd
  extract_lets opid pay s1
  have h1 : QueuesBounded s1 := by simp [s1, h]
  have hreset (t : State) (ht : QueuesBounded t) : QueuesBounded (originate Eli.RESET [] (fun s => s.modCtl fun k => { k with resetReq := some 4 }) t) :=
    keeps_originate (fun _ => (queuesBounded_modCtl _ _).2) ht ..
  have hcmd (t : State) (ht : QueuesBounded t) : QueuesBounded (originate Eli.CMD pay (cmdRun pay true) t) :=
    keeps_originate (fun _ => keeps_cmdRun _ _) ht ..
  clear_value s1
  split_ifs <;> simp [h, h1, hreset, hcmd, keeps_cmdRun]

@[simp] theorem keepsBounds_fleetCmd {target : Nat} {inner : List Byte} : (cmdFleetCmd target inner).KeepsBounds :=
  fun c _ => keeps_doFleetCmd c target inner

theorem keepsBounds_parseCmd (v1 : Bool) (opc : Nat) (p : List Byte) : ∀ k ∈ parseCmd v1 opc p, k.KeepsBounds := by
  unfold parseCmd
  extract_lets n fetch
  split
  · split_ifs <;> simp
  · split_ifs <;> simp
  · simp
  · exact keepsBounds_parseCore v1 opc p

theorem keepsBounds_fetchCmd {opc num offset : Nat} : (fetchCmd opc num offset).KeepsBounds := by
  unfold fetchCmd
  split
  · next k hk => exact keepsBounds_parseCmd _ _ _ k hk
  · exact .of_iff fun c s => queuesBounded_refuse ..

@[simp] theorem queuesBounded_clockOut (tr : Transport) (n : Nat) (s : State) : QueuesBounded (clockOut tr n s) ↔ QueuesBounded s := by
  unfold clockOut
  dsimp only
  (repeat' split) <;> simp

@[simp] theorem queuesBounded_dropPartial (s : State) : QueuesBounded (dropPartial s) ↔ QueuesBounded s := queuesBounded_modHost ..

theorem keeps_segmentIn (kind seq : Nat) (d : List Byte) (cyc : Nat) {s : State} (h : QueuesBounded s) :
    QueuesBounded (segmentIn kind seq d cyc s) := by
  unfold segmentIn
  dsimp only
  have hp (t : State) (ht : QueuesBounded t) (bs : List Byte) : QueuesBounded (packetIn parseCmd .can bs cyc t) :=
    keeps_packetIn keepsBounds_parseCmd _ _ _ ht
  (repeat' split) <;> simp [h, hp]

theorem keeps_execSpiWriteTransaction (bytes : List Byte) (cyc : Nat) (s : State) : Keeps s (execSpiWriteTransaction bytes cyc s) :=
  (keeps_next _ _).2 fun h => (queuesBounded_modLink ..).2 (keeps_packetIn keepsBounds_parseCmd _ _ _ h)

theorem keeps_execSpiReadTransaction (n : Nat) (s : State) : Keeps s (execSpiReadTransaction n s) := by
  rw [execSpiReadTransaction, keeps_next]
  split <;> simp

theorem keeps_execI2cReadTransfer (n : Nat) (s : State) : Keeps s (execI2cReadTransfer n s) := by
  rw [execI2cReadTransfer, keeps_next]
  split <;> simp

theorem keeps_execCanFdSegment (seg : List Byte) (cyc : Nat) (s : State) : Keeps s (execCanFdSegment seg cyc s) := by
  unfold execCanFdSegment
  rw [keeps_next]
  intro h
  split
  · exact h
  · dsimp only
    split_ifs <;> simp [h, keeps_segmentIn]

theorem keeps_execCanClassicFrame (s : State) : Keeps s (execCanClassicFrame s) := by
  rw [execCanClassicFrame, keeps_next]
  split <;> simp

theorem keeps_execCanSegmentGapTimeout (s : State) : Keeps s (execCanSegmentGapTimeout s) := by
  rw [execCanSegmentGapTimeout, keeps_next]
  (repeat' split) <;> simp

theorem keeps_execFleetCmdFrame (q : Nat) (f : FHdr) (pl : List Byte) (s : State) : Keeps s (execFleetCmdFrame q f pl s) :=
  (keeps_next _ _).2 fun h => keeps_cmdIn (fun _ => keeps_cmdRun _ _) h ..

theorem keeps_execBoundaryScanInstruction (ir : Jtag) (cells : List Bool) (s : State) : Keeps s (execBoundaryScanInstruction ir cells s) := by
  rw [execBoundaryScanInstruction, keeps_next]
  dsimp only
  (repeat' split) <;> simp

theorem keeps_execI2cWriteTransfer (bytes : List Byte) (cyc : Nat) (s : State) : Keeps s (execI2cWriteTransfer bytes cyc s) :=
  (keeps_next _ _).2 fun h => keeps_packetIn keepsBounds_parseCmd _ _ _ h

/-- No command gets past the two bounds. -/
theorem keeps_exec (i : Instr) (s : State) : Keeps s (exec i s) :=
  match i with
  | .spiWriteTransaction .. => keeps_execSpiWriteTransaction ..
  | .spiReadTransaction .. => keeps_execSpiReadTransaction ..
  | .spiOtherDirectionByte .. => (keeps_next _ _).2 id
  | .i2cWriteTransfer .. => keeps_execI2cWriteTransfer ..
  | .i2cReadTransfer .. => keeps_execI2cReadTransfer ..
  | .canFdSegment .. => keeps_execCanFdSegment ..
  | .canClassicFrame => keeps_execCanClassicFrame ..
  | .canSegmentGapTimeout => keeps_execCanSegmentGapTimeout ..
  | .canBusOffRecovery => (keeps_next _ _).2 (queuesBounded_flushCan s).2
  | .hello .. => keeps_hostCmd keepsBounds_hello ..
  | .getInfo .. => keeps_hostCmd keepsBounds_getInfo ..
  | .paramRead .. => keeps_hostCmd keepsBounds_paramRead ..
  | .paramBaste .. => keeps_hostCmd keepsBounds_baste ..
  | .paramStitch .. => keeps_hostCmd keepsBounds_stitch ..
  | .paramStitchLaunch .. => keeps_hostCmd keepsBounds_stitchLaunch ..
  | .paramUnpick .. => keeps_hostCmd keepsBounds_unpick ..
  | .paramReadBlock .. => keeps_hostCmd keepsBounds_readBlock ..
  | .paramWriteLive .. => keeps_hostCmd keepsBounds_writeLive ..
  | .launchAtStitch .. => keeps_hostCmd keepsBounds_launchAt ..
  | .launchAtSnapshot .. => keeps_hostCmd keepsBounds_launchAt ..
  | .launchCancel .. => keeps_hostCmd keepsBounds_launchCancel ..
  | .tideRead .. => keeps_hostCmd keepsBounds_tideRead ..
  | .wdServeKeyA .. => keeps_hostCmd keepsBounds_wdServe ..
  | .wdServeKeyB .. => keeps_hostCmd keepsBounds_wdServe ..
  | .wdServeOtherKey .. => keeps_hostCmd keepsBounds_wdServe ..
  | .wdCheckin .. => keeps_hostCmd keepsBounds_wdCheckin ..
  | .eventRead .. => keeps_hostCmd keepsBounds_eventRead ..
  | .eventAck .. => keeps_hostCmd keepsBounds_eventAck ..
  | .resultFetch .. => keeps_hostCmd keepsBounds_fetchCmd ..
  | .calRead .. => keeps_hostCmd keepsBounds_calRead ..
  | .calAlter .. => keeps_hostCmd keepsBounds_calAlter ..
  | .calAlterSelvedge .. => keeps_hostCmd keepsBounds_calAlter ..
  | .calMeasure .. => keeps_hostCmd keepsBounds_calMeasure ..
  | .restoreFactory .. => keeps_hostCmd keepsBounds_restoreFactory ..
  | .recRead .. => keeps_hostCmd keepsBounds_recRead ..
  | .telRead .. => keeps_hostCmd keepsBounds_telRead ..
  | .traceArm .. => keeps_hostCmd keepsBounds_traceArm ..
  | .traceRead .. => keeps_hostCmd keepsBounds_traceRead ..
  | .attest .. => keeps_hostCmd keepsBounds_attest ..
  | .authChallenge .. => keeps_hostCmd keepsBounds_authChallenge ..
  | .authResponse .. => keeps_hostCmd keepsBounds_authResponse ..
  | .fwBegin .. => keeps_hostCmd keepsBounds_fwBegin ..
  | .fwChunk .. => keeps_hostCmd keepsBounds_fwChunk ..
  | .fwCommit .. => keeps_hostCmd keepsBounds_fwCommit ..
  | .phReinstate .. => keeps_hostCmd keepsBounds_phReinstate ..
  | .ledgerRead .. => keeps_hostCmd keepsBounds_ledgerRead ..
  | .ledgerClearWorn .. => keeps_hostCmd keepsBounds_ledgerClearWorn ..
  | .portCmdSoftReset .. => keeps_hostCmd keepsBounds_portCmd ..
  | .portCmdHardReset .. => keeps_hostCmd keepsBounds_portCmd ..
  | .portCmdRoleSwap .. => keeps_hostCmd keepsBounds_portCmd ..
  | .portCmdRenegotiate .. => keeps_hostCmd keepsBounds_portCmd ..
  | .portCmdCableQuery .. => keeps_hostCmd keepsBounds_portCmd ..
  | .portCmdAuthenticate .. => keeps_hostCmd keepsBounds_portCmd ..
  | .fleetCmd .. => keeps_hostCmd keepsBounds_fleetCmd ..
  | .fleetCmdReset .. => keeps_hostCmd keepsBounds_fleetCmd ..
  | .fleetSnapshot .. => keeps_hostCmd keepsBounds_fleetSnapshot ..
  | .fleetBarrier .. => keeps_hostCmd keepsBounds_fleetBarrier ..
  | .moor .. => keeps_hostCmd keepsBounds_moor ..
  | .resetDevice .. => keeps_hostCmd keepsBounds_resetDevice ..
  | .hostFramingWrite .. => keeps_hostCmd keepsBounds_live ..
  | .mapClearWrite .. => keeps_hostCmd keepsBounds_live ..
  | .mapSelWrite .. => keeps_hostCmd keepsBounds_live ..
  | .haltReqWrite .. => keeps_hostCmd keepsBounds_live ..
  | .faultForceWrite .. => keeps_hostCmd keepsBounds_live ..
  | .swlinkReqWrite .. => keeps_hostCmd keepsBounds_live ..
  | .holderReqWrite .. => keeps_hostCmd keepsBounds_live ..
  | .lownForceWrite .. => keeps_hostCmd keepsBounds_live ..
  | .storageReqWrite .. => keeps_hostCmd keepsBounds_live ..
  | .topoffReqWrite .. => keeps_hostCmd keepsBounds_live ..
  | .captestReqWrite .. => keeps_hostCmd keepsBounds_live ..
  | .extDemandWrite .. => keeps_hostCmd keepsBounds_live ..
  | .rstoutForceWrite .. => keeps_hostCmd keepsBounds_live ..
  | .stepMaxClear .. => keeps_hostCmd keepsBounds_live ..
  | .keySelWrite .. => keeps_hostCmd keepsBounds_live ..
  | .debugEnWrite .. => keeps_hostCmd keepsBounds_live ..
  | .tmrStartWrite .. => keeps_hostCmd keepsBounds_live ..
  | .tmrStopWrite .. => keeps_hostCmd keepsBounds_live ..
  | .tmrStartAtWrite .. => keeps_hostCmd keepsBounds_live ..
  | .tmrCountWrite .. => keeps_hostCmd keepsBounds_live ..
  | .tmrShadowWrite .. => keeps_hostCmd keepsBounds_live ..
  | .tmrFifoRead .. => keeps_hostCmd keepsBounds_read ..
  | .tmrCountRead .. => keeps_hostCmd keepsBounds_read ..
  | .calAlterComplete .. => keeps_execCalAlterComplete ..
  | .calMeasureComplete .. => keeps_execCalMeasureComplete ..
  | .restoreFactoryComplete .. => keeps_execRestoreFactoryComplete ..
  | .attestComplete .. => keeps_execAttestComplete ..
  | .authResponseComplete .. => keeps_execAuthResponseComplete ..
  | .authLockoutEnd .. => keeps_execAuthLockoutEnd ..
  | .fwBeginComplete .. => keeps_execFwBeginComplete ..
  | .fwChunkWritten => keeps_execFwChunkWritten ..
  | .fwCommitComplete .. => keeps_execFwCommitComplete ..
  | .fwSessionTimeout => keeps_execFwSessionTimeout ..
  | .portCmdComplete .. => keeps_execPortCmdComplete ..
  | .fleetCmdComplete .. => keeps_execFleetCmdComplete ..
  | .fleetCmdMemberTimeout .. => keeps_execFleetCmdMemberTimeout ..
  | .fleetSnapshotComplete .. => keeps_execFleetSnapshotComplete ..
  | .snapTimeout .. => keeps_execSnapTimeout ..
  | .fleetBarrierTimeout .. => keeps_execFleetBarrierTimeout ..
  | .resultExpiry .. => keeps_execResultExpiry ..
  | .simpleOpAbandon .. => keeps_execSimpleOpAbandon ..
  | .replyDiscard .. => keeps_execReplyDiscard ..
  | .privIdleTimeout .. => keeps_execPrivIdleTimeout ..
  | .configFlashWrite => keeps_execConfigFlashWrite ..
  | .keyInstallWrite .. => keeps_execKeyInstallWrite ..
  | .frameStart .. => keeps_execFrameStart ..
  | .stepCutOff .. => keeps_execStepCutOff ..
  | .jobRecovery .. => keeps_execJobRecovery ..
  | .commitPoint => keeps_execCommitPoint ..
  | .stitchCheck .. => keeps_execStitchCheck ..
  | .stitchApplied .. => keeps_execStitchApplied ..
  | .liveWriteEffect => keeps_execLiveWriteEffect ..
  | .launchCheck .. => keeps_execLaunchCheck ..
  | .launchStitch .. => keeps_execLaunchStitch ..
  | .launchSnapshot .. => keeps_execLaunchSnapshot ..
  | .disciplineLimit => keeps_execDisciplineLimit ..
  | .freshReadReply .. => keeps_execFreshReadReply ..
  | .freshReadDeferred .. => keeps_execFreshReadDeferred ..
  | .slotPressure => keeps_execSlotPressure ..
  | .tsFault .. => keeps_execTsFault ..
  | .tsRecovered .. => keeps_execTsRecovered ..
  | .phasePeakLimit .. => keeps_execPhasePeakLimit ..
  | .bwStop .. => keeps_execBwStop ..
  | .linkOvervoltageLimit .. => keeps_execLinkOvervoltageLimit ..
  | .surge .. => keeps_execSurge ..
  | .phaseRetired .. => keeps_execPhaseRetired ..
  | .phaseShedStop .. => keeps_execPhaseShedStop ..
  | .laneQualified .. => keeps_execLaneQualified ..
  | .softstartPhasesStart .. => keeps_execSoftstartPhasesStart ..
  | .softstartDone .. => keeps_execSoftstartDone ..
  | .softstartFailed .. => keeps_execSoftstartFailed ..
  | .laneIdleOff .. => keeps_execLaneIdleOff ..
  | .ratioFault .. => keeps_execRatioFault ..
  | .rampdownDone .. => keeps_execRampdownDone ..
  | .retryElapsed .. => keeps_execRetryElapsed ..
  | .retryBackoffReset .. => keeps_execRetryBackoffReset ..
  | .learningWindowClose .. => keeps_execLearningWindowClose ..
  | .shedStep .. => keeps_execShedStep ..
  | .rotationBegin .. => keeps_execRotationBegin ..
  | .shedBlockEnd .. => keeps_execShedBlockEnd ..
  | .probeStart .. => keeps_execProbeStart ..
  | .probeAbandon .. => keeps_execProbeAbandon ..
  | .probeEnd .. => keeps_execProbeEnd ..
  | .lossmapPersist => keeps_execLossmapPersist ..
  | .ledgerFlush => keeps_execLedgerFlush ..
  | .ledgerRetireWrite .. => keeps_execLedgerRetireWrite ..
  | .flashWriteLate .. => keeps_execFlashWriteLate ..
  | .ledgerSample => keeps_execLedgerSample ..
  | .sourceQualified .. => keeps_execSourceQualified ..
  | .sourceConnectSettled .. => keeps_execSourceConnectSettled ..
  | .sourceLoss .. => keeps_execSourceLoss ..
  | .dusk .. => keeps_execDusk ..
  | .mpptPeriodStep .. => keeps_execMpptPeriodStep ..
  | .sweepPoint .. => keeps_execSweepPoint ..
  | .sweepRepeat .. => keeps_execSweepRepeat ..
  | .icsPeriodStep .. => keeps_execIcsPeriodStep ..
  | .policyEvaluation => keeps_execPolicyEvaluation ..
  | .electiveSeamBegin => keeps_execElectiveSeamBegin ..
  | .holdFail => keeps_execHoldFail ..
  | .seamSwitchSettled => keeps_execSeamSwitchSettled ..
  | .seamRampEnd => keeps_execSeamRampEnd ..
  | .seamTimeout => keeps_execSeamTimeout ..
  | .swlinkClose => keeps_execSwlinkClose ..
  | .linklownAssert => keeps_execLinklownAssert ..
  | .linklownRelease => keeps_execLinklownRelease ..
  | .packAttached .. => keeps_execPackAttached ..
  | .packQualified .. => keeps_execPackQualified ..
  | .packSwitchSettled .. => keeps_execPackSwitchSettled ..
  | .prechargeDone .. => keeps_execPrechargeDone ..
  | .prechargeTimeout .. => keeps_execPrechargeTimeout ..
  | .ccDone .. => keeps_execCcDone ..
  | .chargeTerminated .. => keeps_execChargeTerminated ..
  | .chargeTimeout .. => keeps_execChargeTimeout ..
  | .taperEnd .. => keeps_execTaperEnd ..
  | .taperNoGrant .. => keeps_execTaperNoGrant ..
  | .restEnd .. => keeps_execRestEnd ..
  | .maintainRecharge .. => keeps_execMaintainRecharge ..
  | .supplyEnter .. => keeps_execSupplyEnter ..
  | .supplyExit .. => keeps_execSupplyExit ..
  | .packRemovalCollapse .. => keeps_execPackRemovalCollapse ..
  | .packHoldoffEnd .. => keeps_execPackHoldoffEnd ..
  | .socAnchorOcv .. => keeps_execSocAnchorOcv ..
  | .socAnchorFloor .. => keeps_execSocAnchorFloor ..
  | .captestFloorReached .. => keeps_execCaptestFloorReached ..
  | .captestTimeout .. => keeps_execCaptestTimeout ..
  | .portAttach .. => keeps_execPortAttach ..
  | .plugMeasurementDone .. => keeps_execPlugMeasurementDone ..
  | .portDetach .. => keeps_execPortDetach ..
  | .dualRoleToggle .. => keeps_execDualRoleToggle ..
  | .plehalAck .. => keeps_execPlehalAck ..
  | .plehalSoftReset .. => keeps_execPlehalSoftReset ..
  | .plehalPing .. => keeps_execPlehalPing ..
  | .plehalHello .. => keeps_execPlehalHello ..
  | .plehalAlert .. => keeps_execPlehalAlert ..
  | .plehalCaps .. => keeps_execPlehalCaps ..
  | .plehalGetCaps .. => keeps_execPlehalGetCaps ..
  | .plehalRequest .. => keeps_execPlehalRequest ..
  | .plehalReady .. => keeps_execPlehalReady ..
  | .plehalPackCaps .. => keeps_execPlehalPackCaps ..
  | .plehalPackStatus .. => keeps_execPlehalPackStatus ..
  | .plehalRoleSwap .. => keeps_execPlehalRoleSwap ..
  | .plehalSwapOff .. => keeps_execPlehalSwapOff ..
  | .plehalAuthCertGet .. => keeps_execPlehalAuthCertGet ..
  | .plehalAuthCert .. => keeps_execPlehalAuthCert ..
  | .plehalAuthChallenge .. => keeps_execPlehalAuthChallenge ..
  | .plehalAuthSign .. => keeps_execPlehalAuthSign ..
  | .plehalUnknownMessage .. => keeps_execPlehalUnknownMessage ..
  | .hardResetMarker .. => keeps_execHardResetMarker ..
  | .plehalResponseTimeout .. => keeps_execPlehalResponseTimeout ..
  | .plehalTxRetry .. => keeps_execPlehalTxRetry ..
  | .helloWaitTimeout .. => keeps_execHelloWaitTimeout ..
  | .providerVoltageSettled .. => keeps_execProviderVoltageSettled ..
  | .takerPortSettled .. => keeps_execTakerPortSettled ..
  | .portVoltageLost .. => keeps_execPortVoltageLost ..
  | .negotiationTimeout .. => keeps_execNegotiationTimeout ..
  | .keepalivePing .. => keeps_execKeepalivePing ..
  | .packStatusLate .. => keeps_execPackStatusLate ..
  | .packStatusLost .. => keeps_execPackStatusLost ..
  | .swapPortDischarged .. => keeps_execSwapPortDischarged ..
  | .swapTimeout .. => keeps_execSwapTimeout ..
  | .swapWaitRetry .. => keeps_execSwapWaitRetry ..
  | .hardResetSpacing .. => keeps_execHardResetSpacing ..
  | .safe0End .. => keeps_execSafe0End ..
  | .partnerAuthTimeout .. => keeps_execPartnerAuthTimeout ..
  | .fleetLinkUp .. => keeps_execFleetLinkUp ..
  | .fleetLinkDown .. => keeps_execFleetLinkDown ..
  | .fleetMarker .. => keeps_execFleetMarker ..
  | .fleetTick .. => keeps_execFleetTick ..
  | .elivoHello .. => keeps_execElivoHello ..
  | .delayReq q f pl t2 t3 => keeps_execDelayReq q f pl t2 t3 s
  | .delayResp .. => keeps_execDelayResp ..
  | .announce .. => keeps_execAnnounce ..
  | .joinReq .. => keeps_execJoinReq ..
  | .joinAck .. => keeps_execJoinAck ..
  | .repair .. => keeps_execRepair ..
  | .fleetAuthCertGet .. => keeps_execFleetAuthCertGet ..
  | .fleetAuthCert .. => keeps_execFleetAuthCert ..
  | .fleetAuthChallenge .. => keeps_execFleetAuthChallenge ..
  | .fleetAuthSign .. => keeps_execFleetAuthSign ..
  | .fleetLaunch .. => keeps_execFleetLaunch ..
  | .fleetLaunchCancel .. => keeps_execFleetLaunchCancel ..
  | .barrierUp .. => keeps_execBarrierUp ..
  | .barrierRelease .. => keeps_execBarrierRelease ..
  | .fleetReset .. => keeps_execFleetReset ..
  | .fleetCmdFrame .. => keeps_execFleetCmdFrame ..
  | .cmdReply .. => keeps_execCmdReply ..
  | .cmdStatus .. => keeps_execCmdStatus ..
  | .snapReq .. => keeps_execSnapReq ..
  | .snapRecord .. => keeps_execSnapRecord ..
  | .fleetEvent .. => keeps_execFleetEvent ..
  | .fleetEventsLost .. => keeps_execFleetEventsLost ..
  | .need .. => keeps_execNeed ..
  | .shares .. => keeps_execShares ..
  | .fleetUnknownFrame .. => keeps_execFleetUnknownFrame ..
  | .rootElectionTimeout => keeps_execRootElectionTimeout ..
  | .joinReqRetry => keeps_execJoinReqRetry ..
  | .markersLost => keeps_execMarkersLost ..
  | .islandRejoin => keeps_execIslandRejoin ..
  | .electWaitExpiry => keeps_execElectWaitExpiry ..
  | .announcePeriod => keeps_execAnnouncePeriod ..
  | .delayPeriod .. => keeps_execDelayPeriod ..
  | .lseqResend .. => keeps_execLseqResend ..
  | .budgetPeriod => keeps_execBudgetPeriod ..
  | .sharesEffect => keeps_execSharesEffect ..
  | .fleetAuthRecheck .. => keeps_execFleetAuthRecheck ..
  | .fleetAuthTimeout .. => keeps_execFleetAuthTimeout ..
  | .alignedSet => keeps_execAlignedSet ..
  | .railGroupStart => keeps_execRailGroupStart ..
  | .railDebouncedChange .. => keeps_execRailDebouncedChange ..
  | .railRunning .. => keeps_execRailRunning ..
  | .railFailedUp .. => keeps_execRailFailedUp ..
  | .railSlowDown .. => keeps_execRailSlowDown ..
  | .railGroupStop => keeps_execRailGroupStop ..
  | .seqTripRestart => keeps_execSeqTripRestart ..
  | .seqTripIdle => keeps_execSeqTripIdle ..
  | .minOffElapsed => keeps_execMinOffElapsed ..
  | .tripCountReset => keeps_execTripCountReset ..
  | .moorEnter => keeps_execMoorEnter ..
  | .rstoutRelease .. => keeps_execRstoutRelease ..
  | .safePulseEnd => keeps_execSafePulseEnd ..
  | .safenLow => keeps_execSafenLow ..
  | .safenRelease => keeps_execSafenRelease ..
  | .protPortOvervoltage .. => keeps_execProtPortOvervoltage ..
  | .protLinkOvervoltage => keeps_execProtLinkOvervoltage ..
  | .protStageOvertemp .. => keeps_execProtStageOvertemp ..
  | .protDieOvertemp => keeps_execProtDieOvertemp ..
  | .protectHoldEnd .. => keeps_execProtectHoldEnd ..
  | .wdTimeout => keeps_execWdTimeout ..
  | .supervisionWatchdogExpiry => keeps_execSupervisionWatchdogExpiry ..
  | .coreRestarted => keeps_execCoreRestarted ..
  | .clockLoss => keeps_execClockLoss ..
  | .clockRecovered => keeps_execClockRecovered ..
  | .powerFailTrip => keeps_execPowerFailTrip ..
  | .powerFailRecordDone => keeps_execPowerFailRecordDone ..
  | .powerReturn => keeps_execPowerReturn ..
  | .faultRecordWrite => keeps_execFaultRecordWrite ..
  | .recordAllowanceRefill => keeps_execRecordAllowanceRefill ..
  | .telWindowClose .. => keeps_execTelWindowClose ..
  | .traceNowTrigger => keeps_execTraceNowTrigger ..
  | .traceFull => keeps_execTraceFull ..
  | .wakeFromMoored => keeps_execWakeFromMoored ..
  | .powerOnReset => keeps_execPowerOnReset ..
  | .resetnLow => keeps_execResetnLow ..
  | .resetnRise => keeps_execResetnRise ..
  | .bootRom => keeps_execBootRom ..
  | .bootComplete => keeps_execBootComplete ..
  | .tmrMatchA .. => keeps_execTmrMatchA ..
  | .tmrMatchB .. => keeps_execTmrMatchB ..
  | .tmrTurn .. => keeps_execTmrTurn ..
  | .tmrCapture .. => keeps_execTmrCapture ..
  | .tmrNamedStart => keeps_execTmrNamedStart ..
  | .tmrConvResult .. => keeps_execTmrConvResult ..
  | .tmrConvWithdrawn .. => keeps_execTmrConvWithdrawn ..
  | .carrierCycle .. => keeps_execCarrierCycle ..
  | .timerTick .. => keeps_execTimerTick ..
  | .partnerFrameDiscarded .. => keeps_execPartnerFrameDiscarded ..
  | .fleetFrameDiscarded .. => keeps_execFleetFrameDiscarded ..
  | .debuggerHalt => keeps_execDebuggerHalt ..
  | .debuggerRelease => keeps_execDebuggerRelease ..
  | .boundaryScanInstruction .. => keeps_execBoundaryScanInstruction ..
  | .flashWriterDone => keeps_execFlashWriterDone ..

end Sys2Proof.Machine

open Sys2Proof Sys2Proof.Machine

/-- Settles O60: the command at the front of the queue, whichever it is, keeps both bounds, and an idle step changes nothing. -/
theorem queuesStayBounded : Obligations.QueuesStayBounded := by
  unfold Obligations.QueuesStayBounded
  intro s t hs ht
  unfold step at ht
  split at ht
  · cases ht; exact hs
  · next c rest _ => exact (keeps_exec c { s with pending := rest }).bounded t ht ((queuesBounded_sameHost ..).2 hs)

end

section
/-! The gate of R42 for every way a command arrives, and what a reply leaves alone (R38, R42, R43, R58). -/

namespace Sys2Proof.Machine

theorem OnlyReplies.pushReply (s : State) {tr : Transport} (h : tr ≠ .fleet) (r : Reply) : OnlyReplies s (s.pushReply tr r) := by
  cases tr
  case fleet => exact absurd rfl h
  case can => exact OnlyReplies.trans (t := s.relinked s.host.spi s.host.i2c _ _) rfl (OnlyReplies.flushCan _)
  all_goals rfl

/-- A reply that waits on CAN FD is sent, or waits on. -/
theorem flushCan_keepsReply {s : State} {r : Reply} (h : r ∈ s.host.can.replies) : RepliedTo s.flushCan .can r.tag r.status r.pay := by
  by_cases hr : r.ready ≤ s.frame
  · exact flushCan_repliedTo h hr
  · refine ⟨r, rfl, rfl, rfl, .inl ?_⟩
    unfold State.flushCan
    split
    · exact h
    · simpa [State.link, hr] using h

/-- A reply completed for a transport waits there, or has been sent. -/
theorem pushReply_repliedTo (s : State) (tr : Transport) (r : Reply) : RepliedTo (s.pushReply tr r) tr r.tag r.status r.pay := by
  cases tr
  case can => exact flushCan_keepsReply (List.mem_append_right _ (List.mem_singleton_self _))
  all_goals exact ⟨r, rfl, rfl, rfl, .inl (List.mem_append_right _ (List.mem_singleton_self _))⟩

/-- A refusal before the tag space has been checked is a reply to the packet. -/
theorem refuseEarly_repliedTo (s : State) (tr : Transport) (tag : Option Nat) (st d : Nat) :
    RepliedTo (s.refuseEarly tr tag st d) tr tag st (leBytes 2 d) := pushReply_repliedTo s tr _

/-- The state behind the tag space: the command is in flight, its transport has its age (R43, R53). -/
theorem arrive_relinked (s : State) {tr : Transport} (ht : tr ≠ .fleet) {tag : Option Nat} (hc : tagCheck s tr tag = none) (cyc opc len : Nat)
    (k : Option Cmd) :
    ∃ spi i2c can fs, arrive tr tag cyc opc len k s = runCmd ⟨tr, tag, cyc, opc⟩ k len (s.relinked spi i2c can fs) ∧
      ((s.relinked spi i2c can fs).link tr).priv = (s.link tr).priv ∧ ((s.relinked spi i2c can fs).link tr).ver = (s.link tr).ver := by
  simp only [arrive, hc]
  cases tr
  case fleet => exact absurd rfl ht
  all_goals exact ⟨_, _, _, _, rfl, rfl, rfl⟩

/-- A command of the table behind steps 1 to 3 of R42. -/
theorem hostCmd_arrived {s : State} {h : Hdr} (k : Cmd) (ht : h.tr ≠ .fleet) (hacc : accepts s = true)
    (hlen : decide (k.len ≤ 1024) = true) {tag : Option Nat}
    (htag : (if untagged s h.tr then none else some h.tag) = tag) (hc : tagCheck s h.tr tag = none) :
    ∃ spi i2c can fs, hostCmd h k s = .next (runCmd ⟨h.tr, tag, h.cyc, k.opc⟩ (some k) k.len (s.relinked spi i2c can fs)) ∧
      ((s.relinked spi i2c can fs).link h.tr).priv = (s.link h.tr).priv ∧ ((s.relinked spi i2c can fs).link h.tr).ver = (s.link h.tr).ver := by
  obtain ⟨spi, i2c, can, fs, e, hp, hv⟩ := arrive_relinked s ht hc h.cyc k.opc k.len (some k)
  refine ⟨spi, i2c, can, fs, ?_, hp, hv⟩
  simp [hostCmd, hacc, Nat.not_lt.mpr (of_decide_eq_true hlen), htag, e]

/-- Which opcodes are known does not change while the version of the link stands. -/
theorem opcodeKnown_relinked {s : State} {tr : Transport} {spi i2c can : Link} {fs : List Flight}
    (hv : ((s.relinked spi i2c can fs).link tr).ver = (s.link tr).ver) (o : Nat) :
    opcodeKnown (s.relinked spi i2c can fs) tr o = opcodeKnown s tr o := by
  have hctl : (s.relinked spi i2c can fs).ctl = s.ctl := rfl
  simp only [opcodeKnown, untagged, hv, hctl]

/-- A command refused in steps 4 to 9 of R42 is answered and does nothing else. -/
theorem answers_of_refusal {s : State} {h : Hdr} {c : Instr} {k : Cmd} {st d : Nat} (ht : h.tr ≠ .fleet) (hacc : accepts s = true)
    (hun : untagged s h.tr = false) (hlen : decide (k.len ≤ 1024) = true) (hc : tagCheck s h.tr (some h.tag) = none) (he : exec c s = hostCmd h k s)
    (hr : ∀ spi i2c can fs, ((s.relinked spi i2c can fs).link h.tr).priv = (s.link h.tr).priv →
      ((s.relinked spi i2c can fs).link h.tr).ver = (s.link h.tr).ver →
      runCmd (ctxOf h k.opc) (some k) k.len (s.relinked spi i2c can fs) = (s.relinked spi i2c can fs).refuse (ctxOf h k.opc) st d) :
    Answers s c h st (leBytes 2 d) := by
  obtain ⟨spi, i2c, can, fs, e, hp, hv⟩ := hostCmd_arrived k ht hacc hlen (by rw [hun]; rfl) hc
  refine ⟨_, he.trans (e.trans (congrArg _ (hr spi i2c can fs hp hv))), answer_repliedTo _ (ctxOf h k.opc) st _, ?_⟩
  exact (OnlyReplies.relinked s spi i2c can fs).trans (OnlyReplies.answer _ ht st _)

/-- A command refused by the tag space is answered and does nothing else. -/
theorem answers_of_tag {s : State} {h : Hdr} {c : Instr} {k : Cmd} {st d : Nat} (ht : h.tr ≠ .fleet) (hacc : accepts s = true)
    (hun : untagged s h.tr = false) (hlen : decide (k.len ≤ 1024) = true) (hc : tagCheck s h.tr (some h.tag) = some (st, d)) (he : exec c s = hostCmd h k s) :
    Answers s c h st (leBytes 2 d) := by
  have e : hostCmd h k s = .next (s.refuseEarly h.tr (some h.tag) st d) := by
    simp [hostCmd, hacc, hun, Nat.not_lt.mpr (of_decide_eq_true hlen), arrive, hc]
  exact ⟨_, he.trans e, refuseEarly_repliedTo s h.tr _ st d, OnlyReplies.pushReply s ht _⟩

/-- In version-1 framing with nothing in flight a command is behind the tag space. -/
theorem tagCheck_untagged {s : State} (tr : Transport) (hf : s.host.flights = []) : tagCheck s tr none = none := by
  simp [tagCheck, hf]

/-- What a writable parameter holds depends on nothing of the host side. -/
theorem readBits_relinked (s : State) {d : ParamDef} (hr : d.attr ≠ .ro) (id : Nat) (spi i2c can : Link) (fs : List Flight) :
    readBits (s.relinked spi i2c can fs) d id = readBits s d id := by
  unfold readBits
  split
  · contradiction
  · rfl

/-- What no reply touches. -/
theorem OnlyReplies.fields {s t : State} (h : OnlyReplies s t) :
    t.jobs = s.jobs ∧ t.params = s.params ∧ t.flash = s.flash ∧ t.ctl = s.ctl ∧ t.outs = s.outs ∧ t.ident = s.ident ∧ t.otp = s.otp ∧
      t.writer = s.writer ∧ t.fw = s.fw := by
  refine ⟨?_, ?_, ?_, ?_, ?_, ?_, ?_, ?_, ?_⟩ <;> rw [h]

/-- What no reply touches of the host side. -/
theorem OnlyReplies.host {s t : State} (h : OnlyReplies s t) :
    t.host.sets = s.host.sets ∧ t.host.tide = s.host.tide ∧ t.host.stitches = s.host.stitches ∧ t.host.lives = s.host.lives ∧
      t.host.events = s.host.events ∧ t.host.lost = s.host.lost ∧ t.host.ops = s.host.ops ∧ t.host.opNum = s.host.opNum ∧
      t.host.results = s.host.results := by
  refine ⟨?_, ?_, ?_, ?_, ?_, ?_, ?_, ?_, ?_⟩ <;> rw [h]

/-- A command whose body makes m of the state and answers. -/
theorem answered_of_body {s : State} {h : Hdr} {c : Instr} {k : Cmd} {st : Nat} {pay : List Byte} (m : State → State)
    (r : HostReady s h k.opc k.ver k.priv) (hc : exec c s = hostCmd h k s) (hk : (k.fits false && decide (k.len ≤ 1024)) = true)
    (hb : ∀ spi i2c can fs, ((s.relinked spi i2c can fs).link h.tr).priv = (s.link h.tr).priv →
      OnlyReplies (m s) (m (s.relinked spi i2c can fs)) ∧
      k.body (ctxOf h k.opc) (s.relinked spi i2c can fs) = (m (s.relinked spi i2c can fs)).answer (ctxOf h k.opc) st pay) :
    ∃ t, exec c s = .next t ∧ Replied t h st pay ∧ OnlyReplies (m s) t := by
  obtain ⟨spi, i2c, can, fs, e, hp, -⟩ := hostCmd_relinked r hk
  obtain ⟨hm, hbody⟩ := hb spi i2c can fs hp
  exact ⟨_, hc.trans (e.trans (congrArg _ hbody)), answer_repliedTo _ (ctxOf h k.opc) st pay, hm.trans (OnlyReplies.answer _ r.2.1 st pay)⟩

end Sys2Proof.Machine

open Sys2Proof Sys2Proof.Machine

/-- Settles O6: each body refuses at its first check. -/
theorem wrongConfirmAndTelemetryRules : Obligations.WrongConfirmAndTelemetryRules := by
  intro s h c
  refine ⟨fun r hc => ?_, fun r hc => ?_, fun r hc => ?_, fun w fl r hb hw => ?_⟩
  · exact answers_of_body (k := cmdRestoreFactory c) r rfl rfl fun _ _ _ _ _ => ⟨_, .refl _, if_pos hc⟩
  · exact answers_of_body (k := cmdMoor c) r rfl rfl fun _ _ _ _ _ => ⟨_, .refl _, if_pos hc⟩
  · exact answers_of_body (k := cmdResetDevice c) r rfl rfl fun _ _ _ _ _ => ⟨_, .refl _, if_pos hc⟩
  · cases hchan : (telChans s).contains c
    · refine ⟨leBytes 2 0, answers_of_body (k := cmdTelRead c w fl) r rfl rfl fun spi i2c can fs _ => ⟨_, .refl _, ?_⟩⟩
      have hchan' : (telChans (s.relinked spi i2c can fs)).contains c = false := hchan
      show doTelRead _ c w fl _ = _
      rw [doTelRead, hchan']
      rfl
    · refine ⟨leBytes 2 1, answers_of_body (k := cmdTelRead c w fl) r rfl rfl fun spi i2c can fs _ => ⟨_, .refl _, ?_⟩⟩
      have hchan' : (telChans (s.relinked spi i2c can fs)).contains c = true := hchan
      have hb' : (s.relinked spi i2c can fs).ident.big = false := hb
      show doTelRead _ c w fl _ = _
      rw [doTelRead, hchan', if_neg (by simp), if_neg hw, hb', if_pos (by simp)]
      rfl

/-- Settles O1: each refusal in the step of R42 that gives it. -/
theorem hostGateRow : Obligations.HostGateRow := by
  intro s h ht
  refine ⟨?closed, ?range, ?inflight, ?locked, ?version, ?loader, ?read, ?opcode⟩
  case closed =>
    intro hacc hi
    show hostCmd h cmdGetInfo s = _
    simp [hostCmd, hacc, dropPacket, hi]
  case range =>
    intro hacc hun hg
    exact answers_of_tag (k := cmdGetInfo) ht hacc hun rfl (by simp [tagCheck, hg]) rfl
  case inflight =>
    intro f hacc hun hg hf hft htag
    refine answers_of_tag (k := cmdGetInfo) ht hacc hun rfl ?_ rfl
    simp [tagCheck, hf, hft, ht, htag, Nat.not_lt.mpr hg, countOf]
  case locked =>
    intro key r hp
    obtain ⟨hacc, -, hun, hop, hver, -, htag⟩ := r
    refine answers_of_refusal (k := cmdWdServe key) ht hacc hun rfl htag rfl fun spi i2c can fs hp' hv' => ?_
    simp [runCmd, ctxOf, cmdWdServe, fixed, opcodeKnown_relinked hv', hop, hp', hv', hp, Nat.not_lt.mpr hver]
  case version =>
    intro id r hv
    obtain ⟨hacc, -, hun, hop, -, -, htag⟩ := r
    refine answers_of_refusal (k := cmdLaunchCancel id) ht hacc hun rfl htag rfl fun spi i2c can fs hp' hv' => ?_
    have htop : topVer (s.relinked spi i2c can fs) = topVer s := rfl
    simp [runCmd, ctxOf, cmdLaunchCancel, fixed, opcodeKnown_relinked hv', hop, hv', hv, htop]
  case loader =>
    intro id hacc hl htag
    have hun : untagged s h.tr = false := by simp [untagged, hl]
    refine answers_of_refusal (k := cmdLaunchCancel id) ht hacc hun rfl htag rfl fun spi i2c can fs _ hv' => ?_
    have hop : opcodeKnown s h.tr 0x19 = false := by simp [opcodeKnown, hl, loaderOpcode]
    simp [runCmd, ctxOf, cmdLaunchCancel, fixed, opcodeKnown_relinked hv', hop]
  case read =>
    intro num id mul k d hacc hun hf hn hm hd ha
    obtain ⟨spi, i2c, can, fs, e, -, hv'⟩ := hostCmd_arrived (cmdParamRead 0 [num]) ht hacc rfl (by rw [hun]; rfl)
      (tagCheck_untagged h.tr hf)
    have hver : (s.link h.tr).ver = 1 ∧ s.ctl.loader = false := by simpa [untagged] using hun
    have hop : opcodeKnown s h.tr 0x10 = true := by simp [opcodeKnown, hver.2, v1Opcode]
    have hd' : paramAt (s.relinked spi i2c can fs).ident.big id = some d := hd
    have hrun : runCmd ⟨h.tr, none, h.cyc, 0x10⟩ (some (cmdParamRead 0 [num])) 4 (s.relinked spi i2c can fs) =
        (s.relinked spi i2c can fs).answer ⟨h.tr, none, h.cyc, 0x10⟩ St.OK (leBytes 2 (ofS 16 (divHalfAway (d.num (readBits s d id)) mul))) := by
      simp [runCmd, cmdParamRead, opcodeKnown_relinked hv', hop, hv', hver.1, hn, doV1Read, hm, hd', readBits_relinked s ha, State.okReply]
    refine ⟨_, e.trans (congrArg _ hrun), ?_, answer_repliedTo _ ⟨h.tr, none, h.cyc, 0x10⟩ _ _⟩
    exact (OnlyReplies.relinked s spi i2c can fs).trans (OnlyReplies.answer _ ht _ _)
  case opcode =>
    intro hacc hun hf
    obtain ⟨spi, i2c, can, fs, e, -, hv'⟩ := hostCmd_arrived cmdTideRead ht hacc rfl (by rw [hun]; rfl) (tagCheck_untagged h.tr hf)
    have hop : opcodeKnown s h.tr 0x1A = false := by simp [opcodeKnown, hun, v1Opcode]
    have hrun : runCmd ⟨h.tr, none, h.cyc, 0x1A⟩ (some cmdTideRead) 0 (s.relinked spi i2c can fs) =
        (s.relinked spi i2c can fs).answer ⟨h.tr, none, h.cyc, 0x1A⟩ St.BAD_OPCODE (leBytes 2 0x1A) := by
      simp [runCmd, opcodeKnown_relinked hv', hop, State.refuse]
    refine ⟨_, e.trans (congrArg _ hrun), ?_, answer_repliedTo _ ⟨h.tr, none, h.cyc, 0x1A⟩ _ _⟩
    exact (OnlyReplies.relinked s spi i2c can fs).trans (OnlyReplies.answer _ ht _ _)

end

section
/-! A WORN phase (R83, R187, R197). -/

namespace Sys2Proof.Machine

/-- A phase asked to be RETIRED is so from the start of the next frame on (R83). -/
theorem phaseDue_retired {s : State} {x : Nat} (hl : x < s.jobs.phases.length) (h : (s.phase x).nextSt = some .retired) :
    ((phaseDue s x).phase x).st = .retired := by
  have told : ∃ z : State, x < z.jobs.phases.length ∧ (z.phase x).nextSt = some .retired ∧ phaseDue s x =
      (z.modPhase x fun p => { p with nextSt := none }).modPhase x fun p => { p with st := .retired } := by
    cases hf : (s.mod x).failed with
    | none => exact ⟨s, hl, h, by simp [phaseDue, hf, h]⟩
    | some k =>
      obtain ⟨-, -, hph⟩ := retireTell_spec x k s
      have hx : (retireTell x k s).phase x = { s.phase x with newRet := true } := by
        rw [State.phase, hph, modAt_getD_self hl]; rfl
      exact ⟨retireTell x k s, by simpa [hph] using hl, by rw [hx, h], by simp [phaseDue, hf, h, hx]⟩
  obtain ⟨z, hlz, -, e⟩ := told
  rw [e, State.phase_modPhase_self (by simpa using hlz)]

/-- The WORN mark of phase x is taken away, in flash too. -/
def wornCleared (x : Nat) (s : State) : State :=
  ((s.modPhase x fun p => { p with nextSt := some .retired }).modLed x fun l => { l with worn := false, isRet := true }).modFlash fun f =>
    { f with worn := f.worn.set x false }

/-- LEDGER_CLEAR_WORN of a WORN phase (R83). -/
theorem doLedgerClearWorn_worn {s : State} {x : Nat} (c : Ctx) (hx : x < nPh s) (h : (s.phase x).st = .worn) :
    doLedgerClearWorn c x s = (wornCleared x s).answer c St.OK [] := by
  simp [doLedgerClearWorn, Nat.not_le.mpr hx, h, State.okReply, wornCleared]

theorem getD_set_self_false (l : List Bool) (x : Nat) : (l.set x false).getD x false = false := by
  rw [List.getD_eq_getElem?_getD, List.getElem?_set]
  split
  · split <;> rfl
  · contradiction

end Sys2Proof.Machine

open Sys2Proof Sys2Proof.Machine

/-- Settles O7: the refusals at the checks of the two bodies, and what the next start of a frame makes of a mark that is cleared. -/
theorem wornPhaseRules : Obligations.WornPhaseRules := by
  intro s h x
  refine ⟨fun r hx hw => ?_, fun r h1 h2 => ?_, fun r hx hl hled hw => ?_, fun r hw => ?_⟩
  · refine answers_of_body (k := cmdPhReinstate x) r rfl rfl fun _ _ _ _ _ => ⟨_, .refl _, ?_⟩
    exact (if_neg (Nat.not_le.mpr hx)).trans (if_pos hw)
  · refine answers_of_body (k := cmdPhReinstate x) r rfl rfl fun _ _ _ _ _ => ⟨_, .refl _, ?_⟩
    exact ite_eq_left_iff.mpr fun _ => (if_neg h1).trans (if_pos h2)
  · obtain ⟨t, e, hr, ho⟩ := answered_of_body (c := .ledgerClearWorn h x) (k := cmdLedgerClearWorn x) (wornCleared x) r rfl rfl
      fun _ _ _ _ _ => ⟨rfl, doLedgerClearWorn_worn _ hx hw⟩
    obtain ⟨hj, -, hflash, -⟩ := ho.fields
    have hph (y : Nat) : t.phase y = (s.modPhase x fun p => { p with nextSt := some .retired }).phase y := by
      unfold State.phase; rw [hj]; rfl
    have hself : t.phase x = { s.phase x with nextSt := some .retired } := by rw [hph, State.phase_modPhase_self hl]
    have hlt : t.led x = { s.led x with worn := false, isRet := true } := by
      have : t.led x = (s.modLed x fun l => { l with worn := false, isRet := true }).led x := by unfold State.led; rw [hj]; rfl
      rw [this, State.led_modLed_self hled]
    refine ⟨t, e, hr, hself, phaseDue_retired ?_ (by rw [hself]), by rw [hlt], by rw [hlt], ?_, fun y hy => ?_, ?_⟩
    · rw [hj]; simpa [wornCleared] using hl
    · rw [hflash]; exact getD_set_self_false _ x
    · rw [hph, State.phase_modPhase_ne hy]
    · rw [hj]; rfl
  · refine answers_of_body (k := cmdLedgerClearWorn x) r rfl rfl fun spi i2c can fs _ => ⟨_, .refl _, ?_⟩
    have hw' : ((s.relinked spi i2c can fs).phase x).st ≠ .worn := hw
    show doLedgerClearWorn _ x _ = _
    rw [doLedgerClearWorn, if_pos (by simp [hw'])]
    rfl

end

section
/-! Live writes (R62, R69): one that passes its checks is handed to the bank loader, whatever row it has. -/

namespace Sys2Proof.Machine

theorem assocGet_assocSet_ne {β : Type} (l : List (Nat × β)) {k j : Nat} (b : β) (h : j ≠ k) : assocGet (assocSet l k b) j = assocGet l j := by
  induction l with
  | nil => simp [assocSet, assocGet, Ne.symm h]
  | cons e l ih =>
    obtain ⟨i, c⟩ := e
    unfold assocSet
    split
    · simp [assocGet, Ne.symm h]
    · split
      · next he => simp [assocGet, he, Ne.symm h]
      · simp [assocGet, ih]

/-- Setting a key keeps every key. -/
theorem assocSet_keys {β : Type} (l : List (Nat × β)) (k : Nat) (b : β) {j : Nat} (h : j = k ∨ ∃ c, (j, c) ∈ l) :
    ∃ c, (j, c) ∈ assocSet l k b := by
  induction l with
  | nil => exact ⟨b, by simpa [assocSet] using h⟩
  | cons e l ih =>
    obtain ⟨i, c⟩ := e
    have hcases : j = k ∨ j = i ∨ ∃ c, (j, c) ∈ l := by simpa [exists_or] using h
    unfold assocSet
    split
    · rcases hcases with rfl | rfl | ⟨c', hc⟩ <;> simp [exists_or]
      exact .inr (.inr ⟨c', hc⟩)
    · split
      · next hik => rcases hcases with rfl | rfl | ⟨c', hc⟩ <;> simp [exists_or, hik]
                    exact .inr ⟨c', hc⟩
      · rcases hcases with rfl | rfl | ⟨c', hc⟩
        · exact (ih (.inl rfl)).imp fun _ hc => List.mem_cons_of_mem _ hc
        · exact ⟨c, List.mem_cons_self⟩
        · exact (ih (.inr ⟨c', hc⟩)).imp fun _ hc => List.mem_cons_of_mem _ hc

/-- The words of a list of entries list each of its IDs (R61). -/
theorem entryWords_keys {es : List Entry} {id : Nat} {old : List (Nat × Word)} (h : (∃ e ∈ es, e.id = id) ∨ ∃ w, (id, w) ∈ old) :
    ∃ w, (id, w) ∈ entryWords es old := by
  induction es generalizing old with
  | nil => simpa [entryWords] using h
  | cons e l ih =>
    refine ih ?_
    rcases h with ⟨a, ha, rfl⟩ | h
    · rcases List.mem_cons.mp ha with rfl | ha
      · exact .inr (assocSet_keys _ _ _ (.inl rfl))
      · exact .inl ⟨a, ha, rfl⟩
    · exact .inr (assocSet_keys _ _ _ (.inr h))

/-- Entries that pass their checks pass each. -/
theorem checkEntry_of_checkEntries {s : State} {level : Nat} {live : Bool} {es : List Entry} (h : checkEntries s level live es = none) {i : Nat}
    {e : Entry} (he : es[i]? = some e) : checkEntry s level live es i e = none := by
  have hi : i < es.length := (List.getElem?_eq_some_iff.mp he).1
  have := List.findSome?_eq_none_iff.mp h i (List.mem_range.mpr hi)
  simpa [he] using this

/-- An entry that passes its checks names a parameter of the part and carries all its words (R62). -/
theorem checkEntry_none {s : State} {level i : Nat} {live : Bool} {es : List Entry} {e : Entry} (h : checkEntry s level live es i e = none) :
    ∃ d, paramAt s.ident.big e.id = some d ∧ (wholeBits es d (firstId d e.id) e).isSome = true := by
  unfold checkEntry at h
  split at h
  · cases h
  · next d hd =>
    refine ⟨d, hd, ?_⟩
    dsimp only at h
    split_ifs at h
    split at h
    · cases h
    · next b hb => simp [hb]

/-- The parameter d, whose first word has the ID id, is one of those that the words carry. -/
theorem mem_carried {s : State} {ws : List (Nat × Word)} {id : Nat} {d : ParamDef} (hw : ∃ w, (id, w) ∈ ws) (hd : paramAt s.ident.big id = some d)
    (hf : firstId d id = id) : (id, d) ∈ carried s ws := by
  obtain ⟨w, hw⟩ := hw
  exact List.mem_filterMap.mpr ⟨(id, w), hw, by simp [hd, hf]⟩

/-- PARAM_WRITE_LIVE of entries that pass their checks (R69). -/
theorem doWriteLive_ok {s : State} {c : Ctx} {es : List Entry} {level : Nat} (hl : (s.link c.tr).priv = level)
    (hne : (es.isEmpty || decide (64 < es.length)) = false) (hck : checkEntries s level true es = none) (hlc : liveCond c es s = none) :
    doWriteLive c es s = (liveNow c (entryWords es []) s).answer c St.OK (leBytes 8 (accFrame c s + 1)) := by
  simp [doWriteLive, hne, hl, hck, hlc, State.okReply]

/-- A live write of entries that carry the parameter with first word id, and no word of it missing, in whatever row it has. -/
theorem liveTaken {s : State} {h : Hdr} {c : Instr} {k : Cmd} {es : List Entry} {id : Nat} {ws : List Word} (hc : exec c s = hostCmd h k s)
    (hk : (k.fits false && decide (k.len ≤ 1024)) = true) (hkind : (k.opc, k.ver, k.priv) = (0x15, 1, 1))
    (hbody : ∀ x u, x.tag.isNone = false → k.body x u = doWriteLive x es u)
    (hne : (es.isEmpty || decide (64 < es.length)) = false) (hmem : ∃ e ∈ es, e.id = id)
    (hp : ∀ d e, e ∈ es → e.id = id → paramAt s.ident.big id = some d → (wholeBits es d (firstId d id) e).isSome = true →
      firstId d id = id ∧ d.words = ws.length)
    (hws : listed (entryWords es []) id ws.length = ws) : LiveTaken s h c es id ws := by
  intro r hck hlc
  obtain ⟨opc, ver, priv, len, fits, body⟩ := k
  obtain ⟨rfl, rfl, rfl⟩ : opc = 0x15 ∧ ver = 1 ∧ priv = 1 := by simpa using hkind
  obtain ⟨e, he, hid⟩ := hmem
  obtain ⟨i, hi⟩ := List.mem_iff_getElem?.mp he
  obtain ⟨d, hd, hwhole⟩ := checkEntry_none (checkEntry_of_checkEntries hck hi)
  rw [hid] at hd hwhole
  obtain ⟨hf, hn⟩ := hp d e he hid hd hwhole
  obtain ⟨t, ht, hrep, ho⟩ := answered_of_body (c := c) (st := St.OK) (pay := leBytes 8 (accFrame (ctxOf h 0x15) s + 1))
    (liveNow (ctxOf h 0x15) (entryWords es [])) r hc hk fun spi i2c can fs hl =>
      ⟨rfl, (hbody _ _ rfl).trans (doWriteLive_ok (s := s.relinked spi i2c can fs) hl hne hck hlc)⟩
  obtain ⟨-, -, -, hlives, hev, -⟩ := ho.host
  have hmine : (id, d) ∈ carried s (entryWords es []) := mem_carried (entryWords_keys (.inl ⟨e, he, hid⟩)) hd hf
  refine ⟨t, _, ht, rfl, hrep, ?_, fun w hw => ?_, hev, by rw [ho]; rfl⟩
  · rw [hlives]
    refine List.mem_append_right _ (List.mem_map.mpr ⟨(id, d), hmine, ?_⟩)
    rw [hn, hws]
    rfl
  · rw [hlives]
    exact List.mem_append_left _ hw

end Sys2Proof.Machine
end

section
/-! The rows of the live writes (R503, R505, R506, R515): the entries of each, and the parameter they carry. -/

namespace Sys2Proof.Machine

/-- Where the part has a parameter at id, id is its first word and n the number of its words. -/
def wordsAt (big : Bool) (id n : Nat) : Bool := (paramAt big id).all fun d => firstId d id == id && d.words == n

theorem wordsAt_some {big : Bool} {id n : Nat} {d : ParamDef} (h : wordsAt big id n = true) (hd : paramAt big id = some d) :
    firstId d id = id ∧ d.words = n := by
  simpa [wordsAt, hd] using h

theorem liveEntries_one (g i k : Nat) (v : Word) : liveEntries g i k 1 v.toNat = [⟨pid g i k, v⟩] := by
  simp [liveEntries, toWords]

/-- The words of a 32-bit value (R16). -/
theorem toWords_two (d : BitVec 32) : toWords 2 d.toNat = [d.extractLsb' 0 16, d.extractLsb' 16 16] := by
  have h1 : BitVec.ofNat 16 d.toNat = d.extractLsb' 0 16 := by apply BitVec.eq_of_toNat_eq; simp
  have h2 : BitVec.ofNat 16 (d.toNat / 65536) = d.extractLsb' 16 16 := by
    apply BitVec.eq_of_toNat_eq; simp [Nat.shiftRight_eq_div_pow]
  simp [toWords, h1, h2]

theorem liveEntries_two (g i k : Nat) (d : BitVec 32) :
    liveEntries g i k 2 d.toNat = [⟨pid g i k, d.extractLsb' 0 16⟩, ⟨pid g i k + 1, d.extractLsb' 16 16⟩] := by
  simp [liveEntries, toWords_two]

/-- A row that writes one word. -/
theorem liveTaken_one {s : State} {h : Hdr} {c : Instr} {g i k : Nat} {v : Word} (hc : exec c s = liveRow h g i k 1 v.toNat s)
    (hw : ∀ big, wordsAt big (pid g i k) 1 = true) : LiveTaken s h c [⟨pid g i k, v⟩] (pid g i k) [v] := by
  rw [liveRow, liveEntries_one] at hc
  refine liveTaken hc rfl rfl (fun _ _ _ => rfl) rfl ⟨_, List.mem_singleton_self _, rfl⟩ (fun d _ _ _ hd _ => wordsAt_some (hw _) hd) ?_
  simp [entryWords, assocSet, listed, assocGet]

/-- A row that writes two words. -/
theorem liveTaken_two {s : State} {h : Hdr} {c : Instr} {g i k : Nat} {d : BitVec 32} (hc : exec c s = liveRow h g i k 2 d.toNat s)
    (hw : ∀ big, wordsAt big (pid g i k) 2 = true) :
    LiveTaken s h c [⟨pid g i k, d.extractLsb' 0 16⟩, ⟨pid g i k + 1, d.extractLsb' 16 16⟩] (pid g i k)
      [d.extractLsb' 0 16, d.extractLsb' 16 16] := by
  rw [liveRow, liveEntries_two] at hc
  refine liveTaken hc rfl rfl (fun _ _ _ => rfl) rfl ⟨_, List.mem_cons_self, rfl⟩ (fun d _ _ _ hd _ => wordsAt_some (hw _) hd) ?_
  simp [entryWords, assocSet, listed, assocGet]

/-- The entries of the named start (R506), which carry its mask and its frame. -/
def startEntries (fr : BitVec 64) (v : Word) : List Entry :=
  liveEntries gTMR 16 TMR.START_AT 1 v.toNat ++ liveEntries gTMR 16 TMR.START_FRAME 4 fr.toNat

/-- The named start carries both its parameters (R506). -/
theorem liveTaken_start (s : State) (h : Hdr) (fr : BitVec 64) (v : Word) :
    LiveTaken s h (.tmrStartAtWrite h fr v) (startEntries fr v) (pid gTMR 16 TMR.START_AT) [v] ∧
    LiveTaken s h (.tmrStartAtWrite h fr v) (startEntries fr v) (pid gTMR 16 TMR.START_FRAME) (toWords 4 fr.toNat) := by
  have hat : ∀ big, wordsAt big (pid gTMR 16 TMR.START_AT) 1 = true := by decide +kernel
  have hframe : ∀ big, wordsAt big (pid gTMR 16 TMR.START_FRAME) 4 = true := by decide +kernel
  have hc : exec (.tmrStartAtWrite h fr v) s = hostCmd h (cmdLive (startEntries fr v)) s := rfl
  constructor
  · refine liveTaken hc rfl rfl (fun _ _ _ => rfl) rfl ⟨_, List.mem_cons_self, rfl⟩ (fun d _ _ _ hd _ => wordsAt_some (hat _) hd) ?_
    simp [startEntries, liveEntries, toWords, entryWords, assocSet, listed, assocGet, pid, gTMR, TMR.START_AT, TMR.START_FRAME]
  · refine liveTaken hc rfl rfl (fun _ _ _ => rfl) rfl ⟨_, List.mem_cons_of_mem _ List.mem_cons_self, rfl⟩
      (fun d _ _ _ hd _ => wordsAt_some (hframe _) hd) ?_
    simp [startEntries, liveEntries, toWords, entryWords, assocSet, listed, assocGet, pid, gTMR, TMR.START_AT, TMR.START_FRAME]

end Sys2Proof.Machine

open Sys2Proof Sys2Proof.Machine

/-- Settles O4: every row hands over the entries of one parameter, whose words the table gives. -/
theorem liveWriteRows : Obligations.LiveWriteRows := by
  intro s h v
  have clear : ∀ n < 6, ∀ big, wordsAt big (pid gSCH n SCH.MAP_CLEAR) 1 = true := by decide +kernel
  have storage : ∀ p < 4, ∀ big, wordsAt big (pid gCHG p CHG.STORAGE_REQ) 1 = true := by decide +kernel
  have topoff : ∀ p < 4, ∀ big, wordsAt big (pid gCHG p CHG.TOPOFF_REQ) 1 = true := by decide +kernel
  have captest : ∀ p < 4, ∀ big, wordsAt big (pid gCHG p CHG.CAPTEST_REQ) 1 = true := by decide +kernel
  have force : ∀ k < 4, ∀ big, wordsAt big (pid gSEQ (9 + k) SEQ.FORCE) 1 = true := by decide +kernel
  have step : ∀ j < 48, ∀ big, wordsAt big (pid gFRM j FRM.STEP_MAX) 1 = true := by decide +kernel
  have count : ∀ k < 16, ∀ big, wordsAt big (pid gTMR k TMR.COUNT) 2 = true := by decide +kernel
  have shadow : ∀ k < 16, ∀ big, wordsAt big (pid gTMR k TMR.PERIOD) 2 = true ∧ wordsAt big (pid gTMR k TMR.CMP_A) 2 = true ∧
    wordsAt big (pid gTMR k TMR.CMP_B) 2 = true := by decide +kernel
  refine ⟨liveTaken_one rfl (by decide +kernel), fun n hn => liveTaken_one rfl (clear n hn), liveTaken_one rfl (by decide +kernel),
    liveTaken_one rfl (by decide +kernel), liveTaken_one rfl (by decide +kernel), liveTaken_one rfl (by decide +kernel),
    liveTaken_one rfl (by decide +kernel), liveTaken_one rfl (by decide +kernel), fun p hp => ⟨liveTaken_one rfl (storage p hp),
    liveTaken_one rfl (topoff p hp), liveTaken_one rfl (captest p hp)⟩, fun d => liveTaken_two rfl (by decide +kernel),
    fun k hk => liveTaken_one rfl (force k hk), fun j hj => liveTaken_one rfl (step j hj), liveTaken_one rfl (by decide +kernel),
    liveTaken_one rfl (by decide +kernel), liveTaken_one rfl (by decide +kernel), liveTaken_one rfl (by decide +kernel),
    fun fr => liveTaken_start s h fr v, fun k d hk => ⟨liveTaken_two rfl (count k hk), fun which => ?_⟩⟩
  obtain ⟨period, cmpA, cmpB⟩ : (∀ big, wordsAt big (pid gTMR k TMR.PERIOD) 2 = true) ∧ (∀ big, wordsAt big (pid gTMR k TMR.CMP_A) 2 = true) ∧
    ∀ big, wordsAt big (pid gTMR k TMR.CMP_B) 2 = true := by simpa [forall_and] using shadow k hk
  cases which
  · exact liveTaken_two rfl period
  · exact liveTaken_two rfl cmpA
  · exact liveTaken_two rfl cmpB

end

section
/-! Staging, launches and acknowledgements (R61 to R75, R80, R81, R389, R391): the body of each command that passes its checks. -/

namespace Sys2Proof.Machine

theorem doBaste_ok {s : State} {c : Ctx} {set level : Nat} {es : List Entry} (hl : (s.link c.tr).priv = level) (hset : set ≤ 3) (hne : es ≠ [])
    (hlen : es.length ≤ 128) (hck : checkEntries s level false es = none) (hlock : setLock s set = none)
    (hroom : (entryWords es (s.host.sets.getD set {}).entries).length ≤ 512) :
    doBaste c set es s = (s.modSet set fun k => { k with entries := entryWords es (s.host.sets.getD set {}).entries }).answer c St.OK
      (leBytes 2 (entryWords es (s.host.sets.getD set {}).entries).length) := by
  have hcount : (es.isEmpty || decide (128 < es.length)) = false := by simp [hne, hlen]
  simp only [doBaste, if_neg (Nat.not_lt.mpr hset), hcount, hl, hck, hlock, if_neg (Nat.not_lt.mpr hroom), Bool.false_eq_true, if_false]
  rfl

theorem doBaste_failed {s : State} {c : Ctx} {set level st d : Nat} {es : List Entry} (hl : (s.link c.tr).priv = level) (hset : set ≤ 3)
    (hne : es ≠ []) (hlen : es.length ≤ 128) (hck : checkEntries s level false es = some (st, d)) :
    doBaste c set es s = s.answer c st (leBytes 2 d) := by
  simp [doBaste, Nat.not_lt.mpr hset, hne, Nat.not_lt.mpr hlen, hl, hck, State.refuse]

theorem doStitch_ok {s : State} {c : Ctx} {set level : Nat} (hl : (s.link c.tr).priv = level) (hset : set ≤ 3) (hlock : setLock s set = none)
    (hck : checkSet s (s.host.sets.getD set {}).entries (some level) = none) :
    doStitch c set 0 s = stitchNow c set (s.host.sets.getD set {}).entries false s := by
  simp only [doStitch, if_neg (Nat.not_lt.mpr hset), hlock, hl, hck, ne_eq, not_true_eq_false, if_false]

theorem doUnpick_ok {s : State} {set : Nat} (c : Ctx) (hset : set ≤ 3) (hlock : setLock s set = none) :
    doUnpick c set s = (s.modSet set fun k => { k with entries := [] }).answer c St.OK (leBytes 2 (s.host.sets.getD set {}).entries.length) := by
  simp [doUnpick, Nat.not_lt.mpr hset, hlock, State.okReply]

/-- A local launch with a set (R67). -/
theorem launchLocal_stitch {s : State} {c : Ctx} {set fl fr level : Nat} (hl : (s.link c.tr).priv = level) (hlock : setLock s set = none)
    (hck : checkSet s (s.host.sets.getD set {}).entries (some level) = none) (hfr : s.frame + 2 ≤ fr) (hroom : s.host.tide.length < 16) :
    launchLocal c 0 fl set fr s =
      (addLocal 0 fl set fr s).2.answer c St.OK (leBytes 2 (freeLid 17 s.host.tide s.host.nextLid)) := by
  simp only [launchLocal, hlock, hl, hck, if_neg (Nat.not_lt.mpr hfr), if_neg (Nat.not_le.mpr hroom)]
  rfl

/-- A local snapshot launch (R80). -/
theorem launchLocal_snapshot {s : State} {c : Ctx} {fl fr : Nat} (hfr : s.frame + 2 ≤ fr) (hroom : s.host.tide.length < 16) :
    launchLocal c 1 fl 0 fr s = (addLocal 1 fl 0 fr s).2.answer c St.OK (leBytes 2 (freeLid 17 s.host.tide s.host.nextLid)) := by
  simp only [launchLocal, if_neg (Nat.not_lt.mpr hfr), if_neg (Nat.not_le.mpr hroom)]
  rfl

theorem launchLocal_late {s : State} (c : Ctx) {fl fr : Nat} (hfr : fr < s.frame + 2) :
    launchLocal c 1 fl 0 fr s = s.answer c St.LAUNCH_TOO_LATE (leBytes 2 2) := by
  simp only [launchLocal, if_pos hfr]
  rfl

theorem doStitchLaunch_ok {s : State} {c : Ctx} {set fl fr : Nat} (hset : set ≤ 3) (hlast : fr ≤ lastFrame) :
    doStitchLaunch c set fl fr s = launchLocal c 0 fl set fr s := by
  simp only [doStitchLaunch, if_neg (Nat.not_lt.mpr hset), if_neg (Nat.not_lt.mpr hlast)]

theorem doLaunchAt_stitch {s : State} {c : Ctx} {set fl fr : Nat} (hset : set ≤ 3) (hlast : fr ≤ lastFrame) :
    doLaunchAt c 0 0 fl set fr s = launchLocal c 0 fl set fr s := by
  simp [doLaunchAt, Nat.not_lt.mpr hset, Nat.not_lt.mpr hlast]

theorem doLaunchAt_snapshot {s : State} {c : Ctx} {scope fl fr : Nat} (hscope : scope ≤ 1) (hlast : fr ≤ lastFrame) :
    doLaunchAt c 1 scope fl 0 fr s = if scope = 1 then launchFleet c 1 fl 0 fr s else launchLocal c 1 fl 0 fr s := by
  simp [doLaunchAt, Nat.not_lt.mpr hscope, Nat.not_lt.mpr hlast]

/-- LAUNCH_CANCEL of a local entry (R81). -/
theorem doLaunchCancel_local {s : State} {x : Tide} (c : Ctx) (hx : tideAt s x.lid = some x) (hs : x.scope ≠ 1) (hfr : s.frame + 2 ≤ x.frame) :
    doLaunchCancel c x.lid s = (dropLaunch x.lid s).answer c St.OK [] := by
  simp [doLaunchCancel, hx, hs, Nat.not_lt.mpr hfr, State.okReply]

/-- EVENT_ACK of the first entry with its number, no event lost (R75). -/
theorem doEventAck_ok {s : State} {i : Nat} {e : Event} (c : Ctx) (hlost : s.host.lost = 0) (he : s.host.events[i]? = some e)
    (hfirst : ∀ j, j < i → (s.host.events[j]?).map (·.seq) ≠ some e.seq) :
    doEventAck c e.seq s = (s.modHost fun h => { h with events := h.events.drop (ackCount h.events i) }).answer c St.OK
      (leBytes 2 (s.host.events.drop (ackCount s.host.events i)).length) := by
  have hidx : s.host.events.findIdx? (fun x => x.seq == e.seq) = some i := by
    obtain ⟨hi, rfl⟩ := List.getElem?_eq_some_iff.mp he
    refine List.findIdx?_eq_some_iff_getElem.mpr ⟨hi, by simp, fun j hj => ?_⟩
    have := hfirst j hj
    simpa [List.getElem?_eq_getElem (hj.trans hi)] using this
  simp [doEventAck, hidx, tellLost, hlost, State.okReply]

/-! A fleet launch by the root (R391). -/

/-- A frame forwarded to the children moves the fleet lines alone. -/
theorem fwdDown_ports (f : FFrame) (s : State) : ∃ ps, fwdDown f s = s.modFleet fun x => { x with ports := ps } := by
  unfold fwdDown
  generalize childPorts s = qs
  induction qs generalizing s with
  | nil => exact ⟨s.fleet.ports, rfl⟩
  | cons q qs ih =>
    obtain ⟨ps, e⟩ := ih (s.modFl q fun p => p.give 0 f)
    exact ⟨ps, e⟩

/-- A broadcast of the root leaves the host side and takes the next number (R371). -/
theorem broadcast_fields (typ src : Nat) (pay : List Byte) (s : State) :
    (broadcast typ src pay s).host = s.host ∧ (broadcast typ src pay s).frame = s.frame ∧
      (broadcast typ src pay s).fleet.bseq = (s.fleet.bseq + 1) % 65536 := by
  unfold broadcast
  dsimp only
  generalize hu : State.drawn _ 1 = u
  obtain ⟨ps, e⟩ := fwdDown_ports { mkFrame s 0 typ 2 ((s.fleet.bseq + 1) % 65536) pay with src := src } u
  rw [e, ← hu]
  exact ⟨rfl, rfl, rfl⟩

theorem fld_append_leBytes {a : List Byte} {o k n : Nat} (ho : a.length = o) (hn : n < 256 ^ k) : fld (a ++ leBytes k n) o k = n := by
  rw [fld, List.drop_left' ho, List.take_of_length_le (length_leBytes k n).le, leNat_leBytes, Nat.mod_eq_of_lt hn]

/-- A snapshot launch of the fleet is in the root's own table (R391). -/
theorem sendLaunch_root {s : State} {fl fr : Nat} (hroot : s.fleet.st = .root) (hfr : s.frame + 2 ≤ fr) (hlast : fr ≤ lastFrame)
    (hroom : s.host.tide.length < 16) :
    ((sendLaunch 1 fl 0 fr s).2.host.tide.length = s.host.tide.length + 1) ∧
      (sendLaunch 1 fl 0 fr s).2.fleet.bseq = (s.fleet.bseq + 1) % 65536 := by
  unfold sendLaunch originate
  dsimp only
  set pay := leBytes 2 (fleetLid s).1 ++ [byte 1, byte fl, byte 0, 0, 0, 0] ++ leBytes 8 fr with hpay
  obtain ⟨hh, hf, hb⟩ := broadcast_fields Eli.LAUNCH (fleetLid s).2.fleet.addr pay (fleetLid s).2
  rw [if_pos (show (fleetLid s).2.fleet.st = .root from hroot)]
  have hframe : fld pay 8 8 = fr := fld_append_leBytes (by simp [length_leBytes]) (by unfold lastFrame at hlast; omega)
  have hact : fld pay 2 1 = 1 := by
    have : pay = leBytes 2 (fleetLid s).1 ++ ([byte 1, byte fl, byte 0, 0, 0, 0] ++ leBytes 8 fr) := by rw [hpay, List.append_assoc]
    rw [this, fld, List.drop_left' (length_leBytes 2 _)]
    rfl
  generalize broadcast Eli.LAUNCH (fleetLid s).2.fleet.addr pay (fleetLid s).2 = u at hh hf hb
  have h1 : ¬ fr < u.frame + 2 := by rw [hf]; exact Nat.not_lt.mpr hfr
  have h2 : ¬ 16 ≤ u.host.tide.length := by rw [hh]; exact Nat.not_le.mpr hroom
  simp only [takeLaunch, hframe, hact, if_neg h1, if_neg h2]
  have htide : u.host.tide = s.host.tide := by rw [hh]; rfl
  simp [htide]
  exact hb

end Sys2Proof.Machine
end

section
/-! The configuration rows: staging, launches, live writes and acknowledgements behind the gate. -/

namespace Sys2Proof.Machine

/-- Behind the gate the replies of the command's transport wait as before. -/
theorem hostCmd_relinked_replies {s : State} {h : Hdr} {k : Cmd} (r : HostReady s h k.opc k.ver k.priv)
    (hk : (k.fits false && decide (k.len ≤ 1024)) = true) :
    ∃ spi i2c can fs, hostCmd h k s = .next (k.body (ctxOf h k.opc) (s.relinked spi i2c can fs)) ∧
      ((s.relinked spi i2c can fs).link h.tr).priv = (s.link h.tr).priv ∧
      ((s.relinked spi i2c can fs).link h.tr).replies = (s.link h.tr).replies := by
  obtain ⟨spi, i2c, can, ha, hp, -⟩ := arrived_relinked s r.2.1 k.opc
  have hr : ((arrived h k.opc s).link h.tr).replies = (s.link h.tr).replies := by
    rw [arrived, link_modLink]
    cases h.tr <;> rfl
  exact ⟨spi, i2c, can, s.host.flights ++ [⟨h.tr, some h.tag, k.opc, s.age, false⟩], by rw [hostCmd_eq r hk, ha], hp, by rw [← hr, ha]⟩

/-- The first ID of a one-word parameter is not behind any of its IDs. -/
theorem firstId_le {big : Bool} {id : Nat} {d : ParamDef} (hd : paramAt big id = some d) : firstId d id ≤ id := by
  unfold paramAt at hd
  split at hd
  · have hp := List.find?_some hd
    simp only [Bool.and_eq_true, decide_eq_true_eq] at hp
    obtain ⟨⟨-, hidx⟩, -⟩ := hp
    simp only [firstId, pid, idGroup, idInst, idIndex, bits, Nat.shiftRight_eq_div_pow] at hidx ⊢
    omega
  · cases hd

/-- A single entry that carries a whole one-word parameter names its first word. -/
theorem firstId_of_wholeBits {big : Bool} {id : Nat} {d : ParamDef} {v : Word} (hd : paramAt big id = some d) (hw : d.words = 1)
    (h : (wholeBits [⟨id, v⟩] d (firstId d id) ⟨id, v⟩).isSome = true) : firstId d id = id := by
  by_contra hne
  have hlt : firstId d id < id := lt_of_le_of_ne (firstId_le hd) hne
  obtain ⟨k, hk⟩ := Nat.exists_eq_succ_of_ne_zero (Nat.sub_ne_zero_of_lt hlt)
  simp [wholeBits, hw, lastWords, hk, Ne.symm hne] at h

/-- A local entry joins the table whatever the transports are. -/
theorem OnlyReplies.addLocal (action fl arg fr : Nat) (s : State) (spi i2c can : Link) (fs : List Flight) :
    OnlyReplies (addLocal action fl arg fr s).2 (addLocal action fl arg fr (s.relinked spi i2c can fs)).2 := by
  unfold Machine.addLocal
  rfl

/-- A list of 128 entries fits a packet. -/
theorem cmdBaste_fits {set : Nat} {es : List Entry} (hes : es.length ≤ 128) :
    ((cmdBaste set es).fits false && decide ((cmdBaste set es).len ≤ 1024)) = true := by
  have : 2 + 4 * es.length ≤ 1024 := by omega
  exact decide_eq_true this

/-- PARAM_BASTE of entries that pass their checks, behind the gate (R61). -/
theorem paramBaste_taken {s : State} {h : Hdr} {set : Nat} {es : List Entry} (r : HostReady s h 0x11 2 1) (hset : set ≤ 3) (hne : es ≠ [])
    (hes : es.length ≤ 128) (hck : checkEntries s (s.link h.tr).priv false es = none) (hlock : setLock s set = none)
    (hroom : (entryWords es (s.host.sets.getD set {}).entries).length ≤ 512) :
    ∃ t, exec (.paramBaste h set es) s = .next t ∧ Replied t h St.OK (leBytes 2 (entryWords es (s.host.sets.getD set {}).entries).length) ∧
      OnlyReplies (s.modSet set fun k => { k with entries := entryWords es (s.host.sets.getD set {}).entries }) t :=
  answered_of_body (k := cmdBaste set es) (st := St.OK) (pay := leBytes 2 (entryWords es (s.host.sets.getD set {}).entries).length)
    (fun z => z.modSet set fun k => { k with entries := entryWords es (s.host.sets.getD set {}).entries }) r rfl (cmdBaste_fits hes)
    fun spi i2c can fs hp => ⟨rfl, doBaste_ok (s := s.relinked spi i2c can fs) hp hset hne hes hck hlock hroom⟩

/-- PARAM_STITCH with MODE 0 of a set that passes its check, behind the gate: the transports stand but for the command in flight (R64). -/
theorem paramStitch_taken {s : State} {h : Hdr} {set fl : Nat} (r : HostReady s h 0x12 2 1) (hset : set ≤ 3) (hlock : setLock s set = none)
    (hck : checkSet s (s.host.sets.getD set {}).entries (some (s.link h.tr).priv) = none) :
    ∃ t, exec (.paramStitch h set fl 0) s = .next t ∧
      OnlyReplies (stitchNow ⟨h.tr, some h.tag, h.cyc, 0x12⟩ set (s.host.sets.getD set {}).entries false s) t ∧
      (t.link h.tr).replies = (s.link h.tr).replies := by
  obtain ⟨spi, i2c, can, fs, e, hp, hrep⟩ := hostCmd_relinked_replies (k := cmdStitch set 0) r rfl
  refine ⟨_, e.trans (congrArg _ (doStitch_ok (s := s.relinked spi i2c can fs) hp hset hlock hck)), rfl, ?_⟩
  rw [← hrep]
  cases h.tr <;> rfl

/-- A local launch with a set, by either command, behind the gate (R67, R80). -/
theorem stitchLaunch_taken {s : State} {h : Hdr} {set fl fr : Nat} {c : Instr} {k : Cmd} (r : HostReady s h k.opc k.ver k.priv)
    (hc : exec c s = hostCmd h k s) (hk : (k.fits false && decide (k.len ≤ 1024)) = true)
    (hbody : ∀ x u, k.body x u = launchLocal x 0 fl set fr u) (hlock : setLock s set = none)
    (hck : checkSet s (s.host.sets.getD set {}).entries (some (s.link h.tr).priv) = none) (hfr : s.frame + 2 ≤ fr)
    (hroom : s.host.tide.length < 16) :
    ∃ t, exec c s = .next t ∧ Replied t h St.OK (leBytes 2 (freeLid 17 s.host.tide s.host.nextLid)) ∧ OnlyReplies (addLocal 0 fl set fr s).2 t :=
  answered_of_body (st := St.OK) (pay := leBytes 2 (freeLid 17 s.host.tide s.host.nextLid)) (fun z => (addLocal 0 fl set fr z).2) r hc hk
    fun spi i2c can fs hp => ⟨.addLocal .., (hbody _ _).trans (launchLocal_stitch (s := s.relinked spi i2c can fs) hp hlock hck hfr hroom)⟩

/-- A snapshot launch of the root, behind the gate (R391). -/
theorem fleetLaunch_taken {s : State} {h : Hdr} {fl fr : Nat} (r : HostReady s h 0x18 3 2) (hlast : fr ≤ lastFrame) (hcut : cutOff s = false)
    (hfr : s.frame + leadMin s ≤ fr) (hroom : s.host.tide.length < 16) (hroot : s.fleet.st = .root) :
    ∃ t pay, exec (.launchAtSnapshot h 1 fl 0 fr) s = .next t ∧ Replied t h St.OK pay ∧ t.host.tide.length = s.host.tide.length + 1 ∧
      t.fleet.bseq = (s.fleet.bseq + 1) % 65536 := by
  obtain ⟨spi, i2c, can, fs, e, -⟩ := hostCmd_relinked (k := cmdLaunchAt 1 1 fl 0 fr) r rfl
  have hlead : s.frame + 2 ≤ fr := le_trans (by unfold leadMin; omega) hfr
  obtain ⟨htide, hbseq⟩ := sendLaunch_root (s := s.relinked spi i2c can fs) (fl := fl) hroot hlead hlast hroom
  have hbody : doLaunchAt (ctxOf h 0x18) 1 1 fl 0 fr (s.relinked spi i2c can fs) =
      (sendLaunch 1 fl 0 fr (s.relinked spi i2c can fs)).2.answer (ctxOf h 0x18) St.OK
        (leBytes 2 (sendLaunch 1 fl 0 fr (s.relinked spi i2c can fs)).1) := by
    have hcut' : cutOff (s.relinked spi i2c can fs) = false := hcut
    have h1 : ¬ fr < (s.relinked spi i2c can fs).frame + leadMin (s.relinked spi i2c can fs) := Nat.not_lt.mpr hfr
    have h2 : ¬ 16 ≤ (s.relinked spi i2c can fs).host.tide.length := Nat.not_le.mpr hroom
    simp only [doLaunchAt_snapshot le_rfl hlast, launchFleet, hcut', if_neg h1, if_neg h2, if_true, Bool.false_eq_true, if_false, State.okReply]
  have ho := OnlyReplies.answer (sendLaunch 1 fl 0 fr (s.relinked spi i2c can fs)).2 (c := ctxOf h 0x18) r.2.1 St.OK
    (leBytes 2 (sendLaunch 1 fl 0 fr (s.relinked spi i2c can fs)).1)
  refine ⟨_, _, e.trans (congrArg _ hbody), answer_repliedTo _ (ctxOf h 0x18) _ _, ?_, ?_⟩
  · rw [ho.host.2.1, htide]; rfl
  · exact (congrArg (fun j : Jobs => j.fleet.bseq) ho.fields.1).trans hbseq

end Sys2Proof.Machine

open Sys2Proof Sys2Proof.Machine

/-- Settles O3: each body from the state behind the gate, its answer the reply. -/
theorem hostConfigRows : Obligations.HostConfigRows := by
  intro s h
  refine ⟨?baste, ?failed, ?stitch, ?stitchLaunch, ?unpick, ?live, ?launchStitch, ?snapshot, ?late, ?fleet, ?cancel, ?ack⟩
  case baste =>
    intro set es l r hset hlen hne hes hck hlock hl hroom
    subst hl
    obtain ⟨t, e, hr, ho⟩ := paramBaste_taken r hset hne hes hck hlock hroom
    obtain ⟨hsets, -, -, -, hev, -⟩ := ho.host
    refine ⟨t, e, hr, ?_, fun k hk => ?_, ho.fields.2.1, hev⟩
    · rw [hsets]; exact congrArg StageSet.entries (modAt_getD_self hlen _ _)
    · rw [hsets]; exact modAt_getD_ne hk _ _ _
  case failed =>
    intro set es st d r hset hne hes hck
    exact answers_of_body (k := cmdBaste set es) r rfl (cmdBaste_fits hes) fun spi i2c can fs hp =>
      ⟨_, .refl _, doBaste_failed (s := s.relinked spi i2c can fs) hp hset hne hes hck⟩
  case stitch =>
    intro set fl es r hset hlen hlock hes hck
    subst hes
    obtain ⟨t, e, ho, hrep⟩ := paramStitch_taken (fl := fl) r hset hlock hck
    obtain ⟨hsets, -, hst, -⟩ := ho.host
    refine ⟨t, _, e, hst, rfl, rfl, rfl, rfl, rfl, ?_, ho.fields.2.1, hrep⟩
    rw [hsets]; exact congrArg StageSet.entries (modAt_getD_self hlen _ _)
  case stitchLaunch =>
    intro set fl fr lid r hset hlen hlast hlock hck hfr hroom hlid
    subst hlid
    obtain ⟨t, e, hr, ho⟩ := stitchLaunch_taken (c := .paramStitchLaunch h set fl fr) (k := cmdStitchLaunch set fl fr) r rfl rfl
      (fun _ _ => doStitchLaunch_ok hset hlast) hlock hck hfr hroom
    obtain ⟨hsets, htide, -⟩ := ho.host
    have hself : t.host.sets.getD set {} = { s.host.sets.getD set {} with heldBy := some (freeLid 17 s.host.tide s.host.nextLid) } := by
      rw [hsets]; exact modAt_getD_self hlen _ _
    exact ⟨t, e, hr, htide, by rw [hself], by rw [hself], ho.fields.2.1⟩
  case unpick =>
    intro set r hset hlen hlock
    obtain ⟨t, e, hr, ho⟩ := answered_of_body (c := .paramUnpick h set) (k := cmdUnpick set) (st := St.OK)
      (pay := leBytes 2 (s.host.sets.getD set {}).entries.length)
      (fun z => z.modSet set fun k => { k with entries := [] }) r rfl rfl
      fun spi i2c can fs _ => ⟨rfl, doUnpick_ok (s := s.relinked spi i2c can fs) _ hset hlock⟩
    obtain ⟨hsets, -⟩ := ho.host
    refine ⟨t, e, hr, ?_, fun k hk => ?_, ho.fields.2.1⟩
    · rw [hsets]; exact congrArg StageSet.entries (modAt_getD_self hlen _ _)
    · rw [hsets]; exact modAt_getD_ne hk _ _ _
  case live =>
    intro id v d hd hw
    refine liveTaken (k := cmdWriteLive [⟨id, v⟩]) rfl rfl rfl (fun x u hx => ?_) rfl
      ⟨_, List.mem_singleton_self _, rfl⟩ (fun d' e he _ hd' hwhole => ?_) ?_
    · show (if x.tag.isNone then _ else _) = _
      rw [hx]; rfl
    · cases List.mem_singleton.mp he
      obtain rfl : d' = d := Option.some.inj (hd'.symm.trans hd)
      exact ⟨firstId_of_wholeBits hd hw hwhole, hw⟩
    · simp [entryWords, assocSet, listed, assocGet]
  case launchStitch =>
    intro set fl fr lid r hset hlen hlast hlock hck hfr hroom hlid
    subst hlid
    obtain ⟨t, e, hr, ho⟩ := stitchLaunch_taken (c := .launchAtStitch h 0 fl set fr) (k := cmdLaunchAt 0 0 fl set fr) r rfl rfl
      (fun _ _ => doLaunchAt_stitch hset hlast) hlock hck hfr hroom
    obtain ⟨hsets, htide, -⟩ := ho.host
    refine ⟨t, e, hr, htide, ?_, ho.fields.2.1⟩
    rw [hsets]; exact congrArg StageSet.heldBy (modAt_getD_self hlen _ _)
  case snapshot =>
    intro fl fr lid r hlast hfr hroom hlid
    subst hlid
    obtain ⟨t, e, hr, ho⟩ := answered_of_body (c := .launchAtSnapshot h 0 fl 0 fr) (k := cmdLaunchAt 1 0 fl 0 fr) (st := St.OK)
      (pay := leBytes 2 (freeLid 17 s.host.tide s.host.nextLid))
      (fun z => (addLocal 1 fl 0 fr z).2) r rfl rfl fun spi i2c can fs _ => ⟨.addLocal .., (doLaunchAt_snapshot (Nat.zero_le 1) hlast).trans
        (launchLocal_snapshot (s := s.relinked spi i2c can fs) hfr hroom)⟩
    obtain ⟨hsets, htide, -⟩ := ho.host
    exact ⟨t, e, hr, htide, hsets⟩
  case late =>
    intro fl fr r hlast hfr
    exact answers_of_body (k := cmdLaunchAt 1 0 fl 0 fr) r rfl rfl fun spi i2c can fs _ => ⟨_, .refl _,
      (doLaunchAt_snapshot (Nat.zero_le 1) hlast).trans (launchLocal_late (s := s.relinked spi i2c can fs) _ hfr)⟩
  case fleet =>
    intro fl fr r hlast hcut hfr hroom hroot
    exact fleetLaunch_taken r hlast hcut hfr hroom hroot
  case cancel =>
    intro x r hx hs hfr
    obtain ⟨t, e, hr, ho⟩ := answered_of_body (c := .launchCancel h x.lid) (k := cmdLaunchCancel x.lid) (st := St.OK) (pay := []) (dropLaunch x.lid)
      r rfl rfl
      fun spi i2c can fs _ => ⟨rfl, doLaunchCancel_local (s := s.relinked spi i2c can fs) _ hx hs hfr⟩
    obtain ⟨-, htide, -, -, hev, -⟩ := ho.host
    exact ⟨t, e, hr, htide, ho.fields.2.1, hev⟩
  case ack =>
    intro i x r hlost hx hfirst
    obtain ⟨t, e, hr, ho⟩ := answered_of_body (c := .eventAck h x.seq) (k := cmdEventAck x.seq) (st := St.OK)
      (pay := leBytes 2 (s.host.events.drop (ackCount s.host.events i)).length)
      (fun z => z.modHost fun k => { k with events := k.events.drop (ackCount k.events i) }) r rfl rfl
      fun spi i2c can fs _ => ⟨rfl, doEventAck_ok (s := s.relinked spi i2c can fs) _ hlost hx hfirst⟩
    obtain ⟨-, -, -, -, hev, hl, -⟩ := ho.host
    exact ⟨t, e, hev, hl.trans hlost, by rw [hev]; exact hr, ho.fields.2.1⟩

end

section
/-! Reads of replies on the transports and what expires (R34 to R39, R43 to R48, R53). -/

namespace Sys2Proof.Machine

/-- A reply read to its CRC leaves its transport (R35, R43). -/
theorem clockOut_ready {s : State} {tr : Transport} {r : Reply} {l : List Reply} (n : Nat) (h : (s.link tr).replies = r :: l)
    (hr : r.ready ≤ s.frame) :
    clockOut tr n s =
      if n < r.bytes.length then s.modLink tr fun k => { k with lastOut := r.bytes.take n ++ rep (n - r.bytes.length) 0xFF }
      else ((s.modLink tr fun k => { k with lastOut := r.bytes.take n ++ rep (n - r.bytes.length) 0xFF }).modLink tr fun k =>
        { k with replies := k.replies.erase r }).modHost fun h => { h with flights := freeTag h.flights tr r } := by
  simp [clockOut, h, hr]

theorem clockOut_none {s : State} {tr : Transport} (n : Nat) (h : (s.link tr).replies = []) :
    clockOut tr n s = s.modLink tr fun k => { k with lastOut := rep n 0xFF } := by
  simp [clockOut, h]

/-- What SPI_MISO shows while nothing is read (R36, R449). -/
theorem misoIdle_eq (n : Nat) (s : State) :
    misoIdle n s = if powered s = true ∧ (s.ctl.state ≠ .boot ∨ s.ctl.loader = true) then rep n 0xFF else [] := by
  simp [misoIdle, misoDriven]

/-- What waits on CAN FD once it has been sent out. -/
theorem flushCan_replies {s : State} (hrun : s.coreRuns = true) :
    s.flushCan.host.can.replies = s.host.can.replies.filter fun r => !decide (r.ready ≤ s.frame) := by
  simp [State.flushCan, hrun]

theorem flushCan_sent {s : State} (hrun : s.coreRuns = true) {r : Reply} (h : r ∈ s.host.can.replies) (hr : r.ready ≤ s.frame) :
    ∃ c : Nat × Nat × Nat, ∀ d ∈ segments 20 0 true r.bytes, (⟨c.1, c.2.1, c.2.2, d⟩ : CanOut) ∈ s.flushCan.host.canOut := by
  refine ⟨r.can.getD (canSettings s), fun d hd => ?_⟩
  simp only [State.flushCan, hrun, Bool.not_true, Bool.false_eq_true, if_false, State.modHost_fields, List.mem_append, List.mem_flatMap, List.mem_map,
    List.mem_filter, decide_eq_true_eq]
  exact .inr ⟨r, ⟨h, hr⟩, d, hd, rfl⟩

/-- With no reply of an inner command and no inner command, the fleet has nothing to send on (R393). -/
theorem flushInner_idle {s : State} (h : s.host.inner.replies = []) (hf : s.fleet.inner = []) : flushInner s = s := by
  have hinner : ({ s.host.inner with replies := [] } : Link) = s.host.inner := by rw [← h]
  have hfleet : ({ s.fleet with inner := [] } : Fleet) = s.fleet := by rw [← hf]
  have he : flushInner s = { s with
      host := { s.host with inner := { s.host.inner with replies := [] } }, jobs := { s.jobs with fleet := { s.fleet with inner := [] } } } := by
    have hj : s.jobs.fleet.inner = [] := hf
    simp [flushInner, h, hj, State.modHost, State.modFleet, State.modJobs, State.fleet]
  rw [he, hinner, hfleet]
  rfl

/-- An answer on a host transport leaves the inner commands of the fleet. -/
theorem OnlyReplies.inner {s t : State} (h : OnlyReplies s t) : t.host.inner = s.host.inner ∧ t.fleet.inner = s.fleet.inner := by
  refine ⟨by rw [h], ?_⟩
  exact congrArg (fun j : Jobs => j.fleet.inner) h.fields.1

/-- An event leaves the transports. -/
theorem raise_link (s : State) (c a : Nat) (k : Transport) : (s.raise c a).link k = s.link k := by
  have e : OnlyEvents s (s.raise c a) := .raise s c a
  unfold OnlyEvents at e
  rw [e]
  cases k <;> rfl

theorem link_modLink_ne (s : State) {tr k : Transport} (h : k ≠ tr) (f : Link → Link) : (s.modLink tr f).link k = s.link k := by
  cases tr <;> cases k <;> simp at h <;> rfl

/-- Stitches that owe their replies to other commands go on as they are. -/
theorem forgetOwes_none {s : State} {k : Transport × Option Nat} (h : ∀ x ∈ s.host.stitches, x.owes ≠ some k) :
    (s.modHost fun h => { h with stitches := h.stitches.map fun (x : Stitch) => if x.owes = some k then { x with owes := none } else x }) = s := by
  have hmap : (s.host.stitches.map fun (x : Stitch) => if x.owes = some k then { x with owes := none } else x) = s.host.stitches :=
    (List.map_congr_left fun x hx => if_neg (h x hx)).trans (List.map_id _)
  rw [State.modHost, hmap]

end Sys2Proof.Machine

open Sys2Proof Sys2Proof.Machine

/-- Settles O52: what each read clocks out, and what each expiry takes away. -/
theorem transportReadAndExpiryRows : Obligations.TransportReadAndExpiryRows := by
  intro s
  refine ⟨?spi, ?i2c, ?closed, ?none, ?busOff, ?result, ?snapshot, ?early, ?abandon, ?discard, ?priv⟩
  case spi =>
    intro r l n hacc hl hr
    refine ⟨_, rfl, ?_⟩
    rw [if_pos hacc, clockOut_ready (tr := .spi) n hl hr]
    split
    · next hn => exact ⟨rfl, fun _ => ⟨hl, rfl⟩, fun hle => absurd hn (Nat.not_lt.mpr hle), rfl, rfl, rfl⟩
    · next hn =>
      refine ⟨rfl, fun h => absurd h hn, fun _ => ⟨?_, rfl⟩, rfl, rfl, rfl⟩
      show s.host.spi.replies.erase r = l
      rw [hl, List.erase_cons_head]
  case i2c =>
    intro r l n hacc hl hr
    refine ⟨_, rfl, ?_⟩
    rw [if_pos hacc, clockOut_ready (tr := .i2c) n hl hr]
    split
    · next hn => exact ⟨rfl, fun _ => ⟨hl, rfl⟩, fun hle => absurd hn (Nat.not_lt.mpr hle), rfl⟩
    · next hn =>
      refine ⟨rfl, fun h => absurd h hn, fun _ => ⟨?_, rfl⟩, rfl⟩
      show s.host.i2c.replies.erase r = l
      rw [hl, List.erase_cons_head]
  case closed =>
    intro n hacc
    show Host.Outcome.next _ = _
    rw [hacc, if_neg (by decide), ← misoIdle_eq]
    rfl
  case none =>
    intro n hacc hl
    show Host.Outcome.next _ = _
    rw [if_pos hacc, clockOut_none (tr := .spi) n hl]
    rfl
  case busOff =>
    intro hrun
    refine ⟨_, rfl, .flushCan s, fun r hr => ?_, fun r hr hready => flushCan_sent hrun hr hready⟩
    rw [flushCan_replies hrun] at hr
    simpa using hr
  case result =>
    intro num r hr ho
    simp only [exec, execResultExpiry, hr, if_neg ho]
    rfl
  case snapshot =>
    intro num r hr ho
    refine ⟨_, rfl, ?_⟩
    simp only [hr, if_pos ho]
    exact ⟨by simp, fun g hg => by simpa using (Option.filter_eq_some_iff.mp hg).2, rfl⟩
  case early =>
    intro num hr
    have hnone : s.host.results.find? (fun r => r.num == num && decide (r.until_ ≤ s.age)) = none := by
      simpa using hr
    simp only [exec, execResultExpiry, hnone]
  case abandon =>
    intro f tag hf hd htr htag hsince hrun hlive hfresh howes hinner hfl
    have hfind : s.host.flights.find? (fun f => !f.done && tagNo f.tr f.tag == tag && decide (f.since + 100000 ≤ s.age)) = some f := by
      simp [hf, hd, htag, tagNo, hsince]
    have ho := OnlyReplies.answer s (c := lateCtx f.tr f.tag f.opc) htr St.INTERNAL (leBytes 2 1)
    have hidle : flushInner (s.refuse (lateCtx f.tr f.tag f.opc) St.INTERNAL 1) = s.refuse (lateCtx f.tr f.tag f.opc) St.INTERNAL 1 :=
      flushInner_idle (by rw [State.refuse, ho.inner.1, hinner]) (by rw [State.refuse, ho.inner.2, hfl])
    have hrunAll : (!(s.coreRuns && s.live)) = false := by simp [hrun, hlive]
    refine ⟨_, ?_, answer_repliedTo s (lateCtx f.tr f.tag f.opc) St.INTERNAL (leBytes 2 1), ho.host.2.2.2.2.1, ho.fields.2.1, ho.fields.2.2.2.2.1⟩
    have hnone : s.host.fresh.find? (fun g => g.tr == f.tr && g.tag == f.tag) = none := by rw [hfresh]; rfl
    simp only [exec, execSimpleOpAbandon, hfind, hrunAll, hnone, Bool.false_eq_true, if_false, forgetOwes_none howes]
    exact congrArg _ hidle
  case discard =>
    intro r tag hl ht hs hi hc
    refine ⟨_, rfl, ?_⟩
    simp [hl, tagNo, ht, hs, hi, hc, State.link, elapsed, State.modLink]
  case priv =>
    intro tr htr hs
    have he : elapsed s (s.link tr).lastCmd (100000 * par s gSEC 0 SEC.PRIV_IDLE) = true := by simp [elapsed, hs]
    refine ⟨s.dropPriv tr, by simp [exec, execPrivIdleTimeout, htr, he], ?_⟩
    unfold State.dropPriv
    dsimp only
    split
    · next hlow =>
      have hlink (k : Transport) : ((s.modLink tr fun l => { l with priv := par s gSEC 0 SEC.PRIV_DEFAULT }).raise Ev.PRIV_DROPPED
          (trNum tr * 256 + par s gSEC 0 SEC.PRIV_DEFAULT)).link k =
          (s.modLink tr fun l => { l with priv := par s gSEC 0 SEC.PRIV_DEFAULT }).link k := raise_link _ _ _ _
      refine ⟨?_, fun k hk => ?_, fun _ => ?_, fun h => absurd hlow (Nat.not_lt.mpr h)⟩
      · rw [hlink, link_modLink, Nat.min_eq_right hlow.le]
      · rw [hlink, link_modLink_ne _ hk]
      · obtain ⟨-, -, -, -, hev, hl, -⟩ := (OnlyReplies.modLink s htr fun l => { l with priv := par s gSEC 0 SEC.PRIV_DEFAULT }).host
        exact .of_keeps (.of_host_events hev hl) (.raise _ _ _)
    · next hhigh => exact ⟨(Nat.min_eq_left (Nat.not_lt.mp hhigh)).symm, fun _ _ => rfl, fun h => absurd h hhigh, fun _ => rfl⟩

end

section
/-! Packets (R40, R41, R58): what the fields of a packet read back, and the command that it spells. -/

namespace Sys2Proof.Machine

/-- One bit of a CRC register of 16 bits stays one. -/
theorem crcStep_lt {c : Nat} : crcStep 16 0x1021 c < 2 ^ 16 := by
  have h : (c * 2) % 2 ^ 16 < 2 ^ 16 := Nat.mod_lt _ (by decide)
  unfold crcStep
  split
  · exact Nat.xor_lt_two_pow h (by decide)
  · exact h

theorem crc16_lt (bs : List Byte) : crc16 bs < 65536 := by
  have hiter (k c : Nat) (hc : c < 2 ^ 16) : iter (crcStep 16 0x1021) k c < 2 ^ 16 := by
    induction k generalizing c with
    | zero => exact hc
    | succ k ih => exact ih _ crcStep_lt
  have hfold (c : Nat) (hc : c < 2 ^ 16) : bs.foldl (fun c b => iter (crcStep 16 0x1021) 8 (c ^^^ (b.toNat * 256))) c < 2 ^ 16 := by
    induction bs generalizing c with
    | nil => exact hc
    | cons b bs ih =>
      have hb : b.toNat * 256 < 2 ^ 16 := by have := b.isLt; omega
      exact ih _ (hiter 8 _ (Nat.xor_lt_two_pow hc hb))
  exact hfold 0xFFFF (by decide)

/-- A field behind the bytes before its offset. -/
theorem fld_behind {a b : List Byte} {o k n : Nat} (ho : a.length = o) (hn : n < 256 ^ k) : fld (a ++ (leBytes k n ++ b)) o k = n := by
  rw [fld, List.drop_left' ho, List.take_left' (length_leBytes k n), leNat_leBytes, Nat.mod_eq_of_lt hn]

theorem fld_zero {b : List Byte} {k n : Nat} (hn : n < 256 ^ k) : fld (leBytes k n ++ b) 0 k = n := fld_behind (a := []) rfl hn

theorem fld_leBytes {k n : Nat} (hn : n < 256 ^ k) : fld (leBytes k n) 0 k = n := by
  simpa using fld_zero (b := []) hn

theorem byte_toNat {n : Nat} (h : n < 256) : (byte n).toNat = n := by
  simp [byte, Nat.mod_eq_of_lt h]

/-- A sound packet behind its head (opcode, and in tagged framing the tag) is the command that its opcode and payload spell (R40, R42, R58). -/
theorem packetIn_sound {s : State} {tr : Transport} {hd pay : List Byte} {tag : Option Nat} (cyc : Nat) (hacc : accepts s = true)
    (hlen : pay.length ≤ 1024) (crc : Nat) (hcrc : crc < 65536)
    (hframe : (untagged s tr = false ∧ (∃ o tg, hd = [o, tg] ∧ tag = some tg.toNat)) ∨ (untagged s tr = true ∧ (∃ o, hd = [o]) ∧ tag = none)) :
    packetIn parseCmd tr (hd ++ leBytes 2 pay.length ++ pay ++ leBytes 2 crc) cyc s =
      if crc16 (hd ++ leBytes 2 pay.length ++ pay) ≠ crc then s.refuseEarly tr tag St.BAD_CRC crc
      else arrive tr tag cyc (fld hd 0 1) pay.length (parseCmd (untagged s tr) (fld hd 0 1) pay) s := by
  have hpay : pay.length < 256 ^ 2 := by omega
  have key (n : Nat) (hn : hd.length = n) (h2 : 1 ≤ n) :
      fld (hd ++ leBytes 2 pay.length ++ pay ++ leBytes 2 crc) n 2 = pay.length ∧
      fld (hd ++ leBytes 2 pay.length ++ pay ++ leBytes 2 crc) (n + 2 + pay.length) 2 = crc ∧
      (hd ++ leBytes 2 pay.length ++ pay ++ leBytes 2 crc).length = n + 2 + pay.length + 2 ∧
      (hd ++ leBytes 2 pay.length ++ pay ++ leBytes 2 crc).take (n + 2 + pay.length) = hd ++ leBytes 2 pay.length ++ pay ∧
      ((hd ++ leBytes 2 pay.length ++ pay ++ leBytes 2 crc).drop (n + 2)).take pay.length = pay ∧
      fld (hd ++ leBytes 2 pay.length ++ pay ++ leBytes 2 crc) 0 1 = fld hd 0 1 := by
    have hl : (hd ++ leBytes 2 pay.length ++ pay).length = n + 2 + pay.length := by simp [hn]; omega
    refine ⟨?_, fld_append_leBytes hl (by omega), by rw [List.length_append, hl, length_leBytes], List.take_left' hl, ?_, ?_⟩
    · rw [List.append_assoc, List.append_assoc]; exact fld_behind hn hpay
    · rw [List.append_assoc, List.drop_left' (by simp [hn]), List.take_left' rfl]
    · obtain ⟨b, l, rfl⟩ := List.exists_cons_of_length_pos (by omega : 0 < hd.length)
      simp [fld]
  rcases hframe with ⟨hun, o, tg, rfl, rfl⟩ | ⟨hun, ⟨o, rfl⟩, rfl⟩
  · obtain ⟨h1, h2, h3, h4, h5, h6⟩ := key 2 rfl (by decide)
    have htag : pktTag ([o, tg] ++ leBytes 2 pay.length ++ pay ++ leBytes 2 crc) = tg.toNat := by simp [pktTag]
    simp only [packetIn, hacc, hun, htag, Bool.not_true, Bool.false_eq_true, if_false, Nat.reduceSub, h1, h3, h6]
    rw [show 4 + pay.length = 2 + 2 + pay.length from rfl, h2, h4, h5, if_neg (by simp [hlen])]
  · obtain ⟨h1, h2, h3, h4, h5, h6⟩ := key 1 rfl (by decide)
    simp only [packetIn, hacc, hun, Bool.not_true, Bool.false_eq_true, if_false, if_true, Nat.reduceSub, h1, h3, h6]
    rw [show 3 + pay.length = 1 + 2 + pay.length from rfl, h2, h4, h5, if_neg (by simp [hlen])]

end Sys2Proof.Machine
end

section
/-! The packets of a command (R40, R58, R77): each of the rows named is what its packet spells. -/

namespace Sys2Proof.Machine

/-- The entries of a payload read back (R77). -/
theorem parseEntries_flatMap (es : List Entry) (h : ∀ e ∈ es, e.id < 65536) :
    parseEntries (es.flatMap fun e => leBytes 2 e.id ++ leBytes 2 e.val.toNat) = es := by
  induction es with
  | nil => rfl
  | cons e es ih =>
    have hid : (byte e.id).toNat + 256 * (byte (e.id / 256)).toNat = e.id := by
      have := h e List.mem_cons_self
      simp only [byte, BitVec.toNat_ofNat]
      omega
    have hv : (byte e.val.toNat).toNat + 256 * (byte (e.val.toNat / 256)).toNat = e.val.toNat := by
      have := e.val.isLt
      simp only [byte, BitVec.toNat_ofNat]
      omega
    have hstep (l : List Byte) : parseEntries (leBytes 2 e.id ++ leBytes 2 e.val.toNat ++ l) = e :: parseEntries l := by
      simp [leBytes, parseEntries, hid, hv]
    rw [List.flatMap_cons, hstep, ih fun e he => h e (List.mem_cons_of_mem _ he)]

theorem entryBytes_length (es : List Entry) : (es.flatMap fun e => leBytes 2 e.id ++ leBytes 2 e.val.toNat).length = 4 * es.length := by
  induction es with
  | nil => rfl
  | cons e es ih => simp only [List.flatMap_cons, List.length_append, length_leBytes, ih, List.length_cons]; omega

/-- A command spelled with its own LEN is itself. -/
theorem Cmd.at_len (k : Cmd) {n : Nat} {ok : Bool} (hn : n = k.len) (hok : ok = true) : k.at_ n ok = k := by
  subst hn hok
  obtain ⟨opc, ver, priv, len, fits, body⟩ := k
  simp [Cmd.at_]

theorem Cmd.sized_len (k : Cmd) {n : Nat} (hn : n = k.len) : k.sized n = k := k.at_len hn (by simp [hn])

/-- A row of tagged framing is the command k of the table, which its packet spells. -/
structure Spelled (h : Hdr) (p : List Byte) (c : Instr) (k : Cmd) (pay : List Byte) : Prop where
  packet : p = packet k.opc h.tag pay
  opc : k.opc < 256
  len : pay.length = k.len
  short : k.len ≤ 1024
  parse : parseCmd false k.opc pay = some k
  row : ∀ s, exec c s = hostCmd h k s

theorem Packs.spelled {h : Hdr} {p : List Byte} {c : Instr} (hp : Packs h p c) : ∃ k pay, Spelled h p c k pay := by
  rcases hp with ⟨rfl, rfl⟩ | ⟨rfl, rfl⟩ | ⟨rfl, rfl⟩ | ⟨rfl, rfl⟩ | ⟨id, hid, rfl, rfl⟩ | ⟨seq, hseq, rfl, rfl⟩ |
    ⟨set, es, hset, hes, hids, rfl, rfl⟩ | ⟨set, fl, fr, hset, hfl, hfr, rfl, rfl⟩
  · exact ⟨cmdGetInfo, [], rfl, by decide, rfl, by decide, congrArg some (Cmd.sized_len _ rfl), fun _ => rfl⟩
  · exact ⟨cmdTideRead, [], rfl, by decide, rfl, by decide, congrArg some (Cmd.sized_len _ rfl), fun _ => rfl⟩
  · exact ⟨cmdWdServe 0x51A7, _, rfl, by decide, rfl, by decide, congrArg some (Cmd.sized_len _ rfl), fun _ => rfl⟩
  · exact ⟨cmdWdServe 0xE48C, _, rfl, by decide, rfl, by decide, congrArg some (Cmd.sized_len _ rfl), fun _ => rfl⟩
  · refine ⟨cmdLaunchCancel id, _, rfl, (by decide : 0x19 < 256), rfl, (by decide : 2 ≤ 1024), ?_, fun _ => rfl⟩
    show some ((cmdLaunchCancel (fld (leBytes 2 id) 0 2)).sized 2) = _
    rw [fld_leBytes hid]
    exact congrArg some (Cmd.sized_len _ rfl)
  · refine ⟨cmdEventAck seq, _, rfl, (by decide : 0x29 < 256), rfl, (by decide : 2 ≤ 1024), ?_, fun _ => rfl⟩
    show some ((cmdEventAck (fld (leBytes 2 seq) 0 2)).sized 2) = _
    rw [fld_leBytes hseq]
    exact congrArg some (Cmd.sized_len _ rfl)
  · have hlen : ([byte set, byte es.length] ++ es.flatMap fun e => leBytes 2 e.id ++ leBytes 2 e.val.toNat).length = 2 + 4 * es.length := by
      rw [List.length_append, entryBytes_length]; rfl
    have hn : fld ([byte set, byte es.length] ++ es.flatMap fun e => leBytes 2 e.id ++ leBytes 2 e.val.toNat) 1 1 = es.length := byte_toNat hes
    have hs : fld ([byte set, byte es.length] ++ es.flatMap fun e => leBytes 2 e.id ++ leBytes 2 e.val.toNat) 0 1 = set := byte_toNat hset
    refine ⟨cmdBaste set es, _, rfl, (by decide : 0x11 < 256), hlen, (by show 2 + 4 * es.length ≤ 1024; omega), ?_, fun _ => rfl⟩
    have hparse : ∀ q : List Byte, parseCmd false 0x11 q =
        some ((cmdBaste (fld q 0 1) (parseEntries (q.drop 2))).at_ q.length (2 ≤ q.length && q.length = 2 + 4 * fld q 1 1)) := fun _ => rfl
    show parseCmd false 0x11 _ = _
    rw [hparse, hs, hn, hlen, List.drop_left' (show [byte set, byte es.length].length = 2 from rfl), parseEntries_flatMap es hids]
    exact congrArg some (Cmd.at_len _ rfl (by simp))
  · have hpay : fld ([byte set, byte 1, byte fl, 0] ++ leBytes 8 fr) 4 8 = fr := fld_append_leBytes rfl (by omega)
    have hset' : fld ([byte set, byte 1, byte fl, 0] ++ leBytes 8 fr) 0 1 = set := byte_toNat hset
    have hfl' : fld ([byte set, byte 1, byte fl, 0] ++ leBytes 8 fr) 2 1 = fl := byte_toNat hfl
    refine ⟨cmdStitchLaunch set fl fr, _, rfl, (by decide : 0x12 < 256), rfl, (by decide : 12 ≤ 1024), ?_, fun _ => rfl⟩
    show some ((cmdStitchLaunch (fld ([byte set, byte 1, byte fl, 0] ++ leBytes 8 fr) 0 1) (fld _ 2 1) (fld _ 4 8)).sized 12) = _
    rw [hset', hfl', hpay]
    exact congrArg some (Cmd.sized_len _ rfl)

/-- A row of version-1 framing is the command k of the table; its packet spells k', which differs from k in LEN and layout alone. -/
structure Spelled1 (p : List Byte) (h : Hdr) (c : Instr) (k k' : Cmd) (pay : List Byte) : Prop where
  packet : p = packet1 k.opc pay
  opc : k.opc < 256
  len : pay.length ≤ 1024
  short : k.len ≤ 1024
  parse : parseCmd true k.opc pay = some k'
  same : k'.ver = k.ver ∧ k'.priv = k.priv ∧ k'.body = k.body
  fits : k.fits true = true ∧ k'.fits true = true
  row : ∀ s, exec c s = hostCmd h k s

theorem Packs1.spelled {h : Hdr} {p : List Byte} {c : Instr} (hp : Packs1 h p c) : ∃ k k' pay, Spelled1 p h c k k' pay := by
  rcases hp with ⟨rfl, rfl⟩ | ⟨num, hnum, rfl, rfl⟩ | ⟨num, v, hnum, rfl, rfl⟩ | ⟨n, hn, rfl, rfl⟩ | ⟨rfl, rfl⟩
  · exact ⟨cmdGetInfo, cmdGetInfo.sized 0, [], rfl, by decide, by decide, by decide, rfl, ⟨rfl, rfl, rfl⟩, ⟨rfl, rfl⟩, fun _ => rfl⟩
  · have hf : fld [byte num] 0 1 = num := byte_toNat hnum
    refine ⟨cmdParamRead 0 [num], (cmdParamRead 0 [num]).at_ 1 true, [byte num], rfl, (by decide : 0x10 < 256), (by decide : 1 ≤ 1024),
      (by decide : 4 ≤ 1024), ?_, ⟨rfl, rfl, rfl⟩, ⟨by simp [cmdParamRead, hnum], by simp [Cmd.at_, cmdParamRead, hnum]⟩, fun _ => rfl⟩
    show some ((cmdParamRead 0 [fld [byte num] 0 1]).at_ 1 true) = _
    rw [hf]
  · have hf : fld ([byte num] ++ leBytes 2 v.toNat) 0 1 = num := byte_toNat hnum
    have hv : fld ([byte num] ++ leBytes 2 v.toNat) 1 2 = v.toNat := fld_append_leBytes rfl v.isLt
    refine ⟨cmdWriteLive [⟨num, v⟩], (cmdWriteLive [⟨num, v⟩]).at_ 3 true, [byte num] ++ leBytes 2 v.toNat, rfl, (by decide : 0x15 < 256),
      (by decide : 3 ≤ 1024), (by decide : 6 ≤ 1024), ?_, ⟨rfl, rfl, rfl⟩, ⟨by simp [cmdWriteLive, hnum], by simp [Cmd.at_, cmdWriteLive, hnum]⟩,
      fun _ => rfl⟩
    show some ((cmdWriteLive [⟨fld ([byte num] ++ leBytes 2 v.toNat) 0 1, BitVec.ofNat 16 (fld _ 1 2)⟩]).at_ 3 true) = _
    rw [hf, hv, BitVec.ofNat_toNat, BitVec.setWidth_eq]
  · have hf : fld [byte n] 0 1 = n := byte_toNat hn
    refine ⟨cmdEventRead n, (cmdEventRead n).sized 1, [byte n], rfl, (by decide : 0x28 < 256), (by decide : 1 ≤ 1024), (by decide : 1 ≤ 1024), ?_,
      ⟨rfl, rfl, rfl⟩, ⟨rfl, rfl⟩, fun _ => rfl⟩
    show some ((cmdEventRead (fld [byte n] 0 1)).sized 1) = _
    rw [hf]
  · exact ⟨cmdWdServe 0x51A7, (cmdWdServe 0x51A7).sized 2, _, rfl, by decide, (by decide : 2 ≤ 1024), by decide, rfl, ⟨rfl, rfl, rfl⟩, ⟨rfl, rfl⟩,
      fun _ => rfl⟩

/-- Behind the gate two commands whose layouts fit do the same where they take the same version, level and body. -/
theorem runCmd_congr {c : Ctx} {k k' : Cmd} (h : k'.ver = k.ver ∧ k'.priv = k.priv ∧ k'.body = k.body) (hf : k.fits c.tag.isNone = true)
    (hf' : k'.fits c.tag.isNone = true) (n n' : Nat) (s : State) : runCmd c (some k') n' s = runCmd c (some k) n s := by
  obtain ⟨hv, hp, hb⟩ := h
  simp [runCmd, hv, hp, hb, hf, hf']

/-- The packet of a row does on its transport what the row does. -/
theorem exec_eq_packetIn {s : State} {h : Hdr} {p : List Byte} {c : Instr} (htag : h.tag < 256)
    (hp : (untagged s h.tr = false ∧ Packs h p c) ∨ (untagged s h.tr = true ∧ Packs1 h p c)) :
    exec c s = .next (packetIn parseCmd h.tr p h.cyc s) := by
  rcases hp with ⟨hun, hp⟩ | ⟨hun, hp⟩
  · obtain ⟨k, pay, sp⟩ := hp.spelled
    rw [sp.row, sp.packet]
    by_cases hacc : accepts s = true
    · have hsound := packetIn_sound (hd := [byte k.opc, byte h.tag]) (tag := some h.tag) (tr := h.tr) h.cyc hacc (sp.len ▸ sp.short) _
        (crc16_lt ([byte k.opc, byte h.tag] ++ leBytes 2 pay.length ++ pay)) (.inl ⟨hun, byte k.opc, byte h.tag, rfl, by rw [byte_toNat htag]⟩)
      have hopc : fld [byte k.opc, byte h.tag] 0 1 = k.opc := byte_toNat sp.opc
      rw [if_neg (by simp), hopc, hun, sp.parse, sp.len] at hsound
      rw [packet, sp.len, hsound]
      simp [hostCmd, hacc, hun, Nat.not_lt.mpr sp.short]
    · simp [hostCmd, packetIn, hacc]
  · obtain ⟨k, k', pay, sp⟩ := hp.spelled
    rw [sp.row, sp.packet]
    by_cases hacc : accepts s = true
    · have hsound := packetIn_sound (hd := [byte k.opc]) (tag := none) (tr := h.tr) h.cyc hacc sp.len _
        (crc16_lt ([byte k.opc] ++ leBytes 2 pay.length ++ pay)) (.inr ⟨hun, ⟨_, rfl⟩, rfl⟩)
      have hopc : fld [byte k.opc] 0 1 = k.opc := byte_toNat sp.opc
      rw [if_neg (by simp), hopc, hun, sp.parse] at hsound
      rw [packet1, hsound]
      simp only [hostCmd, hacc, hun, Bool.not_true, Bool.false_eq_true, if_false, if_true, if_neg (Nat.not_lt.mpr sp.short), arrive]
      split
      · rfl
      · exact congrArg _ (runCmd_congr (c := ⟨h.tr, none, h.cyc, k.opc⟩) sp.same sp.fits.1 sp.fits.2 _ _ _).symm
    · simp [hostCmd, packetIn, hacc]

end Sys2Proof.Machine
end

section
/-! What each transport makes of the bytes that arrive on it (R34 to R39, R48). -/

namespace Sys2Proof.Machine

/-- A refusal before the tag space leaves the tags in flight. -/
theorem refuseEarly_flights (s : State) {tr : Transport} (h : tr ≠ .can) (tag : Option Nat) (st d : Nat) :
    (s.refuseEarly tr tag st d).host.flights = s.host.flights := by
  have e : (s.refuseEarly tr tag st d).host.flights = s.host.flights.map fun f =>
      if f.tr == tr && f.tag == tag && false then { f with done := true } else f := by
    cases tr
    case can => exact absurd rfl h
    all_goals rfl
  rw [e]
  simp

/-- A reply waits while its transport's last output changes. -/
theorem RepliedTo.lastOut {s : State} {tag : Option Nat} {st : Nat} {pay : List Byte} (h : RepliedTo s .spi tag st pay) (out : List Byte) :
    RepliedTo (s.modLink .spi fun l => { l with lastOut := out }) .spi tag st pay := by
  obtain ⟨r, h1, h2, h3, h4⟩ := h
  have hw : r ∈ (s.link .spi).replies := h4.resolve_right fun hc => by cases hc.1
  exact ⟨r, h1, h2, h3, .inl hw⟩

/-- A refusal before the tag space, behind an SPI write. -/
theorem refusedOnSpi (s : State) (tag : Option Nat) (st d : Nat) (out : List Byte) :
    OnlyReplies s ((s.refuseEarly .spi tag st d).modLink .spi fun l => { l with lastOut := out }) ∧
    ((s.refuseEarly .spi tag st d).modLink .spi fun l => { l with lastOut := out }).host.flights = s.host.flights ∧
    RepliedTo ((s.refuseEarly .spi tag st d).modLink .spi fun l => { l with lastOut := out }) .spi tag st (leBytes 2 d) :=
  ⟨(OnlyReplies.pushReply s (by decide) _).trans (.modLink _ (by decide) _), refuseEarly_flights s (by decide) tag st d,
    (refuseEarly_repliedTo s .spi tag st d).lastOut out⟩

/-- A packet whose LEN does not fit (R40, R42). -/
theorem packetIn_badLen {s : State} {tr : Transport} {o tg : Byte} {rest : List Byte} (cyc : Nat) (hacc : accepts s = true)
    (hun : untagged s tr = false) (h : (o :: tg :: rest).length ≠ fld rest 0 2 + 6 ∨ 1024 < fld rest 0 2) :
    packetIn parseCmd tr (o :: tg :: rest) cyc s = s.refuseEarly tr (some tg.toNat) St.BAD_LEN ((o :: tg :: rest).length % 65536) := by
  have hf : fld (o :: tg :: rest) 2 2 = fld rest 0 2 := rfl
  have hb : (o :: tg :: rest).length ≠ 4 + fld rest 0 2 + 2 ∨ 1024 < fld rest 0 2 := h.imp_left fun h => by omega
  simp only [packetIn, hacc, hun, Bool.not_true, Bool.false_eq_true, if_false, Nat.reduceSub, hf]
  rw [if_pos (by simpa using hb)]
  rfl

/-- The kind and the number of a segment header (R38). -/
theorem segHeader {k q : Nat} (hk : k < 4) (hq : q < 64) : (byte (64 * k + q)).toNat / 64 = k ∧ (byte (64 * k + q)).toNat % 64 = q := by
  rw [byte_toNat (by omega)]
  omega

theorem canFdSegment_eq {s : State} (hd : Byte) (d : List Byte) (cyc : Nat) (hacc : accepts s = true) :
    exec (.canFdSegment (hd :: d) cyc) s = .next (segmentIn (hd.toNat / 64) (hd.toNat % 64) d cyc s) := by
  simp [exec, execCanFdSegment, hacc]

/-- A continuing segment in order (R38, R39). -/
theorem segmentIn_next {s : State} {q a : Nat} {bs : List Byte} (hp : s.host.partial_ = some (q, bs, a)) (ha : s.age ≤ a + 1000) (hq : q < 63)
    (d : List Byte) (cyc : Nat) :
    segmentIn 2 (q + 1) d cyc s = s.modHost (fun h => { h with partial_ := some (q + 1, bs ++ d, s.age) }) ∧
    segmentIn 3 (q + 1) d cyc s = packetIn parseCmd .can (bs ++ d) cyc (s.modHost fun h => { h with partial_ := none }) := by
  have hmod : (q + 1) % 64 = q + 1 := Nat.mod_eq_of_lt (by omega)
  constructor <;> simp [segmentIn, hp, hmod, Nat.not_lt.mpr ha]

/-- A continuing segment out of order (R39). -/
theorem segmentIn_skipped {s : State} {q a k : Nat} {bs : List Byte} (hp : s.host.partial_ = some (q, bs, a)) (hk : k ≠ (q + 1) % 64) (d : List Byte)
    (cyc : Nat) : segmentIn 2 k d cyc s = dropPartial s := by
  simp [segmentIn, hp, hk]

end Sys2Proof.Machine

open Sys2Proof Sys2Proof.Machine

/-- Settles O51: the packet of a row is read as its command; what is not a sound packet is refused or dropped where R34 to R42 say so. -/
theorem transportWriteRows : Obligations.TransportWriteRows := by
  intro s h
  refine ⟨?sound, ?crc, ?len, ?spiClosed, ?i2cClosed, ?direction, ?start, ?continue_, ?skipped, ?gap, ?noGap, ?classic⟩
  case sound =>
    intro p c ht htag hp
    have e := exec_eq_packetIn htag hp
    refine ⟨fun htr => ⟨_, e, ?_⟩, fun htr => ⟨_, ?_, e⟩, fun htr hacc hpart => ⟨_, ?_, e⟩⟩
    · rw [htr]; rfl
    · rw [htr]; rfl
    · rw [canFdSegment_eq _ _ _ hacc, htr]
      simp [segmentIn, hpart]
  case crc =>
    intro o tg pay crc b tag hacc hlen hcrc hbad hframe
    have key : packetIn parseCmd h.tr (b ++ leBytes 2 crc) h.cyc s = s.refuseEarly h.tr tag St.BAD_CRC crc := by
      rcases hframe with ⟨hun, rfl, rfl⟩ | ⟨hun, rfl, rfl⟩
      · exact (packetIn_sound h.cyc hacc hlen crc hcrc (.inl ⟨hun, o, tg, rfl, rfl⟩)).trans (if_pos hbad)
      · exact (packetIn_sound h.cyc hacc hlen crc hcrc (.inr ⟨hun, ⟨o, rfl⟩, rfl⟩)).trans (if_pos hbad)
    refine ⟨fun htr => ?_, fun htr => ?_⟩ <;> rw [htr] at key
    · exact ⟨_, congrArg (fun t : State => Host.Outcome.next (t.modLink .spi _)) key, refusedOnSpi s tag St.BAD_CRC crc _⟩
    · exact ⟨_, congrArg Host.Outcome.next key, .pushReply s (by decide) _, refuseEarly_flights s (by decide) _ _ _, refuseEarly_repliedTo ..⟩
  case len =>
    intro o tg rest hacc hun hbad
    have key := packetIn_badLen h.cyc hacc hun hbad
    exact ⟨_, congrArg (fun t : State => Host.Outcome.next (t.modLink .spi _)) key, refusedOnSpi s _ _ _ _⟩
  case spiClosed =>
    intro p hacc
    have key : packetIn parseCmd .spi p h.cyc s = dropPacket .spi s := by simp [packetIn, hacc]
    show Host.Outcome.next ((packetIn parseCmd .spi p h.cyc s).modLink .spi _) = _
    rw [key, misoIdle_eq]
    by_cases hp : powered s = true
    · simp [dropPacket, hp]; rfl
    · simp [dropPacket, hp]; rfl
  case i2cClosed =>
    intro p hacc
    show Host.Outcome.next (packetIn parseCmd .i2c p h.cyc s) = _
    simp [packetIn, hacc, dropPacket]
  case direction => exact fun _ _ => rfl
  case start =>
    intro d hacc hp
    rw [canFdSegment_eq _ _ _ hacc]
    simp [segmentIn, hp]
    rfl
  case continue_ =>
    intro q bs a d hacc hp ha hq
    obtain ⟨h2, h3⟩ := segmentIn_next hp ha hq d h.cyc
    obtain ⟨k2, n2⟩ := segHeader (k := 2) (q := q + 1) (by decide) (by omega)
    obtain ⟨k3, n3⟩ := segHeader (k := 3) (q := q + 1) (by decide) (by omega)
    refine ⟨?_, packetIn parseCmd .can (bs ++ d) h.cyc (s.modHost fun h => { h with partial_ := none }), ?_, ?_⟩
    · rw [canFdSegment_eq _ _ _ hacc, show 128 + q + 1 = 64 * 2 + (q + 1) by omega, k2, n2, h2]
      rfl
    · rw [canFdSegment_eq _ _ _ hacc, show 192 + q + 1 = 64 * 3 + (q + 1) by omega, k3, n3, h3]
    · rw [canFdSegment_eq _ _ _ (show accepts { s with host := { s.host with partial_ := none } } = true from hacc)]
      rfl
  case skipped =>
    intro q bs a k d hacc hp hk hne
    obtain ⟨k2, n2⟩ := segHeader (k := 2) (q := k) (by decide) hk
    rw [canFdSegment_eq _ _ _ hacc, show 128 + k = 64 * 2 + k from rfl, k2, n2, segmentIn_skipped hp hne]
    rfl
  case gap =>
    intro q bs a hp ha
    simp only [exec, execCanSegmentGapTimeout, hp, if_pos ha]
    rfl
  case noGap =>
    intro hp
    simp only [exec, execCanSegmentGapTimeout, hp]
  case classic =>
    intro hp hs
    have hopen : (powered s && (decide (s.ctl.state ≠ .boot) || s.ctl.loader)) = true := by simpa [hp] using hs
    simp only [exec, execCanClassicFrame]
    rw [if_pos hopen]
    rfl

end

section
/-! Fresh reads (R76, R126, R127): what the reads of a reply leave alone. -/

namespace Sys2Proof.Machine

/-- From s to t host transports and timers may have changed, and nothing else: what reads do (R16, R511). -/
def OnlyRead (s t : State) : Prop :=
  t = { s with host := { s.host with spi := t.host.spi, i2c := t.host.i2c, can := t.host.can }, timers := t.timers }

theorem OnlyRead.refl (s : State) : OnlyRead s s := rfl

theorem OnlyRead.trans {s t u : State} (h : OnlyRead s t) (g : OnlyRead t u) : OnlyRead s u := by
  unfold OnlyRead at *
  rw [g, h]

theorem OnlyRead.modLink (s : State) {tr : Transport} (h : tr ≠ .fleet) (f : Link → Link) : OnlyRead s (s.modLink tr f) := by
  cases tr
  case fleet => exact absurd rfl h
  all_goals rfl

theorem OnlyRead.readOne (s : State) {tr : Transport} (h : tr ≠ .fleet) (id : Nat) : OnlyRead s (readOne tr id s).2 := by
  unfold Machine.readOne
  split
  · exact .refl s
  · dsimp only
    split
    · exact .refl s
    · split
      · split
        · exact .trans (.modLink s h _) rfl
        · dsimp only
          exact .modLink s h _
      · split
        · dsimp only
          exact .modLink s h _
        · exact .refl s

theorem readSeq_spec (s : State) {tr : Transport} (h : tr ≠ .fleet) (ids : List Nat) :
    OnlyRead s (readSeq tr ids s).2 ∧ (readSeq tr ids s).1.length = ids.length := by
  induction ids generalizing s with
  | nil => exact ⟨.refl s, rfl⟩
  | cons id l ih =>
    obtain ⟨hl, hn⟩ := ih (readOne tr id s).2
    exact ⟨(OnlyRead.readOne s h id).trans hl, congrArg Nat.succ hn⟩

theorem wordBytes_length (ws : List Word) : (wordBytes ws).length = 2 * ws.length := by
  induction ws with
  | nil => rfl
  | cons w ws ih =>
    have : (wordBytes (w :: ws)).length = 2 + (wordBytes ws).length := by simp [wordBytes]
    rw [this, ih, List.length_cons]
    omega

/-- A reply on SPI waits there. -/
theorem answer_spi (s : State) (tag : Option Nat) (cyc opc st : Nat) (pay : List Byte) :
    ∃ r ∈ ((s.answer ⟨.spi, tag, cyc, opc⟩ st pay).link .spi).replies, r.tag = tag ∧ r.status = st ∧ r.pay = pay :=
  ⟨_, List.mem_append_right _ (List.mem_singleton_self _), rfl, rfl, rfl⟩

/-- A fresh read is found by its tag. -/
theorem freshAt_single {s : State} {f : Fresh} {tag : Nat} {p : Fresh → Bool} (hf : s.host.fresh = [f]) (ht : f.tag = some tag) (hp : p f = true) :
    freshAt s tag p = some f := by
  simp [freshAt, hf, ht, hp]

theorem freshGone_single {s : State} {f : Fresh} (hf : s.host.fresh = [f]) :
    (freshGone f s).host = { s.host with fresh := [] } := by
  simp [freshGone, hf]

/-- A fresh read on SPI that is answered: its reads, then its reply, with nothing of the fleet's to send on. -/
theorem freshRead_answered {s : State} {f : Fresh} {tag : Nat} (hf : s.host.fresh = [f]) (htag : f.tag = some tag) (htr : f.tr = .spi)
    (hinner : s.host.inner.replies = []) (hfl : s.fleet.inner = []) :
    ∃ t, flushInner (withNewImage (readReply (lateCtx f.tr f.tag 0x10) f.ids) (freshGone f s)) = t ∧ t.host.fresh = [] ∧
      t.jobs.lanes = s.jobs.lanes ∧ ∃ r ∈ (t.link .spi).replies, r.tag = some tag ∧ r.status = St.OK ∧ r.pay.length = 2 * f.ids.length := by
  rw [htr, htag]
  set z : State := { freshGone f s with image := (freshGone f s).imgNext.getD (freshGone f s).image } with hz
  have hzh : z.host = { s.host with fresh := [] } := freshGone_single hf
  obtain ⟨hread, hn⟩ := readSeq_spec z (tr := .spi) (by decide) f.ids
  set u := (readSeq .spi f.ids z).2 with hu
  set pay := wordBytes (readSeq .spi f.ids z).1 with hpay
  have ho := OnlyReplies.answer u (c := ⟨.spi, some tag, 0, 0x10⟩) nofun St.OK pay
  have huh : u.host.inner = s.host.inner ∧ u.host.fresh = [] ∧ u.jobs = z.jobs := by
    refine ⟨?_, ?_, ?_⟩ <;> rw [hread] <;> simp [hzh]
  have hidle : flushInner (withNewImage (readReply (lateCtx .spi (some tag) 0x10) f.ids) (freshGone f s)) =
      withNewImage (readReply (lateCtx .spi (some tag) 0x10) f.ids) (freshGone f s) := by
    refine flushInner_idle ?_ ?_
    · show (u.answer ⟨.spi, some tag, 0, 0x10⟩ St.OK pay).host.inner.replies = []
      rw [ho.inner.1, huh.1, hinner]
    · show (u.answer ⟨.spi, some tag, 0, 0x10⟩ St.OK pay).fleet.inner = []
      rw [ho.inner.2]
      exact (congrArg (fun j : Jobs => j.fleet.inner) huh.2.2).trans hfl
  refine ⟨_, hidle, ?_, ?_, ?_⟩
  · show (u.answer ⟨.spi, some tag, 0, 0x10⟩ St.OK pay).host.fresh = []
    rw [ho]
    exact huh.2.1
  · show (u.answer ⟨.spi, some tag, 0, 0x10⟩ St.OK pay).jobs.lanes = _
    rw [ho.fields.1, huh.2.2]
    rfl
  · obtain ⟨r, hr, h1, h2, h3⟩ := answer_spi u (some tag) 0 0x10 St.OK pay
    exact ⟨r, hr, h1, h2, by rw [h3, hpay, wordBytes_length, hn]⟩

end Sys2Proof.Machine

open Sys2Proof Sys2Proof.Machine

/-- Settles O10: the reply of a fresh read is that of its reads, and each sensing event changes its own record. -/
theorem sensingRows : Obligations.SensingRows := by
  intro s
  refine ⟨?answered, ?deferred, ?pressure, ?fault, ?recovered⟩
  case answered =>
    intro f tag a hf htag htr hready ha hrun hlive hinner hfl
    obtain ⟨t, ht, h1, h2, h3⟩ := freshRead_answered hf htag htr hinner hfl
    refine ⟨t, ?_, h1, h2, h3⟩
    simp only [exec, execFreshReadReply, hrun, hlive, Bool.and_self, if_true]
    rw [freshAt_single hf htag (by simp [hready, ha])]
    exact congrArg Host.Outcome.next ht
  case deferred =>
    intro f tag hf htag htr hready hplans hrun hlive hinner hfl
    have hfind : freshAt s tag (fun f => f.ready.isNone && decide (4 ≤ f.plans)) = some f := freshAt_single hf htag (by simp [hready, hplans])
    have hgo : (!(s.coreRuns && s.live)) = false := by simp [hrun, hlive]
    set i := (f.ids.findIdx? fun id => match freshChan s id with | some ch => f.wait.any (fun w => w.1 == ch) | none => false).getD 0 with hi
    set z := (freshGone f s).modSense fun x => { x with deferred := incSat 32 x.deferred } with hz
    have hzh : z.host = { s.host with fresh := [] } := freshGone_single hf
    have ho := OnlyReplies.answer z (c := ⟨.spi, some tag, 0, 0x10⟩) nofun St.DEFERRED (leBytes 2 i)
    have hidle : flushInner (z.answer ⟨.spi, some tag, 0, 0x10⟩ St.DEFERRED (leBytes 2 i)) =
        z.answer ⟨.spi, some tag, 0, 0x10⟩ St.DEFERRED (leBytes 2 i) :=
      flushInner_idle (by rw [ho.inner.1, hzh]; exact hinner) (by rw [ho.inner.2]; exact hfl)
    refine ⟨z.answer ⟨.spi, some tag, 0, 0x10⟩ St.DEFERRED (leBytes 2 i), ?_, ?_, ?_, ?_⟩
    · rw [← hidle]
      simp only [exec, execFreshReadDeferred, hfind, hgo, Bool.false_eq_true, if_false, htr, htag, ← hz]
      rfl
    · rw [ho, hzh]
    · rw [ho.fields.1]; rfl
    · obtain ⟨r, hr, h1, h2, -⟩ := answer_spi z (some tag) 0 0x10 St.DEFERRED (leBytes 2 i)
      exact ⟨r, hr, h1, h2⟩
  case pressure =>
    intro hp hn
    refine ⟨(s.modSense fun x => { x with pressed := true }).raise Ev.SLOT_PRESSURE s.jobs.sense.carried, by simp [exec, execSlotPressure, hp, hn],
      ?_, ?_⟩
    · simp
    · exact rfl
  case fault =>
    intro k hk hl hbad hnf
    have hgo : (k < nTs s && (4 ≤ (s.pin k).bad || (s.pin k).badHit.isSome) && !(s.pin k).faulted) = true := by simpa [hk, hnf] using hbad
    have hpin (j : Nat) : ((s.modPin k fun p => { p with faulted := true, band := 3, badHit := none }).raise Ev.TS_FAULT
        (k * 256 + (s.pin k).badHit.getD (s.pin k).case_)).pin j =
        (s.modPin k fun p => { p with faulted := true, band := 3, badHit := none }).pin j := by simp
    refine ⟨_, congrArg Host.Outcome.next (if_pos hgo), ?_, ?_, ?_, fun j hj => ?_⟩
    · rw [hpin, State.pin_modPin_self hl]
    · rw [hpin, State.pin_modPin_self hl]
    · exact rfl
    · rw [hpin, State.pin_modPin_ne hj]
  case recovered =>
    intro k hk hf hgood
    have hgo : (k < nTs s && (s.pin k).faulted && (100 ≤ (s.pin k).good || (s.pin k).goodHit)) = true := by simpa [hk, hf] using hgood
    have hl : k < s.jobs.sense.pins.length := by
      by_contra h
      have hdef : s.pin k = {} := List.getD_eq_default _ _ (Nat.not_lt.mp h)
      rw [hdef] at hf
      cases hf
    have hpin (j : Nat) : ((s.modPin k fun p => { p with faulted := false, goodHit := false }).raise Ev.TS_RECOVERED k).pin j =
        (s.modPin k fun p => { p with faulted := false, goodHit := false }).pin j := by simp
    refine ⟨_, congrArg Host.Outcome.next (if_pos hgo), ?_, rfl, fun j hj => ?_⟩
    · rw [hpin, State.pin_modPin_self hl]
    · rw [hpin, State.pin_modPin_ne hj]

end

section
/-! Values put in force (R64 to R72, R107 to R110): what the bank loader leaves alone. -/

namespace Sys2Proof.Machine

/-- From s to t values have come into force with what follows from them: sets, stitches, live writes and launches stand, no event is
forgotten, and under `named` the parameters stand too. -/
structure Forces (named : Prop) (s t : State) : Prop where
  host : t.host = { s.host with
    spi := t.host.spi, i2c := t.host.i2c, can := t.host.can, inner := t.host.inner, flights := t.host.flights
    partial_ := t.host.partial_, drops := t.host.drops, events := t.host.events, evSeq := t.host.evSeq, lost := t.host.lost }
  events : KeepsEvents s t
  params : named → t.params = s.params

variable {named : Prop}

theorem Forces.refl (s : State) : Forces named s s := ⟨rfl, .refl s, fun _ => rfl⟩

theorem Forces.trans {s t u : State} (h : Forces named s t) (g : Forces named t u) : Forces named s u :=
  ⟨by rw [g.host, h.host], h.events.trans g.events, fun n => (g.params n).trans (h.params n)⟩

/-- What leaves the host side alone. -/
theorem Forces.of_host {s t : State} (h : t.host = s.host) (hp : named → t.params = s.params) : Forces named s t :=
  ⟨by rw [h], .of_host h, hp⟩

theorem Forces.raise (s : State) (c a : Nat) : Forces named s (s.raise c a) := by
  have e : OnlyEvents s (s.raise c a) := .raise s c a
  unfold OnlyEvents at e
  exact ⟨by rw [e], .raise s c a, fun _ => rfl⟩

theorem Forces.modLink (s : State) (tr : Transport) (f : Link → Link) : Forces named s (s.modLink tr f) := by
  cases tr <;> exact ⟨rfl, .of_host_events rfl rfl, fun _ => rfl⟩

theorem Forces.setFraming (old new : Nat) (keep : Option (Transport × Option Nat)) (s : State) : Forces named s (setFraming old new keep s) := by
  refine foldl_rel .refl .trans _ _ (fun z e => ?_) s
  dsimp only
  split
  · exact .refl z
  · exact (Forces.modLink z e.1 _).trans ⟨rfl, .of_host_events rfl rfl, fun _ => rfl⟩

theorem Forces.tmrReach (d : TmrDo) (k t : Nat) (s : State) : Forces named s (tmrReach d k t s) := by
  unfold Machine.tmrReach
  split
  · exact .refl s
  · split
    · exact .of_host rfl fun _ => rfl
    · unfold tmrAct
      cases d
      case start =>
        dsimp only
        split
        · exact .refl s
        · exact .of_host rfl fun _ => rfl
      all_goals exact .of_host rfl fun _ => rfl

theorem Forces.resetRegion (n cause : Nat) (s : State) : Forces named s (resetRegion n cause s) :=
  .trans (t := ((s.modSched _).modLane n _)) (.of_host rfl fun _ => rfl) (.raise _ _ _)

theorem Forces.remap (s : State) : Forces named s (remap s) :=
  .trans (t := s.modSched _) (.of_host rfl fun _ => rfl)
    (foldl_rel .refl .trans _ _ (fun z n => .trans (t := z.modLane n _) (.of_host rfl fun _ => rfl) (.raise _ _ _)) _)

theorem Forces.ite {c : Prop} [Decidable c] {s t u : State} (h : c → Forces named s t) (g : ¬ c → Forces named s u) :
    Forces named s (if c then t else u) := by
  split
  · exact h ‹_›
  · exact g ‹_›

theorem Forces.wantHalt (cause : Nat) (s : State) : Forces named s (wantHalt cause s) :=
  .ite (fun _ => .refl s) fun _ => .of_host rfl fun _ => rfl

/-- A parameter outside the groups with requests that act once. -/
def NamedId (id : Nat) : Prop := idGroup id ≠ gSAF ∧ idGroup id ≠ gSCH ∧ idGroup id ≠ gSRC

/-- A request put in force clears its own parameter; a parameter outside those groups changes no other (R107). -/
theorem Forces.putInForce (old : State) (keep : Option (Transport × Option Nat)) (id v : Nat) (s : State) :
    Forces (NamedId id) s (putInForce old keep id v s) := by
  have setPar (z : State) (g i k v : Nat) (h : ¬ NamedId id) : Forces (NamedId id) z (z.setPar g i k v) := .of_host rfl fun n => absurd n h
  have and_left {p : Prop} [Decidable p] {b : Bool} (h : (decide p && b) = true) : p := of_decide_eq_true (Bool.and_eq_true_iff.mp h).1
  have saf (h : idGroup id = gSAF) : ¬ NamedId id := fun n => n.1 h
  have sch (h : idGroup id = gSCH) : ¬ NamedId id := fun n => n.2.1 h
  have src (h : idGroup id = gSRC) : ¬ NamedId id := fun n => n.2.2 h
  have ticks (d : TmrDo) (l : List Nat) : Forces (NamedId id) s (l.foldl (fun s t => Machine.tmrReach d (s.swapFrame * 4096) t s) s) :=
    foldl_rel .refl .trans _ _ (fun z t => .tmrReach d _ t z) s
  unfold Machine.putInForce
  refine .ite (fun h => .trans ?_ (setPar _ _ _ _ _ (saf (and_left h)))) fun _ => ?_
  · exact .ite (fun _ => .wantHalt 3 s) fun _ => .refl s
  refine .ite (fun h => .trans ?_ (setPar _ _ _ _ _ (sch (and_left (Bool.and_eq_true_iff.mp h).1)))) fun _ => ?_
  · exact .ite (fun _ => .resetRegion _ 2 s) fun _ => .refl s
  refine .ite (fun _ => .of_host rfl fun _ => rfl) fun _ => .ite (fun _ => .setFraming _ _ _ s) fun _ => .ite (fun h => ?_) fun _ => ?_
  · exact .ite (fun _ => .ite (fun _ => .trans (t := { s.modLinkJob _ with shadow := _ }) (.of_host rfl fun _ => rfl)
      (setPar _ _ _ _ _ (src (and_left (Bool.and_eq_true_iff.mp h).1)))) fun _ => .refl s) fun _ => .refl s
  refine .ite (fun _ => .of_host rfl fun _ => rfl) fun _ => .ite (fun _ => ?start) fun _ => .ite (fun _ => ?timer) fun _ => .refl s
  case start =>
    exact .ite (fun _ => ticks .start _) fun _ => .ite (fun _ => ticks .stop _) fun _ =>
      .ite (fun _ => .of_host rfl fun _ => rfl) fun _ => .refl s
  case timer =>
    refine .ite (fun _ => .ite (fun _ => .tmrReach .stop _ _ s) fun _ => .refl s) fun _ => .ite (fun _ => ?_) fun _ =>
      .ite (fun _ => .of_host rfl fun _ => rfl) fun _ => .refl s
    exact .ite (fun _ => .refl s) fun _ => .of_host rfl fun _ => rfl

theorem Forces.imp {p q : Prop} {s t : State} (h : Forces p s t) (hq : q → p) : Forces q s t := ⟨h.host, h.events, fun n => h.params (hq n)⟩

theorem Forces.applyWords (keep : Option (Transport × Option Nat)) (es : List (Nat × Word)) (s : State) :
    Forces (∀ e ∈ es, NamedId e.1) (withEntries s es) (applyWords keep es s) := by
  refine List.foldlRecOn _ _ (.refl _) fun t ht p hp => ht.trans ((Forces.putInForce s keep p.1 _ t).imp fun hn => ?_)
  obtain ⟨e, he, h⟩ := List.mem_filterMap.mp hp
  have : p.1 = e.1 := by
    split at h
    · split at h
      · cases h; rfl
      · cases h
    · cases h
  rw [this]
  exact hn e he

theorem Forces.afterConfig (old s : State) : Forces named s (afterConfig old s) := by
  have low : Forces named s (dropPhases old s) := foldl_rel .refl .trans _ _ (fun z x => .of_host rfl fun _ => rfl) s
  have h := (low.trans (.remap _)).trans (foldl_rel .refl .trans (fun s n => redefault n s) (movedDefs old s)
    (fun z n => .of_host rfl fun _ => rfl) _)
  unfold Machine.afterConfig
  dsimp only
  split
  · exact h.trans ⟨rfl, .of_host_events rfl rfl, fun _ => rfl⟩
  · exact h

/-- What a stitch in force leaves of sets, stitches and launches, what it tells, and its values (R64, R68, R110). -/
theorem applyStitch_forced (set eff : Nat) (launch : Bool) (es : List (Nat × Word)) (s : State) :
    (applyStitch set eff launch es s).host.stitches = s.host.stitches ∧ (applyStitch set eff launch es s).host.sets = s.host.sets ∧
      (applyStitch set eff launch es s).host.tide = s.host.tide ∧ (applyStitch set eff launch es s).host.stitchFrame = eff ∧
      Tells s (applyStitch set eff launch es s) Ev.STITCH_APPLIED (b2n launch * 2 ^ 8 + set) ∧
      ((∀ e ∈ es, NamedId e.1) → (applyStitch set eff launch es s).params = (withEntries s (standing s set es)).params) := by
  have words := Forces.applyWords none (standing s set es) s
  unfold applyStitch
  dsimp only
  generalize Machine.applyWords none (standing s set es) s = a at words ⊢
  generalize hu : a.modHost _ = u
  have hueq : u.host.stitches = s.host.stitches ∧ u.host.sets = s.host.sets ∧ u.host.tide = s.host.tide ∧ u.host.stitchFrame = eff := by
    rw [← hu]
    exact ⟨by rw [State.modHost, words.host]; rfl, by rw [State.modHost, words.host]; rfl, by rw [State.modHost, words.host]; rfl, rfl⟩
  have huev : KeepsEvents s u := .trans (.trans (.of_host rfl) words.events) (by rw [← hu]; exact .of_host_events rfl rfl)
  have hupar : u.params = a.params := by rw [← hu]; rfl
  have hsvc : Forces True u (if u.ctl.service = true then u.modCtl fun c => { c with stitchAfter := true } else u) := by
    split
    · exact .of_host rfl fun _ => rfl
    · exact .refl u
  generalize (if u.ctl.service = true then u.modCtl fun c => { c with stitchAfter := true } else u) = w at hsvc ⊢
  have hcfg : Forces True (w.raise Ev.STITCH_APPLIED (b2n launch * 2 ^ 8 + set))
    (Machine.afterConfig s (w.raise Ev.STITCH_APPLIED (b2n launch * 2 ^ 8 + set))) := .afterConfig _ _
  have hall := (hsvc.trans (.raise w Ev.STITCH_APPLIED (b2n launch * 2 ^ 8 + set))).trans hcfg
  obtain ⟨h1, h2, h3, h4⟩ := hueq
  refine ⟨?_, ?_, ?_, ?_, ?_, fun hn => ?_⟩
  · rw [hall.host]; exact h1
  · rw [hall.host]; exact h2
  · rw [hall.host]; exact h3
  · rw [hall.host]; exact h4
  · exact .of_keeps (huev.trans hsvc.events) ((Tells.raise w _ _).mono hcfg.events)
  · rw [hall.params trivial, hupar, words.params fun e he => hn e (List.mem_of_mem_filter he)]

end Sys2Proof.Machine
end

section
/-! The bank loader's rows (R64 to R72, R108, R109, R396): stitches, live writes, launches and snapshots. -/

namespace Sys2Proof.Machine

/-- What is taken from the queue satisfies the condition. -/
theorem takeStitch_holds {p : Stitch → Bool} {l rest : List Stitch} {x : Stitch} (h : takeStitch p l = some (x, rest)) : p x = true := by
  induction l generalizing rest with
  | nil => cases h
  | cons y l ih =>
    rw [takeStitch] at h
    split at h
    case isTrue hp => cases h; exact hp
    case isFalse =>
      obtain ⟨⟨z, r⟩, hz, e⟩ := Option.map_eq_some_iff.mp h
      cases e
      exact ih hz

theorem tideAt_lid {s : State} {n : Nat} {x : Tide} (h : tideAt s n = some x) : x.lid = n := by
  simpa using List.find?_some h

/-- From s to t a reply may have been given on any transport, the fleet included, and nothing else. -/
def OnlyAnswers (s t : State) : Prop :=
  t = { s with host := { s.host with
    spi := t.host.spi, i2c := t.host.i2c, can := t.host.can, inner := t.host.inner, canOut := t.host.canOut, flights := t.host.flights } }

theorem OnlyAnswers.pushReply (s : State) (tr : Transport) (r : Reply) : OnlyAnswers s (s.pushReply tr r) := by
  have host (h : tr ≠ .fleet) : OnlyAnswers s (s.pushReply tr r) := by
    have e : OnlyReplies s (s.pushReply tr r) := .pushReply s h r
    unfold OnlyReplies at e
    unfold OnlyAnswers
    rw [e]
  cases tr
  case fleet => rfl
  all_goals exact host (by decide)

theorem OnlyAnswers.stitchReply (x : Stitch) (st ready : Nat) (pay : List Byte) (s : State) : OnlyAnswers s (stitchReply x st ready pay s) := by
  unfold Machine.stitchReply
  split
  · exact .pushReply s _ _
  · rfl

theorem stitchReply_repliedTo {x : Stitch} {tr : Transport} {tag : Option Nat} (h : x.owes = some (tr, tag)) (st ready : Nat) (pay : List Byte)
    (s : State) : RepliedTo (stitchReply x st ready pay s) tr tag st pay := by
  simp only [stitchReply, h]
  exact pushReply_repliedTo s tr _

/-- A stitch that takes effect at the bank swap, like one that takes effect at once, but for the frame that its event names (R73, R108). -/
theorem atSwap_applyStitch (set eff : Nat) (launch : Bool) (es : List (Nat × Word)) (s : State) :
    (atSwap (applyStitch set eff launch es) s).host.stitches = s.host.stitches ∧ (atSwap (applyStitch set eff launch es) s).host.sets = s.host.sets ∧
      (atSwap (applyStitch set eff launch es) s).host.tide = s.host.tide ∧ (atSwap (applyStitch set eff launch es) s).host.stitchFrame = eff ∧
      Tells s (atSwap (applyStitch set eff launch es) s) Ev.STITCH_APPLIED (b2n launch * 2 ^ 8 + set) ∧
      ((∀ e ∈ es, NamedId e.1) → (atSwap (applyStitch set eff launch es) s).params = (withEntries s (standing s set es)).params) :=
  applyStitch_forced set eff launch es (s.modFrm fun r => { r with frame := s.swapFrame, committed := false })

/-- A stitch that fails its check leaves, gives its entries back and replies (R531). -/
theorem checkStitch_refused {s : State} {x : Stitch} {rest : List Stitch} {st id : Nat} (h : recheck s x.eff x.set x.entries = some (st, id)) :
    (checkStitch x rest s).host.stitches = rest ∧ (checkStitch x rest s).params = s.params ∧ (checkStitch x rest s).host.events = s.host.events ∧
      (x.set < s.host.sets.length → ((checkStitch x rest s).host.sets.getD x.set {}).entries =
        (s.host.sets.getD x.set {}).entries.foldl (fun l e => assocSet l e.1 e.2) x.back) ∧
      ∀ tr tag, x.owes = some (tr, tag) → RepliedTo (checkStitch x rest s) tr tag st (leBytes 2 id) := by
  simp only [checkStitch, h]
  generalize hz : giveBack x (s.modHost fun h => { h with stitches := rest }) = z
  have ho := OnlyAnswers.stitchReply x st 0 (leBytes 2 id) z
  refine ⟨?_, ?_, ?_, fun hn => ?_, fun tr tag hx => stitchReply_repliedTo hx st 0 _ z⟩
  · rw [ho, ← hz]; rfl
  · rw [ho, ← hz]; rfl
  · rw [ho, ← hz]; rfl
  · rw [ho, ← hz]
    exact congrArg StageSet.entries (modAt_getD_self hn _ _)

/-! Live writes. -/

/-- The live writes of a frame come into force one after the other (R69). -/
def liveEffect (s : State) (w : LiveW) : State :=
  if s.host.stitched.any fun p => w.id ≤ p.1 && p.1 < w.id + w.ws.length then s
  else atSwap (applyWords (some w.by_) ((w.ws.zipIdx w.id).map fun e => (e.2, e.1))) s

theorem Forces.liveEffect (s : State) (w : LiveW) : Forces False s (liveEffect s w) := by
  refine .ite (fun _ => .refl s) fun _ => ?_
  have h := Forces.applyWords (some w.by_) ((w.ws.zipIdx w.id).map fun e => (e.2, e.1))
    (s.modFrm fun r => { r with frame := s.swapFrame, committed := false })
  exact ⟨h.host, h.events, nofun⟩

theorem liveEffect_kept {s : State} {w : LiveW} (h : ∃ p ∈ s.host.stitched, w.id ≤ p.1 ∧ p.1 < w.id + w.ws.length) : liveEffect s w = s :=
  if_pos (List.any_eq_true.mpr (by simpa using h))

theorem liveEffect_params {s : State} {w : LiveW} (h : ∀ p ∈ s.host.stitched, p.1 < w.id ∨ w.id + w.ws.length ≤ p.1)
    (hn : ∀ k, k < w.ws.length → NamedId (w.id + k)) :
    (liveEffect s w).params = (withEntries s ((w.ws.zipIdx w.id).map fun e => (e.2, e.1))).params := by
  have hfree : ¬ (s.host.stitched.any fun p => w.id ≤ p.1 && p.1 < w.id + w.ws.length) = true := by
    simp only [List.any_eq_true, Bool.and_eq_true, decide_eq_true_eq, not_exists, not_and]
    intro p hp
    have := h p hp
    omega
  have swap (f : State → State) : (atSwap f s).params = (f (s.modFrm fun r => { r with frame := s.swapFrame, committed := false })).params := rfl
  have words (es : List (Nat × Word)) : (withEntries s es).params =
    (withEntries (s.modFrm fun r => { r with frame := s.swapFrame, committed := false }) es).params := rfl
  rw [liveEffect, if_neg hfree, swap, words]
  refine (Forces.applyWords _ _ _).params ?_
  simp only [List.mem_map, forall_exists_index, and_imp]
  rintro _ ⟨v, k⟩ hk rfl
  obtain ⟨h1, h2, -⟩ := List.mem_zipIdx hk
  have := hn (k - w.id) (by omega)
  rwa [Nat.add_sub_cancel' h1] at this

/-! Launches. -/

/-- A launched set that fails its check: its entry leaves, the sets stand and are released, and one event tells it (R67, R391). -/
theorem refuseLaunch_fields (x : Tide) (id : Nat) (s : State) :
    (refuseLaunch x id s).params = s.params ∧ (refuseLaunch x id s).host.tide = s.host.tide.filter (fun u => u.lid ≠ x.lid) ∧
      (∀ k, ((refuseLaunch x id s).host.sets.getD k {}).entries = (s.host.sets.getD k {}).entries ∧
        ((refuseLaunch x id s).host.sets.getD k {}).heldBy ≠ some x.lid) ∧
      (x.scope = 1 → Tells s (refuseLaunch x id s) Ev.LAUNCH_REFUSED (x.lid * 2 ^ 16 + 4)) ∧
      (x.scope ≠ 1 → Tells s (refuseLaunch x id s) Ev.STITCH_REFUSED (id * 2 ^ 16 + x.arg)) := by
  have sets (k : Nat) : ((dropLaunch x.lid s).host.sets.getD k {}).entries = (s.host.sets.getD k {}).entries ∧
      ((dropLaunch x.lid s).host.sets.getD k {}).heldBy ≠ some x.lid := by
    simp only [dropLaunch, State.modHost, List.getD_eq_getElem?_getD, List.getElem?_map]
    cases s.host.sets[k]? with
    | none => simp
    | some b =>
      simp only [Option.map_some, Option.getD_some]
      split
      · simp
      · exact ⟨rfl, ‹_›⟩
  have keeps : KeepsEvents s (dropLaunch x.lid s) := .of_host_events rfl rfl
  have told (c a : Nat) : ((dropLaunch x.lid s).raise c a).host.tide = s.host.tide.filter (fun u => u.lid ≠ x.lid) ∧
      ((dropLaunch x.lid s).raise c a).host.sets = (dropLaunch x.lid s).host.sets := by
    have h : Forces True (dropLaunch x.lid s) ((dropLaunch x.lid s).raise c a) := .raise _ c a
    exact ⟨by rw [h.host]; rfl, by rw [h.host]⟩
  unfold refuseLaunch
  dsimp only
  split
  case isTrue h =>
    obtain ⟨h1, h2⟩ := told Ev.LAUNCH_REFUSED (x.lid * 2 ^ 16 + 4)
    exact ⟨rfl, h1, by rw [h2]; exact sets, fun _ => .of_keeps keeps (.raise _ _ _), fun n => absurd h n⟩
  case isFalse h =>
    obtain ⟨h1, h2⟩ := told Ev.STITCH_REFUSED (id * 2 ^ 16 + x.arg)
    exact ⟨rfl, h1, by rw [h2]; exact sets, fun n => absurd n h, fun _ => .of_keeps keeps (.raise _ _ _)⟩

/-! Snapshots. -/

/-- From s to t records may have gone out or joined a gathering; the last records of the unit stand (R396). -/
structure SnapStep (s t : State) : Prop where
  eq : t = { s with jobs := { s.jobs with fleet := t.jobs.fleet }, freeCtr := t.freeCtr }
  snaps : t.fleet.snaps = s.fleet.snaps

theorem SnapStep.refl (s : State) : SnapStep s s := ⟨rfl, rfl⟩

theorem SnapStep.trans {s t u : State} (h : SnapStep s t) (g : SnapStep t u) : SnapStep s u := ⟨by rw [g.eq, h.eq], g.snaps.trans h.snaps⟩

theorem SnapStep.snapAdd (unit : Nat) (r : List Byte) (s : State) : SnapStep s (snapAdd unit r s) := by
  unfold Machine.snapAdd
  split
  · split
    · exact ⟨rfl, rfl⟩
    · exact .refl s
  · exact .refl s

theorem SnapStep.sendTo (dst typ : Nat) (pay : List Byte) (s : State) : SnapStep s (sendTo dst typ pay s) := by
  unfold Machine.sendTo
  split
  · exact ⟨rfl, rfl⟩
  · exact .refl s

theorem SnapStep.snapGive (fr who : Nat) (r : List Byte) (s : State) : SnapStep s (snapGive fr who r s) := by
  unfold Machine.snapGive
  split
  · split
    · split
      · exact .snapAdd _ r s
      · exact .refl s
    · exact .refl s
  · exact .sendTo who _ r s

theorem SnapStep.answerSnaps (s : State) : SnapStep s (answerSnaps s) := by
  refine .trans (t := s.modFleet _) ⟨rfl, rfl⟩ (foldl_rel .refl .trans _ _ (fun z r => ?_) _)
  split
  · exact .snapGive _ _ _ z
  · exact .refl z

theorem SnapStep.ownSnap (s : State) : SnapStep s (ownSnap s) := by
  unfold Machine.ownSnap
  split
  · split
    · exact .snapAdd _ _ s
    · exact .refl s
  · exact .refl s

/-- The record of a frame is kept first among the last 8 (R396). -/
theorem keepSnap_step (fr : Nat) (s : State) :
    SnapStep (s.modFleet fun f => { f with snaps := ((fr, snapshotOf s fr) :: f.snaps.filter fun r => r.1 ≠ fr).take 8 }) (ownSnap (keepSnap fr s)) :=
  (SnapStep.answerSnaps _).trans (.ownSnap _)

end Sys2Proof.Machine

open Sys2Proof Sys2Proof.Machine

/-- Settles O9: each row of the bank loader by what putting values in force leaves alone. -/
theorem stitchAndLaunchRows : Obligations.StitchAndLaunchRows := by
  intro s
  refine ⟨?check, ?checkFails, ?applied, ?live, ?launchCheck, ?launchFails, ?launch, ?snapshot, ?config⟩
  case check =>
    intro n x rest hrun hx hok
    have hset : x.set = n := by
      have := takeStitch_holds hx
      simp only [Bool.and_eq_true, beq_iff_eq] at this
      exact this.1.1
    simp only [exec, execStitchCheck, hx, hrun, if_true, checkStitch, hset, hok]
  case checkFails =>
    intro n x rest st id hrun hx hbad
    have hset : x.set = n := by
      have := takeStitch_holds hx
      simp only [Bool.and_eq_true, beq_iff_eq] at this
      exact this.1.1
    subst hset
    exact ⟨_, by simp only [exec, execStitchCheck, hx, hrun, if_true], checkStitch_refused hbad⟩
  case applied =>
    intro n x rest hrun hnone hx
    obtain ⟨h1, -, -, h4, h5, h6⟩ := atSwap_applyStitch n x.eff false x.entries (s.modHost fun h => { h with stitches := rest })
    generalize hz : atSwap (applyStitch n x.eff false x.entries) (s.modHost fun h => { h with stitches := rest }) = z at h1 h4 h5 h6
    have ho := OnlyAnswers.stitchReply x St.OK x.eff (leBytes 8 x.eff) z
    rw [show b2n false * 2 ^ 8 + n = n from by simp [b2n]] at h5
    refine ⟨_, ?_, ?_, ?_, ?_, fun tr tag hw => stitchReply_repliedTo hw _ x.eff _ z, fun hn => ?_⟩
    · simp only [exec, execStitchApplied, hrun, hnone, hx, hz, Bool.not_true, Bool.false_eq_true, if_false]
    · rw [ho]; exact h1
    · rw [ho]; exact h4
    · refine (Tells.of_keeps (.of_host_events rfl rfl) h5).mono (.of_host_events ?_ ?_)
      · rw [ho]
      · rw [ho]
    · rw [ho]; exact h6 hn
  case live =>
    intro hrun
    set z := s.modHost fun h => { h with lives := h.lives.filter fun w => !decide (w.eff ≤ s.swapFrame) } with hz
    have hall : Forces False z ((s.host.lives.filter fun w => decide (w.eff ≤ s.swapFrame)).foldl liveEffect z) :=
      foldl_rel .refl .trans _ _ .liveEffect z
    refine ⟨(s.host.lives.filter fun w => decide (w.eff ≤ s.swapFrame)).foldl liveEffect z,
      by simp only [exec, execLiveWriteEffect, hrun, Bool.not_true, Bool.false_eq_true, if_false]; rfl, ?_, ?_, ?_, ?_, fun w hw => ?_⟩
    · rw [hall.host]; rfl
    · rw [hall.host]; rfl
    · rw [hall.host]; rfl
    · rw [hall.host]; rfl
    · rw [hw]
      have kept (h : ∃ p ∈ s.host.stitched, w.id ≤ p.1 ∧ p.1 < w.id + w.ws.length) : (liveEffect z w).params = z.params :=
        congrArg State.params (liveEffect_kept (s := z) h)
      exact ⟨kept, fun h hn => liveEffect_params (s := z) h hn⟩
  case launchCheck =>
    intro n x hrun hx ha hp hf hok
    have hgo : (s.jobs.frm.running && x.action = 0 && !x.passed && x.frame ≤ s.frame + 1) = true := by simp [hrun, ha, hp, hf]
    simp only [exec, execLaunchCheck, hx, hgo, if_true, checkLaunch, hok, tideAt_lid hx]
  case launchFails =>
    intro n x st id hrun hx ha hp hf hbad
    have hgo : (s.jobs.frm.running && x.action = 0 && !x.passed && x.frame ≤ s.frame + 1) = true := by simp [hrun, ha, hp, hf]
    have h := refuseLaunch_fields x id s
    rw [tideAt_lid hx] at h
    exact ⟨_, by simp only [exec, execLaunchCheck, hx, hgo, if_true, checkLaunch, hbad], h⟩
  case launch =>
    intro n x hrun hx ha hp hf
    have hgo : (!(s.jobs.frm.running && x.action = 0 && x.frame ≤ s.swapFrame)) = false := by simp [hrun, ha, hf]
    obtain ⟨-, h2, h3, h4, h5, h6⟩ := atSwap_applyStitch x.arg x.frame true (s.host.sets.getD x.arg {}).entries
      (s.modHost fun h => { h with tide := h.tide.filter fun u => u.lid ≠ n, sets := h.sets.set x.arg {} })
    refine ⟨_, ?_, h3, h2, h4, .of_keeps (.of_host_events rfl rfl) h5, h6⟩
    simp only [exec, execLaunchStitch, hx, hgo, hp, Bool.false_eq_true, if_false, if_true]
  case snapshot =>
    intro n x hrun hx ha hf
    have hgo : (s.jobs.frm.running && x.action = 1 && (x.frame < s.frame || (x.frame = s.frame && s.jobs.frm.committed))) = true := by
      simp [hrun, ha, hf]
    set z := s.modHost fun h => { h with tide := h.tide.filter fun u => u.lid ≠ n } with hz
    have hne : ¬ x.frame = z.frame := hf.ne
    have h := keepSnap_step x.frame z
    refine ⟨ownSnap (keepSnap x.frame z), by simp only [exec, execLaunchSnapshot, hx, hgo, if_true, ← hz, if_neg hne], ?_, ?_, ?_, ?_, ?_, ?_, ?_⟩
    · rw [h.eq]; rfl
    · rw [h.eq]; rfl
    · rw [h.eq]; rfl
    · rw [h.snaps]
      have hsame : snapshotOf z x.frame = snapshotOf s x.frame := rfl
      change assocGet (((x.frame, snapshotOf z x.frame) :: z.fleet.snaps.filter fun r => r.1 ≠ x.frame).take 8) x.frame = _
      simp [assocGet, hsame]
    · rw [h.eq]; rfl
    · rw [h.eq]; rfl
    · rw [h.eq]; rfl
  case config =>
    intro hl hc hd hw hat
    have hgo : (s.live && s.coreRuns && s.host.dirty && s.writer.busy.isNone &&
        (match s.host.cfgAt with | some a => decide (a + 1000000 ≤ s.age) | none => true)) = true := by
      cases hcfg : s.host.cfgAt with
      | none => simp [hl, hc, hd, hw]
      | some a => simp [hl, hc, hd, hw, hat a hcfg]
    exact congrArg Host.Outcome.next (if_pos hgo)

end

section
/-! Accepted operations (R44, R45): what starting one leaves alone, and how one ends. -/

namespace Sys2Proof.Machine

/-- The state with one operation more, whose number is the next one. -/
def State.withOp (s : State) (opc : Nat) (tr : Transport) (res : Nat) (args : List Nat) (data : List Byte) : State :=
  s.modHost fun x => { x with
    opNum := nextOp s.host.opNum, ops := x.ops ++ [⟨nextOp s.host.opNum, opc, tr, res, args, data, s.age⟩] }

/-- Starting an operation answers ACCEPTED with its number, and beyond the transports only the operation is new. -/
theorem startOp_accepts {s z : State} {h : Hdr} (ht : h.tr ≠ .fleet) (hz : OnlyReplies s z) (opc res : Nat) (args : List Nat) (data : List Byte) :
    Accepts s (z.startOp (ctxOf h opc) res args data) h opc res args data ∧
      OnlyReplies (s.withOp opc h.tr res args data) (z.startOp (ctxOf h opc) res args data) := by
  have hop : z.host.opNum = s.host.opNum ∧ z.host.ops = s.host.ops ∧ z.age = s.age := by
    exact ⟨by rw [hz], by rw [hz], congrArg (fun j : Jobs => j.frm.age) hz.fields.1⟩
  obtain ⟨hnum, hops, hage⟩ := hop
  have ho : OnlyReplies (s.withOp opc h.tr res args data) (z.startOp (ctxOf h opc) res args data) := by
    refine OnlyReplies.trans (t := z.withOp opc h.tr res args data) ?_ (.answer _ ht _ _)
    unfold State.withOp
    rw [hnum, hage]
    rw [hz]
    rfl
  refine ⟨⟨?_, ?_, ?_⟩, ho⟩
  · rw [← hnum]
    exact answer_repliedTo _ (ctxOf h opc) _ _
  · rw [ho.host.2.2.2.2.2.2.2.1]; rfl
  · rw [ho.host.2.2.2.2.2.2.1]; rfl

/-- An operation accepted from a state with the same operations and the same age. -/
theorem Accepts.of_same {s z t : State} {h : Hdr} {opc res : Nat} {args : List Nat} {data : List Byte} (a : Accepts z t h opc res args data)
    (hn : z.host.opNum = s.host.opNum) (ho : z.host.ops = s.host.ops) (hage : z.age = s.age) : Accepts s t h opc res args data := by
  unfold Accepts at a ⊢
  rwa [← hn, ← ho, ← hage]

/-- A reply stands while the replies of its transport and the CAN FD frames do. -/
theorem RepliedTo.kept {s t : State} {tr : Transport} {tag : Option Nat} {st : Nat} {pay : List Byte} (h : RepliedTo s tr tag st pay)
    (hl : t.link tr = s.link tr) (hc : t.host.canOut = s.host.canOut) : RepliedTo t tr tag st pay := by
  unfold RepliedTo at h ⊢
  rwa [hl, hc]

/-- What follows an acceptance keeps it while the transports and the operations stand. -/
theorem Accepts.kept {s t u : State} {h : Hdr} {opc res : Nat} {args : List Nat} {data : List Byte} (a : Accepts s t h opc res args data)
    (hl : u.link h.tr = t.link h.tr) (hc : u.host.canOut = t.host.canOut) (hn : u.host.opNum = t.host.opNum) (ho : u.host.ops = t.host.ops) :
    Accepts s u h opc res args data := by
  obtain ⟨hr, h1, h2⟩ := a
  exact ⟨hr.kept hl hc, hn.trans h1, ho.trans h2⟩

/-- A command whose body makes m of the state and starts an operation. -/
theorem accepted_of_body {s : State} {h : Hdr} {c : Instr} {k : Cmd} {res : Nat} {args : List Nat} {data : List Byte} (m : State → State)
    (r : HostReady s h k.opc k.ver k.priv) (hc : exec c s = hostCmd h k s) (hk : (k.fits false && decide (k.len ≤ 1024)) = true)
    (hn : (m s).host.opNum = s.host.opNum) (ho : (m s).host.ops = s.host.ops) (hage : (m s).age = s.age)
    (hb : ∀ spi i2c can fs, ((s.relinked spi i2c can fs).link h.tr).priv = (s.link h.tr).priv →
      OnlyReplies (m s) (m (s.relinked spi i2c can fs)) ∧
      k.body (ctxOf h k.opc) (s.relinked spi i2c can fs) = (m (s.relinked spi i2c can fs)).startOp (ctxOf h k.opc) res args data) :
    ∃ t, exec c s = .next t ∧ Accepts s t h k.opc res args data ∧ OnlyReplies ((m s).withOp k.opc h.tr res args data) t := by
  obtain ⟨spi, i2c, can, fs, e, hp, -⟩ := hostCmd_relinked r hk
  obtain ⟨hm, hbody⟩ := hb spi i2c can fs hp
  obtain ⟨ha, hrep⟩ := startOp_accepts r.2.1 hm k.opc res args data
  exact ⟨_, hc.trans (e.trans (congrArg _ hbody)), ha.of_same hn ho hage, hrep⟩

/-- The end of an operation from any state with the host side and the clocks of s. -/
theorem Ends.of_host {s z : State} (opc num st : Nat) (hh : z.host = s.host) (ht : z.fleetTime = s.fleetTime) : Ends s (z.endOp opc num st) opc num st := by
  unfold Ends
  rw [State.endOp_eq, ← hh, ← ht]
  rfl

/-- The DETAIL of a final status changes nothing of the event that tells it. -/
theorem queueEvent_endDetail (x : HostState) (d : Option (Nat × Nat)) (code time arg : Nat) :
    ({ x with endDetail := d } : HostState).queueEvent code time arg = { x.queueEvent code time arg with endDetail := d } := by
  unfold HostState.queueEvent
  dsimp only
  split <;> rfl

/-- The end of an operation with its DETAIL from any state with the host side and the clocks of s. -/
theorem EndsWith.of_host {s z : State} (opc num st d : Nat) (hh : z.host = s.host) (ht : z.fleetTime = s.fleetTime) :
    EndsWith s (z.endOpDetail opc num st d) opc num (st, some d) := by
  unfold EndsWith
  have e := Ends.of_host opc num st hh ht
  unfold Ends at e
  exact (congrArg (fun x : HostState => { x with endDetail := some (num, d) }) e).trans (queueEvent_endDetail _ _ _ _ _).symm

theorem KeepsEvents.endOp (s : State) (opc num st : Nat) : KeepsEvents s (s.endOp opc num st) :=
  .trans (t := s.modHost _) (.of_host_events rfl rfl) (.raise _ _ _)

/-- A final status without a DETAIL. -/
theorem Ends.endsWith {s t : State} {opc num st : Nat} (h : Ends s t opc num st) : EndsWith s t opc num (st, none) := h

end Sys2Proof.Machine
end

section
/-! Firmware update (R490 to R493, R82, R85). -/

namespace Sys2Proof.Machine

/-- The state in which a session for a slot is open: an earlier one is abandoned, and a flash writer that is free empties the slot. -/
def fwOpened (tr : Transport) (size version : Nat) (s : State) : State :=
  let z := fwDrop s
  { z with
    host := { z.host with ops := z.host.ops.map fun o => if o.opc == 0x52 then { o with args := [], data := [] } else o }
    flash := if z.writer.busy.isNone then { z.flash with fw := z.flash.fw.set (fwTarget s) {} } else z.flash
    writer := if z.writer.busy.isNone then { z.writer with busy := some 8 } else z.writer
    fw := some ⟨tr, fwTarget s, size, version, [], 0, [], s.age, false, false⟩ }

theorem doFwBegin_opened {s : State} {size version : Nat} (c : Ctx) (h1 : 257 ≤ size) (h2 : size ≤ 524288) (hf : s.opHeld 0x50 (fwTarget s) = false) :
    doFwBegin c size version s = (fwOpened c.tr size version s).startOp c (fwTarget s) [] [] := by
  unfold doFwBegin fwOpened
  rw [if_neg (by simp [Nat.not_lt.mpr h1, Nat.not_lt.mpr h2]), hf]
  simp only [Bool.false_eq_true, if_false]
  cases h : (fwDrop s).writer.busy.isNone
  · have h' : ((fwDrop s).modHost fun x => { x with
        ops := x.ops.map fun o => if o.opc == 0x52 then { o with args := [], data := [] } else o }).writer.busy.isNone = false := h
    rw [h']
    rfl
  · have h' : ((fwDrop s).modHost fun x => { x with
        ops := x.ops.map fun o => if o.opc == 0x52 then { o with args := [], data := [] } else o }).writer.busy.isNone = true := h
    rw [h']
    rfl

/-- With no check that runs, opening a session leaves the operations. -/
theorem ops_without_commit {l : List Op} (h : ∀ o ∈ l, o.opc ≠ 0x52) :
    (l.map fun o => if o.opc == 0x52 then { o with args := [], data := [] } else o) = l := by
  conv_rhs => rw [← List.map_id l]
  exact List.map_congr_left fun o ho => by simp [h o ho]

theorem fwOpened_relinked (tr : Transport) (size version : Nat) (s : State) (spi i2c can : Link) (fs : List Flight) :
    OnlyReplies (fwOpened tr size version s) (fwOpened tr size version (s.relinked spi i2c can fs)) := rfl

/-- What a session begun leaves: the flash emptied in its slot, where the writer was free (R490, R240). -/
theorem fwOpened_fields (tr : Transport) (size version : Nat) (s : State) :
    (fwOpened tr size version s).fw = some ⟨tr, fwTarget s, size, version, [], 0, [], s.age, false, false⟩ ∧
      (s.writer.busy = none → (fwOpened tr size version s).flash.fw.getD (fwTarget s) {} = {} ∧ (fwOpened tr size version s).writer.busy = some 8) ∧
      (s.writer.busy = some 3 → (fwOpened tr size version s).flash = s.flash ∧ (fwOpened tr size version s).writer.busy = some 3) ∧
      (∀ k, k ≠ fwTarget s → (fwOpened tr size version s).flash.fw.getD k {} = s.flash.fw.getD k {}) ∧
      (fwOpened tr size version s).ctl = s.ctl ∧ (fwOpened tr size version s).jobs = s.jobs ∧
      (fwOpened tr size version s).host.opNum = s.host.opNum ∧
      ((∀ o ∈ s.host.ops, o.opc ≠ 0x52) → (fwOpened tr size version s).host.ops = s.host.ops) := by
  have slot (f : List FwSlot) (k : Nat) (hk : k ≠ fwTarget s) : (f.set (fwTarget s) {}).getD k {} = f.getD k {} := by
    simp [List.getD_eq_getElem?_getD, Ne.symm hk]
  unfold fwOpened
  dsimp only
  refine ⟨rfl, fun hb => ?_, fun hb => ?_, fun k hk => ?_, rfl, rfl, rfl, fun ho => ops_without_commit ho⟩
  · have hfree : (fwDrop s).writer.busy.isNone = true := by simp [fwDrop, hb]
    rw [if_pos hfree, if_pos hfree]
    refine ⟨?_, rfl⟩
    simp only [List.getD_eq_getElem?_getD, List.getElem?_set]
    split
    · split <;> rfl
    · contradiction
  · have hheld : ¬ (fwDrop s).writer.busy.isNone = true := by simp [fwDrop, hb]
    rw [if_neg hheld, if_neg hheld]
    exact ⟨rfl, by simp [fwDrop, hb]⟩
  · split
    · exact slot _ k hk
    · rfl

/-- The state in which the image of a passed check is the slot's (R492). -/
def fwStaged (tg : Nat) (b : List Byte) (s : State) : State :=
  { s with fw := none }.modFlash fun f => { f with fw := f.fw.set tg { bytes := b, valid := true }, copyReq := f.copyReq || tg == 1 }

theorem fwStaged_slots {tg : Nat} {s : State} (h : tg < s.flash.fw.length) (b : List Byte) :
    (fwStaged tg b s).flash.fw.getD tg {} = { bytes := b, valid := true } ∧
      (∀ k, k ≠ tg → (fwStaged tg b s).flash.fw.getD k {} = s.flash.fw.getD k {}) ∧ (tg = 1 → (fwStaged tg b s).flash.copyReq = true) := by
  refine ⟨?_, fun k hk => ?_, fun h1 => ?_⟩
  · simp [fwStaged, State.modFlash, List.getD_eq_getElem?_getD, h]
  · simp [fwStaged, State.modFlash, List.getD_eq_getElem?_getD, Ne.symm hk]
  · simp [fwStaged, State.modFlash, h1]

theorem fwCommitComplete_staged {s : State} {o : Op} {num tg ver : Nat} (ho : s.opRun 0x52 num = some o) (hrun : s.coreRuns = true)
    (ha : o.args = [tg, ver]) (hv : fwVerdict s o.data ver = (St.OK, none)) (hl : s.ctl.loader = false) (htg : tg < s.flash.fw.length) :
    ∃ t, exec (.fwCommitComplete num true) s = .next t ∧ t.fw = none ∧ t.flash.fw.getD tg {} = { bytes := o.data, valid := true } ∧
      (∀ k, k ≠ tg → t.flash.fw.getD k {} = s.flash.fw.getD k {}) ∧ (tg = 1 → t.flash.copyReq = true) ∧
      Tells s t Ev.FW_STAGED ver ∧ t.ctl = s.ctl := by
  obtain ⟨g1, g2, g3⟩ := fwStaged_slots htg o.data
  refine ⟨((fwStaged tg o.data s).endOp 0x52 num St.OK).raise Ev.FW_STAGED ver, ?_, rfl, g1, g2, g3,
    .of_keeps (.trans (.of_host (t := fwStaged tg o.data s) rfl) (.endOp _ _ _ _)) (.raise _ _ _), rfl⟩
  have hl' : ((((({ s with fw := none } : State).modFlash fun f => { f with
      fw := f.fw.set tg { bytes := o.data, valid := true }, copyReq := f.copyReq || tg == 1
      }).endOp 0x52 num St.OK).raise Ev.FW_STAGED ver)).ctl.loader = false := hl
  simp only [exec, execFwCommitComplete, ho, hrun, ha, hv, Bool.not_true, Bool.false_eq_true, if_false, if_true, hl']
  rfl

/-- A check that does not pass ends the session with its status and its DETAIL (R492). -/
theorem fwCommitComplete_failed {s : State} {o : Op} {num tg ver : Nat} {flashOk : Bool} {v : Nat × Option Nat} (ho : s.opRun 0x52 num = some o)
    (hrun : s.coreRuns = true) (ha : o.args = [tg, ver]) (hv : (if flashOk then fwVerdict s o.data ver else (St.INTERNAL, some 2)) = v)
    (hbad : v.1 ≠ St.OK) :
    ∃ t, exec (.fwCommitComplete num flashOk) s = .next t ∧ t.fw = none ∧ t.flash = s.flash ∧ EndsWith s t 0x52 num v ∧ t.ctl = s.ctl := by
  obtain ⟨st, d⟩ := v
  cases d with
  | none =>
    refine ⟨({ s with fw := none } : State).endOp 0x52 num st, ?_, rfl, rfl, (Ends.of_host (z := { s with fw := none }) _ _ _ rfl rfl).endsWith, rfl⟩
    simp only [exec, execFwCommitComplete, ho, hrun, ha, hv, Bool.not_true, Bool.false_eq_true, if_false, if_neg hbad]
  | some d =>
    refine ⟨({ s with fw := none } : State).endOpDetail 0x52 num st d, ?_, rfl, rfl, .of_host (z := { s with fw := none }) _ _ _ _ rfl rfl, rfl⟩
    simp only [exec, execFwCommitComplete, ho, hrun, ha, hv, Bool.not_true, Bool.false_eq_true, if_false, if_neg hbad]

theorem fwBegin_taken {s : State} {h : Hdr} {size ver : Nat} (r : HostReady s h 0x50 2 3) (h1 : 257 ≤ size) (h2 : size ≤ 524288)
    (hf : s.opHeld 0x50 (fwTarget s) = false) (hops : ∀ o ∈ s.host.ops, o.opc ≠ 0x52) :
    ∃ t, exec (.fwBegin h size ver) s = .next t ∧ Accepts s t h 0x50 (fwTarget s) [] [] ∧
      OnlyReplies ((fwOpened h.tr size ver s).withOp 0x50 h.tr (fwTarget s) [] []) t := by
  obtain ⟨-, -, -, -, -, -, hn, ho⟩ := fwOpened_fields h.tr size ver s
  have hage : (fwOpened h.tr size ver s).age = s.age := by
    unfold State.age
    rw [(fwOpened_fields h.tr size ver s).2.2.2.2.2.1]
  exact accepted_of_body (k := cmdFwBegin size ver) (res := fwTarget s) (args := []) (data := []) (fwOpened h.tr size ver) r rfl rfl hn (ho hops) hage
    fun spi i2c can fs _ => ⟨fwOpened_relinked _ _ _ _ _ _ _ _, doFwBegin_opened (s := s.relinked spi i2c can fs) _ h1 h2 hf⟩

/-- The chunk taken (R491). -/
def chunkTaken (f : FwSession) (off : Nat) (d : List Byte) (s : State) : State :=
  { s with fw := some { f with bytes := f.bytes ++ d, lastOff := off, last := d, at_ := s.age, writing := true }
           writer := { s.writer with busy := some 4 } }

theorem fwChunk_taken {s : State} {h : Hdr} {f : FwSession} {off : Nat} {d : List Byte} (r : HostReady s h 0x51 2 3) (hf : s.fw = some f)
    (htr : f.tr = h.tr) (hoff : off = f.bytes.length) (hsize : off + d.length ≤ f.size) (h1 : 1 ≤ d.length) (h2 : d.length ≤ 1020)
    (he : f.erased = true) (hw : f.writing = false) (hb : s.writer.busy = none) :
    ∃ t, exec (.fwChunk h off d) s = .next t ∧ Replied t h St.OK [] ∧ OnlyReplies (chunkTaken f off d s) t := by
  refine answered_of_body (k := cmdFwChunk off d) (st := St.OK) (pay := []) (chunkTaken f off d) r rfl (by simp [cmdFwChunk, h1, h2]; omega)
    fun spi i2c can fs _ => ⟨rfl, ?_⟩
  have hf' : (s.relinked spi i2c can fs).fw = some f := hf
  have hb' : (s.relinked spi i2c can fs).writer.busy = none := hb
  show doFwChunk _ off d _ = _
  simp [doFwChunk, hf', htr, ctxOf, hoff, he, hw, hb', Nat.not_lt.mpr (hoff ▸ hsize), State.okReply, chunkTaken]

theorem fwChunk_refused {s : State} {h : Hdr} {off n : Nat} {d : List Byte} {st : Nat} (r : HostReady s h 0x51 2 3) (h1 : 1 ≤ d.length)
    (h2 : d.length ≤ 1020) (hb : ∀ spi i2c can fs, doFwChunk (ctxOf h 0x51) off d (s.relinked spi i2c can fs) =
      (s.relinked spi i2c can fs).refuse (ctxOf h 0x51) st n) : Answers s (.fwChunk h off d) h st (leBytes 2 n) :=
  answers_of_body (k := cmdFwChunk off d) r rfl (by simp [cmdFwChunk, h1, h2]; omega) fun spi i2c can fs _ => ⟨_, .refl _, hb spi i2c can fs⟩

end Sys2Proof.Machine

open Sys2Proof Sys2Proof.Machine

/-- Settles O54: each command and each end of an operation by what it makes of the session and of the slots. -/
theorem firmwareRows : Obligations.FirmwareRows := by
  intro s h
  refine ⟨?begin, ?short, ?chunk, ?offset, ?noChunk, ?commit, ?noCommit, ?begun, ?written, ?checked, ?timeout, ?stands⟩
  case begin =>
    intro size ver r h1 h2 hf hops
    obtain ⟨t, e, ha, ho⟩ := fwBegin_taken (ver := ver) r h1 h2 hf hops
    obtain ⟨g1, g2, g3, g4, g5, g6, -, -⟩ := fwOpened_fields h.tr size ver s
    obtain ⟨hjobs, -, hflash, hctl, -, -, -, hwriter, hfw⟩ := ho.fields
    refine ⟨t, _, e, ha, hfw.trans g1, rfl, rfl, rfl, rfl, rfl, rfl, fun hb => ?_, fun hb => ?_, fun k hk => ?_, hctl.trans g5, hjobs.trans g6⟩
    · rw [hflash, hwriter]; exact g2 hb
    · rw [hflash, hwriter]; exact g3 hb
    · rw [hflash]; exact g4 k hk
  case short => exact fun r => answers_of_body (k := cmdFwBegin 256 0) r rfl rfl fun _ _ _ _ _ => ⟨_, .refl _, rfl⟩
  case chunk =>
    intro f off d r hf htr hoff hsize h1 h2 he hw hb
    obtain ⟨t, e, hr, ho⟩ := fwChunk_taken r hf htr hoff hsize h1 h2 he hw hb
    obtain ⟨-, -, hflash, -, -, -, -, hwriter, hfw⟩ := ho.fields
    exact ⟨t, e, hr, hwriter, hflash, hfw, ho.host.2.2.2.2.1⟩
  case offset =>
    intro f off d r hf htr hoff hlast h1 h2
    refine fwChunk_refused r h1 h2 fun spi i2c can fs => ?_
    have hf' : (s.relinked spi i2c can fs).fw = some f := hf
    simp [doFwChunk, hf', htr, ctxOf, hoff, hlast]
  case noChunk =>
    intro off d r hf h1 h2
    refine fwChunk_refused r h1 h2 fun spi i2c can fs => ?_
    have hf' : (s.relinked spi i2c can fs).fw = none := hf
    simp [doFwChunk, hf']
  case commit =>
    intro f r hf htr hall hw hheld
    obtain ⟨t, e, ha, ho⟩ := accepted_of_body (c := .fwCommit h) (k := cmdFwCommit) (res := f.target)
      (args := [f.target, f.version]) (data := f.bytes) id r rfl rfl rfl rfl rfl
      fun spi i2c can fs _ => ⟨rfl, by
        have hf' : (s.relinked spi i2c can fs).fw = some f := hf
        have hheld' : (s.relinked spi i2c can fs).opHeld 0x52 f.target = false := hheld
        show doFwCommit _ _ = _
        simp [doFwCommit, hf', hall, hw, hheld', ctxOf, htr]⟩
    exact ⟨t, e, ha, ho.fields.2.2.2.2.2.2.2.2.trans hf, ho.fields.2.2.1⟩
  case noCommit =>
    intro r hf
    refine answers_of_body (k := cmdFwCommit) r rfl rfl fun spi i2c can fs _ => ⟨_, .refl _, ?_⟩
    have hf' : (s.relinked spi i2c can fs).fw = none := hf
    show doFwCommit _ _ = _
    simp [doFwCommit, hf']
    rfl
  case begun =>
    intro o num f ho hrun hf hb
    have hfree : (!(s.writer.busy.isNone || s.writer.busy = some 8)) = false := by rcases hb with hb | hb <;> simp [hb]
    refine ⟨_, ?_, ?_, .of_host 0x50 num St.OK (z := { eraseSlot o.res s with
      writer := { (eraseSlot o.res s).writer with busy := none }, fw := s.fw.map fun f => { f with erased := true } }) rfl rfl, rfl, rfl⟩
    · simp only [exec, execFwBeginComplete, ho, hrun, hfree, Bool.not_true, Bool.or_self, Bool.false_eq_true, if_false]
      rfl
    · simp [State.endOp_eq, hf]
  case written =>
    intro f hb hf
    simp only [exec, execFwChunkWritten, hb, if_true, hf, Option.map_some]
  case checked =>
    intro o num tg ver ho hrun ha
    refine ⟨fun hv hl htg => ?_, fun hbad => fwCommitComplete_failed ho hrun ha rfl hbad, fwCommitComplete_failed ho hrun ha rfl (by decide)⟩
    exact fwCommitComplete_staged ho hrun ha hv hl htg
  case timeout =>
    intro f hf hage hheld
    have hgo : (elapsed s f.at_ 60000000 && !s.opHeld 0x52 f.target) = true := by simp [elapsed, hage, hheld]
    exact ⟨fwDrop s, by simp only [exec, execFwSessionTimeout, hf, hgo, if_true], rfl, rfl, rfl, rfl⟩
  case stands =>
    intro f hf hl hage
    have hno : (elapsed s f.at_ 60000000 && !s.opHeld 0x52 f.target) = false := by simp [elapsed, Nat.not_le.mpr hage, hl]
    simp only [exec, execFwSessionTimeout, hf, hno, Bool.false_eq_true, if_false]

end

section
/-! Attestation, privilege and keys (R478 to R485). -/

namespace Sys2Proof.Machine

/-- Behind the gate the link of the command is as before, but for its age (R53). -/
theorem hostCmd_relinked_link {s : State} {h : Hdr} {k : Cmd} (r : HostReady s h k.opc k.ver k.priv)
    (hk : (k.fits false && decide (k.len ≤ 1024)) = true) :
    ∃ spi i2c can fs, hostCmd h k s = .next (k.body (ctxOf h k.opc) (s.relinked spi i2c can fs)) ∧
      (s.relinked spi i2c can fs).link h.tr = { s.link h.tr with lastCmd := s.age } := by
  obtain ⟨spi, i2c, can, ha, -, -⟩ := arrived_relinked s r.2.1 k.opc
  have hl : (arrived h k.opc s).link h.tr = { s.link h.tr with lastCmd := s.age } := by
    rw [arrived, link_modLink]
    cases h.tr <;> rfl
  exact ⟨spi, i2c, can, s.host.flights ++ [⟨h.tr, some h.tag, k.opc, s.age, false⟩], by rw [hostCmd_eq r hk, ha], by rw [← hl, ha]⟩

/-- An answer leaves the challenge and the level of every link. -/
theorem answer_challenge (s : State) (c : Ctx) (st : Nat) (pay : List Byte) (tr : Transport) :
    ((s.answer c st pay).link tr).challenge = (s.link tr).challenge := by
  have hflush (u : State) : (u.flushCan.link tr).challenge = (u.link tr).challenge := by
    unfold State.flushCan
    split
    · rfl
    · cases tr <;> rfl
  obtain ⟨tr', tag, cyc, opc⟩ := c
  cases tr'
  case can => exact (hflush _).trans (by cases tr <;> rfl)
  all_goals cases tr <;> rfl

/-- An event leaves the host side but for its queue. -/
theorem raise_host (s : State) (c a : Nat) : (s.raise c a).host = { s.host with
    events := (s.raise c a).host.events, evSeq := (s.raise c a).host.evSeq, lost := (s.raise c a).host.lost } := by
  have e : OnlyEvents s (s.raise c a) := .raise s c a
  unfold OnlyEvents at e
  exact congrArg State.host e

/-- The end of an operation leaves the host side but for the operation and its event. -/
theorem endOp_host (s : State) (opc num st : Nat) : (s.endOp opc num st).host = { s.host with
    ops := s.host.ops.filter fun o => !(o.num == num && o.opc == opc)
    events := (s.endOp opc num st).host.events, evSeq := (s.endOp opc num st).host.evSeq, lost := (s.endOp opc num st).host.lost } :=
  raise_host _ _ _

/-- The end of an operation leaves every link. -/
theorem endOp_link (s : State) (opc num st : Nat) (k : Transport) : (s.endOp opc num st).link k = s.link k := by
  rw [State.endOp, raise_link]
  cases k <;> rfl

theorem endOpDetail_link (s : State) (opc num st d : Nat) (k : Transport) : (s.endOpDetail opc num st d).link k = s.link k := by
  rw [State.endOpDetail]
  refine Eq.trans ?_ (endOp_link s opc num st k)
  cases k <;> rfl

theorem Tells.endOp (s : State) (opc num st : Nat) : Tells s (s.endOp opc num st) Ev.OP_COMPLETE (opArg st opc num) := by
  rw [State.endOp]
  refine .of_keeps ?_ (.raise _ _ _)
  exact .of_host_events rfl rfl

theorem KeepsEvents.endOpDetail (s : State) (opc num st d : Nat) : KeepsEvents s (s.endOpDetail opc num st d) :=
  .trans (.endOp s opc num st) (.of_host_events rfl rfl)

theorem Tells.endOpDetail (s : State) (opc num st d : Nat) : Tells s (s.endOpDetail opc num st d) Ev.OP_COMPLETE (opArg st opc num) :=
  .mono (.endOp s opc num st) (.of_host_events rfl rfl)

theorem KeepsEvents.modLink (s : State) (tr : Transport) (f : Link → Link) : KeepsEvents s (s.modLink tr f) := by
  cases tr <;> exact .of_host_events rfl rfl

/-! The challenge (R480, R483). -/

/-- The 32 bytes that the next challenge draws (R480; free values, log 2). -/
def nextChallenge (s : State) : List Byte := (List.range 32).map fun k => Config.randomByte (s.freeCtr + k)

/-- The state in which a challenge is kept. -/
def challenged (tr : Transport) (lvl : Nat) (s : State) : State :=
  (s.drawn 32).modLink tr fun l => { l with challenge := some (lvl, nextChallenge s, s.age) }

theorem doAuthChallenge_given {s : State} {lvl : Nat} (c : Ctx) (h1 : 1 ≤ lvl) (h2 : lvl ≤ 4) (hl : (s.link c.tr).lockUntil = none) :
    doAuthChallenge c lvl s = (challenged c.tr lvl s).answer c St.OK (nextChallenge s) := by
  have hlvl : ¬ (lvl = 0 || decide (4 < lvl)) = true := by simp; omega
  unfold doAuthChallenge
  rw [if_neg hlvl, hl]
  rfl

theorem authChallenge_given {s : State} {h : Hdr} {lvl : Nat} (r : HostReady s h 0x49 2 0) (h1 : 1 ≤ lvl) (h2 : lvl ≤ 4)
    (hl : (s.link h.tr).lockUntil = none) :
    ∃ t ch, exec (.authChallenge h lvl) s = .next t ∧ ch = ((List.range 32).map fun k => Config.randomByte (s.freeCtr + k)) ∧
      Replied t h St.OK ch ∧ (t.link h.tr).challenge = some (lvl, ch, s.age) ∧ (t.link h.tr).priv = (s.link h.tr).priv ∧ t.params = s.params ∧
      t.host.ops = s.host.ops := by
  obtain ⟨spi, i2c, can, fs, e, hlink⟩ := hostCmd_relinked_link (k := cmdAuthChallenge lvl) r rfl
  generalize hz : s.relinked spi i2c can fs = z at e hlink
  have hzl : (z.link (ctxOf h 0x49).tr).lockUntil = none := by
    change (z.link h.tr).lockUntil = none
    rw [hlink, hl]
  have hbody := doAuthChallenge_given (ctxOf h 0x49) h1 h2 hzl
  have hon : OnlyReplies z (z.modLink h.tr fun l => { l with challenge := some (lvl, nextChallenge z, z.age) }) := .modLink z r.2.1 _
  have hlk : (challenged h.tr lvl z).link h.tr = { z.link h.tr with challenge := some (lvl, nextChallenge z, z.age) } := by
    rw [challenged, link_modLink]
    cases h.tr <;> rfl
  have hage : z.age = s.age := by rw [← hz]; rfl
  have hch : nextChallenge z = nextChallenge s := by rw [← hz]; rfl
  have ho := OnlyReplies.answer (challenged h.tr lvl z) (c := ctxOf h 0x49) r.2.1 St.OK (nextChallenge z)
  have hm : OnlyReplies (z.drawn 32) (challenged h.tr lvl z) := .modLink _ r.2.1 _
  refine ⟨_, nextChallenge s, e.trans (congrArg _ hbody), rfl, ?_, ?_, ?_, ?_, ?_⟩
  · rw [← hch]
    exact answer_repliedTo _ (ctxOf h 0x49) _ _
  · rw [answer_challenge]
    exact (congrArg Link.challenge hlk).trans (by rw [hage, hch])
  · rw [(answer_link _ _ _ _ _).2]
    exact (congrArg Link.priv hlk).trans (by rw [hlink])
  · exact ho.fields.2.1.trans (hm.fields.2.1.trans (by rw [← hz]; rfl))
  · exact ho.host.2.2.2.2.2.2.1.trans (hm.host.2.2.2.2.2.2.1.trans (by rw [← hz]; rfl))

theorem authChallenge_locked {s : State} {h : Hdr} {lvl a : Nat} (r : HostReady s h 0x49 2 0) (h1 : 1 ≤ lvl) (h2 : lvl ≤ 4)
    (hl : (s.link h.tr).lockUntil = some a) (ha : s.age < a) : Answers s (.authChallenge h lvl) h St.LOCKED [1, 0] := by
  obtain ⟨spi, i2c, can, fs, e, hlink⟩ := hostCmd_relinked_link (k := cmdAuthChallenge lvl) r rfl
  have hzl : ((s.relinked spi i2c can fs).link (ctxOf h 0x49).tr).lockUntil = some a := by
    change ((s.relinked spi i2c can fs).link h.tr).lockUntil = some a
    rw [hlink, hl]
  have hage : (s.relinked spi i2c can fs).age = s.age := rfl
  have hlvl : ¬ (lvl = 0 || decide (4 < lvl)) = true := by simp; omega
  have hbody : doAuthChallenge (ctxOf h 0x49) lvl (s.relinked spi i2c can fs) = (s.relinked spi i2c can fs).refuse (ctxOf h 0x49) St.LOCKED 1 := by
    unfold doAuthChallenge
    rw [if_neg hlvl, hzl]
    simp [hage, ha]
  exact ⟨_, e.trans (congrArg _ hbody), answer_repliedTo _ (ctxOf h 0x49) _ _,
    (OnlyReplies.relinked s spi i2c can fs).trans (.answer _ r.2.1 _ _)⟩

/-! The response (R480 to R483). -/

/-- The challenge that a response for a level is checked against: none where it does not stand (R480). -/
def challengeFor (s : State) (tr : Transport) (lvl : Nat) : List Byte :=
  match (s.link tr).challenge with
  | some (l, b, a) => if l = lvl && challengeStands s a then b else []
  | none => []

/-- The response draws what decides whether the challenge stands in the recovery loader (log 110). -/
def stoodDrawn (s : State) : State := if s.ctl.loader then s.drawn 1 else s

/-- Any response takes the challenge and starts its operation (R480). -/
theorem authResponse_taken {s : State} {h : Hdr} (r : HostReady s h 0x4A 2 0) (lvl slot : Nat) (sig : List Byte) :
    ∃ t, exec (.authResponse h lvl slot sig) s = .next t ∧ (t.link h.tr).challenge = none ∧ (t.link h.tr).priv = (s.link h.tr).priv ∧
      Accepts s t h 0x4A 0 [lvl, slot, b2n (!(challengeFor s h.tr lvl).isEmpty)] (sig.take 64 ++ challengeFor s h.tr lvl) := by
  obtain ⟨spi, i2c, can, fs, e, hlink⟩ := hostCmd_relinked_link (k := cmdAuthResponse lvl slot sig) r rfl
  set z := s.relinked spi i2c can fs with hz
  have hstands (a : Nat) : challengeStands z a = challengeStands s a := rfl
  have hch : challengeFor z h.tr lvl = challengeFor s h.tr lvl := by
    unfold challengeFor
    rw [hlink]
    rfl
  have hdrawn : (stoodDrawn z).host = z.host ∧ (stoodDrawn z).age = z.age := by
    unfold stoodDrawn
    split <;> exact ⟨rfl, rfl⟩
  set y := (stoodDrawn z).modLink h.tr fun l => { l with challenge := none } with hy
  have hyon : OnlyReplies (stoodDrawn z) y := .modLink _ r.2.1 _
  obtain ⟨ha, hrep⟩ := startOp_accepts r.2.1 hyon 0x4A 0 [lvl, slot, b2n (!(challengeFor z h.tr lvl).isEmpty)] (sig.take 64 ++ challengeFor z h.tr lvl)
  have hylink : y.link h.tr = { s.link h.tr with lastCmd := s.age, challenge := none } := by
    have hsl : (stoodDrawn z).link h.tr = z.link h.tr := by unfold State.link; rw [hdrawn.1]
    rw [hy, link_modLink, hsl, hlink]
  have hwith : (y.withOp 0x4A h.tr 0 [lvl, slot, b2n (!(challengeFor z h.tr lvl).isEmpty)] (sig.take 64 ++ challengeFor z h.tr lvl)).link h.tr =
      y.link h.tr := by cases h.tr <;> rfl
  refine ⟨_, e, ?_, ?_, ?_⟩
  · exact (answer_challenge _ _ _ _ _).trans ((congrArg Link.challenge hwith).trans (congrArg Link.challenge hylink))
  · exact (answer_link _ _ _ _ _).2.trans ((congrArg Link.priv hwith).trans (by rw [hylink]))
  · rw [← hch]
    exact ha.of_same (by rw [hdrawn.1]; rfl) (by rw [hdrawn.1]; rfl) (by rw [hdrawn.2]; rfl)

/-- The level granted and the failures cleared (R481, R483). -/
theorem authResponse_passed {s : State} {o : Op} {num lvl slot c : Nat} (ho : s.opRun 0x4A num = some o) (hrun : s.coreRuns = true)
    (ha : o.args = [lvl, slot, c]) (hp : authPasses s o = true) :
    ∃ t, exec (.authResponseComplete num) s = .next t ∧ (t.link o.tr).priv = lvl ∧ (t.link o.tr).fails = 0 ∧
      (∀ k, k ≠ o.tr → t.link k = s.link k) ∧ Tells s t Ev.OP_COMPLETE (opArg St.OK 0x4A num) := by
  set z := s.modLink o.tr fun l => { l with priv := lvl, fails := 0 } with hz
  have hzl : z.link o.tr = { s.link o.tr with priv := lvl, fails := 0 } := link_modLink _ _ _
  refine ⟨z.endOp 0x4A num St.OK, ?_, ?_, ?_, fun k hk => ?_, .of_keeps (.modLink _ _ _) (.endOp z _ _ _)⟩
  · simp only [exec, execAuthResponseComplete, ho, hrun, hp, ha, Bool.not_true, Bool.false_eq_true, if_false, if_true]
    rfl
  · rw [endOp_link, hzl]
  · rw [endOp_link, hzl]
  · rw [endOp_link, hz, link_modLink_ne _ hk]

/-- A response that fails counts (R481). -/
theorem authResponse_failed {s : State} {o : Op} {num lvl slot c : Nat} (ho : s.opRun 0x4A num = some o) (hrun : s.coreRuns = true)
    (ha : o.args = [lvl, slot, c]) (hp : authPasses s o = false) (hf : (s.link o.tr).fails < 4) :
    ∃ t, exec (.authResponseComplete num) s = .next t ∧ (t.link o.tr).priv = (s.link o.tr).priv ∧
      (t.link o.tr).fails = (s.link o.tr).fails + 1 ∧ (t.link o.tr).lockUntil = (s.link o.tr).lockUntil ∧
      t.host.endDetail = some (num, slot) ∧ Tells s t Ev.OP_COMPLETE (opArg St.AUTH_FAIL 0x4A num) := by
  have hn : ¬ 5 ≤ (s.link o.tr).fails + 1 := by omega
  set z := s.modLink o.tr fun l => { l with fails := (s.link o.tr).fails + 1 } with hz
  have hzl : z.link o.tr = { s.link o.tr with fails := (s.link o.tr).fails + 1 } := link_modLink _ _ _
  refine ⟨z.endOpDetail 0x4A num St.AUTH_FAIL slot, ?_, ?_, ?_, ?_, rfl, .of_keeps (.modLink _ _ _) (.endOpDetail z _ _ _ _)⟩
  · simp only [exec, execAuthResponseComplete, ho, hrun, hp, ha, Bool.not_true, Bool.false_eq_true, if_false, if_neg hn]
    rfl
  · rw [endOpDetail_link, hzl]
  · rw [endOpDetail_link, hzl]
  · rw [endOpDetail_link, hzl]

/-- The fifth failure in a row locks the challenges of its transport (R483). -/
theorem authResponse_lockout {s : State} {o : Op} {num lvl slot c : Nat} (ho : s.opRun 0x4A num = some o) (hrun : s.coreRuns = true)
    (ha : o.args = [lvl, slot, c]) (hp : authPasses s o = false) (hf : (s.link o.tr).fails = 4) :
    ∃ t, exec (.authResponseComplete num) s = .next t ∧ (t.link o.tr).priv = (s.link o.tr).priv ∧
      (t.link o.tr).lockUntil = some (s.age + 6000000) ∧ Tells s t Ev.AUTH_LOCKOUT (trNum o.tr) := by
  have hn : 5 ≤ (s.link o.tr).fails + 1 := by omega
  set z := s.modLink o.tr fun l => { l with fails := 0, lockUntil := some (s.age + 6000000) } with hz
  have hzl : z.link o.tr = { s.link o.tr with fails := 0, lockUntil := some (s.age + 6000000) } := link_modLink _ _ _
  refine ⟨(z.endOpDetail 0x4A num St.AUTH_FAIL slot).raise Ev.AUTH_LOCKOUT (trNum o.tr), ?_, ?_, ?_,
    .of_keeps ((KeepsEvents.modLink _ _ _).trans (.endOpDetail z _ _ _ _)) (.raise _ _ _)⟩
  · simp only [exec, execAuthResponseComplete, ho, hrun, hp, ha, Bool.not_true, Bool.false_eq_true, if_false, if_pos hn]
    rfl
  · rw [raise_link, endOpDetail_link, hzl]
  · rw [raise_link, endOpDetail_link, hzl]

/-! Key installation (R478). -/

theorem assocGet_assocDel {β : Type} (l : List (Nat × β)) (k j : Nat) : assocGet (assocDel l k) j = if j = k then none else assocGet l j := by
  rw [assocDel]
  refine (assocGet_filter (fun i => decide (i ≠ k)) l j).trans ?_
  by_cases h : j = k <;> simp [h]

/-- SEC.KEY_SLOT reads what was written (R478). -/
theorem par_keySlot {s t : State} (h : t.params = (s.setPar gSEC 0 SEC.KEY_SLOT 0xFFFF).params) : par t gSEC 0 SEC.KEY_SLOT = 0xFFFF := by
  have hd : ∀ big, (paramAt big (pid gSEC 0 SEC.KEY_SLOT)).any (fun d => d.words == 1 &&
      firstId d (pid gSEC 0 SEC.KEY_SLOT) == pid gSEC 0 SEC.KEY_SLOT) = true := by decide +kernel
  obtain ⟨d, h1, h23⟩ := (Option.any_eq_true _ _).mp (hd t.ident.big)
  obtain ⟨h2, h3⟩ : d.words = 1 ∧ firstId d (pid gSEC 0 SEC.KEY_SLOT) = pid gSEC 0 SEC.KEY_SLOT := by simpa using h23
  have hv : assocGet t.params.vals (pid gSEC 0 SEC.KEY_SLOT) = some (BitVec.ofNat 16 0xFFFF) := by
    rw [h]
    exact assocGet_assocSet_self _ _ _
  simp only [par, h1, h3, valBits, hv, h2, listed, Option.getD_some, ofWords]
  rfl

/-- What a key installation does beyond KEY_SLOT and its event: nothing where it fails, else the write of its slot (R478). -/
def keyStored (fail : Bool) (k : Nat) (b : List Byte) (s : State) : State :=
  if fail then s
  else if k = 1 then { s with otp := { s.otp with key1 := some b } }
  else if k = 3 then { s with otp := { s.otp with key3 := some b } }
  else s.beginWrite 7 fun f => { f with keys := if b == rep 64 0xFF then assocDel f.keys k else assocSet f.keys k b }

/-- Storing a key leaves the host side and the configuration. -/
theorem keyStored_fields (fail : Bool) (k : Nat) (b : List Byte) (s : State) :
    (keyStored fail k b s).host = s.host ∧ (keyStored fail k b s).params = s.params := by
  unfold keyStored
  repeat' split
  all_goals exact ⟨rfl, rfl⟩

/-- A key of OTP goes into its slot and no other. -/
theorem keyStored_otp {k : Nat} (hk : k = 1 ∨ k = 3) (b : List Byte) (s : State) :
    keyAt (keyStored false k b s) k = some b ∧ (keyStored false k b s).flash = s.flash ∧
      ∀ j, j ≠ k → keyAt (keyStored false k b s) j = keyAt s j := by
  rcases hk with rfl | rfl
  · exact ⟨rfl, rfl, fun j hj => by simp [keyAt, keyStored, hj]⟩
  · exact ⟨rfl, rfl, fun j hj => by simp [keyAt, keyStored, hj]⟩

/-- A key of flash goes into its slot and no other, or leaves it; the writer is taken (R240). -/
theorem keyStored_flash {k : Nat} (hk : 4 ≤ k) (b : List Byte) (s : State) :
    keyAt (keyStored false k b s) k = (if b = rep 64 0xFF then none else some b) ∧ (keyStored false k b s).otp = s.otp ∧
      (keyStored false k b s).writer.busy = some 7 ∧ ∀ j, j ≠ k → keyAt (keyStored false k b s) j = keyAt s j := by
  have e : keyStored false k b s = s.beginWrite 7 fun f => { f with keys := if b == rep 64 0xFF then assocDel f.keys k else assocSet f.keys k b } := by
    unfold keyStored
    rw [if_neg (by decide), if_neg (by omega), if_neg (by omega)]
  have hkeys (j : Nat) : assocGet (if b == rep 64 0xFF then assocDel s.flash.keys k else assocSet s.flash.keys k b) j =
      if j = k then (if b = rep 64 0xFF then none else some b) else assocGet s.flash.keys j := by
    by_cases hb : b = rep 64 0xFF
    · simp [hb, assocGet_assocDel]
    · rw [if_neg (by simpa using hb), if_neg hb]
      split
      case isTrue h => rw [h]; exact assocGet_assocSet_self _ _ _
      case isFalse h => exact assocGet_assocSet_ne _ _ h
  rw [e]
  refine ⟨?_, rfl, rfl, fun j hj => ?_⟩
  · unfold keyAt
    rw [if_neg (by omega), if_neg (by omega), if_neg (by omega), if_neg (by omega)]
    exact (hkeys k).trans (if_pos rfl)
  · unfold keyAt
    have : assocGet (s.beginWrite 7 fun f => { f with keys := if b == rep 64 0xFF then assocDel f.keys k else assocSet f.keys k b }).flash.keys j =
        assocGet s.flash.keys j := (hkeys j).trans (if_neg hj)
    rw [this]
    rfl

theorem keyInstallWrite_eq {s : State} {k : Nat} {b : List Byte} {ok fail : Bool} {rest : List (Nat × List Byte)}
    (hj : s.host.keyJobs = (k, b) :: rest) (hl : s.live = true) (hc : s.coreRuns = true) (hb : 4 ≤ k → s.writer.busy = none)
    (hf : fail = (!ok || (decide (k < 4) && (keyAt s k).isSome))) :
    exec (.keyInstallWrite ok) s = .next ((keyStored fail k b ((s.modHost fun h => { h with keyJobs := rest }).setPar gSEC 0 SEC.KEY_SLOT 0xFFFF)).raise
      Ev.KEY_INSTALLED (b2n fail * 2 ^ 8 + k)) := by
  have hgo : (!(s.live && s.coreRuns) || (decide (4 ≤ k) && s.writer.busy.isSome)) = false := by
    by_cases h4 : 4 ≤ k
    · simp [hl, hc, hb h4]
    · simp [hl, hc, h4]
  simp only [exec, execKeyInstallWrite, hj, hgo, Bool.false_eq_true, if_false, ← hf]
  rfl

end Sys2Proof.Machine

open Sys2Proof Sys2Proof.Machine

/-- Settles O53: each command by the operation it starts, each end by what it does to the link or to the slots. -/
theorem securityRows : Obligations.SecurityRows := by
  intro s h
  refine ⟨?attest, ?challenge, ?locked, ?response, ?stands, ?attested, ?answered, ?checked, ?unlocked, ?installed⟩
  case attest =>
    intro nonce kind r hk hroom
    obtain ⟨t, e, ha, ho⟩ := accepted_of_body (c := .attest h nonce kind) (k := cmdAttest nonce kind) (res := 0) (args := [kind])
      (data := nonce) id r rfl rfl rfl rfl rfl fun spi i2c can fs _ => ⟨rfl, by
        have hroom' : ¬ 8 ≤ (s.relinked spi i2c can fs).resultsHeld := Nat.not_le.mpr hroom
        show doAttest _ _ _ _ = _
        rw [doAttest, if_neg (Nat.not_lt.mpr hk), if_neg hroom']
        rfl⟩
    exact ⟨t, e, ha, ho.fields.1, ho.fields.2.1, ho.host.2.2.2.2.1⟩
  case challenge => exact fun lvl r h1 h2 hl => authChallenge_given r h1 h2 hl
  case locked => exact fun lvl a r h1 h2 hl ha => authChallenge_locked r h1 h2 hl ha
  case response =>
    intro lvl slot sig r
    obtain ⟨t, e, h1, h2, ha⟩ := authResponse_taken r lvl slot sig
    have gone (hch : challengeFor s h.tr lvl = []) : Accepts s t h 0x4A 0 [lvl, slot, 0] (sig.take 64) := by
      rw [hch, List.append_nil] at ha
      exact ha
    refine ⟨t, e, h1, h2, fun hn => gone (by simp [challengeFor, hn]), fun l ch a hs hne => gone ?_, fun ch a hs hne hst => ?_⟩
    · rcases hne with hne | hne <;> simp [challengeFor, hs, hne]
    · have hch : challengeFor s h.tr lvl = ch := by simp [challengeFor, hs, hst]
      rw [hch] at ha
      cases ch with
      | nil => exact absurd rfl hne
      | cons x xs => exact ha
  case stands =>
    intro a hl
    simp [challengeStands, hl]
  case attested =>
    intro o num ho hrun
    refine ⟨((s.drawn 1).keepResult 0x48 num (attestResult s o.data (o.args.getD 0 0) s.freeCtr)).endOp 0x48 num St.OK,
      ⟨num, 0x48, attestResult s o.data (o.args.getD 0 0) s.freeCtr, false, s.age + 1000000⟩, ?_, ?_, rfl, rfl, rfl, rfl, ?_,
      .of_keeps (.of_host_events rfl rfl) (.endOp ((s.drawn 1).keepResult _ _ _) _ _ _)⟩
    · simp only [exec, execAttestComplete, ho, hrun, Bool.not_true, Bool.false_eq_true, if_false]
    · rw [endOp_host]; rfl
    · rw [endOp_host]; rfl
  case answered =>
    exact fun o num lvl slot c ho hrun ha => ⟨authResponse_passed ho hrun ha, authResponse_failed ho hrun ha, authResponse_lockout ho hrun ha⟩
  case checked =>
    intro o lvl slot ha hne
    have h3 : ¬ (lvl = 3 && slot = 3 && s.otp.key3.isNone) = true := by simp [hne]
    constructor
    · intro hg key hk
      have hno : ¬ (decide ((1 : Nat) = 0) || decide (keyGrant slot < lvl)) = true := by simp [Nat.not_lt.mpr hg]
      simp only [authPasses, ha, List.getD_cons_zero, List.getD_cons_succ, if_neg h3, if_neg hno, hk]
    · rintro (hg | hk)
      · have hno : (decide ((1 : Nat) = 0) || decide (keyGrant slot < lvl)) = true := by simp [hg]
        simp only [authPasses, ha, List.getD_cons_zero, List.getD_cons_succ, if_neg h3, if_pos hno]
      · simp only [authPasses, ha, List.getD_cons_zero, List.getD_cons_succ, if_neg h3, hk, ite_self]
  case unlocked =>
    intro tr a hl ha
    refine ⟨s.modLink tr fun l => { l with lockUntil := none }, ?_, link_modLink _ _ _, fun k hk => link_modLink_ne _ hk _, ?_, ?_⟩
    · simp only [exec, execAuthLockoutEnd, hl]
      rw [if_pos (by simp [elapsed, ha])]
    · cases tr <;> rfl
    · cases tr <;> rfl
  case installed =>
    intro k b ok rest fail hj hl hc hb hf
    set z := (s.modHost fun h => { h with keyJobs := rest }).setPar gSEC 0 SEC.KEY_SLOT 0xFFFF with hz
    obtain ⟨h1, h2⟩ := keyStored_fields fail k b z
    have hkeeps : KeepsEvents s (keyStored fail k b z) := .of_host_events (by rw [h1]; rfl) (by rw [h1]; rfl)
    refine ⟨_, keyInstallWrite_eq hj hl hc hb hf, ?_, ?_, .of_keeps hkeeps (.raise _ _ _), fun he => ?_, fun he hk => ?_, fun he hk => ?_⟩
    · rw [raise_host, h1]; rfl
    · exact par_keySlot h2
    · subst he; exact ⟨rfl, rfl⟩
    · subst he; exact keyStored_otp hk b z
    · subst he; exact keyStored_flash hk b z

end

section
/-! Calibration (R142 to R155). -/

namespace Sys2Proof.Machine

/-- CAL_ALTER of a channel as the table has it. -/
theorem calAlter_channel (s : State) (h : Hdr) {c : Nat} (hc : c < 56) (b : List Byte) :
    exec (.calAlter h c b) s = hostCmd h ⟨0x31, 2, 2, 2 + b.length, fun _ => b.length = 12, fun x z => doCalAlter x c b z⟩ s := by
  change hostCmd h (cmdCalAlter c b) s = _
  rw [cmdCalAlter, if_neg (by omega)]

/-- A channel that is present passes the first check of CAL_ALTER (R142). -/
theorem doCalAlter_present {s : State} {c : Nat} (hc : c < 56) (hp : chanPresent s c = true) (x : Ctx) (b : List Byte) :
    doCalAlter x c b s =
      if !bit (fld b 0 1) 0 && (altGain b < -13107 || 13107 < altGain b) then s.refuse x St.OUT_OF_RANGE 6
      else if !bit (fld b 0 1) 0 && selvOk s && scaleOut s c (altGain b) then s.refuse x St.SELVEDGE 6
      else if !bit (fld b 0 1) 0 && selvOk s && 16 * selvOffMax s c < absN (altOff b) then s.refuse x St.SELVEDGE 4
      else if s.opHeld 0x31 c then s.refuse x St.BUSY 5
      else if alterLocked s c then s.refuse x St.LOCKED 2
      else s.startOp x c [] b := by
  unfold doCalAlter
  rw [if_neg (by simp [hp, Nat.not_le.mpr hc])]

/-- A REMOVE, or coefficients in range with no selvedge record in force, meets no window (R144, log 69). -/
theorem doCalAlter_windowless {s : State} {c : Nat} (hc : c < 56) (hp : chanPresent s c = true) (x : Ctx) {b : List Byte}
    (hb : bit (fld b 0 1) 0 = true ∨ -13107 ≤ altGain b ∧ altGain b ≤ 13107 ∧ selvOk s = false) (hheld : s.opHeld 0x31 c = false) :
    doCalAlter x c b s = if alterLocked s c then s.refuse x St.LOCKED 2 else s.startOp x c [] b := by
  rw [doCalAlter_present hc hp]
  rcases hb with hb | ⟨h1, h2, h3⟩
  · simp [hb, hheld]
  · simp [Int.not_lt.mpr h1, Int.not_lt.mpr h2, h3, hheld]

theorem calAlter_answered {s : State} {h : Hdr} {c : Nat} {b : List Byte} {st n : Nat} (r : HostReady s h 0x31 2 2) (hc : c < 56) (hb : b.length = 12)
    (hbody : ∀ spi i2c can fs, doCalAlter (ctxOf h 0x31) c b (s.relinked spi i2c can fs) =
      (s.relinked spi i2c can fs).refuse (ctxOf h 0x31) st n) : Answers s (.calAlter h c b) h st (leBytes 2 n) :=
  answers_of_body (k := ⟨0x31, 2, 2, 2 + b.length, fun _ => b.length = 12, fun x z => doCalAlter x c b z⟩) r (calAlter_channel s h hc b)
    (by simp [hb]) fun spi i2c can fs _ => ⟨_, .refl _, hbody spi i2c can fs⟩

/-- A selvedge record whose form and sum are right meets the checks of the state (R149). -/
theorem doCalSelvedge_sound {s : State} {r : List Byte} (x : Ctx) (h1 : fld r 0 2 = 0x5E1D) (h2 : fld r 2 1 = 1)
    (h3 : crc32 (r.take 780) = fld r 780 4) :
    doCalSelvedge x r s = if fld s.otp.selv 3 1 = 1 then s.refuse x St.READ_ONLY 0 else if s.opHeld 0x31 0xFE then s.refuse x St.BUSY 5
      else if s.ctl.state ≠ .standby then s.refuse x St.LOCKED 2 else s.startOp x 0xFE [] r := by
  unfold doCalSelvedge
  rw [if_neg (by simp [h1]), if_neg (by simp [h2]), if_neg (by simp [h3])]

/-- The state in which the conversions of a CAL_MEASURE are asked for (R122, R147). -/
def measureAsked (x : Ctx) (c k : Nat) (s : State) : State :=
  if c < 40 then s.modSense fun z => { z with reqs := z.reqs ++ [⟨5, c, 2 ^ k, nextOp s.host.opNum, false, planAge x s⟩] } else s

theorem doCalMeasure_asked {s : State} {c k : Nat} (x : Ctx) (hc : c < 56) (hp : chanPresent s c = true) (hk : k ≤ 12)
    (hheld : s.opHeld 0x32 c = false) (hroom : s.resultsHeld < 8) :
    doCalMeasure x c k s = (measureAsked x c k s).startOp x c [k] [] := by
  unfold doCalMeasure
  rw [if_neg (by simp [hp, Nat.not_le.mpr hc]), if_neg (Nat.not_lt.mpr hk), if_neg (by simp [hheld]), if_neg (Nat.not_le.mpr hroom)]
  rfl

theorem calMeasure_taken {s : State} {h : Hdr} {c k : Nat} (r : HostReady s h 0x32 2 2) (hc : c < 56) (hp : chanPresent s c = true) (hk : k ≤ 12)
    (hheld : s.opHeld 0x32 c = false) (hroom : s.resultsHeld < 8) :
    ∃ t, exec (.calMeasure h c k) s = .next t ∧ Accepts s t h 0x32 c [k] [] ∧
      OnlyReplies ((measureAsked (ctxOf h 0x32) c k s).withOp 0x32 h.tr c [k] []) t := by
  have hhost (z : State) : (measureAsked (ctxOf h 0x32) c k z).host = z.host ∧ (measureAsked (ctxOf h 0x32) c k z).age = z.age := by
    unfold measureAsked
    split <;> exact ⟨rfl, rfl⟩
  refine accepted_of_body (k := cmdCalMeasure c k) (res := c) (args := [k]) (data := []) (measureAsked (ctxOf h 0x32) c k) r rfl rfl
    (by rw [(hhost s).1]) (by rw [(hhost s).1]) (hhost s).2 fun spi i2c can fs _ =>
      ⟨?_, doCalMeasure_asked (s := s.relinked spi i2c can fs) _ hc hp hk hheld hroom⟩
  unfold measureAsked
  split <;> rfl

/-- With no launch waiting the first steps of a restore empty the sets (R154). -/
theorem restoreClear_idle {s : State} (ht : s.host.tide = []) :
    restoreClear s = s.modHost fun h => { h with sets := h.sets.map fun k => { k with entries := [] } } := by
  have ht' : (s.modHost fun h => { h with sets := h.sets.map fun k => { k with entries := [] } }).host.tide = [] := ht
  simp only [restoreClear, cancelAll, ht', List.foldl_nil]

theorem restoreFactory_taken {s : State} {h : Hdr} (r : HostReady s h 0x38 2 3) (hst : s.ctl.state = .standby) (ht : s.host.tide = []) :
    ∃ t, exec (.restoreFactory h 0x7E57) s = .next t ∧ Accepts s t h 0x38 0 [] [] ∧
      OnlyReplies ((s.modHost fun h => { h with sets := h.sets.map fun k => { k with entries := [] } }).withOp 0x38 h.tr 0 [] []) t := by
  refine accepted_of_body (k := cmdRestoreFactory 0x7E57) (res := 0) (args := []) (data := [])
    (fun z => z.modHost fun h => { h with sets := h.sets.map fun k => { k with entries := [] } }) r rfl rfl rfl rfl rfl fun spi i2c can fs _ =>
      ⟨rfl, ?_⟩
  have ht' : (s.relinked spi i2c can fs).host.tide = [] := ht
  have hst' : ¬ (s.relinked spi i2c can fs).ctl.state ≠ .standby := fun n => n hst
  change doRestoreFactory _ 0x7E57 _ = _
  rw [doRestoreFactory, if_neg (by simp), if_neg hst', restoreClear_idle ht']

/-- The last record of the journal is the one added, and the journal grows by it while it has room (R145, R146). -/
theorem journalAdd_last (j : List JRec) (c : Nat) (b : List Byte) :
    ((journalAdd j c b).getLast?.map fun r => (r.chan, r.block, r.crcOk)) = some (c, b, true) ∧
      (j.length < 1024 → (journalAdd j c b).length = j.length + 1) := by
  refine ⟨by simp [journalAdd], fun h => ?_⟩
  simp [journalAdd, Nat.not_le.mpr h]

/-- The end of CAL_ALTER (R145, R149). -/
theorem calAlterComplete_eq {s : State} {o : Op} {num : Nat} (ho : s.opRun 0x31 num = some o) (hl : s.live = true) (hc : s.coreRuns = true)
    (hj : ∀ a ∈ s.host.altJobs, a.2.2.2 ≠ num) (ok : Bool) :
    exec (.calAlterComplete num ok) s = .next (if !ok then s.endOp 0x31 num St.INTERNAL
      else if o.res = 0xFE then ({ s with otp := { s.otp with selv := o.data } } : State).endOp 0x31 num St.OK
      else (s.modFlash fun f => { f with journal := journalAdd f.journal o.res o.data }).modHost fun h => { h with
        altJobs := h.altJobs ++ [(o.res, (if bit (fld o.data 0 1) 0 then none else some o.data), s.swapFrame + 2, num)] }) := by
  have hgo : (!(s.live && s.coreRuns) || s.host.altJobs.any fun a => a.2.2.2 == num) = false := by
    simp only [hl, hc, Bool.and_self, Bool.not_true, Bool.false_or, List.any_eq_false, beq_iff_eq]
    exact hj
  simp only [exec, execCalAlterComplete, ho, hgo, Bool.false_eq_true, if_false]
  rfl

end Sys2Proof.Machine

open Sys2Proof Sys2Proof.Machine

/-- Settles O55: each command by the operation it starts, each end by what it hands over. -/
theorem calibrationRows : Obligations.CalibrationRows := by
  intro s h
  refine ⟨?alter, ?range, ?locked, ?selvedge, ?measure, ?restore, ?busyState, ?altered, ?measured, ?restored⟩
  case alter =>
    intro c b r hc hp hb hheld hlock hwin
    obtain ⟨t, e, ha, ho⟩ := accepted_of_body (k := ⟨0x31, 2, 2, 2 + b.length, fun _ => b.length = 12, fun x z => doCalAlter x c b z⟩) (res := c)
      (args := []) (data := b) id r (calAlter_channel s h hc b) (by simp [hb]) rfl rfl rfl fun spi i2c can fs _ => ⟨rfl, by
        have hlock' : alterLocked (s.relinked spi i2c can fs) c = false := hlock
        show doCalAlter _ c b _ = _
        rw [doCalAlter_windowless (s := s.relinked spi i2c can fs) hc hp _ hwin hheld, hlock']
        rfl⟩
    exact ⟨t, e, ha, ho.fields.2.2.1, ho.fields.2.1, ho.fields.2.2.2.2.2.2.1⟩
  case range =>
    intro c b r hc hp hb hrem hg
    refine calAlter_answered r hc hb fun spi i2c can fs => ?_
    rw [doCalAlter_present (s := s.relinked spi i2c can fs) hc hp, if_pos (by simp [hrem, hg])]
  case locked =>
    intro c b r hc hp hb hrem hheld hlock
    refine calAlter_answered r hc hb fun spi i2c can fs => ?_
    have hlock' : alterLocked (s.relinked spi i2c can fs) c = true := hlock
    rw [doCalAlter_windowless (s := s.relinked spi i2c can fs) hc hp _ (.inl hrem) hheld, hlock']
    rfl
  case selvedge =>
    intro r hr hlen h1 h2 h3
    have hfit : ((cmdCalAlter 0xFE r).fits false && decide ((cmdCalAlter 0xFE r).len ≤ 1024)) = true := by simp [cmdCalAlter, hlen]
    refine ⟨fun hlk => ?_, fun hlk hheld hst => ?_⟩
    · refine answers_of_body (k := cmdCalAlter 0xFE r) hr rfl hfit fun spi i2c can fs _ => ⟨_, .refl _, ?_⟩
      have hlk' : fld (s.relinked spi i2c can fs).otp.selv 3 1 = 1 := hlk
      exact (doCalSelvedge_sound _ h1 h2 h3).trans (if_pos hlk')
    · obtain ⟨t, e, ha, ho⟩ := accepted_of_body (c := .calAlterSelvedge h r) (k := cmdCalAlter 0xFE r) (res := 0xFE) (args := []) (data := r) id hr rfl
        hfit rfl rfl rfl fun spi i2c can fs _ => ⟨rfl, by
          have hlk' : ¬ fld (s.relinked spi i2c can fs).otp.selv 3 1 = 1 := hlk
          have hheld' : (s.relinked spi i2c can fs).opHeld 0x31 0xFE = false := hheld
          have hst' : ¬ (s.relinked spi i2c can fs).ctl.state ≠ .standby := fun n => n hst
          refine (doCalSelvedge_sound _ h1 h2 h3).trans ?_
          rw [if_neg hlk', hheld', if_neg (by decide), if_neg hst']
          rfl⟩
      exact ⟨t, e, ha, ho.fields.2.2.2.2.2.2.1, ho.fields.2.1⟩
  case measure =>
    intro c k r hc hp hk hheld hroom
    obtain ⟨t, e, ha, ho⟩ := calMeasure_taken r hc hp hk hheld hroom
    refine ⟨t, e, ha, ho.fields.2.1.trans ?_, fun h40 => ho.fields.1.trans ?_, fun h40 => ?_⟩
    · unfold measureAsked
      split <;> rfl
    · rw [measureAsked, if_neg (Nat.not_lt.mpr h40)]; rfl
    · rw [ho.fields.1, measureAsked, if_pos h40]; rfl
  case restore =>
    intro r hst ht
    obtain ⟨t, e, ha, ho⟩ := restoreFactory_taken r hst ht
    exact ⟨t, e, ha, ho.host.1, ho.fields.2.2.1, ho.fields.2.1⟩
  case busyState =>
    intro r hst
    refine answers_of_body (k := cmdRestoreFactory 0x7E57) r rfl rfl fun spi i2c can fs _ => ⟨_, .refl _, ?_⟩
    have hst' : (s.relinked spi i2c can fs).ctl.state ≠ .standby := hst
    change doRestoreFactory _ 0x7E57 _ = _
    rw [doRestoreFactory, if_neg (by simp), if_pos hst']
    rfl
  case altered =>
    intro o num ho hl hc hj
    refine ⟨⟨_, calAlterComplete_eq ho hl hc hj false, .of_host _ _ _ rfl rfl, rfl, rfl⟩, fun he => ?_, fun hne => ?_⟩
    · refine ⟨({ s with otp := { s.otp with selv := o.data } } : State).endOp 0x31 num St.OK, ?_, rfl, ?_, rfl, rfl⟩
      · rw [calAlterComplete_eq ho hl hc hj true, if_neg (by decide), if_pos he]
      · exact .of_host (z := { s with otp := { s.otp with selv := o.data } }) _ _ _ rfl rfl
    · obtain ⟨h1, h2⟩ := journalAdd_last s.flash.journal o.res o.data
      refine ⟨(s.modFlash fun f => { f with journal := journalAdd f.journal o.res o.data }).modHost fun h => { h with
        altJobs := h.altJobs ++ [(o.res, (if bit (fld o.data 0 1) 0 then none else some o.data), s.swapFrame + 2, num)] }, ?_, rfl, rfl, h1, h2, rfl⟩
      rw [calAlterComplete_eq ho hl hc hj true, if_neg (by decide), if_neg hne]
  case measured =>
    intro o num codes k cs ho ha hl hc hlen hcs hreq
    have hcs' : codes.map (measCode o.res) = cs := hcs.symm
    have hfree : (s.jobs.sense.reqs.any fun r => r.cls == 5 && r.who == num) = false := by
      simpa [List.any_eq_false] using hreq
    have hclen : cs.length = 2 ^ k := by rw [hcs, List.length_map, hlen]
    refine ⟨(s.keepResult 0x32 num (Machine.measured cs)).endOp 0x32 num St.OK, ⟨num, 0x32, Machine.measured cs, false, s.age + 1000000⟩, ?_, ?_,
      rfl, rfl, rfl, by rw [Machine.measured, hclen], .of_keeps (.of_host_events rfl rfl) (.endOp (s.keepResult _ _ _) _ _ _)⟩
    · simp only [exec, execCalMeasureComplete, ho, ha, hc, hl, hlen, hfree, hcs', List.getD_cons_zero, decide_true, Bool.not_false, Bool.and_self, if_true]
    · rw [endOp_host]; rfl
  case restored =>
    intro o num ho hl hc hj
    have hgo : (!(s.live && s.coreRuns) || s.host.restoreJob.isSome) = false := by simp [hl, hc, hj]
    exact ⟨(s.modFlash fun f => { f with journal := [], cfg := stagedWords (factoryConfig s) }).modHost fun h => { h with
        dirty := false, cfgAt := some s.age, restoreJob := some (s.swapFrame + 2, num, s.flash.journal.length) },
      by simp only [exec, execRestoreFactoryComplete, ho, hgo, Bool.false_eq_true, if_false]; rfl, rfl, rfl, rfl, rfl, rfl, rfl, rfl⟩

end

section
/-! Frames on the fleet's lines (R369 to R371): one that is given to an open port stands on its line or waits for it. -/

namespace Sys2Proof.Machine

/-- The port's line or its waiting frames hold a frame of this form. -/
def FlPort.Holds (p : FlPort) (typ route dst : Nat) (pay : List Byte) : Prop :=
  ∃ g : FFrame, g.typ = typ ∧ g.route = route ∧ g.dst = dst ∧ g.pay = pay ∧ (g.wire ∈ p.sent ∨ ∃ pr, (pr, g) ∈ p.wait)

theorem mem_waitIn (pr : Nat) (f : FFrame) (l : List (Nat × FFrame)) : (pr, f) ∈ waitIn pr f l := by
  induction l with
  | nil => exact List.mem_singleton_self _
  | cons e l ih =>
    obtain ⟨k, g⟩ := e
    unfold waitIn
    split
    · exact List.mem_cons_self ..
    · exact List.mem_cons_of_mem _ ih

/-- The header of a frame on its link keeps type, route, target and payload (R369). -/
theorem onLink_fields (f : FFrame) (v : Nat) :
    (f.onLink v).typ = f.typ ∧ (f.onLink v).route = f.route ∧ (f.onLink v).dst = f.dst ∧ (f.onLink v).pay = f.pay := by
  unfold FFrame.onLink
  split <;> exact ⟨rfl, rfl, rfl, rfl⟩

theorem FlPort.Holds.pump {p : FlPort} {typ route dst : Nat} {pay : List Byte} (h : p.Holds typ route dst pay) (k : Nat) :
    (FlPort.pump k p).Holds typ route dst pay := by
  induction k generalizing p with
  | zero => exact h
  | succ k ih =>
    unfold FlPort.pump
    split
    case h_2 => exact h
    case h_1 pr f l hw =>
      split
      case isFalse => exact h
      case isTrue =>
        refine ih ?_
        obtain ⟨g, h1, h2, h3, h4, hs | ⟨q, hq⟩⟩ := h
        · exact ⟨g, h1, h2, h3, h4, .inl (List.mem_append_left _ hs)⟩
        · rw [hw] at hq
          rcases List.mem_cons.mp hq with hq | hq
          · cases hq
            obtain ⟨e1, e2, e3, e4⟩ := onLink_fields f p.ver
            exact ⟨{ f.onLink p.ver with lseq := p.txSeq }, e1.trans h1, e2.trans h2, e3.trans h3, e4.trans h4,
              .inl (List.mem_append_right _ (List.mem_singleton_self _))⟩
          · exact ⟨g, h1, h2, h3, h4, .inr ⟨q, hq⟩⟩

/-- A frame given to a port whose link is up is held there (R370). -/
theorem FlPort.give_holds {p : FlPort} (hu : p.up = true) (pr : Nat) (f : FFrame) : (p.give pr f).Holds f.typ f.route f.dst f.pay := by
  unfold FlPort.give
  rw [if_neg (by simp [hu])]
  split
  · exact .pump ⟨f, rfl, rfl, rfl, rfl, .inr ⟨pr, mem_waitIn pr f p.wait⟩⟩ 8
  · obtain ⟨e1, e2, e3, e4⟩ := onLink_fields f p.ver
    exact ⟨f.onLink p.ver, e1, e2, e3, e4, .inl (List.mem_append_right _ (List.mem_singleton_self _))⟩

theorem openPort_up {s : State} {q : Nat} (h : openPort s q = true) : (s.fl q).up = true := by
  simp only [openPort, Bool.and_eq_true] at h
  exact h.1.1.1

theorem routePort_open {s : State} {dst k : Nat} (h : routePort s dst = some k) : openPort s k = true := by
  unfold routePort at h
  split at h
  · split at h
    case isTrue ho => cases h; exact ho
    case isFalse => cases h
  · split at h
    · split at h
      case isTrue ho => cases h; exact ho
      case isFalse => cases h
    · cases h

/-- A frame given to an open port of the part (R371). -/
theorem gave_give {s : State} {q : Nat} (hq : HasFl s q) (ho : openPort s q = true) (pr : Nat) (f : FFrame) :
    Gave (s.modFl q fun p => p.give pr f) q f.typ f.route f.dst f.pay := by
  have hl : q < s.jobs.fleet.ports.length := by obtain ⟨h1, h2⟩ := hq; omega
  unfold Gave
  rw [State.fl_modFl_self hl]
  exact FlPort.give_holds (openPort_up ho) pr f

/-- A frame given to several ports, each once: each has it, and no other port moves (R371). -/
theorem fl_giveAll (f : FFrame) {qs : List Nat} (hn : qs.Nodup) {s : State} (hq : ∀ q ∈ qs, q < s.jobs.fleet.ports.length) (k : Nat) :
    (qs.foldl (fun s q => s.modFl q fun p => p.give 0 f) s).fl k = if k ∈ qs then (s.fl k).give 0 f else s.fl k := by
  induction qs generalizing s with
  | nil => rfl
  | cons q qs ih =>
    obtain ⟨hnq, hn'⟩ := List.nodup_cons.mp hn
    have hlen : (s.modFl q fun p => p.give 0 f).jobs.fleet.ports.length = s.jobs.fleet.ports.length := modAt_length _ _ _
    refine (ih hn' fun j hj => ?_).trans ?_
    · rw [hlen]
      exact hq j (List.mem_cons_of_mem _ hj)
    · by_cases hk : k = q
      · subst hk
        rw [if_neg hnq, if_pos (List.mem_cons_self ..), State.fl_modFl_self (hq k (List.mem_cons_self ..))]
      · rw [State.fl_modFl_ne hk]
        simp [hk]

/-- What goes to the children is held at every child (R371). -/
theorem fwdDown_gave {s : State} (h3 : s.jobs.fleet.ports.length = 3) (f : FFrame) :
    ∀ k ∈ childPorts s, Gave (fwdDown f s) k f.typ f.route f.dst f.pay := by
  intro k hk
  have hchild (q : Nat) (hq : q ∈ childPorts s) : q < 3 ∧ (s.fl q).up = true := by
    simp only [childPorts, List.mem_filter, List.mem_range, Bool.and_eq_true] at hq
    exact ⟨hq.1, openPort_up hq.2.1⟩
  unfold Gave fwdDown
  rw [fl_giveAll f (qs := childPorts s) (List.nodup_range.filter _) (fun q hq => h3 ▸ (hchild q hq).1), if_pos hk]
  exact FlPort.give_holds (hchild k hk).2 0 f

end Sys2Proof.Machine
end

section
/-! The fleet commands of a host (R80, R387, R393 to R396). -/

namespace Sys2Proof.Machine

/-- The next operation identifier of the fleet (R393). -/
def nextOpid (s : State) : Nat := (s.fleet.opid + 1) % 65536

/-- The payload of the CMD frame for an inner packet (R393). -/
def cmdPay (s : State) (tr : Transport) (inner : List Byte) : List Byte :=
  leBytes 2 s.fleet.addr ++ leBytes 2 (nextOpid s) ++ [byte (s.link tr).priv, 0] ++ inner

/-- The state in which a FLEET_CMD has started its operation under the next identifier (R393). -/
def cmdStarted (c : Ctx) (target : Nat) (s : State) : State :=
  (s.startOp c 0 [nextOpid s, target] []).modFleet fun f => { f with opid := nextOpid s }

/-- Starting an operation leaves everything but the host side. -/
theorem startOp_hostOnly {s z : State} (hz : OnlyReplies s z) (c : Ctx) (res : Nat) (args : List Nat) (data : List Byte) :
    ∃ g, z.startOp c res args data = { s with host := g } := by
  obtain ⟨g, e⟩ := z.startOp_host c res args data
  refine ⟨g, e.trans ?_⟩
  rw [hz]

/-- A started FLEET_CMD leaves all but the host side and the identifier. -/
theorem cmdStarted_facts {s z : State} {h : Hdr} (ht : h.tr ≠ .fleet) (hz : OnlyReplies s z) (target : Nat) :
    Accepts s (cmdStarted (ctxOf h 0x70) target z) h 0x70 0 [nextOpid s, target] [] ∧
      (cmdStarted (ctxOf h 0x70) target z).host.events = s.host.events ∧
      ∃ g, cmdStarted (ctxOf h 0x70) target z = { s with host := g, jobs := { s.jobs with fleet := { s.jobs.fleet with opid := nextOpid s } } } := by
  have hid : nextOpid z = nextOpid s := by
    unfold nextOpid State.fleet
    rw [hz.fields.1]
  obtain ⟨ha, ho⟩ := startOp_accepts ht hz 0x70 0 [nextOpid s, target] []
  unfold cmdStarted
  rw [hid]
  obtain ⟨g, e⟩ := startOp_hostOnly hz (ctxOf h 0x70) 0 [nextOpid s, target] []
  refine ⟨ha.kept ?_ rfl rfl rfl, ho.host.2.2.2.2.1, g, by rw [e]; rfl⟩
  cases h.tr <;> rfl

theorem cmdPay_relinked {s z : State} {tr : Transport} (hz : OnlyReplies s z) (hp : (z.link tr).priv = (s.link tr).priv) (inner : List Byte) :
    cmdPay z tr inner = cmdPay s tr inner := by
  unfold cmdPay nextOpid State.fleet
  rw [hz.fields.1, hp]

section
variable {s : State} {c : Ctx} {target : Nat} {inner : List Byte}

/-- A command to one unit goes towards it (R393). -/
theorem doFleetCmd_unit (h1 : target < 1024) (hown : target ≠ s.fleet.addr) (hcut : cutOff s = false) (hroom : s.resultsHeld < 8)
    (haddr : (cmdStarted c target s).fleet.addr = s.fleet.addr) {k : Nat} (hk : routePort (cmdStarted c target s) target = some k) :
    doFleetCmd c target inner s = (cmdStarted c target s).modFl k fun p =>
      p.give (upPrio Eli.CMD) ⟨Eli.CMD, 3, 0, unitVer (cmdStarted c target s), (cmdStarted c target s).fleet.addr, target,
        cmdPay s c.tr inner⟩ := by
  have hto : ¬ (decide (1024 ≤ target) && decide (target ≠ 0xFFFF)) = true := by simp; omega
  have hall : ¬ target = 0xFFFF := by omega
  unfold doFleetCmd
  dsimp only
  rw [if_neg hto, hcut, if_neg (by decide), if_neg (Nat.not_le.mpr hroom), if_neg hall]
  change (if target = (cmdStarted c target s).fleet.addr then _
    else cmdOnward (routePort (cmdStarted c target s) target) _ (cmdStarted c target s)) = _
  rw [if_neg fun he => hown (he.trans haddr), hk]
  rfl

/-- A command to all goes to the root (R393). -/
theorem doFleetCmd_all (hcut : cutOff s = false) (hroom : s.resultsHeld < 8) (hr : isReset inner = false) :
    doFleetCmd c 0xFFFF inner s = originate Eli.CMD (cmdPay s c.tr inner) (cmdRun (cmdPay s c.tr inner) true) (cmdStarted c 0xFFFF s) := by
  unfold doFleetCmd
  dsimp only
  rw [if_neg (by decide), hcut, if_neg (by decide), if_neg (Nat.not_le.mpr hroom), if_pos rfl, hr, if_neg (by decide)]
  rfl

/-- The reset packet makes every unit reset (R394). -/
theorem doFleetCmd_reset (hcut : cutOff s = false) (hroom : s.resultsHeld < 8) (hr : isReset inner = true) :
    doFleetCmd c 0xFFFF inner s = originate Eli.RESET [] (fun s => s.modCtl fun k => { k with resetReq := some 4 }) (cmdStarted c 0xFFFF s) := by
  unfold doFleetCmd
  dsimp only
  rw [if_neg (by decide), hcut, if_neg (by decide), if_neg (Nat.not_le.mpr hroom), if_pos rfl, hr, if_pos rfl]
  rfl

end

theorem cutOff_joined {s : State} (hc : s.fleet.cut = false) (hst : s.fleet.st = .member ∨ s.fleet.st = .root) : cutOff s = false := by
  rcases hst with h | h <;> simp [cutOff, hc, h]

theorem cmdFleetCmd_fits {target : Nat} {inner : List Byte} (h1 : 6 ≤ inner.length) (h2 : inner.length ≤ 1018) :
    ((cmdFleetCmd target inner).fits false && decide ((cmdFleetCmd target inner).len ≤ 1024)) = true := by
  simp [cmdFleetCmd, h1, h2]
  omega

/-- FLEET_CMD to one unit (R393). -/
theorem fleetCmd_unit {s : State} {h : Hdr} {tgt k : Nat} {inner : List Byte} (r : HostReady s h 0x70 3 2) (h1 : tgt < 1024)
    (hown : tgt ≠ s.fleet.addr) (hcut : cutOff s = false) (hroom : s.resultsHeld < 8) (h6 : 6 ≤ inner.length) (hmax : inner.length ≤ 1018)
    (hk : routePort s tgt = some k) (hfl : HasFl s k) :
    ∃ t, exec (.fleetCmd h tgt inner) s = .next t ∧ Accepts s t h 0x70 0 [nextOpid s, tgt] [] ∧ t.fleet.opid = nextOpid s ∧
      t.host.events = s.host.events ∧ t.ctl = s.ctl ∧ (∀ q, q ≠ k → t.fl q = s.fl q) ∧ Gave t k Eli.CMD 3 tgt (cmdPay s h.tr inner) := by
  obtain ⟨spi, i2c, can, fs, e, hp, -⟩ := hostCmd_relinked (k := cmdFleetCmd tgt inner) r (cmdFleetCmd_fits h6 hmax)
  have hz := OnlyReplies.relinked s spi i2c can fs
  set z := s.relinked spi i2c can fs with hzdef
  obtain ⟨ha, hev, g, eg⟩ := cmdStarted_facts r.2.1 hz tgt
  have hbody := doFleetCmd_unit (s := z) (c := ctxOf h 0x70) (inner := inner) h1 hown hcut hroom (by rw [eg]; rfl) (k := k) (by rw [eg]; exact hk)
  rw [cmdPay_relinked (tr := (ctxOf h 0x70).tr) hz hp] at hbody
  generalize cmdStarted (ctxOf h 0x70) tgt z = a at ha hev eg hbody
  have hfl' : HasFl a k := by rw [eg]; exact hfl
  have hopen : openPort a k = true := by rw [eg]; exact routePort_open hk
  refine ⟨_, e.trans (congrArg _ hbody), ha.kept ?_ rfl rfl rfl, ?_, hev, ?_, fun q hq => (State.fl_modFl_ne hq _).trans ?_, gave_give hfl' hopen _ _⟩
  · cases h.tr <;> rfl
  · rw [eg]; rfl
  · rw [eg]; rfl
  · rw [eg]; rfl

/-- FLEET_CMD of a member to all units (R393). -/
theorem fleetCmd_all {s : State} {h : Hdr} {k : Nat} {inner : List Byte} (r : HostReady s h 0x70 3 2) (hst : s.fleet.st = .member)
    (hcut : s.fleet.cut = false) (hroom : s.resultsHeld < 8) (h6 : 6 ≤ inner.length) (hmax : inner.length ≤ 1018) (hr : isReset inner = false)
    (hpar : s.fleet.parent = some k) (hfl : HasFl s k) (hop : openPort s k = true) :
    ∃ t, exec (.fleetCmd h 0xFFFF inner) s = .next t ∧ Accepts s t h 0x70 0 [nextOpid s, 0xFFFF] [] ∧ t.ctl = s.ctl ∧
      Gave t k Eli.CMD 1 0xFFFF (cmdPay s h.tr inner) := by
  obtain ⟨spi, i2c, can, fs, e, hp, -⟩ := hostCmd_relinked (k := cmdFleetCmd 0xFFFF inner) r (cmdFleetCmd_fits h6 hmax)
  have hz := OnlyReplies.relinked s spi i2c can fs
  set z := s.relinked spi i2c can fs with hzdef
  obtain ⟨ha, hev, g, eg⟩ := cmdStarted_facts r.2.1 hz 0xFFFF
  have hbody := doFleetCmd_all (s := z) (c := ctxOf h 0x70) (inner := inner) (cutOff_joined hcut (.inl hst)) hroom hr
  rw [cmdPay_relinked (tr := (ctxOf h 0x70).tr) hz hp] at hbody
  generalize cmdStarted (ctxOf h 0x70) 0xFFFF z = a at ha hev eg hbody
  have hfl' : HasFl a k := by rw [eg]; exact hfl
  have hopen : openPort a k = true := by rw [eg]; exact hop
  have hroot : ¬ a.fleet.st = .root := by
    rw [eg]
    change ¬ s.fleet.st = .root
    simp [hst]
  have hparent : a.fleet.parent = some k := by rw [eg]; exact hpar
  rw [originate, if_neg hroot, sendUp, hparent] at hbody
  dsimp only at hbody
  rw [if_pos hopen] at hbody
  refine ⟨_, e.trans (congrArg _ hbody), ha.kept ?_ rfl rfl rfl, ?_, ?_⟩
  · cases h.tr <;> rfl
  · rw [eg]; rfl
  · exact gave_give hfl' hopen (upPrio Eli.CMD) (mkFrame a k Eli.CMD 1 0xFFFF _)

/-- What a broadcast of the root leaves: its number, the lines, and the frame at every child (R371). -/
theorem broadcast_gave (typ src : Nat) (pay : List Byte) {s : State} (h3 : s.jobs.fleet.ports.length = 3) :
    (∃ x n, broadcast typ src pay s = { s with jobs := { s.jobs with fleet := x }, freeCtr := n }) ∧
      (broadcast typ src pay s).fleet.bseq = (s.fleet.bseq + 1) % 65536 ∧
      ∀ k ∈ childPorts s, Gave (broadcast typ src pay s) k typ 2 ((s.fleet.bseq + 1) % 65536) pay := by
  refine ⟨?_, (broadcast_fields typ src pay s).2.2, ?_⟩
  · unfold broadcast
    dsimp only
    generalize hu : State.drawn _ 1 = u
    obtain ⟨ps, e⟩ := fwdDown_ports { mkFrame s 0 typ 2 ((s.fleet.bseq + 1) % 65536) pay with src := src } u
    rw [e, ← hu]
    exact ⟨_, _, rfl⟩
  · have h3' (x : List FFrame) (b : Nat) :
        ((s.modFleet fun t => { t with bseq := b, bseen := true, kept := x }).drawn 1).jobs.fleet.ports.length = 3 := h3
    exact fun k hk => fwdDown_gave (h3' _ _) { mkFrame s 0 typ 2 ((s.fleet.bseq + 1) % 65536) pay with src := src } k hk

/-- FLEET_CMD with the reset packet at the root (R394). -/
theorem fleetCmdReset_taken {s : State} {h : Hdr} {inner : List Byte} (r : HostReady s h 0x70 3 2) (hst : s.fleet.st = .root)
    (hcut : s.fleet.cut = false) (hroom : s.resultsHeld < 8) (hr : isReset inner = true) (h3 : s.jobs.fleet.ports.length = 3) :
    ∃ t, exec (.fleetCmdReset h inner) s = .next t ∧ Accepts s t h 0x70 0 [nextOpid s, 0xFFFF] [] ∧
      t.ctl = { s.ctl with resetReq := some 4 } ∧ t.fleet.bseq = (s.fleet.bseq + 1) % 65536 ∧ t.outs = s.outs ∧
      ∀ k ∈ childPorts s, Gave t k Eli.RESET 2 ((s.fleet.bseq + 1) % 65536) [] := by
  have hlen : inner.length = 8 := by
    simp only [isReset, Bool.and_eq_true, decide_eq_true_eq] at hr
    exact hr.1.1.1.1
  obtain ⟨spi, i2c, can, fs, e, hp, -⟩ := hostCmd_relinked (k := cmdFleetCmd 0xFFFF inner) r (cmdFleetCmd_fits (by omega) (by omega))
  obtain ⟨ha, hev, g, eg⟩ := cmdStarted_facts r.2.1 (OnlyReplies.relinked s spi i2c can fs) 0xFFFF
  have hbody := doFleetCmd_reset (s := s.relinked spi i2c can fs) (c := ctxOf h 0x70) (inner := inner) (cutOff_joined hcut (.inr hst)) hroom hr
  generalize cmdStarted (ctxOf h 0x70) 0xFFFF (s.relinked spi i2c can fs) = a at ha hev eg hbody
  have hroot : a.fleet.st = .root := by rw [eg]; exact hst
  have hbs : a.fleet.bseq = s.fleet.bseq := by rw [eg]; rfl
  have hch : childPorts a = childPorts s := by rw [eg]; rfl
  rw [originate, if_pos hroot] at hbody
  obtain ⟨⟨x, n, eb⟩, h1, h2⟩ := broadcast_gave Eli.RESET a.fleet.addr [] (s := a) (by rw [eg]; exact h3)
  rw [hbs] at h1 h2
  rw [hch] at h2
  have hctl : (broadcast Eli.RESET a.fleet.addr [] a).ctl = s.ctl ∧ (broadcast Eli.RESET a.fleet.addr [] a).outs = s.outs := by
    rw [eb, eg]; exact ⟨rfl, rfl⟩
  have hhost : (broadcast Eli.RESET a.fleet.addr [] a).host = a.host := by rw [eb]
  generalize broadcast Eli.RESET a.fleet.addr [] a = b at hbody h1 h2 hctl hhost
  have hlink : (b.modCtl fun k => { k with resetReq := some 4 }).link h.tr = a.link h.tr := by
    unfold State.link State.modCtl
    rw [hhost]
  refine ⟨_, e.trans (congrArg _ hbody), ha.kept hlink ?_ ?_ ?_, ?_, h1, hctl.2, h2⟩
  · exact congrArg HostState.canOut hhost
  · exact congrArg HostState.opNum hhost
  · exact congrArg HostState.ops hhost
  · exact congrArg (fun c : Control => { c with resetReq := some 4 }) hctl.1

/-! Snapshots and barriers. -/

/-- The state in which the gathering of a first snapshot begins (R396). -/
theorem gather_first {s : State} {num fr : Nat} (hs : s.fleet.snap = none) (hr : assocGet s.fleet.snaps fr = none) :
    gather num fr s = s.modFleet fun f => { f with snapHeld := f.snapHeld, snap := some ⟨num, fr, [], [], 0⟩ } := by
  have hs' : s.jobs.fleet.snap = none := hs
  have hr' : assocGet s.jobs.fleet.snaps fr = none := hr
  unfold gather ownSnap
  simp [State.modFleet, State.modJobs, State.fleet, hs', hr']

theorem doFleetSnapshot_first {s : State} (c : Ctx) (hheld : s.opHeld 0x71 0 = false) (hroom : s.resultsHeld < 8) (hs : s.fleet.snap = none)
    (hr : assocGet s.fleet.snaps (s.frame + 2) = none) (ht : s.host.tide.length < 16) :
    doFleetSnapshot c 0 0 s = (addLocal 1 0 0 (s.frame + 2) (gather (nextOp s.host.opNum) (s.frame + 2) (s.startOp c 0 [0] []))).2 := by
  simp [doFleetSnapshot, snapFrame, hheld, Nat.not_le.mpr hroom, hs, hr, Nat.not_le.mpr ht]

theorem doFleetSnapshot_late {s : State} {fr : Nat} (c : Ctx) (h1 : 1 ≤ fr) (h2 : fr < s.frame + 2) (h3 : fr ≤ lastFrame)
    (hheld : s.opHeld 0x71 0 = false) (hroom : s.resultsHeld < 8) (hs : s.fleet.snap = none) (hr : assocGet s.fleet.snaps fr = none) :
    doFleetSnapshot c fr 0 s = s.refuse c St.LAUNCH_TOO_LATE 2 := by
  simp [doFleetSnapshot, snapFrame, Nat.ne_of_gt h1, Nat.not_lt.mpr h3, hheld, Nat.not_le.mpr hroom, hs, hr, h2]

theorem fleetSnapshot_taken {s : State} {h : Hdr} (r : HostReady s h 0x71 3 1) (hheld : s.opHeld 0x71 0 = false) (hroom : s.resultsHeld < 8)
    (hr : assocGet s.fleet.snaps (s.frame + 2) = none) (hs : s.fleet.snap = none) (ht : s.host.tide.length < 16) :
    ∃ t, exec (.fleetSnapshot h 0 0) s = .next t ∧ Accepts s t h 0x71 0 [0] [] ∧
      t.fleet.snap = some ⟨nextOp s.host.opNum, s.frame + 2, [], [], 0⟩ ∧
      t.host.tide = s.host.tide ++ [⟨freeLid 17 s.host.tide s.host.nextLid, 1, 0, 0, 0, s.frame + 2, false⟩] ∧
      t.host.sets = s.host.sets ∧ t.params = s.params := by
  obtain ⟨spi, i2c, can, fs, e, -, -⟩ := hostCmd_relinked (k := cmdFleetSnapshot 0 0) r rfl
  have hz := OnlyReplies.relinked s spi i2c can fs
  have hbody := doFleetSnapshot_first (s := s.relinked spi i2c can fs) (ctxOf h 0x71) hheld hroom hs hr ht
  obtain ⟨ha, ho⟩ := startOp_accepts r.2.1 hz 0x71 0 [0] []
  obtain ⟨g, eg⟩ := startOp_hostOnly hz (ctxOf h 0x71) 0 [0] []
  generalize (s.relinked spi i2c can fs).startOp (ctxOf h 0x71) 0 [0] [] = a at hbody ha ho eg
  have hs' : a.fleet.snap = none := by rw [eg]; exact hs
  have hr' : assocGet a.fleet.snaps (s.frame + 2) = none := by rw [eg]; exact hr
  have hf : (s.relinked spi i2c can fs).frame = s.frame := rfl
  rw [hf, gather_first hs' hr'] at hbody
  have htide : a.host.tide = s.host.tide := by rw [ho]; rfl
  have hlid : a.host.nextLid = s.host.nextLid := by rw [ho]; rfl
  have hsets : a.host.sets = s.host.sets := by rw [ho]; rfl
  refine ⟨_, e.trans (congrArg _ hbody), ha.kept ?_ rfl rfl rfl, rfl, ?_, ?_, ?_⟩
  · cases h.tr <;> rfl
  · rw [← htide, ← hlid]; rfl
  · exact hsets
  · rw [eg]; rfl

/-- A member that arrives at a barrier tells its parent, and keeps the barriers (R395). -/
theorem barrierStep_member {s : State} (hst : s.fleet.st = .member) :
    (barrierStep s).host = s.host ∧ (barrierStep s).fleet.bars = s.fleet.bars ∧ (barrierStep s).fleet.members = s.fleet.members ∧
      (barrierStep s).params = s.params := by
  unfold barrierStep
  split
  · exact ⟨rfl, rfl, rfl, rfl⟩
  · unfold barrierTell
    rw [hst]
    dsimp only
    unfold sendUp
    split
    · split
      · exact ⟨rfl, rfl, rfl, rfl⟩
      · exact ⟨rfl, rfl, rfl, rfl⟩
    · exact ⟨rfl, rfl, rfl, rfl⟩

theorem fleetBarrier_taken {s : State} {h : Hdr} {b tmo : Nat} (r : HostReady s h 0x72 3 1) (htmo : tmo ≠ 0) (hcut : cutOff s = false)
    (hheld : s.opHeld 0x72 0 = false) (hst : s.fleet.st = .member) :
    ∃ t, exec (.fleetBarrier h b tmo) s = .next t ∧ Accepts s t h 0x72 0 [b] [] ∧
      t.fleet.bars = s.fleet.bars.filter (fun x => x.1 ≠ b) ++ [(b, nextOp s.host.opNum, 0, tmo)] ∧ t.host.events = s.host.events ∧
      t.fleet.members = s.fleet.members ∧ t.params = s.params := by
  obtain ⟨spi, i2c, can, fs, e, -, -⟩ := hostCmd_relinked (k := cmdFleetBarrier b tmo) r rfl
  have hz := OnlyReplies.relinked s spi i2c can fs
  have hbody : doFleetBarrier (ctxOf h 0x72) b tmo (s.relinked spi i2c can fs) = barrierStep
      (((s.relinked spi i2c can fs).startOp (ctxOf h 0x72) 0 [b] []).modFleet fun f => { f with
        bars := f.bars.filter (fun x => x.1 ≠ b) ++ [(b, nextOp s.host.opNum, 0, tmo)] }) := by
    have hcut' : cutOff (s.relinked spi i2c can fs) = false := hcut
    have hheld' : (s.relinked spi i2c can fs).opHeld 0x72 0 = false := hheld
    rw [doFleetBarrier, if_neg htmo, hcut', if_neg (by decide), hheld', if_neg (by decide)]
    rfl
  obtain ⟨ha, ho⟩ := startOp_accepts r.2.1 hz 0x72 0 [b] []
  obtain ⟨g, eg⟩ := startOp_hostOnly hz (ctxOf h 0x72) 0 [b] []
  generalize (s.relinked spi i2c can fs).startOp (ctxOf h 0x72) 0 [b] [] = a at hbody ha ho eg
  obtain ⟨h1, h2, h3, h4⟩ := barrierStep_member (s := a.modFleet fun f => { f with
    bars := f.bars.filter (fun x => x.1 ≠ b) ++ [(b, nextOp s.host.opNum, 0, tmo)] }) (by rw [eg]; exact hst)
  generalize barrierStep (a.modFleet fun f => { f with
    bars := f.bars.filter (fun x => x.1 ≠ b) ++ [(b, nextOp s.host.opNum, 0, tmo)] }) = u at hbody h1 h2 h3 h4
  have hlink : u.link h.tr = a.link h.tr := by
    unfold State.link
    rw [h1]
    rfl
  refine ⟨u, e.trans (congrArg _ hbody), ha.kept hlink ?_ ?_ ?_, ?_, ?_, ?_, ?_⟩
  · rw [h1]; rfl
  · rw [h1]; rfl
  · rw [h1]; rfl
  · rw [h2, eg]; rfl
  · rw [h1]; exact ho.host.2.2.2.2.1
  · rw [h3, eg]; rfl
  · rw [h4, eg]; rfl

end Sys2Proof.Machine

open Sys2Proof Sys2Proof.Machine

/-- Settles O57: each command by what its operation sends, or by the check that refuses it. -/
theorem fleetHostRows : Obligations.FleetHostRows := by
  intro s h
  refine ⟨?unit, ?all, ?target, ?cut, ?reset, ?snapshot, ?late, ?barrier, ?timeout⟩
  case unit => exact fun tgt inner k r h1 hown hcut hroom h6 hmax hk hfl => fleetCmd_unit r h1 hown hcut hroom h6 hmax hk hfl
  case all => exact fun inner k r hst hcut hroom h6 hmax hr hpar hfl hop => fleetCmd_all r hst hcut hroom h6 hmax hr hpar hfl hop
  case target =>
    intro tgt inner r h1 hne h6 hmax
    refine answers_of_body (k := cmdFleetCmd tgt inner) r rfl (cmdFleetCmd_fits h6 hmax) fun spi i2c can fs _ => ⟨_, .refl _, ?_⟩
    exact if_pos (by simp [h1, hne])
  case cut =>
    intro inner r hcut h6 hmax
    refine answers_of_body (k := cmdFleetCmd 0xFFFF inner) r rfl (cmdFleetCmd_fits h6 hmax) fun spi i2c can fs _ => ⟨_, .refl _, ?_⟩
    have hcut' : cutOff (s.relinked spi i2c can fs) = true := hcut
    change doFleetCmd _ 0xFFFF inner _ = _
    rw [doFleetCmd, if_neg (by decide), if_pos hcut']
    rfl
  case reset => exact fun inner r hst hcut hroom hr h3 => fleetCmdReset_taken r hst hcut hroom hr h3
  case snapshot =>
    rintro _ r rfl hheld hroom hr hs ht
    obtain ⟨t, e, ha, h1, h2, h3, h4⟩ := fleetSnapshot_taken r hheld hroom hr hs ht
    exact ⟨t, _, e, ha, rfl, h1, h2, h3, h4⟩
  case late =>
    intro fr r h1 h2 h3 hheld hroom hr hs
    exact answers_of_body (k := cmdFleetSnapshot fr 0) r rfl rfl fun spi i2c can fs _ =>
      ⟨_, .refl _, doFleetSnapshot_late (s := s.relinked spi i2c can fs) _ h1 h2 h3 hheld hroom hs hr⟩
  case barrier => exact fun b tmo r htmo hcut hheld hst => fleetBarrier_taken r htmo hcut hheld hst
  case timeout => exact fun b r => answers_of_body (k := cmdFleetBarrier b 0) r rfl rfl fun _ _ _ _ _ => ⟨_, .refl _, rfl⟩

end

section
/-! PORT_CMD (R85, R324, R346, R353 to R360): what the operations of a partner port move. -/

namespace Sys2Proof.Machine

/-- From s to t partner port p may have moved and events been raised; nothing else has changed. -/
structure PortMoves (p : Nat) (s t : State) : Prop where
  eq : t = { s with
    host := { s.host with events := t.host.events, evSeq := t.host.evSeq, lost := t.host.lost }
    jobs := { s.jobs with ports := t.jobs.ports, fleet := t.jobs.fleet }, trace := t.trace, freeCtr := t.freeCtr }
  events : KeepsEvents s t
  len : t.jobs.ports.length = s.jobs.ports.length
  others : ∀ q, q ≠ p → t.port q = s.port q

theorem PortMoves.refl (p : Nat) (s : State) : PortMoves p s s := ⟨rfl, .refl s, rfl, fun _ _ => rfl⟩

theorem PortMoves.trans {p : Nat} {s t u : State} (h : PortMoves p s t) (g : PortMoves p t u) : PortMoves p s u :=
  ⟨by rw [g.eq, h.eq], h.events.trans g.events, g.len.trans h.len, fun q hq => (g.others q hq).trans (h.others q hq)⟩

theorem PortMoves.raise (p : Nat) (s : State) (c a : Nat) : PortMoves p s (s.raise c a) :=
  ⟨(OnlyEvents.raise s c a).trans rfl, .raise s c a, rfl, fun _ _ => rfl⟩

theorem PortMoves.modPort (p : Nat) (s : State) (f : PtPort → PtPort) : PortMoves p s (s.modPort p f) :=
  ⟨rfl, .of_host rfl, modAt_length _ _ _, fun _ hq => State.port_modPort_ne hq f⟩

theorem PortMoves.ite {p : Nat} {s t u : State} (c : Prop) [Decidable c] (h : PortMoves p s t) (g : PortMoves p s u) :
    PortMoves p s (if c then t else u) := by
  split
  · exact h
  · exact g

theorem PortMoves.portEnter (p : Nat) (st : PtSt) (c : Nat) (s : State) : PortMoves p s (portEnter p st c s) :=
  .ite _ (.modPort p s _) ((PortMoves.modPort p s _).trans (.raise p _ _ _))

theorem PortMoves.portOpEnd (p : Nat) (acts : List Nat) (st : Nat) (s : State) : PortMoves p s (portOpEnd p acts st s) :=
  .ite _ (.modPort p s _) (.refl p s)

theorem PortMoves.portStart (p typ : Nat) (pay : List Byte) (s : State) : PortMoves p s (portStart p typ pay s) :=
  (PortMoves.modPort p s _).trans (.modPort p _ _)

theorem PortMoves.portSend (p typ : Nat) (pay : List Byte) (s : State) : PortMoves p s (portSend p typ pay s) :=
  .ite _ (.portStart p typ pay s) (.modPort p s _)

theorem PortMoves.sendHello (p : Nat) (s : State) : PortMoves p s (sendHello p s) := (PortMoves.modPort p s _).trans (.portSend p _ _ _)

theorem PortMoves.sendCaps (p : Nat) (s : State) : PortMoves p s (sendCaps p s) := (PortMoves.modPort p s _).trans (.portSend p _ _ _)

theorem PortMoves.helloStart (p cause : Nat) (s : State) : PortMoves p s (helloStart p cause s) :=
  ((PortMoves.portEnter p .attached cause s).trans (.modPort p _ _)).trans (.ite _ (.sendHello p _) (.refl p _))

theorem PortMoves.negStart (p cause : Nat) (s : State) : PortMoves p s (negStart p cause s) :=
  ((PortMoves.portEnter p .negotiating cause s).trans (.modPort p _ _)).trans (.ite _ (.sendCaps p _) (.refl p _))

theorem PortMoves.softBegin (p cause : Nat) (s : State) : PortMoves p s (softBegin p cause s) :=
  (((PortMoves.modPort p s _).trans (.raise p _ _ _)).trans (.portEnter p _ _ _)).trans (.portOpEnd p _ _ _)

/-- NEGOTIATING before CAPS (R338). -/
def negEntered (p cause : Nat) (s : State) : State :=
  (portEnter p .negotiating cause s).modPort p fun t => { t with reqOk := false, readyOk := false, next := .none }

theorem negStart_eq (p cause : Nat) (s : State) :
    negStart p cause s = if ((negEntered p cause s).port p).prov then sendCaps p (negEntered p cause s) else negEntered p cause s := rfl

theorem PortMoves.negEntered (p cause : Nat) (s : State) : PortMoves p s (negEntered p cause s) :=
  (PortMoves.portEnter p .negotiating cause s).trans (.modPort p _ _)

/-! The port after each of them. -/

section
variable {p : Nat} {s : State} (hp : p < s.jobs.ports.length)
include hp

theorem portEnter_port (st : PtSt) (c : Nat) : (portEnter p st c s).port p = { s.port p with st := st, inState := 0 } := by
  unfold portEnter
  dsimp only
  split
  · exact State.port_modPort_self hp _
  · exact State.port_modPort_self hp _

theorem portOpEnd_port (acts : List Nat) (st : Nat) :
    (portOpEnd p acts st s).port p = if portOpIs (s.port p) acts then { s.port p with opDone := some st } else s.port p := by
  unfold portOpEnd
  split
  · exact State.port_modPort_self hp _
  · rfl

theorem portStart_port (typ : Nat) (pay : List Byte) : (portStart p typ pay s).port p = { s.port p with
    unacked := some (⟨typ, (s.port p).nextId, pay⟩, 1, 0), nextId := ((s.port p).nextId + 1) % 256
    out := (s.port p).out ++ [⟨typ, (s.port p).nextId, pay⟩], quiet := 0 } := by
  unfold portStart portPut
  dsimp only
  rw [State.port_modPort_self (by rw [(PortMoves.modPort p s _).len]; exact hp), State.port_modPort_self hp]

/-- A message sent on a free wire (R331). -/
theorem portSend_port (hw : WireFree s p) (typ : Nat) (pay : List Byte) : (portSend p typ pay s).port p = { s.port p with
    unacked := some (⟨typ, (s.port p).nextId, pay⟩, 1, 0), nextId := ((s.port p).nextId + 1) % 256
    out := (s.port p).out ++ [⟨typ, (s.port p).nextId, pay⟩], quiet := 0 } := by
  unfold portSend
  rw [if_pos (by simp [hw.1, hw.2])]
  exact portStart_port hp typ pay

theorem portSend_sent (hw : WireFree s p) (typ : Nat) (pay : List Byte) : Sent (portSend p typ pay s) p (s.port p).nextId typ pay := by
  unfold Sent
  rw [portSend_port hp hw]
  exact ⟨rfl, List.mem_append_right _ (List.mem_singleton_self _)⟩

/-- A message, sent or queued, leaves what the port is (R331). -/
theorem portSend_keeps (typ : Nat) (pay : List Byte) : (portSend p typ pay s).port p = { s.port p with
    unacked := ((portSend p typ pay s).port p).unacked, nextId := ((portSend p typ pay s).port p).nextId
    out := ((portSend p typ pay s).port p).out, quiet := ((portSend p typ pay s).port p).quiet
    queue := ((portSend p typ pay s).port p).queue } := by
  unfold portSend
  split
  · rw [portStart_port hp]
  · rw [State.port_modPort_self hp]

theorem sendHello_port : ((sendHello p s).port p).st = (s.port p).st ∧ ((sendHello p s).port p).ver = (s.port p).ver ∧
    ((sendHello p s).port p).helloRx = (s.port p).helloRx ∧ ((sendHello p s).port p).op = (s.port p).op ∧
    ((sendHello p s).port p).opDone = (s.port p).opDone := by
  unfold sendHello
  dsimp only
  rw [portSend_keeps (by rw [(PortMoves.modPort p s _).len]; exact hp), State.port_modPort_self hp]
  exact ⟨rfl, rfl, rfl, rfl, rfl⟩

/-- In ATTACHED the HELLO exchange begins again without a version (R337). -/
theorem helloStart_port (cause : Nat) : ((helloStart p cause s).port p).st = .attached ∧ ((helloStart p cause s).port p).ver = 0 ∧
    ((helloStart p cause s).port p).helloRx = false := by
  unfold helloStart
  dsimp only
  have hlen : p < (portEnter p .attached cause s).jobs.ports.length := by rw [(PortMoves.portEnter p _ _ s).len]; exact hp
  have hport := portEnter_port hp .attached cause
  generalize portEnter p .attached cause s = e at hlen hport
  set z := e.modPort p fun t => { t with helloTx := false, helloRx := false, helloOut := false, verDone := false, ver := 0 } with hz
  have hz' : z.port p = { e.port p with helloTx := false, helloRx := false, helloOut := false, verDone := false, ver := 0 } :=
    State.port_modPort_self hlen _
  rw [hport] at hz'
  split
  · obtain ⟨h1, h2, h3, -, -⟩ := sendHello_port (s := z) (p := p) (by rw [(PortMoves.modPort p e _).len]; exact hlen)
    exact ⟨h1.trans (by rw [hz']), h2.trans (by rw [hz']), h3.trans (by rw [hz'])⟩
  · exact ⟨by rw [hz'], by rw [hz'], by rw [hz']⟩

theorem negEntered_port (cause : Nat) : (negEntered p cause s).port p =
    { s.port p with st := .negotiating, inState := 0, reqOk := false, readyOk := false, next := .none } := by
  rw [negEntered]
  rw [State.port_modPort_self (by rw [(PortMoves.portEnter p _ _ s).len]; exact hp), portEnter_port hp]

end

/-- What is advertised depends on the cable codes of the port, and on nothing else that a port's operations move (R324, R339). -/
theorem advertised_moved {p : Nat} {s t : State} (h : ∃ g ps x tr n, t = { s with
    host := g, jobs := { s.jobs with ports := ps, fleet := x }, trace := tr, freeCtr := n }) (hc : (t.port p).code = (s.port p).code)
    (hc2 : (t.port p).code2 = (s.port p).code2) : advertised t p = advertised s p := by
  obtain ⟨g, ps, x, tr, n, e⟩ := h
  have hk : knownCodes (t.port p) = knownCodes (s.port p) := by rw [knownCodes, knownCodes, hc, hc2]
  have hrun : inRun t = inRun s := by rw [e]; rfl
  have hpar (g i k : Nat) : par t g i k = par s g i k := by rw [e]; rfl
  have hlink : t.jobs.link = s.jobs.link := by rw [e]
  have hcv (c : Nat) : cableV t p c = cableV s p c := by rw [e]; rfl
  have hci (c : Nat) (b : Bool) : cableI t p b c = cableI s p b c := by rw [e]; rfl
  have hv : ratingV t p = ratingV s p := by simp only [ratingV, hk, hcv]
  have hi : ratingI t p true = ratingI s p true := by simp only [ratingI, hk, hci]
  simp only [advertised, hrun, hpar, hlink, hv, hi]

end Sys2Proof.Machine
end

section
/-! The six actions of PORT_CMD. -/

namespace Sys2Proof.Machine

/-- An acceptance stands while events are raised. -/
theorem Accepts.of_events {s t u : State} {h : Hdr} {opc res : Nat} {args : List Nat} {data : List Byte} (a : Accepts s t h opc res args data)
    (e : u.host = { t.host with events := u.host.events, evSeq := u.host.evSeq, lost := u.host.lost }) : Accepts s u h opc res args data := by
  refine a.kept ?_ ?_ ?_ ?_
  · unfold State.link
    rw [e]
  · rw [e]
  · rw [e]
  · rw [e]

theorem PortMoves.host {p : Nat} {s t : State} (h : PortMoves p s t) :
    t.host = { s.host with events := t.host.events, evSeq := t.host.evSeq, lost := t.host.lost } := congrArg State.host h.eq

/-- A port whose PORT_CMD has just begun (R360). -/
def PtPort.opBegun (n act : Nat) (t : PtPort) : PtPort :=
  { t with op := some (n, act), opDone := none, swapped := false, swapTries := 0, swapRetry := none }

/-- The state z in which an action on port p has its operation, and nothing else has moved. -/
structure Begun (s z : State) (h : Hdr) (p act : Nat) : Prop where
  accepts : Accepts s z h 0x60 p [act] []
  events : z.host.events = s.host.events
  lost : z.host.lost = s.host.lost
  eq : ∃ g ps, z = { s with host := g, jobs := { s.jobs with ports := ps } }
  len : z.jobs.ports.length = s.jobs.ports.length
  port : z.port p = (s.port p).opBegun (nextOp s.host.opNum) act
  others : ∀ q, q ≠ p → z.port q = s.port q

theorem portCmd_fits (p act : Nat) : ((cmdPortCmd p act 0).fits false && decide ((cmdPortCmd p act 0).len ≤ 1024)) = true := rfl

/-- An action that the port's state accepts starts its operation, then begins on the port (R85, R360). -/
theorem portCmd_begun {s : State} {h : Hdr} {p act : Nat} {c : Instr} (r : HostReady s h 0x60 2 1) (hp : HasPort s p)
    (hc : exec c s = hostCmd h (cmdPortCmd p act 0) s) (hact : act ≤ 5) (hheld : s.opHeld 0x60 p = false) (hok : portCmdOk s p act = true) :
    ∃ a, exec c s = .next (portCmdStart p act (nextOp s.host.opNum) a) ∧
      Begun s (a.modPort p (PtPort.opBegun (nextOp s.host.opNum) act)) h p act := by
  obtain ⟨spi, i2c, can, fs, e, -, -⟩ := hostCmd_relinked (k := cmdPortCmd p act 0) r (portCmd_fits p act)
  have hz := OnlyReplies.relinked s spi i2c can fs
  have hnp : ¬ nPp (s.relinked spi i2c can fs) ≤ p := Nat.not_le.mpr hp.1
  have hheld' : (s.relinked spi i2c can fs).opHeld 0x60 p = false := hheld
  have hok' : portCmdOk (s.relinked spi i2c can fs) p act = true := hok
  have hbody : doPortCmd (ctxOf h 0x60) p act 0 (s.relinked spi i2c can fs) = portCmdStart p act (nextOp s.host.opNum)
      ((s.relinked spi i2c can fs).startOp (ctxOf h 0x60) p [act] []) := by
    rw [doPortCmd, if_neg hnp, if_neg (Nat.not_lt.mpr hact), if_neg (by simp), hheld', hok', if_neg (by decide), if_neg (by decide)]
    rfl
  obtain ⟨ha, ho⟩ := startOp_accepts r.2.1 hz 0x60 p [act] []
  obtain ⟨g, eg⟩ := startOp_hostOnly hz (ctxOf h 0x60) p [act] []
  generalize (s.relinked spi i2c can fs).startOp (ctxOf h 0x60) p [act] [] = a at hbody ha ho eg
  subst eg
  have hz : PortMoves p ({ s with host := g } : State) (({ s with host := g } : State).modPort p (PtPort.opBegun (nextOp s.host.opNum) act)) :=
    .modPort p _ _
  exact ⟨_, hc.trans (e.trans (congrArg _ hbody)), ha.of_events hz.host, ho.host.2.2.2.2.1, ho.host.2.2.2.2.2.1, ⟨g, _, rfl⟩, hz.len,
    State.port_modPort_self (s := { s with host := g }) hp.2 _, fun q hq => State.port_modPort_ne hq _⟩

theorem Begun.keeps {s z : State} {h : Hdr} {p act : Nat} (b : Begun s z h p act) : KeepsEvents s z := .of_host_events b.events b.lost

theorem Begun.wireFree {s z : State} {h : Hdr} {p act : Nat} (b : Begun s z h p act) (hw : WireFree s p) : WireFree z p := by
  unfold WireFree
  rw [b.port]
  exact hw

theorem Begun.nextId {s z : State} {h : Hdr} {p act : Nat} (b : Begun s z h p act) : (z.port p).nextId = (s.port p).nextId := by
  rw [b.port]
  rfl

theorem portCmdOk_attached {s : State} {p act : Nat} (hm : par s gPRT p PRT.MODE ≠ 0) (hst : (s.port p).st.isAttached = true)
    (ha : act = 4 ∨ act = 5) : portCmdOk s p act = true := by
  rcases ha with rfl | rfl <;> simp [portCmdOk, hm, hst]

/-- What the operations of the port do from z on is what the command does from s on. -/
theorem Begun.moved {s z t : State} {h : Hdr} {p act : Nat} (b : Begun s z h p act) (m : PortMoves p z t) :
    Accepts s t h 0x60 p [act] [] ∧ KeepsEvents s t ∧ ∀ q, q ≠ p → t.port q = s.port q :=
  ⟨b.accepts.of_events m.host, b.keeps.trans m.events, fun q hq => (m.others q hq).trans (b.others q hq)⟩

/-! Soft reset (R353). -/

theorem softBegin_port {p c : Nat} {s : State} (hp : p < s.jobs.ports.length) (hop : portOpIs (s.port p) [2] = false) :
    (softBegin p c s).port p = { (s.port p).voided.dropOwn with
      softN := incSat 32 (s.port p).softN, cause := c, queue := [], swapRetry := none, st := .softReset, inState := 0 } := by
  unfold softBegin
  dsimp only
  set x := (s.modPort p fun t => { t.voided.dropOwn with softN := incSat 32 t.softN, cause := c, queue := [], swapRetry := none }).raise
    Ev.PORT_SOFT_RESET (p * 2 ^ 8 + c) with hx
  have hxl : p < x.jobs.ports.length := by
    rw [hx, (PortMoves.raise p _ _ _).len, (PortMoves.modPort p s _).len]
    exact hp
  have hxp : x.port p = { (s.port p).voided.dropOwn with softN := incSat 32 (s.port p).softN, cause := c, queue := [], swapRetry := none } :=
    State.port_modPort_self hp _
  have hel : p < (portEnter p .softReset (softCause c) x).jobs.ports.length := by rw [(PortMoves.portEnter p _ _ x).len]; exact hxl
  have hop' : ¬ portOpIs ((portEnter p .softReset (softCause c) x).port p) [2] = true := by
    rw [portEnter_port hxl, hxp]
    exact fun h => Bool.false_ne_true (hop.symm.trans h)
  rw [portOpEnd_port hel, if_neg hop', portEnter_port hxl, hxp]

/-- From the states that take one a soft reset sends its SOFT_RESET (R346, R353). -/
theorem softReset_eq {s : State} {p : Nat} (h : (s.port p).st = .attached ∨ (s.port p).st = .negotiating ∨ (s.port p).st = .contract) (c : Nat) :
    softReset p c s = portSend p Ple.SOFT_RESET [] (softBegin p c s) := by
  unfold softReset
  rcases h with h | h | h <;> rw [h]

theorem softBegin_tells (p c : Nat) (s : State) : Tells s (softBegin p c s) Ev.PORT_SOFT_RESET (p * 2 ^ 8 + c) := by
  unfold softBegin
  refine .mono (.of_keeps ?_ (.raise (s.modPort p _) _ _)) ((PortMoves.portEnter p _ _ _).trans (.portOpEnd p _ _ _)).events
  exact .of_host rfl

theorem portCmdSoftReset_taken {s : State} {h : Hdr} {p : Nat} (r : HostReady s h 0x60 2 1) (hp : HasPort s p) (hheld : s.opHeld 0x60 p = false)
    (hok : portCmdOk s p 0 = true) :
    ∃ t, exec (.portCmdSoftReset h p 0) s = .next t ∧ Accepts s t h 0x60 p [0] [] ∧ (t.port p).st = .softReset ∧
      (t.port p).op = some (nextOp s.host.opNum, 0) ∧ (t.port p).opDone = none ∧ Sent t p (s.port p).nextId Ple.SOFT_RESET [] ∧
      Tells s t Ev.PORT_SOFT_RESET (p * 2 ^ 8 + 3) ∧ t.jobs.lanes = s.jobs.lanes ∧ ∀ q, q ≠ p → t.port q = s.port q := by
  obtain ⟨a, e, b⟩ := portCmd_begun (c := .portCmdSoftReset h p 0) r hp rfl (by decide) hheld hok
  change exec _ s = .next (softReset p 3 (a.modPort p (PtPort.opBegun (nextOp s.host.opNum) 0))) at e
  generalize a.modPort p (PtPort.opBegun (nextOp s.host.opNum) 0) = z at e b
  have hst : (z.port p).st = .attached ∨ (z.port p).st = .negotiating ∨ (z.port p).st = .contract := by
    rw [b.port]
    simp only [portCmdOk, Bool.and_eq_true, Bool.or_eq_true, beq_iff_eq] at hok
    exact or_assoc.mp hok.2
  have hlz : p < z.jobs.ports.length := by rw [b.len]; exact hp.2
  have hx := softBegin_port (c := 3) hlz (by rw [b.port]; rfl)
  have mx := PortMoves.softBegin p 3 z
  have htx := softBegin_tells p 3 z
  rw [softReset_eq hst] at e
  generalize softBegin p 3 z = x at e hx mx htx
  have hlx : p < x.jobs.ports.length := by rw [mx.len]; exact hlz
  have hw : WireFree x p := by unfold WireFree; rw [hx]; exact ⟨rfl, rfl⟩
  have hid : (x.port p).nextId = (s.port p).nextId := by
    rw [hx, ← b.nextId]
    rfl
  have ms := PortMoves.portSend p Ple.SOFT_RESET [] x
  have hs := portSend_port hlx hw Ple.SOFT_RESET []
  have hsent := portSend_sent hlx hw Ple.SOFT_RESET []
  rw [hid] at hsent
  obtain ⟨ha, -, hq⟩ := b.moved (mx.trans ms)
  refine ⟨_, e, ha, ?_, ?_, ?_, hsent, .of_keeps b.keeps (htx.mono ms.events), ?_, hq⟩
  · rw [hs, hx]
  · rw [hs, hx, b.port]; rfl
  · rw [hs, hx, b.port]; rfl
  · rw [(mx.trans ms).eq]
    obtain ⟨g, ps, eg⟩ := b.eq
    rw [eg]

/-! Role swap, renegotiation, cable query and the check of the partner (R324, R337 to R343, R356, R360). -/

theorem portCmdRoleSwap_taken {s : State} {h : Hdr} {p : Nat} (r : HostReady s h 0x60 2 1) (hp : HasPort s p) (hheld : s.opHeld 0x60 p = false)
    (hok : portCmdOk s p 2 = true) (hw : WireFree s p) :
    ∃ t, exec (.portCmdRoleSwap h p 0) s = .next t ∧ Accepts s t h 0x60 p [2] [] ∧ (t.port p).st = .contract ∧
      (t.port p).op = some (nextOp s.host.opNum, 2) ∧ t.host.events = s.host.events ∧ (∀ q, q ≠ p → t.port q = s.port q) ∧
      ((s.port p).ver < 0x20 → (t.port p).opDone = some St.VERSION ∧ (t.port p).out = (s.port p).out) ∧
      (0x20 ≤ (s.port p).ver → (t.port p).opDone = none ∧ Sent t p (s.port p).nextId Ple.ROLE_SWAP []) := by
  obtain ⟨a, e, b⟩ := portCmd_begun (c := .portCmdRoleSwap h p 0) r hp rfl (by decide) hheld hok
  generalize hz : a.modPort p (PtPort.opBegun (nextOp s.host.opNum) 2) = z at b
  have he : portCmdStart p 2 (nextOp s.host.opNum) a = if (z.port p).ver < 0x20 then portOpEnd p [2] St.VERSION z else portSend p Ple.ROLE_SWAP [] z := by
    rw [← hz]; rfl
  have hst : (s.port p).st = .contract := by
    simp only [portCmdOk, Bool.and_eq_true, beq_iff_eq] at hok
    exact hok.2.1
  have hlz : p < z.jobs.ports.length := by rw [b.len]; exact hp.2
  have hver : (z.port p).ver = (s.port p).ver := by rw [b.port]; rfl
  rw [he, hver] at e
  by_cases hv : (s.port p).ver < 0x20
  · rw [if_pos hv] at e
    have hx := portOpEnd_port hlz [2] St.VERSION
    rw [if_pos (by rw [b.port]; rfl), b.port] at hx
    obtain ⟨ha, -, hq⟩ := b.moved (.portOpEnd p [2] St.VERSION z)
    refine ⟨_, e, ha, by rw [hx]; exact hst, by rw [hx]; rfl, ?_, hq, fun _ => ⟨by rw [hx], by rw [hx]; rfl⟩, fun h => absurd hv (Nat.not_lt.mpr h)⟩
    rw [← b.events]
    unfold portOpEnd
    split <;> rfl
  · rw [if_neg hv] at e
    have hx := portSend_port hlz (b.wireFree hw) Ple.ROLE_SWAP []
    have hsent := portSend_sent hlz (b.wireFree hw) Ple.ROLE_SWAP []
    rw [b.nextId] at hsent
    rw [b.port] at hx
    obtain ⟨ha, -, hq⟩ := b.moved (.portSend p Ple.ROLE_SWAP [] z)
    refine ⟨_, e, ha, by rw [hx]; exact hst, by rw [hx]; rfl, ?_, hq, fun h => absurd h hv, fun _ => ⟨by rw [hx]; rfl, hsent⟩⟩
    rw [← b.events]
    unfold portSend
    split <;> rfl

end Sys2Proof.Machine
end

section
/-! Renegotiation, cable query and the check of the partner by a host (R324, R338 to R343, R356, R360). -/

namespace Sys2Proof.Machine

theorem portCmdOk_renegotiate {s : State} {p : Nat} (hm : par s gPRT p PRT.MODE ≠ 0) (hst : (s.port p).st = .attached ∨ (s.port p).st = .contract) :
    portCmdOk s p 3 = true := by
  rcases hst with h | h <;> simp [portCmdOk, hm, h]

/-- A renegotiation begins (R338, R340). -/
theorem portCmdStart_renegotiate (p n : Nat) (a : State) :
    portCmdStart p 3 n a =
      if ((a.modPort p (PtPort.opBegun n 3)).port p).st = .attached then
        (if ((a.modPort p (PtPort.opBegun n 3)).port p).ver = 0 then helloStart p 5 (a.modPort p (PtPort.opBegun n 3))
          else a.modPort p (PtPort.opBegun n 3))
      else if ((a.modPort p (PtPort.opBegun n 3)).port p).prov then negStart p 5 (a.modPort p (PtPort.opBegun n 3))
        else portSend p Ple.GET_CAPS [] (negStart p 5 (a.modPort p (PtPort.opBegun n 3))) := rfl

theorem negEntered_wireFree {s : State} {p : Nat} (hp : p < s.jobs.ports.length) (hw : WireFree s p) (c : Nat) : WireFree (negEntered p c s) p := by
  unfold WireFree
  rw [negEntered_port hp]
  exact hw

theorem portCmdRenegotiate_taker {s : State} {h : Hdr} {p : Nat} (r : HostReady s h 0x60 2 1) (hp : HasPort s p) (hheld : s.opHeld 0x60 p = false)
    (hm : par s gPRT p PRT.MODE ≠ 0) (hst : (s.port p).st = .contract) (hprov : (s.port p).prov = false) (hw : WireFree s p) :
    ∃ t, exec (.portCmdRenegotiate h p 0) s = .next t ∧ Accepts s t h 0x60 p [3] [] ∧ (t.port p).st = .negotiating ∧
      Sent t p (s.port p).nextId Ple.GET_CAPS [] ∧ ∀ q, q ≠ p → t.port q = s.port q := by
  obtain ⟨a, e, b⟩ := portCmd_begun (c := .portCmdRenegotiate h p 0) r hp rfl (by decide) hheld (portCmdOk_renegotiate hm (.inr hst))
  rw [portCmdStart_renegotiate] at e
  generalize a.modPort p (PtPort.opBegun (nextOp s.host.opNum) 3) = z at e b
  have hlz : p < z.jobs.ports.length := by rw [b.len]; exact hp.2
  have hy := negEntered_port hlz 5
  have my := PortMoves.negEntered p 5 z
  have hwy := negEntered_wireFree hlz (b.wireFree hw) 5
  rw [negStart_eq, if_neg (by rw [b.port]; simp [PtPort.opBegun, hst]), if_neg (by rw [b.port]; simp [PtPort.opBegun, hprov]),
    if_neg (by rw [hy, b.port]; simp [PtPort.opBegun, hprov])] at e
  generalize negEntered p 5 z = y at e hy my hwy
  have hly : p < y.jobs.ports.length := by rw [my.len]; exact hlz
  have hs := portSend_port hly hwy Ple.GET_CAPS []
  have hsent := portSend_sent hly hwy Ple.GET_CAPS []
  rw [show (y.port p).nextId = (s.port p).nextId from (congrArg PtPort.nextId hy).trans b.nextId] at hsent
  obtain ⟨ha, -, hq⟩ := b.moved (my.trans (.portSend p Ple.GET_CAPS [] y))
  exact ⟨_, e, ha, by rw [hs, hy], hsent, hq⟩

theorem portCmdRenegotiate_provider {s : State} {h : Hdr} {p : Nat} (r : HostReady s h 0x60 2 1) (hp : HasPort s p) (hheld : s.opHeld 0x60 p = false)
    (hm : par s gPRT p PRT.MODE ≠ 0) (hst : (s.port p).st = .contract) (hprov : (s.port p).prov = true) (hw : WireFree s p) :
    ∃ t, exec (.portCmdRenegotiate h p 0) s = .next t ∧ Accepts s t h 0x60 p [3] [] ∧ (t.port p).st = .negotiating ∧
      Sent t p (s.port p).nextId Ple.CAPS (capsPay (advertised s p)) ∧ ∀ q, q ≠ p → t.port q = s.port q := by
  obtain ⟨a, e, b⟩ := portCmd_begun (c := .portCmdRenegotiate h p 0) r hp rfl (by decide) hheld (portCmdOk_renegotiate hm (.inr hst))
  rw [portCmdStart_renegotiate] at e
  generalize a.modPort p (PtPort.opBegun (nextOp s.host.opNum) 3) = z at e b
  have hlz : p < z.jobs.ports.length := by rw [b.len]; exact hp.2
  have hy := negEntered_port hlz 5
  have my := PortMoves.negEntered p 5 z
  have hwy := negEntered_wireFree hlz (b.wireFree hw) 5
  rw [negStart_eq, if_neg (by rw [b.port]; simp [PtPort.opBegun, hst]), if_pos (by rw [b.port]; exact hprov),
    if_pos (by rw [hy, b.port]; exact hprov)] at e
  generalize negEntered p 5 z = y at e hy my hwy
  have hly : p < y.jobs.ports.length := by rw [my.len]; exact hlz
  have hadv : advertised y p = advertised s p := by
    obtain ⟨g, ps, eg⟩ := b.eq
    refine (advertised_moved ⟨_, _, _, _, _, my.eq⟩ (by rw [hy]) (by rw [hy])).trans
      (advertised_moved ⟨g, ps, s.jobs.fleet, s.trace, s.freeCtr, eg⟩ ?_ ?_)
    · rw [b.port]; rfl
    · rw [b.port]; rfl
  have mo : PortMoves p y (y.modPort p fun t => { t with offers := advertised y p, advN := (advertised y p).length }) := .modPort p y _
  have ho : (y.modPort p fun t => { t with offers := advertised y p, advN := (advertised y p).length }).port p = { y.port p with
      offers := advertised y p, advN := (advertised y p).length } := State.port_modPort_self hly _
  change exec _ s = .next (portSend p Ple.CAPS (capsPay (advertised y p))
    (y.modPort p fun t => { t with offers := advertised y p, advN := (advertised y p).length })) at e
  generalize (y.modPort p fun t => { t with offers := advertised y p, advN := (advertised y p).length }) = o at e mo ho
  have hlo : p < o.jobs.ports.length := by rw [mo.len]; exact hly
  have hwo : WireFree o p := by unfold WireFree; rw [ho]; exact hwy
  have hs := portSend_port hlo hwo Ple.CAPS (capsPay (advertised y p))
  have hsent := portSend_sent hlo hwo Ple.CAPS (capsPay (advertised y p))
  rw [show (o.port p).nextId = (s.port p).nextId from (congrArg PtPort.nextId ho).trans ((congrArg PtPort.nextId hy).trans b.nextId)] at hsent
  obtain ⟨ha, -, hq⟩ := b.moved ((my.trans mo).trans (.portSend p Ple.CAPS (capsPay (advertised y p)) o))
  rw [hadv] at e hs hsent ha hq
  exact ⟨_, e, ha, by rw [hs, ho, hy], hsent, hq⟩

theorem portCmdRenegotiate_attached {s : State} {h : Hdr} {p : Nat} (r : HostReady s h 0x60 2 1) (hp : HasPort s p) (hheld : s.opHeld 0x60 p = false)
    (hm : par s gPRT p PRT.MODE ≠ 0) (hst : (s.port p).st = .attached) :
    ∃ t, exec (.portCmdRenegotiate h p 0) s = .next t ∧ Accepts s t h 0x60 p [3] [] ∧ (t.port p).st = .attached ∧ (t.port p).ver = (s.port p).ver ∧
      ((s.port p).ver = 0 → (t.port p).helloRx = false) ∧ ∀ q, q ≠ p → t.port q = s.port q := by
  obtain ⟨a, e, b⟩ := portCmd_begun (c := .portCmdRenegotiate h p 0) r hp rfl (by decide) hheld (portCmdOk_renegotiate hm (.inl hst))
  rw [portCmdStart_renegotiate] at e
  generalize a.modPort p (PtPort.opBegun (nextOp s.host.opNum) 3) = z at e b
  have hlz : p < z.jobs.ports.length := by rw [b.len]; exact hp.2
  have hzst : (z.port p).st = .attached := by rw [b.port]; exact hst
  have hzver : (z.port p).ver = (s.port p).ver := by rw [b.port]; rfl
  rw [if_pos hzst, hzver] at e
  by_cases hv : (s.port p).ver = 0
  · rw [if_pos hv] at e
    obtain ⟨h1, h2, h3⟩ := helloStart_port hlz 5
    obtain ⟨ha, -, hq⟩ := b.moved (.helloStart p 5 z)
    exact ⟨_, e, ha, h1, h2.trans hv.symm, fun _ => h3, hq⟩
  · rw [if_neg hv] at e
    exact ⟨z, e, b.accepts, hzst, hzver, fun h => absurd h hv, b.others⟩

/-! The cable query (R324). -/

/-- A cable query begins. -/
theorem portCmdStart_cable (p n : Nat) (a : State) :
    ∃ code, portCmdStart p 4 n a =
      if ((a.modPort p (PtPort.opBegun n 4)).port p).prov || ((a.modPort p (PtPort.opBegun n 4)).port p).code = 0 then
        plugDone p code (a.modPort p (PtPort.opBegun n 4))
      else (a.modPort p (PtPort.opBegun n 4)).modPort p fun t => { t with plug := some 0 } := ⟨_, rfl⟩

theorem PortMoves.renegotiate (p cause : Nat) (s : State) : PortMoves p s (renegotiate p cause s) := .ite _ (.negStart p cause s) (.refl p s)

/-- The plug measurement of a cable query outside CONTRACT ends the operation and leaves the state of the port (R324, R360). -/
theorem plugDone_ends {s : State} {p n : Nat} (hp : p < s.jobs.ports.length) (hop : (s.port p).op = some (n, 4)) (hdone : (s.port p).opDone = none)
    (hst : (s.port p).st ≠ .contract) (code : Nat) :
    PortMoves p s (plugDone p code s) ∧ ((plugDone p code s).port p).opDone = some St.OK ∧ ((plugDone p code s).port p).st = (s.port p).st := by
  unfold plugDone
  dsimp only
  have mx : PortMoves p s (s.modPort p fun t => { t with code := code, plug := none }) := .modPort p s _
  have hx : (s.modPort p fun t => { t with code := code, plug := none }).port p = { s.port p with code := code, plug := none } :=
    State.port_modPort_self hp _
  generalize (s.modPort p fun t => { t with code := code, plug := none }) = x at mx hx
  have hlx : p < x.jobs.ports.length := by rw [mx.len]; exact hp
  generalize hy : (if ((x.port p).st = .attached && !(x.port p).prov && (x.port p).helloRx && !(x.port p).helloOut) = true then sendHello p x else x) = y
  have my : PortMoves p x y ∧ (y.port p).st = (x.port p).st ∧ (y.port p).op = (x.port p).op ∧ (y.port p).opDone = (x.port p).opDone := by
    rw [← hy]
    split
    · obtain ⟨h1, -, -, h4, h5⟩ := sendHello_port hlx
      exact ⟨.sendHello p x, h1, h4, h5⟩
    · exact ⟨.refl p x, rfl, rfl, rfl⟩
  obtain ⟨mxy, h1, h2, h3⟩ := my
  have hly : p < y.jobs.ports.length := by rw [mxy.len]; exact hlx
  have his : portOpIs (y.port p) [4] = true := by
    have hop' : (y.port p).op = some (n, 4) := h2.trans (by rw [hx]; exact hop)
    have hdone' : (y.port p).opDone = none := h3.trans (by rw [hx]; exact hdone)
    simp [portOpIs, hop', hdone']
  rw [if_pos his]
  have hu := portOpEnd_port hly [4] St.OK
  rw [if_pos his] at hu
  have mu := PortMoves.portOpEnd p [4] St.OK y
  generalize portOpEnd p [4] St.OK y = u at hu mu
  have hust : (u.port p).st = (s.port p).st := by rw [hu, h1, hx]
  split
  · have hrn : ¬ ((u.raise Ev.CABLE_LIMITED (p * 2 ^ 8 + ratingCode u p)).port p).st = .contract := fun h => hst (hust.symm.trans h)
    rw [Machine.renegotiate, if_neg hrn]
    exact ⟨((mx.trans mxy).trans mu).trans (.raise p u _ _), congrArg PtPort.opDone hu, hust⟩
  · exact ⟨(mx.trans mxy).trans mu, by rw [hu], hust⟩

theorem portCmdCableQuery_ended {s : State} {h : Hdr} {p : Nat} (r : HostReady s h 0x60 2 1) (hp : HasPort s p) (hheld : s.opHeld 0x60 p = false)
    (hm : par s gPRT p PRT.MODE ≠ 0) (hatt : (s.port p).st.isAttached = true) (hst : (s.port p).st ≠ .contract)
    (hpc : (s.port p).prov = true ∨ (s.port p).code = 0) :
    ∃ t, exec (.portCmdCableQuery h p 0) s = .next t ∧ Accepts s t h 0x60 p [4] [] ∧ (t.port p).opDone = some St.OK ∧
      (t.port p).st = (s.port p).st ∧ ∀ q, q ≠ p → t.port q = s.port q := by
  obtain ⟨a, e, b⟩ := portCmd_begun (c := .portCmdCableQuery h p 0) r hp rfl (by decide) hheld (portCmdOk_attached hm hatt (.inl rfl))
  obtain ⟨code, hc⟩ := portCmdStart_cable p (nextOp s.host.opNum) a
  rw [hc] at e
  generalize a.modPort p (PtPort.opBegun (nextOp s.host.opNum) 4) = z at e b
  rw [if_pos (by rw [b.port, Bool.or_eq_true, decide_eq_true_eq]; exact hpc)] at e
  obtain ⟨m, h1, h2⟩ := plugDone_ends (s := z) (n := nextOp s.host.opNum) (by rw [b.len]; exact hp.2) (by rw [b.port]; rfl) (by rw [b.port]; rfl)
    (by rw [b.port]; exact hst) code
  obtain ⟨ha, -, hq⟩ := b.moved m
  exact ⟨_, e, ha, h1, h2.trans (by rw [b.port]; rfl), hq⟩

theorem portCmdCableQuery_measures {s : State} {h : Hdr} {p : Nat} (r : HostReady s h 0x60 2 1) (hp : HasPort s p) (hheld : s.opHeld 0x60 p = false)
    (hm : par s gPRT p PRT.MODE ≠ 0) (hatt : (s.port p).st.isAttached = true) (hprov : (s.port p).prov = false) (hcode : (s.port p).code ≠ 0) :
    ∃ t, exec (.portCmdCableQuery h p 0) s = .next t ∧ Accepts s t h 0x60 p [4] [] ∧ (t.port p).plug = some 0 ∧ (t.port p).st = (s.port p).st ∧
      t.host.events = s.host.events ∧ ∀ q, q ≠ p → t.port q = s.port q := by
  obtain ⟨a, e, b⟩ := portCmd_begun (c := .portCmdCableQuery h p 0) r hp rfl (by decide) hheld (portCmdOk_attached hm hatt (.inl rfl))
  obtain ⟨code, hc⟩ := portCmdStart_cable p (nextOp s.host.opNum) a
  rw [hc] at e
  generalize a.modPort p (PtPort.opBegun (nextOp s.host.opNum) 4) = z at e b
  rw [if_neg (by rw [b.port]; simp [PtPort.opBegun, hprov, hcode])] at e
  have hx : (z.modPort p fun t => { t with plug := some 0 }).port p = { z.port p with plug := some 0 } :=
    State.port_modPort_self (by rw [b.len]; exact hp.2) _
  obtain ⟨ha, -, hq⟩ := b.moved (.modPort p z fun t => { t with plug := some 0 })
  exact ⟨_, e, ha, by rw [hx], by rw [hx, b.port]; rfl, b.events, hq⟩

/-! The check of the partner (R356, R357). -/

/-- A check of the partner begins, or ends with VERSION (R356, R360). -/
theorem portCmdStart_check (p n : Nat) (a : State) :
    portCmdStart p 5 n a = if ((a.modPort p (PtPort.opBegun n 5)).port p).ver < 0x22 then portOpEnd p [5] St.VERSION (a.modPort p (PtPort.opBegun n 5))
      else authStart p (some n) (a.modPort p (PtPort.opBegun n 5)) := rfl

theorem portCmdAuthenticate_taken {s : State} {h : Hdr} {p : Nat} (r : HostReady s h 0x60 2 1) (hp : HasPort s p) (hheld : s.opHeld 0x60 p = false)
    (hm : par s gPRT p PRT.MODE ≠ 0) (hatt : (s.port p).st.isAttached = true) (hw : WireFree s p) :
    ∃ t, exec (.portCmdAuthenticate h p 0) s = .next t ∧ Accepts s t h 0x60 p [5] [] ∧ t.host.events = s.host.events ∧
      (∀ q, q ≠ p → t.port q = s.port q) ∧
      ((s.port p).ver < 0x22 → (t.port p).opDone = some St.VERSION ∧ (t.port p).out = (s.port p).out) ∧
      (0x22 ≤ (s.port p).ver → (t.port p).auth.map (fun a => (a.step, a.op)) = some (1, some (nextOp s.host.opNum)) ∧
        Sent t p (s.port p).nextId Ple.AUTH_CERT_GET [0, 0, 64, 0]) := by
  obtain ⟨a, e, b⟩ := portCmd_begun (c := .portCmdAuthenticate h p 0) r hp rfl (by decide) hheld (portCmdOk_attached hm hatt (.inr rfl))
  rw [portCmdStart_check] at e
  generalize a.modPort p (PtPort.opBegun (nextOp s.host.opNum) 5) = z at e b
  have hlz : p < z.jobs.ports.length := by rw [b.len]; exact hp.2
  have hver : (z.port p).ver = (s.port p).ver := by rw [b.port]; rfl
  rw [hver] at e
  by_cases hv : (s.port p).ver < 0x22
  · rw [if_pos hv] at e
    have hx := portOpEnd_port hlz [5] St.VERSION
    rw [if_pos (by rw [b.port]; rfl), b.port] at hx
    obtain ⟨ha, -, hq⟩ := b.moved (.portOpEnd p [5] St.VERSION z)
    refine ⟨_, e, ha, ?_, hq, fun _ => ⟨by rw [hx], by rw [hx]; rfl⟩, fun h => absurd hv (Nat.not_lt.mpr h)⟩
    rw [← b.events]
    unfold portOpEnd
    split <;> rfl
  · rw [if_neg hv, authStart, if_neg (by rw [hver]; exact hv)] at e
    have mo : PortMoves p z (z.modPort p fun t => { t with auth := some ⟨1, [], 0, [], 0, some (nextOp s.host.opNum)⟩ }) := .modPort p z _
    have ho : (z.modPort p fun t => { t with auth := some ⟨1, [], 0, [], 0, some (nextOp s.host.opNum)⟩ }).port p =
      { z.port p with auth := some ⟨1, [], 0, [], 0, some (nextOp s.host.opNum)⟩ } := State.port_modPort_self hlz _
    have hev : (z.modPort p fun t => { t with auth := some ⟨1, [], 0, [], 0, some (nextOp s.host.opNum)⟩ }).host.events = s.host.events := b.events
    generalize (z.modPort p fun t => { t with auth := some ⟨1, [], 0, [], 0, some (nextOp s.host.opNum)⟩ }) = o at e mo ho hev
    have hlo : p < o.jobs.ports.length := by rw [mo.len]; exact hlz
    have hwo : WireFree o p := by unfold WireFree; rw [ho]; exact b.wireFree hw
    have hs := portSend_port hlo hwo Ple.AUTH_CERT_GET [0, 0, 64, 0]
    have hsent := portSend_sent hlo hwo Ple.AUTH_CERT_GET [0, 0, 64, 0]
    rw [show (o.port p).nextId = (s.port p).nextId from (congrArg PtPort.nextId ho).trans b.nextId] at hsent
    obtain ⟨ha, -, hq⟩ := b.moved (mo.trans (.portSend p Ple.AUTH_CERT_GET [0, 0, 64, 0] o))
    refine ⟨_, e, ha, ?_, hq, fun h => absurd h hv, fun _ => ⟨?_, hsent⟩⟩
    · rw [← hev]
      change (portSend p Ple.AUTH_CERT_GET [0, 0, 64, 0] o).host.events = _
      unfold portSend
      split <;> rfl
    · change ((portSend p Ple.AUTH_CERT_GET [0, 0, 64, 0] o).port p).auth.map _ = _
      rw [hs, ho]
      rfl

end Sys2Proof.Machine
end

section
/-! The hard reset by a host (R346, R354). -/

namespace Sys2Proof.Machine

/-- From s to t lanes, packs and their requests may have moved and events been raised; the partner ports and the rest of the host side stand. -/
structure PortsStand (s t : State) : Prop where
  host : t.host = { s.host with events := t.host.events, evSeq := t.host.evSeq, lost := t.host.lost }
  ports : t.jobs.ports = s.jobs.ports

theorem PortsStand.refl (s : State) : PortsStand s s := ⟨rfl, rfl⟩

theorem PortsStand.trans {s t u : State} (h : PortsStand s t) (g : PortsStand t u) : PortsStand s u :=
  ⟨by rw [g.host, h.host], g.ports.trans h.ports⟩

theorem LaneStep.portsStand {s t : State} (h : LaneStep s t) : PortsStand s t := ⟨congrArg State.host h.eq, by rw [h.eq]⟩

theorem PortStep.portsStand {s t : State} (h : PortStep s t) : PortsStand s t := ⟨congrArg State.host h.eq, by rw [h.eq]⟩

theorem LaneStep.laneRetry (n cause : Nat) (s : State) : LaneStep s (laneRetry n cause s) := (LaneStep.modLane s n _).trans (.laneEnter n _ _ _)

theorem LaneStep.softFail (n cause : Nat) (s : State) : LaneStep s (softFail n cause true s) :=
  (((LaneStep.lanePhasesLow s n).trans (.setLnen _ n false)).trans (.laneRetry n cause _)).trans (.raise _ _ _)

theorem LaneStep.stopLane (n cause : Nat) (s : State) : LaneStep s (stopLane n cause s) := by
  have off (f : Lane → Lane) : LaneStep s ((Machine.laneOffNow n (some cause) s).modLane n f) := (LaneStep.laneOffNow n _ s).trans (.modLane _ n f)
  unfold Machine.stopLane
  split
  · exact off _
  · exact off _
  · exact off _
  · exact off _
  · exact .softFail n cause s
  · exact .refl s
  · exact .refl s

theorem PortStep.packOpen (p : Nat) (s : State) : PortStep s (packOpen p s) := ⟨rfl, .of_host rfl⟩

theorem PortStep.packEnd (p : Nat) (s : State) : PortStep s (packEnd p s) := by
  have h : PortStep s (if (s.pack p).ph = .taper then s.setPar gCHG p CHG.TOPOFF_REQ 0 else s) := .ite _ (.setPar s _ _ _ _)
  exact ((h.trans (.testEnd p 2 _)).trans (.packOpen p _)).trans (.modPack _ p _)

theorem PortStep.linkS6 (s : State) : PortStep s (linkS6 s) := foldl_rel .refl .trans _ _ (fun z p => .modPack z p _) s

/-- A pack taken out by a hard reset leaves the partner ports (R311, R346). -/
theorem PortsStand.packRemove (p : Nat) (s : State) : PortsStand s (packRemove p 4 s) := by
  have rest (z : State) : PortsStand z ((Machine.linkS6 ((Machine.packEnd p z).modPack p fun k => { k with holdoff := some 0 })).raise
      Ev.PACK_REMOVED (p * 2 ^ 8 + 4)) :=
    (((PortStep.packEnd p z).trans (.modPack _ p _)).trans (.linkS6 _)).portsStand.trans (PortStep.raise _ _ _).portsStand
  unfold Machine.packRemove
  split
  · exact .refl s
  · split
    · exact .refl s
    · dsimp only
      rw [if_neg (by decide), if_neg (by decide)]
      refine PortsStand.trans ?_ (rest _)
      split
      · exact .refl s
      · exact ((LaneStep.laneOffNow _ _ s).trans (.modLane _ _ _)).portsStand

/-- The power of a port off: its lane stopped, its switch wanted open, and nothing else of the port (R346). -/
theorem portPower_port {s : State} {p : Nat} (hp : p < s.jobs.ports.length) :
    (portPower p 4 s).host = { s.host with
        events := (portPower p 4 s).host.events, evSeq := (portPower p 4 s).host.evSeq, lost := (portPower p 4 s).host.lost } ∧
      (portPower p 4 s).jobs.ports.length = s.jobs.ports.length ∧
      ∃ b, (portPower p 4 s).port p = { s.port p with sw := b } := by
  have opened {z : State} (h : PortsStand s z) : (portOpen p z).host = { s.host with
        events := (portOpen p z).host.events, evSeq := (portOpen p z).host.evSeq, lost := (portOpen p z).host.lost } ∧
      (portOpen p z).jobs.ports.length = s.jobs.ports.length ∧ ∃ b, (portOpen p z).port p = { s.port p with sw := b } := by
    have hz : z.port p = s.port p := by unfold State.port; rw [h.ports]
    refine ⟨h.host, ?_, false, ?_⟩
    · exact (modAt_length _ _ _).trans (by rw [h.ports])
    · rw [← hz]
      exact State.port_modPort_self (by rw [h.ports]; exact hp) _
  have hr := PortsStand.packRemove p s
  unfold portPower portStop
  split
  · split
    · exact opened (hr.trans (LaneStep.stopLane _ 2 _).portsStand)
    · refine ⟨hr.host, by rw [hr.ports], (s.port p).sw, ?_⟩
      unfold State.port
      rw [hr.ports]
  · exact opened hr

theorem putMarker_port {s : State} {p : Nat} (hp : p < s.jobs.ports.length) :
    PortMoves p s (putMarker p s) ∧ (putMarker p s).port p =
      { s.port p with out := ((putMarker p s).port p).out, quiet := ((putMarker p s).port p).quiet } := by
  unfold putMarker
  split
  · exact ⟨.refl p s, rfl⟩
  · refine ⟨.modPort p s _, ?_⟩
    rw [portPut, State.port_modPort_self hp]

/-- A hard reset asked for by the host: the contract goes, the reset is counted, and the operation goes on (R346, R354, R360). -/
theorem hardReset_host {s : State} {p n : Nat} (hp : p < s.jobs.ports.length) (hop : (s.port p).op = some (n, 1))
    (hst : (s.port p).st ≠ .detached ∧ (s.port p).st ≠ .attachWait ∧ (s.port p).st ≠ .hardReset) :
    (hardReset p 3 s).host = { s.host with
        events := (hardReset p 3 s).host.events, evSeq := (hardReset p 3 s).host.evSeq, lost := (hardReset p 3 s).host.lost } ∧
      ((hardReset p 3 s).port p).st = .hardReset ∧ ((hardReset p 3 s).port p).op = (s.port p).op ∧
      ((hardReset p 3 s).port p).opDone = (s.port p).opDone ∧ ((hardReset p 3 s).port p).con = .none ∧
      ((hardReset p 3 s).port p).hardN = incSat 32 (s.port p).hardN := by
  obtain ⟨hh, hl, b, hb⟩ := portPower_port hp
  unfold hardReset hardResetAs
  split
  case h_1 h => exact absurd h hst.1
  case h_2 h => exact absurd h hst.2.1
  case h_3 h => exact absurd h hst.2.2
  case h_4 =>
    dsimp only
    generalize portPower p 4 s = w at hh hl hb
    have hlw : p < w.jobs.ports.length := by rw [hl]; exact hp
    generalize hf : (fun t : PtPort => { t.forget with
      out := if 3 = 2 then [] else t.out.filter PMsg.isAck, vHard := s.val (8 + p), lowRun := 0, hardN := incSat 32 t.hardN
      hardAtt := t.hardAtt + 1, marked := decide (3 = 2), cause := 3 }) = f
    have hfp : (f (w.port p)).op = (s.port p).op ∧ (f (w.port p)).opDone = (s.port p).opDone ∧ (f (w.port p)).con = .none ∧
        (f (w.port p)).hardN = incSat 32 (s.port p).hardN := by
      rw [← hf, hb]
      exact ⟨rfl, rfl, rfl, rfl⟩
    have mx : PortMoves p w ((w.modPort p f).raise Ev.PORT_HARD_RESET (((w.modPort p f).port p).hardAtt % 65536 * 2 ^ 16 + p * 2 ^ 8 + 3)) :=
      (PortMoves.modPort p w f).trans (.raise p _ _ _)
    have hx : ((w.modPort p f).raise Ev.PORT_HARD_RESET (((w.modPort p f).port p).hardAtt % 65536 * 2 ^ 16 + p * 2 ^ 8 + 3)).port p = f (w.port p) :=
      State.port_modPort_self hlw f
    generalize (w.modPort p f).raise Ev.PORT_HARD_RESET (((w.modPort p f).port p).hardAtt % 65536 * 2 ^ 16 + p * 2 ^ 8 + 3) = x at mx hx
    have hlx : p < x.jobs.ports.length := by rw [mx.len]; exact hlw
    have he := portEnter_port hlx .hardReset 5
    have me := PortMoves.portEnter p .hardReset 5 x
    generalize portEnter p .hardReset 5 x = y at he me
    have hly : p < y.jobs.ports.length := by rw [me.len]; exact hlx
    have hno : ¬ portOpIs (y.port p) [0, 2, 3, 4, 5] = true := by
      have : (y.port p).op = some (n, 1) := by
        rw [he, hx]
        exact hfp.1.trans hop
      simp [portOpIs, this]
    rw [portOpEnd, if_neg hno]
    have hyp : (y.port p).st = .hardReset ∧ (y.port p).op = (s.port p).op ∧ (y.port p).opDone = (s.port p).opDone ∧ (y.port p).con = .none ∧
        (y.port p).hardN = incSat 32 (s.port p).hardN := by
      rw [he, hx]
      exact ⟨rfl, hfp⟩
    have hyh := (mx.trans me).host
    split
    · obtain ⟨mm, hm⟩ := putMarker_port hly
      refine ⟨by rw [mm.host, hyh, hh], ?_⟩
      rw [hm]
      exact hyp
    · exact ⟨by rw [hyh, hh], hyp⟩

/-- A hard reset begins. -/
theorem portCmdStart_hard (p n : Nat) (a : State) : portCmdStart p 1 n a = hardReset p 3 (a.modPort p (PtPort.opBegun n 1)) := by
  unfold portCmdStart PtPort.opBegun
  rfl

theorem portCmdHardReset_taken {s : State} {h : Hdr} {p : Nat} (r : HostReady s h 0x60 2 1) (hp : HasPort s p) (hheld : s.opHeld 0x60 p = false)
    (hm : par s gPRT p PRT.MODE ≠ 0) (hst : (s.port p).st ∉ [PtSt.detached, .attachWait]) :
    ∃ t, exec (.portCmdHardReset h p 0) s = .next t ∧ Accepts s t h 0x60 p [1] [] ∧ (t.port p).st = .hardReset ∧
      (t.port p).op = some (nextOp s.host.opNum, 1) ∧ (t.port p).opDone = none ∧
      ((s.port p).st ≠ .hardReset → (t.port p).con = .none ∧ (t.port p).hardN = incSat 32 (s.port p).hardN) ∧
      ((s.port p).st = .hardReset → (t.port p).hardN = (s.port p).hardN) := by
  obtain ⟨h1, h2⟩ : (s.port p).st ≠ .detached ∧ (s.port p).st ≠ .attachWait := by simpa using hst
  obtain ⟨a, e, b⟩ := portCmd_begun (c := .portCmdHardReset h p 0) r hp rfl (by decide) hheld (by simp [portCmdOk, hm, h1, h2])
  rw [portCmdStart_hard] at e
  generalize a.modPort p (PtPort.opBegun (nextOp s.host.opNum) 1) = z at e b
  have hlz : p < z.jobs.ports.length := by rw [b.len]; exact hp.2
  have hzst : (z.port p).st = (s.port p).st := by rw [b.port]; rfl
  have hzop : (z.port p).op = some (nextOp s.host.opNum, 1) ∧ (z.port p).opDone = none ∧ (z.port p).hardN = (s.port p).hardN := by
    rw [b.port]
    exact ⟨rfl, rfl, rfl⟩
  by_cases h3 : (s.port p).st = .hardReset
  · have hsame : hardReset p 3 z = z := by
      unfold hardReset hardResetAs
      rw [hzst, h3]
    rw [hsame] at e
    exact ⟨z, e, b.accepts, hzst.trans h3, hzop.1, hzop.2.1, fun n => absurd h3 n, fun _ => hzop.2.2⟩
  · obtain ⟨hh, g1, g2, g3, g4, g5⟩ := hardReset_host hlz hzop.1 (by rw [hzst]; exact ⟨h1, h2, h3⟩)
    exact ⟨_, e, b.accepts.of_events hh, g1, g2.trans hzop.1, g3.trans hzop.2.1, fun _ => ⟨g4, g5.trans (by rw [hzop.2.2])⟩, fun n => absurd n h3⟩

/-- An action on a port that has one is refused before its state is asked, and one that its state does not accept after it (R85, R360). -/
theorem doPortCmd_refused {s : State} {p act : Nat} (c : Ctx) (hp : p < nPp s) (hact : act ≤ 5) :
    (s.opHeld 0x60 p = true → doPortCmd c p act 0 s = s.refuse c St.BUSY 5) ∧
      (s.opHeld 0x60 p = false → portCmdOk s p act = false → doPortCmd c p act 0 s = s.refuse c St.LOCKED 2) := by
  constructor
  · intro hheld
    rw [doPortCmd, if_neg (Nat.not_le.mpr hp), if_neg (Nat.not_lt.mpr hact), if_neg (by simp), hheld, if_pos rfl]
  · intro hheld hok
    rw [doPortCmd, if_neg (Nat.not_le.mpr hp), if_neg (Nat.not_lt.mpr hact), if_neg (by simp), hheld, if_neg (by decide), hok]
    rfl

end Sys2Proof.Machine

open Sys2Proof Sys2Proof.Machine

/-- Settles O56: each action by the port it leaves, once its operation has begun. -/
theorem portCommandRows : Obligations.PortCommandRows := by
  rintro s h p _ r hp rfl
  refine ⟨?busy, ?locked, ?soft, ?hard, ?swap, ?taker, ?provider, ?attached, ?ended, ?measures, ?check⟩
  case busy =>
    intro hheld
    exact answers_of_body (k := cmdPortCmd p 1 0) r rfl rfl fun spi i2c can fs _ =>
      ⟨_, .refl _, (doPortCmd_refused (s := s.relinked spi i2c can fs) _ hp.1 (by decide)).1 hheld⟩
  case locked =>
    intro hheld hok
    exact answers_of_body (k := cmdPortCmd p 2 0) r rfl rfl fun spi i2c can fs _ =>
      ⟨_, .refl _, (doPortCmd_refused (s := s.relinked spi i2c can fs) _ hp.1 (by decide)).2 hheld hok⟩
  case soft => exact fun hheld hok => portCmdSoftReset_taken r hp hheld hok
  case hard => exact fun hheld hm hst => portCmdHardReset_taken r hp hheld hm hst
  case swap => exact fun hheld hok hw => portCmdRoleSwap_taken r hp hheld hok hw
  case taker => exact fun hheld hm hst hprov hw => portCmdRenegotiate_taker r hp hheld hm hst hprov hw
  case provider => exact fun hheld hm hst hprov hw => portCmdRenegotiate_provider r hp hheld hm hst hprov hw
  case attached => exact fun hheld hm hst => portCmdRenegotiate_attached r hp hheld hm hst
  case ended => exact fun hheld hm hatt hst hpc => portCmdCableQuery_ended r hp hheld hm hatt hst hpc
  case measures => exact fun hheld hm hatt hprov hcode => portCmdCableQuery_measures r hp hheld hm hatt hprov hcode
  case check => exact fun hheld hm hatt hw => portCmdAuthenticate_taken r hp hheld hm hatt hw

end

section
/-! What the jobs of a frame leave alone: one view of the state, and for each function of the model that a frame runs that the view stands. -/

namespace Sys2Proof.Machine

/-- What a frame's start settles and its jobs then leave alone: the frame counter, the age and the mark of the commit point, the one-time
memory, and the two read images (R88, R96, R97, R111). -/
structure PipeCore where
  frame     : Nat
  age       : Nat
  committed : Bool
  otp       : Otp
  image     : Jobs
  imgNext   : Option Jobs

/-- The same with the outputs, and whether SAFEn has been seen low since the safety job last looked: what the jobs leave alone while SAFEn
is high (R434). -/
structure PipeView extends PipeCore where
  outs   : Outs
  sawLow : Bool

/-- The view of a state. -/
def State.pipe (s : State) : PipeView :=
  ⟨⟨s.frame, s.age, s.jobs.frm.committed, s.otp, s.image, s.imgNext⟩, s.outs, s.jobs.safe.sawLow⟩

/-- Writing a field that the view does not show leaves it as it is. -/
@[simp] theorem pipe_sameShown (s : State) (p i c h pa f m sh lo w r ta tb tr fw ti cr fc) :
    State.pipe ⟨p, i, c, h, pa, s.otp, f, s.jobs, s.image, s.imgNext, m, sh, s.outs, lo, w, r, ta, tb, tr, fw, ti, cr, fc⟩ = s.pipe := by rfl

@[simp] theorem pipe_ite (c : Prop) [Decidable c] (s t : State) : (if c then s else t).pipe = if c then s.pipe else t.pipe := by split <;> rfl

/-- A fold whose every step keeps the view keeps it. -/
@[simp] theorem pipe_foldl {α : Type} {f : State → α → State} (h : ∀ s a, (f s a).pipe = s.pipe) (l : List α) (s : State) :
    (l.foldl f s).pipe = s.pipe := by
  induction l generalizing s with
  | nil => rfl
  | cons a l ih => exact (ih _).trans (h s a)

/-- A change of the jobs that leaves the frame and SAFEn's mark alone. -/
@[simp] theorem pipe_modJobs {s : State} {f : Jobs → Jobs} (hf : (f s.jobs).frm = s.jobs.frm) (hs : (f s.jobs).safe.sawLow = s.jobs.safe.sawLow) :
    (s.modJobs f).pipe = s.pipe := by
  unfold State.pipe State.frame State.age State.modJobs
  rw [hf, hs]

/-- A change of the frame that leaves the counter, the age and the mark of the commit point alone. -/
@[simp] theorem pipe_modFrm {s : State} {f : Frame → Frame} (hf : (f s.jobs.frm).frame = s.jobs.frm.frame)
    (ha : (f s.jobs.frm).age = s.jobs.frm.age) (hc : (f s.jobs.frm).committed = s.jobs.frm.committed) : (s.modFrm f).pipe = s.pipe := by
  simp only [State.pipe, State.frame, State.age, State.modFrm, State.modJobs, hf, ha, hc]

@[simp] theorem pipe_modSlot (s : State) (n : Nat) (f : Slot → Slot) : (s.modSlot n f).pipe = s.pipe := by rfl

@[simp] theorem pipe_modSafe {s : State} {f : Safety → Safety} (h : (f s.jobs.safe).sawLow = s.jobs.safe.sawLow) : (s.modSafe f).pipe = s.pipe :=
  pipe_modJobs rfl h

@[simp] theorem pipe_modHost (s : State) (f : HostState → HostState) : (s.modHost f).pipe = s.pipe := by rfl

@[simp] theorem pipe_raise (s : State) (c a : Nat) : (s.raise c a).pipe = s.pipe := by rfl

/-! The operations that all of the block shares. -/

@[simp] theorem pipe_setPar (s : State) (g i k v : Nat) : (s.setPar g i k v).pipe = s.pipe := by rfl

@[simp] theorem pipe_modLane (s : State) (n : Nat) (f : Lane → Lane) : (s.modLane n f).pipe = s.pipe := by rfl

@[simp] theorem pipe_modPhase (s : State) (x : Nat) (f : Phase → Phase) : (s.modPhase x f).pipe = s.pipe := by rfl

@[simp] theorem pipe_modMod (s : State) (x : Nat) (f : Modulator → Modulator) : (s.modMod x f).pipe = s.pipe := by rfl

@[simp] theorem pipe_modSrc (s : State) (n : Nat) (f : SrcPort → SrcPort) : (s.modSrc n f).pipe = s.pipe := by rfl

@[simp] theorem pipe_modPack (s : State) (p : Nat) (f : Pack → Pack) : (s.modPack p f).pipe = s.pipe := by rfl

@[simp] theorem pipe_modPort (s : State) (p : Nat) (f : PtPort → PtPort) : (s.modPort p f).pipe = s.pipe := by rfl

@[simp] theorem pipe_modFleet (s : State) (f : Fleet → Fleet) : (s.modFleet f).pipe = s.pipe := by rfl

@[simp] theorem pipe_modFl (s : State) (q : Nat) (f : FlPort → FlPort) : (s.modFl q f).pipe = s.pipe := by rfl

@[simp] theorem pipe_modSeq (s : State) (f : Rails → Rails) : (s.modSeq f).pipe = s.pipe := by rfl

@[simp] theorem pipe_modRail (s : State) (n : Nat) (f : Rail → Rail) : (s.modRail n f).pipe = s.pipe := by rfl

@[simp] theorem pipe_modLinkJob (s : State) (f : LinkJob → LinkJob) : (s.modLinkJob f).pipe = s.pipe := by rfl

@[simp] theorem pipe_modSense (s : State) (f : Sense → Sense) : (s.modSense f).pipe = s.pipe := by rfl

@[simp] theorem pipe_modSched (s : State) (f : Sched → Sched) : (s.modSched f).pipe = s.pipe := by rfl

@[simp] theorem pipe_modLed (s : State) (x : Nat) (f : Ledger → Ledger) : (s.modLed x f).pipe = s.pipe := by rfl

@[simp] theorem pipe_modCtl (s : State) (f : Control → Control) : (s.modCtl f).pipe = s.pipe := by rfl

@[simp] theorem pipe_modTimer (s : State) (t : Nat) (f : Timer → Timer) : (s.modTimer t f).pipe = s.pipe := by rfl

@[simp] theorem pipe_modLink (s : State) (t : Transport) (f : Link → Link) : (s.modLink t f).pipe = s.pipe := by
  cases t <;> rfl

@[simp] theorem pipe_drawn (s : State) (k : Nat) : (s.drawn k).pipe = s.pipe := by rfl

@[simp] theorem pipe_flushCan (s : State) : (s.flushCan).pipe = s.pipe := by
  simp [State.flushCan]

@[simp] theorem pipe_pushReply (s : State) (tr : Transport) (r : Reply) : (s.pushReply tr r).pipe = s.pipe := by
  cases tr <;> simp [State.pushReply]

@[simp] theorem pipe_answer (s : State) (c : Ctx) (status : Nat) (pay : List Byte) : (s.answer c status pay).pipe = s.pipe := by
  simp [State.answer]

@[simp] theorem pipe_endOp (s : State) (opc num status : Nat) : (s.endOp opc num status).pipe = s.pipe := by rfl

@[simp] theorem pipe_askRecord (s : State) (cause arg : Nat) (origin time prev : Nat) (free : Bool) :
    (s.askRecord cause arg origin time prev free).pipe = s.pipe := by
  simp [State.askRecord]

@[simp] theorem pipe_raiseRec (s : State) (code arg : Nat) : (s.raiseRec code arg).pipe = s.pipe := by
  simp [State.raiseRec]

@[simp] theorem pipe_enter (s : State) (c : Ctl) : (s.enter c).pipe = s.pipe := by
  simp [State.enter]

@[simp] theorem pipe_dropPriv (s : State) (t : Transport) : (s.dropPriv t).pipe = s.pipe := by
  simp [State.dropPriv]

@[simp] theorem pipe_dropAllPriv (s : State) : (s.dropAllPriv).pipe = s.pipe := by
  simp [State.dropAllPriv]

/-! Sensing (R113 to R139). -/

@[simp] theorem pipe_captureBank (s : State) (inp : FrameIn) : (captureBank s inp).pipe = s.pipe := by
  simp [captureBank]

@[simp] theorem pipe_thermalS3 (inp : FrameIn) (k : Nat) (s : State) : (thermalS3 inp k s).pipe = s.pipe := by
  simp [thermalS3]

@[simp] theorem pipe_planSlots (s : State) : (planSlots s).pipe = s.pipe := by
  simp [planSlots]

@[simp] theorem pipe_freshPlanned (s : State) : (freshPlanned s).pipe = s.pipe := by rfl

/-! What the fleet job sends and keeps (R364 to R402). -/

@[simp] theorem pipe_flSend (q pr typ route dst : Nat) (pay : List Byte) (s : State) :
    (flSend q pr typ route dst pay s).pipe = s.pipe := by rfl

@[simp] theorem pipe_fwdDown (f : FFrame) (s : State) : (fwdDown f s).pipe = s.pipe := by
  simp [fwdDown]

@[simp] theorem pipe_sendTo (dst typ : Nat) (pay : List Byte) (s : State) : (sendTo dst typ pay s).pipe = s.pipe := by
  unfold sendTo; split <;> simp

@[simp] theorem pipe_sendUp (typ : Nat) (pay : List Byte) (s : State) : (sendUp typ pay s).pipe = s.pipe := by
  unfold sendUp; split <;> simp

@[simp] theorem pipe_broadcast (typ src : Nat) (pay : List Byte) (s : State) : (broadcast typ src pay s).pipe = s.pipe := by
  simp [broadcast]

@[simp] theorem pipe_fleetTell (cause : Nat) (s : State) : (fleetTell cause s).pipe = s.pipe := by rfl

@[simp] theorem pipe_fleetEnter (st : FlSt) (cause : Nat) (s : State) : (fleetEnter st cause s).pipe = s.pipe := by rfl

@[simp] theorem pipe_releaseBars (b : Nat) (s : State) : (releaseBars b s).pipe = s.pipe := by
  simp [releaseBars]

@[simp] theorem pipe_barrierTell (s : State) : (barrierTell s).pipe = s.pipe := by
  unfold barrierTell; dsimp only; (repeat' split) <;> simp

@[simp] theorem pipe_barrierStep (s : State) : (barrierStep s).pipe = s.pipe := by
  simp [barrierStep]

@[simp] theorem pipe_modOp (num : Nat) (f : Op → Op) (s : State) : (modOp num f s).pipe = s.pipe := by rfl

@[simp] theorem pipe_cmdReplied (opid : Nat) (pkt : List Byte) (s : State) : (cmdReplied opid pkt s).pipe = s.pipe := by
  unfold cmdReplied; split <;> simp

@[simp] theorem pipe_cmdStatused (opid unit status : Nat) (s : State) : (cmdStatused opid unit status s).pipe = s.pipe := by
  unfold cmdStatused; split <;> simp

@[simp] theorem pipe_answerOrigin (origin opid : Nat) (bcast : Bool) (pkt : List Byte) (s : State) :
    (answerOrigin origin opid bcast pkt s).pipe = s.pipe := by
  simp [answerOrigin]

@[simp] theorem pipe_flushInner (s : State) : (flushInner s).pipe = s.pipe := by
  unfold flushInner
  dsimp only
  rw [pipe_modFleet, pipe_foldl]
  · simp
  · intro t r
    split <;> simp

@[simp] theorem pipe_snapAdd (unit : Nat) (r : List Byte) (s : State) : (snapAdd unit r s).pipe = s.pipe := by
  obtain ⟨f, e⟩ := snapAdd_fleet unit r s
  rw [e, pipe_modFleet]

@[simp] theorem pipe_snapGive (fr who : Nat) (r : List Byte) (s : State) : (snapGive fr who r s).pipe = s.pipe := by
  unfold snapGive; (repeat' split) <;> simp

/-! The fleet job (R364 to R402). -/

@[simp] theorem pipe_fleetPorts (ins : List FleetIn) (s : State) : (fleetPorts ins s).pipe = s.pipe := by rfl

@[simp] theorem pipe_discipline (s : State) : (discipline s).pipe = s.pipe := by
  simp [discipline]

@[simp] theorem pipe_drainEvents (k : Nat) (s : State) : (drainEvents k s).pipe = s.pipe := by
  induction k generalizing s with
  | zero => rfl
  | succ k ih =>
    unfold drainEvents
    dsimp only
    split
    · split <;> simp [ih]
    · rfl

@[simp] theorem pipe_drainLost (s : State) : (drainLost s).pipe = s.pipe := by
  unfold drainLost; split <;> simp

@[simp] theorem pipe_answerSnaps (s : State) : (answerSnaps s).pipe = s.pipe := by
  unfold answerSnaps
  dsimp only
  rw [pipe_foldl]
  · simp
  · intro t r
    split <;> simp

@[simp] theorem pipe_joinShares (s : State) : (joinShares s).pipe = s.pipe := by
  simp [joinShares]

@[simp] theorem pipe_fleetAuthEnd (q res : Nat) (s : State) : (fleetAuthEnd q res s).pipe = s.pipe := by
  simp [fleetAuthEnd]

@[simp] theorem pipe_fleetCertAsk (q off : Nat) (s : State) : (fleetCertAsk q off s).pipe = s.pipe := by rfl

@[simp] theorem pipe_fleetAuthStart (q : Nat) (s : State) : (fleetAuthStart q s).pipe = s.pipe := by
  simp [fleetAuthStart]

@[simp] theorem pipe_authStep (s : State) : (authStep s).pipe = s.pipe := by
  simp [authStep]

@[simp] theorem pipe_fillEvents (s : State) : (fillEvents s).pipe = s.pipe := by rfl

@[simp] theorem pipe_fleetS4 (s : State) : (fleetS4 s).pipe = s.pipe := by
  simp [fleetS4]

/-! Lanes and phases (R176 to R202). -/

@[simp] theorem pipe_modShadow (s : State) (x : Nat) (f : ModSet → ModSet) : (s.modShadow x f).pipe = s.pipe := by rfl

@[simp] theorem pipe_phaseLow (s : State) (x : Nat) : (phaseLow s x).pipe = s.pipe := by rfl

@[simp] theorem pipe_lanePhasesLow (s : State) (n : Nat) : (lanePhasesLow s n).pipe = s.pipe := by
  simp [lanePhasesLow]

@[simp] theorem pipe_setLnen (n : Nat) (b : Bool) (s : State) : (setLnen n b s).pipe = s.pipe := by rfl

@[simp] theorem pipe_laneEnter (n : Nat) (st : LnSt) (cause : Option Nat) (s : State) : (laneEnter n st cause s).pipe = s.pipe := by
  simp [laneEnter]

@[simp] theorem pipe_laneRetry (n cause : Nat) (s : State) : (laneRetry n cause s).pipe = s.pipe := by
  simp [laneRetry]

@[simp] theorem pipe_softFail (n cause : Nat) (atOnce : Bool) (s : State) : (softFail n cause atOnce s).pipe = s.pipe := by
  simp [softFail]

@[simp] theorem pipe_laneOffNow (n : Nat) (cause : Option Nat) (s : State) : (laneOffNow n cause s).pipe = s.pipe := by
  simp [laneOffNow]

@[simp] theorem pipe_laneRamp (n cause : Nat) (s : State) : (laneRamp n cause s).pipe = s.pipe := by
  simp [laneRamp]

@[simp] theorem pipe_stopLane (n cause : Nat) (s : State) : (stopLane n cause s).pipe = s.pipe := by
  unfold stopLane; split <;> simp

@[simp] theorem pipe_laneRestart (j n : Nat) (s : State) : (laneRestart j n s).pipe = s.pipe := by
  unfold laneRestart; dsimp only; split <;> simp

@[simp] theorem pipe_phaseS2 (x : Nat) (s : State) : (phaseS2 x s).pipe = s.pipe := by rfl

@[simp] theorem pipe_laneS3 (n : Nat) (s : State) : (laneS3 n s).pipe = s.pipe := by
  simp [laneS3]

@[simp] theorem pipe_laneStart (n : Nat) (s : State) : (laneStart n s).pipe = s.pipe := by
  have h : (setLnen n true (laneEnter n .softstart none s)).pipe = s.pipe := by simp
  unfold laneStart
  dsimp only
  split <;> exact h

@[simp] theorem pipe_laneS4 (n : Nat) (s : State) : (laneS4 n s).pipe = s.pipe := by
  unfold laneS4; dsimp only; (repeat' split) <;> simp

@[simp] theorem pipe_clampEvent (n bound : Nat) (acted : Bool) (s : State) : (clampEvent n bound acted s).pipe = s.pipe := by
  simp [clampEvent]

@[simp] theorem pipe_laneS5 (n : Nat) (s : State) : (laneS5 n s).pipe = s.pipe := by
  simp [laneS5]

@[simp] theorem pipe_laneS6 (n : Nat) (s : State) : (laneS6 n s).pipe = s.pipe := by
  simp [laneS6]

@[simp] theorem pipe_laneS7 (n : Nat) (s : State) : (laneS7 n s).pipe = s.pipe := by
  simp [laneS7]

@[simp] theorem pipe_rampShares (s : State) (n : Nat) : (rampShares s n).pipe = s.pipe := by
  simp [rampShares]

@[simp] theorem pipe_stopDecision (s : State) (n : Nat) : (stopDecision s n).pipe = s.pipe := by
  simp [stopDecision]

/-! The modulators (R158 to R198). -/

@[simp] theorem pipe_retireTell (x cause : Nat) (s : State) : (retireTell x cause s).pipe = s.pipe := by
  simp [retireTell]

/-! The loss map (R204 to R223). -/

@[simp] theorem pipe_remap (s : State) : (remap s).pipe = s.pipe := by
  simp [remap]

@[simp] theorem pipe_keepMap (s : State) : (keepMap s).pipe = s.pipe := by rfl

@[simp] theorem pipe_redefault (n : Nat) (s : State) : (redefault n s).pipe = s.pipe := by rfl

/-! The scheduler and the ledger (R213 to R244). -/

@[simp] theorem pipe_heatStep (s : State) (n : Nat) : (heatStep s n).pipe = s.pipe := by
  simp [heatStep]

@[simp] theorem pipe_siteStep (s : State) : (siteStep s).pipe = s.pipe := by
  simp [siteStep]

@[simp] theorem pipe_setPlan (n : Nat) (p : Plan) (s : State) : (setPlan n p s).pipe = s.pipe := by rfl

@[simp] theorem pipe_dropProbe (n : Nat) (s : State) : (dropProbe n s).pipe = s.pipe := by
  unfold dropProbe; split <;> simp

@[simp] theorem pipe_probeWithdraw (n : Nat) (s : State) : (probeWithdraw n s).pipe = s.pipe := by
  simp [probeWithdraw]

@[simp] theorem pipe_planLane (s : State) (n : Nat) : (planLane s n).pipe = s.pipe := by
  unfold planLane; dsimp only; (repeat' split) <;> simp

@[simp] theorem pipe_schedPlan (s : State) : (schedPlan s).pipe = s.pipe := by
  simp [schedPlan]

@[simp] theorem pipe_laneS8 (n : Nat) (s : State) : (laneS8 n s).pipe = s.pipe := by
  unfold laneS8; dsimp only; (repeat' split) <;> simp

@[simp] theorem pipe_flashCount (s : State) : (flashCount s).pipe = s.pipe := by rfl

@[simp] theorem pipe_ledgerCount (s : State) (x : Nat) : (ledgerCount s x).pipe = s.pipe := by
  unfold ledgerCount; (repeat' split) <;> simp

/-! The input ports (R247 to R262, R574). -/

@[simp] theorem pipe_srcEnter (n : Nat) (st : SrcSt) (cause : Option Nat) (s : State) : (srcEnter n st cause s).pipe = s.pipe := by
  simp [srcEnter]

@[simp] theorem pipe_srcOpen (n : Nat) (s : State) : (srcOpen n s).pipe = s.pipe := by rfl

@[simp] theorem pipe_srcClose (n : Nat) (s : State) : (srcClose n s).pipe = s.pipe := by rfl

@[simp] theorem pipe_srcCloseDirect (n : Nat) (s : State) : (srcCloseDirect n s).pipe = s.pipe := by
  simp [srcCloseDirect]

@[simp] theorem pipe_srcOpenLater (n : Nat) (s : State) : (srcOpenLater n s).pipe = s.pipe := by
  simp [srcOpenLater]

@[simp] theorem pipe_srcRelease (n : Nat) (s : State) : (srcRelease n s).pipe = s.pipe := by
  simp [srcRelease]

@[simp] theorem pipe_srcRecover (n : Nat) (s : State) : (srcRecover n s).pipe = s.pipe := by
  simp [srcRecover]

@[simp] theorem pipe_srcTrip (n : Nat) (s : State) : (srcTrip n s).pipe = s.pipe := by
  simp [srcTrip]

@[simp] theorem pipe_dropSweepReqs (n : Nat) (s : State) : (dropSweepReqs n s).pipe = s.pipe := by rfl

@[simp] theorem pipe_sweepAbandon (n : Nat) (s : State) : (sweepAbandon n s).pipe = s.pipe := by
  unfold sweepAbandon; split <;> simp

@[simp] theorem pipe_sweepStart (n : Nat) (s : State) : (sweepStart n s).pipe = s.pipe := by rfl

@[simp] theorem pipe_sweepFrame (n : Nat) (w : Sweep) (s : State) : (sweepFrame n w s).pipe = s.pipe := by
  simp [sweepFrame]

@[simp] theorem pipe_pvS5 (n : Nat) (s : State) : (pvS5 n s).pipe = s.pipe := by
  delta pvS5
  extract_lets age s1 s2 p s3 P
  have h1 : s1.pipe = s.pipe := by simp [s1]
  clear_value s1
  have h2 : s2.pipe = s.pipe := by simp [s2, h1]
  clear_value s2
  have h3 : s3.pipe = s.pipe := by simp [s3, h2]
  clear_value s3
  (repeat' split) <;> simp [h2, h3]

@[simp] theorem pipe_icsStart (n : Nat) (s : State) : (icsStart n s).pipe = s.pipe := by rfl

@[simp] theorem pipe_icsStop (n : Nat) (s : State) : (icsStop n s).pipe = s.pipe := by rfl

@[simp] theorem pipe_dcS5 (n : Nat) (s : State) : (dcS5 n s).pipe = s.pipe := by
  delta dcS5
  extract_lets s1 p on s2 pw s3 s4 p' s5 s6
  have h1 : s1.pipe = s.pipe := by simp [s1]
  clear_value s1
  have h2 : s2.pipe = s.pipe := by simp [s2, h1]
  clear_value s2
  have h3 : s3.pipe = s.pipe := by unfold s3; split <;> simp [h2]
  clear_value s3
  have h4 : s4.pipe = s.pipe := by simp [s4, h3]
  clear_value s4
  have h5 : s5.pipe = s.pipe := by simp [s5, h4]
  clear_value s5
  have h6 : s6.pipe = s.pipe := by simp [s6, h5]
  clear_value s6
  simp [h1, h6]

@[simp] theorem pipe_srcS4 (n : Nat) (s : State) : (srcS4 n s).pipe = s.pipe := by
  unfold srcS4; dsimp only; (repeat' split) <;> simp

@[simp] theorem pipe_srcS5 (n : Nat) (s : State) : (srcS5 n s).pipe = s.pipe := by
  unfold srcS5; (repeat' split) <;> simp

@[simp] theorem pipe_srcS7 (n : Nat) (s : State) : (srcS7 n s).pipe = s.pipe := by
  simp [srcS7]

/-! The link (R263 to R279, R575). -/

@[simp] theorem pipe_keepLane (n : Nat) (s : State) : (keepLane n s).pipe = s.pipe := by
  unfold keepLane; split <;> simp

@[simp] theorem pipe_roleSwap (old target : Nat) (forced : Bool) (s : State) : (roleSwap old target forced s).pipe = s.pipe := by
  delta roleSwap
  extract_lets l dem s1 s2 s3 s4 s5 s6 s7 s8
  have h1 : s1.pipe = s.pipe := by simp [s1]
  clear_value s1
  have h2 : s2.pipe = s.pipe := by simp [s2, h1]
  clear_value s2
  have h3 : s3.pipe = s.pipe := by simp [s3, h2]
  clear_value s3
  have h4 : s4.pipe = s.pipe := by simp [s4, h2, h3]
  clear_value s4
  have h5 : s5.pipe = s.pipe := by simp [s5, h4]
  clear_value s5
  have h6 : s6.pipe = s.pipe := by unfold s6; split <;> simp [h5]
  clear_value s6
  have h7 : s7.pipe = s.pipe := by unfold s7; split <;> simp [h6]
  clear_value s7
  have h8 : s8.pipe = s.pipe := by simp [s8, h7]
  clear_value s8
  simp [h8]

@[simp] theorem pipe_seamBegin (target : Nat) (forced : Bool) (s : State) : (seamBegin target forced s).pipe = s.pipe := by
  simp [seamBegin]

@[simp] theorem pipe_seamFrame (s : State) : (seamFrame s).pipe = s.pipe := by
  unfold seamFrame; split <;> simp

@[simp] theorem pipe_linkS4 (s : State) : (linkS4 s).pipe = s.pipe := by
  unfold linkS4; dsimp only; (repeat' split) <;> simp

@[simp] theorem pipe_linkS5 (s : State) : (linkS5 s).pipe = s.pipe := by rfl

@[simp] theorem pipe_linkS6 (s : State) : (linkS6 s).pipe = s.pipe := by
  simp [linkS6]

@[simp] theorem pipe_linkS7 (s : State) : (linkS7 s).pipe = s.pipe := by rfl

@[simp] theorem pipe_linkLate (s : State) : (linkLate s).pipe = s.pipe := by
  unfold linkLate; (repeat' split) <;> simp

/-! What a partner port does (R321 to R353). -/

@[simp] theorem pipe_portEnter (p : Nat) (st : PtSt) (cause : Nat) (s : State) : (portEnter p st cause s).pipe = s.pipe := by
  simp [portEnter]

@[simp] theorem pipe_portOpEnd (p : Nat) (acts : List Nat) (status : Nat) (s : State) : (portOpEnd p acts status s).pipe = s.pipe := by
  simp [portOpEnd]

@[simp] theorem pipe_portPut (p : Nat) (m : PMsg) (s : State) : (portPut p m s).pipe = s.pipe := by rfl

@[simp] theorem pipe_portStart (p typ : Nat) (pay : List Byte) (s : State) : (portStart p typ pay s).pipe = s.pipe := by rfl

@[simp] theorem pipe_portSend (p typ : Nat) (pay : List Byte) (s : State) : (portSend p typ pay s).pipe = s.pipe := by
  simp [portSend]

@[simp] theorem pipe_portOpen (p : Nat) (s : State) : (portOpen p s).pipe = s.pipe := by rfl

@[simp] theorem pipe_portClose (p : Nat) (s : State) : (portClose p s).pipe = s.pipe := by rfl

@[simp] theorem pipe_portStop (p : Nat) (s : State) : (portStop p s).pipe = s.pipe := by
  unfold portStop; split <;> simp

@[simp] theorem pipe_sendCaps (p : Nat) (s : State) : (sendCaps p s).pipe = s.pipe := by
  simp [sendCaps]

@[simp] theorem pipe_negStart (p cause : Nat) (s : State) : (negStart p cause s).pipe = s.pipe := by
  simp [negStart]

@[simp] theorem pipe_sendWithdrawn (p : Nat) (s : State) : (sendWithdrawn p s).pipe = s.pipe := by
  simp [sendWithdrawn]

@[simp] theorem pipe_softBegin (p cause : Nat) (s : State) : (softBegin p cause s).pipe = s.pipe := by
  simp [softBegin]

@[simp] theorem pipe_softReset (p cause : Nat) (s : State) : (softReset p cause s).pipe = s.pipe := by
  unfold softReset; split <;> simp

/-! The packs (R284 to R314). -/

@[simp] theorem pipe_packRegion (p : Nat) (s : State) : (packRegion p s).pipe = s.pipe := by
  simp [packRegion]

@[simp] theorem pipe_anchor (p src soc : Nat) (s : State) : (anchor p src soc s).pipe = s.pipe := by rfl

@[simp] theorem pipe_setSoc (p : Nat) (s : State) : (setSoc p s).pipe = s.pipe := by
  unfold setSoc; (repeat' split) <;> simp

@[simp] theorem pipe_packS3 (p : Nat) (s : State) : (packS3 p s).pipe = s.pipe := by
  unfold packS3; dsimp only; (repeat' split) <;> simp

@[simp] theorem pipe_packLimits (p n : Nat) (s : State) : (packLimits p n s).pipe = s.pipe := by
  simp [packLimits]

@[simp] theorem pipe_testEnd (p code : Nat) (s : State) : (testEnd p code s).pipe = s.pipe := by
  simp [testEnd]

@[simp] theorem pipe_packEnter (p : Nat) (ph : PkPh) (cause : Option Nat) (s : State) : (packEnter p ph cause s).pipe = s.pipe := by
  simp [packEnter]

@[simp] theorem pipe_packOpen (p : Nat) (s : State) : (packOpen p s).pipe = s.pipe := by rfl

@[simp] theorem pipe_packDrop (p cause : Nat) (s : State) : (packDrop p cause s).pipe = s.pipe := by
  simp [packDrop]

@[simp] theorem pipe_packCheck (p : Nat) (s : State) : (packCheck p s).pipe = s.pipe := by
  unfold packCheck; dsimp only; split <;> simp

@[simp] theorem pipe_packMoves (p n : Nat) (s : State) : (packMoves p n s).pipe = s.pipe := by
  delta packMoves
  extract_lets k s1 s2 store s3 x
  have h1 : s1.pipe = s.pipe := by simp [s1]
  clear_value s1
  have h2 : s2.pipe = s.pipe := by simp [s2, h1]
  clear_value s2
  have h3 : s3.pipe = s.pipe := by simp [s3, h2]
  clear_value s3
  split <;> simp [h2, h3]

@[simp] theorem pipe_packEnd (p : Nat) (s : State) : (packEnd p s).pipe = s.pipe := by
  simp [packEnd]

@[simp] theorem pipe_packGone (p : Nat) (s : State) : (packGone p s).pipe = s.pipe := by
  simp [packGone]

@[simp] theorem pipe_packS4 (p : Nat) (s : State) : (packS4 p s).pipe = s.pipe := by
  unfold packS4; split <;> simp

@[simp] theorem pipe_packsS4 (s : State) : (packsS4 s).pipe = s.pipe := by
  simp [packsS4]

@[simp] theorem pipe_packsS3 (s : State) : (packsS3 s).pipe = s.pipe := by
  simp [packsS3]

@[simp] theorem pipe_packRemove (p cause : Nat) (s : State) : (packRemove p cause s).pipe = s.pipe := by
  unfold packRemove; split <;> simp

@[simp] theorem pipe_fallbackOn (s : State) : (fallbackOn s).pipe = s.pipe := by
  simp [fallbackOn]

@[simp] theorem pipe_fallbackOff (s : State) : (fallbackOff s).pipe = s.pipe := by
  simp [fallbackOff]

/-! The rails and the sequencer (R409 to R425). -/

@[simp] theorem pipe_stopAll (kind : Nat) (s : State) : (stopAll kind s).pipe = s.pipe :=
  (pipe_foldl pipe_phaseLow _ _).trans (pipe_foldl (fun t n => by split <;> simp) _ _)

@[simp] theorem pipe_enterRun (s : State) : (enterRun s).pipe = s.pipe := by
  simp [enterRun]

@[simp] theorem pipe_leaveSafe (s : State) : (leaveSafe s).pipe = s.pipe := by
  simp [leaveSafe]

@[simp] theorem pipe_followOpmode (s : State) : (followOpmode s).pipe = s.pipe := by
  unfold followOpmode; split <;> simp

@[simp] theorem pipe_wantHalt (cause : Nat) (s : State) : (wantHalt cause s).pipe = s.pipe := by
  simp [wantHalt]

@[simp] theorem pipe_setSeqen (n : Nat) (b : Bool) (s : State) : (setSeqen n b s).pipe = s.pipe := by rfl

@[simp] theorem pipe_seqEnter (st : SqSt) (s : State) : (seqEnter st s).pipe = s.pipe := by rfl

@[simp] theorem pipe_rstStep (s : State) : (rstStep s).pipe = s.pipe := by
  simp [rstStep]

@[simp] theorem pipe_groupStart (g : Nat) (s : State) : (groupStart g s).pipe = s.pipe := by
  simp [groupStart]

@[simp] theorem pipe_groupStop (g : Nat) (s : State) : (groupStop g s).pipe = s.pipe := by
  unfold groupStop
  rw [pipe_rstStep, pipe_foldl (fun t n => by split <;> simp), pipe_modSeq]

@[simp] theorem pipe_powerUp (s : State) : (powerUp s).pipe = s.pipe := by
  unfold powerUp; dsimp only; (repeat' split) <;> simp

@[simp] theorem pipe_seqRunning (s : State) : (seqRunning s).pipe = s.pipe := by rfl

@[simp] theorem pipe_groupCatch (s : State) : (groupCatch s).pipe = s.pipe := by
  unfold groupCatch; split <;> simp

@[simp] theorem pipe_railS4 (n : Nat) (s : State) : (railS4 n s).pipe = s.pipe := by rfl

@[simp] theorem pipe_seqS4 (s : State) : (seqS4 s).pipe = s.pipe := by
  unfold seqS4; dsimp only; (repeat' split) <;> simp

/-! Records, telemetry, energy and the trace (R459 to R470). -/

@[simp] theorem pipe_telStep (s : State) : (telStep s).pipe = s.pipe := by
  unfold telStep
  split
  · rfl
  · refine pipe_foldl (fun t c => ?_) _ _
    split
    · exact pipe_foldl (fun u w => pipe_modJobs rfl rfl) _ _
    · rfl

@[simp] theorem pipe_telDiscard (s : State) : (telDiscard s).pipe = s.pipe := by rfl

@[simp] theorem pipe_energyStep (s : State) : (energyStep s).pipe = s.pipe := by rfl

@[simp] theorem pipe_telemetryS8 (s : State) : (telemetryS8 s).pipe = s.pipe := by
  simp [telemetryS8]

/-! Protections and the watchdog (R432 to R444, R454). -/

@[simp] theorem pipe_retryOff (s : State) (n : Nat) : (retryOff s n).pipe = s.pipe := by
  simp [retryOff]

@[simp] theorem pipe_pulseStart (s : State) : (pulseStart s).pipe = s.pipe := by
  simp [pulseStart]

@[simp] theorem pipe_wdFault (cause el : Nat) (s : State) : (wdFault cause el s).pipe = s.pipe := by
  simp [wdFault]

@[simp] theorem pipe_wdComplete (s : State) : (wdComplete s).pipe = s.pipe := by
  simp [wdComplete]

@[simp] theorem pipe_wdBroken (key : Nat) (s : State) : (wdBroken key s).1.pipe = s.pipe := by
  simp [wdBroken]

@[simp] theorem pipe_wdService (s : State) : (wdService s).1.pipe = s.pipe := by
  unfold wdService; dsimp only; (repeat' split) <;> simp

@[simp] theorem pipe_wdKey (key : Nat) (s : State) : (wdKey key s).1.pipe = s.pipe := by
  unfold wdKey
  split
  · exact pipe_modSafe rfl
  · split
    · exact pipe_wdBroken _ _
    · split
      · rfl
      · exact pipe_wdService s

@[simp] theorem pipe_wdCheckin (task : Nat) (s : State) : (wdCheckin task s).1.pipe = s.pipe := by
  simp [wdCheckin]

@[simp] theorem pipe_wdCount (s : State) (w : WdWait) : (wdCount s w).pipe = s.pipe := by
  unfold wdCount
  dsimp only
  cases w.checkin <;> cases w.owed <;> simp

@[simp] theorem pipe_wdLater (s : State) : (wdLater s).pipe = s.pipe := by
  simp [wdLater]

@[simp] theorem pipe_wdFrame (s : State) : (wdFrame s).pipe = s.pipe := by
  simp [wdFrame]

@[simp] theorem pipe_enterSafe (s : State) : (enterSafe s).pipe = s.pipe := by
  simp [enterSafe]

@[simp] theorem pipe_commitSafe (s : State) : (commitSafe s).pipe = s.pipe := by
  simp [commitSafe]

/-! The configuration loaded (R527, R528). -/

@[simp] theorem pipe_selvedgeLoad (s : State) (e : Nat × ParamDef) : (selvedgeLoad s e).pipe = s.pipe := by
  simp [selvedgeLoad]

@[simp] theorem pipe_loadConfig (stored : List (Nat × Word)) (s : State) : (loadConfig stored s).pipe = s.pipe := by
  simp [loadConfig]

/-! The timers (R499 to R517). -/

@[simp] theorem pipe_sourceEvents (t n : Nat) (s : State) : (sourceEvents t n s).pipe = s.pipe := by
  simp [sourceEvents]

@[simp] theorem pipe_frameTicks (s : State) : (frameTicks s).pipe = s.pipe := by
  simp [frameTicks]

@[simp] theorem pipe_tmrAct (d : TmrDo) (k t : Nat) (s : State) : (tmrAct d k t s).pipe = s.pipe := by
  unfold tmrAct; split <;> simp

@[simp] theorem pipe_tmrReach (d : TmrDo) (k t : Nat) (s : State) : (tmrReach d k t s).pipe = s.pipe := by
  simp [tmrReach]

@[simp] theorem pipe_tmrStop (k t : Nat) (s : State) : (tmrStop k t s).pipe = s.pipe := by
  simp [tmrStop]

@[simp] theorem pipe_tmrShadow (t k v : Nat) (s : State) : (tmrShadow t k v s).pipe = s.pipe := by rfl

@[simp] theorem pipe_convPlanned (s : State) : (convPlanned s).pipe = s.pipe := by
  simp [convPlanned]

/-! Where parameter changes land (R64 to R72, R107 to R110, R145, R154). -/

@[simp] theorem pipe_setFraming (old new : Nat) (keep : Option (Transport × Option Nat)) (s : State) :
    (setFraming old new keep s).pipe = s.pipe := by
  simp [setFraming]

@[simp] theorem pipe_dropPhases (old s : State) : (dropPhases old s).pipe = s.pipe := by
  simp [dropPhases]

@[simp] theorem pipe_afterConfig (old s : State) : (afterConfig old s).pipe = s.pipe := by
  delta afterConfig
  extract_lets s1
  have h1 : s1.pipe = s.pipe := by simp [s1]
  clear_value s1
  simp [h1]

@[simp] theorem pipe_alterationsDue (s : State) : (alterationsDue s).pipe = s.pipe := by
  simp [alterationsDue]

@[simp] theorem pipe_factoryConfig (s : State) : (factoryConfig s).pipe = s.pipe := by
  simp [factoryConfig]

@[simp] theorem pipe_restoreTaken (s : State) : (restoreTaken s).pipe = s.pipe := by
  delta restoreTaken
  extract_lets s1 s2 x s3 s4 s5 x' s6 s7 x'' s8
  clear_value s1
  have h2 : s2.pipe = s.pipe := by simp [s2]
  clear_value s2
  have h3 : s3.pipe = s.pipe := by simp [s3, h2]
  clear_value s3
  have h4 : s4.pipe = s.pipe := by simp [s4, h3]
  clear_value s4
  have h5 : s5.pipe = s.pipe := by simp [s5, h4]
  clear_value s5
  have h6 : s6.pipe = s.pipe := by simp [s6, h5]
  clear_value s6
  have h7 : s7.pipe = s.pipe := by simp [s7, h6]
  clear_value s7
  have h8 : s8.pipe = s.pipe := by simp [s8, h7]
  clear_value s8
  simp [h8]

@[simp] theorem pipe_restoreDue (s : State) : (restoreDue s).pipe = s.pipe := by
  unfold restoreDue; dsimp only; (repeat' split) <;> simp

/-! Deferrable work (R230, R239). -/

@[simp] theorem pipe_grantItem (g : Nat × Nat) (s : State) : (grantItem g s).pipe = s.pipe := by
  unfold grantItem; split <;> simp

@[simp] theorem pipe_schedS4 (s : State) : (schedS4 s).pipe = s.pipe := by
  unfold schedS4; dsimp only; split <;> simp

/-! The partner ports (R320 to R360). -/

@[simp] theorem pipe_portPower (p cause : Nat) (s : State) : (portPower p cause s).pipe = s.pipe := by
  simp [portPower]

@[simp] theorem pipe_portDetachAs (p cause : Nat) (s : State) : (portDetachAs p cause s).pipe = s.pipe := by
  simp [portDetachAs]

@[simp] theorem pipe_putMarker (p : Nat) (s : State) : (putMarker p s).pipe = s.pipe := by
  simp [putMarker]

@[simp] theorem pipe_hardResetAs (p cause why : Nat) (s : State) : (hardResetAs p cause why s).pipe = s.pipe := by
  unfold hardResetAs; split <;> simp

@[simp] theorem pipe_hardReset (p cause : Nat) (s : State) : (hardReset p cause s).pipe = s.pipe := by
  simp [hardReset]

@[simp] theorem pipe_renegotiate (p cause : Nat) (s : State) : (renegotiate p cause s).pipe = s.pipe := by
  simp [renegotiate]

@[simp] theorem pipe_portWires (p : Nat) (s : State) : (portWires p s).pipe = s.pipe := by
  unfold portWires; dsimp only; (repeat' split) <;> simp

@[simp] theorem pipe_tellCaps (p : Nat) (s : State) : (tellCaps p s).pipe = s.pipe := by
  unfold tellCaps; split <;> simp

@[simp] theorem pipe_ctlMoved (p : Nat) (saw : Ctl) (s : State) : (ctlMoved p saw s).pipe = s.pipe := by
  unfold ctlMoved; split <;> simp

@[simp] theorem pipe_swapTaken (p : Nat) (s : State) : (swapTaken p s).pipe = s.pipe := by
  simp [swapTaken]

@[simp] theorem pipe_portS4 (p : Nat) (c : CfgIn) (s : State) : (portS4 p c s).pipe = s.pipe := by
  delta portS4
  extract_lets w t old begins s1 s2 s3 s4 s5 s6 t' moved nChanged s7 t'' s8
  have h1 : s1.pipe = s.pipe := by simp [s1]
  clear_value s1
  have h2 : s2.pipe = s.pipe := by simp [s2, h1]
  clear_value s2
  have h3 : s3.pipe = s.pipe := by simp [s3, h2]
  clear_value s3
  have h4 : s4.pipe = s.pipe := by simp [s4, h3]
  clear_value s4
  have h5 : s5.pipe = s.pipe := by simp [s5, h4]
  clear_value s5
  have h6 : s6.pipe = s.pipe := by simp [s6, h5]
  clear_value s6
  have h7 : s7.pipe = s.pipe := by simp [s7, h6]
  clear_value s7
  have h8 : s8.pipe = s.pipe := by simp [s8, h7]
  clear_value s8
  (repeat' split) <;> simp [h2, h8]

/-! The frame (R86 to R106). -/

@[simp] theorem pipe_linkBeat (was s : State) : (linkBeat was s).pipe = s.pipe := by
  simp [linkBeat]

@[simp] theorem pipe_seqStep (s : State) : (seqStep s).pipe = s.pipe := by
  simp [seqStep]

@[simp] theorem pipe_slotsStart (inp : FrameIn) (s : State) : (slotsStart inp s).pipe = s.pipe := by rfl

@[simp] theorem pipe_spoilWindows (s : State) : (spoilWindows s).pipe = s.pipe := by
  simp [spoilWindows]

@[simp] theorem pipe_dutyMeans (s : State) : (dutyMeans s).pipe = s.pipe := by rfl

@[simp] theorem pipe_limitsWere (s : State) : (limitsWere s).pipe = s.pipe := by rfl

@[simp] theorem pipe_phaseDue (s : State) (x : Nat) : (phaseDue s x).pipe = s.pipe := by
  unfold phaseDue; dsimp only; (repeat' split) <;> simp

@[simp] theorem pipe_clearSent (s : State) : (clearSent s).pipe = s.pipe := by rfl

@[simp] theorem pipe_countCut (j : Nat) (s : State) : (countCut j s).pipe = s.pipe := by
  unfold countCut; dsimp only; split <;> simp

@[simp] theorem pipe_failedLow (s : State) (n : Nat) : (failedLow s n).pipe = s.pipe := by
  simp [failedLow]

@[simp] theorem pipe_latchLane (s : State) (n : Nat) : (latchLane s n).pipe = s.pipe := by
  simp [latchLane]

end Sys2Proof.Machine
end

section
/-! The same for the frame as a whole (R86 to R106): what opens the outputs, the beats, the beginning of a frame and the seal. -/

namespace Sys2Proof.Machine

/-! The recovery of a job (R99), the seal (R102) and what is decided at the commit point (R443, R454). -/

@[simp] theorem pipe_dropLaunch (lid : Nat) (s : State) : (dropLaunch lid s).pipe = s.pipe := by rfl

@[simp] theorem pipe_fleetIsland (cause : Nat) (s : State) : (fleetIsland cause s).pipe = s.pipe := by
  simp [fleetIsland, cancelCritical, cancelLaunches]

@[simp] theorem pipe_recoverJob (j : Nat) (s : State) : (recoverJob j s).pipe = s.pipe := by
  simp [recoverJob]

@[simp] theorem pipe_sealFrame (s : State) : (sealFrame s).pipe = s.pipe :=
  pipe_foldl (f := fun s j => let s := countCut j s; if 3 ≤ (s.slot j).consec then recoverJob j s else s) (fun t j => by simp) _ _

/-- HALT opens every switch; the rest of the view stands (R454). -/
theorem core_enterHalt (cause : Nat) (s : State) : (enterHalt cause s).pipe.toPipeCore = s.pipe.toPipeCore := by
  delta enterHalt
  extract_lets prev s1 s2 s3 s4 s5 s6
  have h2 : s2.pipe = s.pipe := (pipe_foldl (fun t n => by split <;> simp) _ _).trans ((pipe_modCtl _ _).trans (pipe_enter s _))
  have h3 : s3.pipe.toPipeCore = s2.pipe.toPipeCore := rfl
  have h6 : s6.pipe = s3.pipe := by simp [s6, s5, s4]
  clear_value s2 s3 s6
  simp [h6, h3, h2]

theorem core_commitState (s : State) : (commitState s).pipe.toPipeCore = s.pipe.toPipeCore := by
  unfold commitState
  split
  · rfl
  · split
    · exact core_enterHalt _ s
    · simp

/-! SAFEn low opens the switches at once; the rest of the view stands (R434). -/

theorem core_switchesTrip (s : State) : (switchesTrip s).pipe.toPipeCore = s.pipe.toPipeCore := by
  have h : (switchesTrip s).pipe = (switchesOpen s).pipe := by simp [switchesTrip]
  rw [h]
  rfl

theorem core_safenHold (s : State) : (safenHold s).pipe.toPipeCore = s.pipe.toPipeCore := by
  unfold safenHold
  split
  · rfl
  · simp [core_switchesTrip]

/-- From s to t a frame's jobs have run, SAFEn being high or low: the outputs stand where neither this frame nor a level seen since the last
one has it low. -/
structure SameFrame (safen : Bool) (s t : State) : Prop where
  core : t.pipe.toPipeCore = s.pipe.toPipeCore
  high : safen = true → s.jobs.safe.sawLow = false → t.pipe = s.pipe

section
variable {safen : Bool}

theorem SameFrame.of_pipe {s t : State} (h : t.pipe = s.pipe) : SameFrame safen s t := ⟨by rw [h], fun _ _ => h⟩

theorem SameFrame.refl (s : State) : SameFrame safen s s := .of_pipe rfl

theorem SameFrame.trans {s t u : State} (h : SameFrame safen s t) (g : SameFrame safen t u) : SameFrame safen s u :=
  ⟨g.core.trans h.core, fun hi lo => (g.high hi ((congrArg PipeView.sawLow (h.high hi lo)).trans lo)).trans (h.high hi lo)⟩

theorem SameFrame.safetyS4 (s : State) : SameFrame safen s (safetyS4 safen s) := by
  unfold Machine.safetyS4
  extract_lets low lim s1 s2
  have h2 : SameFrame safen s s2 := by
    refine ⟨?_, fun hi lo => ?_⟩
    · unfold s2
      split
      · exact core_safenHold s1
      · rfl
    · have hlow : ¬ low = true := by simp [low, hi, lo]
      have e : s2 = s1 := if_neg hlow
      rw [e]
      exact pipe_modSafe lo.symm
  clear_value s2
  exact h2.trans (.of_pipe (by simp))

/-- S4 of the safety job alone looks at SAFEn (R434). -/
theorem SameFrame.jobStep (inp : FrameIn) (was : State) (j k : Nat) (s : State) : SameFrame inp.safen s (jobStep inp was j k s) := by
  unfold Machine.jobStep
  split
  case h_12 =>
    split
    · exact .safetyS4 s
    · exact .refl s
  all_goals exact .of_pipe (by simp)

theorem SameFrame.runBeats (inp : FrameIn) (s : State) : SameFrame inp.safen s (runBeats inp s) := by
  refine foldl_rel .refl .trans _ _ (fun was b => foldl_rel .refl .trans _ _ (fun z i => ?_) was) s
  dsimp only
  split
  · exact .refl z
  · split
    · exact .jobStep inp was _ _ z
    · exact .refl z

end

/-! The start of a frame (R95, R97, R111) and the commit point (R96). -/

/-- The next frame begins (R111). -/
theorem pipe_nextFrame {s : State} (hf : s.jobs.frm.fresh = false) (hr : s.fleet.renumber = none) :
    (nextFrame s).pipe = { s.pipe with frame := (s.pipe.frame + 1) % 2 ^ 52, age := s.pipe.age + 1, committed := false } := by
  have hr' : s.jobs.fleet.renumber = none := hr
  simp [nextFrame, State.pipe, State.frame, State.age, State.fleet, State.modFrm, State.modFleet, State.modJobs, hf, hr']

/-- The image that the guard has taken is published (R97). -/
theorem pipe_publish (s : State) : (publish s).pipe = { s.pipe with image := s.pipe.imgNext.getD s.pipe.image, imgNext := none } := rfl

theorem foldl_modTimer_jobs (l : List (Nat × Nat)) (f : Nat × Nat → Timer → Timer) (s : State) :
    (l.foldl (fun s g => s.modTimer g.1 (f g)) s).jobs = s.jobs := by
  induction l generalizing s with
  | nil => rfl
  | cons g l ih => exact ih (s.modTimer g.1 (f g))

/-- The plan of a frame's slots leaves the frame and the fleet job alone (R124). -/
theorem planSlots_jobs (s : State) : (planSlots s).jobs.frm = s.jobs.frm ∧ (planSlots s).jobs.fleet = s.jobs.fleet := by
  unfold planSlots
  extract_lets age p co slots s1
  have h : s1.jobs = s.jobs := by simp only [s1, foldl_modTimer_jobs]
  clear_value s1
  simp [h]

/-- The view of a frame that has begun, before its jobs (R95, R97, R111). -/
def PipeView.next (v : PipeView) : PipeView :=
  { v with frame := (v.frame + 1) % 2 ^ 52, age := v.age + 1, committed := false, image := v.imgNext.getD v.image, imgNext := none }

theorem pipe_begin {s : State} (hf : s.jobs.frm.fresh = false) (hr : s.fleet.renumber = none) :
    (publish (nextFrame (planSlots s))).pipe = s.pipe.next := by
  obtain ⟨e1, e2⟩ := planSlots_jobs s
  have hp := pipe_planSlots s
  generalize planSlots s = z at e1 e2 hp ⊢
  rw [pipe_publish, pipe_nextFrame (s := z) (by rw [e1]; exact hf) (by rw [State.fleet, e2]; exact hr), hp]
  rfl

/-- From a frame that begins to the end of its start only jobs have run (R92, R95). -/
theorem frameStart_sameFrame {s : State} (hl : s.live = true) (hc : s.jobs.frm.committed = true) (hr : s.ctl.resetReq = none) (inp : FrameIn) :
    ∃ t, exec (.frameStart inp) s = .next t ∧ SameFrame inp.safen (publish (nextFrame (planSlots s))) t := by
  change ∃ t, execFrameStart inp s = .next t ∧ _
  unfold execFrameStart
  refine ⟨_, rfl, ?_⟩
  rw [if_neg (by simp [hl, hc]), hr]
  dsimp -zeta only
  extract_lets s1 s2 s3 s4 s5 tm s6 s7 r s8
  have h3 : s3.pipe = s1.pipe := by simp [s3, s2]
  have h5 : s5.pipe = s3.pipe := by simp [s5, s4]
  have h6 : s6.pipe = s5.pipe := by simp [s6]
  have h8 : s8.pipe = s6.pipe := by simp [s8, s7]
  clear_value s3 s5 s6 s8
  refine (SameFrame.of_pipe ?_).trans ((SameFrame.runBeats inp (wdFrame (spoilWindows s8))).trans (.of_pipe (by simp)))
  simp [h8, h6, h5, h3, s1]

end Sys2Proof.Machine
end

section
/-! The start of a frame, cut-offs, recoveries and the commit point (R95 to R106). -/

namespace Sys2Proof.Machine

/-! The start of a frame. -/

/-- The start of a frame after a commit, with nothing that takes its place (R95, R111). -/
theorem frameStart_begins {s : State} (inp : FrameIn) (hl : s.live = true) (hc : s.jobs.frm.committed = true) (hf : s.jobs.frm.fresh = false)
    (hr : s.ctl.resetReq = none) (hn : s.fleet.renumber = none) :
    ∃ t, exec (.frameStart inp) s = .next t ∧ t.pipe.toPipeCore = s.pipe.next.toPipeCore ∧
      (inp.safen = true → s.jobs.safe.sawLow = false → t.outs = s.outs) := by
  obtain ⟨t, e, h⟩ := frameStart_sameFrame hl hc hr inp
  have hb := pipe_begin hf hn
  generalize publish (nextFrame (planSlots s)) = y at h hb
  refine ⟨t, e, h.core.trans (congrArg PipeView.toPipeCore hb), fun hi lo => ?_⟩
  exact congrArg PipeView.outs ((h.high hi ((congrArg PipeView.sawLow hb).trans lo)).trans hb)

/-! A cut-off (R93, R99, R103). -/

/-- A slot with its cut-off at stage k counted. -/
def Slot.cutCounted (x : Slot) (k : Nat) : Slot := { x with counted := true, cut := k - 1, ovr := incSat 32 x.ovr, consec := x.consec + 1 }

/-- The state with the cut-off of slot j counted. -/
def cutTaken (j k : Nat) (s : State) : State :=
  (s.modSlot j (Slot.cutCounted · k)).modFrm fun f => { f with ovrTotal := incSat 32 f.ovrTotal }

theorem countCut_eq {s : State} {j k : Nat} (hk : (s.slot j).cutNow = some k) (hn : (s.slot j).counted = false) :
    countCut j s = if (s.slot j).held then cutTaken j k s else (cutTaken j k s).raise Ev.JOB_OVERRUN (j * 2 ^ 8 + k) := by
  simp only [countCut, hk, hn]
  rfl

theorem slot_in_frame {s : State} {j k : Nat} (hk : (s.slot j).cutNow = some k) : j < s.jobs.frm.slots.length :=
  getD_ne_default (d := ({} : Slot)) fun h => by rw [State.slot, h] at hk; cases hk

theorem cutTaken_slot {s : State} {j : Nat} (hj : j < s.jobs.frm.slots.length) (k : Nat) :
    (cutTaken j k s).slot j = (s.slot j).cutCounted k := State.slot_modSlot_self hj _

theorem cutTaken_slot_ne {s : State} {i j : Nat} (h : i ≠ j) (k : Nat) : (cutTaken j k s).slot i = s.slot i := State.slot_modSlot_ne h _

theorem stepCutOff_counted {s : State} {j st : Nat} (hl : s.live = true) (hc : s.jobs.frm.committed = false)
    (hk : (s.slot j).cutNow = some st) (hn : (s.slot j).counted = false) :
    ∃ t, exec (.stepCutOff j st) s = .next t ∧ t.slot j = (s.slot j).cutCounted st ∧ (∀ k, k ≠ j → t.slot k = s.slot k) ∧
      t.jobs.frm.ovrTotal = incSat 32 s.jobs.frm.ovrTotal ∧ t.jobs.lanes = s.jobs.lanes ∧
      ((s.slot j).held = false → Told s t Ev.JOB_OVERRUN (j * 2 ^ 8 + st)) ∧ ((s.slot j).held = true → t.host = s.host) := by
  have hj := slot_in_frame hk
  have e : exec (.stepCutOff j st) s = .next (countCut j s) := by
    change execStepCutOff j st s = _
    simp [execStepCutOff, hl, hc, hk]
  rw [e, countCut_eq hk hn]
  cases hh : (s.slot j).held
  · exact ⟨_, rfl, cutTaken_slot hj st, fun k hne => cutTaken_slot_ne hne st, rfl, rfl, fun _ => rfl, fun h => by cases h⟩
  · exact ⟨_, rfl, cutTaken_slot hj st, fun k hne => cutTaken_slot_ne hne st, rfl, rfl, fun h => (by cases h), fun _ => rfl⟩

/-! The recovery of a job (R99). -/

theorem LaneStep.laneRamp (n cause : Nat) (s : State) : LaneStep s (Machine.laneRamp n cause s) := (LaneStep.modLane s n _).trans (.laneEnter n _ _ _)

theorem LaneStep.softFailLate (n cause : Nat) (s : State) : LaneStep s (Machine.softFail n cause false s) :=
  (((LaneStep.modLane s n _).trans (.setLnen _ n false)).trans (.laneRetry n cause _)).trans (.raise _ _ _)

theorem LaneStep.laneRestart (j n : Nat) (s : State) : LaneStep s (Machine.laneRestart j n s) := by
  have ramp : LaneStep s ((Machine.laneRamp n 3 s).modLane n fun l => { l with restart := some j }) :=
    (LaneStep.laneRamp n 3 s).trans (.modLane _ n _)
  unfold Machine.laneRestart
  dsimp only
  split
  case h_1 | h_2 => exact ramp
  case h_3 =>
    split
    · exact .softFailLate n 3 s
    · exact ramp
  case h_4 => exact .modLane s n _
  case h_5 | h_6 | h_7 => exact .refl s

theorem laneRamp_lane {s : State} {n : Nat} (hn : n < s.jobs.lanes.length) (cause : Nat) : ((laneRamp n cause s).lane n).st = .rampdown := by
  unfold laneRamp laneEnter
  dsimp only
  have h (f g : Lane → Lane) (hg : ∀ l, (g l).st = .rampdown) : (((s.modLane n f).modLane n g).lane n).st = .rampdown := by
    rw [State.lane_modLane_self (by rw [State.modLane, State.modJobs, modAt_length]; exact hn), hg]
  split
  · exact h _ _ fun _ => rfl
  · split
    · exact h _ _ fun _ => rfl
    · exact h _ _ fun _ => rfl

/-- From s to t what a recovery does beside its lanes: the frame and the lanes stand. -/
structure BesideLanes (s t : State) : Prop where
  frm : t.jobs.frm = s.jobs.frm
  lanes : t.jobs.lanes = s.jobs.lanes
  events : KeepsEvents s t

theorem BesideLanes.refl (s : State) : BesideLanes s s := ⟨rfl, rfl, .refl s⟩

theorem PortStep.besideLanes {s t : State} (h : PortStep s t) : BesideLanes s t := ⟨by rw [h.eq], by rw [h.eq], h.events⟩

theorem FleetStep.besideLanes {s t : State} (h : FleetStep s t) : BesideLanes s t := ⟨by rw [h.eq], by rw [h.eq], h.events⟩

theorem PortStep.srcRecover (n : Nat) (s : State) : PortStep s (srcRecover n s) := by
  unfold Machine.srcRecover
  split
  · exact .refl s
  · exact (PortStep.srcEnter n _ _ s).trans ⟨rfl, .of_host rfl⟩

theorem FleetStep.modFleet (s : State) (f : Fleet → Fleet) : FleetStep s (s.modFleet f) := ⟨rfl, .of_host rfl⟩

theorem FleetStep.fleetIsland (cause : Nat) (s : State) : FleetStep s (fleetIsland cause s) := by
  unfold Machine.fleetIsland fleetEnter fleetTell
  exact ((((FleetStep.modFleet s _).trans (.modFleet _ _)).trans (.modFleet _ _)).trans (.raise _ _ _)).trans (.cancelLaunches _ 2 _)

theorem BesideLanes.telDiscard (s : State) : BesideLanes s (telDiscard s) := ⟨rfl, rfl, .of_host rfl⟩

theorem raise_fleetSt (s : State) (c a : Nat) : (s.raise c a).fleet.st = s.fleet.st := by
  change (s.jobs.fleet.passUp _ _ _ _ _).st = s.jobs.fleet.st
  unfold Fleet.passUp
  split <;> rfl

theorem cancelLaunches_fleetSt (p : Tide → Bool) (cause : Nat) (s : State) : (cancelLaunches p cause s).fleet.st = s.fleet.st := by
  unfold cancelLaunches
  refine foldl_rel (R := fun s t : State => t.fleet.st = s.fleet.st) (fun _ => rfl) (fun h g => g.trans h) _ _ (fun t l => ?_) s
  exact raise_fleetSt (dropLaunch l.lid t) _ _

/-- A member that loses its parent's time is ISLANDED (R387). -/
theorem fleetIsland_st (cause : Nat) (s : State) : (fleetIsland cause s).fleet.st = .islanded := by
  unfold fleetIsland cancelCritical fleetEnter fleetTell
  rw [cancelLaunches_fleetSt, raise_fleetSt]
  rfl

theorem slot_of_consec {s : State} {j : Nat} (h : 3 ≤ (s.slot j).consec) : j < s.jobs.frm.slots.length :=
  getD_ne_default (d := ({} : Slot)) fun hd => by rw [State.slot, hd] at h; exact absurd h (by decide)

/-- A slot that has been recovered. -/
def Slot.recovered (x : Slot) : Slot := { x with consec := 0, recov := incSat 16 x.recov }

/-- An event with its record leaves the jobs but the fleet's alone, and telBad with them. -/
theorem raiseRec_jobs (s : State) (c a : Nat) : (s.raiseRec c a).jobs.frm = s.jobs.frm ∧ (s.raiseRec c a).jobs.lanes = s.jobs.lanes ∧
    (s.raiseRec c a).telBad = s.telBad ∧ (s.raiseRec c a).fleet.st = s.fleet.st := by
  obtain ⟨r, e⟩ := s.raiseRec_eq c a
  rw [e]
  exact ⟨rfl, rfl, rfl, raise_fleetSt s c a⟩

theorem Tells.raiseRec (s : State) (c a : Nat) : Tells s (s.raiseRec c a) c a := by
  obtain ⟨r, e⟩ := s.raiseRec_eq c a
  rw [e]
  exact (Tells.raise s c a).mono (.of_host rfl)

/-- The ACTION that JOB_RECOVERY tells for slot j (R99, R103). -/
def recoveryAction (s : State) (j : Nat) : Nat :=
  if slotKind s j = 10 then 3 else if slotKind s j = 12 then 4 else if slotKind s j = 3 && (recoveryLanes s j).isEmpty then 2 else 1

/-- What a recovery with an action does once its lanes are restarted (R99). -/
def recoverBeside (j act : Nat) (s : State) : State :=
  if act = 2 then srcRecover (slotJob s.ident.big j).2 s else if act = 3 then (if s.fleet.st = .member then fleetIsland 5 s else s)
  else if act = 4 then telDiscard s else s

/-- The recovery of slot j but for what it tells. -/
def jobRecovered (j : Nat) (s : State) : State :=
  recoverBeside j (recoveryAction s j) ((recoveryLanes s j).foldl (fun s n => laneRestart j n s) (s.modSlot j Slot.recovered))

/-- The argument of its JOB_RECOVERY (R103). -/
def recoveryArg (j : Nat) (s : State) : Nat :=
  maskOf ((recoveryLanes s j).filter fun n => ((jobRecovered j s).lane n).st == .rampdown) * 2 ^ 24 + j * 2 ^ 8 + recoveryAction s j

theorem recoverJob_eq (j : Nat) (s : State) : recoverJob j s = (jobRecovered j s).raiseRec Ev.JOB_RECOVERY (recoveryArg j s) := rfl

theorem BesideLanes.recoverBeside (j act : Nat) (s : State) : BesideLanes s (recoverBeside j act s) := by
  unfold Machine.recoverBeside
  split
  · exact (PortStep.srcRecover _ s).besideLanes
  · split
    · split
      · exact (FleetStep.fleetIsland 5 s).besideLanes
      · exact .refl s
    · split
      · exact .telDiscard s
      · exact .refl s

/-- Whatever the job, its recovery is counted in its own slot and forgets no event. -/
theorem jobRecovered_counted (j : Nat) (s : State) :
    (jobRecovered j s).jobs.frm = (s.modSlot j Slot.recovered).jobs.frm ∧ KeepsEvents s (jobRecovered j s) := by
  have lanes (z : State) : LaneStep z ((recoveryLanes s j).foldl (fun s n => laneRestart j n s) z) :=
    foldl_rel .refl .trans _ _ (fun z n => .laneRestart j n z) z
  have beside := BesideLanes.recoverBeside j (recoveryAction s j)
    ((recoveryLanes s j).foldl (fun s n => laneRestart j n s) (s.modSlot j Slot.recovered))
  refine ⟨beside.frm.trans (by rw [(lanes _).eq]), .trans (.of_host rfl) ((lanes (s.modSlot j Slot.recovered)).events.trans beside.events)⟩

/-- A KIND above the input ports' is that of the slot's job (R89, R91). -/
theorem slotJob_of_kind {s : State} {j k : Nat} (hk : 3 < k) (h : slotKind s j = k) : ∃ x, slotJob s.ident.big j = (k, x) := by
  unfold slotKind at h
  generalize slotJob s.ident.big j = p at h ⊢
  split at h
  case h_4 => exact ⟨_, by rw [h]⟩
  all_goals split at h <;> omega

/-- Neither the fleet's job nor telemetry's has a lane (R99). -/
theorem recoveryLanes_none {s : State} {j : Nat} (h : slotKind s j = 10 ∨ slotKind s j = 12) : recoveryLanes s j = [] := by
  obtain ⟨x, e⟩ | ⟨x, e⟩ := h.imp (slotJob_of_kind (by decide)) (slotJob_of_kind (by decide)) <;> simp [recoveryLanes, e]

/-- The telemetry job discards its windows (R99, ACTION 4). -/
theorem jobRecovered_telemetry {s : State} {j : Nat} (h : slotKind s j = 12) :
    recoveryAction s j = 4 ∧ jobRecovered j s = telDiscard (s.modSlot j Slot.recovered) := by
  have ha : recoveryAction s j = 4 := by simp [recoveryAction, h]
  refine ⟨ha, ?_⟩
  rw [jobRecovered, recoveryLanes_none (.inr h), ha]
  rfl

/-- The fleet job of a member islands it (R99, ACTION 3). -/
theorem jobRecovered_fleet {s : State} {j : Nat} (h : slotKind s j = 10) (hm : s.fleet.st = .member) :
    jobRecovered j s = fleetIsland 5 (s.modSlot j Slot.recovered) := by
  have ha : recoveryAction s j = 3 := by simp [recoveryAction, h]
  rw [jobRecovered, recoveryLanes_none (.inl h), ha]
  exact if_pos hm

/-- A lane job's recovery restarts its lane and does nothing beside (R99, ACTION 1). -/
theorem jobRecovered_lane {s : State} {j n : Nat} (h : slotJob s.ident.big j = (2, n)) :
    jobRecovered j s = laneRestart j n (s.modSlot j Slot.recovered) := by
  have hl : recoveryLanes s j = [n] := by simp [recoveryLanes, h]
  have ha : recoveryAction s j = 1 := by
    have hk : slotKind s j = if lnUsed s n then 2 else 0 := by simp only [slotKind, h]
    rw [recoveryAction, hk, hl]
    split <;> rfl
  rw [jobRecovered, hl, ha]
  rfl

/-- A running lane that is restarted ramps down, its restart marked with the slot (R99, R100). -/
theorem laneRestart_run {s : State} {n : Nat} (hn : n < s.jobs.lanes.length) (h : (s.lane n).st = .run) (j : Nat) :
    ((laneRestart j n s).lane n).st = .rampdown ∧ ((laneRestart j n s).lane n).restart = some j := by
  have e : laneRestart j n s = (laneRamp n 3 s).modLane n fun l => { l with restart := some j } := by
    simp only [laneRestart, h]
  have hlen : n < (laneRamp n 3 s).jobs.lanes.length := getD_ne_default (d := ({} : Lane)) fun hd => by
    have hst := laneRamp_lane hn 3
    rw [State.lane, hd] at hst
    cases hst
  rw [e, State.lane_modLane_self hlen]
  exact ⟨laneRamp_lane hn 3, rfl⟩

/-- A recovery is counted in its slot and told; in lanes, windows and fleet state it leaves what its steps have left (R99, R103). -/
theorem jobRecovery_told {s : State} {j : Nat} (hl : s.live = true) (hc : s.jobs.frm.committed = false) (hj : j < nSlots s)
    (h3 : 3 ≤ (s.slot j).consec) : ∃ t, exec (.jobRecovery j) s = .next t ∧ t.slot j = (s.slot j).recovered ∧
      Tells s t Ev.JOB_RECOVERY (recoveryArg j s) ∧ t.jobs.lanes = (jobRecovered j s).jobs.lanes ∧ t.telBad = (jobRecovered j s).telBad ∧
      t.fleet.st = (jobRecovered j s).fleet.st := by
  have e : exec (.jobRecovery j) s = .next (recoverJob j s) := by
    change execJobRecovery j s = _
    simp [execJobRecovery, hl, hc, hj, h3]
  obtain ⟨hfrm, hkeep⟩ := jobRecovered_counted j s
  obtain ⟨rfrm, rlanes, rtel, rfleet⟩ := raiseRec_jobs (jobRecovered j s) Ev.JOB_RECOVERY (recoveryArg j s)
  rw [recoverJob_eq] at e
  refine ⟨_, e, ?_, .of_keeps hkeep (.raiseRec (jobRecovered j s) _ _), rlanes, rtel, rfleet⟩
  rw [State.slot, rfrm, hfrm]
  exact State.slot_modSlot_self (slot_of_consec h3) _

/-! The commit point (R96, R97). -/

/-- A row of the trace raises TRACE_TRIGGERED at most (R468, R469). -/
theorem traceGuard_onlyEvents (s : State) : OnlyEvents s (traceGuard s) := by
  have trig (l : List TrRow) (r : TrRow) : OnlyEvents s (traceTrigger l r s) :=
    OnlyEvents.trans (t := { s with trace := _ }) rfl (.raise _ _ _)
  unfold traceGuard
  dsimp only
  split
  · split
    · exact trig _ _
    · rfl
  · split
    · rfl
    · exact .refl s

/-- The guard marks the commit point and takes the read image; outputs, shadow, counter and the image in force stand (R97). -/
theorem guard_fields (s : State) : (guard_ s).jobs.frm = { s.jobs.frm with committed := true } ∧ (guard_ s).outs = s.outs ∧
    (guard_ s).shadow = s.shadow ∧ (guard_ s).host.stitched = s.host.stitched ∧ (guard_ s).image = s.image ∧
    (guard_ s).imgNext.isSome = true := by
  unfold guard_ withNewImage
  dsimp only
  generalize hz : recordsGuard _ = z
  have e := traceGuard_onlyEvents z
  unfold OnlyEvents at e
  rw [e, ← hz]
  exact ⟨rfl, rfl, rfl, rfl, rfl, rfl⟩

/-- The enable and switch outputs take what is issued (R96). -/
theorem transfer_outs (s : State) : (transfer s).outs = { s.outs with
      lnen := (issued s).lnen, swin := (issued s).swin, swpp := (issued s).swpp, swlink := (issued s).swlink, seqen := (issued s).seqen } ∧
    (transfer s).shadow = s.shadow ∧ (transfer s).jobs.frm = s.jobs.frm ∧ (transfer s).image = s.image :=
  ⟨rfl, rfl, rfl, rfl⟩

/-- What is issued: the shadow, with every switch open in the first two frames (R88). -/
theorem issued_enables (s : State) : (issued s).lnen = s.shadow.lnen ∧ (issued s).seqen = s.shadow.seqen := by
  unfold issued
  split <;> exact ⟨rfl, rfl⟩

theorem issued_later {s : State} (h : 2 ≤ s.age) : issued s = s.shadow := if_neg (Nat.not_lt.mpr h)

theorem issued_first {s : State} (h : s.age < 2) :
    (issued s).swin = rep 4 false ∧ (issued s).swpp = rep 4 false ∧ (issued s).swlink = false := by
  rw [issued, if_pos h]
  exact ⟨rfl, rfl, rfl⟩

/-- The commit point transfers and guards a state in which the counter, the age and the image in force stand (R88, R96). -/
theorem commitPoint_transfers {s : State} (hl : s.live = true) (hc : s.jobs.frm.committed = false) (hf : s.jobs.frm.fresh = false) :
    ∃ z, exec .commitPoint s = .next (guard_ ((transfer z).modHost fun h => { h with stitched := [] })) ∧
      z.pipe.toPipeCore = s.pipe.toPipeCore := by
  change ∃ z, execCommitPoint s = _ ∧ _
  generalize ho : execCommitPoint s = o
  unfold execCommitPoint at ho
  rw [if_neg (by simp [hl, hc, hf])] at ho
  extract_lets s1 s2 s3 s4 at ho
  refine ⟨s4, ho.symm, ?_⟩
  have h1 : s1.pipe.toPipeCore = s.pipe.toPipeCore := (core_commitState _).trans (congrArg _ (pipe_sealFrame s))
  have h2 : s2.pipe = s1.pipe := by simp [s2]
  have h3 : s3.pipe = s2.pipe := by simp [s3]
  have h4 : s4.pipe = s3.pipe := by simp [s4]
  rw [h4, h3, h2, h1]

/-- What the commit point leaves: the outputs as issued from a state of the same age, the mark, and the images (R88, R96, R97). -/
theorem commitPoint_issues {s : State} (hl : s.live = true) (hc : s.jobs.frm.committed = false) (hf : s.jobs.frm.fresh = false) :
    ∃ z t : State, exec .commitPoint s = .next t ∧ z.age = s.age ∧ t.outs = { z.outs with
        lnen := (issued z).lnen, swin := (issued z).swin, swpp := (issued z).swpp, swlink := (issued z).swlink, seqen := (issued z).seqen } ∧
      t.shadow = z.shadow ∧ t.jobs.frm.committed = true ∧ t.host.stitched = [] ∧ t.frame = s.frame ∧ t.image = s.image ∧
      t.imgNext.isSome = true := by
  obtain ⟨z, e, hcore⟩ := commitPoint_transfers hl hc hf
  obtain ⟨houts, hsh, hfrm, himg⟩ := transfer_outs z
  obtain ⟨gfrm, gouts, gsh, gst, gimg, gnext⟩ := guard_fields ((transfer z).modHost fun h => { h with stitched := [] })
  refine ⟨z, _, e, congrArg PipeCore.age hcore, gouts.trans houts, gsh.trans hsh, by rw [gfrm], gst, ?_, ?_, gnext⟩
  · rw [State.frame, gfrm]
    exact (congrArg Frame.frame hfrm).trans (congrArg PipeCore.frame hcore)
  · exact (gimg.trans himg).trans (congrArg PipeCore.image hcore)

end Sys2Proof.Machine

open Sys2Proof Sys2Proof.Machine

/-- Settles O8: the start of a frame and the commit point by the view that every job keeps (frameStart_begins, commitPoint_issues), a cut-off
and a recovery by the slot that counts them. -/
theorem frameAndOverrunRows : Obligations.FrameAndOverrunRows := by
  intro s
  refine ⟨?start, ?cutOff, ?recovery, ?commit, ?discipline⟩
  case start =>
    intro inp hl hc hf hr hn
    obtain ⟨t, e, hcore, hout⟩ := frameStart_begins inp hl hc hf hr hn
    exact ⟨t, e, congrArg PipeCore.frame hcore, congrArg PipeCore.age hcore, congrArg PipeCore.committed hcore, congrArg PipeCore.otp hcore,
      congrArg PipeCore.image hcore, congrArg PipeCore.imgNext hcore, hout⟩
  case cutOff =>
    intro j st hl hc hk hn
    obtain ⟨t, e, hj, hother, hovr, hlanes, htold, hheld⟩ := stepCutOff_counted hl hc hk hn
    exact ⟨t, e, by rw [hj]; rfl, by rw [hj]; rfl, by rw [hj]; rfl, by rw [hj]; rfl, hovr, hlanes, htold, hheld, hother⟩
  case recovery =>
    intro j hl hc hj h3
    obtain ⟨t, e, hslot, htells, hlanes, htel, hfleet⟩ := jobRecovery_told hl hc hj h3
    refine ⟨t, recoveryArg j s, e, by rw [hslot]; rfl, by rw [hslot]; rfl, htells, fun hk => ?_, fun hk hm => ?_, fun n hk hst hn => ?_⟩
    · obtain ⟨ha, hr⟩ := jobRecovered_telemetry hk
      refine ⟨by simp [recoveryArg, recoveryLanes_none (.inr hk), ha, maskOf], ?_, ?_⟩
      · rw [htel, hr]; rfl
      · rw [hlanes, hr]; rfl
    · have hr := jobRecovered_fleet hk hm
      refine ⟨by rw [hfleet, hr, fleetIsland_st], ?_⟩
      rw [hlanes, hr]
      exact (FleetStep.fleetIsland 5 (s.modSlot j Slot.recovered)).besideLanes.lanes
    · have hlane : t.lane n = (laneRestart j n (s.modSlot j Slot.recovered)).lane n := by
        rw [State.lane, hlanes, jobRecovered_lane hk]
        rfl
      rw [hlane]
      exact laneRestart_run (s := s.modSlot j Slot.recovered) hn hst j
  case commit =>
    intro hl hc hf
    obtain ⟨z, t, e, hage, houts, hsh, hcom, hst, hframe, himg, hnext⟩ := commitPoint_issues hl hc hf
    refine ⟨t, e, hcom, ?_, ?_, fun h2 => ?_, fun h2 => ?_, hst, hframe, himg, hnext⟩
    · rw [houts, hsh]
      exact (issued_enables z).1
    · rw [houts, hsh]
      exact (issued_enables z).2
    · rw [houts, hsh, issued_later (by omega)]
      exact ⟨rfl, rfl, rfl⟩
    · rw [houts]
      exact issued_first (by omega)
  case discipline =>
    intro hl hs hr
    refine ⟨(s.modFrm fun f => { f with satTold := true }).raise Ev.DISCIPLINE_LIMIT s.jobs.frm.satRun, ?_, rfl, rfl, rfl, rfl⟩
    change execDisciplineLimit s = _
    simp [execDisciplineLimit, hl, hs, hr]
end

section
/-! What entering a state does to a lane and leaves to the others (R183, R184, R202). -/

namespace Sys2Proof.Machine

/-- From s to t no lane but n has moved. -/
structure LaneAlone (n : Nat) (s t : State) : Prop where
  length : t.jobs.lanes.length = s.jobs.lanes.length
  others : ∀ m, m ≠ n → t.lane m = s.lane m

/-- What entering state z with cause c makes of a lane: what its wait, its attempts and LNENn were stands. -/
structure LaneEntered (z : LnSt) (c : Nat) (l l' : Lane) : Prop where
  st : l'.st = z
  cause : l'.cause = c
  lnen : l'.lnen = l.lnen
  attempt : l'.attempt = l.attempt
  retries : l'.retries = l.retries
  wait : z = .retry → l'.retryLeft = l.retryLeft
  started : z = .softstart → l'.started = false

variable {s t u : State} {n : Nat}

theorem LaneAlone.of_lanes (h : t.jobs.lanes = s.jobs.lanes) : LaneAlone n s t :=
  ⟨by rw [h], fun m _ => by rw [State.lane, State.lane, h]⟩

theorem LaneAlone.trans (h : LaneAlone n s t) (g : LaneAlone n t u) : LaneAlone n s u :=
  ⟨g.length.trans h.length, fun m hm => (g.others m hm).trans (h.others m hm)⟩

theorem LaneAlone.modLane (n : Nat) (s : State) (f : Lane → Lane) : LaneAlone n s (s.modLane n f) :=
  ⟨modAt_length _ _ _, fun _ hm => State.lane_modLane_ne hm f⟩

theorem LaneAlone.setLnen (n : Nat) (b : Bool) (s : State) : LaneAlone n s (setLnen n b s) :=
  (LaneAlone.modLane n s _).trans (.of_lanes rfl)

/-- A lane out of OFF is in the list. -/
theorem lane_in_list (h : (s.lane n).st ≠ .off) : n < s.jobs.lanes.length :=
  getD_ne_default (d := ({} : Lane)) fun hd => h (by rw [State.lane, hd])

theorem lane_setLnen (h : n < s.jobs.lanes.length) (b : Bool) :
    (setLnen n b s).lane n = { s.lane n with lnen := b, enFor := if b then some 0 else none } :=
  State.lane_modLane_self h _

/-- Entering a state moves the lane, and LANE_STATE tells it but within one state or between RUN and SLACK. -/
theorem laneEnter_cases (n : Nat) (st : LnSt) (cause : Option Nat) (s : State) :
    ∃ f : Lane → Lane, (∀ l, LaneEntered st (cause.getD (s.lane n).cause) l (f l)) ∧
      (((s.lane n).st = st ∨ (st.flows && (s.lane n).st.flows) = true) ∧ laneEnter n st cause s = s.modLane n f ∨
        laneEnter n st cause s =
          (s.modLane n f).raise Ev.LANE_STATE (n * 2 ^ 8 + cause.getD (s.lane n).cause * 2 ^ 4 + st.code)) := by
  unfold laneEnter
  dsimp only
  apply Exists.intro
  refine ⟨?entered, ?moved⟩
  case moved =>
    split
    next h => exact .inl ⟨.inl h, rfl⟩
    next =>
      split
      next h => exact .inl ⟨.inr h, rfl⟩
      next => exact .inr rfl
  case entered => exact fun l => ⟨rfl, rfl, rfl, rfl, rfl, fun h => if_pos h, fun h => if_pos h⟩

theorem LaneAlone.laneEnter (n : Nat) (st : LnSt) (cause : Option Nat) (s : State) : LaneAlone n s (laneEnter n st cause s) := by
  obtain ⟨f, -, ⟨-, e⟩ | e⟩ := laneEnter_cases n st cause s <;> rw [e]
  · exact .modLane n s f
  · exact (LaneAlone.modLane n s f).trans (.of_lanes rfl)

theorem laneEnter_lane (hn : n < s.jobs.lanes.length) (st : LnSt) (cause : Option Nat) :
    LaneEntered st (cause.getD (s.lane n).cause) (s.lane n) ((laneEnter n st cause s).lane n) := by
  obtain ⟨f, hf, ⟨-, e⟩ | e⟩ := laneEnter_cases n st cause s <;> rw [e]
  · rw [State.lane_modLane_self hn]
    exact hf _
  · rw [(State.raise_items _ _ _ n).1, State.lane_modLane_self hn]
    exact hf _

theorem laneEnter_told {st : LnSt} (hs : (s.lane n).st ≠ st) (hf : (st.flows && (s.lane n).st.flows) = false) (cause : Option Nat) :
    Told s (laneEnter n st cause s) Ev.LANE_STATE (n * 2 ^ 8 + cause.getD (s.lane n).cause * 2 ^ 4 + st.code) := by
  obtain ⟨f, -, ⟨h, -⟩ | e⟩ := laneEnter_cases n st cause s
  · rw [hf] at h
    exact absurd h (by simp [hs])
  · rw [e]
    rfl

/-- RAMPDOWN entered with a cause from a state in which the lane drives. -/
theorem laneRamp_spec (hs : (s.lane n).st = .run ∨ (s.lane n).st = .slack) (cause : Nat) :
    ((laneRamp n cause s).lane n).st = .rampdown ∧ ((laneRamp n cause s).lane n).cause = cause ∧
      Told s (laneRamp n cause s) Ev.LANE_STATE (n * 2 ^ 8 + cause * 2 ^ 4 + 5) ∧ LaneAlone n s (laneRamp n cause s) := by
  have hn : n < s.jobs.lanes.length := lane_in_list fun h => by simp [h] at hs
  let z := s.modLane n fun l => { l with restart := none }
  have alone : LaneAlone n s z := .modLane n s _
  have hz : (z.lane n).st ≠ .rampdown := by
    rw [State.lane_modLane_self hn]
    rcases hs with h | h <;> simp [h]
  have h := laneEnter_lane (alone.length.symm ▸ hn) .rampdown (some cause)
  exact ⟨laneRamp_lane hn cause, h.cause, laneEnter_told hz rfl (some cause), alone.trans (.laneEnter n .rampdown _ z)⟩

/-- SOFTSTART entered from QUALIFY, with LNENn wanted high. -/
theorem laneStart_spec (hs : (s.lane n).st = .qualify) :
    ((laneStart n s).lane n).st = .softstart ∧ ((laneStart n s).lane n).lnen = true ∧ ((laneStart n s).lane n).enFor = some 0 ∧
      ((laneStart n s).lane n).started = false ∧
      Told s (laneStart n s) Ev.LANE_STATE (n * 2 ^ 8 + (s.lane n).cause * 2 ^ 4 + 2) ∧ LaneAlone n s (laneStart n s) := by
  have hn : n < s.jobs.lanes.length := lane_in_list (by simp [hs])
  let y := laneEnter n .softstart none s
  let z := setLnen n true y
  have alone : LaneAlone n s y := .laneEnter n .softstart none s
  have hz : (laneStart n s).jobs.lanes = z.jobs.lanes ∧ (laneStart n s).host = z.host := by
    unfold laneStart
    dsimp only
    split <;> exact ⟨rfl, rfl⟩
  obtain ⟨hlanes, hhost⟩ := hz
  have hl : (laneStart n s).lane n = z.lane n := by rw [State.lane, State.lane, hlanes]
  have told : Told s y _ _ := laneEnter_told (by simp [hs]) rfl none
  have h := laneEnter_lane hn .softstart none
  rw [hl, lane_setLnen (alone.length.symm ▸ hn)]
  exact ⟨h.st, rfl, rfl, h.started rfl, hhost.trans told, alone.trans ((LaneAlone.setLnen n true y).trans (.of_lanes hlanes))⟩

/-- RETRY entered from a soft-start that has failed at its time limit, its outputs to go low at the coming commit. -/
theorem softFail_spec (hn : n < s.jobs.lanes.length) (cause : Nat) :
    ((softFail n cause false s).lane n).st = .retry ∧ ((softFail n cause false s).lane n).cause = cause ∧
      ((softFail n cause false s).lane n).lnen = false ∧ ((softFail n cause false s).lane n).retries = incSat 32 (s.lane n).retries ∧
      ((softFail n cause false s).lane n).attempt = (s.lane n).attempt + 1 ∧
      ((softFail n cause false s).lane n).retryLeft = retryWait ((s.lane n).attempt + 1) ∧ LaneAlone n s (softFail n cause false s) := by
  let x := s.modLane n fun l => { l with lowAt := true }
  let y := setLnen n false x
  let z := y.modLane n fun l => { l with
    retries := incSat 32 l.retries, attempt := l.attempt + 1, retryLeft := retryWait (l.attempt + 1), stopped := false, restart := none }
  have hx : LaneAlone n s x := .modLane n s _
  have hy : LaneAlone n s y := hx.trans (.setLnen n false x)
  have hz : LaneAlone n s z := hy.trans (.modLane n y _)
  have lx : x.lane n = { s.lane n with lowAt := true } := State.lane_modLane_self hn _
  have ly : y.lane n = { x.lane n with lnen := false, enFor := none } := lane_setLnen (hx.length.symm ▸ hn) false
  have lz : z.lane n = { y.lane n with
      retries := incSat 32 (y.lane n).retries, attempt := (y.lane n).attempt + 1, retryLeft := retryWait ((y.lane n).attempt + 1)
      stopped := false, restart := none } := State.lane_modLane_self (hy.length.symm ▸ hn) _
  have h := laneEnter_lane (hz.length.symm ▸ hn) .retry (some cause)
  rw [ly, lx] at lz
  rw [lz] at h
  exact ⟨h.st, h.cause, h.lnen, h.retries, h.attempt, h.wait rfl,
    (hz.trans (.laneEnter n .retry (some cause) z)).trans (.of_lanes rfl)⟩

theorem lanePhasesEnd_lanes (s : State) (n : Nat) : (lanePhasesEnd s n).jobs.lanes = s.jobs.lanes := by
  unfold lanePhasesEnd
  exact foldl_rel (R := fun s t : State => t.jobs.lanes = s.jobs.lanes) (fun _ => rfl) (fun h g => Eq.trans g h) _ _ (fun _ _ => by rfl) s

/-- OFF entered from a RAMPDOWN that is over, its cause standing and LNENn low. -/
theorem rampdownEnd_spec (hn : n < s.jobs.lanes.length) :
    let t := laneEnter n .off none (setLnen n false (lanePhasesEnd s n))
    (t.lane n).st = .off ∧ (t.lane n).cause = (s.lane n).cause ∧ (t.lane n).lnen = false ∧ LaneAlone n s t := by
  intro t
  have he : LaneAlone n s (lanePhasesEnd s n) := .of_lanes (lanePhasesEnd_lanes s n)
  have hz := he.trans (.setLnen n false (lanePhasesEnd s n))
  have hl : (lanePhasesEnd s n).lane n = s.lane n := by rw [State.lane, State.lane, lanePhasesEnd_lanes]
  have h := laneEnter_lane (hz.length.symm ▸ hn) .off none
  rw [lane_setLnen (he.length.symm ▸ hn), hl] at h
  exact ⟨h.st, h.cause, h.lnen, hz.trans (.laneEnter n .off none _)⟩

end Sys2Proof.Machine

open Sys2Proof Sys2Proof.Machine

/-- Settles O11: each command passes its guard, and the state it enters is told of its lane alone (laneEnter_lane, laneEnter_told). -/
theorem laneStateRows : Obligations.LaneStateRows := by
  intro s n hu
  refine ⟨?qualified, ?phasesStart, ?softDone, ?softFailed, ?idle, ?ratio, ?rampDone, ?retry, ?backoff⟩
  case qualified =>
    intro hs hok
    obtain ⟨hst, hen, hfor, hstarted, told, alone⟩ := laneStart_spec hs
    refine ⟨laneStart n s, ?_, hst, hen, hfor, hstarted, told, alone.others⟩
    change execLaneQualified n s = _
    simp [execLaneQualified, hu, hs, hok]
  case phasesStart =>
    intro hs hstarted hlead
    have hn : n < s.jobs.lanes.length := lane_in_list (by simp [hs])
    refine ⟨s.modLane n fun l => { l with started := true, ramp := 0 }, ?_, State.lane_modLane_self hn _, rfl,
      (LaneAlone.modLane n s _).others⟩
    change execSoftstartPhasesStart n s = _
    simp [execSoftstartPhasesStart, hu, hs, hstarted, hlead]
  case softDone =>
    intro hs hok
    have hn : n < s.jobs.lanes.length := lane_in_list (by simp [hs])
    let st : LnSt := if (s.lane n).u = 0 ∧ par s gLN n LN.SLACK_EN = 1 then .slack else .run
    let z := laneEnter n st none s
    have alone : LaneAlone n s z := .laneEnter n st none s
    have h := laneEnter_lane hn st none
    have told := laneEnter_told (s := s) (n := n) (st := st) (by rw [hs]; simp only [st]; split <;> simp) (by simp [hs, LnSt.flows]) none
    have hl := State.lane_modLane_self (s := z) (alone.length.symm ▸ hn) fun l => { l with restart := none }
    refine ⟨z.modLane n fun l => { l with restart := none }, ?_, ?_, ?_, ?_, (alone.trans (.modLane n z _)).others⟩
    · change execSoftstartDone n s = _
      simp [execSoftstartDone, hu, hs, hok, z, st]
    · rw [hl]
      exact h.st
    · rw [hl]
    · rw [hl]
      exact h.st ▸ told
  case softFailed =>
    intro hs htime
    obtain ⟨hst, hcause, hen, hretries, hattempt, hwait, alone⟩ := softFail_spec (lane_in_list (s := s) (n := n) (by simp [hs])) 1
    refine ⟨softFail n 1 false s, ?_, hst, hcause, hen, hretries, hattempt, hwait, alone.others⟩
    change execSoftstartFailed n s = _
    simp [execSoftstartFailed, hu, hs, htime]
  case idle =>
    intro hs hslack h0 hidle
    obtain ⟨hst, hcause, told, alone⟩ := laneRamp_spec (.inl hs) 8
    refine ⟨laneRamp n 8 s, ?_, hst, hcause, told, alone.others⟩
    change execLaneIdleOff n s = _
    simp [execLaneIdleOff, hu, hs, hslack, h0, hidle]
  case ratio =>
    intro hs hratio
    obtain ⟨hst, hcause, told, alone⟩ := laneRamp_spec hs 4
    refine ⟨laneRamp n 4 s, ?_, hst, hcause, told, alone.others⟩
    have hf : (s.lane n).st.flows = true := by rcases hs with h | h <;> rw [h] <;> rfl
    change execRatioFault n s = _
    simp [execRatioFault, hu, hf, hratio]
  case rampDone =>
    intro hs hover
    obtain ⟨hst, hcause, hen, alone⟩ := rampdownEnd_spec (lane_in_list (s := s) (n := n) (by simp [hs]))
    refine ⟨_, ?_, hst, hcause, hen, alone.others⟩
    change execRampdownDone n s = _
    simp [execRampdownDone, hu, hs, hover]
  case retry =>
    intro hs hwait hheld
    have h := laneEnter_lane (lane_in_list (s := s) (n := n) (by simp [hs])) .qualify none
    refine ⟨laneEnter n .qualify none s, ?_, h.st, h.attempt, laneEnter_told (by simp [hs]) rfl none,
      (LaneAlone.laneEnter n .qualify none s).others⟩
    change execRetryElapsed n s = _
    simp [execRetryElapsed, hu, hs, hwait, hheld]
  case backoff =>
    intro hs hup
    have hn : n < s.jobs.lanes.length := lane_in_list fun h => by simp [h] at hs
    have hf : (s.lane n).st.flows = true := by rcases hs with h | h <;> rw [h] <;> rfl
    refine ⟨s.modLane n fun l => { l with attempt := 0 }, ?_, State.lane_modLane_self hn _, rfl, (LaneAlone.modLane n s _).others⟩
    change execRetryBackoffReset n s = _
    simp [execRetryBackoffReset, hu, hf, hup]
end

section
/-! The counterexample to O12: two pack lanes on one partner port, which R22 keeps out of every stitch and no hypothesis excludes. -/

namespace Sys2Proof.Machine

/-- Lanes 0 and 1 are both pack lanes of PP0, whose pack is in session; lane 1 runs with LNEN1 high. -/
def sharedPackPort : State :=
  ((((((State.reset.setPar gLN 0 LN.KIND 3).setPar gLN 0 LN.PORT 0).setPar gLN 1 LN.KIND 3).setPar gLN 1 LN.PORT 0).modPack 0
    fun k => { k with ph := .cc }).modLane 1 fun l => { l with st := .run, lnen := true })

/-- The pack in session leaves the stop to its removal (R310, R311), which takes the first lane of the port OFF: LNEN1 stays high. -/
theorem sharedPackPort_bwStop :
    (match exec (.bwStop 1 1000000000) sharedPackPort with | .next t => (t.lane 1).lnen | _ => false) = true := by
  decide +kernel

end Sys2Proof.Machine

open Sys2Proof Sys2Proof.Machine

/-- Refutes O12: an overvoltage on the second of two pack lanes of one port, its pack in session, leaves that lane's LNENn high. -/
theorem not_breakwaterStopRows : ¬ Obligations.BreakwaterStopRows := by
  intro h
  obtain ⟨-, stop, -, -⟩ := h sharedPackPort 1 (by decide +kernel) rfl rfl
  obtain ⟨t, ht, hlow, -⟩ := stop 1000000000 (.inl (by decide +kernel)) (.inl rfl)
  have hhigh := sharedPackPort_bwStop
  rw [ht] at hhigh
  simp [hlow] at hhigh
end

section
/-! Folds over phases that each touch their own phase: what one of them is left with. -/

namespace Sys2Proof.Machine

/-- A fold over distinct items, where every step but that of x keeps R: R leads from the start to the step of x, and from there to the end. -/
theorem foldl_at {α β : Type} {R : β → β → Prop} (r : ∀ s, R s s) (tr : ∀ {s t u}, R s t → R t u → R s u) {f : β → α → β} {x : α} {l : List α}
    (h : ∀ s y, y ≠ x → R s (f s y)) (hl : l.Nodup) (hx : x ∈ l) (s : β) : ∃ a, R s a ∧ R (f a x) (l.foldl f s) := by
  obtain ⟨l₁, l₂, rfl⟩ := List.append_of_mem hx
  have hne : ∀ y ∈ l₁ ++ l₂, y ≠ x := by
    rintro y hy rfl
    exact (List.nodup_middle.mp hl).notMem hy
  rw [List.foldl_append, List.foldl_cons]
  have keeps (b c : β) (hb : R b c) (l : List α) (hl : ∀ y ∈ l, y ≠ x) : R b (l.foldl f c) :=
    List.foldlRecOn l f hb fun d hd y hy => tr hd (h d y (hl y hy))
  exact ⟨l₁.foldl f s, keeps s s (r s) l₁ fun y hy => hne y (List.mem_append_left _ hy),
    keeps _ _ (r _) l₂ fun y hy => hne y (List.mem_append_right _ hy)⟩

theorem nodup_those (n : Nat) (p : Nat → Bool) : (those n p).Nodup := List.nodup_range.filter _

theorem mem_those {n x : Nat} {p : Nat → Bool} : x ∈ those n p ↔ x < n ∧ p x = true := by simp [those]

theorem nPh_le (s : State) : nPh s ≤ 16 := by
  unfold nPh
  split <;> omega

end Sys2Proof.Machine
end

section
/-! What the breakwater, a retirement and the end of a shed do to a phase (R188, R190, R194). -/

namespace Sys2Proof.Machine

theorem Modulator.endHigh_limited (c : Int) (m : Modulator) : (m.endHigh c).limited = true := by
  unfold Modulator.endHigh
  split
  · rfl
  · split <;> rfl

theorem Modulator.endHigh_hiWin {m : Modulator} {a b c : Int} (h : m.hiWin = some (a, b)) (ha : a < c) (hb : c < b) :
    (m.endHigh c).hiWin = some (a, c) := by
  simp [Modulator.endHigh, h, Int.not_le.mpr hb, ha]

theorem Modulator.endLow_loWin {m : Modulator} {a b c : Int} (h : m.loWin = some (a, b)) (ha : a < c) (hb : c < b) :
    (m.endLow c).loWin = some (a, c) := by
  simp [Modulator.endLow, h, ha, min_eq_right hb.le]

variable {s : State} {x : Nat}

theorem phaseLow_mod (h : x < s.mods.length) : (phaseLow s x).mod x = (s.mod x).low := State.mod_modMod_self h _

theorem phaseLow_phase (h : x < s.jobs.phases.length) : (phaseLow s x).phase x =
    { s.phase x with st := if (s.phase x).st = .active then .shed else (s.phase x).st, shedding := none, share := 0 } :=
  State.phase_modPhase_self h _

/-- Every other phase stands, its modulator too. -/
theorem phaseLow_others (s : State) (x : Nat) {y : Nat} (h : y ≠ x) : (phaseLow s x).phase y = s.phase y ∧ (phaseLow s x).mod y = s.mod y :=
  ⟨State.phase_modPhase_ne h _, State.mod_modMod_ne h _⟩

/-- What the link-overvoltage LIMIT does to the modulator of a phase (R190). -/
def Modulator.linkLimited (m : Modulator) : Modulator := { m with linkLow := true, limited := true, hiWin := none, loWin := none }

/-- The LIMIT on one phase: its modulator, and at most the learning windows of the lanes. -/
theorem linkLowNow_eq (s : State) (x : Nat) :
    ∃ l, linkLowNow s x = { s with mods := modAt s.mods x Modulator.linkLimited, jobs := { s.jobs with lanes := l } } := by
  unfold linkLowNow
  dsimp only
  split
  · unfold limitSpoils
    split <;> exact ⟨_, rfl⟩
  · exact ⟨_, rfl⟩

/-- From s to t the modulators are as many, and that of phase x stands. -/
def ModStands (x : Nat) (s t : State) : Prop := t.mods.length = s.mods.length ∧ t.mod x = s.mod x

/-- Every phase of a list of distinct phases is limited. -/
theorem linkLowNow_all {l : List Nat} (hl : l.Nodup) (hx : x ∈ l) (h : x < s.mods.length) :
    (l.foldl linkLowNow s).mod x = (s.mod x).linkLimited := by
  have others (s : State) (y : Nat) (hy : y ≠ x) : ModStands x s (linkLowNow s y) := by
    obtain ⟨l, e⟩ := linkLowNow_eq s y
    rw [e]
    exact ⟨modAt_length _ _ _, modAt_getD_ne hy.symm _ _ _⟩
  obtain ⟨a, ⟨hlen, ha⟩, -, hend⟩ := foldl_at (R := ModStands x) (fun _ => ⟨rfl, rfl⟩)
    (fun h g => ⟨g.1.trans h.1, g.2.trans h.2⟩) others hl hx s
  obtain ⟨l, e⟩ := linkLowNow_eq a x
  rw [hend, e, ← ha]
  exact modAt_getD_self (hlen.symm ▸ h) _ _

/-- The LIMIT leaves the host side, the outputs and its own mark alone. -/
theorem linkLowNow_fold_fields (l : List Nat) (s : State) : (l.foldl linkLowNow s).host = s.host ∧ (l.foldl linkLowNow s).outs = s.outs ∧
    (l.foldl linkLowNow s).linkOver = s.linkOver :=
  foldl_rel (R := fun s t => t.host = s.host ∧ t.outs = s.outs ∧ t.linkOver = s.linkOver) (fun _ => ⟨rfl, rfl, rfl⟩)
    (fun ⟨h1, h2, h3⟩ ⟨g1, g2, g3⟩ => ⟨g1.trans h1, g2.trans h2, g3.trans h3⟩) _ _
    (fun s y => by
      obtain ⟨l, e⟩ := linkLowNow_eq s y
      rw [e]
      exact ⟨rfl, rfl, rfl⟩) s

/-- Phase x as the frame after its failure marks it, before the retirement is told (R194). -/
def retireMarked (x : Nat) (s : State) : State :=
  (s.modMod x fun m => { m with failed := none }).modPhase x fun p => { p with newRet := true }

theorem retireMarked_phase (hp : x < s.jobs.phases.length) : (retireMarked x s).phase x = { s.phase x with newRet := true } :=
  State.phase_modPhase_self hp _

/-- The retirement told is PHASE_RETIRED with its record and, for a WORN phase, PHASE_WORN behind it (R194, R195). -/
theorem retireTell_eq (hp : x < s.jobs.phases.length) (k : Nat) : ∃ y : State,
    (∃ r, y = { (retireMarked x s).raise Ev.PHASE_RETIRED (retiredIn24h s x * 2 ^ 16 + x * 2 ^ 8 + k) with records := r }) ∧
      retireTell x k s = if (s.phase x).st = .worn then y.raise Ev.PHASE_WORN x else y := by
  obtain ⟨r, hr⟩ := State.raiseRec_eq (retireMarked x s) Ev.PHASE_RETIRED (retiredIn24h s x * 2 ^ 16 + x * 2 ^ 8 + k)
  refine ⟨_, ⟨r, hr⟩, ?_⟩
  have hst : (((retireMarked x s).raiseRec Ev.PHASE_RETIRED (retiredIn24h s x * 2 ^ 16 + x * 2 ^ 8 + k)).phase x).st = (s.phase x).st := by
    rw [hr]
    exact (congrArg Phase.st (retireMarked_phase hp)).trans rfl
  rw [← hst]
  rfl

theorem retireTell_told (hm : x < s.mods.length) (hp : x < s.jobs.phases.length) (k : Nat) :
    ((retireTell x k s).mod x).failed = none ∧ (retireTell x k s).phase x = { s.phase x with newRet := true } ∧
      Tells s (retireTell x k s) Ev.PHASE_RETIRED (retiredIn24h s x * 2 ^ 16 + x * 2 ^ 8 + k) ∧
      ((s.phase x).st = .worn → Tells s (retireTell x k s) Ev.PHASE_WORN x) ∧ (retireTell x k s).jobs.lanes = s.jobs.lanes ∧
      (retireTell x k s).outs = s.outs ∧ ∀ y, y ≠ x → (retireTell x k s).phase y = s.phase y ∧ (retireTell x k s).mod y = s.mod y := by
  obtain ⟨y, ⟨r, rfl⟩, e⟩ := retireTell_eq hp k
  have marked : KeepsEvents s (retireMarked x s) := .of_host rfl
  have hmod : ((retireMarked x s).mod x).failed = none :=
    (congrArg Modulator.failed (State.mod_modMod_self hm fun m => { m with failed := none })).trans rfl
  have others (j : Nat) (hj : j ≠ x) : (retireMarked x s).phase j = s.phase j ∧ (retireMarked x s).mod j = s.mod j :=
    ⟨State.phase_modPhase_ne hj _, State.mod_modMod_ne hj _⟩
  rw [e]
  split
  next hw =>
    exact ⟨hmod, retireMarked_phase hp, .of_keeps marked ((Tells.raise _ _ _).mono (.raise _ _ _)),
      fun _ => .of_keeps (marked.trans (.raise _ _ _)) (.raise _ _ _), rfl, rfl, others⟩
  next hw => exact ⟨hmod, retireMarked_phase hp, .of_keeps marked (.raise _ _ _), fun h => absurd h hw, rfl, rfl, others⟩

end Sys2Proof.Machine

open Sys2Proof Sys2Proof.Machine

/-- Settles O13: each command by what its action makes of the phase. -/
theorem phaseRows : Obligations.PhaseRows := by
  intro s x hm hp _
  refine ⟨?peak, ?noPeak, ?above, ?below, ?retired, ?shed⟩
  case peak =>
    intro n c cur neg hx hlane hsw hc hcur hneg
    let high := portLow s n == neg
    let act (m : Modulator) : Modulator := if high then m.endHigh c else m.endLow c
    let t := ((s.modMod x act).modPhase x fun p => { p with bwCount := incSat 32 p.bwCount }).modLane n fun l => { l with winBad := true }
    have hmod : t.mod x = act (s.mod x) := State.mod_modMod_self (hm ▸ hx) act
    have hphase : t.phase x = { s.phase x with bwCount := incSat 32 (s.phase x).bwCount } := State.phase_modPhase_self (hp ▸ hx) _
    refine ⟨t, ?_, ?_, ?_, ?_, by rw [hphase], rfl, rfl, fun y hy => ⟨State.phase_modPhase_ne hy _, State.mod_modMod_ne hy _⟩⟩
    · change execPhasePeakLimit x ⟨cur, c⟩ s = _
      simp [execPhasePeakLimit, hlane, hsw, hc, hcur, t, act, high, hneg]
    · rw [hmod]
      by_cases hh : high = true <;> simp only [act, hh]
      · exact Modulator.endHigh_limited _ _
      · rfl
    · intro a b hl hw ha hb
      have hh : high = true := by simp [high, hl]
      simp only [hmod, act, hh, if_true]
      exact Modulator.endHigh_hiWin hw ha hb
    · intro a b hl hw ha hb
      have hh : high = false := by simp [high, hl]
      simp only [hmod, act, hh]
      exact Modulator.endLow_loWin hw ha hb
  case noPeak =>
    intro c cur hlow hhigh
    change execPhasePeakLimit x ⟨cur, c⟩ s = _
    unfold execPhasePeakLimit
    split
    · rfl
    · simp [Int.not_lt.mpr hlow, Int.not_lt.mpr hhigh]
  case above =>
    intro v n hv hx hlane hpos hsw
    have hmem : x ∈ linkLimited s := mem_those.mpr ⟨hx, by simp [hsw, hlane, hpos]⟩
    have hmod := linkLowNow_all (s := { s with linkOver := true }) (l := linkLimited s) (nodup_those _ _) hmem (hm ▸ hx)
    obtain ⟨hhost, houts, hover⟩ := linkLowNow_fold_fields (linkLimited s) { s with linkOver := true }
    refine ⟨_, ?_, by rw [hmod]; rfl, by rw [hmod]; rfl, by rw [hmod]; rfl, hover, hhost, houts⟩
    change execLinkOvervoltageLimit v s = _
    simp [execLinkOvervoltageLimit, hv]
  case below =>
    intro v hv
    refine ⟨{ s with linkOver := false, mods := s.mods.map fun m => { m with linkLow := false } }, ?_, ?_, rfl, rfl, rfl⟩
    · change execLinkOvervoltageLimit v s = _
      have hn : ¬ 100 * par s gSRC 4 SRC.LBW_VOV < v := by omega
      simp [execLinkOvervoltageLimit, hv, hn]
    · simp only [State.mod, List.getD_eq_getElem?_getD, List.getElem?_map]
      cases s.mods[x]? <;> rfl
  case retired =>
    intro k hx hf hage hst
    have h16 : x < 16 := hx.trans_le (nPh_le s)
    refine ⟨retireTell x k s, ?_, retireTell_told (hm ▸ h16) (hp ▸ h16) k⟩
    change execPhaseRetired x k s = _
    simp [execPhaseRetired, hx, hf, hage, hst]
  case shed =>
    intro k i hx hshed hk hst
    have hphase := phaseLow_phase (s := s) (x := x) (hp ▸ hx)
    refine ⟨phaseLow s x, ?_, by rw [hphase]; simp [hst], by rw [hphase], by rw [phaseLow_mod (hm ▸ hx)]; rfl, rfl,
      fun y hy => phaseLow_others s x hy⟩
    change execPhaseShedStop x i s = _
    have hstop : k = 0 ∨ k = 1 ∧ 10 * absN i ≤ 2 * par s gPH x PH.I_LIMIT := hk.imp_right fun ⟨h1, h2⟩ => ⟨h1, by omega⟩
    simp [execPhaseShedStop, hshed, hstop]
end

section
/-! The wear-ledger region of flash and the writes into it (R222, R244, R467). -/

namespace Sys2Proof.Machine

/-- The records of the active bank, newest first. -/
def Flash.active (f : Flash) : List BankRec := f.banks.getD f.bank []

/-- The wear-ledger region is its two banks. -/
structure Flash.TwoBanks (f : Flash) : Prop where
  banks : f.banks.length = 2
  bank : f.bank < 2

/-- From f to g the banks and the energy sectors alone have changed. -/
def Flash.RegionStep (f g : Flash) : Prop :=
  g = { f with banks := g.banks, bank := g.bank, enSects := g.enSects, enSect := g.enSect }

/-- From f to g the banks alone have changed. -/
def Flash.BankStep (f g : Flash) : Prop := g = { f with banks := g.banks, bank := g.bank }

/-- The records of l stand in the region: in the active bank, or in both where the active one has been begun among them. -/
def Flash.Holds (f : Flash) (l : List BankRec) : Prop :=
  l ⊆ f.active ∨ f.active.length ≤ l.length ∧ l ⊆ f.recs

variable {f g : Flash} {r : BankRec} {l : List BankRec}

theorem Flash.BankStep.trans {h : Flash} (a : f.BankStep g) (b : g.BankStep h) : f.BankStep h := by
  unfold Flash.BankStep at *
  rw [b, a]

theorem Flash.put_bankStep (r : BankRec) (f : Flash) : f.BankStep (f.put r) := by
  unfold Flash.put
  dsimp only
  split <;> rfl

/-- A record put heads the active bank: what stood there is behind it, or fills the other bank. -/
theorem Flash.put_cases (h : f.TwoBanks) (r : BankRec) : (f.put r).TwoBanks ∧
    (f.active.length < 512 ∧ (f.put r).active = r :: f.active ∧ f.recs ⊆ (f.put r).recs ∨
      512 ≤ f.active.length ∧ (f.put r).active = [r] ∧ (f.put r).recs = r :: f.active) := by
  obtain ⟨hb, ha⟩ := h
  obtain ⟨b₀, b₁, e⟩ := List.length_eq_two.mp hb
  have hbank : f.bank = 0 ∨ f.bank = 1 := by omega
  unfold Flash.put
  dsimp only
  split
  next hl =>
    refine ⟨⟨by simp [hb], ha⟩, .inl ⟨hl, ?_, ?_⟩⟩ <;> rcases hbank with h0 | h1 <;>
      simp [Flash.active, Flash.recs, *]
  next hl =>
    refine ⟨⟨by simp [hb], show 1 - f.bank < 2 by omega⟩, .inr ⟨Nat.not_lt.mp hl, ?_, ?_⟩⟩ <;> rcases hbank with h0 | h1 <;>
      simp [Flash.active, Flash.recs, *]

theorem Flash.put_mem_active (h : f.TwoBanks) (r : BankRec) : r ∈ (f.put r).active := by
  obtain ⟨-, ⟨-, e, -⟩ | ⟨-, e, -⟩⟩ := f.put_cases h r <;> simp [e]

theorem Flash.put_recs_head (h : f.TwoBanks) (r : BankRec) : ∃ rest, (f.put r).recs = r :: rest := by
  obtain ⟨-, ⟨-, e, -⟩ | ⟨-, e, -⟩⟩ := f.put_cases h r
  · exact ⟨f.active ++ (f.put r).banks.getD (1 - (f.put r).bank) [], congrArg (· ++ _) e⟩
  · exact ⟨(f.put r).banks.getD (1 - (f.put r).bank) [], congrArg (· ++ _) e⟩

theorem Flash.active_subset_recs (f : Flash) : f.active ⊆ f.recs := List.subset_append_left _ _

theorem Flash.Holds.recs (h : f.Holds l) : l ⊆ f.recs := h.elim (fun h => List.Subset.trans h f.active_subset_recs) (·.2)

/-- A further record keeps them: a bank that has been begun among fewer than 512 does not fill. -/
theorem Flash.Holds.put (h : f.Holds l) (ht : f.TwoBanks) (hl : l.length < 512) (r : BankRec) : (f.put r).Holds (r :: l) := by
  obtain ⟨-, ⟨-, hact, hrecs⟩ | ⟨hfull, hact, hrecs⟩⟩ := f.put_cases ht r
  · rcases h with h | ⟨hlen, h⟩
    · exact .inl (hact ▸ List.cons_subset_cons r h)
    · refine .inr ⟨by simpa [hact] using hlen, List.cons_subset.mpr ⟨?_, List.Subset.trans h hrecs⟩⟩
      exact (f.put r).active_subset_recs (f.put_mem_active ht r)
  · rcases h with h | ⟨hlen, -⟩
    · exact .inr ⟨by simp [hact], hrecs ▸ List.cons_subset_cons r h⟩
    · omega

/-- Up to 512 records written in turn all stand. -/
theorem Flash.foldl_put_holds {α : Type} (rec : α → BankRec) (xs : List α) (ht : f.TwoBanks) (h : f.Holds l) (hl : l.length + xs.length ≤ 512) :
    ∃ l', (∀ x ∈ xs, rec x ∈ l') ∧ l ⊆ l' ∧ (xs.foldl (fun f x => f.put (rec x)) f).Holds l' := by
  induction xs generalizing f l with
  | nil => exact ⟨l, by simp, List.Subset.refl l, h⟩
  | cons x xs ih =>
    rw [List.length_cons] at hl
    obtain ⟨l', hxs, hsub, hold⟩ := ih (f.put_cases ht (rec x)).1 (h.put ht (by omega) (rec x)) (by rw [List.length_cons]; omega)
    obtain ⟨hx, hsub⟩ := List.cons_subset.mp hsub
    exact ⟨l', List.forall_mem_cons.mpr ⟨hx, hxs⟩, hsub, hold⟩

/-- An energy record written stands at the head of the active sector, and the sectors alone have changed (R467). -/
theorem Flash.putEnergy_spec (hs : f.enSects.length = 2) (ha : f.enSect < 2) (r : List Byte) :
    r ∈ (f.putEnergy r).enSects.getD (f.putEnergy r).enSect [] ∧
      f.putEnergy r = { f with enSects := (f.putEnergy r).enSects, enSect := (f.putEnergy r).enSect } := by
  unfold Flash.putEnergy
  dsimp only
  split
  · exact ⟨by simp [List.getD_eq_getElem?_getD, hs, ha], rfl⟩
  · exact ⟨by simp [List.getD_eq_getElem?_getD, hs, show 1 - f.enSect < 2 by omega], rfl⟩

/-- The phase records of a flush, written in turn (R244). -/
def phasesFlushed (s : State) (f : Flash) : Flash := (List.range (nPh s)).foldl (fun f x => flashRecord s x f) f

theorem phasesFlushed_bankStep (s : State) (f : Flash) : f.BankStep (phasesFlushed s f) := by
  unfold phasesFlushed
  exact foldl_rel (R := Flash.BankStep) (fun _ => rfl) .trans _ _ (fun f _ => Flash.put_bankStep _ f) f

theorem phasesFlushed_mem (ht : f.TwoBanks) {s : State} {x : Nat} (hx : x < nPh s) :
    BankRec.phase ((s.led x).record x s.jobs.sched.clock) ∈ (phasesFlushed s f).recs := by
  obtain ⟨l, hmem, -, hold⟩ := Flash.foldl_put_holds (l := []) (fun x => BankRec.phase ((s.led x).record x s.jobs.sched.clock))
    (List.range (nPh s)) ht (.inl (List.nil_subset _)) (by simpa using (nPh_le s).trans (by decide))
  exact hold.recs (hmem x (List.mem_range.mpr hx))

/-- What the flush makes of flash (R244, R467). -/
def flushed (s : State) : Flash :=
  { (phasesFlushed s s.flash).putEnergy (energyRecord s.jobs.energy) with clock := s.jobs.sched.clock }

theorem flushed_spec {s : State} (ht : s.flash.TwoBanks) (hs : s.flash.enSects.length = 2) (ha : s.flash.enSect < 2) :
    (∀ x, x < nPh s → BankRec.phase ((s.led x).record x s.jobs.sched.clock) ∈ (flushed s).recs) ∧
      energyRecord s.jobs.energy ∈ (flushed s).enSects.getD (flushed s).enSect [] ∧
      flushed s = { s.flash with banks := (flushed s).banks, bank := (flushed s).bank, enSects := (flushed s).enSects
                                 enSect := (flushed s).enSect, clock := s.jobs.sched.clock } := by
  have hp := phasesFlushed_bankStep s s.flash
  have hen : (phasesFlushed s s.flash).enSects = s.flash.enSects ∧ (phasesFlushed s s.flash).enSect = s.flash.enSect := by
    rw [hp]
    exact ⟨rfl, rfl⟩
  obtain ⟨hmem, he⟩ := Flash.putEnergy_spec (f := phasesFlushed s s.flash) (hen.1 ▸ hs) (hen.2 ▸ ha) (energyRecord s.jobs.energy)
  refine ⟨fun x hx => ?_, hmem, ?_⟩
  · have hrecs : (flushed s).recs = (phasesFlushed s s.flash).recs := by
      unfold flushed
      rw [he]
      rfl
    exact hrecs ▸ phasesFlushed_mem ht hx
  · unfold flushed
    rw [he, hp]

/-- The image of the newest directory record, where its sector holds that image (R223). -/
theorem Flash.newestImage_of_head {d : DirRec} {b : List Byte} {rest : List BankRec} (h : f.recs = .dir d :: rest)
    (hs : assocGet f.sectors (d.gen % 16) = some b) (hc : crc32 b = d.crc) : f.newestImage = some (d, b) := by
  unfold Flash.newestImage
  rw [h, List.findSome?_cons]
  simp only [hs, hc, if_true]

/-- A write that is neither a chunk nor the erasure of a slot is done: the one it pre-empted goes on, but for a flush or a persistence in an
update session (R240, R491). -/
theorem flashWriterDone_eq {s : State} {k : Nat} (hb : s.writer.busy = some k) (h4 : k ≠ 4) (h8 : k ≠ 8) :
    exec .flashWriterDone s = .next { s with writer := { s.writer with
      busy := if s.fw.isSome && (s.writer.redo = some 1 || s.writer.redo = some 2) then none else s.writer.redo
      redo := none, before := none } } := by
  change execFlashWriterDone s = _
  unfold execFlashWriterDone
  rw [hb]
  split
  next h => cases h
  next h => exact absurd (Option.some.inj h) h4
  next h => exact absurd (Option.some.inj h) h8
  next => rfl

end Sys2Proof.Machine
end

section
/-! The ledger's sample (R241). -/

namespace Sys2Proof.Machine

/-- One rainflow sample of phase x, where it has a junction temperature. -/
def sampleOne (s : State) (x : Nat) : State :=
  match tjOf s x with
  | none => s
  | some t =>
    let p := sampleTj t (s.jobs.sched.therm.getD x {}) (s.led x)
    (s.modSched fun c => { c with therm := c.therm.set x p.1 }).modLed x fun _ => p.2

/-- From s to t the ledger and the thermal state of phase x stand, and the lists are as long. -/
structure LedgerStands (x : Nat) (s t : State) : Prop where
  led : t.led x = s.led x
  therm : t.jobs.sched.therm.getD x {} = s.jobs.sched.therm.getD x {}
  ledgers : t.jobs.sched.ledger.length = s.jobs.sched.ledger.length
  therms : t.jobs.sched.therm.length = s.jobs.sched.therm.length

theorem sampleOne_ne {x y : Nat} (h : y ≠ x) (s : State) : LedgerStands x s (sampleOne s y) := by
  unfold sampleOne
  split
  · exact ⟨rfl, rfl, rfl, rfl⟩
  · exact ⟨State.led_modLed_ne h.symm _, by simp [State.modSched, State.modJobs, List.getD_eq_getElem?_getD, List.getElem?_set_ne h],
      modAt_length _ _ _, List.length_set⟩

theorem sampleOne_self {s : State} {x : Nat} {T : Int} (hT : tjOf s x = some T) (hl : x < s.jobs.sched.ledger.length)
    (ht : x < s.jobs.sched.therm.length) :
    (sampleOne s x).led x = (sampleTj T (s.jobs.sched.therm.getD x {}) (s.led x)).2 ∧
      (sampleOne s x).jobs.sched.therm.getD x {} = (sampleTj T (s.jobs.sched.therm.getD x {}) (s.led x)).1 := by
  unfold sampleOne
  rw [hT]
  exact ⟨modAt_getD_self hl _ _, by simp [State.modSched, State.modJobs, List.getD_eq_getElem?_getD, ht]⟩

/-- Sampling leaves the lanes, the host side and flash alone. -/
theorem sampleOne_fields (s : State) (x : Nat) : (sampleOne s x).jobs.lanes = s.jobs.lanes ∧ (sampleOne s x).host = s.host ∧
    (sampleOne s x).flash = s.flash := by
  unfold sampleOne
  split <;> exact ⟨rfl, rfl, rfl⟩

theorem sampleAll_fields (l : List Nat) (s : State) : (l.foldl sampleOne s).jobs.lanes = s.jobs.lanes ∧
    (l.foldl sampleOne s).host = s.host ∧ (l.foldl sampleOne s).flash = s.flash :=
  foldl_rel (R := fun s t => t.jobs.lanes = s.jobs.lanes ∧ t.host = s.host ∧ t.flash = s.flash) (fun _ => ⟨rfl, rfl, rfl⟩)
    (fun ⟨h1, h2, h3⟩ ⟨g1, g2, g3⟩ => ⟨g1.trans h1, g2.trans h2, g3.trans h3⟩) _ _ sampleOne_fields s

/-- Every phase with a junction temperature takes one sample. -/
theorem sampleAll_self {s : State} {x n : Nat} {T : Int} (hx : x < n) (hT : tjOf s x = some T) (hl : x < s.jobs.sched.ledger.length)
    (ht : x < s.jobs.sched.therm.length) :
    ((List.range n).foldl sampleOne s).led x = (sampleTj T (s.jobs.sched.therm.getD x {}) (s.led x)).2 ∧
      ((List.range n).foldl sampleOne s).jobs.sched.therm.getD x {} = (sampleTj T (s.jobs.sched.therm.getD x {}) (s.led x)).1 := by
  obtain ⟨a, before, after⟩ := foldl_at (R := LedgerStands x) (fun _ => ⟨rfl, rfl, rfl, rfl⟩)
    (fun h g => ⟨g.led.trans h.led, g.therm.trans h.therm, g.ledgers.trans h.ledgers, g.therms.trans h.therms⟩)
    (fun s y hy => sampleOne_ne hy s) List.nodup_range (List.mem_range.mpr hx) s
  have haT : tjOf a x = some T := by rw [tjOf, before.therm]; exact hT
  obtain ⟨hled, htherm⟩ := sampleOne_self haT (before.ledgers.symm ▸ hl) (before.therms.symm ▸ ht)
  rw [before.led, before.therm] at hled htherm
  exact ⟨after.led.trans hled, after.therm.trans htherm⟩

end Sys2Proof.Machine

open Sys2Proof Sys2Proof.Machine

/-- Settles O17: each write by what it makes of flash, the sample phase by phase. -/
theorem ledgerAndMapWriteRows : Obligations.LedgerAndMapWriteRows := by
  intro s hb ha
  have ht : s.flash.TwoBanks := ⟨hb, ha⟩
  refine ⟨?flush, ?persist, ?retire, ?retireWaits, ?flushLate, ?persistLate, ?done, ?doneUpdate, ?sample⟩
  case flush =>
    intro d hc hbusy hdue hs hsect
    obtain ⟨hrecs, hen, he⟩ := flushed_spec ht hs hsect
    refine ⟨{ s with
      flash := flushed s, jobs := { s.jobs with sched := { s.jobs.sched with sinceFlush := 0 } }
      writer := { s.writer with busy := some 1, before := some s.flash, flushDue := none, lateF := false } },
      ?_, hrecs, hen, he, rfl, rfl, rfl⟩
    change execLedgerFlush s = _
    simp only [execLedgerFlush, hc, hbusy, hdue]
    rfl
  case persist =>
    rintro d g hc hbusy hdue rfl
    let g := (s.jobs.sched.gen + 1) % 2 ^ 32
    let f : Flash := { s.flash with sectors := assocSet s.flash.sectors (g % 16) (mapImage s), clock := s.jobs.sched.clock }
    let r : DirRec := ⟨g, s.jobs.sched.clock, laneSigs s, crc32 (mapImage s)⟩
    have hf : f.TwoBanks := ⟨hb, ha⟩
    obtain ⟨rest, hhead⟩ := f.put_recs_head hf (.dir r)
    have hstep := f.put_bankStep (.dir r)
    have hsect : assocGet (f.put (.dir r)).sectors (r.gen % 16) = some (mapImage s) := by
      rw [hstep]
      exact assocGet_assocSet_self _ _ _
    refine ⟨{ s with
      flash := f.put (.dir r), jobs := { s.jobs with sched := { s.jobs.sched with gen := g, sincePers := 0 } }
      writer := { s.writer with busy := some 2, before := some s.flash, persDue := none, lateP := false } },
      ?_, Flash.newestImage_of_head hhead hsect rfl, hstep, rfl, rfl, rfl⟩
    change execLossmapPersist s = _
    simp only [execLossmapPersist, hc, hbusy, hdue]
    rfl
  case retire =>
    intro x k hc hbusy hjob
    have hany : s.writer.retJobs.any (fun j => j.1 == x) = true := List.any_eq_true.mpr ⟨_, hjob, by simp⟩
    refine ⟨(s.beginWrite 5 (flashRecord s x)).modWriter fun w => { w with retJobs := w.retJobs.filter fun j => j.1 ≠ x }, ?_,
      s.flash.put_mem_active ht _, s.flash.put_bankStep _, rfl, fun j => by simp [State.beginWrite], rfl, rfl⟩
    change execLedgerRetireWrite x s = _
    simp [execLedgerRetireWrite, hc, hbusy, hany]
  case retireWaits =>
    intro x hbusy
    change execLedgerRetireWrite x s = _
    simp [execLedgerRetireWrite, hbusy]
  case flushLate =>
    intro d hdue hd hl
    let z : State := { s with writer := { s.writer with lateF := true } }
    refine ⟨z.raise Ev.FLASH_WRITE_LATE 1, ?_, rfl, rfl⟩
    change execFlashWriteLate 1 s = _
    simp [execFlashWriteLate, hdue, hd, hl, z]
  case persistLate =>
    intro d hdue hd hl
    let z : State := { s with writer := { s.writer with lateP := true } }
    refine ⟨z.raise Ev.FLASH_WRITE_LATE 2, ?_, rfl, rfl⟩
    change execFlashWriteLate 2 s = _
    simp [execFlashWriteLate, hdue, hd, hl, z]
  case done =>
    intro k hbusy h4 h8 hfw
    simp [flashWriterDone_eq hbusy h4 h8, hfw]
  case doneUpdate =>
    intro k f j hbusy h4 h8 hfw hredo hj
    simp [flashWriterDone_eq hbusy h4 h8, hfw, hredo, hj]
  case sample =>
    intro x T hl hframe hcut hx hth hled hT
    have h16 : x < 16 := hx.trans_le (nPh_le s)
    obtain ⟨hone, htherm⟩ := sampleAll_self hx hT (hled ▸ h16) (hth ▸ h16)
    refine ⟨(List.range (nPh s)).foldl sampleOne s, ?_, hone, htherm, sampleAll_fields _ s⟩
    change execLedgerSample s = _
    simp only [execLedgerSample, hl, hframe, hcut]
    rfl
end

section
/-! The counterexample to O15: an M- probe (R219) lets a shed step be allowed (R235), and no rotation begins during a probe (R238). -/

namespace Sys2Proof.Machine

/-- No rotation begins during a probe, whose plan is applied over the set. -/
theorem rotationBegin_in_probe {s : State} {n : Nat} (h : (s.lane n).probe ≠ none) : exec (.rotationBegin n) s = .next s := by
  change execRotationBegin n s = _
  unfold execRotationBegin
  dsimp only
  split
  next => simp [h]
  next => rfl

/-- Lane 0 runs an M- probe with the first of its two phases, at 90 degC; the second, shed for the probe, has cooled to 30 degC. -/
def coolPhaseInProbe : State :=
  (((State.reset.setPar gLN 0 LN.KIND 1).setPar gLN 0 LN.PHASES 3).modLane 0 fun l => { l with
      st := .run, plan := { mask := 1 }, shedFor := some 100, probe := some ⟨7, { mask := 1 }, { mask := 3 }, 100, 0, 0, false⟩ })
    |>.modPhase 0 (fun p => { p with st := .active })
    |>.modSched fun c => { c with therm := [{ tj := some 9000 }, { tj := some 3000 }] }

end Sys2Proof.Machine

open Sys2Proof Sys2Proof.Machine

/-- Refutes O15: its rotation clause does not ask that no probe is in progress. During an M- probe a shed step is allowed, so all that the
clause asks for holds, and yet no rotation begins. -/
theorem not_schedulerPlanRows : ¬ Obligations.SchedulerPlanRows := by
  intro h
  obtain ⟨-, rotation, -⟩ := h coolPhaseInProbe 0 (by decide +kernel)
  have hprobe : (coolPhaseInProbe.lane 0).probe ≠ none := by decide +kernel
  have hnone : (coolPhaseInProbe.lane 0).rotZ = none := by decide +kernel
  obtain ⟨t, ht, -, hz, -⟩ := rotation 1 0 (by decide +kernel) (by decide +kernel) hnone (by decide +kernel) (by decide +kernel)
    (by decide +kernel) (by decide +kernel) (by decide +kernel) (by decide +kernel) (by decide +kernel) (by decide +kernel)
  rw [rotationBegin_in_probe hprobe] at ht
  cases ht
  simp [hnone] at hz
end

section
/-! What a window mean does to the loss map (R215, R216). -/

namespace Sys2Proof.Machine

theorem satN_eq_min (m n : Nat) : satN m n = min m n := by
  unfold satN
  split <;> omega

/-- The default model of the entry with index i in the region of lane n (R210). -/
def modelAt (s : State) (n i : Nat) : Int :=
  let o := i - baseOf (laneSigs s) n
  lModel s n (o / 768 + 1) (o % 768 / 192) (o % 24)

/-- What learning into entry i for lane n leaves alone. -/
structure LearnStands (n i : Nat) (s t : State) : Prop where
  lanes : LaneAlone n s t
  winDone : (t.lane n).winDone = (s.lane n).winDone
  outs : t.outs = s.outs
  params : t.params = s.params
  map : ∀ j, j ≠ i → assocGet t.jobs.sched.map j = assocGet s.jobs.sched.map j

variable {s t u : State} {n i : Nat} {L q w : Int}

theorem LearnStands.trans (h : LearnStands n i s t) (g : LearnStands n i t u) : LearnStands n i s u :=
  ⟨h.lanes.trans g.lanes, g.winDone.trans h.winDone, g.outs.trans h.outs, g.params.trans h.params,
    fun j hj => (g.map j hj).trans (h.map j hj)⟩

theorem LearnStands.modLane (hn : n < s.jobs.lanes.length) {f : Lane → Lane} (hf : (f (s.lane n)).winDone = (s.lane n).winDone) :
    LearnStands n i s (s.modLane n f) :=
  ⟨.modLane n s f, by rw [State.lane_modLane_self hn, hf], rfl, rfl, fun _ _ => rfl⟩

theorem LearnStands.setEntry (n i : Nat) (e : MapEnt) (s : State) : LearnStands n i s (setEntry i e s) :=
  ⟨.of_lanes rfl, rfl, rfl, rfl, fun _ hj => assocGet_assocSet_ne _ _ hj⟩

theorem setEntry_self (i : Nat) (e : MapEnt) (s : State) : assocGet (setEntry i e s).jobs.sched.map i = some e :=
  assocGet_assocSet_self _ _ _

/-- Quarantine: the entry is forgotten, and the lane counts it. -/
theorem quarantine_spec (hn : n < s.jobs.lanes.length) :
    LearnStands n i s (quarantine n i s) ∧ assocGet (quarantine n i s).jobs.sched.map i = none ∧
      ((quarantine n i s).lane n).quar = incSat 32 (s.lane n).quar := by
  let z := s.modSched fun c => { c with map := assocDel c.map i }
  have forgets : LearnStands n i s z :=
    ⟨.of_lanes rfl, rfl, rfl, rfl, fun j hj => by simp [z, State.modSched, State.modJobs, assocGet_assocDel, hj]⟩
  have hz : assocGet z.jobs.sched.map i = none := by simp [z, State.modSched, State.modJobs, assocGet_assocDel]
  let quiet := match (s.lane n).quarAt with | some a => decide (s.age < a + 100000) | none => false
  let f : Lane → Lane := fun l => { l with quar := incSat 32 l.quar, quarAt := if quiet then l.quarAt else some s.age }
  have counted := forgets.trans (.modLane (s := z) (n := n) (f := f) hn rfl)
  have hl : ((z.modLane n f).lane n).quar = incSat 32 (s.lane n).quar :=
    congrArg Lane.quar (State.lane_modLane_self (s := z) hn f)
  have hq : quarantine n i s = if quiet then z.modLane n f else (z.modLane n f).raise Ev.LOSSMAP_QUARANTINE (i * 2 ^ 16 + n) := rfl
  rw [hq]
  split
  · exact ⟨counted, hz, hl⟩
  · exact ⟨counted.trans ⟨.of_lanes rfl, rfl, rfl, rfl, fun _ _ => rfl⟩, hz, hl⟩

/-- Whatever a window's mean does, it does to entry i and to lane n. -/
theorem learn_stands (hn : n < s.jobs.lanes.length) (L : Int) (p : Plan) : LearnStands n i s (learn n i L p s) := by
  unfold learn
  dsimp only
  split
  next => exact .modLane hn rfl
  next =>
    split
    next =>
      split
      next =>
        split
        next => exact (LearnStands.setEntry n i _ s).trans (.modLane (s := setEntry i _ s) hn rfl)
        next => exact .modLane hn rfl
      next => exact .modLane hn rfl
    next =>
      split
      next => exact (quarantine_spec hn).1
      next => exact .setEntry n i _ s

/-- A mean outside a factor 4 of the default model (R215). -/
theorem learn_implausible (h : L < modelAt s n i / 4 ∨ 4 * modelAt s n i < L) (p : Plan) :
    learn n i L p s = s.modLane n fun l => { l with discards := incSat 32 l.discards } := by
  unfold learn
  exact if_pos (by simpa [modelAt] using h)

section
variable (hlo : modelAt s n i / 4 ≤ L) (hhi : L ≤ 4 * modelAt s n i)
include hlo hhi

/-- A mean within a factor 4 of the default model passes the first check (R215). -/
theorem learn_plausible : ¬ (L < modelAt s n i / 4 || 4 * modelAt s n i < L) = true := by
  simpa using ⟨hlo, hhi⟩

/-- The first mean of an entry with CONF 0 waits. -/
theorem learn_first (hc : (mapEntry s i).conf = 0) (hp : (s.lane n).pend = none) (p : Plan) :
    learn n i L p s = s.modLane n fun l => { l with pend := some (i, L) } := by
  refine (if_neg (learn_plausible hlo hhi)).trans ((if_pos hc).trans ?_)
  rw [hp]

/-- A second mean within an eighth of the waiting one. -/
theorem learn_second (hc : (mapEntry s i).conf = 0) (hp : (s.lane n).pend = some (i, q)) (hq : absN (L - q) ≤ (q / 8).toNat) (p : Plan) :
    learn n i L p s = (setEntry i { mapEntry s i with
      loss := min 0xFFFF ((L + q + 1) / 2).toNat, freq := p.freq, dtr := p.dtr, dtf := p.dtf
      conf := par s gSCH n SCH.CONF_STEP, count := 2 } s).modLane n fun l => { l with pend := none } := by
  refine (if_neg (learn_plausible hlo hhi)).trans ((if_pos hc).trans ?_)
  rw [hp, ← satN_eq_min]
  exact if_pos (by simpa [absN] using hq)

/-- A second mean further off takes the place of the waiting one. -/
theorem learn_replaces (hc : (mapEntry s i).conf = 0) (hp : (s.lane n).pend = some (i, q)) (hq : (q / 8).toNat < absN (L - q)) (p : Plan) :
    learn n i L p s = s.modLane n fun l => { l with pend := some (i, L) } := by
  refine (if_neg (learn_plausible hlo hhi)).trans ((if_pos hc).trans ?_)
  rw [hp]
  exact if_neg (by simpa [absN] using hq)

variable (hc : (mapEntry s i).conf ≠ 0)
  (hw : w = (mapEntry s i).loss + max (256 - ((mapEntry s i).conf : Int)) 16 * (L - (mapEntry s i).loss) / 256)
include hc hw

/-- A learned entry whose loss would move by more than a quarter of it. -/
theorem learn_quarantines (h : (mapEntry s i).loss / 4 < absN (w - (mapEntry s i).loss)) (p : Plan) :
    learn n i L p s = quarantine n i s := by
  subst hw
  refine (if_neg (learn_plausible hlo hhi)).trans ((if_neg hc).trans ?_)
  exact if_pos h

/-- A learned entry moves by the confidence's share of the difference. -/
theorem learn_moves (h : absN (w - (mapEntry s i).loss) ≤ (mapEntry s i).loss / 4) (p : Plan) :
    learn n i L p s = setEntry i { mapEntry s i with
      loss := min 0xFFFF w.toNat, freq := p.freq, dtr := p.dtr, dtf := p.dtf
      conf := if absN (L - (mapEntry s i).loss) ≤ (mapEntry s i).loss / 8 then min ((mapEntry s i).conf + par s gSCH n SCH.CONF_STEP) 255
        else max ((mapEntry s i).conf - par s gSCH n SCH.CONF_STEP) 1
      count := min ((mapEntry s i).count + 1) 255 } s := by
  subst hw
  refine (if_neg (learn_plausible hlo hhi)).trans ((if_neg hc).trans ?_)
  refine (if_neg (Nat.not_lt.mpr h)).trans ?_
  rw [← satN_eq_min 0xFFFF]
  rfl
end

end Sys2Proof.Machine

open Sys2Proof Sys2Proof.Machine

/-- Settles O16: the window is taken from the lane, and its mean is learned; every case is one of `learn`'s. -/
theorem learningWindowRow : Obligations.LearningWindowRow := by
  rintro s n i o L M p e hn hu hwin rfl rfl rfl
  let z := s.modLane n fun l => { l with winDone := none }
  have taken : LaneAlone n s z := .modLane n s _
  have hz : n < z.jobs.lanes.length := taken.length.symm ▸ hn
  have lz : z.lane n = { s.lane n with winDone := none } := State.lane_modLane_self hn _
  have stands := learn_stands (i := i) hz L p
  have lane_mod (f : Lane → Lane) : (z.modLane n f).lane n = f { s.lane n with winDone := none } := by
    rw [State.lane_modLane_self hz, lz]
  have pz : (z.lane n).pend = (s.lane n).pend := by rw [lz]
  refine ⟨learn n i L p z, ?closes, stands.winDone.trans (by rw [lz]), stands.outs, stands.params, stands.map,
    (taken.trans stands.lanes).others, ?implausible, ?first, ?second, ?learned⟩
  case closes =>
    change execLearningWindowClose n s = _
    simp [execLearningWindowClose, hwin, hu, z]
  case implausible =>
    intro h
    rw [learn_implausible (s := z) h, lane_mod]
    exact ⟨rfl, rfl⟩
  case first =>
    intro hlo hhi hc hp
    rw [learn_first (s := z) hlo hhi hc (pz.trans hp), lane_mod]
    exact ⟨rfl, rfl⟩
  case second =>
    intro q hlo hhi hc hp hq hL
    constructor <;> intro h
    · rw [learn_second (s := z) hlo hhi hc (pz.trans hp) (by omega), State.lane_modLane_self (s := setEntry i _ z) hz]
      exact ⟨rfl, setEntry_self _ _ _⟩
    · rw [learn_replaces (s := z) hlo hhi hc (pz.trans hp) (by omega), lane_mod]
      exact ⟨rfl, rfl⟩
  case learned =>
    intro w hlo hhi hc hw _
    constructor <;> intro h
    · rw [learn_moves (s := z) hlo hhi hc hw h]
      exact ⟨_, setEntry_self _ _ _, rfl, rfl, rfl, rfl, rfl, rfl⟩
    · obtain ⟨-, forgotten, counted⟩ := quarantine_spec (i := i) hz
      rw [learn_quarantines (s := z) hlo hhi hc hw h, counted, lz]
      exact ⟨forgotten, rfl⟩
end

section
/-! What a change of one input port leaves to the others, and what it makes of that port (R250). -/

namespace Sys2Proof.Machine

/-- From s to t no input port but n has moved. -/
structure SrcAlone (n : Nat) (s t : State) : Prop where
  length : t.jobs.srcs.length = s.jobs.srcs.length
  others : ∀ m, m ≠ n → t.src m = s.src m

/-- An input port that enters a state with a cause: its counts and its history begin again (R250). -/
def SrcPort.entered (z : SrcSt) (c : Nat) (p : SrcPort) : SrcPort :=
  { p with st := z, cause := c, qual := 0, vHist := [], conFor := 0, lossRun := 0, duskRun := 0 }

variable {s t u : State} {n : Nat}

theorem SrcAlone.of_srcs (h : t.jobs.srcs = s.jobs.srcs) : SrcAlone n s t :=
  ⟨by rw [h], fun m _ => by rw [State.src, State.src, h]⟩

theorem SrcAlone.trans (h : SrcAlone n s t) (g : SrcAlone n t u) : SrcAlone n s u :=
  ⟨g.length.trans h.length, fun m hm => (g.others m hm).trans (h.others m hm)⟩

theorem SrcAlone.modSrc (n : Nat) (s : State) (f : SrcPort → SrcPort) : SrcAlone n s (s.modSrc n f) :=
  ⟨modAt_length _ _ _, fun _ hm => State.src_modSrc_ne hm f⟩

theorem SrcAlone.srcClose (n : Nat) (s : State) : SrcAlone n s (srcClose n s) := (SrcAlone.modSrc n s _).trans (.of_srcs rfl)

theorem SrcAlone.icsStart (n : Nat) (s : State) : SrcAlone n s (icsStart n s) := .modSrc n s _

theorem src_of_jobs (h : t.jobs.srcs = s.jobs.srcs) (n : Nat) : t.src n = s.src n := by rw [State.src, State.src, h]

/-- A port out of OFF is in the list. -/
theorem src_in_list (h : (s.src n).st ≠ .off) : n < s.jobs.srcs.length :=
  getD_ne_default (d := ({} : SrcPort)) fun hd => h (by rw [State.src, hd])

/-- A change of state moves the port, and SOURCE_STATE tells it. -/
theorem srcEnter_change {z : SrcSt} (h : (s.src n).st ≠ z) (cause : Option Nat) :
    srcEnter n z cause s = (s.modSrc n (SrcPort.entered z (cause.getD (s.src n).cause))).raise Ev.SOURCE_STATE
      (n * 2 ^ 8 + cause.getD (s.src n).cause * 2 ^ 4 + z.code) := if_neg h

theorem SrcAlone.srcEnter (n : Nat) (z : SrcSt) (cause : Option Nat) (s : State) : SrcAlone n s (srcEnter n z cause s) := by
  unfold Machine.srcEnter
  dsimp only
  split
  · exact .modSrc n s _
  · exact (SrcAlone.modSrc n s _).trans (.of_srcs rfl)

theorem srcEnter_src {z : SrcSt} (hn : n < s.jobs.srcs.length) (h : (s.src n).st ≠ z) (cause : Option Nat) :
    (srcEnter n z cause s).src n = (s.src n).entered z (cause.getD (s.src n).cause) := by
  rw [srcEnter_change h]
  exact State.src_modSrc_self hn _

theorem srcClose_src (hn : n < s.jobs.srcs.length) : (srcClose n s).src n = { s.src n with sw := true, openLater := false } :=
  State.src_modSrc_self hn _

/-- A switch wanted open reads open, whether or not the part has the port. -/
theorem srcOpen_sw (n : Nat) (s : State) : ((srcOpen n s).src n).sw = false := by
  by_cases hn : n < s.jobs.srcs.length
  · exact congrArg SrcPort.sw (State.src_modSrc_self hn _)
  · have hd : (srcOpen n s).src n = {} := by
      simp [State.src, srcOpen, modAt, List.getD_eq_getElem?_getD, List.getElem?_eq_none (Nat.le_of_not_lt hn)]
    rw [hd]

/-- A switch to be opened later opens at once where no lane holds it back; the state and the cause of the port stand. -/
theorem srcOpenLater_src (hn : n < s.jobs.srcs.length) :
    ((srcOpenLater n s).src n).st = (s.src n).st ∧ ((srcOpenLater n s).src n).cause = (s.src n).cause ∧
      (srcLaneOff s n = true → ((srcOpenLater n s).src n).sw = false) := by
  unfold srcOpenLater
  split
  next => rw [show (srcOpen n s).src n = _ from State.src_modSrc_self hn _]; exact ⟨rfl, rfl, fun _ => rfl⟩
  next h => rw [State.src_modSrc_self hn]; exact ⟨rfl, rfl, fun g => absurd g h⟩

theorem SrcAlone.srcOpenLater (n : Nat) (s : State) : SrcAlone n s (srcOpenLater n s) := by
  unfold Machine.srcOpenLater
  split
  · exact (SrcAlone.modSrc n s _).trans (.of_srcs rfl)
  · exact .modSrc n s _

theorem srcOpenLater_lanes (n : Nat) (s : State) : (srcOpenLater n s).jobs.lanes = s.jobs.lanes := by
  unfold srcOpenLater
  split <;> rfl

theorem LaneStep.rampLaneOf (l : Option Nat) (s : State) : LaneStep s (rampLaneOf l s) := by
  unfold Machine.rampLaneOf
  split
  · split
    · exact .laneRamp _ 5 s
    · exact .refl s
  · exact .refl s

/-- The lane of a port that is left, where it is in RUN, enters RAMPDOWN with cause 5 (R250). -/
theorem rampLaneOf_run {l : Nat} (h : (s.lane l).st = .run) :
    ((rampLaneOf (some l) s).lane l).st = .rampdown ∧ ((rampLaneOf (some l) s).lane l).cause = 5 := by
  have hup : rampLaneOf (some l) s = laneRamp l 5 s := if_pos (by rw [h]; rfl)
  obtain ⟨hst, hcause, -⟩ := laneRamp_spec (.inl h) 5
  rw [hup]
  exact ⟨hst, hcause⟩

/-- READY left for ABSENT: what becomes of the port, of its lane and of its switch, and that every other port stands (R250). -/
theorem srcLeave_spec (h : (s.src n).st = .ready) (cause : Nat) :
    ((srcLeave n cause s).src n).st = .absent ∧ ((srcLeave n cause s).src n).cause = cause ∧
      (∀ l, laneOfInput s n = some l → (s.lane l).st = .run →
        ((srcLeave n cause s).lane l).st = .rampdown ∧ ((srcLeave n cause s).lane l).cause = 5) ∧
      (laneOfInput s n = none → ((srcLeave n cause s).src n).sw = false) ∧ SrcAlone n s (srcLeave n cause s) := by
  have hne : (s.src n).st ≠ .absent := by simp [h]
  have hn : n < s.jobs.srcs.length := src_in_list (by simp [h])
  let x := srcEnter n .absent (some cause) s
  let y := rampLaneOf (laneOfInput s n) x
  have hx : SrcAlone n s x := .srcEnter n _ _ s
  have hstep : LaneStep x y := .rampLaneOf _ x
  have hsrcs : y.jobs.srcs = x.jobs.srcs := by rw [hstep.eq]
  have hy : SrcAlone n s y := hx.trans (.of_srcs hsrcs)
  have py : y.src n = (s.src n).entered .absent cause := (src_of_jobs hsrcs n).trans (srcEnter_src hn hne _)
  have lx (l : Nat) : x.lane l = s.lane l := by
    change (srcEnter n .absent (some cause) s).lane l = _
    rw [srcEnter_change hne]
    rfl
  have lt (l : Nat) : (srcLeave n cause s).lane l = y.lane l := congrArg (fun ls : List Lane => ls.getD l {}) (srcOpenLater_lanes n y)
  obtain ⟨hst, hcause, hopen⟩ := srcOpenLater_src (hy.length.symm ▸ hn)
  rw [py] at hst hcause
  refine ⟨hst, hcause, fun l hl hrun => ?_, fun hl => hopen ?_, hy.trans (.srcOpenLater n y)⟩
  · have ramped := rampLaneOf_run ((congrArg Lane.st (lx l)).trans hrun)
    rw [lt, show y = rampLaneOf (some l) x by rw [← hl]]
    exact ramped
  · have hyl : laneOfInput y n = none := by
      rw [show y = x by simp [y, hl, rampLaneOf], show x = _ from srcEnter_change hne _]
      exact hl
    simp [srcLaneOff, hyl]

/-- The open-circuit voltage that a PV port takes from its history when it qualifies (R251). -/
def vocTaken (n : Nat) (s : State) : State :=
  if srcKind s n = 1 then s.modSrc n fun p => { p with voc := fitU 16 (divR (sumOf id p.vHist) (100 * p.vHist.length)) } else s

theorem vocTaken_spec (hn : n < s.jobs.srcs.length) :
    ((vocTaken n s).src n).st = (s.src n).st ∧ ((vocTaken n s).src n).cause = (s.src n).cause ∧ isDirect (vocTaken n s) n = isDirect s n ∧
      (vocTaken n s).jobs.lanes = s.jobs.lanes ∧ SrcAlone n s (vocTaken n s) := by
  unfold vocTaken
  split
  · rw [State.src_modSrc_self hn]
    exact ⟨rfl, rfl, rfl, rfl, .modSrc n s _⟩
  · exact ⟨rfl, rfl, rfl, rfl, .of_srcs rfl⟩

end Sys2Proof.Machine

open Sys2Proof Sys2Proof.Machine

/-- Settles O18: each command passes its guard, and entering a state moves the port alone (srcEnter_src, srcLeave_spec). -/
theorem sourcePortRows : Obligations.SourcePortRows := by
  intro s n hu
  refine ⟨?qualified, ?failed, ?settled, ?loss, ?dusk⟩
  case qualified =>
    intro hq hc hh ho
    have hn : n < s.jobs.srcs.length := src_in_list (by simp [hq])
    obtain ⟨vst, vcause, vdirect, vlanes, valone⟩ := vocTaken_spec hn
    have hvn : n < (vocTaken n s).jobs.srcs.length := valone.length.symm ▸ hn
    have hexec : exec (.sourceQualified n) s = .next (if isDirect (vocTaken n s) n then srcEnter n .ready none (vocTaken n s)
        else srcClose n (srcEnter n .connect none (vocTaken n s))) := by
      change execSourceQualified n s = _
      have hocv : (srcKind s n = 1 && !ocvCheck s n) = false := by simpa using ho
      simp only [execSourceQualified, hu, hq, hc, List.length_pos_of_ne_nil hh, hocv, decide_true, Bool.and_self, if_true,
        Bool.false_eq_true, if_false]
      rfl
    rw [vdirect] at hexec
    by_cases hd : isDirect s n = true
    · have hne : ((vocTaken n s).src n).st ≠ .ready := by simp [vst, hq]
      rw [if_pos hd] at hexec
      refine ⟨_, hexec, ?_⟩
      rw [srcEnter_src hvn hne, srcEnter_change hne, if_pos hd]
      exact ⟨rfl, fun h => absurd hd (by simp [h]), vcause, vlanes, (valone.trans ((SrcAlone.modSrc n _ _).trans (.of_srcs rfl))).others⟩
    · have hne : ((vocTaken n s).src n).st ≠ .connect := by simp [vst, hq]
      have halone : SrcAlone n (vocTaken n s) (srcEnter n .connect none (vocTaken n s)) := .srcEnter n _ _ _
      rw [if_neg hd] at hexec
      refine ⟨_, hexec, ?_⟩
      rw [srcClose_src (halone.length.symm ▸ hvn), srcEnter_src hvn hne, if_neg hd]
      refine ⟨rfl, fun _ => rfl, vcause, ?_, (valone.trans (halone.trans (.srcClose n _))).others⟩
      rw [srcEnter_change hne]
      exact vlanes
  case failed =>
    intro hq hc hh hk ho
    have hn : n < s.jobs.srcs.length := src_in_list (by simp [hq])
    refine ⟨s.modSrc n fun p => { p with qual := 1, cause := 7, vHist := p.vHist.take 1 }, ?_, ?_⟩
    · change execSourceQualified n s = _
      simp [execSourceQualified, hu, hq, hc, List.length_pos_iff, hh, hk, ho]
    · rw [State.src_modSrc_self hn]
      exact ⟨hq, rfl, rfl, rfl, (SrcAlone.modSrc n s _).others⟩
  case settled =>
    intro hq hc hi
    have hn : n < s.jobs.srcs.length := src_in_list (by simp [hq])
    have hne : (s.src n).st ≠ .ready := by simp [hq]
    let x := srcEnter n .ready none s
    have hx : SrcAlone n s x := .srcEnter n _ _ s
    have px : x.src n = (s.src n).entered .ready (s.src n).cause := srcEnter_src hn hne none
    have told : Told s x Ev.SOURCE_STATE (n * 2 ^ 8 + (s.src n).cause * 2 ^ 4 + 4) := by
      rw [show x = _ from srcEnter_change hne none]
      rfl
    refine ⟨if srcKind x n = 2 then icsStart n x else x, ?_, ?_⟩
    · change execSourceConnectSettled n s = _
      simp [execSourceConnectSettled, hu, hq, hc, hi, x]
    · split
      · rw [show (icsStart n x).src n = _ from State.src_modSrc_self (hx.length.symm ▸ hn) _, px]
        exact ⟨rfl, rfl, told, (hx.trans (.icsStart n x)).others⟩
      · rw [px]
        exact ⟨rfl, rfl, told, hx.others⟩
  case loss =>
    intro hr h0 hc
    obtain ⟨hst, hcause, hlane, hsw, halone⟩ := srcLeave_spec hr 1
    refine ⟨srcLeave n 1 s, ?_, hst, hcause, hlane, hsw, halone.others⟩
    change execSourceLoss n s = _
    simp [execSourceLoss, hu, hr, h0, hc]
  case dusk =>
    intro hr hk h0 hc
    obtain ⟨hst, hcause, hlane, -, halone⟩ := srcLeave_spec hr 2
    refine ⟨srcLeave n 2 s, ?_, hst, hcause, hlane, halone.others⟩
    change execDusk n s = _
    simp [execDusk, hu, hr, hk, h0, hc]
end

section
/-! The end of an MPPT period, of a sweep's dwell and of a period of the input-current search (R257, R259, R261). -/

namespace Sys2Proof.Machine

/-- An MPPT period of port n closed: its power is P_last, its sums start anew, and it is a candidate for P_AVAIL (R257, R269). -/
def periodClosed (n : Nat) (s : State) : State :=
  let p := s.src n
  let avail := pushPower s.age (divR p.sumAll p.perAge) p.pHist
  s.modSrc n fun p => { p.newPeriod with pLast := some (divR (s.src n).sumP (s.src n).nP), pHist := avail, pAvail := availOf s.age avail }

/-- What curtailing asks of a tracking port: V_ref steps up (R258). -/
def curtailStep (s : State) (n : Nat) (p : SrcPort) : SrcPort :=
  { p with vRef := boundRef s n (p.vRef + 100 * parI s gSRC n SRC.MPPT_STEP), dir := 1 }

/-- What the period's power asks of a tracking port that neither curtails nor is clamped: its direction and V_ref (R257). -/
def trackStep (s : State) (n : Nat) (q : Int) (p : SrcPort) : SrcPort :=
  let o := s.src n
  let dir := if 1024 * divR o.sumP o.nP < 1023 * q then -o.dir else o.dir
  let v := boundRef s n (o.vRef + dir * (100 * parI s gSRC n SRC.MPPT_STEP))
  { p with dir := dir, vRef := v, vmpp := vmppOf v, vmppAge := 0 }

variable {s : State} {n : Nat}

theorem SrcAlone.periodClosed (n : Nat) (s : State) : SrcAlone n s (periodClosed n s) := .modSrc n s _

theorem periodClosed_src (hn : n < s.jobs.srcs.length) :
    ((periodClosed n s).src n).pLast = some (divR (s.src n).sumP (s.src n).nP) ∧ ((periodClosed n s).src n).vRef = (s.src n).vRef ∧
      ((periodClosed n s).src n).perAge = 0 := by
  rw [show (periodClosed n s).src n = _ from State.src_modSrc_self hn _]
  exact ⟨rfl, rfl, rfl⟩

/-- A port changed once its period is closed: no other port moves, and the host side stands. -/
theorem periodClosed_modSrc (hn : n < s.jobs.srcs.length) (f : SrcPort → SrcPort) :
    ((periodClosed n s).modSrc n f).src n = f ((periodClosed n s).src n) ∧ SrcAlone n s ((periodClosed n s).modSrc n f) :=
  have h := SrcAlone.periodClosed n s
  ⟨State.src_modSrc_self (h.length.symm ▸ hn) f, h.trans (.modSrc n _ f)⟩

section
variable (hu : n < nIn s) (hk : srcKind s n = 1) (hr : srcRuns s n = true) (ht : (s.src n).track = true) (hs : (s.src n).sweep = none)
  (hp : par s gSRC n SRC.MPPT_PERIOD ≤ (s.src n).perAge) (h0 : 0 < (s.src n).nP)
include hu hk hr ht hs hp h0

/-- The first period only measures (R257). -/
theorem mpptPeriodStep_first (hl : (s.src n).pLast = none) : exec (.mpptPeriodStep n) s = .next (periodClosed n s) := by
  change execMpptPeriodStep n s = _
  simp [execMpptPeriodStep, hu, hk, hr, ht, hs, hp, h0, hl, periodClosed]

variable {q : Int} (hl : (s.src n).pLast = some q) (hh : srcHolds s n = false)
include hl hh

/-- A port that curtails steps V_ref up (R258). -/
theorem mpptPeriodStep_curtails (hc : (s.src n).curtail = true) :
    exec (.mpptPeriodStep n) s = .next ((periodClosed n s).modSrc n (curtailStep s n)) := by
  have hh' : srcHolds (periodClosed n s) n = false := hh
  change execMpptPeriodStep n s = _
  unfold periodClosed at hh'
  simp only [execMpptPeriodStep, hu, hk, hr, ht, hs, hp, h0, hl, hc, hh', decide_true, Option.isNone_none, Bool.and_self, Bool.false_and,
    Bool.false_eq_true, if_true, if_false]
  rfl

/-- A port that is not clamped over the whole period takes its step by the power (R257). -/
theorem mpptPeriodStep_tracks (hc : (s.src n).curtail = false) (hv : (s.src n).nClamp ≠ (s.src n).nV) :
    exec (.mpptPeriodStep n) s = .next ((periodClosed n s).modSrc n (trackStep s n q)) := by
  have hh' : srcHolds (periodClosed n s) n = false := hh
  change execMpptPeriodStep n s = _
  unfold periodClosed at hh'
  simp only [execMpptPeriodStep, hu, hk, hr, ht, hs, hp, h0, hl, hc, hv, hh', decide_true, Option.isNone_none, Bool.and_self, Bool.false_and,
    Bool.false_eq_true, if_true, if_false]
  rfl
end

/-- A sweep that has ended with V_ref at v (R259). -/
def SrcPort.swept (v : Int) (p : SrcPort) : SrcPort :=
  { p.newPeriod with sweep := none, vRef := v, vmpp := vmppOf v, vmppAge := 0, dir := -1, pLast := none, sweepFor := some 0 }

/-- The powers of a sweep with that of the dwell that ends (R259). -/
def Sweep.recorded (w : Sweep) : List Int := w.found ++ [divR (sumOf id w.pows) w.pows.length]

theorem sweepPoint_moves {w : Sweep} (hw : (s.src n).sweep = some w) (h0 : w.left = 0) (hk : w.k + 1 < par s gSRC n SRC.SWEEP_POINTS) :
    exec (.sweepPoint n) s = .next (s.modSrc n fun p => { p with
      sweep := some { w with k := w.k + 1, left := par s gSRC n SRC.SWEEP_DWELL, found := w.recorded, pows := [] } }) := by
  change execSweepPoint n s = _
  simp [execSweepPoint, hw, h0, hk, Sweep.recorded]

theorem sweepPoint_ends {w : Sweep} (hn : n < s.jobs.srcs.length) (hw : (s.src n).sweep = some w) (h0 : w.left = 0)
    (hk : par s gSRC n SRC.SWEEP_POINTS ≤ w.k + 1) :
    ∃ t, exec (.sweepPoint n) s = .next t ∧ t.src n = (s.src n).swept (sweepVolt s n w (bestPoint w.recorded)) ∧
      Told s t Ev.MPPT_SWEEP ((t.src n).vmpp * 2 ^ 16 + n) := by
  let x := dropSweepReqs n (s.modSrc n (SrcPort.swept (sweepVolt s n w (bestPoint w.recorded))))
  have hx : x.src n = (s.src n).swept (sweepVolt s n w (bestPoint w.recorded)) := State.src_modSrc_self hn _
  refine ⟨x.raise Ev.MPPT_SWEEP ((x.src n).vmpp * 2 ^ 16 + n), ?_, hx, rfl⟩
  change execSweepPoint n s = _
  have hlast : ¬ w.k + 1 < par s gSRC n SRC.SWEEP_POINTS := Nat.not_lt.mpr hk
  simp only [execSweepPoint, hw, h0, hlast, ne_eq, not_true_eq_false, if_false]
  rfl

end Sys2Proof.Machine

open Sys2Proof Sys2Proof.Machine

/-- Settles O19: each command is one change of its port (mpptPeriodStep_tracks, sweepPoint_ends), which no other port shares. -/
theorem mpptAndSearchRows : Obligations.MpptAndSearchRows := by
  intro s n hu hn
  refine ⟨fun hk hr ht hs hp h0 => ⟨?first, ?curtails, ?tracks⟩, fun w hw h0 => ⟨?moves, ?ends⟩, ?again, ?search⟩
  case first =>
    intro hl
    obtain ⟨hlast, href, hage⟩ := periodClosed_src hn
    exact ⟨periodClosed n s, mpptPeriodStep_first hu hk hr ht hs hp h0 hl, hlast, href, hage, rfl, (SrcAlone.periodClosed n s).others⟩
  case curtails =>
    intro q hl hh hc
    obtain ⟨hsrc, halone⟩ := periodClosed_modSrc hn (curtailStep s n)
    refine ⟨_, mpptPeriodStep_curtails hu hk hr ht hs hp h0 hl hh hc, ?_⟩
    obtain ⟨-, href, -⟩ := periodClosed_src hn
    rw [hsrc, ← href]
    exact ⟨rfl, rfl, rfl, halone.others⟩
  case tracks =>
    intro q hl hh hc hv
    obtain ⟨hsrc, halone⟩ := periodClosed_modSrc hn (trackStep s n q)
    refine ⟨_, mpptPeriodStep_tracks hu hk hr ht hs hp h0 hl hh hc hv, ?_⟩
    rw [hsrc]
    exact ⟨rfl, rfl, rfl, rfl, halone.others⟩
  case moves =>
    intro hk
    refine ⟨_, _, sweepPoint_moves hw h0 hk, congrArg SrcPort.sweep (State.src_modSrc_self hn _), rfl, rfl, ?_, rfl⟩
    simp [Sweep.recorded]
  case ends =>
    intro hk
    obtain ⟨t, hexec, hsrc, htold⟩ := sweepPoint_ends hn hw h0 hk
    refine ⟨t, hexec, ?_, ?_, ?_, ?_, htold⟩ <;> rw [hsrc] <;> rfl
  case again =>
    intro hk h0 hs hage
    let x := s.modSrc n fun p => if sweepCould s n then { p with wantSweep := true, sweepFor := none }
      else { p with againSweep := true, sweepFor := none }
    refine ⟨x, ?_, ?_⟩
    · change execSweepRepeat n s = _
      by_cases hc : sweepCould s n = true <;> simp [execSweepRepeat, hu, hk, h0, hs, hage, hc, x]
    · rw [show x.src n = _ from State.src_modSrc_self hn _]
      refine ⟨?_, ?_, rfl, (SrcAlone.modSrc n s _).others⟩ <;> split <;> rfl
  case search =>
    intro hk hon hm h0 hp hv
    let x := s.modSrc n fun p => { p with icsAge := 0, icsSumV := 0, icsSumI := 0 }
    have hx : SrcAlone n s x := .modSrc n s _
    let i := (s.src n).iRef - par s gSRC n SRC.ICS_BACKOFF
    have found : (icsFoundAt n i x).src n = { x.src n with iRef := i, icsFound := i, icsHold := true, icsT := 0 } :=
      State.src_modSrc_self (hx.length.symm ▸ hn) _
    refine ⟨icsFoundAt n i x, ?_, ?_⟩
    · change execIcsPeriodStep n s = _
      have hv' : (s.src n).icsSumV < 100 * parI x gSRC n SRC.V_MIN * (s.src n).icsAge := hv
      simp only [execIcsPeriodStep, hu, hk, hon, hm, h0, hp, ne_eq, not_false_eq_true, decide_true, Bool.and_self, if_true]
      exact congrArg Host.Outcome.next (if_pos hv')
    · rw [found]
      exact ⟨rfl, rfl, rfl, rfl, (hx.trans ((SrcAlone.modSrc n x _).trans (.of_srcs rfl))).others⟩
end

section
/-! How a seam begins, hands the link over and ends its ramp (R271 to R275, R575): what the link job then holds beside its loops. -/

namespace Sys2Proof.Machine

/-- The link job without its loops and their demand. -/
def LinkJob.offLoops (l : LinkJob) : LinkJob := { l with main := {}, cb := {}, sup := {}, ics := {}, demand := 0 }

/-- From s to t the link job has changed in its loops alone. -/
def SeatStands (s t : State) : Prop := t.jobs.link.offLoops = s.jobs.link.offLoops

/-- The link job when a target has taken the holder's role with its set-point at v (R273, R274). -/
def LinkJob.handed (target : Nat) (v : Int) (l : LinkJob) : LinkJob :=
  { l with
    holder := target, vset := v, slewing := true, seam := none, seamEnd := true, seams := incSat 32 l.seams
    swOpen := l.swOpen || (target = 0 && l.swlink) }

/-- A seam has begun: the request and the count of its failing frames are gone, and SEAM_BEGUN tells it (R271, R272). -/
def seamBegun (target : Nat) (forced : Bool) (s : State) : State :=
  (s.modLinkJob fun l => { l with seamFor := some 0, elect := none, failRun := 0 }).raise Ev.SEAM_BEGUN
    (b2n forced * 2 ^ 16 + s.jobs.link.holder * 2 ^ 8 + target)

variable {s t u : State}

theorem SeatStands.refl (s : State) : SeatStands s s := rfl

theorem SeatStands.trans (h : SeatStands s t) (g : SeatStands t u) : SeatStands s u := Eq.trans g h

theorem SeatStands.of_link (h : t.jobs.link = s.jobs.link) : SeatStands s t := congrArg LinkJob.offLoops h

theorem SeatStands.ite (c : Prop) [Decidable c] (h : SeatStands s t) (g : SeatStands s u) : SeatStands s (if c then t else u) := by
  split
  · exact h
  · exact g

theorem PortStep.seatStands (h : PortStep s t) : SeatStands s t := .of_link (by rw [h.eq])

theorem PortStep.srcOpen (n : Nat) (s : State) : PortStep s (srcOpen n s) := ⟨rfl, .of_host rfl⟩

theorem PortStep.srcCloseDirect (n : Nat) (s : State) : PortStep s (srcCloseDirect n s) := .ite _ ⟨rfl, .of_host rfl⟩

theorem PortStep.srcRelease (n : Nat) (s : State) : PortStep s (srcRelease n s) := .ite _ ((PortStep.srcEnter n _ _ s).trans (.srcOpen n _))

theorem PortStep.icsStart (n : Nat) (s : State) : PortStep s (icsStart n s) := .modSrc s n _

theorem PortStep.icsStop (n : Nat) (s : State) : PortStep s (icsStop n s) := .modSrc s n _

theorem setPackLoop_offLoops (s : State) (l : LinkJob) (u : Int) : (setPackLoop s l u).offLoops = l.offLoops := by
  unfold setPackLoop
  dsimp only
  split
  · rfl
  · split
    · rfl
    · split <;> rfl

theorem SeatStands.keepLane (n : Nat) (s : State) : SeatStands s (keepLane n s) := by
  unfold Machine.keepLane
  split <;> exact .of_link rfl

theorem SeatStands.keepLaneOf (o : Option Nat) (s : State) : SeatStands s (match o with | some n => Machine.keepLane n s | none => s) := by
  cases o with
  | none => exact .refl s
  | some n => exact .keepLane n s

/-- The role swap hands the link over; what it does to ports, lanes and loops leaves the rest of the link job (R273, R274). -/
theorem roleSwap_seat (old target : Nat) (forced : Bool) (s : State) :
    (roleSwap old target forced s).jobs.link.offLoops = (s.jobs.link.handed target (vLink s)).offLoops := by
  change SeatStands (s.modLinkJob (LinkJob.handed target (vLink s))) (roleSwap old target forced s)
  unfold roleSwap
  extract_lets l dem handed left closed taken looped keptOld kept released
  have hleft : SeatStands handed left := .ite _ ((PortStep.icsStop _ _).trans (.srcOpen _ _)).seatStands (.refl _)
  clear_value left
  have htaken : SeatStands left taken :=
    have hclosed : SeatStands left closed := (PortStep.srcCloseDirect _ _).seatStands
    .ite _ (.ite _ hclosed (hclosed.trans (PortStep.icsStart _ _).seatStands)) (.refl _)
  clear_value taken
  have hlooped : SeatStands taken looped := .ite _ rfl (setPackLoop_offLoops _ _ _)
  clear_value looped
  have hkept : SeatStands looped kept := (SeatStands.keepLaneOf _ _).trans (.keepLaneOf _ _)
  clear_value kept
  have hreleased : SeatStands kept released := .ite _ (PortStep.srcRelease _ _).seatStands (.refl _)
  clear_value released
  exact (((hleft.trans htaken).trans hlooped).trans hkept).trans (hreleased.trans (.of_link rfl))

/-- A seam between holders that are no direct inputs, and a forced one, is the role swap alone (R272, R273). -/
theorem seamBegin_swaps {target : Nat} {forced : Bool}
    (h : forced = true ∨ directCode s target = false ∧ directCode s s.jobs.link.holder = false) :
    seamBegin target forced s = roleSwap s.jobs.link.holder target forced (seamBegun target forced s) := by
  unfold seamBegin
  extract_lets old begun start out
  split
  next => rfl
  next hno =>
    obtain ⟨ht, ho⟩ := h.resolve_left fun hf => hno (by simp [hf])
    exact (if_neg (Bool.eq_false_iff.mp ht)).trans (if_neg (Bool.eq_false_iff.mp ho))

/-- A seam to a direct input closes its switch and settles (R273). -/
theorem seamBegin_settles {target : Nat} (ht : directCode s target = true) (hh : s.jobs.link.holder ≠ 0) :
    seamBegin target false s = (srcCloseDirect (target - 4) (seamBegun target false s)).modLinkJob fun l => { l with
      seam := some ⟨s.jobs.link.holder, target, false, 1, 0, 0, false⟩, ics := {} } := by
  have h4 : 4 ≤ target := by
    by_contra h
    simp [directCode, h] at ht
  have h0 : target ≠ 0 := by omega
  have h2 : target ≠ 2 := by omega
  have hno : ¬ (false || s.jobs.link.holder = 0 || target = 0 || target = 2) = true := by simp [hh, h0, h2]
  exact (if_neg hno).trans (if_pos ht)

/-- What the link job holds once an elective or forced seam was the role swap alone. -/
theorem seamBegin_swaps_link {target : Nat} {forced : Bool}
    (h : forced = true ∨ directCode s target = false ∧ directCode s s.jobs.link.holder = false) :
    (seamBegin target forced s).jobs.link.offLoops =
      ({ s.jobs.link with seamFor := some 0, elect := none, failRun := 0 }.handed target (vLink s)).offLoops := by
  rw [seamBegin_swaps h, roleSwap_seat]
  rfl

/-- A holder has failed: HOLD_FAIL tells it with a record, and the count begins again (R272). -/
def holdFailed (s : State) : State := (s.modLinkJob fun l => { l with failRun := 0 }).raiseRec Ev.HOLD_FAIL s.jobs.link.holder

/-- The failure of a holder leaves the link job but its count, and the target of a forced seam. -/
theorem holdFailed_spec (s : State) :
    (holdFailed s).jobs.link = { s.jobs.link with failRun := 0 } ∧ forcedTarget (holdFailed s) = forcedTarget s := by
  obtain ⟨r, hrec⟩ := State.raiseRec_eq (s.modLinkJob fun l => { l with failRun := 0 }) Ev.HOLD_FAIL s.jobs.link.holder
  rw [show holdFailed s = _ from hrec]
  exact ⟨rfl, rfl⟩

/-- A switch closed by a seam is closed where its port is READY and nothing holds the switches open (R250, R574). -/
theorem srcCloseDirect_ready {n : Nat} (hn : n < s.jobs.srcs.length) (hr : (s.src n).st = .ready) (hh : switchesHeld s = false)
    (hs : s.jobs.safe.safenLow = false) : ((srcCloseDirect n s).src n).sw = true := by
  rw [show srcCloseDirect n s = srcClose n s from if_pos (by simp [hr, hh, hs]), srcClose_src hn]

theorem srcCloseDirect_not_ready {n : Nat} (hr : (s.src n).st ≠ .ready) : srcCloseDirect n s = s := if_neg (by simp [hr])

/-- The end of a ramp leaves the role swap pending; the holder and the host side stand (R273). -/
theorem rampEnd_fields (m : Seam) (s : State) :
    (rampEnd m s).jobs.link = { s.jobs.link with seam := some { m with step := 3 } } ∧ (rampEnd m s).host = s.host := by
  unfold rampEnd
  dsimp only
  split <;> exact ⟨rfl, rfl⟩

/-- The end of a ramp opens the switch of a direct input that is left (R273). -/
theorem rampEnd_opens {m : Seam} (h : directCode s m.old = true) : ((rampEnd m s).src (m.old - 4)).sw = false := by
  rw [show rampEnd m s = srcOpen (m.old - 4) (s.modLinkJob fun l => { l with seam := some { m with step := 3 } }) from if_pos h]
  exact srcOpen_sw _ _

end Sys2Proof.Machine

open Sys2Proof Sys2Proof.Machine

/-- Settles O20: a seam begins as the role swap (seamBegin_swaps_link) or by settling (seamBegin_settles); rampEnd ends its ramp. -/
theorem seamRows : Obligations.SeamRows := by
  intro s
  refine ⟨?policy, fun c f he hf hs hc hu => ⟨?swaps, ?settles⟩, fun hh h0 hp => ⟨?forced, ?hurried⟩,
    fun m hm => ⟨?settled, ?meets, ?left, ?timeout⟩⟩
  case policy =>
    intro hl hr hf hc hs hg hu hd
    change execPolicyEvaluation s = .next (s.modLinkJob fun l => { l with elect := some (policyChoice s, s.frame + 1) })
    simp only [execPolicyEvaluation, hl, hr, hf, hs, hg, hu, hd, ne_eq, hc, not_false_eq_true, decide_true, Option.isNone_none,
      Bool.false_and, Bool.not_false, Bool.and_self, if_true]
  case swaps =>
    intro ht hh
    have hlink := seamBegin_swaps_link (forced := false) (.inr ⟨ht, hh⟩)
    refine ⟨seamBegin c false s, ?_, congrArg LinkJob.holder hlink, congrArg LinkJob.seam hlink, congrArg LinkJob.elect hlink,
      congrArg LinkJob.seamFor hlink, congrArg LinkJob.seams hlink, congrArg LinkJob.vset hlink⟩
    change execElectiveSeamBegin s = _
    simp [execElectiveSeamBegin, he, hf, hs, hc, hu]
  case settles =>
    intro ht hh
    let x := seamBegun c false s
    have hexec : exec .electiveSeamBegin s = .next (seamBegin c false s) := by
      change execElectiveSeamBegin s = _
      simp [execElectiveSeamBegin, he, hf, hs, hc, hu]
    have hlink : (srcCloseDirect (c - 4) x).jobs.link = x.jobs.link := by rw [(PortStep.srcCloseDirect (c - 4) x).eq]
    rw [seamBegin_settles ht hh] at hexec
    refine ⟨_, _, hexec, rfl, rfl, rfl, rfl, rfl, (congrArg LinkJob.holder hlink).trans rfl,
      (congrArg LinkJob.elect hlink).trans rfl, ?_, ?_⟩
    · intro hr hheld hlow hn
      exact srcCloseDirect_ready (s := x) hn hr hheld hlow
    · intro hr
      have hstands : srcCloseDirect (c - 4) x = x := srcCloseDirect_not_ready (s := x) hr
      exact (congrArg (fun z : State => (z.src (c - 4)).sw) hstands).trans rfl
  case forced =>
    intro hs
    let x := holdFailed s
    obtain ⟨xlink, xtarget⟩ := holdFailed_spec s
    have hlink := seamBegin_swaps_link (s := x) (target := forcedTarget x) (forced := true) (.inl rfl)
    rw [xlink] at hlink
    refine ⟨seamBegin (forcedTarget x) true x, ?_, (congrArg LinkJob.holder hlink).trans xtarget, congrArg LinkJob.failRun hlink,
      congrArg LinkJob.seam hlink, congrArg LinkJob.seams hlink⟩
    change execHoldFail s = _
    simp only [execHoldFail, hs, hh, h0, hp, ne_eq, not_false_eq_true, decide_true, Bool.and_self, if_true]
    rfl
  case hurried =>
    intro m hm
    obtain ⟨hlink, -⟩ := holdFailed_spec s
    refine ⟨(holdFailed s).modLinkJob fun l => { l with seam := some { m with hurry := true }, force := some 4 }, ?_, rfl, rfl,
      (congrArg LinkJob.holder hlink).trans rfl⟩
    change execHoldFail s = _
    simp only [execHoldFail, hm, hh, h0, hp, ne_eq, not_false_eq_true, decide_true, Bool.and_self, if_true]
    rfl
  case settled =>
    intro h1 ha
    change execSeamSwitchSettled s = _
    have hguard : (m.step = 1 && par s gSRC (m.target - 4) SRC.SW_SETTLE ≤ m.age + 1) = true := by
      simpa [h1] using Nat.le_succ_of_le ha
    simp only [execSeamSwitchSettled, hm, hguard, if_true]
    rfl
  case meets =>
    intro h2 ht h0 hr
    obtain ⟨hlink, -⟩ := rampEnd_fields m s
    refine ⟨rampEnd m s, ?_, congrArg LinkJob.seam hlink, (congrArg LinkJob.holder hlink).trans rfl⟩
    change execSeamRampEnd s = _
    simp [execSeamRampEnd, hm, h2, ht, h0, hr]
  case left =>
    intro h2 ht hv ho
    obtain ⟨hlink, -⟩ := rampEnd_fields m s
    refine ⟨rampEnd m s, ?_, congrArg LinkJob.seam hlink, rampEnd_opens ho⟩
    change execSeamRampEnd s = _
    simp [execSeamRampEnd, hm, h2, ht, hv]
  case timeout =>
    intro h2 ha
    obtain ⟨hlink, hhost⟩ := rampEnd_fields m s
    refine ⟨rampEnd m s, ?_, congrArg LinkJob.seam hlink, (congrArg LinkJob.holder hlink).trans rfl, hhost⟩
    change execSeamTimeout s = _
    simp [execSeamTimeout, hm, h2, ha]
end

section
/-! SWLINK and LINKLOWn (R268, R279). -/

namespace Sys2Proof.Machine

/-- A parameter of a single word holds what the block has set it to (R16, R70). -/
theorem par_of_setPar {s t : State} {g i k v : Nat}
    (hone : ∀ big, (paramAt big (pid g i k)).any (fun d => d.words == 1 && firstId d (pid g i k) == pid g i k) = true)
    (h : t.params = (s.setPar g i k v).params) (hv : v < 2 ^ 16) : par t g i k = v := by
  obtain ⟨d, hpar, hd⟩ := (Option.any_eq_true _ _).mp (hone t.ident.big)
  obtain ⟨hwords, hfirst⟩ : d.words = 1 ∧ firstId d (pid g i k) = pid g i k := by simpa using hd
  have hval : assocGet t.params.vals (pid g i k) = some (BitVec.ofNat 16 v) := by
    rw [h]
    exact assocGet_assocSet_self _ _ _
  simpa [par, hpar, hfirst, valBits, hval, hwords, listed, ofWords] using hv

/-- SRC[4].SWLINK_REQ reads 0 once SWLINK has been closed (R268). -/
theorem swlinkClose_request (s : State) : par (swlinkClose s) gSRC 4 SRC.SWLINK_REQ = 0 :=
  par_of_setPar (s := s) (by decide +kernel) rfl (by decide)

end Sys2Proof.Machine

open Sys2Proof Sys2Proof.Machine

/-- Settles O21: each command passes its guard; the request of SWLINK reads 0 again by swlinkClose_request. -/
theorem linkSwitchRows : Obligations.LinkSwitchRows := by
  intro s
  refine ⟨?closes, ?asserts, ?releases⟩
  case closes =>
    intro hh hw hs hu hheld
    refine ⟨swlinkClose s, ?_, rfl, rfl, swlinkClose_request s, rfl, rfl, rfl, rfl⟩
    change execSwlinkClose s = _
    simp [execSwlinkClose, hh, hw, hs, hu, hheld]
  case asserts =>
    intro hl h0 hp
    refine ⟨((s.modLinkJob fun l => { l with lown := true }).modOuts fun o => { o with lown := true }).raise Ev.LINK_LOW
      (2 ^ 8 + s.jobs.link.lownMask), ?_, rfl, rfl, rfl, rfl⟩
    change execLinklownAssert s = _
    simp [execLinklownAssert, hl, h0, hp]
  case releases =>
    intro hl h0 hp
    refine ⟨((s.modLinkJob fun l => { l with lown := false }).modOuts fun o => { o with lown := false }).raise Ev.LINK_LOW 0,
      ?_, rfl, rfl, rfl, rfl⟩
    change execLinklownRelease s = _
    simp [execLinklownRelease, hl, h0, hp]
end

section
/-! What the operations of a session make of a pack and leave to the others (R295, R306, R309, R311). -/

namespace Sys2Proof.Machine

/-- From s to t no pack but p has moved. -/
structure PackAlone (p : Nat) (s t : State) : Prop where
  length : t.jobs.packs.length = s.jobs.packs.length
  others : ∀ q, q ≠ p → t.pack q = s.pack q

/-- A pack whose capacity test, if it was in one, has ended (R309). -/
def Pack.testOver (k : Pack) : Pack := if k.test.isNone then k else { k with test := none, testWant := false }

/-- A pack that enters a phase with a cause: the counts of the phase it leaves begin again (R295, R299). -/
def Pack.entered (ph : PkPh) (c : Nat) (k : Pack) : Pack :=
  { k with
    ph := ph, cause := c, connect := false, qual := 0, run1 := 0, termRun := 0, mntRun := 0, supRun := 0, noSupRun := 0, inPh := 0
    reported := if ph = .qualify && k.ph ≠ .qualify then 0 else k.reported
    preClk := if ph = .precharge then 0 else k.preClk
    chgClk := if ph = .cc && !keepsClock k then 0 else k.chgClk
    topFor := none, topWant := decide (ph = .taper), resume := if ph = .supply then k.ph else k.resume }

/-- A pack after its session: what R311 keeps, and whether a test has been asked for (R309). -/
def Pack.sessionless (k : Pack) : Pack := { retries := k.retries, ahThru := k.ahThru, capMeas := k.capMeas, testWant := k.testWant }

/-- A pack without what the split of the demand gives it (R303). -/
def Pack.unshared (k : Pack) : Pack := { k with share := 0, uDem := 0, free := { k.free with u := 0 } }

variable {s t u : State} {p q n : Nat}

theorem pack_of_packs (h : t.jobs.packs = s.jobs.packs) (q : Nat) : t.pack q = s.pack q := by rw [State.pack, State.pack, h]

theorem PackAlone.of_packs (h : t.jobs.packs = s.jobs.packs) : PackAlone p s t := ⟨by rw [h], fun q _ => pack_of_packs h q⟩

theorem PackAlone.trans (h : PackAlone p s t) (g : PackAlone p t u) : PackAlone p s u :=
  ⟨g.length.trans h.length, fun q hq => (g.others q hq).trans (h.others q hq)⟩

theorem PackAlone.modPack (p : Nat) (s : State) (f : Pack → Pack) : PackAlone p s (s.modPack p f) :=
  ⟨modAt_length _ _ _, fun _ hq => State.pack_modPack_ne hq f⟩

/-- A pack that is not as after reset is in the list. -/
theorem pack_in_list (h : s.pack p ≠ {}) : p < s.jobs.packs.length := getD_ne_default h

theorem session_in_list (h : (s.pack p).ph ≠ .absent) : p < s.jobs.packs.length := pack_in_list fun hd => h (by rw [hd])

/-- A row of a pack that a pack lane serves acts where its condition holds (R284). -/
theorem onPack_acts {cond : State → Pack → Nat → Bool} (hl : packLane s p = some n) (hp : p < nPp s) (hc : cond s (s.pack p) n = true)
    (f : State → State) : onPack p cond f s = f s := by
  simp [onPack, hl, hp, hc]

/-! Anchors and tests (R306, R309). -/

theorem PackAlone.anchor (p src soc : Nat) (s : State) : PackAlone p s (anchor p src soc s) := (PackAlone.modPack p s _).trans (.of_packs rfl)

theorem anchor_pack (hp : p < s.jobs.packs.length) (src soc : Nat) :
    (anchor p src soc s).pack p = { s.pack p with soc := soc, socSet := true, unanch := (s.pack p).unanch && src == 3 } :=
  State.pack_modPack_self hp _

/-- A test that ends incomplete is told without a measured capacity (R319). -/
theorem testEnd_told {x code : Nat} (ht : (s.pack p).test = some x) (hc : code ≠ 0) :
    Told s (testEnd p code s) Ev.CAPTEST_DONE (p * 2 ^ 8 + code) := by
  have he : testEnd p code s = ((s.modPack p fun k => { k with test := none, testWant := false }).setPar gCHG p CHG.CAPTEST_REQ 0).raise
      Ev.CAPTEST_DONE (p * 2 ^ 8 + code) := by simp [testEnd, ht, hc]
  rw [he]
  rfl

theorem PackAlone.testEnd (p code : Nat) (s : State) : PackAlone p s (testEnd p code s) := by
  unfold Machine.testEnd
  split
  · exact .of_packs rfl
  · exact (PackAlone.modPack p s _).trans (.of_packs rfl)

theorem testEnd_pack (hp : p < s.jobs.packs.length) (code : Nat) : (testEnd p code s).pack p = (s.pack p).testOver := by
  unfold testEnd Pack.testOver
  split
  · rfl
  · exact State.pack_modPack_self hp _

theorem Pack.testOver_test (k : Pack) : k.testOver.test = none := by
  unfold Pack.testOver
  split
  next h => simpa using h
  next => rfl

/-- A pack that is in no test is as it was. -/
theorem Pack.testOver_of_none {k : Pack} (h : k.test = none) : k.testOver = k := if_pos (by simp [h])

/-- The end of a test leaves what outlasts a session (R311). -/
theorem Pack.testOver_kept (k : Pack) : k.testOver.retries = k.retries ∧ k.testOver.ahThru = k.ahThru := by
  unfold Pack.testOver
  split <;> exact ⟨rfl, rfl⟩

/-! Entering a phase (R295). -/

/-- The packs after a phase is entered: the pack that enters it, out of its test where it leaves SUPPLY. -/
theorem packEnter_packs (p : Nat) (ph : PkPh) (cause : Option Nat) (s : State) :
    ∃ z : State, z.jobs.packs = (s.modPack p (Pack.entered ph (cause.getD (s.pack p).cause))).jobs.packs ∧
      (packEnter p ph cause s).jobs.packs =
        (if (s.pack p).ph = .supply && ph ≠ .supply then testEnd p 2 z else z).jobs.packs := by
  let e := s.modPack p (Pack.entered ph (cause.getD (s.pack p).cause))
  refine ⟨if (s.pack p).ph = .taper && ph ≠ .taper then e.setPar gCHG p CHG.TOPOFF_REQ 0 else e, ?_, ?_⟩
  · split <;> rfl
  · unfold packEnter
    dsimp only
    split <;> rfl

theorem PackAlone.packEnter (p : Nat) (ph : PkPh) (cause : Option Nat) (s : State) : PackAlone p s (packEnter p ph cause s) := by
  obtain ⟨z, hz, he⟩ := packEnter_packs p ph cause s
  have alone : PackAlone p s z := (PackAlone.modPack p s _).trans (.of_packs hz)
  split at he
  · exact alone.trans ((PackAlone.testEnd p 2 z).trans (.of_packs he))
  · exact alone.trans (.of_packs he)

theorem packEnter_pack (hp : p < s.jobs.packs.length) (ph : PkPh) (cause : Option Nat) :
    (packEnter p ph cause s).pack p =
      if (s.pack p).ph = .supply && ph ≠ .supply then ((s.pack p).entered ph (cause.getD (s.pack p).cause)).testOver
      else (s.pack p).entered ph (cause.getD (s.pack p).cause) := by
  obtain ⟨z, hz, he⟩ := packEnter_packs p ph cause s
  have hzp : z.pack p = (s.pack p).entered ph (cause.getD (s.pack p).cause) := (pack_of_packs hz p).trans (State.pack_modPack_self hp _)
  rw [pack_of_packs he p]
  split
  · rw [testEnd_pack (by rw [hz]; simpa using hp), hzp]
  · exact hzp

/-- A pack that is in no test enters a phase. -/
theorem packEnter_untested (hp : p < s.jobs.packs.length) (ht : (s.pack p).test = none) (ph : PkPh) (cause : Option Nat) :
    (packEnter p ph cause s).pack p = (s.pack p).entered ph (cause.getD (s.pack p).cause) := by
  rw [packEnter_pack hp, Pack.testOver_of_none (k := (s.pack p).entered ph _) ht, ite_self]

/-! The end of a session and the split of the demand (R303, R311). -/

theorem PackAlone.packOpen (p : Nat) (s : State) : PackAlone p s (packOpen p s) := (PackAlone.modPack p s _).trans (.of_packs rfl)

theorem packOpen_pack (hp : p < s.jobs.packs.length) : (packOpen p s).pack p = { s.pack p with swFor := none, openLater := false } :=
  State.pack_modPack_self hp _

/-- A session that ends leaves its pack out of its test and without what the session held. -/
theorem packEnd_spec (hp : p < s.jobs.packs.length) :
    (packEnd p s).pack p = (s.pack p).testOver.sessionless ∧ PackAlone p s (packEnd p s) := by
  let x := if (s.pack p).ph = .taper then s.setPar gCHG p CHG.TOPOFF_REQ 0 else s
  have hxs : x.jobs.packs = s.jobs.packs := by
    dsimp only [x]
    split <;> rfl
  have hx : PackAlone p s x := .of_packs hxs
  have hy : PackAlone p s (testEnd p 2 x) := hx.trans (.testEnd p 2 x)
  have hz : PackAlone p s (packOpen p (testEnd p 2 x)) := hy.trans (.packOpen p _)
  refine ⟨?_, hz.trans (.modPack p _ _)⟩
  have he : (packEnd p s).pack p = ((packOpen p (testEnd p 2 x)).pack p).sessionless := State.pack_modPack_self (hz.length.symm ▸ hp) _
  rw [he, packOpen_pack (hy.length.symm ▸ hp), testEnd_pack (hx.length.symm ▸ hp), pack_of_packs hxs]
  rfl

/-- What f leaves of every pack, a change of one pack by f leaves of each, also where that one is not in the list. -/
theorem pack_modPack_view {α : Type} {g : Pack → α} {f : Pack → Pack} (h : ∀ k, g (f k) = g k) (p q : Nat) (s : State) :
    g ((s.modPack p f).pack q) = g (s.pack q) := by
  by_cases hq : q = p
  · subst hq
    by_cases hp : q < s.jobs.packs.length
    · rw [State.pack_modPack_self hp, h]
    · simp [State.pack, modAt, List.getD_eq_getElem?_getD, List.getElem?_eq_none (Nat.le_of_not_lt hp)]
  · rw [State.pack_modPack_ne hq]

/-- A split of the demand moves nothing of a pack but its shares (R303). -/
theorem linkS6_unshared (s : State) (q : Nat) : ((linkS6 s).pack q).unshared = (s.pack q).unshared := by
  unfold linkS6
  refine foldl_rel (R := fun s t : State => (t.pack q).unshared = (s.pack q).unshared) (fun _ => rfl) (fun h g => Eq.trans g h) _ _
    (fun z p => ?_) s
  refine pack_modPack_view (g := Pack.unshared) ?_ p q z
  exact fun _ => rfl

/-! Removal (R310, R311). -/

/-- The lane of a pack that is removed, out of whatever state it was in. -/
def laneTaken (n : Nat) (s : State) : State :=
  if (s.lane n).st = .off then s
  else (laneOffNow n (some 5) s).modLane n fun l => { l with attempt := if l.st = .retry then 0 else l.attempt, stopped := false, restart := none }

/-- A removal told with its cause, and the soft reset that a STOP or a collapse brings to the port. -/
def removalTold (p cause : Nat) (s : State) : State :=
  let z := if cause = 2 || cause = 3 then s.raiseRec Ev.PACK_REMOVED (p * 2 ^ 8 + cause) else s.raise Ev.PACK_REMOVED (p * 2 ^ 8 + cause)
  if cause = 2 || cause = 3 then softReset p 6 z else z

theorem packRemove_eq (hl : packLane s p = some n) (hk : (s.pack p).ph ≠ .absent) (cause : Nat) :
    packRemove p cause s =
      removalTold p cause (linkS6 ((packEnd p (laneTaken n s)).modPack p fun k => { k with holdoff := some 0 })) := by
  unfold packRemove
  rw [hl]
  exact if_neg hk

theorem LaneStep.laneTaken (n : Nat) (s : State) : LaneStep s (laneTaken n s) := by
  unfold Machine.laneTaken
  split
  · exact .refl s
  · exact (LaneStep.laneOffNow n _ s).trans (.modLane _ n _)

theorem lanePhasesLow_lanes (s : State) (n : Nat) : (lanePhasesLow s n).jobs.lanes = s.jobs.lanes :=
  foldl_rel (R := fun s t : State => t.jobs.lanes = s.jobs.lanes) (fun _ => rfl) (fun h g => Eq.trans g h) _ _ (fun _ _ => by rfl) s

/-- A lane taken OFF at once is OFF, and no other lane has moved (R183). -/
theorem laneOffNow_spec (hn : n < s.jobs.lanes.length) (cause : Option Nat) :
    ((laneOffNow n cause s).lane n).st = .off ∧ LaneAlone n s (laneOffNow n cause s) := by
  have hz : LaneAlone n s (setLnen n false (lanePhasesLow s n)) := (LaneAlone.of_lanes (lanePhasesLow_lanes s n)).trans (.setLnen n false _)
  exact ⟨(laneEnter_lane (hz.length.symm ▸ hn) .off cause).st, hz.trans (.laneEnter n .off cause _)⟩

theorem laneTaken_off (n : Nat) (s : State) : ((laneTaken n s).lane n).st = .off := by
  unfold laneTaken
  split
  next h => exact h
  next h =>
    have hn : n < s.jobs.lanes.length := lane_in_list h
    obtain ⟨hoff, alone⟩ := laneOffNow_spec hn (some 5)
    rw [State.lane_modLane_self (alone.length.symm ▸ hn)]
    exact hoff

theorem PortMoves.softReset (p cause : Nat) (s : State) : PortMoves p s (softReset p cause s) := by
  unfold Machine.softReset
  split
  case h_4 => exact .refl p s
  all_goals exact (PortMoves.softBegin p cause s).trans (.portSend p _ _ _)

/-- Telling a removal moves neither packs nor lanes. -/
theorem removalTold_jobs (p cause : Nat) (s : State) :
    (removalTold p cause s).jobs.packs = s.jobs.packs ∧ (removalTold p cause s).jobs.lanes = s.jobs.lanes := by
  have reset (z : State) : (softReset p 6 z).jobs.packs = z.jobs.packs ∧ (softReset p 6 z).jobs.lanes = z.jobs.lanes := by
    rw [(PortMoves.softReset p 6 z).eq]
    exact ⟨rfl, rfl⟩
  unfold removalTold
  dsimp only
  split
  · obtain ⟨r, hr⟩ := s.raiseRec_eq Ev.PACK_REMOVED (p * 2 ^ 8 + cause)
    rw [hr]
    exact reset _
  · exact ⟨rfl, rfl⟩

/-- A pack that is removed: its session is over and its hold-off begun, and its lane is OFF (R311). -/
theorem packRemove_spec (hl : packLane s p = some n) (hk : (s.pack p).ph ≠ .absent) (cause : Nat) :
    ((packRemove p cause s).pack p).unshared = { (s.pack p).testOver.sessionless with holdoff := some 0 }.unshared ∧
      ((packRemove p cause s).lane n).st = .off := by
  let x := laneTaken n s
  let z := (packEnd p x).modPack p fun k => { k with holdoff := some 0 }
  obtain ⟨hpacks, hlanes⟩ := removalTold_jobs p cause (linkS6 z)
  have hxs : x.jobs.packs = s.jobs.packs := by
    dsimp only [x]
    rw [(LaneStep.laneTaken n s).eq]
  have hx : p < x.jobs.packs.length := hxs ▸ session_in_list hk
  obtain ⟨hended, alone⟩ := packEnd_spec hx
  have hz : z.pack p = { (s.pack p).testOver.sessionless with holdoff := some 0 } := by
    rw [← pack_of_packs hxs p, ← hended]
    exact State.pack_modPack_self (alone.length.symm ▸ hx) _
  have hstep : PortStep x (linkS6 z) := ((PortStep.packEnd p x).trans (.modPack _ p _)).trans (.linkS6 z)
  have hlx : (linkS6 z).jobs.lanes = x.jobs.lanes := by rw [hstep.eq]
  rw [packRemove_eq hl hk, pack_of_packs hpacks, linkS6_unshared, hz, State.lane, hlanes, hlx]
  exact ⟨rfl, laneTaken_off n s⟩

end Sys2Proof.Machine

open Sys2Proof Sys2Proof.Machine

/-- Settles O23: each command passes its guard (onPack_acts), and what it makes of the pack is anchor_pack, testEnd_pack,
packEnter_untested or packRemove_spec. -/
theorem packAnchorAndRemovalRows : Obligations.PackAnchorAndRemovalRows := by
  refine ⟨fun s p n hl hp hk => ?_, fun s p x hx ha => ?holdoffEnds⟩
  have hin : p < s.jobs.packs.length := session_in_list hk
  refine ⟨?ocv, ?floor, ?testFloor, ?testLimit, ?collapse⟩
  case ocv =>
    intro v ha h0 hv
    have alone : PackAlone p s (anchor p 2 v s) := .anchor p 2 v s
    refine ⟨(anchor p 2 v s).modPack p fun k => { k with ocvRun := 0 }, ?_, ?_⟩
    · change execSocAnchorOcv p s = _
      rw [execSocAnchorOcv, onPack_acts hl hp (by simp [hk, ha, h0]), hv]
    · rw [State.pack_modPack_self (alone.length.symm ▸ hin), anchor_pack hin]
      exact ⟨rfl, Bool.and_false _, rfl, rfl, rfl, (alone.trans (.modPack p _ _)).others⟩
  case floor =>
    intro hr
    have alone : PackAlone p s (anchor p 4 0 s) := .anchor p 4 0 s
    refine ⟨(anchor p 4 0 s).modPack p fun k => { k with flrRun := 0 }, ?_, ?_⟩
    · change execSocAnchorFloor p s = _
      rw [execSocAnchorFloor, onPack_acts hl hp (by simp [hk, hr])]
    · rw [State.pack_modPack_self (alone.length.symm ▸ hin), anchor_pack hin]
      exact ⟨rfl, rfl, rfl, rfl, (alone.trans (.modPack p _ _)).others⟩
  case testFloor =>
    intro x ht hr
    let a := s.modPack p fun k => { k with capMeas := fitU 16 (divR k.testAh 36000000000) }
    let b := testEnd p 0 (anchor p 4 0 a)
    let c := b.modPack p fun k => { k with flrRun := 0 }
    have ha : PackAlone p s a := .modPack p s _
    have hm : PackAlone p s (anchor p 4 0 a) := ha.trans (.anchor p 4 0 a)
    have hb : PackAlone p s b := hm.trans (.testEnd p 0 _)
    have hc : PackAlone p s c := hb.trans (.modPack p b _)
    have pa : a.pack p = { s.pack p with capMeas := fitU 16 (divR (s.pack p).testAh 36000000000) } := State.pack_modPack_self hin _
    have pb : b.pack p = ((anchor p 4 0 a).pack p).testOver := testEnd_pack (hm.length.symm ▸ hin) 0
    have pc : c.pack p = { b.pack p with flrRun := 0 } := State.pack_modPack_self (hb.length.symm ▸ hin) _
    have hkept : (b.pack p).soc = 0 ∧ (b.pack p).capMeas = fitU 16 (divR (s.pack p).testAh 36000000000) := by
      rw [pb, anchor_pack (ha.length.symm ▸ hin), pa, Pack.testOver, if_neg (by simp [ht])]
      exact ⟨rfl, rfl⟩
    obtain ⟨hsoc, hmeas⟩ := hkept
    have htest : (b.pack p).test = none := pb ▸ Pack.testOver_test _
    refine ⟨packEnter p .cc none c, ?_, ?_⟩
    · change execCaptestFloorReached p s = _
      rw [execCaptestFloorReached, onPack_acts hl hp (by simp [ht, hr])]
    · rw [packEnter_untested (hc.length.symm ▸ hin) ((congrArg Pack.test pc).trans htest), pc]
      exact ⟨htest, rfl, hsoc, hmeas, (hc.trans (.packEnter p .cc none c)).others⟩
  case testLimit =>
    intro x ht hr
    refine ⟨testEnd p 1 s, ?_, ?_⟩
    · change execCaptestTimeout p s = _
      rw [execCaptestTimeout, onPack_acts hl hp (by simp [ht, hr])]
    · rw [testEnd_pack hin, Pack.testOver, if_neg (by simp [ht])]
      exact ⟨rfl, rfl, rfl, rfl, testEnd_told ht (by decide), (PackAlone.testEnd p 1 s).others⟩
  case collapse =>
    intro hc _
    obtain ⟨hpack, hlane⟩ := packRemove_spec hl hk 3
    obtain ⟨hretries, hthru⟩ := (s.pack p).testOver_kept
    refine ⟨packRemove p 3 s, ?_, congrArg Pack.ph hpack, congrArg Pack.holdoff hpack, (congrArg Pack.retries hpack).trans hretries,
      (congrArg Pack.ahThru hpack).trans hthru, hlane⟩
    change execPackRemovalCollapse p s = _
    rw [execPackRemovalCollapse, onPack_acts hl hp (by simp [hk, hc])]
  case holdoffEnds =>
    have hin : p < s.jobs.packs.length := pack_in_list fun hd => by simp [hd] at hx
    refine ⟨s.modPack p fun k => { k with holdoff := none }, ?_, State.pack_modPack_self hin _, rfl, (PackAlone.modPack p s _).others⟩
    change execPackHoldoffEnd p s = _
    simp [execPackHoldoffEnd, hx, ha]
end

section
/-! What the operations of a partner port make of the port's own record (R331, R337, R338): each that raises no event is one change of it. -/

namespace Sys2Proof.Machine

/-- A change of a port reads that port alone. -/
theorem State.modPort_congr {s : State} {p : Nat} {f g : PtPort → PtPort} (h : f (s.port p) = g (s.port p)) : s.modPort p f = s.modPort p g := by
  have hl : modAt s.jobs.ports p f = modAt s.jobs.ports p g := by
    refine List.ext_getElem? fun k => ?_
    rw [modAt, modAt, List.getElem?_modify, List.getElem?_modify]
    split
    next hk =>
      subst hk
      rcases hx : s.jobs.ports[p]? with _ | x
      · rfl
      · have hp : s.port p = x := by rw [State.port, List.getD_eq_getElem?_getD, hx]; rfl
        rw [hp] at h
        exact congrArg some h
    next => rfl
  exact congrArg (fun ps => ({ s with jobs := { s.jobs with ports := ps } } : State)) hl

theorem State.modPort_same {s : State} {p : Nat} {f : PtPort → PtPort} (h : f (s.port p) = s.port p) : s.modPort p f = s := by
  refine (State.modPort_congr (g := id) h).trans ?_
  have hl : modAt s.jobs.ports p id = s.jobs.ports := List.modify_id _ _
  exact congrArg (fun ps => ({ s with jobs := { s.jobs with ports := ps } } : State)) hl

/-- Two changes of a port in a row are one. -/
theorem State.modPort_modPort (s : State) (p : Nat) (f g : PtPort → PtPort) : (s.modPort p f).modPort p g = s.modPort p fun x => g (f x) := by
  have hl : modAt (modAt s.jobs.ports p f) p g = modAt s.jobs.ports p fun x => g (f x) := List.modify_modify_eq _ _ _ _
  exact congrArg (fun ps => ({ s with jobs := { s.jobs with ports := ps } } : State)) hl

/-- A port under a condition that only it decides. -/
theorem State.ite_modPort {s : State} {p : Nat} {f g : PtPort → PtPort} (c : PtPort → Bool) :
    (if c (s.port p) then s.modPort p f else s.modPort p g) = s.modPort p fun x => if c x then f x else g x := by
  split
  next h => exact State.modPort_congr (if_pos h).symm
  next h => exact State.modPort_congr (if_neg h).symm

/-- A message goes to the transmitter under the next ID (R331). -/
def PtPort.transmit (typ : Nat) (pay : List Byte) (t : PtPort) : PtPort :=
  { t with
    unacked := some (⟨typ, t.nextId, pay⟩, 1, 0), nextId := (t.nextId + 1) % 256, out := t.out ++ [⟨typ, t.nextId, pay⟩], quiet := 0 }

/-- A message goes to the transmitter, or waits behind those before it (R331). -/
def PtPort.submit (typ : Nat) (pay : List Byte) (t : PtPort) : PtPort :=
  if t.unacked.isNone && t.queue.isEmpty then t.transmit typ pay else { t with queue := t.queue ++ [(typ, pay)] }

/-- The next message in waiting goes to the transmitter once the one before it is settled (R331). -/
def PtPort.proceed (t : PtPort) : PtPort :=
  match t.queue with
  | (typ, pay) :: q => if t.unacked.isNone then { t with queue := q }.transmit typ pay else t
  | [] => t

/-- The PORT_CMD in progress with one of these actions has its final status (R360). -/
def PtPort.opEnd (acts : List Nat) (status : Nat) (t : PtPort) : PtPort := if portOpIs t acts then { t with opDone := some status } else t

/-- The port has answered message id, and remembers the answer for a resend (R331, R332). -/
def PtPort.answered (typ id res : Nat) (t : PtPort) : PtPort :=
  ({ t with wireFor := 0, lastRx := some (typ, id, res) } : PtPort).ackFirst (ackMsg id res)

/-- The marker waits for the wire, unless it already does or is on it (R328, R354). -/
def PtPort.withMarker (t : PtPort) : PtPort := if t.sending marker then t else { t with out := t.out ++ [marker], quiet := 0 }

/-- The payload of the HELLO of the moment (R335, R337). -/
def helloPayload (s : State) (p : Nat) : List Byte :=
  [byte 0x10, byte (par s gPRT p PRT.VER_MAX), byte (match par s gPRT p PRT.PRESENT with | 0 => 2 | 1 => 1 | _ => 3), byte (s.port p).code,
    byte (1 + 2 * b2n (par s gPRT p PRT.AUTH_MODE = 2)), 0, 0, 0]

theorem portStart_eq (p typ : Nat) (pay : List Byte) (s : State) : portStart p typ pay s = s.modPort p (PtPort.transmit typ pay) :=
  (State.modPort_modPort s p _ _).trans (State.modPort_congr rfl)

theorem portSend_eq (p typ : Nat) (pay : List Byte) (s : State) : portSend p typ pay s = s.modPort p (PtPort.submit typ pay) := by
  unfold portSend
  rw [portStart_eq]
  exact State.ite_modPort fun t => t.unacked.isNone && t.queue.isEmpty

theorem portNext_eq (p : Nat) (s : State) : portNext p s = s.modPort p PtPort.proceed := by
  unfold portNext
  split
  next typ pay q hq =>
    split
    next hu =>
      rw [portStart_eq, State.modPort_modPort]
      exact State.modPort_congr (by simp [PtPort.proceed, hq, hu])
    next hu => exact (State.modPort_same (by simp [PtPort.proceed, hq, hu])).symm
  next hq => exact (State.modPort_same (by simp [PtPort.proceed, hq])).symm

theorem portOpEnd_eq (p : Nat) (acts : List Nat) (status : Nat) (s : State) : portOpEnd p acts status s = s.modPort p (PtPort.opEnd acts status) := by
  unfold portOpEnd
  split
  next h => exact State.modPort_congr (if_pos h).symm
  next h => exact (State.modPort_same (f := PtPort.opEnd acts status) (if_neg h)).symm

theorem putMarker_eq (p : Nat) (s : State) : putMarker p s = s.modPort p PtPort.withMarker := by
  unfold putMarker
  split
  next h => exact (State.modPort_same (f := PtPort.withMarker) (if_pos h)).symm
  next h => exact State.modPort_congr (if_neg h).symm

theorem sendHello_eq (p : Nat) (s : State) :
    sendHello p s = s.modPort p fun t => ({ t with helloOut := true } : PtPort).submit Ple.HELLO (helloPayload s p) := by
  unfold sendHello
  dsimp only
  rw [portSend_eq, State.modPort_modPort]
  rfl

theorem sendCaps_eq (p : Nat) (s : State) :
    sendCaps p s = s.modPort p fun t =>
      ({ t with offers := advertised s p, advN := (advertised s p).length } : PtPort).submit Ple.CAPS (capsPay (advertised s p)) := by
  unfold sendCaps
  dsimp only
  rw [portSend_eq, State.modPort_modPort]

/-! What sending leaves of the port. -/

theorem PtPort.submit_free {t : PtPort} (hu : t.unacked = none) (hq : t.queue = []) (typ : Nat) (pay : List Byte) :
    t.submit typ pay = t.transmit typ pay := if_pos (by simp [hu, hq])

/-- The port has the message under this ID with its transmitter, for the first time (R331). -/
theorem sent_transmit {t : State} {p typ id : Nat} {pay : List Byte} {x : PtPort} (h : t.port p = x.transmit typ pay) (hid : x.nextId = id) :
    Sent t p id typ pay := by
  unfold Sent
  rw [h, ← hid]
  exact ⟨rfl, List.mem_append_right _ (List.mem_singleton_self _)⟩

/-- From a to b the port has only sent messages and moved its check of the partner and its PORT_CMD; what waits for the wire still does. -/
structure PtPort.Talks (a b : PtPort) : Prop where
  eq : b = { a with
    unacked := b.unacked, nextId := b.nextId, out := b.out, quiet := b.quiet, queue := b.queue, auth := b.auth, authRes := b.authRes
    opDone := b.opDone }
  out : a.out ⊆ b.out

theorem PtPort.Talks.refl (a : PtPort) : a.Talks a := ⟨rfl, List.Subset.refl _⟩

theorem PtPort.Talks.trans {a b c : PtPort} (h : a.Talks b) (g : b.Talks c) : a.Talks c :=
  ⟨by rw [g.eq, h.eq], List.Subset.trans h.out g.out⟩

theorem PtPort.Talks.transmit (typ : Nat) (pay : List Byte) (t : PtPort) : t.Talks (t.transmit typ pay) := ⟨rfl, List.subset_append_left _ _⟩

theorem PtPort.Talks.submit (typ : Nat) (pay : List Byte) (t : PtPort) : t.Talks (t.submit typ pay) := by
  unfold PtPort.submit
  split
  · exact .transmit typ pay t
  · exact ⟨rfl, List.Subset.refl _⟩

theorem PtPort.Talks.proceed (t : PtPort) : t.Talks t.proceed := by
  unfold PtPort.proceed
  split
  · split
    · exact ⟨rfl, List.subset_append_left _ _⟩
    · exact .refl t
  · exact .refl t

theorem PtPort.Talks.opEnd (acts : List Nat) (status : Nat) (t : PtPort) : t.Talks (t.opEnd acts status) := by
  unfold PtPort.opEnd
  split
  · exact ⟨rfl, List.Subset.refl _⟩
  · exact .refl t

/-- From s to t only port p has moved and events been raised, and of the port only what talking moves. -/
structure PortTalks (p : Nat) (s t : State) : Prop where
  moves : PortMoves p s t
  talks : (s.port p).Talks (t.port p)

theorem PortTalks.refl (p : Nat) (s : State) : PortTalks p s s := ⟨.refl p s, .refl _⟩

theorem PortTalks.trans {p : Nat} {s t u : State} (h : PortTalks p s t) (g : PortTalks p t u) : PortTalks p s u :=
  ⟨h.moves.trans g.moves, h.talks.trans g.talks⟩

theorem PortTalks.raise (p : Nat) (s : State) (c a : Nat) : PortTalks p s (s.raise c a) := ⟨.raise p s c a, .refl _⟩

theorem PortTalks.modPort {p : Nat} {f : PtPort → PtPort} (h : ∀ x : PtPort, x.Talks (f x)) (s : State) : PortTalks p s (s.modPort p f) := by
  refine ⟨.modPort p s f, ?_⟩
  by_cases hp : p < s.jobs.ports.length
  · rw [State.port_modPort_self hp]
    exact h _
  · have hn (z : State) (hz : ¬ p < z.jobs.ports.length) : z.port p = {} := by
      rw [State.port, List.getD_eq_getElem?_getD, List.getElem?_eq_none (Nat.le_of_not_lt hz)]
      rfl
    rw [hn s hp, hn _ (by rw [(PortMoves.modPort p s f).len]; exact hp)]
    exact .refl _

theorem PortTalks.portSend (p typ : Nat) (pay : List Byte) (s : State) : PortTalks p s (portSend p typ pay s) := by
  rw [portSend_eq]
  exact .modPort (.submit typ pay) s

theorem PortTalks.portNext (p : Nat) (s : State) : PortTalks p s (portNext p s) := by
  rw [portNext_eq]
  exact .modPort .proceed s

theorem PortTalks.portOpEnd (p : Nat) (acts : List Nat) (status : Nat) (s : State) : PortTalks p s (portOpEnd p acts status s) := by
  rw [portOpEnd_eq]
  exact .modPort (.opEnd acts status) s

/-- A check that ends outside ATTACHED, or that has failed, leads to no NEGOTIATING (R346, R356). -/
theorem PortTalks.authEnd {p res : Nat} {s : State} (h : (s.port p).st ≠ .attached ∨ res ≠ 0) : PortTalks p s (authEnd p res s) := by
  unfold Machine.authEnd
  dsimp only
  set x := (s.modPort p fun t => { t with auth := none, authRes := some res }).raise Ev.PARTNER_AUTH (p * 2 ^ 8 + res) with hx
  have hsx : PortTalks p s x :=
    (PortTalks.modPort (f := fun t => { t with auth := none, authRes := some res }) (fun _ => ⟨rfl, List.Subset.refl _⟩) s).trans (.raise p _ _ _)
  set y := Machine.portOpEnd p [5] (if res = 0 then St.OK else if res = 4 then St.VERSION else St.AUTH_FAIL) x
  have hy : PortTalks p s y := hsx.trans (.portOpEnd p _ _ x)
  split
  next hc =>
    have hst : (s.port p).st = .attached := by
      have e : (y.port p).st = (s.port p).st := by rw [hy.talks.eq]
      rw [← e]
      simp only [Bool.and_eq_true, decide_eq_true_eq] at hc
      exact hc.1.1
    rw [if_neg (h.resolve_left (not_not_intro hst))]
    exact hy.trans (.raise p y _ _)
  next => exact hy

theorem PortTalks.authStart (p : Nat) (op : Option Nat) (s : State) : PortTalks p s (authStart p op s) := by
  unfold Machine.authStart
  split
  · exact .authEnd (.inr (by decide))
  · exact (PortTalks.modPort (f := fun t => { t with auth := some ⟨1, [], 0, [], 0, op⟩ }) (fun _ => ⟨rfl, List.Subset.refl _⟩) s).trans
      (.portSend p _ _ _)

theorem PortTalks.authAgain (p : Nat) (s : State) : PortTalks p s (authAgain p s) := by
  unfold Machine.authAgain
  split
  · split
    · exact .portSend p _ _ s
    · exact .portSend p _ _ s
  · exact .refl p s

end Sys2Proof.Machine
end

section
/-! How a partner port takes a message (R329, R331, R332, R336), and how it changes its state (R346, R353). -/

namespace Sys2Proof.Machine

variable {s : State} {p typ id len minVer r : Nat} {judge : State → Option Nat} {act : State → State}

theorem PtSt.hears_of_attached {st : PtSt} (h : st.isAttached = true) : st.hears = true := by cases st <;> first | rfl | cases h

theorem NewMsg.inList (h : NewMsg s p typ id len) : p < s.jobs.ports.length := h.1.2

/-- Port p has heard a message, and not yet judged it. -/
def portHearing (p : Nat) (s : State) : State := s.modPort p fun t => { t with quiet := 0, wireFor := 0 }

/-- A message that the port takes is judged, unless it is a resend of the last one. -/
theorem receive_attached (hp : HasPort s p) (hc : s.clocked = true) (ha : (s.port p).st.isAttached = true) (hl : len ≤ lenLimit (s.port p)) :
    receive p typ id len minVer judge act s =
      (s.port p).lastRx.elim (receive.go p typ id minVer judge act (s.port p) (portHearing p s)) fun x =>
        if x.1 = typ && x.2.1 = id then portAck p id x.2.2 (portHearing p s)
        else receive.go p typ id minVer judge act (s.port p) (portHearing p s) := by
  unfold receive portHearing
  simp only [hp.1, PtSt.hears_of_attached ha, hc, ha, Nat.not_lt.mpr hl, decide_true, Bool.and_self, Bool.not_true, Bool.false_eq_true, if_false]
  rcases (s.port p).lastRx with _ | x <;> rfl

theorem receive_fresh (h : NewMsg s p typ id len) :
    receive p typ id len minVer judge act s = receive.go p typ id minVer judge act (s.port p) (portHearing p s) := by
  obtain ⟨hp, hc, ha, hl, hn⟩ := h
  rw [receive_attached hp hc ha hl]
  rcases hr : (s.port p).lastRx with _ | ⟨ty, i, r⟩
  · rfl
  · refine if_neg fun he => ?_
    simp only [Bool.and_eq_true, decide_eq_true_eq] at he
    obtain ⟨rfl, rfl⟩ := he
    exact hn r hr

theorem answered_eq (p typ id r : Nat) (s : State) :
    portAck p id r ((portHearing p s).modPort p fun t => { t with lastRx := some (typ, id, r) }) = s.modPort p (PtPort.answered typ id r) := by
  unfold portAck portHearing
  rw [State.modPort_modPort, State.modPort_modPort]
  rfl

/-- A new message judged OK is answered and acted on. -/
theorem receive_ok (h : NewMsg s p typ id len) (hv : minVer ≤ verNow (s.port p)) (hj : judge (portHearing p s) = some 0) :
    receive p typ id len minVer judge act s = act (s.modPort p (PtPort.answered typ id 0)) := by
  rw [receive_fresh h, receive.go, if_neg (Nat.not_lt.mpr hv), hj]
  dsimp only
  rw [if_pos rfl, answered_eq]

/-- A new message judged otherwise is only answered. -/
theorem receive_refused (h : NewMsg s p typ id len) (hv : minVer ≤ verNow (s.port p)) (hj : judge (portHearing p s) = some r) (hr : r ≠ 0) :
    receive p typ id len minVer judge act s = s.modPort p (PtPort.answered typ id r) := by
  rw [receive_fresh h, receive.go, if_neg (Nat.not_lt.mpr hv), hj]
  dsimp only
  rw [if_neg hr, answered_eq]

/-- A resend is answered as before (R332). -/
theorem receive_resend (hp : HasPort s p) (hc : s.clocked = true) (ha : (s.port p).st.isAttached = true) (hl : len ≤ lenLimit (s.port p))
    (hr : (s.port p).lastRx = some (typ, id, r)) :
    receive p typ id len minVer judge act s = s.modPort p fun x => ({ x with wireFor := 0 } : PtPort).ackFirst (ackMsg id r) := by
  rw [receive_attached hp hc ha hl, hr, Option.elim_some, if_pos (by simp), portAck, portHearing, State.modPort_modPort]
  rfl

/-- A message longer than the version allows is discarded (R329). -/
theorem receive_long (hp : HasPort s p) (hc : s.clocked = true) (ha : (s.port p).st.isAttached = true) (hl : lenLimit (s.port p) < len) :
    receive p typ id len minVer judge act s = frameDiscarded p s := by
  unfold receive
  simp [hp.1, PtSt.hears_of_attached ha, hc, hl]

theorem minVersion_le_verNow (t : PtPort) : 0x10 ≤ verNow t := le_max_right _ _

theorem le_verNow {v : Nat} {t : PtPort} (h : v ≤ t.ver) : v ≤ verNow t := h.trans (le_max_left _ _)

theorem portHearing_port (hp : p < s.jobs.ports.length) : (portHearing p s).port p = { s.port p with quiet := 0, wireFor := 0 } :=
  State.port_modPort_self hp _

theorem ack_mem_answered (typ id r : Nat) (t : PtPort) : ackMsg id r ∈ (t.answered typ id r).out := by
  simp [PtPort.answered, PtPort.ackFirst]

theorem onlyAcked_answered (hp : p < s.jobs.ports.length) (typ id r : Nat) :
    OnlyAcked s (s.modPort p (PtPort.answered typ id r)) p typ id r := by
  refine ⟨?_, rfl⟩
  unfold Acked
  rw [State.port_modPort_self hp]
  exact ⟨ack_mem_answered typ id r _, rfl⟩

/-- A port that talks after it has answered still has its answer waiting, and remembers it. -/
theorem acked_of_talks {t : State} {x : PtPort} (hx : ackMsg id r ∈ x.out ∧ x.lastRx = some (typ, id, r)) (h : x.Talks (t.port p)) :
    Acked t p typ id r :=
  ⟨h.out hx.1, (by rw [h.eq] : (t.port p).lastRx = x.lastRx).trans hx.2⟩

/-! Changes of the port's state. -/

theorem portEnter_told {st : PtSt} (h : (s.port p).st ≠ st) (c : Nat) :
    Told s (portEnter p st c s) Ev.PORT_STATE (p * 2 ^ 8 + c * 2 ^ 4 + st.code) := by
  unfold portEnter
  dsimp only
  rw [if_neg h]
  rfl

/-- A change of one port leaves the host side, the lanes and the other ports. -/
theorem others_modPort (p : Nat) (f : PtPort → PtPort) (s : State) : ∀ q, q ≠ p → (s.modPort p f).port q = s.port q :=
  fun _ hq => State.port_modPort_ne hq f

theorem PortMoves.lanes {t : State} (h : PortMoves p s t) : t.jobs.lanes = s.jobs.lanes := by rw [h.eq]

theorem PortMoves.inList {t : State} (h : PortMoves p s t) (hp : p < s.jobs.ports.length) : p < t.jobs.ports.length := h.len.symm ▸ hp

/-- A port in SOFT_RESET with this cause, before its SOFT_RESET goes out (R353). -/
def PtPort.softened (c : Nat) (t : PtPort) : PtPort :=
  ({ t.voided.dropOwn with
    softN := incSat 32 t.softN, cause := c, queue := [], swapRetry := none, st := .softReset, inState := 0 } : PtPort).opEnd [2] St.INTERNAL

theorem softBegin_softened (hp : p < s.jobs.ports.length) (c : Nat) : (softBegin p c s).port p = (s.port p).softened c := by
  unfold softBegin
  dsimp only
  set x := (s.modPort p fun t => { t.voided.dropOwn with softN := incSat 32 t.softN, cause := c, queue := [], swapRetry := none }).raise
    Ev.PORT_SOFT_RESET (p * 2 ^ 8 + c)
  have hx : p < x.jobs.ports.length := (PortMoves.modPort p s _).inList hp
  have hxp : x.port p = { (s.port p).voided.dropOwn with softN := incSat 32 (s.port p).softN, cause := c, queue := [], swapRetry := none } :=
    State.port_modPort_self hp _
  rw [portOpEnd_eq, State.port_modPort_self ((PortMoves.portEnter p _ _ x).inList hx), portEnter_port hx, hxp]
  rfl

/-- What a soft reset leaves of a port's record (R353). -/
theorem PtPort.softened_spec (c : Nat) (t : PtPort) :
    (t.softened c).st = .softReset ∧ (t.softened c).cause = c ∧ (t.softened c).void = true ∧ (t.softened c).softN = incSat 32 t.softN ∧
      (t.softened c).noDemand = t.noDemand ∧ (t.softened c).unacked = none ∧ (t.softened c).queue = [] ∧ (t.softened c).nextId = t.nextId := by
  unfold PtPort.softened PtPort.opEnd
  split <;> exact ⟨rfl, rfl, rfl, rfl, rfl, rfl, rfl, rfl⟩

/-- From s to t port p has begun a soft reset with this cause, and its SOFT_RESET waits for the wire (R346, R353). -/
structure SoftReset (p c : Nat) (s t : State) : Prop where
  moves : PortMoves p s t
  st : (t.port p).st = .softReset
  cause : (t.port p).cause = c
  void : (t.port p).void = true
  softN : (t.port p).softN = incSat 32 (s.port p).softN
  noDemand : (t.port p).noDemand = (s.port p).noDemand
  sent : Sent t p (s.port p).nextId Ple.SOFT_RESET []
  told : Tells s t Ev.PORT_SOFT_RESET (p * 2 ^ 8 + c)

theorem softReset_spec (hp : p < s.jobs.ports.length) (h : (s.port p).st = .attached ∨ (s.port p).st = .negotiating ∨ (s.port p).st = .contract)
    (c : Nat) : SoftReset p c s (softReset p c s) := by
  have hm := PortMoves.softBegin p c s
  have hx := softBegin_softened hp c
  have ht := softBegin_tells p c s
  rw [softReset_eq h, portSend_eq]
  generalize softBegin p c s = x at hm hx ht
  obtain ⟨hst, hcause, hvoid, hsoft, hdem, hun, hq, hid⟩ := (s.port p).softened_spec c
  have hport : (x.modPort p (PtPort.submit Ple.SOFT_RESET [])).port p = ((s.port p).softened c).transmit Ple.SOFT_RESET [] := by
    rw [State.port_modPort_self (hm.inList hp), hx, PtPort.submit_free hun hq]
  exact ⟨hm.trans (.modPort p x _), hport ▸ hst, hport ▸ hcause, hport ▸ hvoid, hport ▸ hsoft, hport ▸ hdem, sent_transmit hport hid,
    ht.mono (KeepsEvents.of_host rfl)⟩

end Sys2Proof.Machine
end

section
/-! Attach and detach of a partner port, and its hard reset (R321 to R325, R346, R354). -/

namespace Sys2Proof.Machine

variable {s : State} {p n cause : Nat}

/-- A port at the beginning of the HELLO exchange (R337). -/
def PtPort.greeting (t : PtPort) : PtPort :=
  { t with st := .attached, inState := 0, helloTx := false, helloRx := false, helloOut := false, verDone := false, ver := 0 }

/-- ATTACHED before a HELLO (R337). -/
def helloEntered (p cause : Nat) (s : State) : State :=
  (portEnter p .attached cause s).modPort p fun t => { t with helloTx := false, helloRx := false, helloOut := false, verDone := false, ver := 0 }

theorem helloEntered_port (hp : p < s.jobs.ports.length) (cause : Nat) : (helloEntered p cause s).port p = (s.port p).greeting := by
  rw [helloEntered, State.port_modPort_self ((PortMoves.portEnter p _ _ s).inList hp), portEnter_port hp]
  rfl

theorem PortMoves.helloEntered (p cause : Nat) (s : State) : PortMoves p s (helloEntered p cause s) :=
  (PortMoves.portEnter p .attached cause s).trans (.modPort p _ _)

/-- A provider's HELLO goes out at once; a taker waits for that of its partner (R337). -/
theorem helloStart_eq (hp : p < s.jobs.ports.length) (cause : Nat) :
    helloStart p cause s = if (s.port p).prov then sendHello p (helloEntered p cause s) else helloEntered p cause s := by
  have h : ((helloEntered p cause s).port p).prov = (s.port p).prov := by rw [helloEntered_port hp]; rfl
  rw [← h]
  rfl

/-- A port that takes the partner it has seen on a talk wire, with the cable code that it sees: a taker on a cable has yet to measure its own
(R323, R324, R331). -/
def PtPort.plugged (w c : Nat) (t : PtPort) : PtPort :=
  { t.forget with
    talk := w, code := if t.prov = true ∨ c = 0 then c else 0xFF, code2 := 0xFF
    plug := if t.prov = true ∨ c = 0 then none else some 0, lostRun := 0, hadCon := false, authRes := none }

/-- PORT_ATTACH acts once the same partner has been seen for 15,000 frames (R323). -/
theorem portAttach_acts {w c : Nat} (hp : HasPort s p) (hst : (s.port p).st = .attachWait) (hrun : 15000 ≤ (s.port p).seenRun)
    (hseen : (s.port p).seen = some (w, c)) : exec (.portAttach p) s = .next (helloStart p 1 (s.modPort p (PtPort.plugged w c))) := by
  change execPortAttach p s = _
  unfold execPortAttach
  simp only [hp.1, hst, hrun, hseen, decide_true, Bool.and_self, if_true]
  refine congrArg (fun z => Host.Outcome.next (helloStart p 1 z)) (State.modPort_congr ?_)
  simp only [PtPort.plugged, Bool.or_eq_true, decide_eq_true_eq]

theorem PtPort.plugged_st (w c : Nat) (t : PtPort) : (t.plugged w c).st = t.st := rfl

theorem PtPort.plugged_prov (w c : Nat) (t : PtPort) : (t.plugged w c).prov = t.prov := rfl

theorem portAttach_attaches {w c : Nat} (hp : HasPort s p) (hst : (s.port p).st = .attachWait) (hrun : 15000 ≤ (s.port p).seenRun)
    (hseen : (s.port p).seen = some (w, c)) :
    ∃ t, exec (.portAttach p) s = .next t ∧ (t.port p).st = .attached ∧ (t.port p).talk = w ∧
      (t.port p).code = (if (s.port p).prov = true ∨ c = 0 then c else 0xFF) ∧
      (t.port p).plug = (if (s.port p).prov = true ∨ c = 0 then none else some 0) ∧ (t.port p).ver = 0 ∧
      ((s.port p).prov = true → ∃ pay, Sent t p 0 Ple.HELLO pay) ∧ ((s.port p).prov = false → (t.port p).unacked = none) ∧
      Told s t Ev.PORT_STATE (p * 2 ^ 8 + 2 ^ 4 + PtSt.attached.code) ∧ t.jobs.lanes = s.jobs.lanes ∧ ∀ q, q ≠ p → t.port q = s.port q := by
  refine ⟨_, portAttach_acts hp hst hrun hseen, ?_⟩
  set x := s.modPort p (PtPort.plugged w c)
  have mx : PortMoves p s x := .modPort p s _
  have hlx : p < x.jobs.ports.length := mx.inList hp.2
  have hx : x.port p = (s.port p).plugged w c := State.port_modPort_self hp.2 _
  have hne : (x.port p).st ≠ .attached := by rw [hx, PtPort.plugged_st, hst]; decide
  have told : Told s (helloEntered p 1 x) Ev.PORT_STATE (p * 2 ^ 8 + 2 ^ 4 + PtSt.attached.code) := portEnter_told hne 1
  have he : (helloEntered p 1 x).port p = ((s.port p).plugged w c).greeting := hx ▸ helloEntered_port hlx 1
  have me := mx.trans (.helloEntered p 1 x)
  have hprov : (x.port p).prov = (s.port p).prov := by rw [hx, PtPort.plugged_prov]
  rw [helloStart_eq hlx, hprov]
  split
  next h =>
    have hs : (sendHello p (helloEntered p 1 x)).port p =
        ({ ((s.port p).plugged w c).greeting with helloOut := true } : PtPort).transmit Ple.HELLO (helloPayload (helloEntered p 1 x) p) := by
      rw [sendHello_eq, State.port_modPort_self (me.inList hp.2), he, PtPort.submit_free rfl rfl]
    have ms := me.trans (.sendHello p _)
    exact ⟨by rw [hs]; rfl, by rw [hs]; rfl, by rw [hs]; rfl, by rw [hs]; rfl, by rw [hs]; rfl, fun _ => ⟨_, sent_transmit hs rfl⟩,
      fun hf => absurd (h.symm.trans hf) (by decide), by rw [sendHello_eq]; exact told, ms.lanes, ms.others⟩
  next h =>
    exact ⟨by rw [he]; rfl, by rw [he]; rfl, by rw [he]; rfl, by rw [he]; rfl, by rw [he]; rfl,
      fun ht => absurd ht h, fun _ => by rw [he]; rfl, told, me.lanes, me.others⟩

/-! The plug measurement (R324). -/

/-- Nothing is selected while the own HELLO, or that of the partner, is not acknowledged (R337). -/
theorem versionStep_waits (h : (s.port p).helloTx = false ∨ (s.port p).helloRx = false) : versionStep p s = s := by
  unfold versionStep
  dsimp only
  rw [if_pos (by rcases h with h | h <;> simp [h])]

theorem plugMeasurement_acts {k : Nat} (hp : HasPort s p) (hk : (s.port p).plug = some k) (h : 200 ≤ k) (v : Nat) :
    exec (.plugMeasurementDone p v) s = .next (versionStep p (plugDone p (cableCode v) s)) := by
  change execPlugMeasurementDone p v s = _
  unfold execPlugMeasurementDone
  rw [hk]
  simp only [hp.1, h, decide_true, Bool.and_self, if_true]

/-- A port that has its own cable code (R324). -/
def PtPort.coded (code : Nat) (t : PtPort) : PtPort := { t with code := code, plug := none }

/-- The HELLO of a taker goes out where that of its partner has come (R324, R337). -/
def helloAwaited (p : Nat) (s : State) : State :=
  if (s.port p).st = .attached && !(s.port p).prov && (s.port p).helloRx && !(s.port p).helloOut then sendHello p s else s

theorem helloAwaited_op (hp : p < s.jobs.ports.length) :
    ((helloAwaited p s).port p).op = (s.port p).op ∧ ((helloAwaited p s).port p).opDone = (s.port p).opDone := by
  unfold helloAwaited
  split
  · exact (sendHello_port hp).2.2.2
  · exact ⟨rfl, rfl⟩

/-- A port whose PORT_CMD, if any, asks for no cable query has its code, and nothing follows but a HELLO that waited for it (R324). -/
theorem plugDone_eq (hp : p < s.jobs.ports.length) (hop : portOpIs (s.port p) [4] = false) (code : Nat) :
    plugDone p code s = helloAwaited p (s.modPort p (PtPort.coded code)) := by
  obtain ⟨hop', hdone⟩ := helloAwaited_op ((PortMoves.modPort p s (PtPort.coded code)).inList hp)
  refine if_neg (c := portOpIs ((helloAwaited p (s.modPort p (PtPort.coded code))).port p) [4] = true) ?_
  rw [portOpIs, hop', hdone, State.port_modPort_self hp]
  exact fun h => Bool.false_ne_true (hop.symm.trans h)

end Sys2Proof.Machine
end

section
/-! The end of a port's contract: detach and hard reset (R325, R346, R354). -/

namespace Sys2Proof.Machine

variable {s t u : State} {p n cause : Nat}

theorem PortsStand.port (h : PortsStand s t) (q : Nat) : t.port q = s.port q := by rw [State.port, State.port, h.ports]

/-- A pack removed: nothing where none is in session; else lanes and packs move, and the removal is told (R311). -/
theorem packRemove_cases (p cause : Nat) (s : State) :
    packRemove p cause s = s ∨ ∃ z, PortsStand s z ∧ KeepsEvents s z ∧ packRemove p cause s = removalTold p cause z := by
  rcases hl : packLane s p with _ | n
  · exact .inl (by rw [packRemove, hl])
  · by_cases hk : (s.pack p).ph = .absent
    · exact .inl (by rw [packRemove, hl]; exact if_pos hk)
    · have h1 := LaneStep.laneTaken n s
      have h2 := ((PortStep.packEnd p (laneTaken n s)).trans (.modPack _ p fun k => { k with holdoff := some 0 })).trans (.linkS6 _)
      exact .inr ⟨_, h1.portsStand.trans h2.portsStand, h1.events.trans h2.events, packRemove_eq hl hk cause⟩

/-- A removal that brings no soft reset leaves the partner ports. -/
theorem packRemove_stands (h2 : cause ≠ 2) (h3 : cause ≠ 3) (p : Nat) (s : State) :
    PortsStand s (packRemove p cause s) ∧ KeepsEvents s (packRemove p cause s) := by
  rcases packRemove_cases p cause s with h | ⟨z, hz, hk, h⟩
  · rw [h]
    exact ⟨.refl s, .refl s⟩
  · have ht : removalTold p cause z = z.raise Ev.PACK_REMOVED (p * 2 ^ 8 + cause) := by simp [removalTold, h2, h3]
    rw [h, ht]
    exact ⟨hz.trans (PortStep.raise z _ _).portsStand, hk.trans (.raise z _ _)⟩

/-- A partner lane that stops, or none: packs stand, and of the ports only the switch of this one moves (R325, R346). -/
theorem portStop_cases (p : Nat) (s : State) : portStop p s = s ∨ ∃ z, LaneStep s z ∧ portStop p s = portOpen p z := by
  unfold portStop
  split
  · split
    · exact .inr ⟨_, .stopLane _ 2 s, rfl⟩
    · exact .inl rfl
  · exact .inr ⟨s, .refl s, rfl⟩

theorem portStop_packs (p : Nat) (s : State) : (portStop p s).jobs.packs = s.jobs.packs := by
  rcases portStop_cases p s with h | ⟨z, hz, h⟩ <;> rw [h]
  exact (by rw [hz.eq] : z.jobs.packs = s.jobs.packs)

/-- From s to t of port p only its switch has moved, and no event is lost. -/
structure SwitchMoves (p : Nat) (s t : State) : Prop where
  len : t.jobs.ports.length = s.jobs.ports.length
  port : ∃ b, t.port p = { s.port p with sw := b }
  events : KeepsEvents s t

theorem portPower_switch (hp : p < s.jobs.ports.length) (h2 : cause ≠ 2) (h3 : cause ≠ 3) : SwitchMoves p s (portPower p cause s) := by
  obtain ⟨hr, hk⟩ := packRemove_stands h2 h3 p s
  have hx := hr.port p
  unfold portPower
  generalize packRemove p cause s = x at hr hk hx
  rcases portStop_cases p x with h | ⟨z, hz, h⟩ <;> rw [h]
  · exact ⟨by rw [hr.ports], ⟨(s.port p).sw, hx⟩, hk⟩
  · have hs := hr.trans hz.portsStand
    refine ⟨(modAt_length _ _ _).trans (by rw [hs.ports]), ⟨false, ?_⟩, hk.trans hz.events⟩
    rw [← hs.port p]
    exact State.port_modPort_self (by rw [hs.ports]; exact hp) _

/-! Detach (R325). -/

/-- The partner lane of a port is in no pack's service. -/
theorem packLane_of_partner (hl : laneOfPort s p = some n) (hk : lnKind s n = 4) : packLane s p = none := by
  rw [packLane, hl]
  simp [hk]

theorem lanePhasesLow_swpp (n : Nat) (s : State) : (lanePhasesLow s n).shadow.swpp = s.shadow.swpp :=
  foldl_rel (R := fun s t : State => t.shadow.swpp = s.shadow.swpp) (fun _ => rfl) (fun h g => Eq.trans g h) _ _ (fun _ _ => by rfl) s

theorem laneOffNow_swpp (n : Nat) (cause : Option Nat) (s : State) : (laneOffNow n cause s).shadow.swpp = s.shadow.swpp := by
  obtain ⟨f, -, ⟨-, e⟩ | e⟩ := laneEnter_cases n .off cause (setLnen n false (lanePhasesLow s n)) <;> rw [laneOffNow, e] <;>
    exact lanePhasesLow_swpp n s

/-- A running partner lane of a port whose power goes is OFF, and the port's switch is wanted open (R325). -/
theorem portOpen_lane (p n : Nat) (s : State) : (portOpen p s).lane n = s.lane n := rfl

theorem portOpen_swpp (p : Nat) (s : State) : (portOpen p s).shadow.swpp = s.shadow.swpp.set p false := rfl

theorem portPower_partner (hl : laneOfPort s p = some n) (hk : lnKind s n = 4) (hr : (s.lane n).st = .run) (cause : Nat) :
    ((portPower p cause s).lane n).st = .off ∧
      (p < s.shadow.swpp.length → (portPower p cause s).shadow.swpp.getD p true = false) := by
  have hn : n < s.jobs.lanes.length := lane_in_list (by simp [hr])
  have he : portPower p cause s = portOpen p ((laneOffNow n (some 2) s).modLane n fun l => { l with stopped := true, restart := none }) := by
    rw [portPower, packRemove, packLane_of_partner hl hk, portStop, hl]
    simp [hk, stopLane, hr]
  obtain ⟨hoff, alone⟩ := laneOffNow_spec hn (some 2)
  have hlen := alone.length
  have hsw := laneOffNow_swpp n (some 2) s
  rw [he, portOpen_lane, portOpen_swpp]
  generalize laneOffNow n (some 2) s = x at hoff hlen hsw
  exact ⟨by rw [State.lane_modLane_self (hlen.symm ▸ hn)]; exact hoff, fun hw => by simp [hsw, hw]⟩

/-- What a detach does to the port after its power is off (R325, R331, R337). -/
theorem portDetachAs_eq (p cause : Nat) (s : State) :
    ∃ f : PtPort → PtPort, (∀ x, (f x).con = .none ∧ (f x).unacked = none) ∧
      portDetachAs p cause s = portOpEnd p [0, 1, 2, 3, 4, 5] St.INTERNAL (portEnter p .detached cause ((portPower p 1 s).modPort p f)) :=
  ⟨_, fun _ => ⟨rfl, rfl⟩, rfl⟩

theorem portDetach_detaches (hp : HasPort s p) (ha : (s.port p).st.isAttached = true) (hs : (s.port p).st ≠ .swapping)
    (hrun : 1000 ≤ (s.port p).lostRun) :
    ∃ t, exec (.portDetach p) s = .next t ∧ (t.port p).st = .detached ∧ (t.port p).con = .none ∧ (t.port p).unacked = none ∧
      (∀ n, laneOfPort s p = some n → lnKind s n = 4 → (s.lane n).st = .run →
        (t.lane n).st = .off ∧ (p < s.shadow.swpp.length → t.shadow.swpp.getD p true = false)) ∧
      (∀ n, packLane s p = some n → (s.pack p).ph ≠ .absent → (t.pack p).ph = .absent ∧ (t.pack p).holdoff = some 0) := by
  obtain ⟨f, hf, he⟩ := portDetachAs_eq p 2 s
  refine ⟨portDetachAs p 2 s, ?_, ?_⟩
  · change execPortDetach p s = _
    unfold execPortDetach
    simp [hp.1, ha, hs, hrun]
  have sw : SwitchMoves p s (portPower p 1 s) := portPower_switch hp.2 (by decide) (by decide)
  have hlane := fun n (hl : laneOfPort s p = some n) hk hr => portPower_partner hl hk hr 1
  have hpack : ∀ n, packLane s p = some n → (s.pack p).ph ≠ .absent →
      ((portPower p 1 s).pack p).ph = .absent ∧ ((portPower p 1 s).pack p).holdoff = some 0 := by
    intro n hl hk
    have h := (packRemove_spec hl hk 1).1
    have hx : (portPower p 1 s).pack p = (packRemove p 1 s).pack p := pack_of_packs (portStop_packs p _) p
    rw [hx]
    exact ⟨congrArg Pack.ph h, congrArg Pack.holdoff h⟩
  rw [he]
  generalize portPower p 1 s = x at sw hlane hpack
  have hlx : p < x.jobs.ports.length := sw.len.symm ▸ hp.2
  have my : PortMoves p x (portEnter p .detached 2 (x.modPort p f)) := (PortMoves.modPort p x f).trans (.portEnter p _ _ _)
  have hy : (portEnter p .detached 2 (x.modPort p f)).port p = { f (x.port p) with st := .detached, inState := 0 } := by
    rw [portEnter_port ((PortMoves.modPort p x f).inList hlx), State.port_modPort_self hlx]
  generalize portEnter p .detached 2 (x.modPort p f) = y at my hy
  have ht := PortTalks.portOpEnd p [0, 1, 2, 3, 4, 5] St.INTERNAL y
  have mt := my.trans ht.moves
  obtain ⟨hcon, hun⟩ := hf (x.port p)
  generalize htt : portOpEnd p [0, 1, 2, 3, 4, 5] St.INTERNAL y = t at ht mt
  have hunt : (t.port p).unacked = (y.port p).unacked := by
    rw [← htt, portOpEnd_eq, State.port_modPort_self (my.inList hlx), PtPort.opEnd]
    split <;> rfl
  refine ⟨by rw [ht.talks.eq, hy], by rw [ht.talks.eq, hy]; exact hcon, by rw [hunt, hy]; exact hun, ?_, ?_⟩
  · intro n hl hk hr
    rw [mt.eq]
    exact hlane n hl hk hr
  · intro n hl hk
    rw [mt.eq]
    exact hpack n hl hk

end Sys2Proof.Machine

open Sys2Proof Sys2Proof.Machine

/-- Settles O24: what each row makes of the port and of its lane. -/
theorem portAttachRows : Obligations.PortAttachRows := by
  intro s p hp
  refine ⟨?attach, ?measured, ?greets, ?detach, ?turns, ?discarded⟩
  case attach => exact fun w c hst hrun hseen => portAttach_attaches hp hst hrun hseen
  case measured =>
    intro k v hk h hst hprov hrx hop
    have hx : (s.modPort p (PtPort.coded (cableCode v))).port p = (s.port p).coded (cableCode v) := State.port_modPort_self hp.2 _
    rw [plugMeasurement_acts hp hk h, plugDone_eq hp.2 hop, helloAwaited, hx, if_neg (by simp [PtPort.coded, hrx])]
    exact congrArg _ (versionStep_waits (.inr (by rw [hx]; exact hrx)))
  case greets =>
    intro k v hk h hst hprov hrx hout htx hw hop
    have mx : PortMoves p s (s.modPort p (PtPort.coded (cableCode v))) := .modPort p s _
    have hx : (s.modPort p (PtPort.coded (cableCode v))).port p = (s.port p).coded (cableCode v) := State.port_modPort_self hp.2 _
    have ht : (sendHello p (s.modPort p (PtPort.coded (cableCode v)))).port p =
        ({ (s.port p).coded (cableCode v) with helloOut := true } : PtPort).transmit Ple.HELLO
          (helloPayload (s.modPort p (PtPort.coded (cableCode v))) p) := by
      rw [sendHello_eq, State.port_modPort_self (mx.inList hp.2), hx, PtPort.submit_free]
      · exact hw.1
      · exact hw.2
    refine ⟨_, ?_, by rw [ht]; rfl, ⟨_, sent_transmit ht rfl⟩, ?_, (mx.trans (.sendHello p _)).others⟩
    · rw [plugMeasurement_acts hp hk h, plugDone_eq hp.2 hop, helloAwaited, hx, if_pos (by simp [PtPort.coded, hst, hprov, hrx, hout])]
      exact congrArg _ (versionStep_waits (.inl (by rw [ht]; exact htx)))
    · rw [sendHello_eq]
      rfl
  case detach => exact fun ha hs hrun => portDetach_detaches hp ha hs hrun
  case turns =>
    intro hm hpr hst hage
    change execDualRoleToggle p s = _
    unfold execDualRoleToggle
    simp only [hp.1, hm, hpr, hst, hage, decide_true, Bool.and_self, if_true]
    exact congrArg _ (State.modPort_congr rfl)
  case discarded =>
    intro hc
    refine ⟨frameDiscarded p s, ?_, ?_, State.modPort_congr ?_⟩
    · change execPartnerFrameDiscarded p s = _
      unfold execPartnerFrameDiscarded
      simp [hp.1, hc]
    · rw [frameDiscarded, State.port_modPort_self hp.2]
    · rw [frameDiscarded, State.port_modPort_self hp.2]
end

section
/-! The hard reset of a partner port (R346, R354), and the contract that it makes (R338, R341). -/

namespace Sys2Proof.Machine

variable {s t u : State} {p cause why : Nat}

/-- A port that enters HARD_RESET for a cause at this voltage: its contract, its version and its own messages go (R331, R353, R354). -/
def PtPort.hardened (cause : Nat) (v : Int) (t : PtPort) : PtPort :=
  { t.forget with
    out := if cause = 2 then [] else t.out.filter PMsg.isAck
    vHard := v, lowRun := 0, hardN := incSat 32 t.hardN, hardAtt := t.hardAtt + 1, marked := decide (cause = 2), cause := cause }

/-- HARD_RESET entered, before its marker (R354). -/
def hardEntered (p cause why : Nat) (s : State) : State :=
  let x := (portPower p 4 s).modPort p (PtPort.hardened cause (s.val (8 + p)))
  portOpEnd p [0, 2, 3, 4, 5] St.INTERNAL
    (portEnter p .hardReset why (x.raise Ev.PORT_HARD_RESET ((x.port p).hardAtt % 65536 * 2 ^ 16 + p * 2 ^ 8 + cause)))

/-- The states that a hard reset leaves (R346). -/
def PtSt.resets (st : PtSt) : Prop := st ≠ .detached ∧ st ≠ .attachWait ∧ st ≠ .hardReset

theorem hardResetAs_eq (h : (s.port p).st.resets) (cause why : Nat) :
    hardResetAs p cause why s =
      if cause ≠ 2 && ((hardEntered p cause why s).port p).markDue then putMarker p (hardEntered p cause why s)
      else hardEntered p cause why s := by
  obtain ⟨h1, h2, h3⟩ := h
  unfold hardResetAs
  split
  case h_1 h => exact absurd h h1
  case h_2 h => exact absurd h h2
  case h_3 h => exact absurd h h3
  case h_4 => rfl

/-- From s to t port p has entered HARD_RESET for a cause: what it then holds, and that its marker waits where one is due (R331, R354). -/
structure HardReset (p c : Nat) (s t : State) : Prop where
  events : KeepsEvents s t
  st : (t.port p).st = .hardReset
  cause : (t.port p).cause = c
  con : (t.port p).con = .none
  ver : (t.port p).ver = 0
  unacked : (t.port p).unacked = none
  hardN : (t.port p).hardN = incSat 32 (s.port p).hardN
  marked : c = 2 → (t.port p).marked = true
  marker : c ≠ 2 → (s.port p).markDue = true → marker ∈ (t.port p).out

theorem PtPort.hardened_markFor (cause : Nat) (v : Int) (t : PtPort) : (t.hardened cause v).markFor = t.markFor := rfl

theorem PtPort.markDue_congr {t u : PtPort} (h : t.markFor = u.markFor) : t.markDue = u.markDue := by
  unfold PtPort.markDue
  rw [h]

theorem hardResetAs_spec (hp : p < s.jobs.ports.length) (h : (s.port p).st.resets) (cause why : Nat) :
    HardReset p cause s (hardResetAs p cause why s) := by
  have sw : SwitchMoves p s (portPower p 4 s) := portPower_switch hp (by decide) (by decide)
  rw [hardResetAs_eq h]
  unfold hardEntered
  dsimp only
  generalize portPower p 4 s = w at sw
  obtain ⟨b, hb⟩ := sw.port
  have hlw : p < w.jobs.ports.length := sw.len.symm ▸ hp
  set g := PtPort.hardened cause (s.val (8 + p))
  set a := ((w.modPort p g).port p).hardAtt % 65536 * 2 ^ 16 + p * 2 ^ 8 + cause
  set y := portEnter p .hardReset why ((w.modPort p g).raise Ev.PORT_HARD_RESET a)
  have my : PortMoves p w y := ((PortMoves.modPort p w g).trans (.raise p _ _ _)).trans (.portEnter p _ _ _)
  have hy : y.port p = { g (w.port p) with st := .hardReset, inState := 0 } := by
    rw [portEnter_port (s := (w.modPort p g).raise Ev.PORT_HARD_RESET a) ((PortMoves.modPort p w g).inList hlw),
      (State.raise_items _ _ _ p).2.2.2.2.1, State.port_modPort_self hlw]
  have hz : (portOpEnd p [0, 2, 3, 4, 5] St.INTERNAL y).port p = (y.port p).opEnd [0, 2, 3, 4, 5] St.INTERNAL := by
    rw [portOpEnd_eq, State.port_modPort_self (my.inList hlw)]
  have hzs : ∃ d, (portOpEnd p [0, 2, 3, 4, 5] St.INTERNAL y).port p =
      { ({ s.port p with sw := b } : PtPort).hardened cause (s.val (8 + p)) with st := .hardReset, inState := 0, opDone := d } := by
    rw [hz, hy, hb]
    unfold PtPort.opEnd
    split <;> exact ⟨_, rfl⟩
  have mz := my.trans (.portOpEnd p [0, 2, 3, 4, 5] St.INTERNAL y)
  generalize portOpEnd p [0, 2, 3, 4, 5] St.INTERNAL y = z at hzs mz
  obtain ⟨d, hd⟩ := hzs
  have hdue : (z.port p).markDue = (s.port p).markDue := PtPort.markDue_congr (by rw [hd]; exact PtPort.hardened_markFor cause (s.val (8 + p)) _)
  have hk := sw.events.trans mz.events
  have entered : (z.port p).st = .hardReset ∧ (z.port p).cause = cause ∧ (z.port p).con = .none ∧ (z.port p).ver = 0 ∧
      (z.port p).unacked = none ∧ (z.port p).hardN = incSat 32 (s.port p).hardN := by
    rw [hd]
    exact ⟨rfl, rfl, rfl, rfl, rfl, rfl⟩
  obtain ⟨hst, hcause, hcon, hver, hun, hard⟩ := entered
  rw [hdue]
  split
  next hc =>
    have hm : (putMarker p z).port p = (z.port p).withMarker := by rw [putMarker_eq, State.port_modPort_self (mz.inList hlw)]
    have hin : marker ∈ (z.port p).withMarker.out := by
      unfold PtPort.withMarker
      split
      next hs => simpa [PtPort.sending, hd, PtPort.hardened, PtPort.forget] using hs
      next => simp
    have hw : (z.port p).withMarker = { z.port p with out := (z.port p).withMarker.out, quiet := (z.port p).withMarker.quiet } := by
      unfold PtPort.withMarker
      split <;> rfl
    have hne : cause ≠ 2 := by
      simp only [Bool.and_eq_true, decide_eq_true_eq] at hc
      exact hc.1
    have hkm : KeepsEvents s (putMarker p z) := by
      rw [putMarker_eq]
      exact hk.trans (.of_host rfl)
    rw [hw] at hm
    exact ⟨hkm, by rw [hm]; exact hst, by rw [hm]; exact hcause, by rw [hm]; exact hcon, by rw [hm]; exact hver, by rw [hm]; exact hun,
      by rw [hm]; exact hard, fun h => absurd h hne, fun _ _ => by rw [hm]; exact hin⟩
  next hc =>
    refine ⟨hk, hst, hcause, hcon, hver, hun, hard, fun h2 => ?_, fun h2 hdue => absurd (by simp [h2, hdue]) hc⟩
    rw [hd]
    exact decide_eq_true h2

theorem hardResetAs_keeps (hp : p < s.jobs.ports.length) (cause why : Nat) : KeepsEvents s (hardResetAs p cause why s) := by
  by_cases h : (s.port p).st.resets
  · exact (hardResetAs_spec hp h cause why).events
  · have he : hardResetAs p cause why s = s := by
      unfold hardResetAs
      split
      case h_4 h1 h2 h3 => exact absurd ⟨h1, h2, h3⟩ h
      all_goals rfl
    rw [he]
    exact .refl s

theorem softOrHard_keeps (hp : p < s.jobs.ports.length) (cause : Nat) : KeepsEvents s (softOrHard p cause s) := by
  unfold softOrHard
  split
  · exact hardResetAs_keeps hp 4 _
  · exact (PortMoves.softReset p cause s).events

/-! Contracts (R338, R341, R343, R346). -/

/-- A port whose contract under negotiation has come into force (R338). -/
def PtPort.contracted (t : PtPort) : PtPort :=
  { t with
    con := t.next, void := false, next := .none, reqOk := false, readyOk := false, noDemand := false, outTol := 0, hadCon := true
    settled := t.settled && t.con.volt == t.next.volt, inTol := if t.con.volt = t.next.volt then t.inTol else 0, quiet := 0
    st := .contract, inState := 0 }

/-- From s to t port p has made the contract under negotiation, told it, and then only talked. -/
structure MadeContract (p : Nat) (s t : State) : Prop where
  moves : PortMoves p s t
  port : (s.port p).contracted.Talks (t.port p)
  told : Tells s t Ev.CONTRACT ((s.port p).next.volt * 2 ^ 16 + p * 2 ^ 8 + (s.port p).next.kind)

theorem MadeContract.st (h : MadeContract p s t) : (t.port p).st = .contract := by rw [h.port.eq]; rfl

theorem MadeContract.con (h : MadeContract p s t) : (t.port p).con = (s.port p).next := by rw [h.port.eq]; rfl

theorem MadeContract.void (h : MadeContract p s t) : (t.port p).void = false := by rw [h.port.eq]; rfl

theorem MadeContract.talk (h : MadeContract p s t) (g : PortTalks p t u) : MadeContract p s u :=
  ⟨h.moves.trans g.moves, h.port.trans g.talks, h.told.mono g.moves.events⟩

theorem enterContract_made (hp : p < s.jobs.ports.length) : MadeContract p s (enterContract p s) := by
  unfold enterContract
  dsimp only
  set f : PtPort → PtPort := fun t => { t with
    con := (s.port p).next, void := false, next := .none, reqOk := false, readyOk := false, noDemand := false, outTol := 0, hadCon := true
    settled := t.settled && t.con.volt == (s.port p).next.volt, inTol := if t.con.volt = (s.port p).next.volt then t.inTol else 0, quiet := 0 }
  set x := portEnter p .contract 4 (s.modPort p f)
  have mx : PortMoves p s x := (PortMoves.modPort p s f).trans (.portEnter p _ _ _)
  have hx : x.port p = (s.port p).contracted := by
    rw [portEnter_port ((PortMoves.modPort p s f).inList hp), State.port_modPort_self hp]
    rfl
  set y := x.raise Ev.CONTRACT ((s.port p).next.volt * 2 ^ 16 + p * 2 ^ 8 + (s.port p).next.kind)
  have hy : MadeContract p s y :=
    ⟨mx.trans (.raise p x _ _), hx ▸ .refl _, .of_keeps mx.events (.raise x _ _)⟩
  have hz := hy.talk (.portOpEnd p [0, 3] St.OK y)
  set z := portOpEnd p [0, 3] St.OK y
  set v := if (z.port p).swapped then portOpEnd p [2] St.OK z else z with hv'
  have hv : MadeContract p s v := by
    rw [hv']
    split
    · exact hz.talk (.portOpEnd p [2] St.OK z)
    · exact hz
  split
  · exact hv.talk (.authStart p none _)
  · exact hv

end Sys2Proof.Machine
end

section
/-! The ACK of the controller's own message, its absence, and an aborted send (R330, R331, R334). -/

namespace Sys2Proof.Machine

variable {s : State} {p k a : Nat} {m : PMsg} {pl : List Byte}

/-- A port whose own message has its ACK (R331). -/
def PtPort.acked (t : PtPort) : PtPort := { t.dropOwn with quiet := 0, wireFor := 0 }

/-- An ACK that the port takes (R329, R331). -/
theorem plehalAck_eq (hp : HasPort s p) (hc : s.clocked = true) (hh : (s.port p).st.hears = true) (hu : (s.port p).unacked = some (m, k, a))
    (hl : pl.length ≤ lenLimit (s.port p)) :
    exec (.plehalAck p pl) s = .next (if m.id = fld pl 0 1 then portNext p (settled p m (fld pl 1 1) (s.modPort p PtPort.acked))
      else portHeard p s) := by
  change execPlehalAck p pl s = _
  unfold execPlehalAck
  dsimp only
  rw [if_neg (by simp [hp.1, hc, hh]), if_neg (Nat.not_lt.mpr hl), hu]
  rfl

/-- Where the ACK leads to no event, and no message waits, the port alone moves. -/
theorem portNext_idle {f : PtPort → PtPort} (h : (f (s.port p)).queue = []) (hp : p < s.jobs.ports.length) :
    portNext p (s.modPort p f) = s.modPort p f := by
  unfold portNext
  rw [State.port_modPort_self hp, h]

theorem settled_ping (h : m.typ = Ple.PING) (res : Nat) : settled p m res s = s := by
  unfold settled
  rw [h]
  rfl

theorem settled_hello (h : m.typ = Ple.HELLO) (hx : (s.port p).helloRx = false) (hp : p < s.jobs.ports.length) :
    settled p m 0 s = s.modPort p fun t => { t with helloTx := true } := by
  unfold settled
  rw [h]
  exact versionStep_waits (.inr (by rw [State.port_modPort_self hp]; exact hx))

theorem settled_request (h : m.typ = Ple.REQUEST) (hst : (s.port p).st = .negotiating) (hn : (s.port p).next ≠ .null) :
    settled p m 0 s = s.modPort p fun t => { t with reqOk := true } := by
  unfold settled
  rw [h]
  simp [hst, hn]

theorem settled_ready (h : m.typ = Ple.READY) (hst : (s.port p).st = .negotiating) (hv : (s.port p).prov = true) (hr : (s.port p).reqOk = true) :
    settled p m 0 s = enterContract p s := by
  unfold settled
  rw [h]
  simp [hst, hv, hr]

/-- The response time is over with sends to spare: the message goes out again (R334). -/
theorem responseTimeout_resends (hp : HasPort s p) (hu : (s.port p).unacked = some (m, k, a)) (ha : 3000 ≤ a) (hk : k < 3) :
    exec (.plehalResponseTimeout p) s = .next (s.modPort p fun t => { t with
      unacked := some (m, k + 1, 0), resends := incSat 32 t.resends, out := t.out ++ [m], quiet := 0 }) := by
  change execPlehalResponseTimeout p s = _
  unfold execPlehalResponseTimeout
  rw [hu]
  dsimp only
  rw [if_neg (by simp [hp.1, ha]), if_pos hk, portPut, State.modPort_modPort]

/-- The response time is over for the third time: the port is reset (R334, R346). -/
theorem responseTimeout_resets (hp : HasPort s p) (hu : (s.port p).unacked = some (m, k, a)) (ha : 3000 ≤ a) (hk : 3 ≤ k) :
    exec (.plehalResponseTimeout p) s = .next (if (s.port p).st = .softReset then hardReset p 1 (s.modPort p fun t => { t with unacked := none })
      else softOrHard p 1 (s.modPort p fun t => { t with unacked := none })) := by
  change execPlehalResponseTimeout p s = _
  unfold execPlehalResponseTimeout
  rw [hu]
  dsimp only
  rw [if_neg (by simp [hp.1, ha]), if_neg (Nat.not_lt.mpr hk), State.port_modPort_self hp.2]

theorem softOrHard_soft (h : (s.port p).st ≠ .swapping) (cause : Nat) : softOrHard p cause s = softReset p cause s := if_neg h

theorem responseTimeout_soft (hp : HasPort s p) (hu : (s.port p).unacked = some (m, k, a)) (ha : 3000 ≤ a) (hk : 3 ≤ k)
    (hst : (s.port p).st ∈ [PtSt.attached, .negotiating, .contract]) :
    ∃ t, exec (.plehalResponseTimeout p) s = .next t ∧ (t.port p).st = .softReset ∧ (t.port p).cause = 1 ∧ (t.port p).void = true ∧
      (t.port p).softN = incSat 32 (s.port p).softN ∧ Sent t p (s.port p).nextId Ple.SOFT_RESET [] ∧
      Tells s t Ev.PORT_SOFT_RESET (p * 2 ^ 8 + 1) ∧ t.jobs.lanes = s.jobs.lanes ∧ ∀ q, q ≠ p → t.port q = s.port q := by
  have h3 : (s.port p).st = .attached ∨ (s.port p).st = .negotiating ∨ (s.port p).st = .contract := by simpa using hst
  set x := s.modPort p fun t => { t with unacked := none }
  have mx : PortMoves p s x := .modPort p s _
  have hx : x.port p = { s.port p with unacked := none } := State.port_modPort_self hp.2 _
  have r := softReset_spec (mx.inList hp.2) (by rw [hx]; exact h3) 1
  have mt := mx.trans r.moves
  refine ⟨softReset p 1 x, ?_, r.st, r.cause, r.void, ?_, ?_, .of_keeps mx.events r.told, mt.lanes, mt.others⟩
  · rw [responseTimeout_resets hp hu ha hk, if_neg (by rcases h3 with h | h | h <;> simp [h]),
      softOrHard_soft (by rw [hx]; rcases h3 with h | h | h <;> simp [h])]
  · rw [r.softN, hx]
  · have := r.sent
    rwa [hx] at this

theorem responseTimeout_hard (hp : HasPort s p) (hu : (s.port p).unacked = some (m, k, a)) (ha : 3000 ≤ a) (hk : 3 ≤ k)
    (hst : (s.port p).st = .softReset) :
    ∃ t, exec (.plehalResponseTimeout p) s = .next t ∧ (t.port p).st = .hardReset ∧ (t.port p).cause = 1 ∧ (t.port p).con = .none ∧
      (t.port p).ver = 0 ∧ (t.port p).unacked = none ∧ (t.port p).hardN = incSat 32 (s.port p).hardN ∧
      ((s.port p).markDue = true → marker ∈ (t.port p).out) := by
  set x := s.modPort p fun t => { t with unacked := none }
  have hx : x.port p = { s.port p with unacked := none } := State.port_modPort_self hp.2 _
  have hre : (x.port p).st.resets := by rw [hx]; simp [PtSt.resets, hst]
  have r := hardResetAs_spec ((PortMoves.modPort p s _).inList hp.2) hre 1 3
  refine ⟨hardReset p 1 x, by rw [responseTimeout_resets hp hu ha hk, if_pos hst], r.st, r.cause, r.con, r.ver, r.unacked, ?_, ?_⟩
  · exact r.hardN.trans (by rw [hx])
  · exact fun hd => r.marker (by decide) (by rw [hx]; exact hd)

theorem txRetry_again {f : PMsg} (hp : HasPort s p) (hf : (s.port p).lastTx = some f) (hb : 0 < (s.port p).busyFor) :
    exec (.plehalTxRetry p) s = .next (({ s with freeCtr := s.freeCtr + 1 } : State).modPort p fun x =>
      { x with out := f :: x.out, busyFor := 0, wireFor := 0, backoff := (Config.randomByte s.freeCtr).toNat % 21 }) := by
  change execPlehalTxRetry p s = _
  unfold execPlehalTxRetry
  rw [hf]
  dsimp only
  rw [if_pos (by simp [hp.1, hb])]
  rfl

end Sys2Proof.Machine

open Sys2Proof Sys2Proof.Machine

/-- Settles O25: the ACK by the TYPE of the message that it settles, its absence by the sends made, an aborted send by what was on the wire. -/
theorem portAckRows : Obligations.PortAckRows := by
  intro s p m k a hp hu
  have hap : (s.modPort p PtPort.acked).port p = (s.port p).acked := State.port_modPort_self hp.2 _
  have hal : p < (s.modPort p PtPort.acked).jobs.ports.length := (PortMoves.modPort p s _).inList hp.2
  refine ⟨fun hc hh => ⟨?long, ?other, ?ping, ?next, ?hello, ?request, ?ready⟩, ?resends, ?soft, ?hard, ?again, ?idle⟩
  case long =>
    intro pl hl
    change execPlehalAck p pl s = _
    unfold execPlehalAck
    dsimp only
    rw [if_neg (by simp [hp.1, hc, hh]), if_pos hl]
    rfl
  case other =>
    intro pl hl hid
    rw [plehalAck_eq hp hc hh hu hl, if_neg hid]
    rfl
  case ping =>
    intro pl hl hid hq ht
    rw [plehalAck_eq hp hc hh hu hl, if_pos hid, settled_ping ht, portNext_idle (f := PtPort.acked) hq hp.2]
    rfl
  case next =>
    intro pl ty pay rest hl hid hq ht
    have hport : (portNext p (s.modPort p PtPort.acked)).port p = ({ (s.port p).acked with queue := rest } : PtPort).transmit ty pay := by
      rw [portNext_eq, State.port_modPort_self hal, hap]
      have hq' : (s.port p).acked.queue = (ty, pay) :: rest := hq
      have hu' : (s.port p).acked.unacked.isNone = true := rfl
      simp only [PtPort.proceed, hq', hu', if_true]
    refine ⟨_, ?_, sent_transmit hport rfl, by rw [hport]; rfl, by rw [hport]; rfl, ?_⟩
    · rw [plehalAck_eq hp hc hh hu hl, if_pos hid, settled_ping ht]
    · rw [portNext_eq]
      rfl
  case hello =>
    intro pl hl hid hok ht hst hrx hq
    rw [plehalAck_eq hp hc hh hu hl, if_pos hid, hok, settled_hello ht (by rw [hap]; exact hrx) hal, State.modPort_modPort, portNext_idle _ hp.2]
    · rfl
    · exact hq
  case request =>
    intro pl hl hid hok ht hst hn hq
    rw [plehalAck_eq hp hc hh hu hl, if_pos hid, hok, settled_request ht (by rw [hap]; exact hst) (by rw [hap]; exact hn), State.modPort_modPort,
      portNext_idle _ hp.2]
    · rfl
    · exact hq
  case ready =>
    intro pl hl hid hok ht hst hv hr
    have ma : PortMoves p s (s.modPort p PtPort.acked) := .modPort p s _
    have made := (enterContract_made hal).talk (.portNext p _)
    have mt := ma.trans made.moves
    refine ⟨_, ?_, made.st, made.con.trans (by rw [hap]; rfl), made.void, mt.lanes, mt.others, ?_⟩
    · rw [plehalAck_eq hp hc hh hu hl, if_pos hid, hok,
        settled_ready ht (by rw [hap]; exact hst) (by rw [hap]; exact hv) (by rw [hap]; exact hr)]
    · have := made.told
      rw [hap] at this
      exact .of_keeps ma.events this
  case resends =>
    intro ha hk
    refine ⟨_, responseTimeout_resends hp hu ha hk, ?_, ?_, ?_, ?_, ?_, rfl, others_modPort p _ s⟩ <;> rw [State.port_modPort_self hp.2]
    exact List.mem_append_right _ (List.mem_singleton_self _)
  case soft => exact fun ha hk hst => responseTimeout_soft hp hu ha hk hst
  case hard => exact fun ha hk hst => responseTimeout_hard hp hu ha hk hst
  case again => exact fun f hf hb => ⟨_, _, txRetry_again hp hf hb, by omega, rfl⟩
  case idle =>
    intro hb
    change execPlehalTxRetry p s = _
    unfold execPlehalTxRetry
    split
    · rw [if_neg (by simp [hb])]
    · rfl
end

section
/-! Received link, supply and reset messages (R331, R332, R337 to R345, R353). -/

namespace Sys2Proof.Machine

variable {s t : State} {p id : Nat} {pl : List Byte}

/-- From a to b the port has kept what it remembers of the last message, its version and whether its contract is void; what waits for the
wire still does. -/
structure PtPort.Keeps (a b : PtPort) : Prop where
  void : b.void = a.void
  lastRx : b.lastRx = a.lastRx
  ver : b.ver = a.ver
  softN : b.softN = a.softN
  out : a.out ⊆ b.out

theorem PtPort.Keeps.trans {a b c : PtPort} (h : a.Keeps b) (g : b.Keeps c) : a.Keeps c :=
  ⟨g.void.trans h.void, g.lastRx.trans h.lastRx, g.ver.trans h.ver, g.softN.trans h.softN, List.Subset.trans h.out g.out⟩

theorem PtPort.Talks.keeps {a b : PtPort} (h : a.Talks b) : a.Keeps b :=
  ⟨by rw [h.eq], by rw [h.eq], by rw [h.eq], by rw [h.eq], h.out⟩

theorem PtPort.Talks.st {a b : PtPort} (h : a.Talks b) : b.st = a.st := by rw [h.eq]

/-- NEGOTIATING is entered; as provider the port has its offers (R338, R343). -/
theorem negStart_talks (hp : p < s.jobs.ports.length) (cause : Nat) :
    ∃ o n, ({ s.port p with st := .negotiating, inState := 0, reqOk := false, readyOk := false, next := .none, offers := o, advN := n } :
      PtPort).Talks ((negStart p cause s).port p) := by
  have hx := negEntered_port hp cause
  have hl := (PortMoves.negEntered p cause s).inList hp
  rw [negStart_eq]
  generalize negEntered p cause s = x at hx hl
  split
  · rw [sendCaps_eq, State.port_modPort_self hl, hx]
    exact ⟨_, _, .submit _ _ _⟩
  · rw [hx]
    exact ⟨_, _, .refl _⟩

theorem negStart_st (hp : p < s.jobs.ports.length) (cause : Nat) : ((negStart p cause s).port p).st = .negotiating := by
  obtain ⟨o, n, h⟩ := negStart_talks hp cause
  exact h.st

theorem negStart_keeps (hp : p < s.jobs.ports.length) (cause : Nat) : (s.port p).Keeps ((negStart p cause s).port p) := by
  obtain ⟨o, n, h⟩ := negStart_talks hp cause
  have he : (s.port p).Keeps
      { s.port p with st := .negotiating, inState := 0, reqOk := false, readyOk := false, next := .none, offers := o, advN := n } :=
    ⟨rfl, rfl, rfl, rfl, List.Subset.refl _⟩
  exact he.trans h.keeps

/-! The end of a soft reset (R331, R344, R346, R353). -/

/-- A port whose numbering begins again (R331). -/
def PtPort.renumbered (t : PtPort) : PtPort := { t.dropOwn with nextId := 0, lastRx := none, queue := [] }

/-- The numbering restarts, and an ALERT that waited goes out (R331, R344). -/
def softRenumbered (p : Nat) (s : State) : State :=
  let s := portRenumber p s
  if (s.port p).alertDue then sendWithdrawn p (s.modPort p fun t => { t with alertDue := false }) else s

theorem PtPort.submit_authRes (typ : Nat) (pay : List Byte) (t : PtPort) : (t.submit typ pay).authRes = t.authRes := by
  unfold PtPort.submit
  split <;> rfl

theorem softRenumbered_port (hp : p < s.jobs.ports.length) : PortMoves p s (softRenumbered p s) ∧
    ({ (s.port p).renumbered with alertDue := false } : PtPort).Talks ((softRenumbered p s).port p) ∧
    ((softRenumbered p s).port p).authRes = (s.port p).authRes := by
  unfold softRenumbered
  dsimp only
  have mr : PortMoves p s (portRenumber p s) := .modPort p s _
  have hr : (portRenumber p s).port p = (s.port p).renumbered := State.port_modPort_self hp _
  generalize portRenumber p s = r at mr hr
  split
  next h =>
    have hx : (r.modPort p fun t => { t with alertDue := false }).port p = { (s.port p).renumbered with alertDue := false } := by
      rw [State.port_modPort_self (mr.inList hp), hr]
    have mx := mr.trans (.modPort p r fun t => { t with alertDue := false })
    refine ⟨mx.trans (.portSend p _ _ _), hx ▸ (PortTalks.portSend p _ _ _).talks, ?_⟩
    rw [sendWithdrawn, portSend_eq, State.port_modPort_self (mx.inList hp), PtPort.submit_authRes, hx]
    rfl
  next h =>
    have hx : ({ (s.port p).renumbered with alertDue := false } : PtPort) = r.port p := by
      rw [← hr]
      exact congrArg (fun b => ({ r.port p with alertDue := b } : PtPort)) (Bool.eq_false_of_not_eq_true h).symm
    rw [hx, hr]
    exact ⟨mr, .refl _, rfl⟩

/-- After the renumbering a port that has a version goes on where its check allows it (R346, R356). -/
theorem softDone_eq (hv : ((softRenumbered p s).port p).ver ≠ 0) (cause : Nat) : softDone p cause s =
    if authWanted (softRenumbered p s) p then
      if ((softRenumbered p s).port p).auth.isNone && ((softRenumbered p s).port p).authRes.isNone then
        authStart p none (portEnter p .attached cause (softRenumbered p s))
      else authAgain p (portEnter p .attached cause (softRenumbered p s))
    else authAgain p (negStart p cause (softRenumbered p s)) :=
  if_neg hv

theorem softDone_spec (hp : p < s.jobs.ports.length) (hv : (s.port p).ver ≠ 0) (cause : Nat) :
    PortMoves p s (softDone p cause s) ∧ ((softDone p cause s).port p).st = (if authWanted s p then .attached else .negotiating) ∧
      (s.port p).renumbered.Keeps ((softDone p cause s).port p) := by
  obtain ⟨mr, hr, hres⟩ := softRenumbered_port hp
  have hver : ((softRenumbered p s).port p).ver ≠ 0 := by rw [hr.eq]; exact hv
  have hw : authWanted (softRenumbered p s) p = authWanted s p := by
    rw [authWanted, authWanted, hres, mr.eq]
    rfl
  have ha : (s.port p).renumbered.Keeps { (s.port p).renumbered with alertDue := false } := ⟨rfl, rfl, rfl, rfl, List.Subset.refl _⟩
  have hk : (s.port p).renumbered.Keeps ((softRenumbered p s).port p) := ha.trans hr.keeps
  rw [softDone_eq hver, hw]
  generalize softRenumbered p s = r at mr hk
  have hl := mr.inList hp
  split
  next =>
    have me : PortMoves p r (portEnter p .attached cause r) := .portEnter p _ _ r
    have he := portEnter_port hl .attached cause
    generalize portEnter p .attached cause r = e at me he
    have hke : (s.port p).renumbered.Keeps (e.port p) := hk.trans (by rw [he]; exact ⟨rfl, rfl, rfl, rfl, List.Subset.refl _⟩)
    have hst : (e.port p).st = .attached := by rw [he]
    split
    · have ht := PortTalks.authStart p none e
      exact ⟨(mr.trans me).trans ht.moves, ht.talks.st.trans hst, hke.trans ht.talks.keeps⟩
    · have ht := PortTalks.authAgain p e
      exact ⟨(mr.trans me).trans ht.moves, ht.talks.st.trans hst, hke.trans ht.talks.keeps⟩
  next =>
    have ht := PortTalks.authAgain p (negStart p cause r)
    exact ⟨(mr.trans (.negStart p cause r)).trans ht.moves, ht.talks.st.trans (negStart_st hl cause),
      (hk.trans (negStart_keeps hl cause)).trans ht.talks.keeps⟩

/-! What each message does once it is answered. -/

/-- The ratings of the cable depend on the two cable codes of the port alone (R324). -/
theorem ratings_modPort {f : PtPort → PtPort} (hp : p < s.jobs.ports.length) (hc : (f (s.port p)).code = (s.port p).code)
    (hc2 : (f (s.port p)).code2 = (s.port p).code2) :
    ratingV (s.modPort p f) p = ratingV s p ∧ ∀ b, ratingI (s.modPort p f) p b = ratingI s p b := by
  have hk : knownCodes ((s.modPort p f).port p) = knownCodes (s.port p) := by
    rw [State.port_modPort_self hp, knownCodes, knownCodes, hc, hc2]
  constructor
  · rw [ratingV, ratingV, hk]
    rfl
  · intro b
    rw [ratingI, ratingI, hk]
    rfl

/-- The offer that a taker chooses depends on the parameters, the cable and the offers (R340). -/
theorem chooseOffer_modPort {f : PtPort → PtPort} (hp : p < s.jobs.ports.length) (hc : (f (s.port p)).code = (s.port p).code)
    (hc2 : (f (s.port p)).code2 = (s.port p).code2) (l : List Offer) : chooseOffer (s.modPort p f) p l = chooseOffer s p l := by
  obtain ⟨hv, hi⟩ := ratings_modPort hp hc hc2
  unfold chooseOffer
  rw [hv, hi]
  rfl

/-- The offers of a provider depend on no more than that of its port (R339). -/
theorem advertised_modPort {f : PtPort → PtPort} (hp : p < s.jobs.ports.length) (hc : (f (s.port p)).code = (s.port p).code)
    (hc2 : (f (s.port p)).code2 = (s.port p).code2) : advertised (s.modPort p f) p = advertised s p := by
  have hport : (s.modPort p f).port p = f (s.port p) := State.port_modPort_self hp f
  exact advertised_moved ⟨_, _, _, _, _, rfl⟩ (by rw [hport, hc]) (by rw [hport, hc2])

theorem PtPort.answered_st (typ id r : Nat) (t : PtPort) : (t.answered typ id r).st = t.st := rfl

/-- What a HELLO tells of the partner (R335, R337). -/
def PtPort.helloHeard (pl : List Byte) (t : PtPort) : PtPort :=
  { t with pMin := fld pl 0 1, pMax := fld pl 1 1, pRoles := fld pl 2 1, code2 := helloCode pl, pAuth := fld pl 4 1, helloRx := true }

/-- A provider notes a HELLO and looks whether a version can be selected (R337). -/
theorem plehalHello_provider (h : NewMsg s p Ple.HELLO id pl.length) (hv : (s.port p).prov = true) :
    exec (.plehalHello p id pl) s = .next (versionStep p (s.modPort p fun x => (x.answered Ple.HELLO id 0).helloHeard pl)) := by
  change execPlehalHello p id pl s = _
  have hp := h.inList
  unfold execPlehalHello
  rw [receive_ok h (minVersion_le_verNow _) rfl]
  dsimp only
  rw [State.modPort_modPort, State.port_modPort_self hp, if_neg (by simp [PtPort.answered, PtPort.ackFirst, hv])]
  rfl

/-- With both HELLOs acknowledged and no check to pass a common version leads to NEGOTIATING (R337, R346). -/
theorem versionStep_selects {v : Nat} (hst : (s.port p).st = .attached) (htx : (s.port p).helloTx = true) (hrx : (s.port p).helloRx = true)
    (hd : (s.port p).verDone = false) (ha : par s gPRT p PRT.AUTH_MODE ≠ 2)
    (hv : v = selectVersion (par s gPRT p PRT.VER_MAX) (s.port p).pMin (s.port p).pMax) (h0 : v ≠ 0) :
    versionStep p s = negStart p 4 ((s.modPort p fun t => { t with ver := v, verDone := true }).raise Ev.PARTNER_VERSION
      (v * 2 ^ 16 + p * 2 ^ 8 + (s.port p).pMax)) := by
  unfold versionStep
  dsimp only
  rw [if_neg (by simp [hst, htx, hrx, hd]), ← hv, if_neg h0]
  exact if_neg ha

theorem plehalHello_selects {v : Nat} (h : NewMsg s p Ple.HELLO id pl.length) (hst : (s.port p).st = .attached) (hv : (s.port p).prov = true)
    (htx : (s.port p).helloTx = true) (hd : (s.port p).verDone = false) (ha : par s gPRT p PRT.AUTH_MODE ≠ 2)
    (hsel : v = selectVersion (par s gPRT p PRT.VER_MAX) (fld pl 0 1) (fld pl 1 1)) (h0 : v ≠ 0) :
    ∃ t, exec (.plehalHello p id pl) s = .next t ∧ Acked t p Ple.HELLO id 0 ∧ (t.port p).ver = v ∧ (t.port p).st = .negotiating ∧
      Tells s t Ev.PARTNER_VERSION (v * 2 ^ 16 + p * 2 ^ 8 + fld pl 1 1) ∧ ∀ q, q ≠ p → t.port q = s.port q := by
  have hp := h.inList
  refine ⟨_, plehalHello_provider h hv, ?_⟩
  have hx : (s.modPort p fun x => (x.answered Ple.HELLO id 0).helloHeard pl).port p = ((s.port p).answered Ple.HELLO id 0).helloHeard pl :=
    State.port_modPort_self hp _
  have mx : PortMoves p s (s.modPort p fun x => (x.answered Ple.HELLO id 0).helloHeard pl) := .modPort p s _
  have hpar : par (s.modPort p fun x => (x.answered Ple.HELLO id 0).helloHeard pl) = par s := rfl
  have hh : (s.modPort p fun x => (x.answered Ple.HELLO id 0).helloHeard pl).host = s.host := rfl
  generalize (s.modPort p fun x => (x.answered Ple.HELLO id 0).helloHeard pl) = x at hx mx hpar hh
  have hmax : (x.port p).pMax = fld pl 1 1 := by rw [hx]; rfl
  rw [versionStep_selects (by rw [hx]; exact hst) (by rw [hx]; exact htx) (by rw [hx]; rfl) (by rw [hx]; exact hd) (by rw [hpar]; exact ha)
    (by rw [hpar, hx]; exact hsel) h0, hmax]
  set y := x.modPort p fun t => { t with ver := v, verDone := true }
  set z := y.raise Ev.PARTNER_VERSION (v * 2 ^ 16 + p * 2 ^ 8 + fld pl 1 1)
  have mz : PortMoves p s z := (mx.trans (.modPort p x _)).trans (.raise p y _ _)
  have hz : z.port p = { x.port p with ver := v, verDone := true } := State.port_modPort_self (mx.inList hp) _
  have hk := negStart_keeps (mz.inList hp) 4
  have mt := mz.trans (.negStart p 4 z)
  have ht : Tells s z Ev.PARTNER_VERSION (v * 2 ^ 16 + p * 2 ^ 8 + fld pl 1 1) := .of_keeps (KeepsEvents.of_host hh : KeepsEvents s y) (.raise y _ _)
  refine ⟨⟨hk.out ?_, hk.lastRx.trans ?_⟩, hk.ver.trans ?_, negStart_st (mz.inList hp) 4, ht.mono (PortMoves.negStart p 4 z).events,
    mt.others⟩
  · rw [hz, hx]
    exact ack_mem_answered _ _ _ _
  · rw [hz, hx]
    rfl
  · rw [hz]

/-- What a soft reset of the partner's leaves: the version, the result of the last check, and the ACKs that wait (R331, R353). -/
theorem PtPort.softened_kept (c : Nat) (t : PtPort) :
    (t.softened c).ver = t.ver ∧ (t.softened c).authRes = t.authRes ∧ (t.softened c).out = t.out.filter PMsg.isAck := by
  unfold PtPort.softened PtPort.opEnd
  split <;> exact ⟨rfl, rfl, rfl⟩

/-- SOFT_RESET in a state that takes one: the port is reset, and goes on as its check allows (R346, R353). -/
theorem plehalSoftReset_taken (h : NewMsg s p Ple.SOFT_RESET id 0) (hst : (s.port p).st ∈ [PtSt.attached, .negotiating, .contract])
    (hv : (s.port p).ver ≠ 0) :
    ∃ t, exec (.plehalSoftReset p id) s = .next t ∧ (t.port p).st = (if authWanted s p then .attached else .negotiating) ∧
      (t.port p).void = true ∧ (t.port p).lastRx = none ∧ ackMsg id 0 ∈ (t.port p).out ∧ (t.port p).softN = incSat 32 (s.port p).softN ∧
      Tells s t Ev.PORT_SOFT_RESET (p * 2 ^ 8 + 2) ∧ t.jobs.lanes = s.jobs.lanes ∧ ∀ q, q ≠ p → t.port q = s.port q := by
  have hp := h.inList
  have ma : PortMoves p s (s.modPort p (PtPort.answered Ple.SOFT_RESET id 0)) := .modPort p s _
  have ha : (s.modPort p (PtPort.answered Ple.SOFT_RESET id 0)).port p = (s.port p).answered Ple.SOFT_RESET id 0 := State.port_modPort_self hp _
  have he : exec (.plehalSoftReset p id) s = .next (softDone p 4 (softBegin p 2 (s.modPort p (PtPort.answered Ple.SOFT_RESET id 0)))) := by
    change execPlehalSoftReset p id s = _
    unfold execPlehalSoftReset
    rw [receive_ok h (minVersion_le_verNow _) rfl, ha, PtPort.answered_st]
    simp only [List.mem_cons, List.not_mem_nil, or_false] at hst
    rcases hst with e | e | e <;> rw [e]
  generalize s.modPort p (PtPort.answered Ple.SOFT_RESET id 0) = a at ma ha he
  have mb := ma.trans (.softBegin p 2 a)
  have hb := softBegin_softened (ma.inList hp) 2
  have ht : Tells s (softBegin p 2 a) Ev.PORT_SOFT_RESET (p * 2 ^ 8 + 2) := .of_keeps ma.events (softBegin_tells p 2 a)
  generalize softBegin p 2 a = b at mb hb ht he
  rw [ha] at hb
  have kept : (b.port p).ver = (s.port p).ver ∧ (b.port p).authRes = (s.port p).authRes ∧ (b.port p).void = true ∧
      (b.port p).softN = incSat 32 (s.port p).softN ∧ ackMsg id 0 ∈ (b.port p).renumbered.out := by
    obtain ⟨-, -, hvoid, hsoft, -⟩ := ((s.port p).answered Ple.SOFT_RESET id 0).softened_spec 2
    obtain ⟨hver, hres, hout⟩ := ((s.port p).answered Ple.SOFT_RESET id 0).softened_kept 2
    rw [hb]
    refine ⟨hver, hres, hvoid, hsoft, List.mem_filter.mpr ⟨?_, rfl⟩⟩
    rw [hout]
    exact List.mem_filter.mpr ⟨ack_mem_answered _ _ _ _, rfl⟩
  obtain ⟨hver, hres, hvoid, hsoft, hout⟩ := kept
  obtain ⟨mt, hts, hk⟩ := softDone_spec (mb.inList hp) (by rw [hver]; exact hv) 4
  have hw : authWanted b p = authWanted s p := by
    rw [authWanted, authWanted, hres, mb.eq]
    rfl
  have m := mb.trans mt
  exact ⟨_, he, hw ▸ hts, hk.void.trans hvoid, hk.lastRx, hk.out hout, hk.softN.trans hsoft, ht.mono mt.events, m.lanes, m.others⟩

/-- What an ALERT does once it is answered (R345). -/
def alerted (p : Nat) (pl : List Byte) (s : State) : State :=
  let s := s.raise Ev.PARTNER_ALERT (fld pl 0 1 * 2 ^ 16 + p * 2 ^ 8 + fld pl 1 1)
  if fld pl 1 1 ≠ 1 then s
  else if fld pl 0 1 = 6 then s.modPort p fun t => { t with noDemand := true }
  else softOrHard p 5 s

theorem plehalAlert_eq (h : NewMsg s p Ple.ALERT id pl.length) (hv : 0x11 ≤ (s.port p).ver) :
    exec (.plehalAlert p id pl) s = .next (alerted p pl (s.modPort p (PtPort.answered Ple.ALERT id 0))) := by
  change execPlehalAlert p id pl s = _
  unfold execPlehalAlert
  rw [receive_ok h (le_verNow hv) rfl]
  rfl

theorem alerted_tells (hp : p < s.jobs.ports.length) (pl : List Byte) :
    Tells s (alerted p pl s) Ev.PARTNER_ALERT (fld pl 0 1 * 2 ^ 16 + p * 2 ^ 8 + fld pl 1 1) := by
  refine (Tells.raise s _ _).mono ?_
  unfold alerted
  dsimp only
  split
  · exact .refl _
  · split
    · exact .of_host rfl
    · exact softOrHard_keeps (s := s.raise _ _) hp 5

theorem plehalAlert_taken (h : NewMsg s p Ple.ALERT id pl.length) (hv : 0x11 ≤ (s.port p).ver) :
    ∃ t, exec (.plehalAlert p id pl) s = .next t ∧ Tells s t Ev.PARTNER_ALERT (fld pl 0 1 * 2 ^ 16 + p * 2 ^ 8 + fld pl 1 1) ∧
      (fld pl 1 1 ≠ 1 → Acked t p Ple.ALERT id 0 ∧ (t.port p).st = (s.port p).st ∧ (t.port p).noDemand = (s.port p).noDemand) ∧
      (fld pl 1 1 = 1 → fld pl 0 1 = 6 → Acked t p Ple.ALERT id 0 ∧ (t.port p).st = (s.port p).st ∧ (t.port p).noDemand = true) ∧
      (fld pl 1 1 = 1 → fld pl 0 1 ≠ 6 → (s.port p).st = .contract → (t.port p).st = .softReset ∧ (t.port p).cause = 5) := by
  have hp := h.inList
  have ma : PortMoves p s (s.modPort p (PtPort.answered Ple.ALERT id 0)) := .modPort p s _
  have ha : (s.modPort p (PtPort.answered Ple.ALERT id 0)).port p = (s.port p).answered Ple.ALERT id 0 := State.port_modPort_self hp _
  refine ⟨_, plehalAlert_eq h hv, .of_keeps ma.events (alerted_tells (ma.inList hp) pl), ?_⟩
  generalize s.modPort p (PtPort.answered Ple.ALERT id 0) = a at ma ha
  have acked : ackMsg id 0 ∈ (a.port p).out ∧ (a.port p).lastRx = some (Ple.ALERT, id, 0) := ha ▸ ⟨ack_mem_answered _ _ _ _, rfl⟩
  set b := a.raise Ev.PARTNER_ALERT (fld pl 0 1 * 2 ^ 16 + p * 2 ^ 8 + fld pl 1 1) with hb
  have hbp : b.port p = a.port p := rfl
  have hlb : p < b.jobs.ports.length := ma.inList hp
  refine ⟨fun h1 => ?_, fun h1 h6 => ?_, fun h1 h6 hst => ?_⟩
  · have he : alerted p pl a = b := if_pos h1
    rw [he, Acked, hbp]
    exact ⟨acked, by rw [ha]; rfl, by rw [ha]; rfl⟩
  · have he : alerted p pl a = b.modPort p fun t => { t with noDemand := true } := (if_neg (not_not_intro h1)).trans (if_pos h6)
    rw [he, Acked, State.port_modPort_self hlb, hbp]
    exact ⟨acked, by rw [ha]; rfl, rfl⟩
  · have hbs : (b.port p).st = .contract := by rw [hbp, ha]; exact hst
    have he : alerted p pl a = softReset p 5 b :=
      ((if_neg (not_not_intro h1)).trans (if_neg h6)).trans (softOrHard_soft (by rw [hbs]; decide) 5)
    have r := softReset_spec hlb (.inr (.inr hbs)) 5
    rw [he]
    exact ⟨r.st, r.cause⟩

/-- A port that answers, is changed by f and then sends on a free wire (R331, R333). -/
def answerThenSend (p typ id mt : Nat) (pay : List Byte) (f : PtPort → PtPort) (s : State) : State :=
  s.modPort p fun x => (f (x.answered typ id 0)).submit mt pay

/-- Its answer waits for the wire, and so does its message, where f leaves the transmitter. -/
theorem answerThenSend_spec {f : PtPort → PtPort} (hp : p < s.jobs.ports.length) (hw : WireFree s p)
    (hf : ∀ x : PtPort, (f x).unacked = x.unacked ∧ (f x).queue = x.queue ∧ (f x).nextId = x.nextId ∧ (f x).out = x.out ∧
      (f x).lastRx = x.lastRx)
    (typ id mt : Nat) (pay : List Byte) :
    Acked (answerThenSend p typ id mt pay f s) p typ id 0 ∧ Sent (answerThenSend p typ id mt pay f s) p (s.port p).nextId mt pay ∧
      (answerThenSend p typ id mt pay f s).port p = (f ((s.port p).answered typ id 0)).transmit mt pay := by
  obtain ⟨hu, hq, hid, ho, hr⟩ := hf ((s.port p).answered typ id 0)
  have ht : (answerThenSend p typ id mt pay f s).port p = (f ((s.port p).answered typ id 0)).transmit mt pay := by
    rw [answerThenSend, State.port_modPort_self hp, PtPort.submit_free (hu.trans hw.1) (hq.trans hw.2)]
  refine ⟨acked_of_talks ⟨?_, hr⟩ (ht ▸ .transmit mt pay _), sent_transmit ht hid, ht⟩
  rw [ho]
  exact ack_mem_answered _ _ _ _

theorem renegotiate_stays (h : (s.port p).st ≠ .contract) (cause : Nat) : renegotiate p cause s = s := if_neg h

/-- A taker that has the offers of its partner (R340). -/
def PtPort.offered (l : List Offer) (t : PtPort) : PtPort := { t with offers := l, reqOk := false }

/-- A taker that asks for an offer (R338, R340). -/
def PtPort.asking (v i tol : Nat) (t : PtPort) : PtPort := { t with next := .supply v i i tol, pkReq := none }

/-- A provider that has advertised these offers (R338, R339). -/
def PtPort.advertising (l : List Offer) (t : PtPort) : PtPort := { t with offers := l, advN := l.length }

theorem sendRequest_eq {k v i tol : Nat} (h : chooseOffer s p (s.port p).offers = some (k, v, i, tol)) :
    sendRequest p s = s.modPort p fun t => (t.asking v i tol).submit Ple.REQUEST ([byte k, 0] ++ leBytes 2 i ++ leBytes 2 i) := by
  unfold sendRequest
  rw [h]
  dsimp only
  rw [portSend_eq, State.modPort_modPort]
  rfl

theorem plehalCaps_eq (h : NewMsg s p Ple.CAPS id pl.length) (hv : (s.port p).prov = false) (hst : (s.port p).st = .negotiating) :
    exec (.plehalCaps p id pl) s = .next (sendRequest p (s.modPort p fun x => (x.answered Ple.CAPS id 0).offered (parseOffers pl))) := by
  change execPlehalCaps p id pl s = _
  have hp := h.inList
  unfold execPlehalCaps
  rw [receive_ok h (minVersion_le_verNow _) (by rw [portHearing_port hp]; simp [okIf, hv, hst])]
  dsimp only
  rw [renegotiate_stays (by rw [State.port_modPort_self hp, PtPort.answered_st, hst]; decide), State.modPort_modPort]
  rfl

/-- A taker's answer to CAPS is the REQUEST of the offer that it chooses (R338, R340). -/
theorem plehalCaps_requests {k v i tol : Nat} (h : NewMsg s p Ple.CAPS id pl.length) (hw : WireFree s p) (hv : (s.port p).prov = false)
    (hst : (s.port p).st = .negotiating) (hch : chooseOffer s p (parseOffers pl) = some (k, v, i, tol)) :
    ∃ t, exec (.plehalCaps p id pl) s = .next t ∧ Acked t p Ple.CAPS id 0 ∧ (t.port p).next = .supply v i i tol ∧
      Sent t p (s.port p).nextId Ple.REQUEST ([byte k, 0] ++ leBytes 2 i ++ leBytes 2 i) ∧ t.host = s.host ∧
      ∀ q, q ≠ p → t.port q = s.port q := by
  have hp := h.inList
  have ho : (s.modPort p fun x => (x.answered Ple.CAPS id 0).offered (parseOffers pl)).port p =
      ((s.port p).answered Ple.CAPS id 0).offered (parseOffers pl) := State.port_modPort_self hp _
  have hc : chooseOffer (s.modPort p fun x => (x.answered Ple.CAPS id 0).offered (parseOffers pl)) p (parseOffers pl) = some (k, v, i, tol) :=
    (chooseOffer_modPort hp rfl rfl _).trans hch
  have he : exec (.plehalCaps p id pl) s = .next (answerThenSend p Ple.CAPS id Ple.REQUEST ([byte k, 0] ++ leBytes 2 i ++ leBytes 2 i)
      (fun x => (x.offered (parseOffers pl)).asking v i tol) s) := by
    rw [plehalCaps_eq h hv hst, sendRequest_eq (by rw [ho]; exact hc), State.modPort_modPort]
    rfl
  obtain ⟨hack, hsent, hport⟩ := answerThenSend_spec (f := fun x => (x.offered (parseOffers pl)).asking v i tol) hp hw
    (fun _ => ⟨rfl, rfl, rfl, rfl, rfl⟩) Ple.CAPS id Ple.REQUEST ([byte k, 0] ++ leBytes 2 i ++ leBytes 2 i)
  exact ⟨_, he, hack, by rw [hport]; rfl, hsent, rfl, others_modPort p _ s⟩

theorem plehalGetCaps_eq (h : NewMsg s p Ple.GET_CAPS id 0) (hv : (s.port p).prov = true) (hst : (s.port p).st = .negotiating) :
    exec (.plehalGetCaps p id) s = .next (answerThenSend p Ple.GET_CAPS id Ple.CAPS (capsPay (advertised s p))
      (PtPort.advertising (advertised s p)) s) := by
  change execPlehalGetCaps p id s = _
  have hp := h.inList
  unfold execPlehalGetCaps
  rw [receive_ok h (minVersion_le_verNow _) (by rw [portHearing_port hp]; simp [okIf, hv, hst]), State.port_modPort_self hp,
    if_neg (by rw [PtPort.answered_st, hst]; decide), sendCaps_eq, advertised_modPort hp rfl rfl, State.modPort_modPort]
  rfl

/-- A provider answers GET_CAPS with its offers (R338, R343). -/
theorem plehalGetCaps_caps (h : NewMsg s p Ple.GET_CAPS id 0) (hw : WireFree s p) (hv : (s.port p).prov = true)
    (hst : (s.port p).st = .negotiating) :
    ∃ t, exec (.plehalGetCaps p id) s = .next t ∧ Acked t p Ple.GET_CAPS id 0 ∧ (t.port p).offers = advertised s p ∧
      Sent t p (s.port p).nextId Ple.CAPS (capsPay (advertised s p)) ∧ t.host = s.host ∧ ∀ q, q ≠ p → t.port q = s.port q := by
  have hp := h.inList
  obtain ⟨hack, hsent, hport⟩ := answerThenSend_spec (f := PtPort.advertising (advertised s p)) hp hw (fun _ => ⟨rfl, rfl, rfl, rfl, rfl⟩)
    Ple.GET_CAPS id Ple.CAPS (capsPay (advertised s p))
  exact ⟨_, plehalGetCaps_eq h hv hst, hack, by rw [hport]; rfl, hsent, rfl, others_modPort p _ s⟩

/-- A REQUEST within an offer is granted, one beyond its current is not (R338, R339). -/
theorem plehalRequest_judged {k : Nat} {o : Offer} (h : NewMsg s p Ple.REQUEST id pl.length) (hv : (s.port p).prov = true)
    (hst : (s.port p).st = .negotiating) (hl : 6 ≤ pl.length) (hk : fld pl 0 1 = k + 1) (ho : (s.port p).offers[k]? = some o) :
    ∃ t, exec (.plehalRequest p id pl) s = .next t ∧
      (fld pl 4 2 ≤ o.i → Acked t p Ple.REQUEST id 0 ∧ (t.port p).next = .supply o.v (fld pl 2 2) (fld pl 4 2) o.tol ∧
        (t.port p).reqOk = true ∧ (t.port p).st = .negotiating ∧ (t.port p).con = (s.port p).con) ∧
      (o.i < fld pl 4 2 → OnlyAcked s t p Ple.REQUEST id 1) := by
  have hp := h.inList
  obtain ⟨hko, hoi⟩ := List.getElem?_eq_some_iff.mp ho
  have hget : (s.port p).offers.getD k ⟨0, 0, 0⟩ = o := by rw [List.getD_eq_getElem?_getD, ho]; rfl
  by_cases hi : fld pl 4 2 ≤ o.i
  · refine ⟨s.modPort p fun x => { x.answered Ple.REQUEST id 0 with
      next := .supply o.v (fld pl 2 2) (fld pl 4 2) o.tol, reqOk := true, readyOk := false, inTol := 0 }, ?_, fun _ => ?_,
      fun hlt => absurd hi (Nat.not_le.mpr hlt)⟩
    · change execPlehalRequest p id pl s = _
      unfold execPlehalRequest
      dsimp only
      rw [receive_ok h (minVersion_le_verNow _) (by
        rw [portHearing_port hp, hk]
        simp [okIf, hv, hst, hoi, hi, hl, hko, (by omega : 1 ≤ pl.length)])]
      rw [if_neg (by omega), State.port_modPort_self hp, hk, Nat.add_sub_cancel,
        show ((s.port p).answered Ple.REQUEST id 0).offers = (s.port p).offers from rfl, hget, State.modPort_modPort]
    · rw [Acked, State.port_modPort_self hp]
      exact ⟨⟨ack_mem_answered _ _ _ _, rfl⟩, rfl, rfl, hst, rfl⟩
  · refine ⟨s.modPort p (PtPort.answered Ple.REQUEST id 1), ?_, fun h => absurd h hi, fun _ => onlyAcked_answered hp _ _ _⟩
    change execPlehalRequest p id pl s = _
    unfold execPlehalRequest
    dsimp only
    rw [receive_refused (r := 1) h (minVersion_le_verNow _) (by rw [portHearing_port hp, hk]; simp [okIf, ho, hi]) (by decide)]

/-- A REQUEST of offer 0 makes a null contract at once (R338). -/
theorem plehalRequest_null (h : NewMsg s p Ple.REQUEST id pl.length) (hv : (s.port p).prov = true)
    (hst : (s.port p).st = .negotiating) (hl : 1 ≤ pl.length) (hk : fld pl 0 1 = 0) :
    exec (.plehalRequest p id pl) s =
      .next (enterContract p (s.modPort p fun x => { x.answered Ple.REQUEST id 0 with next := .null })) := by
  change execPlehalRequest p id pl s = _
  unfold execPlehalRequest
  dsimp only
  rw [receive_ok h (minVersion_le_verNow _) (by rw [portHearing_port h.inList, hk]; simp [okIf, hv, hst, hl])]
  rw [if_pos hk, State.modPort_modPort]

/-- READY makes the contract of a taker whose REQUEST has been answered OK (R338). -/
theorem plehalReady_contract (h : NewMsg s p Ple.READY id pl.length) (hv : (s.port p).prov = false) (hst : (s.port p).st = .negotiating)
    (hr : (s.port p).reqOk = true) (hl : 2 ≤ pl.length) (hn : (s.port p).pkReq = none) :
    exec (.plehalReady p id pl) s = .next (enterContract p (s.modPort p (PtPort.answered Ple.READY id 0))) := by
  change execPlehalReady p id pl s = _
  have hp := h.inList
  unfold execPlehalReady
  rw [receive_ok h (minVersion_le_verNow _) (by rw [portHearing_port hp]; simp [okIf, hv, hst, hr, hl])]
  rw [if_neg]
  rw [State.port_modPort_self hp, show ((s.port p).answered Ple.READY id 0).pkReq = (s.port p).pkReq from rfl, hn]
  decide

end Sys2Proof.Machine

open Sys2Proof Sys2Proof.Machine

/-- Settles O26: what each message is answered, and what the port then does. -/
theorem portSupplyMessages : Obligations.PortSupplyMessages := by
  intro s p id
  refine ⟨?ping, ?resend, ?long, ?softReset, ?hello, ?version, ?alert, ?caps, ?capsRefused, ?getCaps, ?request, ?null, ?ready⟩
  case ping =>
    intro h
    refine ⟨_, ?_, onlyAcked_answered h.inList _ _ _⟩
    change execPlehalPing p id s = _
    unfold execPlehalPing
    rw [receive_ok h (minVersion_le_verNow _) rfl]
  case resend =>
    intro r pl hp hc ha hl hr
    change execPlehalRequest p id pl s = _
    unfold execPlehalRequest
    dsimp only
    rw [receive_resend hp hc ha hl hr]
  case long =>
    intro pl hp hc ha hl
    change execPlehalRequest p id pl s = _
    unfold execPlehalRequest
    dsimp only
    rw [receive_long hp hc ha hl, frameDiscarded]
  case softReset => exact fun h hst hv => plehalSoftReset_taken h hst hv
  case hello =>
    intro pl h hst hv htx
    have hp := h.inList
    have hx : (s.modPort p fun x => (x.answered Ple.HELLO id 0).helloHeard pl).port p = ((s.port p).answered Ple.HELLO id 0).helloHeard pl :=
      State.port_modPort_self hp _
    refine ⟨s.modPort p fun x => (x.answered Ple.HELLO id 0).helloHeard pl, ?_, ?_⟩
    · rw [plehalHello_provider h hv, versionStep_waits (.inl (by rw [hx]; exact htx))]
    · rw [Acked, hx]
      exact ⟨⟨ack_mem_answered _ _ _ _, rfl⟩, rfl, rfl, rfl, rfl, hst, rfl, others_modPort p _ s⟩
  case version => exact fun pl v h hst hv htx hd ha hsel h0 => plehalHello_selects h hst hv htx hd ha hsel h0
  case alert => exact fun pl h hv => plehalAlert_taken h hv
  case caps => exact fun pl k v i tol h hw hv hst hch => plehalCaps_requests h hw hv hst hch
  case capsRefused =>
    intro pl h hv
    refine ⟨_, ?_, onlyAcked_answered h.inList _ _ _⟩
    change execPlehalCaps p id pl s = _
    unfold execPlehalCaps
    rw [receive_refused (r := 1) h (minVersion_le_verNow _) (by rw [portHearing_port h.inList]; simp [okIf, hv]) (by decide)]
  case getCaps => exact fun h hw hv hst => plehalGetCaps_caps h hw hv hst
  case request => exact fun pl k o h hv hst hl hk ho => plehalRequest_judged h hv hst hl hk ho
  case null =>
    intro pl h hv hst hl hk
    have hp := h.inList
    have mx : PortMoves p s (s.modPort p fun x => { x.answered Ple.REQUEST id 0 with next := .null }) := .modPort p s _
    have hx : ((s.modPort p fun x => { x.answered Ple.REQUEST id 0 with next := .null }).port p).next = .null := by
      rw [State.port_modPort_self hp]
    refine ⟨_, plehalRequest_null h hv hst hl hk, ?_⟩
    generalize (s.modPort p fun x => { x.answered Ple.REQUEST id 0 with next := .null }) = x at mx hx
    have made := enterContract_made (mx.inList hp)
    have told := made.told
    rw [hx, show Contract.null.volt = 0 from rfl, Nat.zero_mul, Nat.zero_add] at told
    exact ⟨made.st, made.con.trans hx, (mx.trans made.moves).lanes, .of_keeps mx.events told⟩
  case ready =>
    intro pl h hv hst hr hl hn
    have hp := h.inList
    have mx : PortMoves p s (s.modPort p (PtPort.answered Ple.READY id 0)) := .modPort p s _
    have hx : (s.modPort p (PtPort.answered Ple.READY id 0)).port p = (s.port p).answered Ple.READY id 0 := State.port_modPort_self hp _
    refine ⟨_, plehalReady_contract h hv hst hr hl hn, ?_⟩
    generalize s.modPort p (PtPort.answered Ple.READY id 0) = x at mx hx
    have made := enterContract_made (mx.inList hp)
    have mt := mx.trans made.moves
    have told : Tells s (enterContract p x) Ev.CONTRACT ((x.port p).next.volt * 2 ^ 16 + p * 2 ^ 8 + (x.port p).next.kind) :=
      .of_keeps mx.events made.told
    rw [hx] at told
    refine ⟨acked_of_talks ⟨?_, ?_⟩ made.port, made.st, made.con.trans (by rw [hx]; rfl), mt.lanes, mt.others, told⟩
    · rw [hx]
      exact ack_mem_answered _ _ _ _
    · rw [hx]
      rfl
end

section
/-! The timers of a partner port (R337 to R357, R360). -/

namespace Sys2Proof.Machine

variable {s : State} {p : Nat}

/-- A port changed by f, whose message then goes out on a free wire (R331). -/
theorem portSend_after {f : PtPort → PtPort} (hp : p < s.jobs.ports.length) (hw : WireFree s p)
    (hf : ∀ x : PtPort, (f x).unacked = x.unacked ∧ (f x).queue = x.queue ∧ (f x).nextId = x.nextId) (typ : Nat) (pay : List Byte) :
    (portSend p typ pay (s.modPort p f)).port p = (f (s.port p)).transmit typ pay ∧
      Sent (portSend p typ pay (s.modPort p f)) p (s.port p).nextId typ pay ∧ (portSend p typ pay (s.modPort p f)).host = s.host := by
  obtain ⟨hu, hq, hid⟩ := hf (s.port p)
  have hport : (portSend p typ pay (s.modPort p f)).port p = (f (s.port p)).transmit typ pay := by
    rw [portSend_eq, State.modPort_modPort, State.port_modPort_self hp, PtPort.submit_free (hu.trans hw.1) (hq.trans hw.2)]
  refine ⟨hport, sent_transmit hport hid, ?_⟩
  rw [portSend_eq]
  rfl

/-- A message on a free wire leaves the host side (R331). -/
theorem portSend_host (p typ : Nat) (pay : List Byte) (s : State) : (portSend p typ pay s).host = s.host := by
  rw [portSend_eq]
  rfl

theorem prov_of_takeCon {t : PtPort} (h : (takeCon t).isSome = true) : t.prov = false := by
  unfold takeCon at h
  split at h
  · cases h
  next hn => simpa using hn

theorem PtPort.opEnd_eq (acts : List Nat) (status : Nat) (t : PtPort) : ∃ d, t.opEnd acts status = { t with opDone := d } := by
  unfold PtPort.opEnd
  split <;> exact ⟨_, rfl⟩

/-- A frame of the transmitter in which the marker ends: it has been sent (R354). -/
theorem line_marker_ends {t : PtPort} (hb : t.busyFor = 1) (hl : t.lastTx = some marker) (idle : Bool) :
    (t.line idle).marked = true ∧ (t.line idle).markFor = some 0 := by
  unfold PtPort.line
  extract_lets done u
  have hd : done = true := by simp [done, hb, hl]
  have hu : u.marked = true ∧ u.markFor = some 0 := ⟨by simp [u, hd], if_pos hd⟩
  clear_value u
  split
  · exact hu
  · split_ifs <;> exact hu

/-- A check that ends outside ATTACHED is told, and nothing follows but the end of the PORT_CMD that asked for it (R357, R360). -/
theorem authEnd_outside (hp : p < s.jobs.ports.length) (h : (s.port p).st ≠ .attached) (res : Nat) :
    Told s (authEnd p res s) Ev.PARTNER_AUTH (p * 2 ^ 8 + res) ∧
      ∃ d, (authEnd p res s).port p = { s.port p with auth := none, authRes := some res, opDone := d } := by
  unfold authEnd
  dsimp only
  rw [portOpEnd_eq]
  set f : PtPort → PtPort := fun t => { t with auth := none, authRes := some res }
  set x := (s.modPort p f).raise Ev.PARTNER_AUTH (p * 2 ^ 8 + res)
  set g := PtPort.opEnd [5] (if res = 0 then St.OK else if res = 4 then St.VERSION else St.AUTH_FAIL)
  have mx : PortMoves p s x := (PortMoves.modPort p s f).trans (.raise p _ _ _)
  have hx : x.port p = { s.port p with auth := none, authRes := some res } := State.port_modPort_self hp f
  have hy : (x.modPort p g).port p = g (x.port p) := State.port_modPort_self (mx.inList hp) g
  obtain ⟨d, hd⟩ : ∃ d, g (x.port p) = { x.port p with opDone := d } := PtPort.opEnd_eq _ _ _
  have hd : (x.modPort p g).port p = { s.port p with auth := none, authRes := some res, opDone := d } := by rw [hy, hd, hx]
  have hst : ((x.modPort p g).port p).st ≠ .attached := by rw [hd]; exact h
  rw [if_neg (by simp [hst])]
  exact ⟨rfl, d, hd⟩

/-! The end of SAFE0 (R355). -/

/-- A port that begins again after SAFE0, presenting as prov (R321, R355, R360). -/
def PtPort.safeAgain (prov : Bool) (t : PtPort) : PtPort := ({ t with prov := prov, marked := false, dualAge := 0 } : PtPort).opEnd [1] St.OK

/-- A port at the end of SAFE0, before its wires are looked at: a late one is told (R355). -/
def safe0Over (p : Nat) (s : State) : State :=
  (if (s.port p).lowRun < 100 then
      s.raise Ev.SAFE0_LATE (p * 2 ^ 8 + (if (s.port p).vHard = 0 then 0 else fitU 8 (divR (100 * s.val (8 + p)) (s.port p).vHard)))
    else s).modPort p (PtPort.safeAgain (defaultProv s p))

theorem safe0Over_port (hp : p < s.jobs.ports.length) : PortMoves p s (safe0Over p s) ∧
    ∃ d, (safe0Over p s).port p = { s.port p with prov := defaultProv s p, marked := false, dualAge := 0, opDone := d } := by
  obtain ⟨d, hd⟩ := PtPort.opEnd_eq [1] St.OK { s.port p with prov := defaultProv s p, marked := false, dualAge := 0 }
  unfold safe0Over
  split
  · exact ⟨(PortMoves.raise p s _ _).trans (.modPort p _ _), d, (State.port_modPort_self (s := s.raise _ _) hp _).trans hd⟩
  · exact ⟨.modPort p s _, d, (State.port_modPort_self hp _).trans hd⟩

theorem safe0End_eq (hp : HasPort s p) (hst : (s.port p).st = .safe0) (hend : 100 ≤ (s.port p).lowRun ∨ 80000 ≤ (s.port p).inState) :
    exec (.safe0End p) s = .next (
      if (partnerSeen (defaultProv s p) (s.port p).cfgA (s.port p).cfgB).isSome then
        (portEnter p .attachWait 1 (safe0Over p s)).modPort p fun t => { t with
          seen := partnerSeen (defaultProv s p) (s.port p).cfgA (s.port p).cfgB, seenRun := 0 }
      else (portEnter p .detached 2 (safe0Over p s)).modPort p fun t => { t with
        seen := none, seenRun := 0, pk := none, stat := none, code := 0xFF, code2 := 0xFF, hardAtt := 0 }) := by
  obtain ⟨-, d, hd⟩ := safe0Over_port hp.2
  have hs : partnerSeen ((safe0Over p s).port p).prov ((safe0Over p s).port p).cfgA ((safe0Over p s).port p).cfgB =
      partnerSeen (defaultProv s p) (s.port p).cfgA (s.port p).cfgB := by rw [hd]
  have hover : portOpEnd p [1] St.OK ((if (s.port p).lowRun < 100 then
      s.raise Ev.SAFE0_LATE (p * 2 ^ 8 + (if (s.port p).vHard = 0 then 0 else fitU 8 (divR (100 * s.val (8 + p)) (s.port p).vHard)))
    else s).modPort p fun x => { x with prov := defaultProv s p, marked := false, dualAge := 0 }) = safe0Over p s := by
    rw [portOpEnd_eq, State.modPort_modPort]
    rfl
  change execSafe0End p s = _
  unfold execSafe0End
  dsimp only
  rw [if_pos (by simpa [hp.1, hst] using hend)]
  have hdef : defaultProv (if (s.port p).lowRun < 100 then
      s.raise Ev.SAFE0_LATE (p * 2 ^ 8 + (if (s.port p).vHard = 0 then 0 else fitU 8 (divR (100 * s.val (8 + p)) (s.port p).vHard)))
    else s) p = defaultProv s p := by
    split <;> rfl
  rw [hdef, hover, hs]

theorem safe0End_detaches (hp : HasPort s p) (hst : (s.port p).st = .safe0) (hrun : 100 ≤ (s.port p).lowRun)
    (hn : partnerSeen (defaultProv s p) (s.port p).cfgA (s.port p).cfgB = none) :
    ∃ t, exec (.safe0End p) s = .next t ∧ (t.port p).st = .detached ∧ (t.port p).prov = defaultProv s p ∧
      Told s t Ev.PORT_STATE (p * 2 ^ 8 + 2 * 2 ^ 4 + PtSt.detached.code) ∧ ∀ q, q ≠ p → t.port q = s.port q := by
  obtain ⟨mx, d, hd⟩ := safe0Over_port hp.2
  have hx : safe0Over p s = s.modPort p (PtPort.safeAgain (defaultProv s p)) := by rw [safe0Over, if_neg (Nat.not_lt.mpr hrun)]
  have hh : (safe0Over p s).host = s.host ∧ (safe0Over p s).fleetTime = s.fleetTime := by rw [hx]; exact ⟨rfl, rfl⟩
  refine ⟨_, (safe0End_eq hp hst (.inl hrun)).trans (congrArg _ (if_neg (by rw [hn]; decide))), ?_⟩
  generalize safe0Over p s = x at mx hd hh
  have me := mx.trans (.portEnter p .detached 2 x)
  have he := portEnter_port (mx.inList hp.2) .detached 2
  have hne : (x.port p).st ≠ .detached := by rw [hd]; exact fun h => PtSt.noConfusion (hst.symm.trans h)
  have ht : (portEnter p .detached 2 x).host = _ := portEnter_told hne 2
  rw [hh.1, hh.2] at ht
  refine ⟨?_, ?_, ht, (me.trans (.modPort p _ _)).others⟩ <;> rw [State.port_modPort_self (me.inList hp.2), he, hd]

theorem safe0End_late {w : Nat × Nat} (hp : HasPort s p) (hst : (s.port p).st = .safe0) (hin : 80000 ≤ (s.port p).inState)
    (hrun : (s.port p).lowRun < 100) (hw : partnerSeen (defaultProv s p) (s.port p).cfgA (s.port p).cfgB = some w) :
    ∃ t arg, exec (.safe0End p) s = .next t ∧ (t.port p).st = .attachWait ∧ (t.port p).seen = some w ∧ Tells s t Ev.SAFE0_LATE arg := by
  obtain ⟨mx, d, hd⟩ := safe0Over_port hp.2
  have ht : ∃ arg, Tells s (safe0Over p s) Ev.SAFE0_LATE arg := by
    unfold safe0Over
    rw [if_pos hrun]
    exact ⟨_, (Tells.raise s _ _).mono (.of_host rfl)⟩
  obtain ⟨arg, ht⟩ := ht
  refine ⟨_, arg, (safe0End_eq hp hst (.inr hin)).trans (congrArg _ (if_pos (by rw [hw]; rfl))), ?_⟩
  rw [hw]
  generalize safe0Over p s = x at mx ht
  have me := PortMoves.portEnter p .attachWait 1 x
  have he := portEnter_port (mx.inList hp.2) .attachWait 1
  refine ⟨?_, ?_, ht.mono (me.trans (.modPort p _ _)).events⟩ <;> rw [State.port_modPort_self ((mx.trans me).inList hp.2), he]

end Sys2Proof.Machine

open Sys2Proof Sys2Proof.Machine

/-- Settles O28: each timer by what it sends, resets or ends. -/
theorem portTimerRows : Obligations.PortTimerRows := by
  intro s p hp
  refine ⟨?hello, ?ready, ?settles, ?lost, ?negotiation, ?ping, ?statusLate, ?statusLost, ?discharged, ?swapOver, ?swapAgain, ?spacing, ?line,
    ?markerHard, ?markerUnheard, ?marker, ?safe0, ?safe0Late, ?check, ?command⟩
  case hello =>
    intro hst hv hrx hout hin hw
    obtain ⟨hport, hsent, hhost⟩ := portSend_after (f := fun t => { t with helloOut := true }) hp.2 hw (fun _ => ⟨rfl, rfl, rfl⟩) Ple.HELLO
      (helloPayload s p)
    have he : sendHello p s = portSend p Ple.HELLO (helloPayload s p) (s.modPort p fun t => { t with helloOut := true }) := rfl
    refine ⟨sendHello p s, _, ?_, hsent, by rw [he, hport]; rfl, hhost, (PortMoves.sendHello p s).others⟩
    change execHelloWaitTimeout p s = _
    unfold execHelloWaitTimeout
    simp [hp.1, hst, hv, hrx, hout, hin]
  case ready =>
    intro hst hv hr hro hin hw
    obtain ⟨hport, hsent, hhost⟩ := portSend_after (f := fun t => { t with readyOk := true }) hp.2 hw (fun _ => ⟨rfl, rfl, rfl⟩) Ple.READY
      (leBytes 2 (s.port p).next.volt ++ [0, 0])
    refine ⟨_, ?_, by rw [hport]; rfl, by rw [hport]; exact hst, hhost, hsent⟩
    change execProviderVoltageSettled p s = _
    unfold execProviderVoltageSettled
    simp [hp.1, hst, hv, hr, hro, hin]
  case settles =>
    intro hst htc hin
    change execTakerPortSettled p s = _
    unfold execTakerPortSettled
    simp [hp.1, hst, htc, hin]
  case lost =>
    intro hst htc hout
    set x := s.modPort p fun t => { t with noDemand := true, settled := false, outTol := 0 }
    have mx : PortMoves p s x := .modPort p s _
    have hx : x.port p = { s.port p with noDemand := true, settled := false, outTol := 0 } := State.port_modPort_self hp.2 _
    have r := softReset_spec (mx.inList hp.2) (.inr (.inr (by rw [hx]; exact hst))) 8
    have hid : (x.port p).nextId = (s.port p).nextId := by rw [hx]
    refine ⟨softReset p 8 x, ?_, r.st, r.cause, r.noDemand.trans (by rw [hx]), r.void, hid ▸ r.sent⟩
    change execPortVoltageLost p s = _
    unfold execPortVoltageLost
    simp [hp.1, hst, htc, hout, prov_of_takeCon htc, x]
  case negotiation =>
    intro hst hin
    have r := softReset_spec hp.2 (.inr (.inl hst)) 4
    refine ⟨softReset p 4 s, ?_, r.st, r.cause, r.sent, r.told⟩
    change execNegotiationTimeout p s = _
    unfold execNegotiationTimeout
    simp [hp.1, hst, hin]
  case ping =>
    intro hst hk hq hw
    refine ⟨portSend p Ple.PING [] s, ?_, portSend_sent hp.2 hw _ _, by rw [portSend_port hp.2 hw]; exact hst, portSend_host _ _ _ _⟩
    change execKeepalivePing p s = _
    unfold execKeepalivePing
    simp [hp.1, hst, hk, hq]
  case statusLate =>
    intro x hx hst hpk hver hask hage hw
    obtain ⟨hport, hsent, -⟩ := portSend_after (f := fun t => { t with statAsked := true }) hp.2 hw (fun _ => ⟨rfl, rfl, rfl⟩)
      Ple.GET_STATUS []
    refine ⟨_, ?_, hsent, by rw [hport]; rfl, by rw [hport]; exact hst⟩
    change execPackStatusLate p s = _
    unfold execPackStatusLate
    simp [hx, hp.1, hst, hpk, hver, hask, hage]
  case statusLost =>
    intro x hx hst hpk hage
    have r := softReset_spec hp.2 (.inr (.inr hst)) 7
    refine ⟨softReset p 7 s, ?_, r.st, r.cause, r.sent⟩
    change execPackStatusLost p s = _
    unfold execPackStatusLost
    simp [hx, hp.1, hst, hpk, hage]
  case discharged =>
    intro hst hold hv hrun hw
    obtain ⟨hport, hsent, hhost⟩ := portSend_after (f := fun t => { t with prov := false }) hp.2 hw (fun _ => ⟨rfl, rfl, rfl⟩) Ple.SWAP_OFF []
    refine ⟨_, ?_, by rw [hport]; rfl, hsent, by rw [hport]; exact hst, hhost⟩
    change execSwapPortDischarged p s = _
    unfold execSwapPortDischarged
    simp [hp.1, hst, hold, hv, hrun]
  case swapOver =>
    intro hno hin
    have hst : (s.port p).st = .swapping := by
      simp only [PtPort.noSwapOff, Bool.and_eq_true, beq_iff_eq] at hno
      exact hno.1.1
    have r := hardResetAs_spec hp.2 (show (s.port p).st.resets by simp [PtSt.resets, hst]) 4 3
    refine ⟨hardReset p 4 s, ?_, r.st, r.cause, r.hardN, r.ver⟩
    change execSwapTimeout p s = _
    unfold execSwapTimeout
    simp [hp.1, hno, hin]
  case swapAgain =>
    intro k hk hage hst hop hw
    obtain ⟨hport, hsent, -⟩ := portSend_after (f := fun t => { t with swapRetry := none }) hp.2 hw (fun _ => ⟨rfl, rfl, rfl⟩)
      Ple.ROLE_SWAP []
    refine ⟨_, ?_, by rw [hport]; rfl, hsent⟩
    change execSwapWaitRetry p s = _
    unfold execSwapWaitRetry
    simp [hk, hp.1, hst, hop, hage]
  case spacing =>
    intro hst hm hdue hs
    change execHardResetSpacing p s = _
    unfold execHardResetSpacing
    simp [hp.1, hst, hm, hdue, putMarker, hs, portPut]
  case line => exact fun idle hb hl => line_marker_ends hb hl idle
  case markerHard =>
    intro hst hc
    change execHardResetMarker p s = _
    unfold execHardResetMarker
    simp [hp.1, hst, hc]
  case markerUnheard =>
    intro hst
    change execHardResetMarker p s = _
    unfold execHardResetMarker
    simp only [List.mem_cons, List.not_mem_nil, or_false] at hst
    rcases hst with h | h <;> simp [h, hardReset, hardResetAs]
  case marker =>
    intro hst hc
    obtain ⟨h1, h2, h3⟩ : (s.port p).st ≠ .detached ∧ (s.port p).st ≠ .attachWait ∧ (s.port p).st ≠ .hardReset := by simpa using hst
    have r := hardResetAs_spec hp.2 (show (s.port p).st.resets from ⟨h1, h2, h3⟩) 2 4
    refine ⟨hardReset p 2 s, ?_, r.st, r.cause, r.con, r.marked rfl⟩
    change execHardResetMarker p s = _
    unfold execHardResetMarker
    rw [if_pos (by simp [hp.1, hc])]
    split
    next h => exact absurd h h3
    next => rfl
  case safe0 => exact fun hst hrun hn => safe0End_detaches hp hst hrun hn
  case safe0Late => exact fun w hst hin hrun hw => safe0End_late hp hst hin hrun hw
  case check =>
    intro a ha hage hst
    obtain ⟨told, d, hd⟩ := authEnd_outside hp.2 (by rw [hst]; decide) 3
    refine ⟨authEnd p 3 s, ?_, by rw [hd], by rw [hd], by rw [hd]; exact hst, told⟩
    change execPartnerAuthTimeout p s = _
    unfold execPartnerAuthTimeout
    simp [ha, hp.1, hage]
  case command =>
    rintro o n act st ho rfl hop hdone
    have hport : ((s.modPort o.res fun t => { t with op := none, opDone := none }).endOp 0x60 n st).port o.res =
        { s.port o.res with op := none, opDone := none } := State.port_modPort_self hp.2 _
    refine ⟨(s.modPort o.res fun t => { t with op := none, opDone := none }).endOp 0x60 n st, ?_, rfl, by rw [hport], by rw [hport],
      by rw [hport], others_modPort o.res _ s⟩
    change execPortCmdComplete n s = _
    unfold execPortCmdComplete
    simp [ho, hop, hdone]
end

section
/-! What a frame on the fleet bus leaves of the port that it came on or goes out on (R357, R370, R376, R377). -/

namespace Sys2Proof.Machine

variable {s : State} {q typ : Nat} {f : FHdr} {pl pay : List Byte} {a : AuthRun}

/-- From a to b a fleet port has only sent or put in waiting frames of its own (R370). -/
def FlPort.Sends (a b : FlPort) : Prop :=
  b = { a with sent := b.sent, unacked := b.unacked, txSeq := b.txSeq, ackAge := b.ackAge, wait := b.wait }

theorem FlPort.Sends.trans {a b c : FlPort} (h : a.Sends b) (g : b.Sends c) : a.Sends c := by
  unfold FlPort.Sends at *
  rw [g, h]

theorem FlPort.Sends.waiting (l : List (Nat × FFrame)) (p : FlPort) : p.Sends { p with wait := l } := rfl

theorem FlPort.Sends.emit (g : FFrame) (p : FlPort) : p.Sends (p.emit g) := rfl

theorem FlPort.Sends.pump (k : Nat) (p : FlPort) : p.Sends (FlPort.pump k p) := by
  induction k generalizing p with
  | zero => rfl
  | succ k ih =>
    unfold FlPort.pump
    split
    · split
      · exact ((FlPort.Sends.waiting _ p).trans (.emit _ _)).trans (ih _)
      · rfl
    · rfl

theorem FlPort.Sends.give (pr : Nat) (g : FFrame) (p : FlPort) : p.Sends (p.give pr g) := by
  unfold FlPort.give
  split
  · rfl
  · split
    · exact (FlPort.Sends.waiting _ p).trans (.pump 8 _)
    · rfl

theorem HasFl.inList (h : HasFl s q) : q < s.jobs.fleet.ports.length := h.2 ▸ h.1

theorem TookHop.hasFl (h : TookHop s q f) : HasFl s q := h.1.1

theorem TookHop.up (h : TookHop s q f) : (s.fl q).up = true := h.1.2.2.1

theorem HasFl.modFl (h : HasFl s q) (g : FlPort → FlPort) : HasFl (s.modFl q g) q := ⟨h.1, (modAt_length _ _ _).trans h.2⟩

/-- A hop frame sent is held by its port, of which it leaves all but the transmitter (R370). -/
theorem hopSend_spec (h : HasFl s q) (hu : (s.fl q).up = true) (typ : Nat) (pay : List Byte) :
    Gave (hopSend q typ pay s) q typ 0 0xFFFF pay ∧ (s.fl q).Sends ((hopSend q typ pay s).fl q) := by
  have hport : (hopSend q typ pay s).fl q = (s.fl q).give 0 (mkFrame s q typ 0 0xFFFF pay) := State.fl_modFl_self h.inList _
  unfold Gave
  rw [hport]
  exact ⟨FlPort.give_holds hu 0 (mkFrame s q typ 0 0xFFFF pay), .give 0 _ _⟩

/-- An event raised leaves the fleet's ports. -/
theorem fl_raise (s : State) (c v k : Nat) : (s.raise c v).fl k = s.fl k := by
  have h (g : Fleet) (m code sq time arg : Nat) : (g.passUp m code sq time arg).ports = g.ports := by
    unfold Fleet.passUp
    split <;> rfl
  exact congrArg (fun ps : List FlPort => ps.getD k {}) (h _ _ _ _ _ _)

/-- A check that ends leaves its result with the port, and the state of the fleet and its other ports as they are (R377). -/
theorem fleetAuthEnd_spec (h : HasFl s q) (res : Nat) :
    (fleetAuthEnd q res s).fl q = { s.fl q with auth := none, authRes := some res, authAge := 0 } ∧
      (fleetAuthEnd q res s).fleet.st = s.fleet.st ∧ ∀ k, k ≠ q → (fleetAuthEnd q res s).fl k = s.fl k := by
  unfold fleetAuthEnd
  dsimp only
  set g : FlPort → FlPort := fun p => { p with auth := none, authRes := some res, authAge := 0 }
  have hport : (s.modFl q g).fl q = g (s.fl q) := State.fl_modFl_self h.inList g
  have told (z : State) (k : Nat) : (fleetTell 8 z).fl k = z.fl k ∧ (fleetTell 8 z).fleet.st = z.fleet.st :=
    ⟨fl_raise (z.modFleet fun f => { f with cause := 8 }) _ _ k, raise_fleetSt (z.modFleet fun f => { f with cause := 8 }) _ _⟩
  split
  · exact ⟨(told _ q).1.trans hport, (told _ q).2, fun k hk => (told _ k).1.trans (State.fl_modFl_ne hk g)⟩
  · exact ⟨hport, rfl, fun k hk => State.fl_modFl_ne hk g⟩

/-! A hop frame taken (R370, R371). -/

/-- A frame of the neighbour's has been taken: its number is the last received. -/
def flHeard (q : Nat) (f : FHdr) (s : State) : State := s.modFl q fun p => { p with rxSeq := f.lseq }

theorem flHeard_port (h : HasFl s q) (f : FHdr) : (flHeard q f s).fl q = { s.fl q with rxSeq := f.lseq } := State.fl_modFl_self h.inList _

theorem HasFl.heard (h : HasFl s q) (f : FHdr) : HasFl (flHeard q f s) q := h.modFl _

theorem hopIn_taken (h : TookHop s q f) (h1 : typ ≠ Eli.DELAY_REQ) (h2 : typ ≠ Eli.DELAY_RESP) (act : State → State) :
    hopIn q typ f act s = act (flHeard q f s) := by
  obtain ⟨⟨hq, hc, hu, ho, hl⟩, hr, hcut⟩ := h
  have hn : (⟨typ, f.route, f.lseq, f.ver, f.src, f.dst, []⟩ : FFrame).numbered = true := by simp [FFrame.numbered, hr, h1, h2]
  have hopen : openPort (flHeard q f s) q = true := by
    unfold openPort at ho ⊢
    rw [flHeard_port hq]
    exact ho
  have htake : flTake q typ f s = (true, flHeard q f s) := by
    unfold flTake
    dsimp only
    rw [if_neg (by simp [hq.1, hu, hc]), if_neg (by simp [hl]), if_pos hn]
    exact Prod.ext (by simp [show openPort (s.modFl q fun p => { p with rxSeq := f.lseq }) q = true from hopen]) rfl
  unfold hopIn
  rcases hk : (s.slot (slotFor s 10 0)).cutNow with _ | k
  · simp [htake, hr]
  · simp [htake, hr, Nat.not_le.mpr (hcut k hk)]

/-- In a frame that cuts the fleet job's S4 off a hop frame is not taken (R99, R370). -/
theorem hopIn_lost {k : Nat} (hk : (s.slot (slotFor s 10 0)).cutNow = some k) (h4 : k ≤ 4) (typ : Nat) (f : FHdr) (act : State → State) :
    hopIn q typ f act s = s := by
  unfold hopIn
  rw [hk]
  simp [h4]

/-! HELLO and the check of a neighbour (R357, R376, R377). -/

theorem elivoHello_selects (h : TookHop s q f) (hm : fle s FLE.AUTH_MODE ≠ 2) (htop : 2 ≤ fle s FLE.VER_MAX) :
    ∃ t, exec (.elivoHello q f pl) s = .next t ∧ (t.fl q).rxSeq = f.lseq ∧ t.host = s.host ∧
      (t.fl q).ver = (if fld pl 0 1 ≤ 2 ∧ 2 ≤ fld pl 1 1 then 2 else if fld pl 0 1 ≤ 1 ∧ 1 ≤ fld pl 1 1 then 1 else 0) ∧
      ((t.fl q).noVer = true ↔ (t.fl q).ver = 0) ∧ ∀ k, k ≠ q → t.fl k = s.fl k := by
  have hq := h.hasFl
  have hx := flHeard_port hq f
  have hlx := (hq.heard f).inList
  have htop' : 2 ≤ fle (flHeard q f s) FLE.VER_MAX := htop
  have hm' : fle (flHeard q f s) FLE.AUTH_MODE ≠ 2 := hm
  have hothers (k : Nat) (hk : k ≠ q) : (flHeard q f s).fl k = s.fl k := State.fl_modFl_ne hk _
  have hhost : (flHeard q f s).host = s.host := rfl
  change ∃ t, execElivoHello q f pl s = _ ∧ _
  unfold execElivoHello
  rw [hopIn_taken h (by decide) (by decide)]
  generalize flHeard q f s = x at hx hlx htop' hm' hothers hhost
  refine ⟨_, rfl, ?_⟩
  dsimp only
  rw [if_neg (fun hc => hm' (by simp only [Bool.and_eq_true, decide_eq_true_eq] at hc; exact hc.1)), State.fl_modFl_self hlx, hx]
  exact ⟨rfl, hhost, by simp [htop'], by simp, fun k hk => (State.fl_modFl_ne hk _).trans (hothers k hk)⟩

theorem fleetAuthCertGet_gives (h : TookHop s q f) (hv : 2 ≤ (s.fl q).ver) (h1 : 1 ≤ fld pl 2 1) (h2 : fld pl 2 1 ≤ 64) :
    ∃ t, exec (.fleetAuthCertGet q f pl) s = .next t ∧ (t.fl q).rxSeq = f.lseq ∧ t.host = s.host ∧
      Gave t q Eli.AUTH_CERT 0 0xFFFF
        (leBytes 2 (fld pl 0 2) ++ leBytes 2 s.cert.length ++ (s.cert.drop (fld pl 0 2)).take (fld pl 2 1)) := by
  have hq := h.hasFl
  have hx := flHeard_port hq f
  obtain ⟨hg, hs⟩ := hopSend_spec (hq.heard f) (by rw [hx]; exact h.up) Eli.AUTH_CERT
    (leBytes 2 (fld pl 0 2) ++ leBytes 2 s.cert.length ++ (s.cert.drop (fld pl 0 2)).take (fld pl 2 1))
  refine ⟨hopSend q Eli.AUTH_CERT (leBytes 2 (fld pl 0 2) ++ leBytes 2 s.cert.length ++ (s.cert.drop (fld pl 0 2)).take (fld pl 2 1))
    (flHeard q f s), ?_, by rw [hs, hx], rfl, hg⟩
  change execFleetAuthCertGet q f pl s = _
  unfold execFleetAuthCertGet
  rw [hopIn_taken h (by decide) (by decide)]
  dsimp only
  rw [hx, if_pos (by simp [hv, h1, h2])]
  rfl

/-- A part of the neighbour's certificate on a check that gathers it: a wrong one ends it, the next is asked for, or the challenge goes out. -/
def fleetCertIn (q : Nat) (pl : List Byte) (a : AuthRun) (s : State) : State :=
  if 1024 < fld pl 2 2 || fld pl 0 2 ≠ a.bytes.length || (pl.drop 4).isEmpty then fleetAuthEnd q 1 s
  else if (a.bytes ++ pl.drop 4).length < fld pl 2 2 then
    fleetCertAsk q (a.bytes ++ pl.drop 4).length
      (s.modFl q fun p => { p with auth := some { a with bytes := a.bytes ++ pl.drop 4, total := fld pl 2 2 } })
  else
    hopSend q Eli.AUTH_CHALLENGE ((List.range 32).map fun k => Config.randomByte (s.freeCtr + k)) ((s.drawn 32).modFl q fun p => { p with
      auth := some { a with
        bytes := (a.bytes ++ pl.drop 4).take (fld pl 2 2), total := fld pl 2 2, step := 2
        nonce := (List.range 32).map fun k => Config.randomByte (s.freeCtr + k) } })

theorem fleetAuthCert_eq (h : TookHop s q f) (ha : (s.fl q).auth = some a) (h1 : a.step = 1) :
    exec (.fleetAuthCert q f pl) s = .next (fleetCertIn q pl a (flHeard q f s)) := by
  have hauth : ((flHeard q f s).fl q).auth = some a := by rw [flHeard_port h.hasFl, ha]
  change execFleetAuthCert q f pl s = _
  unfold execFleetAuthCert
  rw [hopIn_taken h (by decide) (by decide), hauth]
  dsimp only
  rw [if_neg (not_not_intro h1)]
  rfl

theorem fleetCertIn_wrong (ho : fld pl 0 2 ≠ a.bytes.length) : fleetCertIn q pl a s = fleetAuthEnd q 1 s := if_pos (by simp [ho])

/-- A part that is the next one of a certificate within its bounds. -/
theorem fleetCertIn_next (ht : fld pl 2 2 ≤ 1024) (ho : fld pl 0 2 = a.bytes.length) (hl : 4 < pl.length) :
    ¬ (1024 < fld pl 2 2 || fld pl 0 2 ≠ a.bytes.length || (pl.drop 4).isEmpty) = true := by
  have hne : (pl.drop 4).isEmpty = false := by simpa using hl
  simp [ho, hne, Nat.not_lt.mpr ht]

theorem fleetAuthCert_gathers (h : TookHop s q f) (ha : (s.fl q).auth = some a) (h1 : a.step = 1) :
    ∃ t, exec (.fleetAuthCert q f pl) s = .next t ∧ (t.fl q).rxSeq = f.lseq ∧
      (fld pl 2 2 ≤ 1024 → fld pl 0 2 = a.bytes.length → 4 < pl.length → a.bytes.length + (pl.length - 4) < fld pl 2 2 →
        (t.fl q).auth.map (·.bytes) = some (a.bytes ++ pl.drop 4) ∧ t.host = s.host ∧
        Gave t q Eli.AUTH_CERT_GET 0 0xFFFF (leBytes 2 (a.bytes ++ pl.drop 4).length ++ [64, 0])) ∧
      (fld pl 2 2 ≤ 1024 → fld pl 0 2 = a.bytes.length → 4 < pl.length → fld pl 2 2 ≤ a.bytes.length + (pl.length - 4) →
        (t.fl q).auth.map (·.step) = some 2 ∧
        Gave t q Eli.AUTH_CHALLENGE 0 0xFFFF ((List.range 32).map fun k => Config.randomByte (s.freeCtr + k))) ∧
      (fld pl 0 2 ≠ a.bytes.length → (t.fl q).auth = none ∧ (t.fl q).authRes = some 1) := by
  have hq := h.hasFl.heard f
  have hx := flHeard_port h.hasFl f
  have hup : ((flHeard q f s).fl q).up = true := by rw [hx]; exact h.up
  have hrx : ((flHeard q f s).fl q).rxSeq = f.lseq := by rw [hx]
  have hhost : (flHeard q f s).host = s.host := rfl
  have hfree : (flHeard q f s).freeCtr = s.freeCtr := rfl
  refine ⟨_, fleetAuthCert_eq h ha h1, ?_⟩
  generalize flHeard q f s = x at hq hup hrx hhost hfree
  have hlen : (a.bytes ++ pl.drop 4).length = a.bytes.length + (pl.length - 4) := by simp
  obtain ⟨hend, -, -⟩ := fleetAuthEnd_spec hq 1
  set g : FlPort → FlPort := fun p => { p with auth := some { a with bytes := a.bytes ++ pl.drop 4, total := fld pl 2 2 } }
  have hg : (x.modFl q g).fl q = g (x.fl q) := State.fl_modFl_self hq.inList g
  obtain ⟨hask, hasks⟩ := hopSend_spec (hq.modFl g) (by rw [hg]; exact hup) Eli.AUTH_CERT_GET (leBytes 2 (a.bytes ++ pl.drop 4).length ++ [64, 0])
  set nonce := (List.range 32).map fun k => Config.randomByte (x.freeCtr + k)
  set c : FlPort → FlPort := fun p => { p with
    auth := some { a with bytes := (a.bytes ++ pl.drop 4).take (fld pl 2 2), total := fld pl 2 2, step := 2, nonce := nonce } }
  have hqd : HasFl (x.drawn 32) q := hq
  have hc : ((x.drawn 32).modFl q c).fl q = c (x.fl q) := State.fl_modFl_self hqd.inList c
  obtain ⟨hch, hchs⟩ := hopSend_spec (hqd.modFl c) (by rw [hc]; exact hup) Eli.AUTH_CHALLENGE nonce
  refine ⟨?rx, ?next, ?whole, ?wrong⟩
  case rx =>
    unfold fleetCertIn
    split
    · rw [hend]
      exact hrx
    · split
      · rw [fleetCertAsk, hasks, hg]
        exact hrx
      · rw [hchs, hc]
        exact hrx
  case next =>
    intro ht ho hl hlt
    have he : fleetCertIn q pl a x = hopSend q Eli.AUTH_CERT_GET (leBytes 2 (a.bytes ++ pl.drop 4).length ++ [64, 0]) (x.modFl q g) :=
      (if_neg (fleetCertIn_next ht ho hl)).trans (if_pos (hlen ▸ hlt))
    rw [he]
    exact ⟨by rw [hasks, hg]; rfl, hhost, hask⟩
  case whole =>
    intro ht ho hl hle
    have he : fleetCertIn q pl a x = hopSend q Eli.AUTH_CHALLENGE nonce ((x.drawn 32).modFl q c) :=
      (if_neg (fleetCertIn_next ht ho hl)).trans (if_neg (hlen ▸ Nat.not_lt.mpr hle))
    rw [he, ← hfree]
    exact ⟨by rw [hchs, hc]; rfl, hch⟩
  case wrong =>
    intro ho
    rw [fleetCertIn_wrong ho, hend]
    exact ⟨rfl, rfl⟩

theorem fleetAuthChallenge_signs (h : TookHop s q f) (hv : 2 ≤ (s.fl q).ver) (hl : 32 ≤ pl.length) :
    ∃ t, exec (.fleetAuthChallenge q f pl) s = .next t ∧ t.host = s.host ∧
      Gave t q Eli.AUTH_SIGN 0 0xFFFF (ecdsaSign s.ident.priv (Config.sigNonce s.freeCtr) (sha256 (pl.take 32 ++ leBytes 8 s.ident.serial))) := by
  have hq : HasFl ((flHeard q f s).drawn 1) q := h.hasFl.heard f
  have hx := flHeard_port h.hasFl f
  obtain ⟨hg, -⟩ := hopSend_spec hq (show ((flHeard q f s).fl q).up = true by rw [hx]; exact h.up) Eli.AUTH_SIGN
    (ecdsaSign s.ident.priv (Config.sigNonce s.freeCtr) (sha256 (pl.take 32 ++ leBytes 8 s.ident.serial)))
  refine ⟨hopSend q Eli.AUTH_SIGN (ecdsaSign s.ident.priv (Config.sigNonce s.freeCtr) (sha256 (pl.take 32 ++ leBytes 8 s.ident.serial)))
    ((flHeard q f s).drawn 1), ?_, rfl, hg⟩
  change execFleetAuthChallenge q f pl s = _
  unfold execFleetAuthChallenge
  rw [hopIn_taken h (by decide) (by decide), hx, if_pos (by simp [hv, hl])]
  rfl

/-- The result of a signature on a check: 0 where chain and signature hold, 1 for the chain, 2 for the signature (R358). -/
def signResult (s : State) (a : AuthRun) (pl : List Byte) : Nat :=
  match certCheck (keyAt s (fle s FLE.AUTH_KEY)) a.bytes with
  | none => 1
  | some c => if ecdsaVerify c.key (sha256 (a.nonce ++ leBytes 8 c.serial)) (pl.take 64) then 0 else 2

theorem fleetAuthSign_eq (h : TookHop s q f) (ha : (s.fl q).auth = some a) (h2 : a.step = 2) :
    exec (.fleetAuthSign q f pl) s = .next (fleetAuthEnd q (signResult s a pl) (flHeard q f s)) := by
  have hauth : ((flHeard q f s).fl q).auth = some a := by rw [flHeard_port h.hasFl, ha]
  have hkey : certCheck (keyAt (flHeard q f s) (fle (flHeard q f s) FLE.AUTH_KEY)) a.bytes = certCheck (keyAt s (fle s FLE.AUTH_KEY)) a.bytes := rfl
  change execFleetAuthSign q f pl s = _
  unfold execFleetAuthSign signResult
  rw [hopIn_taken h (by decide) (by decide), hauth]
  dsimp only
  rw [if_neg (not_not_intro h2), hkey]
  rcases certCheck (keyAt s (fle s FLE.AUTH_KEY)) a.bytes with _ | c <;> rfl

/-- A check that begins: on a link at version 2 the certificate is asked for, on one at version 1 it fails with 4 (R377). -/
theorem fleetAuthStart_spec (hq : HasFl s q) (hu : (s.fl q).up = true) (hm : fle s FLE.AUTH_MODE = 2) :
    (2 ≤ (s.fl q).ver → ((fleetAuthStart q s).fl q).auth.map (·.step) = some 1 ∧
      Gave (fleetAuthStart q s) q Eli.AUTH_CERT_GET 0 0xFFFF [0, 0, 64, 0] ∧ (fleetAuthStart q s).host = s.host) ∧
    ((s.fl q).ver < 2 → ((fleetAuthStart q s).fl q).authRes = some 4 ∧
      Told s (fleetAuthStart q s) Ev.FLEET_STATE (8 * 256 + s.fleet.st.code)) := by
  constructor
  · intro hv
    set g : FlPort → FlPort := fun p => { p with auth := some ⟨1, [], 0, [], 0, none⟩ }
    have hg : (s.modFl q g).fl q = g (s.fl q) := State.fl_modFl_self hq.inList g
    have he : fleetAuthStart q s = hopSend q Eli.AUTH_CERT_GET [0, 0, 64, 0] (s.modFl q g) := if_neg (Nat.not_lt.mpr hv)
    obtain ⟨hgave, hs⟩ := hopSend_spec (hq.modFl g) (by rw [hg]; exact hu) Eli.AUTH_CERT_GET [0, 0, 64, 0]
    rw [he]
    exact ⟨by rw [hs, hg]; rfl, hgave, rfl⟩
  · intro hv
    have he : fleetAuthStart q s = fleetAuthEnd q 4 s := if_pos hv
    have hm' : fle (s.modFl q fun p => { p with auth := none, authRes := some 4, authAge := 0 }) FLE.AUTH_MODE = 2 := hm
    obtain ⟨hport, -, -⟩ := fleetAuthEnd_spec hq 4
    rw [he, hport]
    refine ⟨rfl, ?_⟩
    unfold fleetAuthEnd
    dsimp only
    rw [if_pos (by simp [hm'])]
    rfl

end Sys2Proof.Machine

open Sys2Proof Sys2Proof.Machine

/-- Settles O30: each frame by what its taking (hopIn_taken) makes of the port, the two timers by how a check begins and ends. -/
theorem fleetHelloAndCheckRows : Obligations.FleetHelloAndCheckRows := by
  intro s q f pl
  refine ⟨?hello, ?certGet, ?cert, ?challenge, ?sign, ?cut, ?again, ?late⟩
  case hello => exact fun h hm htop => elivoHello_selects h hm htop
  case certGet => exact fun h hv h1 h2 => fleetAuthCertGet_gives h hv h1 h2
  case cert => exact fun a h ha h1 => fleetAuthCert_gathers h ha h1
  case challenge => exact fun h hv hl => fleetAuthChallenge_signs h hv hl
  case sign =>
    intro a h ha h2
    obtain ⟨hport, -, -⟩ := fleetAuthEnd_spec (h.hasFl.heard f) (signResult s a pl)
    exact ⟨_, fleetAuthSign_eq h ha h2, by rw [hport], by rw [hport]; rfl⟩
  case cut => exact fun k hk h4 => congrArg Host.Outcome.next (hopIn_lost hk h4 Eli.HELLO f _)
  case again =>
    intro r hq hu ha hr h0 hm hage
    refine ⟨fleetAuthStart q s, ?_, fleetAuthStart_spec hq hu hm⟩
    change execFleetAuthRecheck q s = _
    unfold execFleetAuthRecheck
    simp [hq.1, hu, ha, hr, h0, hm, hage]
  case late =>
    intro a hq ha hage
    obtain ⟨hport, hst, hothers⟩ := fleetAuthEnd_spec hq 3
    refine ⟨fleetAuthEnd q 3 s, ?_, by rw [hport], by rw [hport], hst, hothers⟩
    change execFleetAuthTimeout q s = _
    unfold execFleetAuthTimeout
    simp [ha, hq.1, hage]
end

section
/-! Broadcasts and addressed frames that a unit takes (R370, R371, R401), and whether a line holds a frame of one type. -/

namespace Sys2Proof.Machine

variable {s t : State} {q typ : Nat} {f : FHdr} {pl : List Byte}

theorem openPort_heard (h : HasFl s q) (f : FHdr) (k : Nat) : openPort (flHeard q f s) k = openPort s k := by
  by_cases hk : k = q
  · subst hk
    unfold openPort
    rw [flHeard_port h]
    rfl
  · have hport : (flHeard q f s).fl k = s.fl k := State.fl_modFl_ne hk _
    unfold openPort
    rw [hport]
    rfl

theorem routePort_heard (h : HasFl s q) (f : FHdr) (dst : Nat) : routePort (flHeard q f s) dst = routePort s dst := by
  have hroutes : (flHeard q f s).fleet.routes = s.fleet.routes := rfl
  have hparent : (flHeard q f s).fleet.parent = s.fleet.parent := rfl
  unfold routePort
  simp only [openPort_heard h, hroutes, hparent]

/-- A broadcast has no number: it is taken, and nothing changes (R370). -/
theorem flTake_broadcast (h : Took s q f) (hr : f.route = 2) (typ : Nat) : flTake q typ f s = (true, s) := by
  obtain ⟨hq, hc, hu, ho, -⟩ := h
  simp [flTake, FFrame.numbered, hr, hq.1, hc, hu, ho]

/-- An addressed frame has the next number, which is taken with it (R370). -/
theorem flTake_addressed (h : Took s q f) (hr : f.route = 3) (typ : Nat) : flTake q typ f s = (true, flHeard q f s) := by
  obtain ⟨hq, hc, hu, ho, hl⟩ := h
  have hopen := (openPort_heard hq f q).trans ho
  unfold flHeard at hopen ⊢
  simp only [hl] at hopen
  simp [flTake, FFrame.numbered, hr, hq.1, hc, hu, hl, hopen]

/-- A frame whose way leads over the port that it came on goes no further (R371). -/
theorem onwardPort_back {dst : Nat} (h : routePort s dst = some q) : onwardPort s q dst = none := by
  simp [onwardPort, h]

/-- A line that holds a frame of this type, sent or waiting. -/
def FlPort.carries (p : FlPort) (typ : Nat) : Bool :=
  p.sent.any (fun w => w.head? == some (byte typ)) || p.wait.any fun x => x.2.typ == typ

/-- The first byte of a frame on the line is its type (R369). -/
theorem Gave.carries {route dst : Nat} {pay : List Byte} (h : Gave t q typ route dst pay) : (t.fl q).carries typ = true := by
  obtain ⟨g, rfl, -, -, -, hs | ⟨pr, hw⟩⟩ := h
  · have hhead : g.wire.head? = some (byte g.typ) := rfl
    exact Bool.or_eq_true_iff.mpr (.inl (List.any_eq_true.mpr ⟨_, hs, beq_iff_eq.mpr hhead⟩))
  · exact Bool.or_eq_true_iff.mpr (.inr (List.any_eq_true.mpr ⟨_, hw, beq_self_eq_true _⟩))

/-- A unit that has taken the next broadcast: its number and the frame are kept (R370). -/
def bcastKept (f : FFrame) (s : State) : State :=
  s.modFleet fun t => { t with bseq := f.dst, gaps := [], kept := (f :: t.kept).take 32 }

/-- The next broadcast goes to the children, and the unit acts on it (R370, R371). -/
theorem bcastIn_next (h : TookBcast s q f) (typ : Nat) (pl : List Byte) (act : State → State) :
    bcastIn q (frameOf f typ pl) act s = act (fwdDown (frameOf f typ pl) (bcastKept (frameOf f typ pl) s)) := by
  obtain ⟨-, hp, hm, -, hg, hb, hlt, hd⟩ := h
  have hnext : ((frameOf f typ pl).dst + 65536 - s.fleet.bseq) % 65536 = 1 := by
    change (f.dst + 65536 - s.fleet.bseq) % 65536 = 1
    omega
  unfold bcastIn
  simp only [hp, hm, hg, hb, hnext]
  rfl

/-- What goes to the children leaves the parent's port as it is (R371). -/
theorem fwdDown_parent (h3 : s.jobs.fleet.ports.length = 3) (hp : isParent s q = true) (g : FFrame) : (fwdDown g s).fl q = s.fl q := by
  have hin (k : Nat) (hk : k ∈ childPorts s) : k < s.jobs.fleet.ports.length := by
    rw [h3]
    exact List.mem_range.mp (List.mem_of_mem_filter hk)
  unfold fwdDown
  rw [fl_giveAll g (qs := childPorts s) (List.nodup_range.filter _) hin, if_neg (by simp [childPorts, hp])]

/-- The own entry of a frame of one entry: it takes effect with the frame, and a late one with the frame after (R401). -/
theorem takeShares_own (hv : 2 ≤ unitVer s) (hn : fld pl 8 2 = 1) (ha : fld pl 10 2 = s.fleet.addr) :
    (takeShares pl s).fleet.shares = some (max (fld pl 0 8) (s.frame + 1), fld pl 12 4, fld pl 16 4) := by
  have hmine : ((List.range (fld pl 8 2)).find? fun k => fld pl (10 + 10 * k) 2 = s.fleet.addr) = some 0 := by
    rw [hn]
    simp [List.range_succ, ha]
  unfold takeShares
  dsimp only
  rw [hmine]
  dsimp only
  rw [if_neg (Nat.not_lt.mpr hv)]
  rfl

/-- SHARES from the parent with the own entry (R401). -/
theorem shares_taken (h : TookBcast s q f) (hv : 2 ≤ unitVer s) (hn : fld pl 8 2 = 1) (ha : fld pl 10 2 = s.fleet.addr) :
    ∃ t, exec (.shares q f pl) s = .next t ∧
      t.fleet.shares = some (max (fld pl 0 8) (s.frame + 1), fld pl 12 4, fld pl 16 4) := by
  have ⟨htook, hp, _, hr, _⟩ := h
  set u := fwdDown (frameOf f Eli.SHARES pl) (bcastKept (frameOf f Eli.SHARES pl) s) with hu
  have hport : u.fl q = s.fl q := fwdDown_parent (s := bcastKept (frameOf f Eli.SHARES pl) s) htook.1.2 hp _
  obtain ⟨ps, e⟩ := fwdDown_ports (frameOf f Eli.SHARES pl) (bcastKept (frameOf f Eli.SHARES pl) s)
  rw [← hu] at e
  have hparent : s.fleet.parent = some q := beq_iff_eq.mp hp
  have hver : unitVer u = unitVer s := by
    have hparent' : u.fleet.parent = some q := by rw [e]; exact hparent
    unfold unitVer
    rw [hparent, hparent']
    dsimp only
    rw [hport]
  have haddr : u.fleet.addr = s.fleet.addr := by rw [e]; rfl
  have hframe : u.frame = s.frame := by rw [e]; rfl
  refine ⟨takeShares pl u, ?_, ?_⟩
  · change execShares q f pl s = _
    unfold execShares
    dsimp only
    rw [flTake_broadcast htook hr, if_pos (by simp [hr]), bcastIn_next h]
  · rw [takeShares_own (hver.symm ▸ hv) hn (ha.trans haddr.symm), hframe]

/-- An addressed frame of an unknown type whose way leads back is taken and lost (R371). -/
theorem fleetUnknownFrame_back (h : Took s q f) (hr : f.route = 3) (hd : f.dst ≠ s.fleet.addr) (hb : routePort s f.dst = some q) :
    exec (.fleetUnknownFrame q typ f pl) s = .next (flHeard q f s) := by
  have hway : onwardPort (flHeard q f s) q f.dst = none := onwardPort_back ((routePort_heard h.1 f f.dst).trans hb)
  have hd' : ¬ f.dst = (flHeard q f s).fleet.addr := hd
  change execFleetUnknownFrame q typ f pl s = _
  have hlost : fwdTo q (frameOf f typ pl) (flHeard q f s) = flHeard q f s := by
    unfold fwdTo
    rw [show (frameOf f typ pl).dst = f.dst from rfl, hway]
  unfold execFleetUnknownFrame
  rw [flTake_addressed h hr]
  dsimp only
  rw [if_neg (by decide)]
  simp only [hr]
  rw [if_neg hd', hlost]

/-- A CMD whose way leads back is answered as one to an absent target (R393). -/
theorem fleetCmdFrame_back (h : Took s q f) (hr : f.route = 3) (hd : f.dst ≠ s.fleet.addr) (hb : routePort s f.dst = some q) :
    exec (.fleetCmdFrame q f pl) s =
      .next (answerOrigin (fld pl 0 2) (fld pl 2 2) false (absentReply (pl.drop 6)) (flHeard q f s)) := by
  have hway : onwardPort (flHeard q f s) q f.dst = none := onwardPort_back ((routePort_heard h.1 f f.dst).trans hb)
  have hd' : ¬ f.dst = (flHeard q f s).fleet.addr := hd
  change execFleetCmdFrame q f pl s = _
  unfold execFleetCmdFrame cmdIn
  rw [flTake_addressed h hr]
  dsimp only
  rw [if_neg (by decide)]
  simp only [hr]
  rw [if_neg hd', hway]
  rfl

end Sys2Proof.Machine
end

section
/-! The counterexample to O29: the parent's first marker after joining (R383, R386). -/

namespace Sys2Proof.Machine

/-- A unit that has just joined through port UP, in frame 5, with its offset still to be handled. -/
def justJoined : State :=
  ((State.reset.modFrm fun r => { r with frame := 5 }).modFl 0 fun p => { p with up := true, ver := 2 })
    |>.modFleet fun t => { t with st := .member, parent := some 0, addr := 3, alignDue := true }

/-- A marker of the parent in frame 1,000. -/
def farMarker : Marker := ⟨1000, 0, 0, 2, 0⟩

/-- Its offset of 995 frames renumbers the counter, which FLEET_RENUMBERED tells (R386). -/
theorem justJoined_renumbers :
    (match exec (.fleetMarker 0 farMarker) justJoined with | .next t => t.host.events.map (·.code) | _ => []) = [Ev.FLEET_RENUMBERED] := by
  decide +kernel

end Sys2Proof.Machine

open Sys2Proof Sys2Proof.Machine

/-- Refutes O29: its clause on the parent's marker does not ask that the member has handled its offset. The first marker after joining
renumbers the counter when the offset is a frame or more (R386), and the host is told. -/
theorem not_fleetLinkRows : ¬ Obligations.FleetLinkRows := by
  intro h
  obtain ⟨-, -, -, -, marker, -⟩ := h justJoined 0 ⟨by decide, by decide +kernel⟩
  obtain ⟨t, ht, -, -, hhost, -⟩ := marker farMarker (by decide +kernel) (by decide +kernel) (by decide +kernel) (by decide +kernel)
  have htold := justJoined_renumbers
  have hquiet : justJoined.host.events = [] := by decide +kernel
  rw [ht] at htold
  dsimp only at htold
  rw [hhost, hquiet] at htold
  exact absurd htold (by decide)
end

section
/-! The counterexample to O31: a unit with a FLEET_BARRIER open becomes the root, and is alone (R375, R395). -/

namespace Sys2Proof.Machine

/-- A unit in JOINING that has heard of no root for 30 ms, with every link down; its host still waits at barrier 50. -/
def joiningAtBarrier : State :=
  (State.reset.modFleet fun t => { t with st := .joining, annAge := 3000, bars := [(50, 6, 200, 10000)] })
    |>.modHost fun x => { x with ops := [⟨6, 0x72, .spi, 0, [50], [], 0⟩] }

/-- The new root is the whole fleet: it releases the barrier, and OP_COMPLETE follows FLEET_STATE (R395). -/
theorem joiningAtBarrier_releases :
    (match exec .rootElectionTimeout joiningAtBarrier with | .next t => t.host.ops.map (·.num) | _ => [6]) = [] := by
  decide +kernel

end Sys2Proof.Machine

open Sys2Proof Sys2Proof.Machine

/-- Refutes O31: its clause on the election lets the host side move by FLEET_STATE alone. A root that its own host keeps at a barrier, and
whose children hold nothing back, releases it at once, so that FLEET_BARRIER ends as well. -/
theorem not_fleetElectionRows : ¬ Obligations.FleetElectionRows := by
  intro h
  obtain ⟨-, -, -, -, -, election, -⟩ := h joiningAtBarrier 0 ⟨0, 0, 0, 0, 0⟩ []
  obtain ⟨t, ht, -, -, -, -, -, -, -, htold, -⟩ := election (by decide +kernel) (by decide +kernel) (by decide +kernel)
  have hops : t.host.ops = joiningAtBarrier.host.ops := by
    rw [show t.host = _ from htold]
    unfold HostState.queueEvent
    split <;> rfl
  have hended := joiningAtBarrier_releases
  rw [ht] at hended
  dsimp only at hended
  rw [hops] at hended
  exact absurd hended (by decide +kernel)
end

section
/-! The counterexample to O32: SHARES that come late (R401). -/

namespace Sys2Proof.Machine

/-- A member at version 2 under address 3, in frame 100, whose parent is at port UP. -/
def memberOnUp : State :=
  ((State.reset.modFrm fun r => { r with frame := 100 }).modFl 0 fun p => { p with up := true, ver := 2 })
    |>.modFleet fun t => { t with st := .member, parent := some 0, addr := 3, bseen := true, bseq := 32 }

/-- SHARES of EFFECT 90 with one entry: unit 3, 5,000 W of charge and 7,000 W of supply. -/
def lateShares : List Byte := leBytes 8 90 ++ leBytes 2 1 ++ leBytes 2 3 ++ leBytes 4 5000 ++ leBytes 4 7000

end Sys2Proof.Machine

open Sys2Proof Sys2Proof.Machine

/-- Refutes O32: its clause on SHARES does not ask that the entry comes before frame EFFECT. A late one takes effect with the frame after the
one it comes in (shares_taken), here frame 101 for an EFFECT of 90. -/
theorem not_fleetTimeAndBudgetRows : ¬ Obligations.FleetTimeAndBudgetRows := by
  intro h
  obtain ⟨-, -, -, -, -, -, -, shares, -⟩ := h memberOnUp 0 ⟨2, 1, 2, 0, 33⟩ lateShares
  have hin : TookBcast memberOnUp 0 ⟨2, 1, 2, 0, 33⟩ := by
    unfold TookBcast Took HasFl
    decide +kernel
  obtain ⟨t, ht, hsoon, -⟩ := shares hin (by decide +kernel) (by decide +kernel) (by decide +kernel)
  obtain ⟨u, hu, hlate⟩ := shares_taken hin (pl := lateShares) (by decide +kernel) (by decide +kernel) (by decide +kernel)
  cases hu.symm.trans ht
  exact absurd (hlate.symm.trans hsoon) (by decide +kernel)
end

section
/-! The counterexample to O33 and O34: a frame whose way leads back over the port that it came on (R371). -/

namespace Sys2Proof.Machine

/-- The root under address 12, with units 9 and 55 in the subtree at port UP. -/
def rootOfSubtree : State :=
  (State.reset.modFl 0 fun p => { p with up := true, ver := 2 })
    |>.modFleet fun t => { t with st := .root, addr := 12, routes := [(9, 0), (55, 0)] }

/-- A frame from unit 9 to unit 55 that has come up to the root. -/
def strayHdr : FHdr := ⟨3, 1, 2, 9, 55⟩

theorem strayHdr_took : Took rootOfSubtree 0 strayHdr := by
  unfold Took HasFl
  decide +kernel

theorem strayHdr_back : routePort rootOfSubtree strayHdr.dst = some 0 := by decide +kernel

end Sys2Proof.Machine

open Sys2Proof Sys2Proof.Machine

/-- Refutes O33: its last clause does not ask that the way leads over another port than the frame came on. A frame of an unknown type for a
unit below that same port goes no further (fleetUnknownFrame_back), and the port's line stays empty. -/
theorem not_fleetBroadcastRows : ¬ Obligations.FleetBroadcastRows := by
  intro h
  obtain ⟨-, -, -, -, -, -, -, -, -, -, addressed⟩ := h rootOfSubtree 0 strayHdr []
  obtain ⟨t, ht, hgave, -⟩ := addressed 0x99 0 strayHdr_took rfl (by decide +kernel) strayHdr_back (by decide)
  rw [fleetUnknownFrame_back strayHdr_took rfl (by decide +kernel) strayHdr_back] at ht
  cases ht
  exact absurd hgave.carries (by decide +kernel)

/-- Refutes O34: its clause on a CMD for another unit has the same gap as O33's last. A CMD for a unit below the port it came on is answered
as one to an absent target (fleetCmdFrame_back): its origin is sent CMD_REPLY, and no CMD goes out. -/
theorem not_fleetCommandRows : ¬ Obligations.FleetCommandRows := by
  intro h
  obtain ⟨-, onward, -⟩ := h rootOfSubtree 0 strayHdr (leBytes 2 9 ++ leBytes 2 6 ++ [0, 0, 2, 5, 0, 0, 0, 0])
  obtain ⟨t, ht, hgave, -⟩ := onward 0 strayHdr_took rfl (by decide +kernel) strayHdr_back (by decide)
  rw [fleetCmdFrame_back strayHdr_took rfl (by decide +kernel) strayHdr_back] at ht
  cases ht
  exact absurd hgave.carries (by decide +kernel)
end

section
/-! What the sequencer's operations change (R409, R412, R415, R416, R424). -/

namespace Sys2Proof.Machine

theorem rail_of_rails {s t : State} (h : t.jobs.rails.rails = s.jobs.rails.rails) (m : Nat) : t.rail m = s.rail m := by
  unfold State.rail
  rw [h]

theorem rail_in_list {s : State} {n : Nat} (h : (s.rail n).st ≠ .off) : n < s.jobs.rails.rails.length :=
  getD_ne_default (d := ({} : Rail)) fun e => h (by rw [State.rail, e])

theorem railsOf_lt {s : State} {g n : Nat} (h : n ∈ railsOf s g) : n < 8 := (mem_those.mp h).1

/-! Rails that move together. -/

/-- From s to t the rails of l have f applied, and beside them the outputs wanted may have changed; nothing else has. -/
structure RailsMoved (f : Rail → Rail) (l : List Nat) (s t : State) : Prop where
  eq : t = { s with
    jobs := { s.jobs with rails := { s.jobs.rails with rails := t.jobs.rails.rails } }, shadow := t.shadow }
  len : t.jobs.rails.rails.length = s.jobs.rails.rails.length
  hit : ∀ m ∈ l, m < s.jobs.rails.rails.length → t.rail m = f (s.rail m)
  miss : ∀ m, m ∉ l → t.rail m = s.rail m

theorem RailsMoved.nil (f : Rail → Rail) (s : State) : RailsMoved f [] s s :=
  ⟨rfl, rfl, fun _ h => absurd h List.not_mem_nil, fun _ _ => rfl⟩

/-- A rail that f leaves as it is has moved by f. -/
theorem RailsMoved.still {f : Rail → Rail} {n : Nat} {s : State} (h : f (s.rail n) = s.rail n) : RailsMoved f [n] s s :=
  ⟨rfl, rfl, fun m hm _ => by rw [List.mem_singleton.mp hm, h], fun _ _ => rfl⟩

theorem RailsMoved.modRail (f : Rail → Rail) (n : Nat) (s : State) : RailsMoved f [n] s (s.modRail n f) where
  eq := rfl
  len := modAt_length _ _ _
  hit m hm hl := by
    cases List.mem_singleton.mp hm
    exact State.rail_modRail_self hl f
  miss m hm := State.rail_modRail_ne (by simpa using hm) f

/-- A rail changed by g with its SEQENn set has moved by f, where f of it says so. -/
theorem RailsMoved.setSeqen {f g : Rail → Rail} {n : Nat} {b : Bool} {s : State}
    (h : f (s.rail n) = { g (s.rail n) with en := b, swFor := 0 }) : RailsMoved f [n] s (setSeqen n b (s.modRail n g)) where
  eq := rfl
  len := (modAt_length _ _ _).trans (modAt_length _ _ _)
  hit m hm hl := by
    cases List.mem_singleton.mp hm
    have hl' : n < (s.modRail n g).jobs.rails.rails.length := (modAt_length _ _ _).symm ▸ hl
    rw [h, ← State.rail_modRail_self hl g]
    exact State.rail_modRail_self hl' _
  miss m hm := by
    have hne : m ≠ n := by simpa using hm
    exact (State.rail_modRail_ne hne _).trans (State.rail_modRail_ne hne g)

theorem RailsMoved.cons {f : Rail → Rail} {n : Nat} {l : List Nat} {s t u : State} (hn : n ∉ l) (h : RailsMoved f [n] s t)
    (g : RailsMoved f l t u) : RailsMoved f (n :: l) s u where
  eq := by rw [g.eq, h.eq]
  len := g.len.trans h.len
  hit m hm hl := by
    rcases List.mem_cons.mp hm with rfl | hm
    · exact (g.miss m hn).trans (h.hit m (List.mem_singleton_self m) hl)
    · rw [g.hit m hm (h.len.symm ▸ hl), h.miss m fun e => hn (List.mem_singleton.mp e ▸ hm)]
  miss m hm := by
    obtain ⟨h1, h2⟩ := List.ne_and_not_mem_of_not_mem_cons hm
    exact (g.miss m h2).trans (h.miss m fun e => h1 (List.mem_singleton.mp e))

/-- A fold that moves one rail after another moves them all. -/
theorem RailsMoved.foldl {f : Rail → Rail} {a : State → Nat → State} (h : ∀ s n, RailsMoved f [n] s (a s n)) {l : List Nat} (hl : l.Nodup)
    (s : State) : RailsMoved f l s (l.foldl a s) := by
  induction l generalizing s with
  | nil => exact .nil f s
  | cons n l ih =>
    obtain ⟨hn, hl⟩ := List.nodup_cons.mp hl
    exact .cons hn (h s n) (ih hl (a s n))

theorem RailsMoved.host {f : Rail → Rail} {l : List Nat} {s t : State} (h : RailsMoved f l s t) : t.host = s.host := by rw [h.eq]

theorem RailsMoved.outs {f : Rail → Rail} {l : List Nat} {s t : State} (h : RailsMoved f l s t) : t.outs = s.outs := by rw [h.eq]

theorem RailsMoved.ctl {f : Rail → Rail} {l : List Nat} {s t : State} (h : RailsMoved f l s t) : t.ctl = s.ctl := by rw [h.eq]

theorem RailsMoved.params {f : Rail → Rail} {l : List Nat} {s t : State} (h : RailsMoved f l s t) : t.params = s.params := by rw [h.eq]

/-- The sequencer and the reset outputs stand. -/
theorem RailsMoved.seq {f : Rail → Rail} {l : List Nat} {s t : State} (h : RailsMoved f l s t) :
    t.jobs.rails = { s.jobs.rails with rails := t.jobs.rails.rails } := congrArg (fun z : State => z.jobs.rails) h.eq

/-! The reset outputs and the states of the sequencer. -/

/-- The reset outputs alone follow the rails (R424). -/
theorem rstStep_eq (s : State) : rstStep s = { s with
    jobs := { s.jobs with rails := { s.jobs.rails with rst := (rstStep s).jobs.rails.rst, rstFor := (rstStep s).jobs.rails.rstFor } } } :=
  foldl_rel (R := fun s t : State => t = { s with
      jobs := { s.jobs with rails := { s.jobs.rails with rst := t.jobs.rails.rst, rstFor := t.jobs.rails.rstFor } } })
    (fun _ => rfl) (fun h g => by rw [g, h]) _ _ (fun s k => by split <;> rfl) s

theorem rstStep_rails (s : State) : (rstStep s).jobs.rails.rails = s.jobs.rails.rails := by rw [rstStep_eq]

theorem rstStep_host (s : State) : (rstStep s).host = s.host := by rw [rstStep_eq]

theorem seqEnter_seq (st : SqSt) (s : State) : (seqEnter st s).jobs.rails = { s.jobs.rails with st := st, runFor := 0 } := rfl

theorem seqEnter_told (st : SqSt) (s : State) : Told s (seqEnter st s) Ev.SEQ_STATE (b2n (anyFailedUp s.jobs) * 2 ^ 8 + st.code) := rfl

theorem KeepsEvents.seqEnter (st : SqSt) (s : State) : KeepsEvents s (seqEnter st s) :=
  (KeepsEvents.of_host rfl).trans (.raise (s.modSeq fun q => { q with st := st, runFor := 0 }) _ _)

/-- The completion of a group moves no rail and forgets no event (R415). -/
theorem groupStep_rails (s : State) : (groupStep s).jobs.rails.rails = s.jobs.rails.rails ∧ KeepsEvents s (groupStep s) := by
  unfold groupStep
  dsimp only
  split
  · split
    · split
      · exact ⟨rfl, .of_host rfl⟩
      · exact ⟨rfl, (KeepsEvents.of_host rfl).trans (.seqEnter .running _)⟩
    · exact ⟨rfl, .refl s⟩
  · exact ⟨rfl, .refl s⟩

/-! Groups. -/

/-- An OFF rail that starts (R412). -/
def Rail.begun (r : Rail) : Rail := if r.st = .off then { r with st := .ramp, stable := 0, en := true, swFor := 0 } else r

/-- A started rail that stops (R412). -/
def Rail.ended (r : Rail) : Rail :=
  match r.st with
  | .running | .ramp | .failedUp => { r with st := .falling, en := false, swFor := 0 }
  | .off | .falling => r

theorem Rail.begun_st {r : Rail} (h : r.st = .off) : r.begun.st = .ramp := by rw [begun, if_pos h]

theorem Rail.ended_st {r : Rail} (h : r.st ≠ .off) : r.ended.st = .falling := by
  unfold ended
  split
  case h_4 e => exact absurd e h
  case h_5 e => exact e
  all_goals rfl

theorem groupStart_moves (g : Nat) (s : State) :
    RailsMoved Rail.begun (railsOf s g) (s.modSeq fun q => { q with group := some g, next := none }) (groupStart g s) := by
  refine .foldl (fun z n => ?_) (nodup_those _ _) _
  split
  case isTrue h => exact .setSeqen (by rw [Rail.begun, if_pos h])
  case isFalse h => exact .still (if_neg h)

/-- The rails of the group stop, and then the reset outputs follow (R415, R424). -/
theorem groupStop_moves (g : Nat) (s : State) :
    ∃ z, RailsMoved Rail.ended (railsOf s g) (s.modSeq fun q => { q with group := some g, next := none }) z ∧ groupStop g s = rstStep z := by
  refine ⟨_, .foldl (fun z n => ?_) (nodup_those _ _) _, rfl⟩
  cases h : (z.rail n).st
  case off | falling => exact .still (by rw [Rail.ended, h])
  case ramp | running | failedUp => exact .setSeqen (by rw [Rail.ended, h])

/-- What POWER_UP makes of the sequencer, and what it tells (R416, R421). -/
theorem powerUp_spec (s : State) :
    (powerUp s).jobs.rails.st = .powerUp ∧ (powerUp s).jobs.rails.minOff = false ∧ (powerUp s).jobs.rails.k = s.jobs.rails.k ∧
      Told s (powerUp s) Ev.SEQ_STATE (b2n (anyFailedUp s.jobs) * 2 ^ 8 + SqSt.powerUp.code) := by
  unfold powerUp
  extract_lets z
  split
  next g _ =>
    have h := groupStart_moves g z
    rw [h.seq]
    exact ⟨rfl, rfl, rfl, h.host.trans rfl⟩
  next => exact ⟨rfl, rfl, rfl, rfl⟩

/-- Where every rail is OFF none has failed to come up. -/
theorem anyFailedUp_of_railsOff {s : State} (hlen : s.jobs.rails.rails.length = 8) (h : railsOff s = true) : anyFailedUp s.jobs = false := by
  refine List.any_eq_false.mpr fun r hr => ?_
  obtain ⟨n, hn, rfl⟩ := List.mem_iff_getElem.mp hr
  have hoff : (s.rail n).st = .off := by
    simpa using List.all_eq_true.mp h n (List.mem_range.mpr (hlen ▸ hn))
  have he : s.jobs.rails.rails[n] = s.rail n := by simp [State.rail, hn]
  simp [he, hoff]

end Sys2Proof.Machine
end

section
/-! The rail supervisors (R411 to R414). -/

namespace Sys2Proof.Machine

variable {s : State} {n : Nat}

/-- The debounced signal that follows the raw one where no rail trips (R411). -/
def Rail.debounced (r : Rail) : Rail := { r with good := r.raw, stable := if r.raw && r.st = .ramp then 1 else 0 }

/-- A rail that has come up (R412). -/
def Rail.risen (r : Rail) : Rail := { r with st := .running, upFor := 0, rise := satN 65535 r.swFor }

/-- A rail that has not come up in its time (R412). -/
def Rail.failed (r : Rail) : Rail := { r with st := .failedUp }

/-- The rails after a rail of a group has reached its end of RAMP: that one alone has changed. -/
theorem groupStep_moved {t : State} {f : Rail → Rail} (hn : n < s.jobs.rails.rails.length)
    (h : t.jobs.rails.rails = (s.modRail n f).jobs.rails.rails) :
    (groupStep t).rail n = f (s.rail n) ∧ ∀ m, m ≠ n → (groupStep t).rail m = s.rail m := by
  have hr := rail_of_rails ((groupStep_rails t).1.trans h)
  exact ⟨(hr n).trans (State.rail_modRail_self hn f), fun m hm => (hr m).trans (State.rail_modRail_ne hm f)⟩

/-- RAIL_RUNNING where it is due (R412). -/
theorem railRunning_due (hn : n < 8) (hst : (s.rail n).st = .ramp) (hgood : (s.rail n).good = true)
    (hdue : par s gSEQ n SEQ.STABLE ≤ (s.rail n).stable) :
    exec (.railRunning n) s =
      .next (groupStep (rstStep (s.modRail n Rail.risen))) := by
  change execRailRunning n s = _
  simp only [execRailRunning, hn, hst, hgood, hdue, decide_true, Bool.and_self, if_true]
  rfl

/-- RAIL_FAILED_UP where it is due (R412, R413). -/
theorem railFailedUp_due (hn : n < 8) (hst : (s.rail n).st = .ramp) (hgood : (s.rail n).good = false)
    (hdue : par s gSEQ n SEQ.RAMP_TIMEOUT ≤ (s.rail n).swFor) :
    exec (.railFailedUp n) s = .next (groupStep ((s.modRail n Rail.failed).raise Ev.RAIL_FAILED_UP
      ((s.rail n).chatter % 65536 * 2 ^ 16 + n))) := by
  change execRailFailedUp n s = _
  simp only [execRailFailedUp, hn, hst, hgood, hdue, decide_true, Bool.and_self, Bool.false_and, Bool.not_false, if_true]
  rfl

/-- RAIL_SLOW_DOWN where it is due (R412). -/
theorem railSlowDown_due (hn : n < 8) (hst : (s.rail n).st = .falling) (hdue : par s gSEQ n SEQ.FALL_TIMEOUT ≤ (s.rail n).swFor) :
    exec (.railSlowDown n) s = .next ((s.modRail n fun r => { r with st := .off }).raise Ev.RAIL_SLOW_DOWN n) := by
  change execRailSlowDown n s = _
  simp [execRailSlowDown, hn, hst, hdue]

/-- RAIL_DEBOUNCED_CHANGE where it is due and loses no running rail (R411). -/
theorem railDebouncedChange_due (hn : n < 8) (hraw : (s.rail n).raw ≠ (s.rail n).good)
    (hdue : par s gSEQ n SEQ.DEBOUNCE ≤ (s.rail n).rawRun) (hkept : (s.rail n).raw = true ∨ (s.rail n).st ≠ .running) :
    exec (.railDebouncedChange n) s = .next (s.modRail n Rail.debounced) := by
  change execRailDebouncedChange n s = _
  have hlost : ((s.rail n).raw = false → ¬ (s.rail n).st = .running) := by
    intro h
    rcases hkept with h' | h'
    · simp [h] at h'
    · exact h'
  unfold execRailDebouncedChange
  extract_lets due lost armed
  have hn' : lost.contains n = false := by
    simp only [lost, List.contains_eq_mem, mem_those, decide_eq_false_iff_not]
    rintro ⟨-, h⟩
    simp only [Bool.and_eq_true, Bool.not_eq_true', beq_iff_eq] at h
    exact hlost h.1.2 h.2
  have hd : due n = true := by simp [due, hraw, hdue]
  rw [hn', hd]
  simp only [hn, decide_true, Bool.and_self, Bool.not_true, Bool.and_false, Bool.false_eq_true, if_false]
  rfl

end Sys2Proof.Machine

open Sys2Proof Sys2Proof.Machine

/-- Settles O35: each command by the one rail it changes; what follows it moves no rail (rstStep_rails, groupStep_rails). -/
theorem railSupervisorRows : Obligations.RailSupervisorRows := by
  intro s n hn
  refine ⟨?running, ?failedUp, ?slowDown, ?debounced⟩
  case running =>
    intro hst hgood hdue
    have hlen : n < s.jobs.rails.rails.length := rail_in_list (by simp [hst])
    obtain ⟨hself, hother⟩ := groupStep_moved hlen (rstStep_rails _)
    refine ⟨_, railRunning_due hn hst hgood hdue, by rw [hself]; rfl, ?_, hother⟩
    rw [hself]
    exact satN_eq_min _ _
  case failedUp =>
    intro hst hgood hdue
    have hlen : n < s.jobs.rails.rails.length := rail_in_list (by simp [hst])
    obtain ⟨hself, hother⟩ := groupStep_moved (f := Rail.failed)
      (t := (s.modRail n Rail.failed).raise Ev.RAIL_FAILED_UP ((s.rail n).chatter % 65536 * 2 ^ 16 + n)) hlen rfl
    refine ⟨_, railFailedUp_due hn hst hgood hdue, by rw [hself]; rfl, ?_, hother⟩
    exact .of_keeps (.of_host rfl) ((Tells.raise (s.modRail n Rail.failed) _ _).mono (groupStep_rails _).2)
  case slowDown =>
    intro hst hdue
    have hlen : n < s.jobs.rails.rails.length := rail_in_list (by simp [hst])
    refine ⟨_, railSlowDown_due hn hst hdue, ?_, rfl, fun m hm => State.rail_modRail_ne hm _⟩
    exact congrArg Rail.st (State.rail_modRail_self hlen _)
  case debounced =>
    intro hraw hdue hkept hlen
    refine ⟨_, railDebouncedChange_due hn hraw hdue hkept, ?_, ?_, rfl, fun m hm => State.rail_modRail_ne hm _⟩
    · rw [State.rail_modRail_self hlen]; rfl
    · rw [State.rail_modRail_self hlen]; rfl
end

section
/-! The sequencer (R415, R416, R419, R421). -/

namespace Sys2Proof.Machine

/-- RAIL_GROUP_START where the delay of its group is over (R415). -/
theorem railGroupStart_due {s : State} {g k d : Nat} (hst : s.jobs.rails.st = .powerUp) (hnext : s.jobs.rails.next = some d)
    (hgroup : s.jobs.rails.group = some g) (hdelay : groupDelay s g ≤ d) (hk : groupFrom s (g + 1) = some k) :
    exec .railGroupStart s = .next (groupStart k s) := by
  change execRailGroupStart s = _
  simp [execRailGroupStart, hst, hnext, hgroup, hdelay, hk]

/-- RAIL_GROUP_STOP where the rails of the present group are OFF (R415, R416). -/
theorem railGroupStop_due {s : State} (hst : s.jobs.rails.st = .powerDown)
    (hoff : ∀ g, s.jobs.rails.group = some g → ∀ n ∈ railsOf s g, (s.rail n).st = .off) :
    exec .railGroupStop s = .next (match groupTop s with | some k => groupStop k s | none => seqIdle s) := by
  change execRailGroupStop s = _
  unfold execRailGroupStop
  extract_lets q done
  have hdone : done = true := by
    cases hg : s.jobs.rails.group with
    | none => simp [done, q, hg]
    | some g => simpa [done, q, hg] using hoff g hg
  exact congrArg Host.Outcome.next (if_pos (by simp [q, hst, hdone]))

/-- SEQ_TRIP_RESTART where it is due (R419). -/
theorem seqTripRestart_due {s : State} (hst : s.jobs.rails.st = .tripped) (hen : seqEnabled s = true)
    (hwait : tripWait s s.jobs.rails.k ≤ s.jobs.rails.tripFor) (hoff : railsOff s = true) :
    exec .seqTripRestart s = .next (powerUp s) := by
  change execSeqTripRestart s = _
  simp [execSeqTripRestart, hst, hen, hwait, hoff]

/-- SEQ_TRIP_IDLE where it is due (R416). -/
theorem seqTripIdle_due {s : State} (hst : s.jobs.rails.st = .tripped) (hkept : tripKept s = false) (hen : par s gSEQ 8 SEQ.ENABLE = 0)
    (hoff : par s gSEQ 8 SEQ.MIN_OFF ≤ s.jobs.rails.tripFor) :
    exec .seqTripIdle s = .next (seqEnter .idle (s.modSeq fun q => { q with group := none, next := none, minOff := true })) := by
  change execSeqTripIdle s = _
  simp [execSeqTripIdle, hst, hkept, hen, hoff]

/-- MIN_OFF_ELAPSED where it is due (R416, R421). -/
theorem minOffElapsed_due {s : State} (hst : s.jobs.rails.st = .idle) (hmin : s.jobs.rails.minOff = false)
    (hoff : par s gSEQ 8 SEQ.MIN_OFF ≤ s.jobs.rails.offFor) :
    exec .minOffElapsed s = .next (if seqEnabled s then powerUp (s.modSeq fun q => { q with minOff := true })
      else s.modSeq fun q => { q with minOff := true }) := by
  change execMinOffElapsed s = _
  simp only [execMinOffElapsed, hst, hmin, hoff, decide_true, Bool.not_false, Bool.and_self, if_true]
  rfl

end Sys2Proof.Machine

open Sys2Proof Sys2Proof.Machine

/-- Settles O37: each command by the operation it comes to (groupStart_moves, groupStop_moves, powerUp_spec). -/
theorem sequencerRows : Obligations.SequencerRows := by
  intro s hlen
  refine ⟨?groupStart, ?groupStop, ?idle, ?restart, ?tripIdle, ?minOff, ?countReset⟩
  case groupStart =>
    intro g k d hst hnext hgroup hdelay hk
    have h := groupStart_moves k s
    refine ⟨_, railGroupStart_due hst hnext hgroup hdelay hk, by rw [h.seq]; rfl, by rw [h.seq]; rfl, ?_, h.miss, h.host⟩
    intro n hn hoff
    rw [h.hit n hn (hlen.symm ▸ railsOf_lt hn)]
    exact Rail.begun_st hoff
  case groupStop =>
    intro g k hst hgroup hoff hk
    obtain ⟨z, h, e⟩ := groupStop_moves k s
    have hexec : exec .railGroupStop s = .next (rstStep z) := by
      rw [railGroupStop_due hst (by rintro x hx; cases hgroup.symm.trans hx; exact hoff), hk, ← e]
    have hr := rail_of_rails (rstStep_rails z)
    refine ⟨_, hexec, by rw [rstStep_eq, h.seq]; rfl, by rw [rstStep_eq, h.seq]; exact hst, ?_, ?_, (rstStep_host z).trans h.host⟩
    · intro n hn hon
      rw [hr, h.hit n hn (hlen.symm ▸ railsOf_lt hn)]
      exact Rail.ended_st hon
    · exact fun n hn => (hr n).trans (h.miss n hn)
  case idle =>
    intro hst htop hgroup
    refine ⟨seqIdle s, ?_, rfl, rfl, rfl, rfl⟩
    rw [railGroupStop_due hst (by simp [hgroup]), htop]
  case restart =>
    intro hst hen hwait hoff
    obtain ⟨hup, hmin, hk, htold⟩ := powerUp_spec s
    rw [anyFailedUp_of_railsOff hlen hoff] at htold
    exact ⟨_, seqTripRestart_due hst hen hwait hoff, hup, hmin, hk, by simpa [b2n] using htold⟩
  case tripIdle => exact fun hst hkept hen hoff => ⟨_, seqTripIdle_due hst hkept hen hoff, rfl, rfl, rfl, rfl⟩
  case minOff =>
    intro hst hmin hoff
    refine ⟨_, minOffElapsed_due hst hmin hoff, ?_⟩
    cases seqEnabled s
    · exact ⟨rfl, hst⟩
    · obtain ⟨hup, hused, -⟩ := powerUp_spec (s.modSeq fun q => { q with minOff := true })
      exact ⟨hused, hup⟩
  case countReset =>
    intro hst hrun
    change execTripCountReset s = _
    rw [execTripCountReset, if_pos (by simp [hst, hrun])]
    rfl
end

section
/-! The reset outputs (R424, R425). -/

namespace Sys2Proof.Machine

/-- RSTOUT_RELEASE where the stretch has run (R424). -/
theorem rstoutRelease_due {s : State} {k x : Nat} (hk : k < 4) (hl : s.live = true) (hset : s.jobs.rails.rst.getD k true = true)
    (hfor : s.jobs.rails.rstFor.getD k none = some x) (hdue : par s gSEQ (9 + k) SEQ.STRETCH ≤ x) :
    exec (.rstoutRelease k) s = .next (s.modSeq fun q => { q with rst := q.rst.set k false }) := by
  change execRstoutRelease k s = _
  simp only [execRstoutRelease, hl, hk, hset, hfor, hdue, decide_true, Bool.and_self, if_true]

end Sys2Proof.Machine

open Sys2Proof Sys2Proof.Machine

/-- Settles O38: the released output is one entry of the list of four. -/
theorem resetOutputRows : Obligations.ResetOutputRows := by
  refine ⟨fun s k x hk hl hlen hset hfor hdue => ?release, fun s hp => ?pulse⟩
  case release =>
    refine ⟨_, rstoutRelease_due hk hl hset hfor hdue, ?_, fun m hm => ?_, rfl⟩
    · change (s.jobs.rails.rst.set k false).getD k true = false
      simp [List.getD_eq_getElem?_getD, hlen, hk]
    · change (s.jobs.rails.rst.set k false).getD m true = _
      simp [List.getD_eq_getElem?_getD, Ne.symm hm]
  case pulse =>
    change execSafePulseEnd s = _
    rw [execSafePulseEnd, if_pos hp]
    rfl
end

section
/-! The running-rail fault (R417, R419): the trip in its parts. -/

namespace Sys2Proof.Machine

/-! SEQ[8].TRIP_HALT. -/

/-- The row of TRIP_HALT in the parameter map. -/
def tripHaltRow : ParamDef := ⟨8, 8, 2, 1, .staged, false, [(0, 1)], .const 0, .free, "TRIP_HALT"⟩

theorem paramAt_tripHalt : ∀ big, paramAt big (pid gSEQ 8 SEQ.TRIP_HALT) = some tripHaltRow := by decide +kernel

/-- TRIP_HALT hangs on its own word alone. -/
theorem par_tripHalt_congr {s t : State}
    (hv : assocGet t.params.vals (pid gSEQ 8 SEQ.TRIP_HALT) = assocGet s.params.vals (pid gSEQ 8 SEQ.TRIP_HALT)) :
    par t gSEQ 8 SEQ.TRIP_HALT = par s gSEQ 8 SEQ.TRIP_HALT := by
  have hid : firstId tripHaltRow (pid gSEQ 8 SEQ.TRIP_HALT) = pid gSEQ 8 SEQ.TRIP_HALT := by decide
  have hwords : tripHaltRow.words = 1 := rfl
  simp only [par, paramAt_tripHalt, hid, valBits, hwords, listed, hv]
  rfl

/-- The requests of a pack are other words than TRIP_HALT. -/
theorem par_tripHalt_request (s : State) (p v : Nat) {k : Nat} (hk : k = CHG.TOPOFF_REQ ∨ k = CHG.CAPTEST_REQ) :
    par (s.setPar gCHG p k v) gSEQ 8 SEQ.TRIP_HALT = par s gSEQ 8 SEQ.TRIP_HALT := by
  refine par_tripHalt_congr (assocGet_assocSet_ne _ _ fun h => ?_)
  rcases hk with rfl | rfl <;> simp only [pid, gSEQ, gCHG, SEQ.TRIP_HALT, CHG.TOPOFF_REQ, CHG.CAPTEST_REQ] at h <;> omega

theorem par_tripHalt_ite (s : State) (c : Prop) [Decidable c] (p v : Nat) :
    par (if c then s.setPar gCHG p CHG.TOPOFF_REQ v else s) gSEQ 8 SEQ.TRIP_HALT = par s gSEQ 8 SEQ.TRIP_HALT := by
  split
  · exact par_tripHalt_request s p v (.inl rfl)
  · rfl

theorem par_tripHalt_testEnd (p code : Nat) (s : State) :
    par (testEnd p code s) gSEQ 8 SEQ.TRIP_HALT = par s gSEQ 8 SEQ.TRIP_HALT := by
  unfold testEnd
  split
  · rfl
  · exact par_tripHalt_request (s.modPack p fun k => { k with test := none, testWant := false }) p 0 (.inr rfl)

theorem par_tripHalt_packEnter (p : Nat) (ph : PkPh) (cause : Option Nat) (s : State) :
    par (packEnter p ph cause s) gSEQ 8 SEQ.TRIP_HALT = par s gSEQ 8 SEQ.TRIP_HALT := by
  unfold packEnter
  extract_lets k c s1 s2 s3
  have h2 : par s2 gSEQ 8 SEQ.TRIP_HALT = par s1 gSEQ 8 SEQ.TRIP_HALT := par_tripHalt_ite s1 _ p 0
  have h3 : par s3 gSEQ 8 SEQ.TRIP_HALT = par s2 gSEQ 8 SEQ.TRIP_HALT := by
    unfold s3
    split
    · exact par_tripHalt_testEnd p 2 s2
    · rfl
  have h : par s3 gSEQ 8 SEQ.TRIP_HALT = par s gSEQ 8 SEQ.TRIP_HALT := h3.trans h2
  split
  · exact h
  · exact h

/-! What the stop of the lanes and the fall of ports and packs leave alone. -/

/-- From s to t the rails with the sequencer, the outputs, the controller and TRIP_HALT stand. -/
structure TripStands (s t : State) : Prop where
  seq : t.jobs.rails = s.jobs.rails
  outs : t.outs = s.outs
  ctl : t.ctl = s.ctl
  halts : par t gSEQ 8 SEQ.TRIP_HALT = par s gSEQ 8 SEQ.TRIP_HALT

theorem TripStands.refl (s : State) : TripStands s s := ⟨rfl, rfl, rfl, rfl⟩

theorem TripStands.trans {s t u : State} (h : TripStands s t) (g : TripStands t u) : TripStands s u :=
  ⟨g.seq.trans h.seq, g.outs.trans h.outs, g.ctl.trans h.ctl, g.halts.trans h.halts⟩

theorem LaneStep.tripStands {s t : State} (h : LaneStep s t) : TripStands s t :=
  ⟨by rw [h.eq], by rw [h.eq], by rw [h.eq], par_tripHalt_congr (by rw [h.eq])⟩

theorem PortStep.tripStands {s t : State} (h : PortStep s t) (hp : par t gSEQ 8 SEQ.TRIP_HALT = par s gSEQ 8 SEQ.TRIP_HALT) :
    TripStands s t :=
  ⟨by rw [h.eq], by rw [h.eq], by rw [h.eq], hp⟩

theorem LaneStep.raiseRec (s : State) (c a : Nat) : LaneStep s (s.raiseRec c a) := by
  obtain ⟨r, e⟩ := s.raiseRec_eq c a
  rw [e]
  exact (LaneStep.raise s c a).trans ⟨rfl, .of_host rfl⟩

theorem LaneStep.stopAll (kind : Nat) (s : State) : LaneStep s (stopAll kind s) := by
  refine LaneStep.trans (foldl_rel .refl .trans _ _ (fun z n => ?_) s) (foldl_rel .refl .trans _ _ .phaseLow _)
  split
  · exact (LaneStep.stopLane n 2 z).trans (.raiseRec _ _ _)
  · exact .refl z

theorem PortStep.srcTrip (n : Nat) (s : State) : PortStep s (srcTrip n s) := by
  unfold Machine.srcTrip
  split
  · exact .refl s
  · exact (PortStep.srcEnter n _ _ s).trans ⟨rfl, .of_host rfl⟩

/-- A port that enters a state writes no parameter. -/
theorem srcEnter_params (n : Nat) (st : SrcSt) (cause : Option Nat) (s : State) : (srcEnter n st cause s).params = s.params := by
  unfold srcEnter
  dsimp only
  split <;> rfl

theorem TripStands.srcTrip (n : Nat) (s : State) : TripStands s (srcTrip n s) := by
  refine (PortStep.srcTrip n s).tripStands ?_
  unfold Machine.srcTrip
  split
  · rfl
  · exact par_tripHalt_congr (congrArg (fun q : Params => assocGet q.vals _) (srcEnter_params n .off (some 8) s))

theorem TripStands.packDrop (p cause : Nat) (s : State) : TripStands s (packDrop p cause s) := by
  refine (PortStep.packDrop p cause s).tripStands ?_
  unfold Machine.packDrop
  dsimp only
  split
  · rfl
  · exact par_tripHalt_packEnter p .qualify (some cause) s

/-- Once the switches are open, ports and packs follow (R295, R574). -/
theorem TripStands.switchesTrip (s : State) : TripStands (switchesOpen s) (switchesTrip s) :=
  TripStands.trans (foldl_rel .refl .trans _ _ (fun z n => TripStands.srcTrip n z) _)
    (foldl_rel .refl .trans _ _ (fun z p => TripStands.packDrop p 9 z) _)

/-! The trip. -/

/-- A rail that a trip takes down (R417). -/
def Rail.dropped (r : Rail) : Rail := if r.st = .off then r else { r with st := .falling, en := false, swFor := 0 }

theorem Rail.dropped_st (r : Rail) : r.dropped.st = .off ∨ r.dropped.st = .falling := by
  unfold dropped
  split
  · exact .inl ‹_›
  · exact .inr rfl

/-- The outputs of a trip: every SEQENn, SWINn and SWPPx and SWLINK low (R417). -/
def Outs.tripped (o : Outs) : Outs := { o with seqen := rep 8 false, swin := rep 4 false, swpp := rep 4 false, swlink := false }

/-- The sequencer of a trip, with its rails and reset outputs aside (R417, R419). -/
def Rails.counted (q : Rails) : Rails :=
  { q with
    k := q.k + 1, trips := incSat 32 q.trips, tripFor := 0, offFor := 0, lowFor := 0, minOff := false, group := none, next := none
    tripOpen := true }

/-- The lanes stopped, and then the rails taken down (R417). -/
def tripDown (s : State) : State :=
  (List.range 8).foldl (fun s n => if (s.rail n).st = .off then s else setSeqen n false (s.modRail n fun r => { r with st := .falling }))
    (stopAll 4 s)

/-- Then the outputs low, and what hangs on them (R417, R424). -/
def tripOpens (s : State) : State := rstStep (switchesTrip (s.modOuts fun o => { o with seqen := rep 8 false }))

/-- Then the trip counted and told, before it decides HALT (R417). -/
def tripTold (lost : List Nat) (cause : Nat) (s : State) : State :=
  let z := s.modSeq Rails.counted
  seqEnter .tripped (z.raiseRec Ev.RAIL_TRIP (z.jobs.rails.k % 256 * 2 ^ 24 + maskOf lost * 2 ^ 16 + lost.headD 0 * 2 ^ 8 + cause))

/-- A trip is these parts one after the other, and the decision of HALT (R454). -/
theorem railTrip_eq (lost : List Nat) (cause : Nat) (s : State) :
    railTrip lost cause s = if par (tripTold lost cause (tripOpens (tripDown s))) gSEQ 8 SEQ.TRIP_HALT = 1
      then wantHalt 2 (tripTold lost cause (tripOpens (tripDown s))) else tripTold lost cause (tripOpens (tripDown s)) := rfl

theorem tripDown_moves (s : State) : RailsMoved Rail.dropped (List.range 8) (stopAll 4 s) (tripDown s) := by
  refine .foldl (fun z n => ?_) List.nodup_range _
  split
  case isTrue h => exact .still (if_pos h)
  case isFalse h => exact .setSeqen (by rw [Rail.dropped, if_neg h])

theorem tripDown_rail {s : State} (hlen : s.jobs.rails.rails.length = 8) (m : Nat) :
    ((tripDown s).rail m).st = .off ∨ ((tripDown s).rail m).st = .falling := by
  have h := tripDown_moves s
  have hlen' : (stopAll 4 s).jobs.rails.rails.length = 8 := by rw [(LaneStep.stopAll 4 s).tripStands.seq, hlen]
  by_cases hm : m < 8
  · rw [h.hit m (List.mem_range.mpr hm) (hlen'.symm ▸ hm)]
    exact Rail.dropped_st _
  · exact .inl (by_contra fun hon => hm (hlen' ▸ h.len ▸ rail_in_list hon))

/-- The rails down, nothing else has moved that a trip moves. -/
theorem tripDown_spec (s : State) :
    (tripDown s).jobs.rails = { s.jobs.rails with rails := (tripDown s).jobs.rails.rails } ∧ (tripDown s).outs = s.outs ∧
      (tripDown s).ctl = s.ctl ∧ par (tripDown s) gSEQ 8 SEQ.TRIP_HALT = par s gSEQ 8 SEQ.TRIP_HALT := by
  have stop := (LaneStep.stopAll 4 s).tripStands
  have down := tripDown_moves s
  exact ⟨down.seq.trans (by rw [stop.seq]), down.outs.trans stop.outs, down.ctl.trans stop.ctl,
    (par_tripHalt_congr (by rw [down.params])).trans stop.halts⟩

/-- The outputs low and the switches open, ports, packs and reset outputs follow (R295, R424, R574). -/
theorem tripOpens_spec (s : State) :
    (tripOpens s).jobs.rails =
        { s.jobs.rails with rst := (tripOpens s).jobs.rails.rst, rstFor := (tripOpens s).jobs.rails.rstFor } ∧
      (tripOpens s).outs = s.outs.tripped ∧ (tripOpens s).ctl = s.ctl ∧
      par (tripOpens s) gSEQ 8 SEQ.TRIP_HALT = par s gSEQ 8 SEQ.TRIP_HALT := by
  unfold tripOpens
  obtain ⟨hseq, houts, hctl, hhalts⟩ := TripStands.switchesTrip (s.modOuts fun o => { o with seqen := rep 8 false })
  generalize switchesTrip (s.modOuts fun o => { o with seqen := rep 8 false }) = y at hseq houts hctl hhalts ⊢
  have hr := rstStep_eq y
  generalize rstStep y = t at hr ⊢
  have e : t.jobs.rails = { y.jobs.rails with rst := t.jobs.rails.rst, rstFor := t.jobs.rails.rstFor } :=
    congrArg (fun z : State => z.jobs.rails) hr
  rw [hseq] at e
  exact ⟨e, (congrArg State.outs hr).trans houts, (congrArg State.ctl hr).trans hctl,
    (par_tripHalt_congr (congrArg (fun z : State => assocGet z.params.vals _) hr)).trans hhalts⟩

/-- A trip that is told: nothing but the count and the state of the sequencer has followed. -/
theorem tripTold_spec (lost : List Nat) (cause : Nat) (s : State) :
    (tripTold lost cause s).jobs.rails = { s.jobs.rails.counted with st := .tripped, runFor := 0 } ∧
      (tripTold lost cause s).outs = s.outs ∧ (tripTold lost cause s).ctl = s.ctl ∧
      par (tripTold lost cause s) gSEQ 8 SEQ.TRIP_HALT = par s gSEQ 8 SEQ.TRIP_HALT := by
  unfold tripTold
  extract_lets z
  generalize z.jobs.rails.k % 256 * 2 ^ 24 + maskOf lost * 2 ^ 16 + lost.headD 0 * 2 ^ 8 + cause = a
  obtain ⟨tseq, touts, tctl, thalts⟩ := (LaneStep.raiseRec z Ev.RAIL_TRIP a).tripStands
  exact ⟨by rw [seqEnter_seq, tseq]; rfl, touts, tctl, thalts⟩

/-- The decision of HALT, where one is asked for, is one of the controller alone (R454). -/
theorem wantHalt_ite (c : Prop) [Decidable c] (cause : Nat) (s : State) : (if c then wantHalt cause s else s) = { s with
    ctl := if c ∧ s.ctl.state ≠ .halt then { s.ctl with wantHalt := some (s.ctl.wantHalt.getD cause) } else s.ctl } := by
  by_cases h1 : c
  · by_cases h2 : s.ctl.state = .halt
    · simp [wantHalt, h1, h2]
    · simp only [wantHalt, h1, h2, ne_eq, not_false_eq_true, and_self, if_true, if_false]
      rfl
  · simp [h1]

/-- What a trip makes of the rails, the sequencer, the outputs and the controller (R417, R419, R454). -/
theorem railTrip_spec (lost : List Nat) (cause : Nat) {s : State} (hlen : s.jobs.rails.rails.length = 8) :
    (∀ m, ((railTrip lost cause s).rail m).st = .off ∨ ((railTrip lost cause s).rail m).st = .falling) ∧
    (∃ r rst rstFor, (railTrip lost cause s).jobs.rails =
      { s.jobs.rails.counted with st := .tripped, runFor := 0, rails := r, rst := rst, rstFor := rstFor }) ∧
    (railTrip lost cause s).outs = s.outs.tripped ∧
    (railTrip lost cause s).ctl = if par s gSEQ 8 SEQ.TRIP_HALT = 1 ∧ s.ctl.state ≠ .halt then
      { s.ctl with wantHalt := some (s.ctl.wantHalt.getD 2) } else s.ctl := by
  have hrail := tripDown_rail hlen
  obtain ⟨dseq, douts, dctl, dhalts⟩ := tripDown_spec s
  obtain ⟨oseq, oouts, octl, ohalts⟩ := tripOpens_spec (tripDown s)
  obtain ⟨tseq, touts, tctl, thalts⟩ := tripTold_spec lost cause (tripOpens (tripDown s))
  rw [railTrip_eq]
  generalize tripTold lost cause (tripOpens (tripDown s)) = t at tseq touts tctl thalts ⊢
  generalize tripOpens (tripDown s) = o at oseq oouts octl ohalts tseq touts tctl thalts
  generalize tripDown s = d at hrail dseq douts dctl dhalts oseq oouts octl ohalts
  have hrails : t.jobs.rails.rails = d.jobs.rails.rails := by rw [tseq, oseq]; rfl
  rw [wantHalt_ite, thalts, ohalts, dhalts, tctl, octl, dctl]
  refine ⟨fun m => ?_, ⟨d.jobs.rails.rails, o.jobs.rails.rst, o.jobs.rails.rstFor, ?_⟩, (touts.trans oouts).trans (by rw [douts]), rfl⟩
  · have h := hrail m
    rw [← rail_of_rails hrails m] at h
    exact h
  · refine tseq.trans ?_
    rw [oseq, dseq]
    rfl

/-! The debounced change that trips. -/

/-- A rail whose debounced signal is lost (R411). -/
def Rail.lost (r : Rail) : Rail := { r with good := false, stable := 0 }

/-- RAIL_DEBOUNCED_CHANGE where a running rail loses its signal under an active sequencer: a trip, with every other rail that loses it
(R417). -/
theorem railDebouncedChange_trips {s : State} {n : Nat} (hn : n < 8) (hst : (s.rail n).st = .running) (hraw : (s.rail n).raw = false)
    (hgood : (s.rail n).good = true) (hdue : par s gSEQ n SEQ.DEBOUNCE ≤ (s.rail n).rawRun)
    (harmed : s.jobs.rails.st = .powerUp ∨ s.jobs.rails.st = .running) :
    ∃ lost cause, lost.Nodup ∧
      exec (.railDebouncedChange n) s = .next (railTrip lost cause (lost.foldl (fun s k => s.modRail k Rail.lost) s)) := by
  change ∃ lost cause, _ ∧ execRailDebouncedChange n s = _
  unfold execRailDebouncedChange
  extract_lets due lost armed
  have hd : due n = true := by simp [due, hraw, hgood, hdue]
  have hl : lost.contains n = true := by simp [lost, mem_those, hn, hd, hraw, hst]
  have ha : armed = true := by simpa [armed] using harmed
  refine ⟨lost, if (s.rail (lost.headD 0)).ov then 2 else 1, nodup_those _ _, ?_⟩
  rw [if_neg (by simp [hn, hd]), if_pos (by rw [ha, hl]; rfl)]
  rfl

end Sys2Proof.Machine

open Sys2Proof Sys2Proof.Machine

/-- Settles O36: the command comes to a trip (railDebouncedChange_trips), and railTrip_spec says what a trip makes of the state. -/
theorem runningRailTrip : Obligations.RunningRailTrip := by
  intro s n hn hlen hst hraw hgood hdue harmed
  obtain ⟨lost, cause, hlost, hexec⟩ := railDebouncedChange_trips hn hst hraw hgood hdue harmed
  have moved : RailsMoved Rail.lost lost s (lost.foldl (fun s k => s.modRail k Rail.lost) s) := .foldl (fun z k => .modRail _ k z) hlost s
  generalize lost.foldl (fun s k => s.modRail k Rail.lost) s = z at hexec moved
  obtain ⟨hrail, ⟨r, rst, rstFor, hseq⟩, houts, hctl⟩ := railTrip_spec lost cause (moved.len.trans hlen)
  rw [moved.seq] at hseq
  rw [moved.outs] at houts
  rw [moved.ctl, par_tripHalt_congr (s := s) (by rw [moved.params])] at hctl
  generalize railTrip lost cause z = t at hexec hrail hseq houts hctl
  refine ⟨t, hexec, by rw [hseq], hrail, by rw [houts]; rfl, by rw [houts]; rfl, by rw [houts]; rfl, by rw [houts]; rfl,
    by rw [hseq]; rfl, by rw [hseq]; rfl, by rw [hseq]; rfl, by rw [hseq]; rfl, ?_⟩
  rw [hctl]
  split <;> rfl
end
